-- ==== Sys2Proof/Word.lean ====
section
/-! DEFINITION. The byte type and the plainest arithmetic of the model: bit tests on naturals, byte strings with the most
significant byte first (R9), two's complement (R12), rounding and saturation. -/

namespace Sys2Proof

/-- One byte as it travels on a carrier or stands in flash. -/
abbrev Byte := BitVec 8

/-- Bit i of a bitmap, bits numbered from 0 at the least significant (R10). -/
def bitOf (v i : Nat) : Bool := v.testBit i

/-- A bitmap with bit i set or cleared. -/
def setBitTo (v i : Nat) (on : Bool) : Nat :=
  if v.testBit i = on then v else v ^^^ 2 ^ i

/-- 1 for true, 0 for false (BOOL of R37). -/
def boolVal (x : Bool) : Int := if x then 1 else 0

/-- 1 for true, 0 for false, as a natural number. -/
def boolNat (x : Bool) : Nat := if x then 1 else 0

/-- The n-byte encoding of v, most significant byte first (R9); bits above 8n are dropped. -/
def bytesOf : Nat → Nat → List Byte
  | 0, _ => []
  | n + 1, v => BitVec.ofNat 8 (v / 256 ^ n) :: bytesOf n v

/-- Two's complement encoding of an integer in n bytes (R12). -/
def bytesOfInt (n : Nat) (v : Int) : List Byte := bytesOf n (v % (256 ^ n : Nat)).toNat

/-- The unsigned value of a byte string, most significant byte first (R9). -/
def natOf (l : List Byte) : Nat := l.foldl (fun a x => a * 256 + x.toNat) 0

/-- The two's complement value of a byte string (R12). -/
def intOf (l : List Byte) : Int :=
  let n := natOf l
  if 2 * n < 256 ^ l.length then (n : Int) else (n : Int) - (256 ^ l.length : Nat)

/-- Every value brought into lo..hi: saturation at the limits of a field (R13). -/
def clampInt (lo hi v : Int) : Int := if v < lo then lo else if hi < v then hi else v

/-- Division rounded to nearest, halves away from zero. Choices: log 8 (DESIGN CHOICE, unsafe). -/
def roundDiv (a : Int) (d : Nat) : Int :=
  if 0 ≤ a then (2 * a + d) / (2 * d : Nat) else -((2 * (-a) + d) / (2 * d : Nat))

/-- Division rounded to nearest, halves upward (R71). -/
def roundHalfUp (a : Int) (d : Nat) : Int := (2 * a + d) / (2 * d : Nat)

/-- Ceiling division of naturals. -/
def ceilDiv (a d : Nat) : Nat := (a + d - 1) / d

/-- Least element of a list of integers, or the default of an empty list. -/
def leastOf (d : Int) (l : List Int) : Int := l.foldl min (l.headD d)

/-- Greatest element of a list of integers, or the default of an empty list. -/
def mostOf (d : Int) (l : List Int) : Int := l.foldl max (l.headD d)

/-- Sum of a list of integers. -/
def sumOf (l : List Int) : Int := l.foldl (· + ·) 0

/-- Mean of a list of integers, rounded; 0 of an empty list. -/
def meanOf (l : List Int) : Int := if l.isEmpty then 0 else roundDiv (sumOf l) l.length

/-- Position i of a list replaced; a position outside leaves the list as it is. -/
def setAt {α : Type} (l : List α) (i : Nat) (v : α) : List α := l.set i v

/-- Position i of a list rewritten by f. -/
def editAt {α : Type} (l : List α) (i : Nat) (f : α → α) : List α :=
  match l[i]? with
  | some v => l.set i (f v)
  | none => l

/-- The chain-time modulus of R114 (48-bit microseconds). -/
abbrev t48 : Nat := 2 ^ 48

/-- Chain-time difference a − b in microseconds, taken modulo 2^48 as a signed value (R114). -/
def chainDiff (a b : Nat) : Int :=
  let d := ((a : Int) - b) % (t48 : Int)
  if d < 2 ^ 47 then d else d - (t48 : Int)

/-- Has chain time now reached the instant b (R114)? -/
def reached (now b : Nat) : Bool := decide (0 ≤ chainDiff now b)

end Sys2Proof
end

