-- ==== Sys2Proof/Types.lean ====
section
/-! DEFINITION. The small types that commands carry as operands and State shares with them: ports, carriers, sources of a wake,
pulse and stream classes. -/

namespace Sys2Proof

/-- The two chain ports (R17): DL toward position − 1, DU toward position + 1. -/
inductive Port where
  | dl | du
  deriving DecidableEq, Repr

/-- The port on the other side of the node. -/
def Port.other : Port → Port
  | .dl => .du
  | .du => .dl

/-- Host carriers of a head (R351). -/
inductive Carrier where
  | spi | can
  deriving DecidableEq, Repr

/-- Who asks for a dictionary access (R51): the head over the chain, or one host carrier of the head. -/
inductive Requester where
  | chain | spi | can
  deriving DecidableEq, Repr

/-- The requester that a host carrier is at its own head. -/
def Carrier.requester : Carrier → Requester
  | .spi => .spi
  | .can => .can

/-- What a wake event came from (R81, R92, R96). -/
inductive WakeSource where
  | toneDl | toneDu | hostActivity
  deriving DecidableEq, Repr

/-- Rails that the Flint unit watches, with the codes of 0x85 (R377). -/
inductive Rail where
  | vin5 | vdda | vddd
  deriving DecidableEq, Repr

/-- Code of a rail in the data of 0x85 VinLow (R377). -/
def Rail.code : Rail → Nat
  | .vin5 => 1
  | .vdda => 2
  | .vddd => 3

/-- What Bedrock's retained latches hold (R93, R100, R104, R212, R263, R425): latched fault bits with their registrations, the first-fault record,
SafeHold, the crossing recorded, the supply record, the thermal record, and per channel BalanceRemoved, the session and the state of charge. -/
inductive Latch where
  | faultBits | firstFault | safeHold | crossing | supplyRecord | thermalRecord
  | removed (channel : Fin 32)
  | session (channel : Fin 32)
  | charge (channel : Fin 32)
  deriving DecidableEq, Repr

/-- Stream classes that a node's own frames belong to, in StreamSchedule order, then KEEPER (R320, R332). -/
inductive StreamClass where
  | volts | snap | temps | imped | status | keeper
  deriving DecidableEq, Repr

/-- Classes of a held state (R280); error is a pulse error. -/
inductive PulseClass where
  | volts | snap | tone | temps | imped | status | sync | alarm | error
  deriving DecidableEq, Repr

/-- Causes for which a port leaves UP (R292); of the eight code errors of CODE_ERRORS, those that no FRAME_RECEIVE has reported. -/
inductive DownCause where
  | lossOfSignal | stuck | codeErrors (unreported : Nat) | closed
  deriving DecidableEq, Repr

/-- How a frame that a port receives ends (R300, R305): no frame began, K29.7 came, or the frame broke off before it. -/
inductive FrameEnd where
  | noFrame | whole | cut
  deriving DecidableEq, Repr

end Sys2Proof
end

