-- ==== Sys2Proof/Syntax.lean ====
section
/-! DEFINITION. The commands of the block: one constructor per row of the spec's table of operations and events. Operands carry what
comes from outside the package: instants (chain time in us), readings, bytes of frames and transactions. Channels are
numbered from 0 in Lean (channel n of the spec is n − 1 here). -/

namespace Sys2Proof

/-- What boot finds when it reads flash and the retained latches (R438, R104): whether each factory copy passes, addresses of the
words corrected, addresses of uncorrectable flash words, journal entries lost, and the retained latches lost. -/
structure BootReport where
  factoryA : Bool
  factoryB : Bool
  corrected : List Nat
  badWords : List Nat
  lostEntries : List Nat
  lostLatches : List Latch
  deriving DecidableEq, Repr

/-- What the read-back of a record or of a summary bank finds (R438, R440): whether it verifies, addresses of the words corrected, and addresses of
uncorrectable words. -/
structure ReadBack where
  verified : Bool
  corrected : List Nat
  bad : List Nat
  deriving DecidableEq, Repr

/-- Does a read-back verify: no word of it is uncorrectable, and its Check matches (R440, R441)? -/
def ReadBack.passes (r : ReadBack) : Bool := r.verified && r.bad.isEmpty

/-- When a governor tick ran (R225). -/
inductive TickTiming where
  | onTime | overran | skipped
  deriving DecidableEq, Repr

/-- The commands. -/
inductive Instr where
  -- supplies, power states and start-up (R74–R105)
  | porRelease
  | porAssert
  | vstkRangeCheck (decivolts : Nat)
  | vinLow
  | supplyFail
  | railWindowFault (rail : Rail)
  | pwrEnComparison (level : Bool)
  | ship
  | sleep
  | standby
  | measure (driversAck : Nat)
  | full (driversAck : Nat)
  | reset
  | wakeChain
  | transitionComplete
  | commLoss (t : Nat)
  | wakeEvent (src : WakeSource) (slept : Nat)
  | extendedWakeEvent (src : WakeSource) (slept : Nat)
  | deferredWakeStart (slept : Nat)
  | supplyAttemptTimeout
  | vin5Good
  | coreResetRelease (strapHigh : Bool) (stackMv : Int)
  | engineBootComplete (report : BootReport) (t : Nat)
  | periodicCheck (cells : List Int) (therm : List Int) (lanes : List Int) (bedTime : Nat)
  | crossingConfirmation (cells : List Int) (therm : List Int) (bedTime : Nat)
  | sleepBalancePhase (odd : Option Bool) (ms : Nat)
  | sleepBalanceSecond (lanes : List Int)
  | sleepPlanRefresh (t : Nat)
  | thermalShutdown
  | shutdownTemperatureCheck (lanes : List Int) (slept : Nat)
  | preShutdown
  | preShutdownEnd (t : Nat)
  | laneThermometerInterval (t : Nat) (lanes : List Int)
  | housekeepingRound (t : Nat) (slices : List Int)
  | throttleEvaluation (t : Nat)
  -- clock islands and chain time (R106–R124)
  | pllReferenceSwitch (port : Port)
  | symbolLockLoss (port : Port)
  | clockMonitorGate (clock : Nat) (count : Nat)
  | faultRcCheck (count : Nat)
  | syncSend (t : Nat)
  | sync (t : Nat) (stampPs : Nat)
  | syncMissing (t : Nat)
  | slewStep
  | chainReferenceSend (t : Nat)
  | chainReference (port : Port) (split : Bool) (census : Nat) (nextSync : Nat)
  | chainTimeWrite (data : List Byte)
  -- lanes (R125–R164)
  | referenceCompare (conversion : Nat × List Int)
  | correctionUpdate (lane : Fin 37) (gA gB oB : Int) (skew : Option Int) (badA badB : Bool) (meanDiff : Int)
  | laneBlock (ch : Fin 32) (start : Nat) (own shadow : List Int)
  | cellLimitRefresh
  | laneAveragingChange (t : Nat)
  | shadowFrame (t : Nat) (lane shadow test subB : List Int) (offset gain : Int)
  | currentLaneCompare (start stop : Nat)
  | currentSample (t : Nat) (lanes : List Int × List Int) (beyond : Bool)
  | mainsTrackerUpdate (t : Nat) (amplitude : Nat) (milliHz : Nat)
  | auxSlot (t : Nat) (lane : Fin 2) (settling codes : List Int) (level : Bool)
  -- windows, captures, current (R165–R203)
  | windowBoundary (t : Nat)
  | windowPublish (t : Nat)
  | keeperRecordMissing (t : Nat)
  | windowModeWrite (ix sub : Nat) (data : List Byte)
  | snap (t : Nat) (stampPs : Nat)
  | captureStart (t seq : Nat) (cells : List (List Int))
  | capturePublish (t : Nat)
  | instantTrigger (t : Nat)
  | auxOutputWrite (data : List Byte)
  | auxFunctionWrite (sub : Nat) (data : List Byte)
  | chargeCounterPreset (data : List Byte)
  | currentKeeperWrite (data : List Byte)
  -- balancing (R204–R236)
  | governorTick (t : Nat) (timing : TickTiming) (meter : List Nat) (delays : List Nat)
  | pathLearn
  | bleedConfirmation (ch : Fin 32) (dropUv : Int) (meter : Nat)
  | freshnessTimeout (ch : Fin 32)
  | interlockRefusal (ch : Fin 32)
  | sessionTimerSecond (ch : Fin 32)
  | balanceTargetWrite (sub : Nat) (data : List Byte)
  | sessionTimerWrite (sub : Nat) (data : List Byte)
  | balanceEnableWrite (data : List Byte)
  | stickyFlagClear (ix sub : Nat) (data : List Byte)
  | bleedResistorWrite (data : List Byte)
  | thrPulseEdge (t : Nat) (period : Nat) (high : Nat)
  | throttleInputLost
  -- impedance and cell state (R237–R271)
  | analysisIntervalEnd (entry : Fin 4) (t : Nat)
  | impedancePublish (entry : Fin 4)
  | ambientPairingTimeout (entry : Fin 4)
  | activeSequenceStart (t : Nat)
  | excitationEdge (t : Nat)
  | activeIntervalDiscard
  | autobalancePeriod (t : Nat)
  | socTableWrite (data : List Byte)
  | tempCurveWrite (data : List Byte)
  | analysisSetRead (position : Nat) (frequencies sources : List Nat) (integration : Nat) (step : Int)
  -- link, line level (R272–R296)
  | volts (t : Nat)
  | temps (t : Nat)
  | imped (t : Nat)
  | status (t : Nat)
  | alarm (port : Port) (t : Nat)
  | pulseRepeat (port : Port) (ui : Nat)
  | wakeTone (port : Port) (extended : Bool) (t : Nat) (slept : Nat)
  | portSignalDetect (port : Port)
  | portTrained (port : Port) (t : Nat)
  | trainingFail (port : Port)
  | portDown (port : Port) (cause : DownCause) (t : Nat)
  | ringModeWrite (data : List Byte)
  -- link, protocol (R297–R349)
  | frameReceive (port : Port) (errors : Nat × Nat) (frame : FrameEnd × List Byte)
  | frameForward (bytes : List Byte)
  | frameTransmit (t : Nat)
  | linkCrcRate
  | censusRoundStart (t : Nat)
  | censusRun (data : List Byte)
  | census (port : Port) (number : Nat) (payload : List Byte)
  | censusEcho (number : Nat) (ring : Bool)
  | censusEchoTimeout
  | censusReply (number : Nat) (payload : List Byte)
  | censusPassResult (number : Nat) (payload : List Byte) (t : Nat)
  | censusPassTimeout (t : Nat)
  | censusRetry (t : Nat)
  | commit (number top flags : Nat) (t : Nat)
  | probeSweep (port : Port) (sweeps count : Nat)
  | probe (port : Port) (t : Nat)
  | probeSweepsComplete (sweeps : List (List Nat)) (t : Nat)
  | delays (split : Bool) (table : List Nat)
  | delayRefresh (t : Nat)
  | chainConfig (image : List Byte)
  | chainAggregate (payload : List Byte)
  | keeperForward (header : Nat) (payload : List Byte) (t : Nat)
  | keeperRecord (payload : List Byte) (t : Nat)
  | read (seq : Nat) (ix sub : Nat)
  | write (seq : Nat) (ix sub : Nat) (data : List Byte)
  | segInitRead (seq : Nat) (ix sub : Nat) (length : Nat)
  | segInitWrite (seq : Nat) (ix sub : Nat) (length : Nat)
  | segRead (seq ix sub : Nat) (segment : Nat)
  | segWrite (seq ix sub : Nat) (segment : Nat) (data : List Byte)
  | segEnd (seq ix sub : Nat) (total : Nat)
  | checkConfig (seq : Nat) (image : List Byte)
  | segmentTimeout (requester : Requester)
  | response (position seq : Nat) (payload : List Byte)
  | commandTimeout (position : Nat)
  | headConfigChecksDone
  | scheduledTrigger (cls : StreamClass) (t : Nat)
  | streamResponseForm (cls : StreamClass)
  | streamFrame (header : Nat) (payload : List Byte)
  | trainClose (cls : StreamClass) (t : Nat)
  | splitEntry (below : Nat) (t : Nat)
  | splitEnd (t : Nat)
  -- host interfaces (R350–R375)
  | spiCommand (bytes : List Byte)
  | spiRead (clocked : Nat)
  | canRequest (bytes : List Byte)
  | novezRead (carrier : Carrier) (position ix sub : Nat)
  | novezWrite (carrier : Carrier) (position ix sub : Nat) (data : List Byte)
  | novezSegInitRead (carrier : Carrier) (position ix sub length : Nat)
  | novezSegInitWrite (carrier : Carrier) (position ix sub length : Nat)
  | novezSegRead (carrier : Carrier) (position ix sub segment : Nat)
  | novezSegWrite (carrier : Carrier) (position ix sub segment : Nat) (data : List Byte)
  | novezSegEnd (carrier : Carrier) (position ix sub total : Nat)
  | segmentRepeatKeepalive (carrier : Carrier)
  | trigger (carrier : Carrier) (cls : Nat)
  | readStream (carrier : Carrier) (position cls offset count : Nat)
  | readAttention (carrier : Carrier)
  | hostCrcRate
  | canAlarmFrame
  | canTrainStream (cls : StreamClass)
  | canBusOffRecovery
  | canConfigApply
  -- faults and diagnostics (R376–R411)
  | faultRegistration
  | captureFifoDrain (t : Nat)
  | acknowledgeSource (source : Nat)
  | acknowledgeAll
  | safeStateExit (t : Nat)
  | faultSeverityWrite (sub : Nat) (data : List Byte)
  | faultFlagsWrite (data : List Byte)
  | engineWatchdogExpiry (engine : Fin 8) (t : Nat)
  | engineRestart (engine : Fin 8) (dictionaryOk : Bool)
  | engineSelfTest (engine : Fin 8) (passed : Bool)
  | engineLoadMeasurement (percent : List Nat)
  | memoryError (memory : Nat) (address : Nat) (double : Bool)
  | memoryScrub (errors : List (Nat × Nat × Bool))
  | configSignatureCheck (corrupt : Option (Nat × Int))
  | fltReadback (level : Bool) (us : Nat)
  | openWireSlot (t : Nat) (index : Nat) (phaseA phaseB : List Int)
  | openWireRepeat (phaseA phaseB : List Int)
  | unlockArm
  | unlockConfirm
  | unlockClear (value : Nat)
  | unlockExpiry
  | dictionaryWrite (ix sub : Nat) (data : List Byte)
  -- journal, check units and non-volatile storage (R426–R445)
  | journalRead (requester : Requester) (length : Nat)
  | readCursorWrite (data : List Byte)
  | checkUnitWrite (ix : Nat) (data : List Byte)
  | save (data : List Byte)
  | nvmPageProgram
  | saveComplete (readBack : ReadBack)
  | restoreConfig
  | restoreAll
  | summaryWrite
  | summaryWriteComplete (readBack : ReadBack)
  | supplyAttemptRetry
  | railGood (rail : Rail)
  | vstkInRange
  | sectorEraseComplete
  | operatingHour
  | medianRsRead (values : List (Nat × List Nat))
  | ignoredFrame
  | canBusError (transmit : Bool)
  deriving DecidableEq, Repr

end Sys2Proof
end

