-- ==== Sys2Proof/Decode.lean ====
section
/-! DEFINITION. The words of the commands: the table gives none of its rows any bits, so no word spells a command. -/

namespace Sys2Proof

/-- The command a word of nbits bits spells: none, since no row of the table has bits. Choices: log 2 (DESIGN CHOICE, unsafe). -/
def decodeTableWord (_nbits _w : Nat) : Option Instr := none

end Sys2Proof
end

