-- ==== Sys2Proof/Machine/Crc.lean ====
section
/-! DEFINITION. The checks over bytes: CRC-32C of the check units and records (R436, R437, R439). The CRC of frames and of host
transactions stand beside their formats. -/

namespace Sys2Proof.Machine

/-- One bit step of the reflected CRC-32C (R437). -/
def crc32cBit (c : BitVec 32) : BitVec 32 :=
  if c.getLsbD 0 then (c >>> 1) ^^^ 0x82F63B78#32 else c >>> 1

/-- One byte of CRC-32C (R437). -/
def crc32cByte (c : BitVec 32) (x : Byte) : BitVec 32 :=
  crc32cBit (crc32cBit (crc32cBit (crc32cBit (crc32cBit (crc32cBit (crc32cBit (crc32cBit
    (c ^^^ x.setWidth 32))))))))

/-- The register of a check unit after a stream of bytes. -/
def crc32cFrom (c : BitVec 32) (l : List Byte) : BitVec 32 := l.foldl crc32cByte c

/-- CRC-32C with the final XOR (R435, R439). -/
def crc32c (l : List Byte) : Nat := (~~~ crc32cFrom 0xFFFFFFFF#32 l).toNat

/-- A check unit's raw register fed with bytes. -/
def crcFeed (reg : Nat) (l : List Byte) : Nat := (crc32cFrom (BitVec.ofNat 32 reg) l).toNat

end Sys2Proof.Machine
end

