-- ==== Sys2Proof/Config.lean ====
section
/-! DEFINITION. What the implementation fixes and the spec leaves open: the free values. Each is an opaque constant with no
body, applied to a counter of State or to the operands, so nothing can be proved of its value. -/

namespace Sys2Proof.Config

/-- A value the spec does not state: the first argument is the count of draws so far (Block.free), the second tells apart
the values open at the same count. Log row 6 names every place that takes one. -/
opaque freeValue : Nat → Nat → Int

/-- As freeValue, a natural number. -/
opaque freeNat : Nat → Nat → Nat

end Sys2Proof.Config
end

