-- ==== Sys2Proof/Machine/Block.lean ====
section
/-! DEFINITION. The state of one package, engine by engine, as plain data. Every scalar object of the dictionary stands in
Block.dict (one home per object); what stands here beside it is what the prose of the chapters gives the engines and islands. -/

namespace Sys2Proof.Machine

/-- Calibration of one cell lane in the factory record (R150, R151). -/
structure Cal where
  offset : Int
  gain : Int
  alpha : Int
  beta : Int
  deriving DecidableEq, Repr

/-- Factory seeds of one lane's correction terms and their change per °C (R133, R135): ppb, 1/65,536 code step, ps. -/
structure LaneSeed where
  gA : Int
  gB : Int
  oB : Int
  tau : Int
  perDegree : Int × Int × Int × Int
  deriving DecidableEq, Repr

/-- What is fused or programmed at test and never written again (R2, R43 class F, R58, R150, R438): the part's identity, its calibration
record, the seeds of the lanes' terms (R135), of the shadow lane's mapping to each cell lane (R159: offset in 1/65,536 step of y, gain in ppb)
and of the dither sequences of the two slices of each lane (R132). Choices: log 3 (DESIGN CHOICE, unsafe). -/
structure Fuses where
  variantX : Bool
  uid : Nat
  firmware : Nat
  cal : List Cal
  ron25 : List Nat
  narrowOffset : Int
  narrowGain : Int
  wideOffset : Int
  wideGain : Int
  auxOffset : Int
  auxGain : Int
  basalt25 : Nat
  basaltSlope : Int
  seeds : List LaneSeed
  mapSeeds : List (Int × Int)
  dither : List (Nat × Nat)
  deriving DecidableEq, Repr

/-- Power states (R72, R88); shutdown is thermal shutdown (R420). -/
inductive Mode where
  | off | ship | sleep | shutdown | standby | measure | full
  deriving DecidableEq, Repr

/-- Where a wake sequence or a RESET stands (R91, R93). -/
inductive Stage where
  | idle | awaitVin5 | retryWait | rails | booting
  deriving DecidableEq, Repr

/-- Power control (R75–R97). -/
structure Power where
  mode : Mode
  stage : Stage
  firstWake : Bool
  prior : Nat
  cause : Nat
  attempts : Nat
  slept : Nat
  pwrEn : Bool
  pwrEnMisses : Nat
  vin5Good : Bool
  supplyRecorded : Bool
  railsBad : List Rail
  deferred : Option Nat
  holdLiveAtReset : Bool
  wakeRequest : Bool
  commAt : Nat
  deriving DecidableEq, Repr

/-- One confirmed crossing (R100, R428): kind 1 OVER, 2 UNDER, 3 HOT, 4 COLD; channel as WakeRecord sub 4. -/
structure Crossing where
  kind : Nat
  channel : Nat
  value : Int
  deriving DecidableEq, Repr

/-- The Bedrock domain: its copies (R98), its crossings (R100), its sleep balancing (R102, R231, R232), and the sources with their data that its
scrub has met in this Sleep (R404). -/
structure Bedrock where
  period : Nat
  overMv : Int
  underMv : Int
  hotLimit : Int
  coldLimit : Int
  enable : Nat
  cellCount : Nat
  thermPins : List Nat
  bias : Nat
  nominal : Nat
  beta : Nat
  planned : List Nat
  estimate : List Nat
  conduction : List Nat
  floorMv : Nat
  balancing : Bool
  firstCrossings : List Crossing
  crossings : List Crossing
  lastTone : Option Nat
  flags : Nat
  scrubbed : List (Nat × Nat)
  deriving DecidableEq, Repr

/-- One journal entry before its encoding (R426, R427). -/
structure JEntry where
  number : Nat
  time : Nat
  source : Nat
  base : Nat
  eff : Nat
  count : Nat
  data : Nat
  sameCycle : Bool
  escalated : Bool
  burst : Bool
  start : Bool
  event : Bool
  epoch : Nat
  deriving DecidableEq, Repr

/-- One incident the journal knows (R430, R434). -/
structure Incident where
  number : Nat
  start : Nat
  time : Nat
  epoch : Nat
  closed : Bool
  deriving DecidableEq, Repr

/-- The Geode journal (R426–R434). -/
structure Journal where
  entries : List JEntry
  next : Nat
  cursor : Nat
  skipped : Nat
  epoch : Nat
  incidents : List Incident
  nextIncident : Nat
  unacked : List Nat
  resetAt : Nat
  deriving DecidableEq, Repr

/-- A detection handed to the Flint unit for its next cycle (R381); atLeast and exactly carry the base class of R379. -/
structure Detection where
  source : Nat
  data : Nat
  atLeast : Nat
  exactly : Option Nat
  deriving DecidableEq, Repr

/-- A registration whose latched bit is set (R383, R391, R396). -/
structure Reg where
  source : Nat
  base : Nat
  eff : Nat
  acked : Bool
  retained : Bool
  operator : Bool
  data : Nat
  deriving DecidableEq, Repr

/-- Overflow record of one range of 32 IDs (R393). -/
structure Overflow where
  bitmap : Nat
  count : Nat
  highest : Nat
  time : Nat
  deriving DecidableEq, Repr

/-- The Flint unit (R376–R397, R406). -/
structure Flint where
  detections : List Detection
  regs : List Reg
  fifo : List JEntry
  overflow : List (Nat × Overflow)
  fltLow : Bool
  alarmWhenUp : Bool
  deriving DecidableEq, Repr

/-- What an NVM program writes (R434, R440, R442). -/
inductive ProgramKind where
  | save | restore | summary
  deriving DecidableEq, Repr

/-- An NVM program under way (R434, R440): base address, image, pages done, failed read-backs. -/
structure Program where
  kind : ProgramKind
  base : Nat
  image : List Byte
  erased : Bool
  page : Nat
  badReads : Nat
  thenShip : Bool
  deriving DecidableEq, Repr

/-- NVM control (R438–R445): the banks in force (false A, true B), their erase counts, the program under way, the
records last read bad, the objects whose image differs from its reference (R405), the flash words that need a correction and those that are
uncorrectable (R438), and the banks whose programs have begun and not reached their last page: base, and whether the erase is done (R441). -/
structure Nvm where
  dictBank : Option Bool
  dictErasesA : Nat
  dictErasesB : Nat
  summaryBank : Option Bool
  summarySeq : Nat
  summaryErasesA : Nat
  summaryErasesB : Nat
  program : Option Program
  saveFailed : Bool
  summaryWanted : Bool
  corrupted : List Nat
  calLoaded : Bool
  badRecords : List Nat
  weak : List Nat
  bad : List Nat
  unfinished : List (Nat × Bool)
  deriving DecidableEq, Repr

/-- Chain time and the CORE PLL (R107–R122): the 48-bit count and its sub-ticks, the SYNC a chain reference frame announced, whether
such a frame has come since the head side last turned (R120), consecutive rejected SYNCs, the last SYNC time accounted for, the correction still
to slew, the arrival delay in use (R314), the crystal's fallback, and the clock monitor: consecutive bad gates of each clock (2 stands for a
finding) and good gates since; and when the timebase last became ALIGNED (R253). -/
structure Timebase where
  us : Nat
  sub : Nat
  reference : Option Nat
  referenced : Bool
  rejected : Nat
  lastSync : Option Nat
  slewLeft : Int
  arrival : Nat
  crystalFallback : Bool
  gatesBad : List Nat
  gatesGood : List Nat
  unalignedEnd : Option Nat
  deriving DecidableEq, Repr

/-- The two ports beside their objects 0x1106 and 0x1107 (R278–R295): what the transmitter of each is sending, which has left UP and stands
for 0x61 (R295), the ALARM on the head-side port (R284), tones that wait (R286), when the last tone of this head's own ends (R94), the
polarity of the last held state each port sent (R279), and the chain time in ps at which what a head has started on DU ends (R116). -/
structure Phys where
  dlFrame : Option (List Byte)
  duFrame : Option (List Byte)
  dlLost : Bool
  duLost : Bool
  alarmBusy : Bool
  alarmWaiting : Bool
  toneWaitingDl : Bool
  toneWaitingDu : Bool
  ownToneEnd : Option Nat
  dlPositive : Bool
  duPositive : Bool
  duUntil : Nat
  deriving DecidableEq, Repr

/-- What the thermal rules remember beside their objects (R414–R421): consecutive readings at or above 145.0 and 150.0 °C per lane
thermometer, suspect thermometers and failed rounds, the throttle band (0 none, 1 HOT, 2 DEAD, 3 COOL) with the start of its measurement of G,
and since when the hottest has stayed below 140.0 °C. -/
structure Thermal where
  over145 : List Nat
  over150 : List Nat
  suspect : List Nat
  band : Nat
  since : Nat
  coolSince : Option Nat
  chargeOut : List Nat
  chargeIn : List Nat
  dischargeOut : List Nat
  dischargeIn : List Nat
  deriving DecidableEq, Repr

/-- Who holds a balance switch beside balancing (R217). -/
inductive Owner where
  | balancing | diagnostic | excitation
  deriving DecidableEq, Repr

/-- Suspicions that open a confirmation (R228). -/
inductive Suspicion where
  | deviation | lowMeter | strayCurrent
  deriving DecidableEq, Repr

/-- One channel of the charge governor (R205–R230). Charges qmeas, removed and acc are in 0.01 uC (one 0.1 mA step over one
100 us interval); qref carries 16 bits below the uC (R213); readings are in 0.1 mA (R208). The sticky bits of ChannelState
stand in the dictionary. seen is the switch as the last edge recorded left it; worked says that it conducted in the window. -/
structure GovCh where
  state : Nat
  disabled : Bool
  on : Bool
  owner : Owner
  qref : Int
  qmeas : Int
  removed : Int
  acc : Int
  lastFull : Option Nat
  settled : Nat
  settledI : Nat
  settledV : Int
  deviating : Nat
  within : Nat
  lowTicks : Nat
  strayTicks : Nat
  suspicion : Option Suspicion
  atBound : Bool
  seen : Bool
  worked : Bool
  pathFraction : Nat
  reading : Nat
  deriving DecidableEq, Repr

/-- One planned channel of the sleep plan (R231): seconds S_n and I_est in 0.1 mA. -/
structure Planned where
  seconds : Nat
  estimate : Nat
  deriving DecidableEq, Repr

/-- The charge governor (R205–R236): channels, the applied throttle with 31 fraction bits (R222), the throttle inputs
(R220, R221), tick overruns (R225), P as the last tick estimated it (R223), QUIET pauses (R188, R196), the latest sleep plan (R231). -/
structure Gov where
  ch : List GovCh
  theta : Nat
  thetaIn : Nat
  analog : List Int
  pulses : List (Nat × Nat × Nat)
  invalidRun : Nat
  validRun : Nat
  overruns : Nat
  lastOverrun : Option Nat
  power : Nat
  quietWindow : Bool
  quietCapture : Bool
  plan : List Planned
  conducted : Bool
  deriving DecidableEq, Repr

/-- The correction terms of one lane, normalised to 25 °C, and what failed in it (R133–R139): gains in ppb, offset of slice B in
1/65,536 code step, skew in ps. -/
structure LaneTerms where
  gA : Int
  gB : Int
  oB : Int
  tau : Int
  updates : Nat
  failedA : Bool
  failedB : Bool
  blamePending : Bool
  deriving DecidableEq, Repr

/-- One FIFO entry of a lane with the setting it was formed at (R140, R147): bseq is BSEQ. mixed marks a TEST block that takes the place of a
cell block (R159, R398); clipped that a sample of it saturated (R13). -/
structure LaneEntry where
  start : Nat
  code : Nat
  shift : Nat
  out : Int
  subst : Bool
  single : Bool
  overrange : Bool
  test : Bool
  bseq : Nat
  mixed : Bool
  clipped : Bool
  deriving DecidableEq, Repr

/-- One chop period of the two current lanes on its way to E4 (R148, R153): its start, the corrected samples of each lane, and OVER. -/
structure CurrentEntry where
  start : Nat
  first : List Int
  second : List Int
  overrange : Bool
  deriving DecidableEq, Repr

/-- One slot of an aux lane on its way to E4 (R148, R155): its start, the lane, the averager's output, and the pin's sampled level. -/
structure AuxEntry where
  start : Nat
  lane : Nat
  out : Int
  level : Bool
  deriving DecidableEq, Repr

/-- CellOver and CellUnder as block codes of one channel (R201), as lane voltages of R143 in nV: the limits, the values back inside by
Hysteresis, and D. -/
structure CodeLimits where
  above : Int
  aboveBack : Int
  below : Int
  belowBack : Int
  blocks : Nat
  deriving DecidableEq, Repr

/-- Limit comparators of one channel (R201): blocks beyond and back inside, and the state of each side. -/
structure Comparator where
  overRun : Nat
  overBack : Nat
  overLive : Bool
  underRun : Nat
  underBack : Nat
  underLive : Bool
  deriving DecidableEq, Repr

/-- A short found (R401): kind 1 LOW, 2 B_PIN, 3 C_B, its channel or tap, and the checks passed since. -/
structure Short where
  kind : Nat
  place : Nat
  passes : Nat
  deriving DecidableEq, Repr

/-- A switch edge (R207): channel, its T64 stamp in sub-ticks of chain time, current in 0.1 mA, on or off. -/
structure SwitchEdge where
  ch : Nat
  time : Nat
  current : Nat
  rising : Bool
  deriving DecidableEq, Repr

/-- A diagnostic slot (R228, R398, R399): its channel (from 0), its start, whether the slot's switch conducts in it, and in us from the start when
phase B turns it off. -/
structure Slot where
  ch : Nat
  start : Nat
  conducts : Bool
  release : Nat
  deriving DecidableEq, Repr

/-- A slot that failed once and waits for its repeat (R399): channel (from 0) and start. -/
structure FailedSlot where
  ch : Nat
  at' : Nat
  deriving DecidableEq, Repr

/-- The lanes and the engines E0–E3 up to calibrated blocks (R125–R164, R187, R190, R201, R401). blocks are in uV, fine in nV; raw holds recent
blocks before the tap-wire step (start, nV); lags the lagged drop D_n in 1/65,536 nV as it was at recent instants; meters the readings of recent
ticks; maps the mapping of R159; badFrames the run of frames of R161 with their channels; auxLost the aux lanes lost; currentKept the current lane
kept (0 both, 3 none); averagingNext the setting that a boundary asks for; averagingBefore when the setting in force began, and the one before it;
limitsNow CellLimits as last refreshed; confirm the diagnostic slot of R228; failedSlots the slots that wait for their repeat, oldest first,
waitingSlots the numbers of those that wait for the end of a pause or of another slot, lastSlot the number that has begun or waited last
(R398–R400). -/
structure Lanes where
  running : Bool
  startAt : Nat
  terms : List LaneTerms
  fifos : List (List LaneEntry)
  currentFifo : List CurrentEntry
  auxFifo : List AuxEntry
  blocks : List Int
  fine : List Int
  raw : List (List (Nat × Int))
  lags : List (List (Nat × Int))
  meters : List (Nat × List Nat)
  edges : List SwitchEdge
  shadowServes : Option Nat
  ratioNum : Nat
  ratioDen : Nat
  visits : List Nat
  maps : List (Int × Int)
  badFrames : List (Nat × Nat)
  currentDiverge : Nat
  currentPending : Bool
  currentKept : Nat
  currentMeans : Int × Int
  auxLost : List Nat
  bPin : Nat
  pinRuns : List Nat
  pairRuns : List Nat
  shorts : List Short
  lowSince : List (Option Nat)
  comparators : List Comparator
  limits : List CodeLimits
  limitsNow : List Int
  averagingPending : Bool
  averagingNext : Option (Nat × Nat)
  averagingBefore : Option (Nat × Nat × Nat)
  dropAt : Option Nat
  slot : Option Slot
  failedSlots : List FailedSlot
  waitingSlots : List Nat
  lastSlot : Option Nat
  confirm : Option Slot
  tapOpen : Option (Nat × Bool)
  deriving DecidableEq, Repr

/-- Sums of one channel over one window (R175, R176): Σ w·V in nV, samples used and excluded, least and greatest block, flags of R179; and of
the bleed meter over settled ticks, in 0.1 mA·us, with the us they stand for (0x300A). -/
structure ChanSum where
  sum : Int
  used : Nat
  excluded : Nat
  least : Int
  most : Int
  flags : Nat
  bleed : Nat
  bleedUs : Nat
  deriving DecidableEq, Repr

/-- One window (R165–R179): boundaries in 1/64 us (the stop beyond the wrap where the window spans it), number, flags of R178, the channels' sums,
and Σ P·us with its us (R223). -/
structure Window where
  start : Nat
  stop : Nat
  seq : Nat
  flags : Nat
  sums : List ChanSum
  power : Nat × Nat
  deriving DecidableEq, Repr

/-- The window a reader sees in WindowRecord (R177, R181): one snapshot. -/
structure Published where
  seq : Nat
  centre : Nat
  length : Nat
  coverage : Nat
  cells : List (Int × Int × Int × Nat)
  deriving DecidableEq, Repr

/-- The window schedule (R166–R171): the settings in force (mode, length, multiple, nominal, ripple threshold, hold time), whether the keeper's
schedule is, the window open, the one that waits to be published, a change of settings or schedule that waits for the next boundary, when the
last keeper record came, whether the record that fixes the open window's end is held, the boundary with the number of the window after it that
a record announced while no window was open, whether the open window began at a boundary of MAINS or TRACKED (R170), and number and length in ns of
the window closed last. -/
structure Windows where
  mode : Nat
  length : Nat
  multiple : Nat
  nominal : Nat
  threshold : Int
  hold : Int
  keeperSchedule : Bool
  opened : Option Window
  closing : Option Window
  changed : Bool
  lastRecord : Option Nat
  held : Bool
  announced : Option (Nat × Nat)
  mainsStart : Bool
  latest : Nat × Nat
  published : Published
  deriving DecidableEq, Repr

/-- One capture (R193–R197): its instant and its end t_c + N us in ps of chain time, tags, number, and the values once its samples are in. -/
structure Capture where
  instant : Nat
  tags : Nat
  seq : Nat
  values : Option (List Int)
  stop : Nat
  deriving DecidableEq, Repr

/-- Captures (R193–R197): one running, one pending, those past their last sample that wait to be published, the number of the last. -/
structure Captures where
  running : Option Capture
  pending : Option Capture
  done : List Capture
  seq : Nat
  deriving DecidableEq, Repr

/-- A current phasor the keeper has ready for its next record (R244, R328): entry, interval, frequency, phasor and its eight
sub-phasors in uA. -/
structure KeeperPhasor where
  entry : Nat
  interval : Nat
  frequency : Nat
  stop : Nat
  total : Int × Int
  subs : List (Int × Int)
  deriving DecidableEq, Repr

/-- The interval sequence of an analysis entry at a harmonic (R243): the frequency in use in mHz (0 none), the start and number of its
current interval, the announcements that wait, oldest first, with the boundary each holds from; and the end of the last interval formed, of
either kind. -/
structure Sequence where
  freq : Nat
  start : Nat
  number : Nat
  next : List (Nat × Nat)
  done : Option Nat
  deriving DecidableEq, Repr

/-- The current channel, the keeper and the mains tracker (R152–R154, R173, R174, R182–R185, R202). charge is Σ V·w in nV·us of
the open window and of the part beyond its end; remainder and total are in 2^-16 uC and uC. laneSums holds what each current lane's demodulated
samples of this millisecond sum to and how many they are (R154), overs the recent samples that carry OVER by their starts, and sizes what R255 has
found at recent grid instants; closedState is the tracker's state at the boundary that closed the latest window (R168, R170). -/
structure Keeper where
  charge : Int
  weight : Nat
  nextCharge : Int
  nextWeight : Nat
  remainder : Nat
  total : Int
  epoch : Nat
  lastTotal : Option Int
  lastEpoch : Nat
  lastPosition : Nat
  recent : List (Nat × Int)
  history : List (Nat × Int)
  sequences : List Sequence
  qualifiedSince : Option Nat
  weakSince : Option Nat
  holdSince : Option Nat
  period : Nat
  steps : List (Nat × Int)
  announced : List Nat
  phasors : List KeeperPhasor
  outgoing : List (List Byte)
  laneSums : Int × Int × Nat
  overs : List Nat
  sizes : List (Nat × Int)
  closedState : Nat
  deriving DecidableEq, Repr

/-- Consecutive conversions of one aux pin (R200, R202, R424): hot, cold, open, short, valid, back inside; and the codes live. -/
structure AuxPin where
  hot : Nat
  cold : Nat
  opens : Nat
  shorts : Nat
  valid : Nat
  hotBack : Nat
  coldBack : Nat
  hotLive : Bool
  coldLive : Bool
  openLive : Bool
  shortLive : Bool
  deriving DecidableEq, Repr

/-- The aux lanes (R155–R157, R198–R200): pins, the latest rails (VSTK mV, VIN5 mV, VDDA mV, VDDD mV, TREF uV, Basalt uV). -/
structure Aux where
  pins : List AuxPin
  rails : List Nat
  deriving DecidableEq, Repr

/-- One cell's impedance result (R246, R252, R253): uOhm, 0.001°, 1/65,535, 0.001 %. -/
structure ImpCell where
  re : Int
  im : Int
  phase : Int
  coherence : Nat
  uncertainty : Nat
  flags : Nat
  deriving DecidableEq, Repr

/-- A cell's sub-phasors of one interval (R245, R246): for s = 1 to 8 the voltage (nV) and the channel's own conduction (uA), real and
imaginary; and the flags INCOMPLETE and OVERRANGE of R253. -/
structure CellPhasors where
  volt : List (Int × Int)
  bleed : List (Int × Int)
  flags : Nat
  deriving DecidableEq, Repr

/-- One block as E6 keeps it for its phasors and steps (R245, R255): start, length, value in nV, overrange. -/
structure E6Block where
  start : Nat
  length : Nat
  value : Int
  overrange : Bool
  deriving DecidableEq, Repr

/-- One conducting stretch of a switch (R246): channel, edges in sub-ticks, its metered charge in 0.1 mA × sub-tick, and the instant in
sub-ticks until which the meter has been counted. -/
structure Stretch where
  ch : Nat
  rise : Nat
  fall : Option Nat
  sum : Nat
  until' : Nat
  deriving DecidableEq, Repr

/-- An analysis interval (R242, R243): number, frequency, K, boundaries in 1/64 us, its phasors, the cells near which a switch conducted,
whether the timebase was not ALIGNED; for an ACTIVE interval the channels excited, left out and lost. -/
structure Interval where
  number : Nat
  frequency : Nat
  periods : Nat
  start : Nat
  stop : Nat
  cells : List (Option CellPhasors)
  touched : List Nat
  unaligned : Bool
  excited : Option (List Nat)
  skipped : List Nat
  lost : List Nat
  deriving DecidableEq, Repr

/-- One analysis entry (R239–R254): the interval reported, its cells, the intervals that wait to be published, the keeper's items held,
when the entry was last changed, its interval sequence, and whether pairing failed last. -/
structure ImpEntry where
  frequency : Nat
  periods : Nat
  stop : Nat
  number : Nat
  cells : List ImpCell
  waiting : List Interval
  items : List KeeperPhasor
  paired : Option KeeperPhasor
  changedAt : Option Nat
  sequence : Sequence
  noReference : Bool
  deriving DecidableEq, Repr

/-- An ACTIVE sequence under way (R248–R250): (entry, even channels) still to do, the first being worked; frequency and K of the interval
being worked, its settle's start and its boundaries in 1/64 us; channels excited, left out and lost; and the channels from which the following
sequence starts its odd and its even intervals (R249). -/
structure ActiveSeq where
  todo : List (Nat × Bool)
  frequency : Nat
  periods : Nat
  settleAt : Nat
  start : Nat
  stop : Nat
  excited : List Nat
  skipped : List Nat
  lost : List Nat
  nextOdd : Option Nat
  nextEven : Option Nat
  deriving DecidableEq, Repr

/-- A rest point (R267). -/
structure RestPoint where
  time : Nat
  soc : Int
  charge : Int
  removed : Int
  deriving DecidableEq, Repr

/-- A cell's state of charge as Bedrock retains it (R260–R263): S and u in 10^-6 of 0.01 %, the rest reached in us, whether this rest was
fused, the anchors, the stored rest point and consecutive excesses. -/
structure SocCell where
  known : Bool
  soc : Int
  u : Nat
  rest : Nat
  fused : Bool
  charge : Int
  removed : Int
  seen : Nat
  point : Option RestPoint
  latest : Option (Nat × Nat)
  excessRun : Nat
  deriving DecidableEq, Repr

/-- A run of outlying results of one quantity (R269): channel, quantity, run, and whether it is live. -/
structure Outlier where
  ch : Nat
  quantity : Nat
  run : Nat
  isLive : Bool
  deriving DecidableEq, Repr

/-- Engine E6 (R237–R271). chainTime and chainStep are IntegrationTime and StepCurrent of the chain analysis set (R241). activeSpans are the times
of ACTIVE sequences, steps the keeper's current steps, blocks and stretches what phasors are formed from, spoiled the windows that were INCOMPLETE
and the blocks that were dropped (1/64 us), candidates those of R255 with, per cell, ΔV_n and whether the cell is skipped, sizes what was found at
recent grid instants. shown numbers the last window that rest was judged in plus 1, conducted the channels that conducted in it. startedAt is
since when E6 works, stoppedAt since when it has not worked, stoppedFor the time in s already counted against u (R262). -/
structure Imp where
  working : Bool
  entries : List ImpEntry
  active : Option ActiveSeq
  nextOdd : Nat
  nextEven : Nat
  activeSpans : List (Nat × Nat)
  candidates : List (Nat × List (Option Int × Bool))
  sizes : List (Nat × Int)
  steps : List (Nat × Int)
  blocks : List (List E6Block)
  stretches : List Stretch
  spoiled : List (Nat × Nat)
  soc : List SocCell
  continuous : Bool
  lastEpoch : Option (Nat × Nat)
  packTotal : Int
  chainTime : Nat
  chainStep : Int
  medians : List Int
  medianRs : Int
  medianSeq : Nat
  outliers : List Outlier
  shown : Nat
  conducted : List Nat
  startedAt : Nat
  stoppedAt : Nat
  stoppedFor : Nat
  deriving DecidableEq, Repr

/-- Engines and watchdogs (R402, R403): engines halted now, those left stopped, when each last expired, failed self-tests, those of
E5 and E7 that have not passed one since their restart; and the engines
whose sticky saturation flag is set (R13). Lane thermometers' suspect rounds are in Thermal. -/
structure Diag where
  halted : List Nat
  stopped : List Nat
  expired : List (Option Nat)
  failed : List Nat
  untested : List Nat
  saturated : List Nat
  deriving DecidableEq, Repr

/-- A frame of its own that a node has formed and not started (R298, R318, R320): class 0 is a command response. -/
structure OwnFrame where
  cls : Nat
  seq : Nat
  stale : Bool
  payload : List Byte
  deriving DecidableEq, Repr

/-- A census pass a node has forwarded and not closed (R308–R310): census number, NextPosition it took, the generation fields it forwarded,
its own generation then, OVERFLOW forwarded, an echo seen. -/
structure CensusTaken where
  number : Nat
  position : Nat
  maxGeneration : Nat
  sum : Nat
  generation : Nat
  overflowed : Bool
  echoed : Bool
  deriving DecidableEq, Repr

/-- The sweeps a node takes part in (R313): port, sweeps, probes per sweep, and the probes counted since the broadcast. -/
structure Sweep where
  port : Port
  sweeps : Nat
  count : Nat
  heard : Nat
  deriving DecidableEq, Repr

/-- A census round at the head (R306, R311–R315): number, pass, the payload of the reply to the last pass, whether positions are committed, whether
the pass waits for a SYNC to go by, and whether a changed UNIQUE_ID started it (R347). -/
structure Round where
  number : Nat
  pass : Nat
  last : Option (List Byte)
  settled : Bool
  held : Bool
  byId : Bool
  deriving DecidableEq, Repr

/-- Who waits for a chain command of the head (R319, R331, R357): a host carrier's command, one that only keeps a transfer open, or a
configuration check. -/
inductive Waiter where
  | host (carrier : Carrier)
  | keepalive
  | configCheck
  deriving DecidableEq, Repr

/-- A command of the head to a position (R319): its SEQ once it has been sent, its payload, the attempts so far, who waits for it, and whether its
next attempt waits for a SYNC to pass (R116). -/
structure Outstanding where
  position : Nat
  seq : Option Nat
  payload : List Byte
  attempts : Nat
  waiter : Waiter
  held : Bool
  deriving DecidableEq, Repr

/-- The latest valid stream frame of a class from a position (R321, R360): header, payload, the count of the closed train it belongs to. -/
structure StreamRecord where
  cls : Nat
  position : Nat
  header : Nat
  payload : List Byte
  train : Nat
  deriving DecidableEq, Repr

/-- A train in progress at the head (R333, R335): class 1–5, its deadline in us of chain time, the frames delivered, and whether no ALARM has
been classified since its trigger (R349); instant is that of the capture of a SNAP train, in us (R321); cut that split operation began in it
(R342). -/
structure Train where
  cls : Nat
  deadline : Nat
  instant : Nat
  frames : List StreamRecord
  afterAlarm : Bool
  cut : Bool
  deriving DecidableEq, Repr

/-- A pebble message being assembled for a position (R339): the SEQ expected next, bits taken, and their value. -/
structure PebbleIn where
  position : Nat
  seq : Nat
  bits : Nat
  value : Nat
  deriving DecidableEq, Repr

/-- A pebble message held (R339): position, type, VALUE, and its age in s. -/
structure PebbleHeld where
  position : Nat
  type : Nat
  value : Nat
  age : Nat
  deriving DecidableEq, Repr

/-- A write at the head that waits for the positions' CHECK_CONFIG (R331): the host carrier that asked, none for a write that came as a
command of its own; object, value bytes, checks not yet ended, whether one refused, whether one failed. -/
structure HeadWrite where
  requester : Option Carrier
  ix : Nat
  sub : Nat
  data : List Byte
  waiting : List Nat
  refused : Bool
  failed : Bool
  deriving DecidableEq, Repr

/-- The probe sweeps of the head (R313, R315): port, probes per sweep, whether these are the second four, how many sweeps have not been sent, and
whether their broadcast has. -/
structure Probing where
  port : Port
  count : Nat
  again : Bool
  left : Nat
  announced : Bool
  deriving DecidableEq, Repr

/-- The Iswen link protocol (R297–R348). census holds echoes and replies to send; sweep the sweeps a node takes part in; forwards what KEEPER
frames the end of a round will forward; hostTriggers, waiting and behind the triggers of host carriers, of the schedule behind a train of their
class, and of the schedule behind the next VOLTS train; resumeFrom when the last round ended; lacked the classes whose latest train lacked every
position from one on, with that position (R342); wakeCensus when each census of R83 and R96 that is still due comes; idRound that a changed
UNIQUE_ID wants the next round; missing, per position, the consecutive trains that lacked it; configDue that a CHAIN_CONFIG waits for the end of
the round; clear whether FLT_N's condition holds. -/
structure Link where
  census : List (List Byte)
  own : List OwnFrame
  queue : List (List Byte)
  streamSeq : Nat
  pebble : Nat
  pebbleLeft : Nat
  pebbleType : Nat
  pebbleReason : Nat
  pebbleSince : Nat
  headSide : Port
  taken : Option CensusTaken
  tentative : Option (Nat × Nat)
  baseline : Nat
  sweep : Option Sweep
  impedLast : Nat
  lastSent : List (Nat × List Byte)
  voltsWaits : Bool
  snapWaits : Bool
  lastCommit : Option Nat
  dlSecond : Nat
  duSecond : Nat
  delays : List Nat
  splitDelays : List Nat
  heldDelays : Bool
  -- at the head
  round : Option Round
  roundWanted : Bool
  idRound : Bool
  splitEnds : Bool
  breakAt : Option Nat
  wakeCensus : List Nat
  probing : Option Probing
  nextNumber : Nat
  broadcasts : Nat
  commandSeq : List Nat
  commands : List Outstanding
  forwards : List (List Byte)
  trains : List Train
  hostTriggers : List (Carrier × Nat)
  waiting : List Nat
  behind : List Nat
  statusDue : Bool
  lastStatus : Option Nat
  resumeFrom : Option Nat
  records : List StreamRecord
  closedTrains : List Nat
  assembling : List PebbleIn
  pebbles : List PebbleHeld
  split : Option Nat
  lacked : List (Nat × Nat)
  missing : List Nat
  clear : Bool
  nodeHolds : List (Nat × Nat)
  summary : List Byte
  medians : List Int
  medianRs : Int
  medianSeq : Nat
  retryAt : Option Nat
  configDue : Bool
  headWrite : Option HeadWrite
  deriving DecidableEq, Repr

/-- An open segmented transfer (R48–R52): its requester, object, direction, the bytes (a read's snapshot or a write's data so far), L, the
next expected segment, the last segment accepted with what it answered, bytes delivered, and for the journal the cursor after the read. -/
structure Transfer where
  requester : Requester
  ix : Nat
  sub : Nat
  writing : Bool
  data : List Byte
  length : Nat
  next : Nat
  last : Option (Nat × List Byte)
  delivered : Nat
  cursor : Option Nat
  deriving DecidableEq, Repr

/-- Dictionary access (R41, R48–R53): the open transfer, requesters whose transfer timed out, the last command's SEQ from the chain with its
response, and whether the write that armed Unlock is the last write received. -/
structure Access where
  transfer : Option Transfer
  timedOut : List Requester
  lastSeq : Option (Nat × List Byte)
  armed : Bool
  deriving DecidableEq, Repr

/-- A host's segmented transfer in the head's buffer (R357): target, direction, the bytes, L or the length answered, the next segment number,
the last one with what it answered, bytes delivered, and the number of the next segment of the transfer toward the position. -/
structure HostTransfer where
  position : Nat
  ix : Nat
  sub : Nat
  writing : Bool
  data : List Byte
  length : Nat
  next : Nat
  last : Option (Nat × List Byte)
  delivered : Nat
  chainSegment : Nat
  deriving DecidableEq, Repr

/-- What a command of a host carrier waits for (R331, R356, R357, R359): one answer; the positions still to write of ALL, with the number of
failures and the first; a read into the buffer; a write out of it; a train of its class. -/
inductive HostJob where
  | single
  | all (left : List Nat) (failures : Nat) (first : Nat × Nat × Nat)
  | fetch (transfer : HostTransfer)
  | put (transfer : HostTransfer)
  | trigger
  deriving DecidableEq, Repr

/-- A command in execution: header bytes 0–4, data, what it waits for, and whether a census round holds it (R355). -/
structure Running where
  header : List Byte
  data : List Byte
  job : HostJob
  held : Bool
  deriving DecidableEq, Repr

/-- One host carrier (R354, R355, R361–R364): the last command executed (header bytes 0–4 and data) with its response, the command in
execution, the response slot of SPI, LAST_REJECTED, the transfer, whether one timed out, the CRC failures of this second. -/
structure HostPort where
  last : Option (List Byte × List Byte)
  executing : Option Running
  slot : Option (List Byte)
  rejected : Bool
  transfer : Option HostTransfer
  timedOut : Bool
  crcSecond : Nat
  deriving DecidableEq, Repr

/-- The host side of a head (R349–R375): the carriers, WAKE held low under R101, whether a request has ended SILENT, settings of CAN FD in
force and whether others wait, frames that wait for the bus, the fragments of the class each waits in. -/
structure HostSide where
  spi : HostPort
  can : HostPort
  wakeLow : Bool
  spoken : Bool
  canInForce : List Int
  canPending : Bool
  alarms : List (List Byte)
  responses : List (List Byte)
  fragments : List (Nat × List (List Byte))
  deriving DecidableEq, Repr

/-- Bit timing of one phase of CAN FD (R367): prescaler of the 80 MHz clock, and in tq the length of a bit, its sample point and SJW. -/
structure CanTiming where
  prescaler : Nat
  bit : Nat
  sample : Nat
  jump : Nat
  deriving DecidableEq, Repr

/-- A frame a head sends on CAN FD (R366–R368): identifier, whether it has 29 bits, BRS, ESI, the timing of its nominal phase and, where BRS is 1,
of its data phase, the secondary sample point in tq, and the data bytes. -/
structure CanFrame where
  id : Nat
  long : Bool
  brs : Bool
  esi : Bool
  nominal : CanTiming
  data : Option CanTiming
  second : Option Nat
  bytes : List Byte
  deriving DecidableEq, Repr

/-- What the package's ports and pins carried: the model's own record of its outputs, newest last. A pulse has the nominal length of its class,
a held state the length given in UI; idle is the eight K28.5 that follow every held state (R279). -/
inductive Emission where
  | tone (port : Port) (us : Nat)
  | pulse (port : Port) (cls : PulseClass)
  | held (port : Port) (ui : Nat)
  | idle (port : Port)
  | frame (port : Port) (bytes : List Byte)
  | k237 (port : Port)
  | canFrame (frame : CanFrame)
  | spi (bytes : List Byte)
  | answer (abort : Option Nat)
  | chainFail
  | returned (bytes : List Byte)
  | probe (port : Port)
  deriving DecidableEq, Repr

/-- The package but for its flash and the queue of commands. -/
structure Block where
  fuses : Fuses
  power : Power
  bedrock : Bedrock
  journal : Journal
  flint : Flint
  nvm : Nvm
  tb : Timebase
  phys : Phys
  gov : Gov
  lanes : Lanes
  win : Windows
  cap : Captures
  keeper : Keeper
  aux : Aux
  imp : Imp
  link : Link
  access : Access
  host : HostSide
  diag : Diag
  thermal : Thermal
  chainSet : List (Nat × Nat)
  socTable : List Byte
  tempCurve : List Byte
  dict : List (Nat × Int)
  out : List Emission
  free : Nat
  deriving DecidableEq, Repr

/-! ### One update per part -/

/-- The package with its fuses replaced. -/
def Block.withFuses (b : Block) (v : Fuses) : Block := { b with fuses := v }

/-- The package with its power replaced. -/
def Block.withPower (b : Block) (v : Power) : Block := { b with power := v }

/-- The package with its bedrock replaced. -/
def Block.withBedrock (b : Block) (v : Bedrock) : Block := { b with bedrock := v }

/-- The package with its journal replaced. -/
def Block.withJournal (b : Block) (v : Journal) : Block := { b with journal := v }

/-- The package with its flint replaced. -/
def Block.withFlint (b : Block) (v : Flint) : Block := { b with flint := v }

/-- The package with its nvm replaced. -/
def Block.withNvm (b : Block) (v : Nvm) : Block := { b with nvm := v }

/-- The package with its tb replaced. -/
def Block.withTb (b : Block) (v : Timebase) : Block := { b with tb := v }

/-- The package with its phys replaced. -/
def Block.withPhys (b : Block) (v : Phys) : Block := { b with phys := v }

/-- The package with its gov replaced. -/
def Block.withGov (b : Block) (v : Gov) : Block := { b with gov := v }

/-- The package with its lanes replaced. -/
def Block.withLanes (b : Block) (v : Lanes) : Block := { b with lanes := v }

/-- The package with its win replaced. -/
def Block.withWin (b : Block) (v : Windows) : Block := { b with win := v }

/-- The package with its cap replaced. -/
def Block.withCap (b : Block) (v : Captures) : Block := { b with cap := v }

/-- The package with its keeper replaced. -/
def Block.withKeeper (b : Block) (v : Keeper) : Block := { b with keeper := v }

/-- The package with its aux replaced. -/
def Block.withAux (b : Block) (v : Aux) : Block := { b with aux := v }

/-- The package with its imp replaced. -/
def Block.withImp (b : Block) (v : Imp) : Block := { b with imp := v }

/-- The package with its link replaced. -/
def Block.withLink (b : Block) (v : Link) : Block := { b with link := v }

/-- The package with its access replaced. -/
def Block.withAccess (b : Block) (v : Access) : Block := { b with access := v }

/-- The package with its host replaced. -/
def Block.withHost (b : Block) (v : HostSide) : Block := { b with host := v }

/-- The package with its diag replaced. -/
def Block.withDiag (b : Block) (v : Diag) : Block := { b with diag := v }

/-- The package with its thermal replaced. -/
def Block.withThermal (b : Block) (v : Thermal) : Block := { b with thermal := v }

/-- The package with its chainSet replaced. -/
def Block.withChainSet (b : Block) (v : List (Nat × Nat)) : Block := { b with chainSet := v }

/-- The package with its socTable replaced. -/
def Block.withSocTable (b : Block) (v : List Byte) : Block := { b with socTable := v }

/-- The package with its tempCurve replaced. -/
def Block.withTempCurve (b : Block) (v : List Byte) : Block := { b with tempCurve := v }

/-- The package with its dict replaced. -/
def Block.withDict (b : Block) (v : List (Nat × Int)) : Block := { b with dict := v }

/-- The package with its out replaced. -/
def Block.withOut (b : Block) (v : List Emission) : Block := { b with out := v }

/-- The package with its free replaced. Choices: log 6 (DESIGN CHOICE, safe). -/
def Block.withFree (b : Block) (v : Nat) : Block := { b with free := v }

end Sys2Proof.Machine
end

