-- ==== Sys2Proof/Machine/Objects.lean ====
section
/-! DEFINITION. The objects of the dictionary as the spec's object tables give them (R33-R39, R43, R58, R69 and the
object table of each chapter): index, shape, and per entry its type, access in node and head role, default,
persistence class and the range its Meaning column states. A key is index * 256 + sub-index. Defaults the table
states in words (fused values, per-row values, the seed of R205, the severities of R377) are given in Dict.lean. -/

namespace Sys2Proof.Machine

/-- Value types of R37. A DOMAIN has no scalar value. -/
inductive Ty where
  | u8 | u16 | u32 | u64 | i16 | i32 | i64 | enum | bool | q15 | domain
  deriving DecidableEq, Repr

/-- Access codes of R39. -/
inductive Acc where
  | const | ro | rw | wo | rws | rwu
  deriving DecidableEq, Repr

/-- Persistence classes of R43. -/
inductive Pers where
  | v | p | f
  deriving DecidableEq, Repr

/-- What an index holds (R33, R34). -/
inductive Shape where
  | simple
  | record (count : Nat)
  | perCell
  | perTap
  deriving DecidableEq, Repr

/-- One row of an object table: the sub-indices lo to hi, which share a type, access, default and range.
allowed, when not empty, lists the only legal values. -/
structure Entry where
  lo : Nat
  hi : Nat
  ty : Ty
  accNode : Acc
  accHead : Acc
  dflt : Int
  pers : Pers
  least : Int
  most : Int
  allowed : List Int
  deriving DecidableEq, Repr

/-- One object. Sub 0 of an array or record is its count, U8 and not writable (R33). -/
structure Obj where
  ix : Nat
  shape : Shape
  entries : List Entry
  deriving DecidableEq, Repr

/-! ### Keys by name -/
namespace Ob

/-- 0x0000 DeviceType -/
abbrev deviceType : Nat := 0x000000

/-- 0x0001 Variant -/
abbrev variant : Nat := 0x000100

/-- 0x0002 SiliconRevision -/
abbrev siliconRevision : Nat := 0x000200

/-- 0x0003 FirmwareVersion -/
abbrev firmwareVersion : Nat := 0x000300

/-- 0x0004 UniqueId -/
abbrev uniqueId : Nat := 0x000400

/-- 0x0010 CapabilityCount -/
abbrev capabilityCount : Nat := 0x001000

/-- 0x1000 PowerState -/
abbrev powerState : Nat := 0x100000

/-- PowerState: State, sub 1 -/
abbrev powerStateState : Nat := 0x100001

/-- PowerState: SafeHold, sub 2 -/
abbrev powerStateSafeHold : Nat := 0x100002

/-- PowerState: Pending, sub 3 -/
abbrev powerStatePending : Nat := 0x100003

/-- 0x1001 PowerCommand -/
abbrev powerCommand : Nat := 0x100100

/-- 0x1002 CommLossTimeout -/
abbrev commLossTimeout : Nat := 0x100200

/-- 0x1003 BedrockPeriod -/
abbrev bedrockPeriod : Nat := 0x100300

/-- 0x1004 BedrockThresholds -/
abbrev bedrockThresholds : Nat := 0x100400

/-- BedrockThresholds: CellOver, sub 1 -/
abbrev bedrockThresholdsCellOver : Nat := 0x100401

/-- BedrockThresholds: CellUnder, sub 2 -/
abbrev bedrockThresholdsCellUnder : Nat := 0x100402

/-- BedrockThresholds: ThermHot, sub 3 -/
abbrev bedrockThresholdsThermHot : Nat := 0x100403

/-- BedrockThresholds: ThermCold, sub 4 -/
abbrev bedrockThresholdsThermCold : Nat := 0x100404

/-- BedrockThresholds: Enable, sub 5 -/
abbrev bedrockThresholdsEnable : Nat := 0x100405

/-- 0x1005 WakeRecord -/
abbrev wakeRecord : Nat := 0x100500

/-- WakeRecord: PriorState, sub 1 -/
abbrev wakeRecordPriorState : Nat := 0x100501

/-- WakeRecord: Cause, sub 2 -/
abbrev wakeRecordCause : Nat := 0x100502

/-- WakeRecord: BedrockFlags, sub 3 -/
abbrev wakeRecordBedrockFlags : Nat := 0x100503

/-- WakeRecord: BedrockChannel, sub 4 -/
abbrev wakeRecordBedrockChannel : Nat := 0x100504

/-- WakeRecord: BedrockValue, sub 5 -/
abbrev wakeRecordBedrockValue : Nat := 0x100505

/-- WakeRecord: SleepTime, sub 6 -/
abbrev wakeRecordSleepTime : Nat := 0x100506

/-- WakeRecord: SupplyAttempts, sub 7 -/
abbrev wakeRecordSupplyAttempts : Nat := 0x100507

/-- 0x1010 Role -/
abbrev role : Nat := 0x101000

/-- 0x1011 CellCount -/
abbrev cellCount : Nat := 0x101100

/-- 0x1020 ClockSource -/
abbrev clockSource : Nat := 0x102000

/-- ClockSource: Source, sub 1 -/
abbrev clockSourceSource : Nat := 0x102001

/-- ClockSource: TimebaseState, sub 2 -/
abbrev clockSourceTimebaseState : Nat := 0x102002

/-- ClockSource: LastCorrection, sub 3 -/
abbrev clockSourceLastCorrection : Nat := 0x102003

/-- ClockSource: SyncErrors, sub 4 -/
abbrev clockSourceSyncErrors : Nat := 0x102004

/-- 0x1021 ChainTime -/
abbrev chainTime : Nat := 0x102100

/-- 0x1030 EngineLoad -/
abbrev engineLoad : Nat := 0x103000

/-- 0x1031 EngineLoadMeasured -/
abbrev engineLoadMeasured : Nat := 0x103100

/-- 0x1100 Position -/
abbrev position : Nat := 0x110000

/-- 0x1101 Generation -/
abbrev generation : Nat := 0x110100

/-- 0x1102 CensusResult -/
abbrev censusResult : Nat := 0x110200

/-- CensusResult: Command, sub 1 -/
abbrev censusResultCommand : Nat := 0x110201

/-- CensusResult: Top, sub 2 -/
abbrev censusResultTop : Nat := 0x110202

/-- CensusResult: Flags, sub 3 -/
abbrev censusResultFlags : Nat := 0x110203

/-- CensusResult: CensusNumber, sub 4 -/
abbrev censusResultCensusNumber : Nat := 0x110204

/-- CensusResult: Passes, sub 5 -/
abbrev censusResultPasses : Nat := 0x110205

/-- CensusResult: LastCommit, sub 6 -/
abbrev censusResultLastCommit : Nat := 0x110206

/-- 0x1103 HopDelay -/
abbrev hopDelay : Nat := 0x110300

/-- HopDelay: ArrivalDelay, sub 1 -/
abbrev hopDelayArrivalDelay : Nat := 0x110301

/-- HopDelay: HopLatency, sub 2 -/
abbrev hopDelayHopLatency : Nat := 0x110302

/-- HopDelay: SplitDelay, sub 3 -/
abbrev hopDelaySplitDelay : Nat := 0x110303

/-- 0x1104 LinkCounters -/
abbrev linkCounters : Nat := 0x110400

/-- LinkCounters: FramesReceived, sub 1 -/
abbrev linkCountersFramesReceived : Nat := 0x110401

/-- LinkCounters: DlCrcFailures, sub 2 -/
abbrev linkCountersDlCrcFailures : Nat := 0x110402

/-- LinkCounters: DuCrcFailures, sub 3 -/
abbrev linkCountersDuCrcFailures : Nat := 0x110403

/-- LinkCounters: FormatErrors, sub 4 -/
abbrev linkCountersFormatErrors : Nat := 0x110404

/-- LinkCounters: QueueDrops, sub 5 -/
abbrev linkCountersQueueDrops : Nat := 0x110405

/-- LinkCounters: CommandRetries, sub 6 -/
abbrev linkCountersCommandRetries : Nat := 0x110406

/-- LinkCounters: CommandFailures, sub 7 -/
abbrev linkCountersCommandFailures : Nat := 0x110407

/-- LinkCounters: StaleSlots, sub 8 -/
abbrev linkCountersStaleSlots : Nat := 0x110408

/-- LinkCounters: PebbleDiscards, sub 9 -/
abbrev linkCountersPebbleDiscards : Nat := 0x110409

/-- 0x1105 RingMode -/
abbrev ringMode : Nat := 0x110500

/-- 0x1106 PortStatus -/
abbrev portStatus : Nat := 0x110600

/-- PortStatus: DlState, sub 1 -/
abbrev portStatusDlState : Nat := 0x110601

/-- PortStatus: DuState, sub 2 -/
abbrev portStatusDuState : Nat := 0x110602

/-- PortStatus: DlCause, sub 3 -/
abbrev portStatusDlCause : Nat := 0x110603

/-- PortStatus: DuCause, sub 4 -/
abbrev portStatusDuCause : Nat := 0x110604

/-- PortStatus: LastChange, sub 5 -/
abbrev portStatusLastChange : Nat := 0x110605

/-- 0x1107 LineErrors -/
abbrev lineErrors : Nat := 0x110700

/-- LineErrors: DlCodeErrors, sub 1 -/
abbrev lineErrorsDlCodeErrors : Nat := 0x110701

/-- LineErrors: DuCodeErrors, sub 2 -/
abbrev lineErrorsDuCodeErrors : Nat := 0x110702

/-- LineErrors: DlPulseErrors, sub 3 -/
abbrev lineErrorsDlPulseErrors : Nat := 0x110703

/-- LineErrors: DuPulseErrors, sub 4 -/
abbrev lineErrorsDuPulseErrors : Nat := 0x110704

/-- LineErrors: DlFalls, sub 5 -/
abbrev lineErrorsDlFalls : Nat := 0x110705

/-- LineErrors: DuFalls, sub 6 -/
abbrev lineErrorsDuFalls : Nat := 0x110706

/-- LineErrors: AlarmCuts, sub 7 -/
abbrev lineErrorsAlarmCuts : Nat := 0x110707

/-- 0x1108 DelayTable -/
abbrev delayTable : Nat := 0x110800

/-- 0x1109 CrcRateLimit -/
abbrev crcRateLimit : Nat := 0x110900

/-- 0x1110 StreamSchedule -/
abbrev streamSchedule : Nat := 0x111000

/-- StreamSchedule: Volts, sub 1 -/
abbrev streamScheduleVolts : Nat := 0x111001

/-- StreamSchedule: Snap, sub 2 -/
abbrev streamScheduleSnap : Nat := 0x111002

/-- StreamSchedule: Temps, sub 3 -/
abbrev streamScheduleTemps : Nat := 0x111003

/-- StreamSchedule: Imped, sub 4 -/
abbrev streamScheduleImped : Nat := 0x111004

/-- StreamSchedule: Status, sub 5 -/
abbrev streamScheduleStatus : Nat := 0x111005

/-- StreamSchedule: TriggerDelay, sub 6 -/
abbrev streamScheduleTriggerDelay : Nat := 0x111006

/-- 0x1120 PebbleSet -/
abbrev pebbleSet : Nat := 0x112000

/-- 0x1121 Lifetime -/
abbrev lifetime : Nat := 0x112100

/-- Lifetime: OperatingHours, sub 1 -/
abbrev lifetimeOperatingHours : Nat := 0x112101

/-- Lifetime: PeakLaneTemperature, sub 2 -/
abbrev lifetimePeakLaneTemperature : Nat := 0x112102

/-- Lifetime: WakeCount, sub 3 -/
abbrev lifetimeWakeCount : Nat := 0x112103

/-- 0x1122 PebbleRecord -/
abbrev pebbleRecord : Nat := 0x112200

/-- 0x1200 SpiConfig -/
abbrev spiConfig : Nat := 0x120000

/-- SpiConfig: Enable, sub 1 -/
abbrev spiConfigEnable : Nat := 0x120001

/-- 0x1202 Attention -/
abbrev attention : Nat := 0x120200

/-- 0x1203 AttentionMask -/
abbrev attentionMask : Nat := 0x120300

/-- 0x1204 HostCounters -/
abbrev hostCounters : Nat := 0x120400

/-- HostCounters: SpiAccepted, sub 1 -/
abbrev hostCountersSpiAccepted : Nat := 0x120401

/-- HostCounters: SpiRejected, sub 2 -/
abbrev hostCountersSpiRejected : Nat := 0x120402

/-- HostCounters: CanAccepted, sub 3 -/
abbrev hostCountersCanAccepted : Nat := 0x120403

/-- HostCounters: CanRejected, sub 4 -/
abbrev hostCountersCanRejected : Nat := 0x120404

/-- HostCounters: ResponsesDiscarded, sub 5 -/
abbrev hostCountersResponsesDiscarded : Nat := 0x120405

/-- HostCounters: BusyRefusals, sub 6 -/
abbrev hostCountersBusyRefusals : Nat := 0x120406

/-- 0x1205 HostCrcLimit -/
abbrev hostCrcLimit : Nat := 0x120500

/-- 0x1210 CanConfig -/
abbrev canConfig : Nat := 0x121000

/-- CanConfig: Enable, sub 1 -/
abbrev canConfigEnable : Nat := 0x121001

/-- CanConfig: NominalRate, sub 2 -/
abbrev canConfigNominalRate : Nat := 0x121002

/-- CanConfig: DataRate, sub 3 -/
abbrev canConfigDataRate : Nat := 0x121003

/-- CanConfig: NominalSamplePoint, sub 4 -/
abbrev canConfigNominalSamplePoint : Nat := 0x121004

/-- CanConfig: DataSamplePoint, sub 5 -/
abbrev canConfigDataSamplePoint : Nat := 0x121005

/-- CanConfig: TdcMode, sub 6 -/
abbrev canConfigTdcMode : Nat := 0x121006

/-- CanConfig: TdcOffset, sub 7 -/
abbrev canConfigTdcOffset : Nat := 0x121007

/-- CanConfig: IdFormat, sub 8 -/
abbrev canConfigIdFormat : Nat := 0x121008

/-- CanConfig: SilentUntilRequest, sub 9 -/
abbrev canConfigSilentUntilRequest : Nat := 0x121009

/-- 0x1211 CanBaseId -/
abbrev canBaseId : Nat := 0x121100

/-- 0x1212 CanStatus -/
abbrev canStatus : Nat := 0x121200

/-- CanStatus: ErrorState, sub 1 -/
abbrev canStatusErrorState : Nat := 0x121201

/-- CanStatus: TxErrors, sub 2 -/
abbrev canStatusTxErrors : Nat := 0x121202

/-- CanStatus: RxErrors, sub 3 -/
abbrev canStatusRxErrors : Nat := 0x121203

/-- CanStatus: BusOffCount, sub 4 -/
abbrev canStatusBusOffCount : Nat := 0x121204

/-- CanStatus: TdcMeasured, sub 5 -/
abbrev canStatusTdcMeasured : Nat := 0x121205

/-- CanStatus: IgnoredFrames, sub 6 -/
abbrev canStatusIgnoredFrames : Nat := 0x121206

/-- CanStatus: TrainsAbandoned, sub 7 -/
abbrev canStatusTrainsAbandoned : Nat := 0x121207

/-- 0x1213 HostForward -/
abbrev hostForward : Nat := 0x121300

/-- HostForward: Volts, sub 1 -/
abbrev hostForwardVolts : Nat := 0x121301

/-- 0x1214 CanLoad -/
abbrev canLoad : Nat := 0x121400

/-- 0x1230 ChainSummary -/
abbrev chainSummary : Nat := 0x123000

/-- 0x1F00 Unlock -/
abbrev unlock : Nat := 0x1F0000

/-- 0x1F01 UnlockState -/
abbrev unlockState : Nat := 0x1F0100

/-- 0x2000 LaneAveraging -/
abbrev laneAveraging : Nat := 0x200000

/-- LaneAveraging: Code, sub 1 -/
abbrev laneAveragingCode : Nat := 0x200001

/-- LaneAveraging: Shift, sub 2 -/
abbrev laneAveragingShift : Nat := 0x200002

/-- LaneAveraging: CodeInForce, sub 3 -/
abbrev laneAveragingCodeInForce : Nat := 0x200003

/-- LaneAveraging: ShiftInForce, sub 4 -/
abbrev laneAveragingShiftInForce : Nat := 0x200004

/-- 0x2001 WindowMode -/
abbrev windowMode : Nat := 0x200100

/-- 0x2002 WindowLength -/
abbrev windowLength : Nat := 0x200200

/-- 0x2003 MainsMultiple -/
abbrev mainsMultiple : Nat := 0x200300

/-- 0x2004 MainsFrequency -/
abbrev mainsFrequency : Nat := 0x200400

/-- 0x2005 MainsConfig -/
abbrev mainsConfig : Nat := 0x200500

/-- MainsConfig: Nominal, sub 1 -/
abbrev mainsConfigNominal : Nat := 0x200501

/-- MainsConfig: RippleThreshold, sub 2 -/
abbrev mainsConfigRippleThreshold : Nat := 0x200502

/-- MainsConfig: HoldTime, sub 3 -/
abbrev mainsConfigHoldTime : Nat := 0x200503

/-- 0x2006 MainsTracker -/
abbrev mainsTracker : Nat := 0x200600

/-- MainsTracker: State, sub 1 -/
abbrev mainsTrackerState : Nat := 0x200601

/-- MainsTracker: RippleAmplitude, sub 2 -/
abbrev mainsTrackerRippleAmplitude : Nat := 0x200602

/-- MainsTracker: Period, sub 3 -/
abbrev mainsTrackerPeriod : Nat := 0x200603

/-- 0x2010 CellVoltage -/
abbrev cellVoltage : Nat := 0x201000

/-- 0x2011 CellMin -/
abbrev cellMin : Nat := 0x201100

/-- 0x2012 CellMax -/
abbrev cellMax : Nat := 0x201200

/-- 0x2013 CellSnapshot -/
abbrev cellSnapshot : Nat := 0x201300

/-- 0x2014 WindowSequence -/
abbrev windowSequence : Nat := 0x201400

/-- 0x2015 WindowStatus -/
abbrev windowStatus : Nat := 0x201500

/-- WindowStatus: Centre, sub 1 -/
abbrev windowStatusCentre : Nat := 0x201501

/-- WindowStatus: Length, sub 2 -/
abbrev windowStatusLength : Nat := 0x201502

/-- WindowStatus: Flags, sub 3 -/
abbrev windowStatusFlags : Nat := 0x201503

/-- WindowStatus: Coverage, sub 4 -/
abbrev windowStatusCoverage : Nat := 0x201504

/-- 0x2016 WindowRecord -/
abbrev windowRecord : Nat := 0x201600

/-- 0x2017 SnapshotStatus -/
abbrev snapshotStatus : Nat := 0x201700

/-- SnapshotStatus: Sequence, sub 1 -/
abbrev snapshotStatusSequence : Nat := 0x201701

/-- SnapshotStatus: Instant, sub 2 -/
abbrev snapshotStatusInstant : Nat := 0x201702

/-- SnapshotStatus: Tags, sub 3 -/
abbrev snapshotStatusTags : Nat := 0x201703

/-- 0x2020 TapCompensationMode -/
abbrev tapCompensationMode : Nat := 0x202000

/-- 0x2021 TapResistance -/
abbrev tapResistance : Nat := 0x202100

/-- 0x2022 TapConfig -/
abbrev tapConfig : Nat := 0x202200

/-- TapConfig: LearnEnable, sub 1 -/
abbrev tapConfigLearnEnable : Nat := 0x202201

/-- TapConfig: FilterTau, sub 2 -/
abbrev tapConfigFilterTau : Nat := 0x202202

/-- TapConfig: QuietEvery, sub 3 -/
abbrev tapConfigQuietEvery : Nat := 0x202203

/-- 0x2023 TapLearnCount -/
abbrev tapLearnCount : Nat := 0x202300

/-- 0x2030 CurrentMean -/
abbrev currentMean : Nat := 0x203000

/-- 0x2031 ChargeIncrement -/
abbrev chargeIncrement : Nat := 0x203100

/-- 0x2032 CurrentKeeper -/
abbrev currentKeeper : Nat := 0x203200

/-- 0x2033 CurrentRange -/
abbrev currentRange : Nat := 0x203300

/-- 0x2034 ShuntValue -/
abbrev shuntValue : Nat := 0x203400

/-- 0x2035 ChargeCounter -/
abbrev chargeCounter : Nat := 0x203500

/-- 0x2036 CurrentTrim -/
abbrev currentTrim : Nat := 0x203600

/-- CurrentTrim: Offset, sub 1 -/
abbrev currentTrimOffset : Nat := 0x203601

/-- CurrentTrim: Gain, sub 2 -/
abbrev currentTrimGain : Nat := 0x203602

/-- 0x2037 KeeperStatus -/
abbrev keeperStatus : Nat := 0x203700

/-- KeeperStatus: Sequence, sub 1 -/
abbrev keeperStatusSequence : Nat := 0x203701

/-- KeeperStatus: Status, sub 2 -/
abbrev keeperStatusStatus : Nat := 0x203702

/-- KeeperStatus: Epoch, sub 3 -/
abbrev keeperStatusEpoch : Nat := 0x203703

/-- 0x2038 SnapshotCurrent -/
abbrev snapshotCurrent : Nat := 0x203800

/-- 0x2040 AuxFunction -/
abbrev auxFunction : Nat := 0x204000

/-- 0x2041 AuxValue -/
abbrev auxValue : Nat := 0x204100

/-- 0x2042 ThermistorModel -/
abbrev thermistorModel : Nat := 0x204200

/-- ThermistorModel: BiasResistance, sub 1 -/
abbrev thermistorModelBiasResistance : Nat := 0x204201

/-- ThermistorModel: NominalResistance, sub 2 -/
abbrev thermistorModelNominalResistance : Nat := 0x204202

/-- ThermistorModel: Beta, sub 3 -/
abbrev thermistorModelBeta : Nat := 0x204203

/-- 0x2043 AuxStatus -/
abbrev auxStatus : Nat := 0x204300

/-- 0x2044 AuxOutput -/
abbrev auxOutput : Nat := 0x204400

/-- 0x2050 TriggerDrops -/
abbrev triggerDrops : Nat := 0x205000

/-- TriggerDrops: Dropped, sub 1 -/
abbrev triggerDropsDropped : Nat := 0x205001

/-- TriggerDrops: Replaced, sub 2 -/
abbrev triggerDropsReplaced : Nat := 0x205002

/-- TriggerDrops: Delayed, sub 3 -/
abbrev triggerDropsDelayed : Nat := 0x205003

/-- 0x2060 CellLimits -/
abbrev cellLimits : Nat := 0x206000

/-- CellLimits: CellOver, sub 1 -/
abbrev cellLimitsCellOver : Nat := 0x206001

/-- CellLimits: CellUnder, sub 2 -/
abbrev cellLimitsCellUnder : Nat := 0x206002

/-- CellLimits: Debounce, sub 3 -/
abbrev cellLimitsDebounce : Nat := 0x206003

/-- CellLimits: Hysteresis, sub 4 -/
abbrev cellLimitsHysteresis : Nat := 0x206004

/-- CellLimits: CellDelta, sub 5 -/
abbrev cellLimitsCellDelta : Nat := 0x206005

/-- CellLimits: OverCurrentCharge, sub 6 -/
abbrev cellLimitsOverCurrentCharge : Nat := 0x206006

/-- CellLimits: OverCurrentDischarge, sub 7 -/
abbrev cellLimitsOverCurrentDischarge : Nat := 0x206007

/-- CellLimits: CurrentDebounce, sub 8 -/
abbrev cellLimitsCurrentDebounce : Nat := 0x206008

/-- CellLimits: ThermHot, sub 9 -/
abbrev cellLimitsThermHot : Nat := 0x206009

/-- CellLimits: ThermCold, sub 10 -/
abbrev cellLimitsThermCold : Nat := 0x20600A

/-- 0x2080 FilterResistance -/
abbrev filterResistance : Nat := 0x208000

/-- 0x2081 CellHealth -/
abbrev cellHealth : Nat := 0x208100

/-- 0x2082 FrontEndHealth -/
abbrev frontEndHealth : Nat := 0x208200

/-- 0x2083 ReferenceSource -/
abbrev referenceSource : Nat := 0x208300

/-- 0x2084 CalTrimOffset -/
abbrev calTrimOffset : Nat := 0x208400

/-- 0x2085 CalTrimGain -/
abbrev calTrimGain : Nat := 0x208500

/-- 0x2086 FactoryCalibration -/
abbrev factoryCalibration : Nat := 0x208600

/-- 0x2087 ShadowDifference -/
abbrev shadowDifference : Nat := 0x208700

/-- 0x2088 CorrectionState -/
abbrev correctionState : Nat := 0x208800

/-- 0x3000 BalanceEnable -/
abbrev balanceEnable : Nat := 0x300000

/-- 0x3001 BalanceTarget -/
abbrev balanceTarget : Nat := 0x300100

/-- 0x3002 BalanceRate -/
abbrev balanceRate : Nat := 0x300200

/-- 0x3003 BalanceRemoved -/
abbrev balanceRemoved : Nat := 0x300300

/-- 0x3004 Band -/
abbrev band : Nat := 0x300400

/-- 0x3005 SessionTimer -/
abbrev sessionTimer : Nat := 0x300500

/-- 0x3006 ThrottleSource -/
abbrev throttleSource : Nat := 0x300600

/-- ThrottleSource: Source, sub 1 -/
abbrev throttleSourceSource : Nat := 0x300601

/-- ThrottleSource: FailValue, sub 2 -/
abbrev throttleSourceFailValue : Nat := 0x300602

/-- ThrottleSource: State, sub 3 -/
abbrev throttleSourceState : Nat := 0x300603

/-- 0x3007 ThrottleValue -/
abbrev throttleValue : Nat := 0x300700

/-- ThrottleValue: Setpoint, sub 1 -/
abbrev throttleValueSetpoint : Nat := 0x300701

/-- ThrottleValue: Input, sub 2 -/
abbrev throttleValueInput : Nat := 0x300702

/-- ThrottleValue: Applied, sub 3 -/
abbrev throttleValueApplied : Nat := 0x300703

/-- 0x3008 ThrottleSlew -/
abbrev throttleSlew : Nat := 0x300800

/-- 0x3009 PathResistance -/
abbrev pathResistance : Nat := 0x300900

/-- 0x300A BleedCurrent -/
abbrev bleedCurrent : Nat := 0x300A00

/-- 0x300B GovernorFlags -/
abbrev governorFlags : Nat := 0x300B00

/-- 0x300C SleepBalance -/
abbrev sleepBalance : Nat := 0x300C00

/-- SleepBalance: Enable, sub 1 -/
abbrev sleepBalanceEnable : Nat := 0x300C01

/-- SleepBalance: FloorVoltage, sub 2 -/
abbrev sleepBalanceFloorVoltage : Nat := 0x300C02

/-- 0x300D PowerBudget -/
abbrev powerBudget : Nat := 0x300D00

/-- 0x300E ChannelState -/
abbrev channelState : Nat := 0x300E00

/-- 0x3010 PlausibilityTolerance -/
abbrev plausibilityTolerance : Nat := 0x301000

/-- PlausibilityTolerance: Relative, sub 1 -/
abbrev plausibilityToleranceRelative : Nat := 0x301001

/-- PlausibilityTolerance: Absolute, sub 2 -/
abbrev plausibilityToleranceAbsolute : Nat := 0x301002

/-- PlausibilityTolerance: Time, sub 3 -/
abbrev plausibilityToleranceTime : Nat := 0x301003

/-- 0x3011 BleedResistor -/
abbrev bleedResistor : Nat := 0x301100

/-- 0x3012 SessionRemoved -/
abbrev sessionRemoved : Nat := 0x301200

/-- 0x3013 SleepEstimate -/
abbrev sleepEstimate : Nat := 0x301300

/-- 0x3014 SessionLimit -/
abbrev sessionLimit : Nat := 0x301400

/-- 0x3015 SwitchPower -/
abbrev switchPower : Nat := 0x301500

/-- 0x3016 InterlockRefusals -/
abbrev interlockRefusals : Nat := 0x301600

/-- 0x4000 AnalysisFrequencies -/
abbrev analysisFrequencies : Nat := 0x400000

/-- 0x4001 ExcitationSource -/
abbrev excitationSource : Nat := 0x400100

/-- 0x4002 Impedance -/
abbrev impedance : Nat := 0x400200

/-- 0x4003 ImpedanceConfig -/
abbrev impedanceConfig : Nat := 0x400300

/-- ImpedanceConfig: IntegrationTime, sub 1 -/
abbrev impedanceConfigIntegrationTime : Nat := 0x400301

/-- ImpedanceConfig: CoherenceMin, sub 2 -/
abbrev impedanceConfigCoherenceMin : Nat := 0x400302

/-- ImpedanceConfig: ActivePeriod, sub 3 -/
abbrev impedanceConfigActivePeriod : Nat := 0x400303

/-- ImpedanceConfig: ActiveMask, sub 4 -/
abbrev impedanceConfigActiveMask : Nat := 0x400304

/-- ImpedanceConfig: StepCurrent, sub 5 -/
abbrev impedanceConfigStepCurrent : Nat := 0x400305

/-- ImpedanceConfig: RsStepVoltage, sub 6 -/
abbrev impedanceConfigRsStepVoltage : Nat := 0x400306

/-- ImpedanceConfig: OutlierLimit, sub 7 -/
abbrev impedanceConfigOutlierLimit : Nat := 0x400307

/-- ImpedanceConfig: OutlierCount, sub 8 -/
abbrev impedanceConfigOutlierCount : Nat := 0x400308

/-- 0x4004 ImpedanceStatus -/
abbrev impedanceStatus : Nat := 0x400400

/-- 0x4005 SeriesResistance -/
abbrev seriesResistance : Nat := 0x400500

/-- 0x4006 CurrentPhasor -/
abbrev currentPhasor : Nat := 0x400600

/-- 0x4010 SocTable -/
abbrev socTable : Nat := 0x401000

/-- 0x4011 CellSoc -/
abbrev cellSoc : Nat := 0x401100

/-- 0x4012 TempCurve -/
abbrev tempCurve : Nat := 0x401200

/-- 0x4013 CellTempEstimate -/
abbrev cellTempEstimate : Nat := 0x401300

/-- 0x4014 SocConfig -/
abbrev socConfig : Nat := 0x401400

/-- SocConfig: RestCurrent, sub 1 -/
abbrev socConfigRestCurrent : Nat := 0x401401

/-- SocConfig: RestTime, sub 2 -/
abbrev socConfigRestTime : Nat := 0x401402

/-- SocConfig: GainUncertainty, sub 3 -/
abbrev socConfigGainUncertainty : Nat := 0x401403

/-- SocConfig: VoltageUncertainty, sub 4 -/
abbrev socConfigVoltageUncertainty : Nat := 0x401404

/-- SocConfig: DriftRate, sub 5 -/
abbrev socConfigDriftRate : Nat := 0x401405

/-- SocConfig: SleepIsRest, sub 6 -/
abbrev socConfigSleepIsRest : Nat := 0x401406

/-- 0x4015 SocUncertainty -/
abbrev socUncertainty : Nat := 0x401500

/-- 0x4016 ChainSocMinimum -/
abbrev chainSocMinimum : Nat := 0x401600

/-- ChainSocMinimum: Value, sub 1 -/
abbrev chainSocMinimumValue : Nat := 0x401601

/-- ChainSocMinimum: Position, sub 2 -/
abbrev chainSocMinimumPosition : Nat := 0x401602

/-- ChainSocMinimum: Sequence, sub 3 -/
abbrev chainSocMinimumSequence : Nat := 0x401603

/-- 0x4017 TempEstimateStatus -/
abbrev tempEstimateStatus : Nat := 0x401700

/-- 0x4020 AutoBalance -/
abbrev autoBalance : Nat := 0x402000

/-- AutoBalance: Enable, sub 1 -/
abbrev autoBalanceEnable : Nat := 0x402001

/-- AutoBalance: Deadband, sub 2 -/
abbrev autoBalanceDeadband : Nat := 0x402002

/-- AutoBalance: MinSession, sub 3 -/
abbrev autoBalanceMinSession : Nat := 0x402003

/-- AutoBalance: Period, sub 4 -/
abbrev autoBalancePeriod : Nat := 0x402004

/-- AutoBalance: MaxUncertainty, sub 5 -/
abbrev autoBalanceMaxUncertainty : Nat := 0x402005

/-- AutoBalance: ManualMask, sub 6 -/
abbrev autoBalanceManualMask : Nat := 0x402006

/-- AutoBalance: State, sub 7 -/
abbrev autoBalanceState : Nat := 0x402007

/-- 0x4021 SelfDischargeRate -/
abbrev selfDischargeRate : Nat := 0x402100

/-- 0x4022 SelfDischargeExcess -/
abbrev selfDischargeExcess : Nat := 0x402200

/-- 0x4023 SelfDischargeConfig -/
abbrev selfDischargeConfig : Nat := 0x402300

/-- SelfDischargeConfig: MinSpan, sub 1 -/
abbrev selfDischargeConfigMinSpan : Nat := 0x402301

/-- SelfDischargeConfig: ExcessLimit, sub 2 -/
abbrev selfDischargeConfigExcessLimit : Nat := 0x402302

/-- 0x5000 LaneTemperature -/
abbrev laneTemperature : Nat := 0x500000

/-- 0x5001 HottestLane -/
abbrev hottestLane : Nat := 0x500100

/-- HottestLane: Hottest, sub 1 -/
abbrev hottestLaneHottest : Nat := 0x500101

/-- HottestLane: HottestSub, sub 2 -/
abbrev hottestLaneHottestSub : Nat := 0x500102

/-- HottestLane: Coolest, sub 3 -/
abbrev hottestLaneCoolest : Nat := 0x500103

/-- HottestLane: CoolestSub, sub 4 -/
abbrev hottestLaneCoolestSub : Nat := 0x500104

/-- HottestLane: Mean, sub 5 -/
abbrev hottestLaneMean : Nat := 0x500105

/-- 0x5002 SliceTemperature -/
abbrev sliceTemperature : Nat := 0x500200

/-- 0x5003 ThrottleWarn -/
abbrev throttleWarn : Nat := 0x500300

/-- 0x5004 GraceTime -/
abbrev graceTime : Nat := 0x500400

/-- 0x5005 ThrottleLevel -/
abbrev throttleLevel : Nat := 0x500500

/-- ThrottleLevel: Level, sub 1 -/
abbrev throttleLevelLevel : Nat := 0x500501

/-- ThrottleLevel: Held, sub 2 -/
abbrev throttleLevelHeld : Nat := 0x500502

/-- ThrottleLevel: ThrottleTemperature, sub 3 -/
abbrev throttleLevelThrottleTemperature : Nat := 0x500503

/-- ThrottleLevel: Since, sub 4 -/
abbrev throttleLevelSince : Nat := 0x500504

/-- 0x5006 ExcludedThermometers -/
abbrev excludedThermometers : Nat := 0x500600

/-- 0x5007 ThermalRecord -/
abbrev thermalRecord : Nat := 0x500700

/-- ThermalRecord: Shutdowns, sub 1 -/
abbrev thermalRecordShutdowns : Nat := 0x500701

/-- ThermalRecord: Peak, sub 2 -/
abbrev thermalRecordPeak : Nat := 0x500702

/-- ThermalRecord: Duration, sub 3 -/
abbrev thermalRecordDuration : Nat := 0x500703

/-- 0x5008 Housekeeping -/
abbrev housekeeping : Nat := 0x500800

/-- Housekeeping: Vstk, sub 1 -/
abbrev housekeepingVstk : Nat := 0x500801

/-- Housekeeping: Vin5, sub 2 -/
abbrev housekeepingVin5 : Nat := 0x500802

/-- Housekeeping: Vdda, sub 3 -/
abbrev housekeepingVdda : Nat := 0x500803

/-- Housekeeping: Vddd, sub 4 -/
abbrev housekeepingVddd : Nat := 0x500804

/-- Housekeeping: Tref, sub 5 -/
abbrev housekeepingTref : Nat := 0x500805

/-- Housekeeping: Basalt, sub 6 -/
abbrev housekeepingBasalt : Nat := 0x500806

/-- 0x5010 ChargeRange -/
abbrev chargeRange : Nat := 0x501000

/-- ChargeRange: Low, sub 1 -/
abbrev chargeRangeLow : Nat := 0x501001

/-- ChargeRange: High, sub 2 -/
abbrev chargeRangeHigh : Nat := 0x501002

/-- 0x5011 DischargeRange -/
abbrev dischargeRange : Nat := 0x501100

/-- DischargeRange: Low, sub 1 -/
abbrev dischargeRangeLow : Nat := 0x501101

/-- DischargeRange: High, sub 2 -/
abbrev dischargeRangeHigh : Nat := 0x501102

/-- 0x5012 ChargeInhibit -/
abbrev chargeInhibit : Nat := 0x501200

/-- ChargeInhibit: Charge, sub 1 -/
abbrev chargeInhibitCharge : Nat := 0x501201

/-- ChargeInhibit: Discharge, sub 2 -/
abbrev chargeInhibitDischarge : Nat := 0x501202

/-- ChargeInhibit: Pins, sub 3 -/
abbrev chargeInhibitPins : Nat := 0x501203

/-- 0x6000 FaultSeverity -/
abbrev faultSeverity : Nat := 0x600000

/-- 0x6001 FaultLive -/
abbrev faultLive : Nat := 0x600100

/-- 0x6002 FaultLatched -/
abbrev faultLatched : Nat := 0x600200

/-- 0x6003 FirstFault -/
abbrev firstFault : Nat := 0x600300

/-- FirstFault: Source, sub 1 -/
abbrev firstFaultSource : Nat := 0x600301

/-- FirstFault: BaseClass, sub 2 -/
abbrev firstFaultBaseClass : Nat := 0x600302

/-- FirstFault: EffectiveClass, sub 3 -/
abbrev firstFaultEffectiveClass : Nat := 0x600303

/-- FirstFault: Time, sub 4 -/
abbrev firstFaultTime : Nat := 0x600304

/-- FirstFault: Data, sub 5 -/
abbrev firstFaultData : Nat := 0x600305

/-- FirstFault: SameCycle, sub 6 -/
abbrev firstFaultSameCycle : Nat := 0x600306

/-- 0x6004 Acknowledge -/
abbrev acknowledge : Nat := 0x600400

/-- 0x6005 SafeOutputs -/
abbrev safeOutputs : Nat := 0x600500

/-- 0x6006 ServiceRequest -/
abbrev serviceRequest : Nat := 0x600600

/-- ServiceRequest: Reason, sub 1 -/
abbrev serviceRequestReason : Nat := 0x600601

/-- ServiceRequest: Since, sub 2 -/
abbrev serviceRequestSince : Nat := 0x600602

/-- 0x6007 EscalationCount -/
abbrev escalationCount : Nat := 0x600700

/-- 0x6008 FaultFloor -/
abbrev faultFloor : Nat := 0x600800

/-- 0x6009 FaultFlags -/
abbrev faultFlags : Nat := 0x600900

/-- 0x7000 JournalRead -/
abbrev journalRead : Nat := 0x700000

/-- 0x7001 JournalPointers -/
abbrev journalPointers : Nat := 0x700100

/-- JournalPointers: Oldest, sub 1 -/
abbrev journalPointersOldest : Nat := 0x700101

/-- JournalPointers: Next, sub 2 -/
abbrev journalPointersNext : Nat := 0x700102

/-- JournalPointers: ReadCursor, sub 3 -/
abbrev journalPointersReadCursor : Nat := 0x700103

/-- JournalPointers: Held, sub 4 -/
abbrev journalPointersHeld : Nat := 0x700104

/-- JournalPointers: Skipped, sub 5 -/
abbrev journalPointersSkipped : Nat := 0x700105

/-- 0x7002 IncidentState -/
abbrev incidentState : Nat := 0x700200

/-- IncidentState: State, sub 1 -/
abbrev incidentStateState : Nat := 0x700201

/-- IncidentState: Number, sub 2 -/
abbrev incidentStateNumber : Nat := 0x700202

/-- IncidentState: StartEntry, sub 3 -/
abbrev incidentStateStartEntry : Nat := 0x700203

/-- IncidentState: Protected, sub 4 -/
abbrev incidentStateProtected : Nat := 0x700204

/-- IncidentState: StartTime, sub 5 -/
abbrev incidentStateStartTime : Nat := 0x700205

/-- IncidentState: Epoch, sub 6 -/
abbrev incidentStateEpoch : Nat := 0x700206

/-- 0x7003 DropCount -/
abbrev dropCount : Nat := 0x700300

/-- 0x7004 IncidentSummary -/
abbrev incidentSummary : Nat := 0x700400

/-- 0x7010 CheckCfg -/
abbrev checkCfg : Nat := 0x701000

/-- 0x7011 CheckNvm -/
abbrev checkNvm : Nat := 0x701100

/-- 0x7012 CheckStream -/
abbrev checkStream : Nat := 0x701200

/-- 0x8000 Save -/
abbrev save : Nat := 0x800000

/-- 0x8001 RestoreDefaults -/
abbrev restoreDefaults : Nat := 0x800100

/-- 0x8002 NvmStatus -/
abbrev nvmStatus : Nat := 0x800200

/-- NvmStatus: State, sub 1 -/
abbrev nvmStatusState : Nat := 0x800201

/-- NvmStatus: Result, sub 2 -/
abbrev nvmStatusResult : Nat := 0x800202

/-- NvmStatus: Flags, sub 3 -/
abbrev nvmStatusFlags : Nat := 0x800203

/-- NvmStatus: Sequence, sub 4 -/
abbrev nvmStatusSequence : Nat := 0x800204

/-- NvmStatus: RecordCheck, sub 5 -/
abbrev nvmStatusRecordCheck : Nat := 0x800205

/-- NvmStatus: Corrected, sub 6 -/
abbrev nvmStatusCorrected : Nat := 0x800206

/-- 0x8003 NvmWriteCount -/
abbrev nvmWriteCount : Nat := 0x800300

/-- NvmWriteCount: RecordWrites, sub 1 -/
abbrev nvmWriteCountRecordWrites : Nat := 0x800301

/-- NvmWriteCount: SummaryWrites, sub 2 -/
abbrev nvmWriteCountSummaryWrites : Nat := 0x800302

/-- NvmWriteCount: WorstCycles, sub 3 -/
abbrev nvmWriteCountWorstCycles : Nat := 0x800303

/-- 0x9000 ReferenceCompare -/
abbrev referenceCompare : Nat := 0x900000

/-- ReferenceCompare: Difference, sub 1 -/
abbrev referenceCompareDifference : Nat := 0x900001

/-- ReferenceCompare: Peak, sub 2 -/
abbrev referenceComparePeak : Nat := 0x900002

/-- ReferenceCompare: Consecutive, sub 3 -/
abbrev referenceCompareConsecutive : Nat := 0x900003

/-- 0x9001 DiagnosticSchedule -/
abbrev diagnosticSchedule : Nat := 0x900100

/-- DiagnosticSchedule: OpenWireRotation, sub 1 -/
abbrev diagnosticScheduleOpenWireRotation : Nat := 0x900101

/-- DiagnosticSchedule: OpenWireEnable, sub 2 -/
abbrev diagnosticScheduleOpenWireEnable : Nat := 0x900102

/-- 0x9010 LimitLedger -/
abbrev limitLedger : Nat := 0x901000

/-- 0xA000 InstantCompat -/
abbrev instantCompat : Nat := 0xA00000

/-- 0xA001 CompatCellCode -/
abbrev compatCellCode : Nat := 0xA00100

/-- 0xA002 CompatTag -/
abbrev compatTag : Nat := 0xA00200

/-- 0xA003 CompatStatus -/
abbrev compatStatus : Nat := 0xA00300

end Ob

/-- Object tables, part 1 of 6. -/
def objTable0 : List Obj :=
  [
⟨0x0000, .simple, [⟨0, 0, .u32, .const, .const, 12900, .f, 0, 4294967295, []⟩]⟩,
   ⟨0x0001, .simple, [⟨0, 0, .enum, .ro, .ro, 0, .f, 0, 255, []⟩]⟩,
   ⟨0x0002, .simple, [⟨0, 0, .u8, .const, .const, 177, .f, 0, 255, []⟩]⟩,
   ⟨0x0003, .simple, [⟨0, 0, .u32, .ro, .ro, 0, .f, 0, 4294967295, []⟩]⟩,
   ⟨0x0004, .simple, [⟨0, 0, .u64, .ro, .ro, 0, .f, 0, 18446744073709551615, []⟩]⟩,
   ⟨0x0010, .simple, [⟨0, 0, .u8, .ro, .ro, 0, .f, 0, 255, []⟩]⟩,
   ⟨0x1000, .record 3, [⟨1, 1, .enum, .ro, .ro, 0, .v, 0, 255, []⟩, ⟨2, 2, .enum, .ro, .ro, 0, .v, 0, 255, []⟩, ⟨3, 3, .enum, .ro, .ro, 0, .v, 0, 255, []⟩]⟩,
   ⟨0x1001, .simple, [⟨0, 0, .enum, .wo, .wo, 0, .v, 0, 255, [1, 2, 4, 5, 6, 8, 9]⟩]⟩,
   ⟨0x1002, .simple, [⟨0, 0, .u32, .rw, .rw, 2000000, .p, 100000, 60000000, []⟩]⟩,
   ⟨0x1003, .simple, [⟨0, 0, .u16, .rw, .rw, 60, .p, 1, 3600, []⟩]⟩,
   ⟨0x1004, .record 5, [⟨1, 1, .u16, .rw, .rw, 3650, .p, 1000, 5500, []⟩, ⟨2, 2, .u16, .rw, .rw, 2500, .p, 0, 5000, []⟩, ⟨3, 3, .i16, .rw, .rw, 600, .p, -400, 1250, []⟩, ⟨4, 4, .i16, .rw, .rw, -300, .p, -400, 1250, []⟩, ⟨5, 5, .u8, .rw, .rw, 15, .p, 0, 255, []⟩]⟩,
   ⟨0x1005, .record 7, [⟨1, 1, .enum, .ro, .ro, 0, .v, 0, 255, []⟩, ⟨2, 2, .enum, .ro, .ro, 0, .v, 0, 255, []⟩, ⟨3, 3, .u8, .ro, .ro, 0, .v, 0, 255, []⟩, ⟨4, 4, .u8, .ro, .ro, 0, .v, 0, 255, []⟩, ⟨5, 5, .i16, .ro, .ro, 0, .v, -32768, 32767, []⟩, ⟨6, 6, .u32, .ro, .ro, 0, .v, 0, 4294967295, []⟩, ⟨7, 7, .u8, .ro, .ro, 0, .v, 0, 255, []⟩]⟩,
   ⟨0x1010, .simple, [⟨0, 0, .enum, .ro, .ro, 0, .v, 0, 255, []⟩]⟩,
   ⟨0x1011, .simple, [⟨0, 0, .u8, .rws, .rws, 32, .p, 12, 32, []⟩]⟩,
   ⟨0x1020, .record 4, [⟨1, 1, .enum, .ro, .ro, 0, .v, 0, 255, []⟩, ⟨2, 2, .enum, .ro, .ro, 0, .v, 0, 255, []⟩, ⟨3, 3, .i32, .ro, .ro, 0, .v, -2147483648, 2147483647, []⟩, ⟨4, 4, .u16, .ro, .ro, 0, .v, 0, 65535, []⟩]⟩,
   ⟨0x1021, .simple, [⟨0, 0, .u64, .ro, .rws, 0, .v, 0, 281474976710655, []⟩]⟩,
   ⟨0x1030, .record 8, [⟨1, 8, .u8, .ro, .ro, 0, .v, 0, 255, []⟩]⟩,
   ⟨0x1031, .record 8, [⟨1, 8, .u8, .ro, .ro, 0, .v, 0, 255, []⟩]⟩,
   ⟨0x1100, .simple, [⟨0, 0, .u8, .ro, .ro, 255, .v, 0, 255, []⟩]⟩,
   ⟨0x1101, .simple, [⟨0, 0, .u8, .ro, .ro, 0, .v, 0, 255, []⟩]⟩,
   ⟨0x1102, .record 6, [⟨1, 1, .enum, .wo, .wo, 0, .v, 1, 1, []⟩, ⟨2, 2, .u8, .ro, .ro, 255, .v, 0, 255, []⟩, ⟨3, 3, .u8, .ro, .ro, 0, .v, 0, 255, []⟩, ⟨4, 4, .u16, .ro, .ro, 0, .v, 0, 65535, []⟩, ⟨5, 5, .u8, .ro, .ro, 0, .v, 0, 255, []⟩, ⟨6, 6, .u64, .ro, .ro, 0, .v, 0, 18446744073709551615, []⟩]⟩,
   ⟨0x1103, .record 3, [⟨1, 1, .u32, .ro, .ro, 0, .v, 0, 4294967295, []⟩, ⟨2, 2, .u32, .ro, .ro, 0, .v, 0, 4294967295, []⟩, ⟨3, 3, .u32, .ro, .ro, 0, .v, 0, 4294967295, []⟩]⟩,
   ⟨0x1104, .record 9, [⟨1, 1, .u32, .rw, .rw, 0, .v, 0, 4294967295, []⟩, ⟨2, 2, .u32, .rw, .rw, 0, .v, 0, 4294967295, []⟩, ⟨3, 3, .u32, .rw, .rw, 0, .v, 0, 4294967295, []⟩, ⟨4, 4, .u32, .rw, .rw, 0, .v, 0, 4294967295, []⟩, ⟨5, 5, .u32, .rw, .rw, 0, .v, 0, 4294967295, []⟩, ⟨6, 6, .u32, .rw, .rw, 0, .v, 0, 4294967295, []⟩, ⟨7, 7, .u32, .rw, .rw, 0, .v, 0, 4294967295, []⟩, ⟨8, 8, .u32, .rw, .rw, 0, .v, 0, 4294967295, []⟩, ⟨9, 9, .u32, .rw, .rw, 0, .v, 0, 4294967295, []⟩]⟩,
   ⟨0x1105, .simple, [⟨0, 0, .enum, .ro, .rws, 0, .p, 0, 1, []⟩]⟩,
   ⟨0x1106, .record 5, [⟨1, 1, .enum, .ro, .ro, 0, .v, 0, 255, []⟩, ⟨2, 2, .enum, .ro, .ro, 0, .v, 0, 255, []⟩, ⟨3, 3, .enum, .ro, .ro, 0, .v, 0, 255, []⟩, ⟨4, 4, .enum, .ro, .ro, 0, .v, 0, 255, []⟩, ⟨5, 5, .u64, .ro, .ro, 0, .v, 0, 18446744073709551615, []⟩]⟩,
   ⟨0x1107, .record 7, [⟨1, 1, .u32, .rw, .rw, 0, .v, 0, 4294967295, []⟩, ⟨2, 2, .u32, .rw, .rw, 0, .v, 0, 4294967295, []⟩, ⟨3, 3, .u32, .rw, .rw, 0, .v, 0, 4294967295, []⟩, ⟨4, 4, .u32, .rw, .rw, 0, .v, 0, 4294967295, []⟩, ⟨5, 5, .u32, .rw, .rw, 0, .v, 0, 4294967295, []⟩, ⟨6, 6, .u32, .rw, .rw, 0, .v, 0, 4294967295, []⟩, ⟨7, 7, .u32, .rw, .rw, 0, .v, 0, 4294967295, []⟩]⟩,
   ⟨0x1108, .simple, [⟨0, 0, .domain, .ro, .ro, 0, .v, 0, 0, []⟩]⟩,
   ⟨0x1109, .simple, [⟨0, 0, .u16, .rw, .rw, 16, .p, 1, 1000, []⟩]⟩,
   ⟨0x1110, .record 6, [⟨1, 1, .u32, .ro, .rw, 16777216, .p, 0, 4294967295, []⟩, ⟨2, 2, .u32, .ro, .rw, 50331648, .p, 0, 4294967295, []⟩, ⟨3, 3, .u32, .ro, .rw, 33555432, .p, 0, 4294967295, []⟩, ⟨4, 4, .u32, .ro, .rw, 33555432, .p, 0, 4294967295, []⟩, ⟨5, 5, .u32, .ro, .rw, 33555432, .p, 0, 4294967295, []⟩, ⟨6, 6, .u16, .ro, .rw, 500, .p, 400, 5000, []⟩]⟩,
   ⟨0x1120, .simple, [⟨0, 0, .u8, .rw, .rw, 127, .p, 0, 255, []⟩]⟩
]

/-- Object tables, part 2 of 6. -/
def objTable1 : List Obj :=
  [
⟨0x1121, .record 3, [⟨1, 1, .u32, .ro, .ro, 0, .p, 0, 4294967295, []⟩, ⟨2, 2, .i16, .ro, .ro, -400, .p, -32768, 32767, []⟩, ⟨3, 3, .u32, .ro, .ro, 0, .p, 0, 4294967295, []⟩]⟩,
   ⟨0x1122, .simple, [⟨0, 0, .domain, .ro, .ro, 0, .v, 0, 0, []⟩]⟩,
   ⟨0x1200, .record 1, [⟨1, 1, .bool, .rws, .rws, 1, .p, 0, 1, []⟩]⟩,
   ⟨0x1202, .simple, [⟨0, 0, .u16, .ro, .ro, 0, .v, 0, 65535, []⟩]⟩,
   ⟨0x1203, .simple, [⟨0, 0, .u16, .rw, .rw, 1, .p, 0, 65535, []⟩]⟩,
   ⟨0x1204, .record 6, [⟨1, 1, .u32, .rw, .rw, 0, .v, 0, 4294967295, []⟩, ⟨2, 2, .u32, .rw, .rw, 0, .v, 0, 4294967295, []⟩, ⟨3, 3, .u32, .rw, .rw, 0, .v, 0, 4294967295, []⟩, ⟨4, 4, .u32, .rw, .rw, 0, .v, 0, 4294967295, []⟩, ⟨5, 5, .u32, .rw, .rw, 0, .v, 0, 4294967295, []⟩, ⟨6, 6, .u32, .rw, .rw, 0, .v, 0, 4294967295, []⟩]⟩,
   ⟨0x1205, .simple, [⟨0, 0, .u16, .rw, .rw, 16, .p, 1, 1000, []⟩]⟩,
   ⟨0x1210, .record 9, [⟨1, 1, .bool, .rws, .rws, 1, .p, 0, 1, []⟩, ⟨2, 2, .enum, .rws, .rws, 3, .p, 1, 4, []⟩, ⟨3, 3, .enum, .rws, .rws, 2, .p, 0, 4, []⟩, ⟨4, 4, .u16, .rws, .rws, 800, .p, 750, 875, []⟩, ⟨5, 5, .u16, .rws, .rws, 750, .p, 600, 850, []⟩, ⟨6, 6, .enum, .rws, .rws, 1, .p, 0, 2, []⟩, ⟨7, 7, .u8, .rws, .rws, 12, .p, 0, 63, []⟩, ⟨8, 8, .enum, .rws, .rws, 1, .p, 1, 2, []⟩, ⟨9, 9, .bool, .rws, .rws, 1, .p, 0, 1, []⟩]⟩,
   ⟨0x1211, .simple, [⟨0, 0, .u32, .rws, .rws, 256, .p, 0, 4294967295, []⟩]⟩,
   ⟨0x1212, .record 7, [⟨1, 1, .enum, .ro, .ro, 0, .v, 0, 255, []⟩, ⟨2, 2, .u8, .ro, .ro, 0, .v, 0, 255, []⟩, ⟨3, 3, .u8, .ro, .ro, 0, .v, 0, 255, []⟩, ⟨4, 4, .u16, .rw, .rw, 0, .v, 0, 65535, []⟩, ⟨5, 5, .u8, .ro, .ro, 0, .v, 0, 255, []⟩, ⟨6, 6, .u32, .rw, .rw, 0, .v, 0, 4294967295, []⟩, ⟨7, 7, .u32, .rw, .rw, 0, .v, 0, 4294967295, []⟩]⟩,
   ⟨0x1213, .record 6, [⟨1, 1, .enum, .rw, .rw, 0, .p, 0, 2, []⟩, ⟨2, 6, .enum, .rw, .rw, 0, .p, 0, 1, []⟩]⟩,
   ⟨0x1214, .simple, [⟨0, 0, .u8, .ro, .ro, 0, .v, 0, 255, []⟩]⟩,
   ⟨0x1230, .simple, [⟨0, 0, .domain, .ro, .ro, 0, .v, 0, 0, []⟩]⟩,
   ⟨0x1F00, .simple, [⟨0, 0, .u16, .wo, .wo, 0, .v, 0, 65535, []⟩]⟩,
   ⟨0x1F01, .simple, [⟨0, 0, .enum, .ro, .ro, 0, .v, 0, 255, []⟩]⟩,
   ⟨0x2000, .record 4, [⟨1, 1, .u8, .rw, .rw, 4, .p, 1, 8, []⟩, ⟨2, 2, .u8, .rw, .rw, 0, .p, 0, 8, []⟩, ⟨3, 3, .u8, .ro, .ro, 4, .v, 0, 255, []⟩, ⟨4, 4, .u8, .ro, .ro, 0, .v, 0, 255, []⟩]⟩,
   ⟨0x2001, .simple, [⟨0, 0, .enum, .rw, .rw, 2, .p, 1, 4, []⟩]⟩,
   ⟨0x2002, .simple, [⟨0, 0, .u32, .rw, .rw, 20000, .p, 1000, 2000000, []⟩]⟩,
   ⟨0x2003, .simple, [⟨0, 0, .u8, .rw, .rw, 1, .p, 1, 50, []⟩]⟩,
   ⟨0x2004, .simple, [⟨0, 0, .u32, .ro, .ro, 50000, .v, 0, 4294967295, []⟩]⟩,
   ⟨0x2005, .record 3, [⟨1, 1, .u32, .rw, .rw, 50000, .p, 0, 4294967295, [50000, 60000]⟩, ⟨2, 2, .u32, .rw, .rw, 5000, .p, 1000, 1000000, []⟩, ⟨3, 3, .u32, .rw, .rw, 10000000, .p, 1000000, 60000000, []⟩]⟩,
   ⟨0x2006, .record 3, [⟨1, 1, .enum, .ro, .ro, 0, .v, 0, 255, []⟩, ⟨2, 2, .u32, .ro, .ro, 0, .v, 0, 4294967295, []⟩, ⟨3, 3, .u32, .ro, .ro, 0, .v, 0, 4294967295, []⟩]⟩,
   ⟨0x2010, .perCell, [⟨1, 32, .i32, .ro, .ro, -2147483648, .v, -2147483648, 2147483647, []⟩]⟩,
   ⟨0x2011, .perCell, [⟨1, 32, .i32, .ro, .ro, -2147483648, .v, -2147483648, 2147483647, []⟩]⟩,
   ⟨0x2012, .perCell, [⟨1, 32, .i32, .ro, .ro, -2147483648, .v, -2147483648, 2147483647, []⟩]⟩,
   ⟨0x2013, .perCell, [⟨1, 32, .i32, .ro, .ro, -2147483648, .v, -2147483648, 2147483647, []⟩]⟩,
   ⟨0x2014, .simple, [⟨0, 0, .u32, .ro, .ro, 0, .v, 0, 4294967295, []⟩]⟩,
   ⟨0x2015, .record 4, [⟨1, 1, .u64, .ro, .ro, 0, .v, 0, 18446744073709551615, []⟩, ⟨2, 2, .u32, .ro, .ro, 0, .v, 0, 4294967295, []⟩, ⟨3, 3, .u16, .ro, .ro, 2, .v, 0, 65535, []⟩, ⟨4, 4, .u16, .ro, .ro, 0, .v, 0, 65535, []⟩]⟩,
   ⟨0x2016, .simple, [⟨0, 0, .domain, .ro, .ro, 0, .v, 0, 0, []⟩]⟩,
   ⟨0x2017, .record 3, [⟨1, 1, .u32, .ro, .ro, 0, .v, 0, 4294967295, []⟩, ⟨2, 2, .u64, .ro, .ro, 0, .v, 0, 18446744073709551615, []⟩, ⟨3, 3, .u16, .ro, .ro, 2, .v, 0, 65535, []⟩]⟩
]

/-- Object tables, part 3 of 6. -/
def objTable2 : List Obj :=
  [
⟨0x2020, .simple, [⟨0, 0, .enum, .rw, .rw, 1, .p, 1, 3, []⟩]⟩,
   ⟨0x2021, .perTap, [⟨1, 33, .u32, .rwu, .rwu, 0, .p, 0, 50000, []⟩]⟩,
   ⟨0x2022, .record 3, [⟨1, 1, .bool, .rw, .rw, 1, .p, 0, 1, []⟩, ⟨2, 2, .u16, .rw, .rw, 20, .p, 1, 1000, []⟩, ⟨3, 3, .u8, .rw, .rw, 0, .p, 0, 255, []⟩]⟩,
   ⟨0x2023, .perTap, [⟨1, 33, .u16, .ro, .ro, 0, .v, 0, 65535, []⟩]⟩,
   ⟨0x2030, .simple, [⟨0, 0, .i32, .ro, .ro, -2147483648, .v, -2147483648, 2147483647, []⟩]⟩,
   ⟨0x2031, .simple, [⟨0, 0, .i64, .ro, .ro, 0, .v, -9223372036854775808, 9223372036854775807, []⟩]⟩,
   ⟨0x2032, .simple, [⟨0, 0, .u8, .ro, .rws, 255, .p, 0, 255, []⟩]⟩,
   ⟨0x2033, .simple, [⟨0, 0, .enum, .rws, .rws, 1, .p, 1, 2, []⟩]⟩,
   ⟨0x2034, .simple, [⟨0, 0, .u32, .rws, .rws, 100000, .p, 1000, 100000000, []⟩]⟩,
   ⟨0x2035, .simple, [⟨0, 0, .i64, .rw, .rw, 0, .v, -9223372036854775808, 9223372036854775807, []⟩]⟩,
   ⟨0x2036, .record 2, [⟨1, 1, .i32, .rwu, .rwu, 0, .p, -100000, 100000, []⟩, ⟨2, 2, .i32, .rwu, .rwu, 0, .p, -10000, 10000, []⟩]⟩,
   ⟨0x2037, .record 3, [⟨1, 1, .u32, .ro, .ro, 0, .v, 0, 4294967295, []⟩, ⟨2, 2, .enum, .ro, .ro, 0, .v, 0, 255, []⟩, ⟨3, 3, .u8, .ro, .ro, 0, .v, 0, 255, []⟩]⟩,
   ⟨0x2038, .simple, [⟨0, 0, .i32, .ro, .ro, -2147483648, .v, -2147483648, 2147483647, []⟩]⟩,
   ⟨0x2040, .record 8, [⟨1, 6, .enum, .rws, .rws, 0, .p, 0, 8, []⟩, ⟨7, 8, .enum, .rws, .ro, 0, .p, 0, 8, []⟩]⟩,
   ⟨0x2041, .record 8, [⟨1, 8, .i32, .ro, .ro, 0, .v, -2147483648, 2147483647, []⟩]⟩,
   ⟨0x2042, .record 3, [⟨1, 1, .u32, .rws, .rws, 10000, .p, 1000, 100000, []⟩, ⟨2, 2, .u32, .rws, .rws, 10000, .p, 1000, 100000, []⟩, ⟨3, 3, .u16, .rws, .rws, 3435, .p, 2000, 5000, []⟩]⟩,
   ⟨0x2043, .record 8, [⟨1, 8, .enum, .ro, .ro, 0, .v, 0, 255, []⟩]⟩,
   ⟨0x2044, .simple, [⟨0, 0, .u8, .rw, .rw, 0, .v, 0, 255, []⟩]⟩,
   ⟨0x2050, .record 3, [⟨1, 1, .u32, .rw, .rw, 0, .v, 0, 4294967295, []⟩, ⟨2, 2, .u32, .rw, .rw, 0, .v, 0, 4294967295, []⟩, ⟨3, 3, .u32, .rw, .rw, 0, .v, 0, 4294967295, []⟩]⟩,
   ⟨0x2060, .record 10, [⟨1, 1, .i32, .rw, .rw, 3650000, .p, 0, 5500000, []⟩, ⟨2, 2, .i32, .rw, .rw, 2500000, .p, -500000, 5000000, []⟩, ⟨3, 3, .u32, .rw, .rw, 1000, .p, 16, 1000000, []⟩, ⟨4, 4, .u32, .rw, .rw, 20000, .p, 0, 500000, []⟩, ⟨5, 5, .u32, .rw, .rw, 100000, .p, 1000, 5000000, []⟩, ⟨6, 6, .u32, .rw, .rw, 0, .p, 0, 2000000, []⟩, ⟨7, 7, .u32, .rw, .rw, 0, .p, 0, 2000000, []⟩, ⟨8, 8, .u32, .rw, .rw, 1000, .p, 32, 1000000, []⟩, ⟨9, 9, .i16, .rw, .rw, 600, .p, -400, 1250, []⟩, ⟨10, 10, .i16, .rw, .rw, -300, .p, -400, 1250, []⟩]⟩,
   ⟨0x2080, .simple, [⟨0, 0, .u16, .rws, .rws, 100, .p, 10, 1000, []⟩]⟩,
   ⟨0x2081, .perCell, [⟨1, 32, .u16, .ro, .ro, 0, .v, 0, 65535, []⟩]⟩,
   ⟨0x2082, .simple, [⟨0, 0, .u16, .ro, .ro, 0, .v, 0, 65535, []⟩]⟩,
   ⟨0x2083, .simple, [⟨0, 0, .enum, .ro, .ro, 1, .v, 0, 255, []⟩]⟩,
   ⟨0x2084, .perCell, [⟨1, 32, .i16, .rwu, .rwu, 0, .p, -2000, 2000, []⟩]⟩,
   ⟨0x2085, .perCell, [⟨1, 32, .i16, .rwu, .rwu, 0, .p, -1000, 1000, []⟩]⟩,
   ⟨0x2086, .simple, [⟨0, 0, .domain, .ro, .ro, 0, .f, 0, 0, []⟩]⟩,
   ⟨0x2087, .perCell, [⟨1, 32, .i32, .ro, .ro, 0, .v, -2147483648, 2147483647, []⟩]⟩,
   ⟨0x2088, .simple, [⟨0, 0, .enum, .ro, .ro, 0, .v, 0, 255, []⟩]⟩,
   ⟨0x3000, .simple, [⟨0, 0, .u32, .rw, .rw, 0, .v, 0, 4294967295, []⟩]⟩
]

/-- Object tables, part 4 of 6. -/
def objTable3 : List Obj :=
  [
⟨0x3001, .perCell, [⟨1, 32, .u32, .rw, .rw, 0, .v, 0, 1000000, []⟩]⟩,
   ⟨0x3002, .perCell, [⟨1, 32, .u16, .rw, .rw, 100, .p, 1, 300, []⟩]⟩,
   ⟨0x3003, .perCell, [⟨1, 32, .i64, .rw, .rw, 0, .v, 0, 0, []⟩]⟩,
   ⟨0x3004, .simple, [⟨0, 0, .u32, .rw, .rw, 2000, .p, 100, 50000, []⟩]⟩,
   ⟨0x3005, .perCell, [⟨1, 32, .u32, .rw, .rw, 0, .v, 0, 604800, []⟩]⟩,
   ⟨0x3006, .record 3, [⟨1, 1, .enum, .rw, .rw, 1, .p, 1, 3, []⟩, ⟨2, 2, .q15, .rw, .rw, 0, .p, 0, 32767, []⟩, ⟨3, 3, .enum, .ro, .ro, 0, .v, 0, 255, []⟩]⟩,
   ⟨0x3007, .record 3, [⟨1, 1, .q15, .rw, .rw, 32767, .p, 0, 32767, []⟩, ⟨2, 2, .q15, .ro, .ro, 0, .v, -32768, 32767, []⟩, ⟨3, 3, .q15, .ro, .ro, 0, .v, -32768, 32767, []⟩]⟩,
   ⟨0x3008, .simple, [⟨0, 0, .u16, .rw, .rw, 200, .p, 1, 10000, []⟩]⟩,
   ⟨0x3009, .perCell, [⟨1, 32, .u32, .rwu, .rwu, 0, .p, 1000, 200000, []⟩]⟩,
   ⟨0x300A, .perCell, [⟨1, 32, .u16, .ro, .ro, 0, .v, 0, 65535, []⟩]⟩,
   ⟨0x300B, .simple, [⟨0, 0, .u16, .rw, .rw, 0, .v, 0, 65535, []⟩]⟩,
   ⟨0x300C, .record 2, [⟨1, 1, .bool, .rw, .rw, 0, .p, 0, 1, []⟩, ⟨2, 2, .u16, .rw, .rw, 3000, .p, 0, 5000, []⟩]⟩,
   ⟨0x300D, .simple, [⟨0, 0, .u16, .rw, .rw, 1200, .p, 100, 1200, []⟩]⟩,
   ⟨0x300E, .perCell, [⟨1, 32, .u16, .rw, .rw, 0, .v, 0, 65535, []⟩]⟩,
   ⟨0x3010, .record 3, [⟨1, 1, .u16, .rw, .rw, 100, .p, 10, 500, []⟩, ⟨2, 2, .u16, .rw, .rw, 10, .p, 1, 100, []⟩, ⟨3, 3, .u32, .rw, .rw, 10000, .p, 1000, 1000000, []⟩]⟩,
   ⟨0x3011, .simple, [⟨0, 0, .u32, .rws, .rws, 7500, .p, 1000, 100000, []⟩]⟩,
   ⟨0x3012, .perCell, [⟨1, 32, .i64, .ro, .ro, 0, .v, -9223372036854775808, 9223372036854775807, []⟩]⟩,
   ⟨0x3013, .perCell, [⟨1, 32, .i64, .ro, .ro, 0, .v, -9223372036854775808, 9223372036854775807, []⟩]⟩,
   ⟨0x3014, .simple, [⟨0, 0, .u32, .rw, .rw, 14400, .p, 60, 604800, []⟩]⟩,
   ⟨0x3015, .simple, [⟨0, 0, .u16, .ro, .ro, 0, .v, 0, 65535, []⟩]⟩,
   ⟨0x3016, .simple, [⟨0, 0, .u32, .rw, .rw, 0, .v, 0, 0, []⟩]⟩,
   ⟨0x4000, .record 4, [⟨1, 1, .u32, .rw, .rw, 2, .p, 0, 4294967295, []⟩, ⟨2, 4, .u32, .rw, .rw, 0, .p, 0, 4294967295, []⟩]⟩,
   ⟨0x4001, .record 4, [⟨1, 1, .enum, .rw, .rw, 1, .p, 0, 2, []⟩, ⟨2, 4, .enum, .rw, .rw, 0, .p, 0, 2, []⟩]⟩,
   ⟨0x4002, .simple, [⟨0, 0, .domain, .ro, .ro, 0, .v, 0, 0, []⟩]⟩,
   ⟨0x4003, .record 8, [⟨1, 1, .u32, .rw, .rw, 1000000, .p, 100000, 60000000, []⟩, ⟨2, 2, .u16, .rw, .rw, 58982, .p, 0, 65535, []⟩, ⟨3, 3, .u32, .rw, .rw, 300, .p, 10, 86400, []⟩, ⟨4, 4, .u32, .rw, .rw, 4294967295, .p, 0, 4294967295, []⟩, ⟨5, 5, .u32, .rw, .rw, 10000, .p, 1000, 2000000, []⟩, ⟨6, 6, .u32, .rw, .rw, 500, .p, 50, 100000, []⟩, ⟨7, 7, .u16, .rw, .rw, 250, .p, 10, 1000, []⟩, ⟨8, 8, .u8, .rw, .rw, 3, .p, 1, 20, []⟩]⟩,
   ⟨0x4004, .record 4, [⟨1, 4, .enum, .ro, .ro, 0, .v, 0, 255, []⟩]⟩,
   ⟨0x4005, .perCell, [⟨1, 32, .u32, .ro, .ro, 0, .v, 0, 4294967295, []⟩]⟩,
   ⟨0x4006, .record 8, [⟨1, 8, .i32, .ro, .ro, -2147483648, .v, -2147483648, 2147483647, []⟩]⟩,
   ⟨0x4010, .simple, [⟨0, 0, .domain, .rws, .rws, 0, .p, 0, 0, []⟩]⟩,
   ⟨0x4011, .perCell, [⟨1, 32, .u16, .ro, .ro, 65535, .v, 0, 65535, []⟩]⟩
]

/-- Object tables, part 5 of 6. -/
def objTable4 : List Obj :=
  [
⟨0x4012, .simple, [⟨0, 0, .domain, .rws, .rws, 0, .p, 0, 0, []⟩]⟩,
   ⟨0x4013, .perCell, [⟨1, 32, .i16, .ro, .ro, -32768, .v, -32768, 32767, []⟩]⟩,
   ⟨0x4014, .record 6, [⟨1, 1, .u32, .rw, .rw, 1000, .p, 0, 100000, []⟩, ⟨2, 2, .u32, .rw, .rw, 1800, .p, 60, 86400, []⟩, ⟨3, 3, .u16, .rw, .rw, 50, .p, 1, 1000, []⟩, ⟨4, 4, .u16, .rw, .rw, 1000, .p, 100, 20000, []⟩, ⟨5, 5, .u16, .rw, .rw, 10, .p, 0, 10000, []⟩, ⟨6, 6, .bool, .rw, .rw, 1, .p, 0, 1, []⟩]⟩,
   ⟨0x4015, .perCell, [⟨1, 32, .u16, .ro, .ro, 65535, .v, 0, 65535, []⟩]⟩,
   ⟨0x4016, .record 3, [⟨1, 1, .u16, .ro, .ro, 65535, .v, 0, 65535, []⟩, ⟨2, 2, .u8, .ro, .ro, 255, .v, 0, 255, []⟩, ⟨3, 3, .u32, .ro, .ro, 0, .v, 0, 4294967295, []⟩]⟩,
   ⟨0x4017, .perCell, [⟨1, 32, .enum, .ro, .ro, 0, .v, 0, 255, []⟩]⟩,
   ⟨0x4020, .record 7, [⟨1, 1, .bool, .rw, .rw, 0, .p, 0, 1, []⟩, ⟨2, 2, .u16, .rw, .rw, 50, .p, 0, 1000, []⟩, ⟨3, 3, .u32, .rw, .rw, 10000, .p, 0, 1000000, []⟩, ⟨4, 4, .u16, .rw, .rw, 60, .p, 10, 3600, []⟩, ⟨5, 5, .u16, .rw, .rw, 300, .p, 10, 5000, []⟩, ⟨6, 6, .u32, .rw, .rw, 0, .p, 0, 4294967295, []⟩, ⟨7, 7, .enum, .ro, .ro, 0, .v, 0, 255, []⟩]⟩,
   ⟨0x4021, .perCell, [⟨1, 32, .i32, .ro, .ro, -2147483648, .v, -2147483648, 2147483647, []⟩]⟩,
   ⟨0x4022, .perCell, [⟨1, 32, .i32, .ro, .ro, -2147483648, .v, -2147483648, 2147483647, []⟩]⟩,
   ⟨0x4023, .record 2, [⟨1, 1, .u32, .rw, .rw, 86400, .p, 3600, 2592000, []⟩, ⟨2, 2, .u16, .rw, .rw, 10, .p, 1, 1000, []⟩]⟩,
   ⟨0x5000, .record 37, [⟨1, 37, .i16, .ro, .ro, -32768, .v, -32768, 32767, []⟩]⟩,
   ⟨0x5001, .record 5, [⟨1, 1, .i16, .ro, .ro, -32768, .v, -32768, 32767, []⟩, ⟨2, 2, .u8, .ro, .ro, 0, .v, 0, 255, []⟩, ⟨3, 3, .i16, .ro, .ro, -32768, .v, -32768, 32767, []⟩, ⟨4, 4, .u8, .ro, .ro, 0, .v, 0, 255, []⟩, ⟨5, 5, .i16, .ro, .ro, -32768, .v, -32768, 32767, []⟩]⟩,
   ⟨0x5002, .record 74, [⟨1, 74, .i16, .ro, .ro, -32768, .v, -32768, 32767, []⟩]⟩,
   ⟨0x5003, .simple, [⟨0, 0, .i16, .rw, .rw, 1150, .p, 600, 1350, []⟩]⟩,
   ⟨0x5004, .simple, [⟨0, 0, .u8, .rw, .rw, 10, .p, 1, 120, []⟩]⟩,
   ⟨0x5005, .record 4, [⟨1, 1, .u8, .ro, .ro, 0, .v, 0, 255, []⟩, ⟨2, 2, .bool, .ro, .ro, 0, .v, 0, 1, []⟩, ⟨3, 3, .i16, .ro, .ro, -32768, .v, -32768, 32767, []⟩, ⟨4, 4, .u64, .ro, .ro, 0, .v, 0, 18446744073709551615, []⟩]⟩,
   ⟨0x5006, .simple, [⟨0, 0, .u64, .ro, .ro, 0, .v, 0, 18446744073709551615, []⟩]⟩,
   ⟨0x5007, .record 3, [⟨1, 1, .u16, .ro, .ro, 0, .v, 0, 65535, []⟩, ⟨2, 2, .i16, .ro, .ro, -32768, .v, -32768, 32767, []⟩, ⟨3, 3, .u32, .ro, .ro, 0, .v, 0, 4294967295, []⟩]⟩,
   ⟨0x5008, .record 6, [⟨1, 1, .u32, .ro, .ro, 0, .v, 0, 4294967295, []⟩, ⟨2, 2, .u32, .ro, .ro, 0, .v, 0, 4294967295, []⟩, ⟨3, 3, .u32, .ro, .ro, 0, .v, 0, 4294967295, []⟩, ⟨4, 4, .u32, .ro, .ro, 0, .v, 0, 4294967295, []⟩, ⟨5, 5, .u32, .ro, .ro, 0, .v, 0, 4294967295, []⟩, ⟨6, 6, .u32, .ro, .ro, 0, .v, 0, 4294967295, []⟩]⟩,
   ⟨0x5010, .record 2, [⟨1, 1, .i16, .rw, .rw, 0, .p, -400, 1250, []⟩, ⟨2, 2, .i16, .rw, .rw, 450, .p, -400, 1250, []⟩]⟩,
   ⟨0x5011, .record 2, [⟨1, 1, .i16, .rw, .rw, -200, .p, -400, 1250, []⟩, ⟨2, 2, .i16, .rw, .rw, 600, .p, -400, 1250, []⟩]⟩,
   ⟨0x5012, .record 3, [⟨1, 1, .bool, .ro, .ro, 0, .v, 0, 1, []⟩, ⟨2, 2, .bool, .ro, .ro, 0, .v, 0, 1, []⟩, ⟨3, 3, .u8, .ro, .ro, 0, .v, 0, 255, []⟩]⟩,
   ⟨0x6000, .record 255, [⟨1, 255, .u8, .rws, .rws, 0, .p, 0, 5, []⟩]⟩,
   ⟨0x6001, .record 8, [⟨1, 8, .u32, .ro, .ro, 0, .v, 0, 4294967295, []⟩]⟩,
   ⟨0x6002, .record 8, [⟨1, 8, .u32, .ro, .ro, 0, .v, 0, 4294967295, []⟩]⟩,
   ⟨0x6003, .record 6, [⟨1, 1, .u8, .ro, .ro, 0, .v, 0, 255, []⟩, ⟨2, 2, .u8, .ro, .ro, 0, .v, 0, 255, []⟩, ⟨3, 3, .u8, .ro, .ro, 0, .v, 0, 255, []⟩, ⟨4, 4, .u64, .ro, .ro, 0, .v, 0, 18446744073709551615, []⟩, ⟨5, 5, .u32, .ro, .ro, 0, .v, 0, 4294967295, []⟩, ⟨6, 6, .bool, .ro, .ro, 0, .v, 0, 1, []⟩]⟩,
   ⟨0x6004, .simple, [⟨0, 0, .u16, .wo, .wo, 0, .v, 0, 65535, []⟩]⟩,
   ⟨0x6005, .simple, [⟨0, 0, .u16, .rws, .rws, 65280, .p, 0, 65535, []⟩]⟩,
   ⟨0x6006, .record 2, [⟨1, 1, .u32, .ro, .ro, 0, .v, 0, 4294967295, []⟩, ⟨2, 2, .u64, .ro, .ro, 0, .v, 0, 18446744073709551615, []⟩]⟩,
   ⟨0x6007, .simple, [⟨0, 0, .u32, .rw, .rw, 0, .v, 0, 0, []⟩]⟩
]

/-- Object tables, part 6 of 6. -/
def objTable5 : List Obj :=
  [
⟨0x6008, .record 255, [⟨1, 255, .u8, .const, .const, 0, .f, 0, 255, []⟩]⟩,
   ⟨0x6009, .simple, [⟨0, 0, .u16, .rw, .rw, 0, .v, 0, 65535, []⟩]⟩,
   ⟨0x7000, .simple, [⟨0, 0, .domain, .ro, .ro, 0, .v, 0, 0, []⟩]⟩,
   ⟨0x7001, .record 5, [⟨1, 1, .u32, .ro, .ro, 0, .v, 0, 4294967295, []⟩, ⟨2, 2, .u32, .ro, .ro, 0, .v, 0, 4294967295, []⟩, ⟨3, 3, .u32, .rw, .rw, 0, .v, 0, 4294967295, []⟩, ⟨4, 4, .u16, .ro, .ro, 0, .v, 0, 65535, []⟩, ⟨5, 5, .u32, .ro, .ro, 0, .v, 0, 4294967295, []⟩]⟩,
   ⟨0x7002, .record 6, [⟨1, 1, .enum, .ro, .ro, 0, .v, 0, 255, []⟩, ⟨2, 2, .u32, .ro, .ro, 0, .v, 0, 4294967295, []⟩, ⟨3, 3, .u32, .ro, .ro, 0, .v, 0, 4294967295, []⟩, ⟨4, 4, .u16, .ro, .ro, 0, .v, 0, 65535, []⟩, ⟨5, 5, .u64, .ro, .ro, 0, .v, 0, 18446744073709551615, []⟩, ⟨6, 6, .u8, .ro, .ro, 0, .v, 0, 255, []⟩]⟩,
   ⟨0x7003, .record 3, [⟨1, 3, .u32, .rw, .rw, 0, .v, 0, 0, []⟩]⟩,
   ⟨0x7004, .record 4, [⟨1, 4, .domain, .ro, .ro, 0, .v, 0, 0, []⟩]⟩,
   ⟨0x7010, .simple, [⟨0, 0, .u32, .rw, .rw, 4294967295, .v, 0, 4294967295, []⟩]⟩,
   ⟨0x7011, .simple, [⟨0, 0, .u32, .rw, .rw, 4294967295, .v, 0, 4294967295, []⟩]⟩,
   ⟨0x7012, .simple, [⟨0, 0, .u32, .rw, .rw, 4294967295, .v, 0, 4294967295, []⟩]⟩,
   ⟨0x8000, .simple, [⟨0, 0, .u32, .wo, .wo, 0, .v, 0, 4294967295, []⟩]⟩,
   ⟨0x8001, .simple, [⟨0, 0, .u8, .wo, .wo, 0, .v, 0, 255, [1, 2]⟩]⟩,
   ⟨0x8002, .record 6, [⟨1, 1, .enum, .ro, .ro, 0, .v, 0, 255, []⟩, ⟨2, 2, .enum, .ro, .ro, 0, .v, 0, 255, []⟩, ⟨3, 3, .u16, .ro, .ro, 0, .v, 0, 65535, []⟩, ⟨4, 4, .u32, .ro, .ro, 0, .v, 0, 4294967295, []⟩, ⟨5, 5, .u32, .ro, .ro, 0, .v, 0, 4294967295, []⟩, ⟨6, 6, .u32, .ro, .ro, 0, .v, 0, 4294967295, []⟩]⟩,
   ⟨0x8003, .record 3, [⟨1, 1, .u32, .ro, .ro, 0, .v, 0, 4294967295, []⟩, ⟨2, 2, .u32, .ro, .ro, 0, .v, 0, 4294967295, []⟩, ⟨3, 3, .u32, .ro, .ro, 0, .v, 0, 4294967295, []⟩]⟩,
   ⟨0x9000, .record 3, [⟨1, 1, .i32, .ro, .ro, 0, .v, -2147483648, 2147483647, []⟩, ⟨2, 2, .i32, .ro, .ro, 0, .v, -2147483648, 2147483647, []⟩, ⟨3, 3, .u8, .ro, .ro, 0, .v, 0, 255, []⟩]⟩,
   ⟨0x9001, .record 2, [⟨1, 1, .enum, .rw, .rw, 2, .p, 1, 3, []⟩, ⟨2, 2, .bool, .rwu, .rwu, 1, .p, 0, 1, []⟩]⟩,
   ⟨0x9010, .record 5, [⟨1, 5, .domain, .ro, .ro, 0, .f, 0, 0, []⟩]⟩,
   ⟨0xA000, .simple, [⟨0, 0, .bool, .rws, .rws, 0, .p, 0, 1, []⟩]⟩,
   ⟨0xA001, .perCell, [⟨1, 32, .u16, .ro, .ro, 0, .v, 0, 65535, []⟩]⟩,
   ⟨0xA002, .simple, [⟨0, 0, .u16, .ro, .ro, 0, .v, 0, 65535, []⟩]⟩,
   ⟨0xA003, .simple, [⟨0, 0, .u16, .ro, .ro, 0, .v, 0, 65535, []⟩]⟩
]

/-- Every object of R69 but the capability records, in ascending index order. Choices: log 13 (DEDUCED, unsafe). -/
def objTable : List Obj :=
  objTable0 ++ objTable1 ++ objTable2 ++ objTable3 ++ objTable4 ++ objTable5

end Sys2Proof.Machine
end

