-- ==== Sys2Proof/Machine/Dict.lean ====
section
/-! DEFINITION. The dictionary as an addressed store: keys index * 256 + sub-index, values by R37, held sparsely over the
defaults so that equal dictionaries are equal data. -/

namespace Sys2Proof.Machine

/-- The fault sources of R377: ID, default class, floor. -/
def sourceTable : List (Nat × Nat × Nat) :=
  [(0x01, 3, 3), (0x02, 3, 3), (0x03, 1, 0), (0x04, 3, 1), (0x05, 1, 0), (0x06, 1, 0), (0x07, 3, 1), (0x08, 1, 0),
   (0x09, 1, 0), (0x20, 3, 3), (0x21, 3, 2), (0x22, 2, 2), (0x23, 2, 1), (0x24, 2, 2), (0x25, 3, 2), (0x26, 2, 1),
   (0x40, 2, 1), (0x41, 2, 2), (0x42, 4, 3), (0x43, 2, 1), (0x44, 3, 3), (0x45, 1, 0), (0x46, 1, 0), (0x60, 1, 0),
   (0x61, 1, 0), (0x62, 1, 0), (0x63, 0, 0), (0x64, 1, 0), (0x65, 1, 0), (0x80, 1, 0), (0x81, 2, 1), (0x82, 3, 3),
   (0x83, 3, 3), (0x84, 2, 2), (0x85, 3, 3), (0x86, 3, 2), (0x87, 2, 1), (0xA0, 0, 0), (0xA1, 5, 4), (0xA2, 2, 1),
   (0xA3, 4, 3), (0xA4, 3, 2), (0xA5, 3, 3), (0xA6, 3, 2), (0xA7, 2, 1)]

/-- Is the ID one that R377 assigns? -/
def assigned (s : Nat) : Bool := sourceTable.any (·.1 == s)

/-- Default class of a source; 0 when unassigned (R377, R411). -/
def defaultClass (s : Nat) : Nat := match sourceTable.find? (·.1 == s) with
  | some r => r.2.1
  | none => 0

/-- Floor of a source; 0 when unassigned (R377, R411). -/
def floorClass (s : Nat) : Nat := match sourceTable.find? (·.1 == s) with
  | some r => r.2.2
  | none => 0

/-- Path-resistance seed of R205 for a bleed resistor in mOhm: both legs of RBL and the switch. -/
def pathSeed (rbl : Int) : Int := 2 * rbl + 450

/-- The object at an index (R69). -/
def findObj (ix : Nat) : Option Obj := objTable.find? (·.ix == ix)

/-- The table row that gives a sub-index. -/
def Obj.entry (o : Obj) (sub : Nat) : Option Entry := o.entries.find? fun e => e.lo ≤ sub && sub ≤ e.hi

/-- The table row of a key. -/
def entryOf (key : Nat) : Option Entry := match findObj (key / 256) with
  | some o => o.entry (key % 256)
  | none => none

/-- Default of a key (the Default column; R205, R377 where the column defers to a rule). -/
def defaultOf (key : Nat) : Int :=
  if key / 256 = 0x6000 then defaultClass (key % 256)
  else if key / 256 = 0x6008 then floorClass (key % 256)
  else if key / 256 = 0x3009 then pathSeed 7500
  else match entryOf key with
    | some e => e.dflt
    | none => 0

namespace Dict

/-- Value listed for a key. -/
def find (k : Nat) : List (Nat × Int) → Option Int
  | [] => none
  | (j, v) :: t => if j = k then some v else find k t

/-- The store without a key. -/
def erase (k : Nat) : List (Nat × Int) → List (Nat × Int)
  | [] => []
  | (j, v) :: t => if j = k then erase k t else (j, v) :: erase k t

/-- The store with a key listed. -/
def insert (k : Nat) (v : Int) : List (Nat × Int) → List (Nat × Int)
  | [] => [(k, v)]
  | (j, w) :: t => if j = k then (k, v) :: t else if k < j then (k, v) :: (j, w) :: t else (j, w) :: insert k v t

/-- Value of a key: listed, or its default. -/
def get (k : Nat) (d : List (Nat × Int)) : Int := (find k d).getD (defaultOf k)

/-- The store with a key at a value; a key at its default is not listed. -/
def put (k : Nat) (v : Int) (d : List (Nat × Int)) : List (Nat × Int) :=
  if v = defaultOf k then erase k d else insert k v d

/-- Canonical form: keys strictly rising, none at its default. -/
def wf : List (Nat × Int) → Bool
  | [] => true
  | [(k, v)] => decide (v ≠ defaultOf k)
  | (k, v) :: (j, w) :: t => decide (v ≠ defaultOf k) && decide (k < j) && wf ((j, w) :: t)

end Dict

/-- Key of an index and sub-index. -/
abbrev keyOf (ix sub : Nat) : Nat := ix * 256 + sub

/-- Value of a dictionary entry. -/
def Block.get (b : Block) (k : Nat) : Int := Dict.get k b.dict

/-- Value of an unsigned dictionary entry. -/
def Block.nat (b : Block) (k : Nat) : Nat := (b.get k).toNat

/-- A dictionary entry set. -/
def Block.put (b : Block) (k : Nat) (v : Int) : Block := b.withDict (Dict.put k v b.dict)

/-- A BOOL entry or flag read as a condition. -/
def Block.on (b : Block) (k : Nat) : Bool := decide (b.get k ≠ 0)

/-- A counter entry advanced by n, saturating at most (R13, "saturates"). -/
def Block.countUp (b : Block) (k n most : Nat) : Block := b.put k (min (b.nat k + n) most)

/-- A U32 counter advanced by one, saturating. -/
def Block.count32 (b : Block) (k : Nat) : Block := b.countUp k 1 (2 ^ 32 - 1)

/-- Bit i of a bitmap entry. -/
def Block.bit (b : Block) (k i : Nat) : Bool := bitOf (b.nat k) i

/-- Bit i of a bitmap entry set or cleared. -/
def Block.putBit (b : Block) (k i : Nat) (on : Bool) : Block := b.put k (setBitTo (b.nat k) i on : Nat)

/-- Several entries set in order. -/
def Block.putAll (b : Block) (l : List (Nat × Int)) : Block := l.foldl (fun b p => b.put p.1 p.2) b

/-- CellCount (R7, R58). -/
def Block.cells (b : Block) : Nat := b.nat Ob.cellCount

/-- Is the role HEAD or HEAD_NO_CELLS (R4, R30)? -/
def Block.isHead (b : Block) : Bool := decide (2 ≤ b.get Ob.role)

/-- Is the role HEAD_NO_CELLS (R30)? -/
def Block.noCells (b : Block) : Bool := decide (b.get Ob.role = 3)

/-- Chain time now, in whole microseconds (R113). -/
def Block.now (b : Block) : Nat := b.tb.us

/-- The block at chain time t (a command that falls at an instant carries it). Choices: log 2 (DESIGN CHOICE, unsafe). -/
def Block.at (b : Block) (t : Nat) : Block := b.withTb { b.tb with us := t % t48 }

/-- A port or pin carried something. Choices: log 52 (DESIGN CHOICE, safe). -/
def Block.emit (b : Block) (e : Emission) : Block := b.withOut (b.out ++ [e])

/-- Standby, Measure or Full with no wake or RESET running: the dictionary answers (R40). Choices: log 1 (DESIGN CHOICE, unsafe). -/
def Block.awake (b : Block) : Bool :=
  (b.power.mode == .standby || b.power.mode == .measure || b.power.mode == .full) && b.power.stage == .idle

/-- Measure or Full: lanes run (R72). Choices: log 1 (DESIGN CHOICE, unsafe). -/
def Block.measuring (b : Block) : Bool :=
  (b.power.mode == .measure || b.power.mode == .full) && b.power.stage == .idle

/-- Full: E6 runs (R72, R3). -/
def Block.inFull (b : Block) : Bool := b.power.mode == .full && b.power.stage == .idle

end Sys2Proof.Machine
end

