-- ==== Sys2Proof/Machine/Journal.lean ====
section
/-! DEFINITION. The Geode journal (R426–R435): writing entries, incidents and their protected block, the count of repeats, the
encoding of an entry, the settled run of a read. -/

namespace Sys2Proof.Machine

/-- Entries the ring holds (R429 chapter head: 3,072 entries). -/
abbrev ringSize : Nat := 3072

/-- Entries of a protected block (R430). -/
abbrev protectedSize : Nat := 512

/-- The open incident, if one is open (R430). -/
def Journal.openIncident (j : Journal) : Option Incident :=
  match j.incidents.getLast? with
  | some i => if i.closed then none else some i
  | none => none

/-- Does an entry number lie in the open incident's protected block (R430)? -/
def Journal.isProtected (j : Journal) (n : Nat) : Bool :=
  match j.openIncident with
  | some i => i.start ≤ n && n < i.start + protectedSize
  | none => false

/-- Entry number of the oldest entry held; Next when the journal is empty (R444). -/
def Journal.oldest (j : Journal) : Nat := match j.entries.head? with
  | some e => e.number
  | none => j.next

/-- The entries with the oldest unprotected one removed, and the number of that one (R430). -/
def Journal.evict (j : Journal) : List JEntry → List JEntry × Option Nat
  | [] => ([], none)
  | e :: t =>
    if j.isProtected e.number then
      let r := Journal.evict j t
      (e :: r.1, r.2)
    else (t, some e.number)

/-- Close the open incident when nothing of its block is left unacknowledged (R430). -/
def Journal.tryClose (j : Journal) : Journal :=
  if j.unacked.isEmpty then
    { j with incidents := j.incidents.map fun i => { i with closed := true } }
  else j

/-- A new entry written into the journal (R426, R429, R430): it takes the next number, starts an incident when its effective
class is SAFE or above and none is open, and takes the slot of the oldest unprotected entry of a full ring. sources are the
unacknowledged sources of SAFE and above that the entry stands for. Answers whether an unread entry was overwritten. -/
def Journal.write (j : Journal) (e : JEntry) (sources : List Nat) : Journal × Bool :=
  let starts := decide (3 ≤ e.eff) && !e.event && j.openIncident.isNone
  let e := { e with number := j.next, epoch := j.epoch, start := starts }
  let j := if starts then
      { j with
        incidents := j.incidents ++ [⟨j.nextIncident, j.next, e.time, j.epoch, false⟩]
        nextIncident := j.nextIncident + 1
        unacked := [] }
    else j
  let kept := if j.entries.length < ringSize then (j.entries, none) else j.evict j.entries
  let lost := match kept.2 with
    | some n => decide (j.cursor ≤ n)
    | none => false
  let j := { j with entries := kept.1 ++ [e], next := (j.next + 1) % 2 ^ 32 }
  let j := if j.isProtected e.number && decide (3 ≤ e.eff) && !e.event then
      { j with unacked := j.unacked ++ sources }
    else j
  (if starts || decide (3 ≤ e.eff) then j.tryClose else j, lost)

/-- Acknowledgement of sources reaches the incident (R392, R430). -/
def Journal.acknowledge (j : Journal) (which : Nat → Bool) : Journal :=
  match j.openIncident with
  | none => j
  | some _ => Journal.tryClose { j with unacked := j.unacked.filter fun s => !which s }

/-- May a detection of source s at time t and effective class eff be counted in entry e (R429)? Choices: log 26 (DEDUCED, unsafe). -/
def JEntry.takes (e : JEntry) (epoch s eff t : Nat) (escalated : Bool) : Bool :=
  e.source == s && !e.event && !e.burst && e.eff == eff && !escalated && e.epoch == epoch &&
    decide (0 ≤ chainDiff t e.time) && decide (chainDiff t e.time < 1000) && decide (e.count < 65535)

/-- Was an entry written since the latest core reset? The epoch alone comes back after 256 of them. -/
def Journal.sinceReset (j : Journal) (e : JEntry) : Bool :=
  decide ((j.next + 2 ^ 32 - e.number) % 2 ^ 32 ≤ (j.next + 2 ^ 32 - j.resetAt) % 2 ^ 32)

/-- The newest entry of source s counts n more detections when R429 allows it, as far as its Count goes; whether it did. -/
def Journal.countRepeat (j : Journal) (s eff t n : Nat) (escalated : Bool) : Journal × Bool :=
  match j.entries.reverse.find? fun e => e.source == s && !e.event && !e.burst with
  | some e =>
    if j.sinceReset e && e.takes j.epoch s eff t escalated then
      ({ j with entries := j.entries.map fun x =>
          if x.number == e.number then { x with count := min 65535 (x.count + n) } else x }, true)
    else (j, false)
  | none => (j, false)

/-- Is an entry settled at chain time now: 1,000 us old, or of before the latest core reset (R429)? -/
def Journal.settled (j : Journal) (now : Nat) (e : JEntry) : Bool :=
  !j.sinceReset e || decide (1000 ≤ chainDiff now e.time)

/-- The 16 bytes of an entry, PROTECTED as it stands (R426, R427). -/
def Journal.encode (j : Journal) (e : JEntry) : List Byte :=
  bytesOf 6 e.time ++ bytesOf 1 e.source ++ bytesOf 1 (e.base % 8 + 8 * (e.eff % 8)) ++ bytesOf 2 e.count ++
    bytesOf 4 e.data ++
    bytesOf 1 (boolNat e.sameCycle + 2 * boolNat e.escalated + 4 * boolNat e.burst + 8 * boolNat e.start +
      16 * boolNat e.event + 32 * boolNat (j.isProtected e.number)) ++
    bytesOf 1 e.epoch

/-- Entries a read from a cursor may return: consecutive settled entries (R432). -/
def Journal.readable (j : Journal) (now fromNumber : Nat) : List JEntry :=
  (j.entries.filter fun e => fromNumber ≤ e.number).takeWhile (j.settled now)

/-- An empty journal (POR, Ship; R103); incident numbers go on. Choices: log 22 (DEDUCED, unsafe). -/
def Journal.empty (nextIncident : Nat) : Journal :=
  ⟨[], 0, 0, 0, 0, [], nextIncident, [], 0⟩

/-- E7 writes an entry into the journal; an unread entry overwritten is counted (R431). -/
def Block.journalWrite (b : Block) (e : JEntry) (sources : List Nat) : Block :=
  let r := b.journal.write e sources
  let b := b.withJournal r.1
  if r.2 then b.count32 (Ob.dropCount + 1) else b

/-- E7 writes an event entry (R428). -/
def Block.event (b : Block) (code data : Nat) : Block :=
  b.journalWrite ⟨0, b.now, code, 0, 0, 1, data, false, false, false, false, true, 0⟩ []

end Sys2Proof.Machine
end

