-- ==== Sys2Proof/Machine/Flags.lean ====
section
/-! DEFINITION. Flag words: live and latched bits of the fault sources (R377, R391), the reasons of the service request
(R395, R473), the capability flags they set (R60, R64), the Attention bits. -/

namespace Sys2Proof.Machine

/-- Key of the FaultLive word that holds source s (R391). -/
abbrev liveKey (s : Nat) : Nat := Ob.faultLive + 1 + s / 32

/-- Key of the FaultLatched word that holds source s (R391). -/
abbrev latchedKey (s : Nat) : Nat := Ob.faultLatched + 1 + s / 32

/-- Live bit of a source. -/
def Block.live (b : Block) (s : Nat) : Bool := b.bit (liveKey s) (s % 32)

/-- Latched bit of a source. -/
def Block.latched (b : Block) (s : Nat) : Bool := b.bit (latchedKey s) (s % 32)

/-- Is any latched bit set (R382)? -/
def Block.anyLatched (b : Block) : Bool := (List.range 8).any fun k => b.get (Ob.faultLatched + 1 + k) ≠ 0

/-- SafeHold: 0 NONE, 3 SAFE, 4 HOLD, 5 LOCK (R80). -/
abbrev Block.safeHold (b : Block) : Nat := b.nat Ob.powerStateSafeHold

/-- A detection handed to the Flint unit (R381). -/
def Block.raise (b : Block) (source data : Nat) : Block :=
  b.withFlint { b.flint with detections := b.flint.detections ++ [⟨source, data, 0, none⟩] }

/-- A detection whose base class is at least c (R379). -/
def Block.raiseAtLeast (b : Block) (source data c : Nat) : Block :=
  b.withFlint { b.flint with detections := b.flint.detections ++ [⟨source, data, c, none⟩] }

/-- A detection whose base class is c whatever is programmed (R379). -/
def Block.raiseExactly (b : Block) (source data c : Nat) : Block :=
  b.withFlint { b.flint with detections := b.flint.detections ++ [⟨source, data, 0, some c⟩] }

/-- Bits of ServiceRequest Reason (R395). -/
inductive Reason where
  | singleSlice | shadowServed | channelInvalid | shadowLost | refBasalt | currentDegraded | auxLaneLost | calibration
  | balanceChannel | balancePath | throttleInput | thermometer | thermalEnforced | clockFallback | link | engineStopped
  | nvm | fltN | pwrEn | diagReduced | fifoDrops | operatorClass
  deriving DecidableEq, Repr

/-- Bit number of a reason (R395). -/
def Reason.bit : Reason → Nat
  | .singleSlice => 0 | .shadowServed => 1 | .channelInvalid => 2 | .shadowLost => 3 | .refBasalt => 4
  | .currentDegraded => 5 | .auxLaneLost => 6 | .calibration => 7 | .balanceChannel => 8 | .balancePath => 9
  | .throttleInput => 10 | .thermometer => 11 | .thermalEnforced => 12 | .clockFallback => 13 | .link => 14
  | .engineStopped => 15 | .nvm => 16 | .fltN => 17 | .pwrEn => 18 | .diagReduced => 19 | .fifoDrops => 20
  | .operatorClass => 30

/-- A reason set or cleared; Since takes the chain time of a change (R395). -/
def Block.reason (b : Block) (r : Reason) (on : Bool) : Block :=
  if b.bit Ob.serviceRequestReason r.bit = on then b
  else (b.putBit Ob.serviceRequestReason r.bit on).put Ob.serviceRequestSince b.now

/-- Is a reason set? -/
def Block.hasReason (b : Block) (r : Reason) : Bool := b.bit Ob.serviceRequestReason r.bit

/-- Reasons that follow live bits and registrations (R395: LINK, NVM, FIFO_DROPS, OPERATOR_CLASS). NVM stands from 0xA2 or a failed Save until
the next Save that completes. Choices: log 28 (DEDUCED, unsafe). -/
def Block.followReasons (b : Block) : Block :=
  let b := b.reason .link (b.live 0x60 || b.live 0x61)
  let b := b.reason .nvm b.nvm.saveFailed
  let b := b.reason .fifoDrops (b.live 0xA7)
  b.reason .operatorClass (b.flint.regs.any fun r => r.operator && !r.acked)

/-- The registrations that a reason bit covers (R473). -/
def coveredByReason (source data : Nat) : Bool :=
  [0x22, 0x24, 0x26, 0x40, 0x41, 0x42, 0x43, 0x60, 0x61, 0x81, 0x84, 0x87, 0xA2, 0xA6, 0xA7].contains source ||
    (source == 0x23 && bitOf data 8) || (source == 0xA3 && bitOf data 9) || (source == 0xA4 && data % 256 == 42)

/-- The latched bit of a source cleared, its registrations dropped; the first fault goes with the last latch (R382, R391). -/
def Block.dropLatch (b : Block) (s : Nat) : Block :=
  let b := b.putBit (latchedKey s) (s % 32) false
  let b := b.withFlint { b.flint with regs := b.flint.regs.filter fun r => r.source != s }
  if b.anyLatched then b
  else b.putAll [(Ob.firstFaultSource, 0), (Ob.firstFaultBaseClass, 0), (Ob.firstFaultEffectiveClass, 0),
    (Ob.firstFaultTime, 0), (Ob.firstFaultData, 0), (Ob.firstFaultSameCycle, 0)]

/-- Has every registration of a source been acknowledged (R391)? -/
def Block.acknowledged (b : Block) (s : Nat) : Bool := b.flint.regs.all fun r => r.source != s || r.acked

/-- The live bit of a source clears; an acknowledged latch clears with it (R391, R392). -/
def Block.clearLive (b : Block) (s : Nat) : Block :=
  if b.live s then
    let b := b.putBit (liveKey s) (s % 32) false
    let b := if b.latched s && b.acknowledged s then b.dropLatch s else b
    b.followReasons
  else b

/-- Every live bit clears, as at a core reset (R380); acknowledged latches clear with theirs (R392). -/
def Block.clearEveryLive (b : Block) : Block :=
  (b.flint.regs.map (·.source)).foldl (fun (b : Block) (s : Nat) => b.clearLive s) b

/-- Condition of a source now: detected again, or gone (R391). -/
def Block.follow (b : Block) (s data : Nat) (on : Bool) : Block :=
  if on then b.raise s data else b.clearLive s

/-- Attention bits of R365. -/
def Block.attend (b : Block) (bit : Nat) : Block := if b.isHead then b.putBit Ob.attention bit true else b

end Sys2Proof.Machine
end

