-- ==== Sys2Proof/Machine/Ops.lean ====
section
/-! DEFINITION. The operations several families share: switching a balance switch, the ALARM on DL, entering safe state, one
fault-island cycle (R381–R396), the tone, and closing ports. -/

namespace Sys2Proof.Machine

/-- Channel i of the governor rewritten. -/
def Block.editCh (b : Block) (i : Nat) (f : GovCh → GovCh) : Block :=
  b.withGov { b.gov with ch := editAt b.gov.ch i f }

/-- Does the engine run (R402)? -/
def Block.engineRuns (b : Block) (k : Nat) : Bool := !b.diag.halted.contains k && !b.diag.stopped.contains k

/-- A switch channel no one needs: what an absent channel reads as. -/
def GovCh.idle : GovCh :=
  ⟨0, false, false, .balancing, 0, 0, 0, 0, none, 0, 0, 0, 0, 0, 0, 0, none, false, false, false, 0, 0⟩

/-- Channel i of the governor. -/
def Block.chan (b : Block) (i : Nat) : GovCh := (b.gov.ch[i]?).getD .idle

/-- A sticky saturation flag (R13): engine k has saturated a result. No object shows or clears it, and a core reset keeps it.
Choices: log 54 (DEDUCED, unsafe). -/
def Block.noteSat (b : Block) (k : Nat) (hit : Bool) : Block :=
  if hit && !b.diag.saturated.contains k then b.withDiag { b.diag with saturated := b.diag.saturated ++ [k] } else b

/-- A switch that stops conducting; whoever holds it still does (R206, R209, R217). -/
def GovCh.dark (c : GovCh) : GovCh :=
  { c with on := false }

/-- A switch turned off and released by whoever held it. -/
def GovCh.off (c : GovCh) : GovCh := { c.dark with owner := .balancing }

/-- A switch turned on for an owner (R217). -/
def GovCh.onFor (c : GovCh) (o : Owner) : GovCh :=
  if c.on then { c with owner := o }
  else { c with on := true, owner := o, worked := true }

/-- Does a neighbour of switch i conduct, so that the interlock keeps it off (R206)? -/
def Block.interlocked (b : Block) (i : Nat) : Bool := (b.chan (i + 1)).on || (decide (1 ≤ i) && (b.chan (i - 1)).on)

/-- An on command for switch i from an owner (R206, R217): it runs only while no neighbour conducts. -/
def Block.turnOn (b : Block) (i : Nat) (o : Owner) : Block :=
  b.editCh i fun c => if !c.on && b.interlocked i then { c with owner := o } else c.onFor o

/-- STATE field of ChannelState (R235): a disabled channel shows 5. -/
def GovCh.shown (c : GovCh) : Nat := if c.disabled then 5 else c.state

/-- Is a session open (R211)? -/
def GovCh.openSession (c : GovCh) : Bool := (c.state == 1 || c.state == 2) && !c.disabled

/-- Every switch off, whoever held it (R385, R86). -/
def Block.switchesOff (b : Block) : Block := b.withGov { b.gov with ch := b.gov.ch.map GovCh.off }

/-- Does the DL transmitter run (R278, R291)? -/
def Block.dlTransmits (b : Block) : Bool := decide (2 ≤ b.get Ob.portStatusDlState)

/-- Does the DU transmitter run (R278, R291)? -/
def Block.duTransmits (b : Block) : Bool := decide (2 ≤ b.get Ob.portStatusDuState)

/-- Is a port UP? -/
def Block.portUp (b : Block) : Port → Bool
  | .dl => decide (b.get Ob.portStatusDlState = 4)
  | .du => decide (b.get Ob.portStatusDuState = 4)

/-- Does the transmitter of a port run (R278, R291)? -/
def Block.transmits (b : Block) : Port → Bool
  | .dl => b.dlTransmits
  | .du => b.duTransmits

/-- The frame a port's transmitter is sending. -/
def Block.sending (b : Block) : Port → Option (List Byte)
  | .dl => b.phys.dlFrame
  | .du => b.phys.duFrame

/-- The frame a port's transmitter is sending from now on. -/
def Block.setSending (b : Block) (p : Port) (f : Option (List Byte)) : Block := match p with
  | .dl => b.withPhys { b.phys with dlFrame := f }
  | .du => b.withPhys { b.phys with duFrame := f }

/-- A held state leaves a port (R279): its polarity is opposite to that of the one before it, the running disparity starts again, and eight
K28.5 follow. -/
def Block.sendHeld (b : Block) (p : Port) (e : Emission) : Block :=
  let b := match p with
    | .dl => b.withPhys { b.phys with dlPositive := !b.phys.dlPositive }
    | .du => b.withPhys { b.phys with duPositive := !b.phys.duPositive }
  (b.emit e).emit (.idle p)

/-- A pulse leaves a port (R279, R280). -/
def Block.sendPulse (b : Block) (p : Port) (c : PulseClass) : Block := b.sendHeld p (.pulse p c)

/-- A stamp in ps on the grid of 0.3125 ns, to the nearest of its points (R118, R281). Choices: log 8 (DESIGN CHOICE, unsafe). -/
def onGrid (ps : Nat) : Nat := (4 * ps + 625) / 1250 * 625 / 2

/-- The node starts an ALARM on its head-side port, cutting any frame in progress there, unless one is being sent: then it waits
(R284, R341). A head sends none: its DL carries idle (R340). Choices: log 49 (DEDUCED, unsafe). -/
def Block.sendAlarm (b : Block) : Block :=
  let p := b.link.headSide
  if b.isHead || !b.transmits p then b
  else if b.phys.alarmBusy then b.withPhys { b.phys with alarmWaiting := true }
  else
    let b := if (b.sending p).isSome then b.count32 Ob.lineErrorsAlarmCuts else b
    let b := b.setSending p none
    ((b.withPhys { b.phys with alarmBusy := true }) : Block).sendPulse p .alarm

/-- FLT_N driven low or released. -/
def Block.setFlt (b : Block) (low : Bool) : Block := b.withFlint { b.flint with fltLow := low }

/-- An alarm frame waits for the CAN FD bus of a head that uses it (R371): kind, position, class, first fault, and the time now.
Choices: log 49 (DEDUCED, unsafe). -/
def Block.queueAlarm (b : Block) (kind position cls source : Nat) : Block :=
  if b.isHead && b.on Ob.canConfigEnable then
    b.withHost { b.host with alarms := b.host.alarms ++
      [bytesOf 1 kind ++ bytesOf 1 position ++ bytesOf 1 cls ++ bytesOf 1 source ++ bytesOf 6 b.now ++ bytesOf 6 0] }
  else b

/-- The node enters safe state, or SafeHold rises (R385): switches off, BalanceEnable 0 (R219), ALARM (R284), FLT_N low; a
head tells its host (R365, R371). Choices: log 49 (DEDUCED, unsafe). -/
def Block.enterSafe (b : Block) (cls : Nat) : Block :=
  let rises := decide (b.safeHold < cls)
  let b := (b.switchesOff.put Ob.balanceEnable 0).setFlt true
  if rises then
    let c := (b.put Ob.powerStateSafeHold cls).sendAlarm
    if b.safeHold = 0 then (c.attend 0).queueAlarm 1 0 cls (c.nat Ob.firstFaultSource) else c
  else b

/-- Base class of a detection (R379). -/
def Block.baseClass (b : Block) (d : Detection) : Nat := match d.exactly with
  | some c => c
  | none => max (b.nat (keyOf 0x6000 d.source)) d.atLeast

/-- The base class of two instances of a source detected in one cycle: the higher one holds, so a class of its own becomes a floor where the
other instance carries none (R379, R380). Choices: log 26 (DEDUCED, unsafe). -/
def Detection.join (keep x d : Detection) : Detection :=
  match x.exactly, d.exactly with
  | some m, some n => { keep with exactly := some (max m n) }
  | some m, none => { keep with exactly := none, atLeast := max m d.atLeast }
  | none, some n => { keep with exactly := none, atLeast := max n x.atLeast }
  | none, none => { keep with exactly := none, atLeast := max x.atLeast d.atLeast }

/-- Data of a source detected twice in one cycle (R377, R380), d before x: the lowest channel or instance, with the count of channels as it stands
last, or the flags of both detections of one instance. -/
def joinData (s d x : Nat) : Nat :=
  if s = 0x01 || s = 0x02 || s = 0x84 then min (d % 256) (x % 256) + 256 * max (d / 256) (x / 256)
  else if (s = 0x22 || s = 0x23 || s = 0x42 || s = 0xA3) && d % 256 = x % 256 then d ||| x
  else if s = 0xA2 || s = 0xA5 then min d x
  else if x % 256 < d % 256 then x
  else d

/-- Detections of one cycle merged by source: the data names the lowest instance (R380). -/
def mergeDetections : List Detection → List Detection
  | [] => []
  | d :: t =>
    match mergeDetections t with
    | rest =>
      match rest.find? fun x => x.source == d.source with
      | none => d :: rest
      | some x =>
        let keep : Detection := { d with data := joinData d.source d.data x.data }
        keep.join x d :: rest.filter fun y => y.source != d.source

/-- The order in which the registrations of one cycle are recorded (R381): base class falling, then source ID rising. -/
def insertReg (x : Nat × Detection) : List (Nat × Detection) → List (Nat × Detection)
  | [] => [x]
  | y :: t =>
    if y.1 < x.1 || (y.1 == x.1 && x.2.source < y.2.source) then x :: y :: t else y :: insertReg x t

/-- Is a registration of base class c escalated by one of the earlier registrations (R383)? -/
def escalates (earlier : List Reg) (source c : Nat) : Bool :=
  decide (1 ≤ c) && decide (c ≤ 4) &&
    earlier.any fun r => r.eff == c && !r.acked && !(r.source == source && r.retained)

/-- Does a detection register: its source is not live (R380), or the detection carries a class of its own of SAFE or above that no registration of
the source has reached (R379, R418)? Choices: log 26 (DEDUCED, unsafe). -/
def Block.registersAnew (b : Block) (d : Detection) : Bool :=
  let own := match d.exactly with
    | some c => c
    | none => d.atLeast
  !b.live d.source || (decide (3 ≤ own) && b.flint.regs.all fun r => r.source != d.source || decide (r.eff < own))

/-- What the next cycle would register, in its order, each with its base class (R379–R381). -/
def Block.cycleOrder (b : Block) : List (Nat × Detection) :=
  ((mergeDetections b.flint.detections).filter b.registersAnew).foldl (fun l d => insertReg (b.baseClass d, d) l) []

/-- Highest effective class that the next cycle would register (R381, R383). -/
def Block.cycleWorst (b : Block) : Nat :=
  (b.cycleOrder.map fun x => if escalates b.flint.regs x.2.source x.1 then x.1 + 1 else x.1).foldl max 0

/-- An overflow record takes one more folded registration (R393). Choices: log 27 (DEDUCED, unsafe). -/
def Overflow.fold (o : Overflow) (s eff : Nat) : Overflow :=
  { o with bitmap := setBitTo o.bitmap (s % 32) true, count := min (o.count + 1) 65535, highest := max o.highest eff }

/-- Overflow records with a registration folded into its range (R393). -/
def foldOverflow (s eff now : Nat) : List (Nat × Overflow) → List (Nat × Overflow)
  | [] => [(s / 32, Overflow.fold ⟨0, 0, 0, now⟩ s eff)]
  | (r, o) :: t =>
    if r = s / 32 then (r, o.fold s eff) :: t
    else if s / 32 < r then (s / 32, Overflow.fold ⟨0, 0, 0, now⟩ s eff) :: (r, o) :: t
    else (r, o) :: foldOverflow s eff now t

/-- Places of the capture FIFO (R393). -/
abbrev captureDepth : Nat := 16

/-- The first fault takes a registration of class NOTE or above when no latched bit is set (R382). -/
def Block.firstFault (b : Block) (s base eff data : Nat) (same : Bool) : Block :=
  if b.anyLatched then b
  else b.putAll [(Ob.firstFaultSource, s), (Ob.firstFaultBaseClass, base), (Ob.firstFaultEffectiveClass, eff),
    (Ob.firstFaultTime, b.now), (Ob.firstFaultData, data), (Ob.firstFaultSameCycle, boolVal same)]

/-- A registration of class NOTE or above latches (R382, R391, R396). -/
def Block.latch (b : Block) (s base eff data : Nat) (same : Bool) : Block :=
  let c := (b.firstFault s base eff data same).putBit (latchedKey s) (s % 32) true
  c.withFlint { c.flint with regs := c.flint.regs ++ [⟨s, base, eff, false, false, eff == 2 && !coveredByReason s data, data⟩] }

/-- A registration goes into the capture FIFO, or where that is full into the overflow record of its range (R393). -/
def Block.capture (b : Block) (s base eff data : Nat) (same esc : Bool) : Block :=
  if b.flint.fifo.length < captureDepth then
    b.withFlint { b.flint with
      fifo := b.flint.fifo ++ [⟨0, b.now, s, base, eff, 1, data, same, esc, false, false, false, b.journal.epoch⟩] }
  else b.withFlint { b.flint with overflow := foldOverflow s eff b.now b.flint.overflow }

/-- One registration (R376, R382–R384, R391, R393, R395, R396). earlier are the registrations as the cycle began. -/
def Block.register (b : Block) (earlier : List Reg) (same : Bool) (base : Nat) (d : Detection) : Block :=
  let s := d.source
  let esc := escalates earlier s base
  let eff := if esc then base + 1 else base
  let b := b.putBit (liveKey s) (s % 32) true
  let b : Block := if s = 0xA2 then b.withNvm { b.nvm with saveFailed := true } else b
  let b := if esc then b.count32 Ob.escalationCount else b
  let b := if 1 ≤ eff then b.latch s base eff d.data same else b
  b.capture s base eff d.data same esc

/-- A detection of a source that is live already: a repeat, counted where R429 allows it (R380). -/
def Block.repeatOf (b : Block) (d : Detection) : Block :=
  let eff := match b.flint.regs.reverse.find? fun r => r.source == d.source with
    | some r => r.eff
    | none => b.baseClass d
  match b.flint.fifo.reverse.find? fun e => e.source == d.source && !e.burst with
  | some e =>
    if e.takes b.journal.epoch d.source eff b.now false then
      b.withFlint { b.flint with
          fifo := b.flint.fifo.map fun x => if x == e then { x with count := x.count + 1 } else x }
    else b
  | none => b.withJournal ((b.journal.countRepeat d.source eff b.now 1 false).1)

/-- Sources whose live bit is set for the registering cycle only (R377, "event"). Choices: log 26 (DEDUCED, unsafe). -/
def eventSources : List Nat := [0x45, 0x46, 0x63, 0xA0]

/-- One fault-island cycle (R381): detected sources register in the recorded order, reactions follow, and the cycle enters
safe state when a registration has effective class SAFE or above. Choices: log 26 (DEDUCED, unsafe). -/
def Block.faultCycle (b : Block) : Block :=
  let repeats := (mergeDetections b.flint.detections).filter fun d => !b.registersAnew d
  let earlier := b.flint.regs
  let order := b.cycleOrder
  let worst := b.cycleWorst
  let b := b.withFlint { b.flint with detections := [] }
  let same := decide (1 < order.length)
  let b := order.foldl (fun b x => b.register earlier same x.1 x.2) b
  let b := repeats.foldl (fun b d => b.repeatOf d) b
  let b := if 3 ≤ worst then b.enterSafe worst else b
  let b := eventSources.foldl (fun b s => if b.live s then b.putBit (liveKey s) (s % 32) false else b) b
  b.followReasons

/-- Sources of SAFE or above that are not acknowledged, among those an entry stands for (R430). -/
def Block.unackedOf (b : Block) (e : JEntry) : List Nat :=
  let heavy := fun s : Nat => b.flint.regs.any fun r => r.source == s && decide (3 ≤ r.eff) && !r.acked
  if e.burst then ((List.range 32).filter fun i => bitOf e.data i).map (fun i => (e.source - 0xF0) * 32 + i) |>.filter heavy
  else if decide (3 ≤ e.eff) && heavy e.source then [e.source] else []

/-- A registration whose newest entry may count it is counted there (R429); whether it was. Choices: log 26 (DEDUCED, unsafe). -/
def Block.coalesce (b : Block) (e : JEntry) : Block × Bool :=
  if e.burst then (b, false)
  else
    let r := b.journal.countRepeat e.source e.eff e.time e.count e.escalated
    if r.2 then
      let j := r.1
      let inBlock := match b.journal.entries.reverse.find? fun x => x.source == e.source && !x.event && !x.burst with
        | some x => j.isProtected x.number
        | none => false
      let more := if 3 ≤ e.eff && inBlock then (b.unackedOf e).filter fun s => !j.unacked.contains s else []
      ((b.withJournal { j with unacked := j.unacked ++ more }), true)
    else (b, false)

/-- A burst entry for the first range that has folded registrations takes a freed place (R393). Choices: log 27 (DEDUCED, unsafe). -/
def Block.insertBurst (b : Block) : Block :=
  match b.flint.overflow with
  | [] => b
  | (r, o) :: t =>
    let e : JEntry := ⟨0, o.time, 0xF0 + r, o.highest, o.highest, o.count, o.bitmap, false, false, true, false, false, b.journal.epoch⟩
    let b : Block := b.withFlint { b.flint with fifo := b.flint.fifo ++ [e], overflow := t }
    (b.putBit Ob.faultFlags 0 true).countUp (Ob.dropCount + 2) o.count (2 ^ 32 - 1)

/-- E7 takes the oldest entry of the capture FIFO into the journal (R393, R429). -/
def Block.drainOne (b : Block) : Block :=
  match b.flint.fifo with
  | [] => b
  | e :: t =>
    let b := ((b.withFlint { b.flint with fifo := t }) : Block).insertBurst
    let r := b.coalesce e
    if r.2 then r.1 else b.journalWrite e (b.unackedOf e)

/-- Every entry of the capture FIFO goes to the journal: E7 does so before it stops for Sleep or a core reset. Choices: log 27 (DEDUCED, unsafe). -/
def Block.drainAll (b : Block) : Block := (List.range (captureDepth + 8)).foldl (fun b _ => b.drainOne) b

/-- Eight K23.7 on every UP port (R293). -/
def Block.sendClose (b : Block) : Block :=
  let b := if b.portUp .dl then b.emit (.k237 .dl) else b
  if b.portUp .du then b.emit (.k237 .du) else b

/-- A valid frame or held pulse received on the head-side port of a node restarts its comm-loss count (R89). -/
def Block.heard (b : Block) (p : Port) : Block :=
  if b.awake && !b.isHead && b.link.headSide == p then b.withPower { b.power with commAt := b.now } else b

/-- A write to any object but Unlock disarms an armed unlock, whether it is applied or refused (R41, R42). Choices: log 39 (DEDUCED, unsafe). -/
def Block.disarm (b : Block) : Block := if b.get Ob.unlockState = 1 then b.put Ob.unlockState 0 else b

/-- An open transfer is closed; the next segment or End of its requester is answered 0x060E (R51, R85). -/
def Access.close (a : Access) : Access := match a.transfer with
  | none => a
  | some t => { a with transfer := none, timedOut := (a.timedOut.filter (· != t.requester)) ++ [t.requester] }

/-- A host's transfer to or from the head's own dictionary is closed with it (R85, R357). One to another position, held in the head's own buffer,
stays open at an accepted SLEEP, SHIP or RESET, the model's choice. Choices: log 69 (DESIGN CHOICE, unsafe). -/
def HostPort.closeOwn (p : HostPort) : HostPort := match p.transfer with
  | none => p
  | some t => if t.position = 0 then { p with transfer := none, timedOut := true } else p

/-- The open transfer of the node is closed by a transition (R85). -/
def Block.closeTransfers (b : Block) : Block :=
  (b.withAccess b.access.close).withHost { b.host with spi := b.host.spi.closeOwn, can := b.host.can.closeOwn }

/-- DIAG_REDUCED (R395, R411): the open-wire test is disabled at a node that has cells; slots that waited are dropped. -/
def Block.judgeDiag (b : Block) : Block :=
  let on := b.on Ob.diagnosticScheduleOpenWireEnable
  let b : Block := if on then b else b.withLanes { b.lanes with waitingSlots := [] }
  b.reason .diagReduced (!b.noCells && !on)

/-- Level of pin AXk (k from 0), none when it does not drive (R23, R26, R385, R474). -/
def Block.axLevel (b : Block) (k : Nat) : Option Bool :=
  if !b.awake then none
  else
    let f := b.get (Ob.auxFunction + k + 1)
    if f = 4 then some (b.bit Ob.auxOutput k)
    else if f = 5 then some (b.bit Ob.safeOutputs (if b.safeHold = 0 then k else k + 8))
    else if f = 6 then some (b.on Ob.chargeInhibitCharge)
    else none

end Sys2Proof.Machine
end

