-- ==== Sys2Proof/Machine/Operands.lean ====
section
/-! DEFINITION. Operand forms of dictionary accesses: the encodings of R37, the ranges of R38 and of the Meaning columns, the rules
that tie entries of one object together, and the list of the P objects (R43, R439). -/

namespace Sys2Proof.Machine

/-- Bytes of a scalar type (R37); a DOMAIN has none of its own. -/
def Ty.size : Ty → Nat
  | .u8 => 1 | .u16 => 2 | .u32 => 4 | .u64 => 8
  | .i16 => 2 | .i32 => 4 | .i64 => 8
  | .enum => 1 | .bool => 1 | .q15 => 2 | .domain => 0

/-- Is a type signed (R37, R12)? -/
def Ty.signed : Ty → Bool
  | .i16 => true | .i32 => true | .i64 => true | .q15 => true
  | .u8 => false | .u16 => false | .u32 => false | .u64 => false | .enum => false | .bool => false | .domain => false

/-- Encoding of a value (R37). -/
def Ty.encode (ty : Ty) (v : Int) : List Byte := bytesOfInt ty.size v

/-- Value of an encoding (R37). -/
def Ty.decode (ty : Ty) (l : List Byte) : Int := if ty.signed then intOf l else (natOf l : Int)

/-- Is the index inside a span only -X nodes list (R61)? -/
def xOnly (ix : Nat) : Bool := 0x4000 ≤ ix && ix ≤ 0x402F

/-- Does the node provide the object (R2, R61, R69)? -/
def Block.provides (b : Block) (ix : Nat) : Bool := (b.fuses.variantX || !xOnly ix) && (findObj ix).isSome

/-- Entries 1 to the count of an object (R33, R34). -/
def Block.countOf (b : Block) (o : Obj) : Nat := match o.shape with
  | .simple => 0
  | .record n => n
  | .perCell => b.cells
  | .perTap => b.cells + 1

/-- Sub-indices an object's values stand at: 0 of a simple object, 1 to the count of an array or record (R33). -/
def Block.subsOf (b : Block) (o : Obj) : List Nat := match o.shape with
  | .simple => [0]
  | .record n => (List.range n).map (· + 1)
  | .perCell => (List.range b.cells).map (· + 1)
  | .perTap => (List.range (b.cells + 1)).map (· + 1)

/-- Range and legal codes of an entry (R37, R38). Choices: log 13 (DEDUCED, unsafe). -/
def Entry.accepts (e : Entry) (v : Int) : Bool :=
  decide (e.least ≤ v) && decide (v ≤ e.most) && (e.allowed.isEmpty || e.allowed.contains v)

/-- One word of StreamSchedule (R332). -/
def scheduleOk (v : Int) : Bool :=
  let mode := v / 2 ^ 24
  let period := v % 2 ^ 24
  decide (0 ≤ mode) && decide (mode ≤ 3) && (mode != 2 || (decide (10 ≤ period) && decide (period ≤ 3600000)))

/-- One AnalysisFrequencies value (R239). Choices: log 35 (DEDUCED, unsafe). -/
def frequencyOk (v : Int) : Bool :=
  decide (0 ≤ v) && decide (v ≤ 30) || decide (100 ≤ v) && decide (v ≤ 2000000)

/-- What the owning chapters ask of one value beyond its entry's range: FaultSeverity (R378), CurrentKeeper, StreamSchedule (R332),
AnalysisFrequencies (R239), PebbleSet (R338), the counters that only 0 may be written to (R203, R296, R348, R375). Choices: log 13 (DEDUCED, unsafe). -/
def specialOk (key : Nat) (v : Int) : Bool :=
  let ix := key / 256
  let sub := key % 256
  if ix = 0x6000 then
    if !assigned sub then v == 0
    else if sub = 0x63 then v == 0
    else decide ((floorClass sub : Int) ≤ v) && decide (v ≤ 5)
  else if ix = 0x2032 then decide (0 ≤ v) && (decide (v ≤ 63) || v == 0xFF)
  else if ix = 0x1110 then sub == 6 || scheduleOk v
  else if ix = 0x4000 then frequencyOk v
  else if ix = 0x1120 then v % 2 == 1
  else if ix = 0x1107 || ix = 0x1104 || ix = 0x2050 || ix = 0x1204 || ix = 0x1212 then v == 0
  else if ix = 0x8000 then v == 0x53415645
  else true

/-- Is a value inside the type and range of its entry (R37, R38)? Choices: log 13 (DEDUCED, unsafe). -/
def valueOk (key : Nat) (v : Int) : Bool := match entryOf key with
  | some e => e.accepts v && specialOk key v
  | none => false

/-- Nominal bit rates of R367 in kbit/s. -/
def nominalRate (c : Int) : Nat := if c = 1 then 125 else if c = 2 then 250 else if c = 3 then 500 else 1000

/-- Data bit rates of R367 in kbit/s; the nominal rate without BRS. -/
def dataRate (c n : Int) : Nat :=
  if c = 1 then 1000 else if c = 2 then 2000 else if c = 3 then 4000 else if c = 4 then 5000 else nominalRate n

/-- The rules that tie the entries of an object, or of two, together; read on the block as the write would leave it
(R82, R142, R203, R240, R367, R368, R375, R425). -/
def Block.tiesOk (b : Block) (ix : Nat) : Bool :=
  if ix = 0x1004 then
    decide (b.get Ob.bedrockThresholdsCellUnder < b.get Ob.bedrockThresholdsCellOver) &&
      decide (b.get Ob.bedrockThresholdsThermCold < b.get Ob.bedrockThresholdsThermHot)
  else if ix = 0x2000 then
    decide (b.get Ob.laneAveragingCode - 4 ≤ b.get Ob.laneAveragingShift) &&
      decide (b.get Ob.laneAveragingShift ≤ b.get Ob.laneAveragingCode)
  else if ix = 0x2060 then
    decide (b.get Ob.cellLimitsCellUnder < b.get Ob.cellLimitsCellOver) &&
      decide (b.get Ob.cellLimitsThermCold < b.get Ob.cellLimitsThermHot)
  else if ix = 0x4000 || ix = 0x4001 then
    (List.range 4).all fun k =>
      let f := b.get (Ob.analysisFrequencies + k + 1)
      b.get (Ob.excitationSource + k + 1) != 2 || f == 0 || (decide (1000 ≤ f) && decide (f ≤ 1000000))
  else if ix = 0x5010 then decide (b.get Ob.chargeRangeLow < b.get Ob.chargeRangeHigh)
  else if ix = 0x5011 then decide (b.get Ob.dischargeRangeLow < b.get Ob.dischargeRangeHigh)
  else if ix = 0x1200 then b.on Ob.spiConfigEnable || b.on Ob.canConfigEnable
  else if ix = 0x1210 || ix = 0x1211 then
    let n := b.get Ob.canConfigNominalRate
    let d := b.get Ob.canConfigDataRate
    decide (b.get Ob.canBaseId ≤ if b.get Ob.canConfigIdFormat = 1 then 0x7F7 else 0x1FFFFFF7) &&
      decide (nominalRate n ≤ dataRate d n) &&
      (b.on Ob.spiConfigEnable || b.on Ob.canConfigEnable) &&
      !(decide (b.get Ob.canConfigTdcMode = 0) && decide (4000 ≤ dataRate d n))
  else true

/-- The P entries of one object, in ascending sub-index (R439). -/
def Block.pSubs (b : Block) (o : Obj) : List Nat :=
  (b.subsOf o).filter fun k => match o.entry k with
    | some e => e.pers == .p
    | none => false

/-- The objects with P entries that the node provides, in ascending index (R439). -/
def Block.pObjects (b : Block) : List Obj :=
  objTable.filter fun o => b.provides o.ix && o.entries.any fun e => e.pers == .p

/-- Value bytes of a P entry: a DOMAIN's stored block or the encoded scalar. -/
def Block.entryBytes (b : Block) (o : Obj) (sub : Nat) : List Byte :=
  if o.ix = 0x4010 then b.socTable
  else if o.ix = 0x4012 then b.tempCurve
  else match o.entry sub with
    | some e => e.ty.encode (b.get (keyOf o.ix sub))
    | none => []

/-- Is an object of RWU access (R39)? Its access is the same in both roles. -/
def Entry.rwu (e : Entry) : Bool := e.accNode == .rwu

end Sys2Proof.Machine
end

