-- ==== Sys2Proof/Machine/Admission.lean ====
section
/-! DEFINITION. Engine-load admission (R66–R68): the load estimate of each engine for a written configuration, exact as a fraction
and rounded up to a whole percent. -/

namespace Sys2Proof.Machine

/-- Is this node the current keeper (R182)? -/
def Block.isKeeper (b : Block) : Bool :=
  b.get Ob.currentKeeper == b.get Ob.position && decide (b.get Ob.currentKeeper ≤ 63)

/-- Lane averaging count N as written (R67, R145). -/
def Block.averaging (b : Block) : Nat := 2 ^ b.nat Ob.laneAveragingCode

/-- Windows per second W as a fraction (R67). -/
def Block.windowRate (b : Block) : Nat × Nat :=
  let k := b.nat Ob.mainsMultiple
  let m := b.get Ob.windowMode
  if m = 1 then (1000000, b.nat Ob.windowLength)
  else if m = 2 then (65, k)
  else if m = 3 then (130, k)
  else (0, 1)

/-- Entries of a list of (frequency, source) that count, for a source code (R67). -/
def countEntries (l : List (Nat × Nat)) (source : Nat) : Nat :=
  (l.filter fun e => e.1 != 0 && e.2 == source).length

/-- The node's own analysis entries (R239, R240). Choices: log 40 (DEDUCED, unsafe). -/
def Block.ownEntries (b : Block) : List (Nat × Nat) :=
  (List.range 4).map fun k => (b.nat (Ob.analysisFrequencies + k + 1), b.nat (Ob.excitationSource + k + 1))

/-- A sum of two fractions. -/
def addFrac (x y : Nat × Nat) : Nat × Nat := (x.1 * y.2 + y.1 * x.2, x.2 * y.2)

/-- A fraction multiplied by a natural. -/
def mulFrac (k : Nat) (x : Nat × Nat) : Nat × Nat := (k * x.1, x.2)

/-- Frames per second of one class of StreamSchedule (R67). -/
def Block.classRate (b : Block) (word : Nat) : Nat × Nat :=
  let mode := word / 2 ^ 24
  let period := word % 2 ^ 24
  if mode = 1 then b.windowRate else if mode = 2 then (1000, period) else (0, 1)

/-- Own stream frames per second F (R67): the STATUS term is at least 1; the keeper adds its KEEPER frames. -/
def Block.frameRate (b : Block) : Nat × Nat :=
  let c := fun k => b.classRate (b.nat (Ob.streamSchedule + k))
  let st := c 5
  let st := if st.1 < st.2 then (1, 1) else st
  let f := addFrac (addFrac (addFrac (addFrac (c 1) (c 2)) (c 3)) (c 4)) st
  if b.isKeeper then addFrac f (mulFrac (1 + countEntries b.chainSet 1) b.windowRate) else f

/-- Load of engine k in percent, rounded up (R67). Choices: log 40 (DEDUCED, unsafe). -/
def Block.engineLoad (b : Block) (k : Nat) : Nat :=
  let w := b.windowRate
  if k < 4 then
    let c := if b.get Ob.tapCompensationMode = 1 then 80 else 64
    let lanes := (2 * c, b.averaging)
    let wins := if b.get Ob.windowMode = 4 then (3, 1) else (6 * w.1, 1000 * w.2)
    let f := addFrac lanes wins
    6 + ceilDiv f.1 f.2
  else if k = 4 then
    if b.isKeeper then 35 + 4 * countEntries b.chainSet 1 else 30
  else if k = 5 then 55
  else if k = 6 then
    if !b.fuses.variantX then 0
    else
      let own := b.ownEntries
      let amb := countEntries own 1
      16 + 16 * countEntries own 2 + 12 * amb + (if amb = 0 then 0 else ceilDiv w.1 (20 * w.2))
  else
    let f := b.frameRate
    25 + ceilDiv f.1 (100 * f.2) + (if b.get Ob.diagnosticScheduleOpenWireRotation = 3 then 5 else 0)

/-- Does a configuration pass admission: no engine above 90 % (R66)? -/
def Block.admitted (b : Block) : Bool := (List.range 8).all fun k => decide (b.engineLoad k ≤ 90)

/-- The objects whose write starts an admission check (R66). -/
def admissionObjects : List Nat :=
  [0x2000, 0x2001, 0x2002, 0x2003, 0x2020, 0x2032, 0x4000, 0x4001, 0x1110, 0x9001]

end Sys2Proof.Machine
end

