-- ==== Sys2Proof/Machine/Schedule.lean ====
section
/-! DEFINITION. The schedule of the windows (R114, R166–R171) and the QUIET pauses before and in quiet windows (R188): boundaries, the span of
the window that follows another, and what a block or a tick gives the windows it falls in. Window boundaries are held in 1/64 us (R167); the stop of
a window that spans the wrap of chain time lies beyond it. -/

namespace Sys2Proof.Machine

/-! ### Instants in 1/64 us (R114, R167) -/

/-- Wrap of chain time in 1/64 us. -/
abbrev wrap64 : Nat := 64 * t48

/-- Difference x − y of two instants in 1/64 us, modulo the wrap, as a signed value (R114). -/
def diff64 (x y : Nat) : Int :=
  let d := ((x : Int) - y) % (wrap64 : Int)
  if 2 * d < wrap64 then d else d - wrap64

/-- Difference of two instants in sub-ticks of chain time, modulo the wrap (R114). -/
def subDiff (x y : Nat) : Int :=
  let w := 400 * t48
  let d := (x + w - y % w) % w
  if 2 * d < w then d else (d : Int) - w

/-- Do two spans of 1/64 us, of chain time modulo the wrap, share an instant (R114)? -/
def spansMeet (x y : Nat × Nat) : Bool := decide (diff64 x.1 y.2 < 0) && decide (diff64 y.1 x.2 < 0)

/-- A chain time in us on the scale of a span from lo (1/64 us): beyond the wrap where the span reaches over it (R114). -/
def usFrom (lo t : Nat) : Nat := if t + t48 / 2 < lo / 64 then t + t48 else t

/-- Whole microseconds t of [start, start + n) with lo ≤ 64 t < hi. Choices: log 30 (DEDUCED, unsafe). -/
def overlap (start n lo hi : Nat) : Nat :=
  let s := usFrom lo start
  min (s + n) (ceilDiv hi 64) - max s (ceilDiv lo 64)

/-! ### Windows that take something -/

/-- The windows that may still take samples: the one waiting to be published and the open one. -/
def Block.onWindows (b : Block) (f : Window → Window) : Block :=
  b.withWin { b.win with closing := b.win.closing.map f, opened := b.win.opened.map f }

/-- One channel's sums in a window rewritten with the weight of a block. -/
def Window.channel (w : Window) (ch start n : Nat) (f : Nat → ChanSum → ChanSum) : Window :=
  { w with sums := editAt w.sums ch (f (overlap start n w.start w.stop)) }

/-- The open window carries a flag of R178 from now on. -/
def Block.flagWindow (b : Block) (bit : Nat) : Block :=
  b.withWin { b.win with opened := b.win.opened.map fun w => { w with flags := setBitTo w.flags bit true } }

/-- Is an instant (1/64 us) outside a window: at or past its end, or, after a step of the timebase, before its start? -/
def Window.over (w : Window) (x : Nat) : Bool :=
  decide (diff64 x w.start < 0) || decide (((w.stop - w.start : Nat) : Int) ≤ diff64 x w.start)

/-! ### Schedules (R166–R171) -/

/-- Length of a window of FIXED or of the nominal schedule as a fraction, in 1/64 us (R166, R167). Choices: log 8 (DESIGN CHOICE, unsafe). -/
def Windows.nominal64 (w : Windows) : Nat × Nat :=
  if w.mode = 1 then (64 * w.length, 1)
  else if w.mode = 2 then (64 * w.multiple * 10 ^ 9, max 1 w.nominal)
  else (32 * w.multiple * 10 ^ 9, max 1 w.nominal)

/-- Boundary j of FIXED or of the nominal schedule, held to 1/64 us (R167): to the nearest. Choices: log 8 (DESIGN CHOICE, unsafe). -/
def Windows.boundary (w : Windows) (j : Nat) : Nat :=
  let p := w.nominal64
  (2 * j * p.1 + p.2) / (2 * p.2)

/-- Number of the last boundary at or before an instant (1/64 us). -/
def Windows.indexAt (w : Windows) (x : Nat) : Nat :=
  let p := w.nominal64
  let j := if p.1 = 0 then 0 else x * p.2 / p.1
  if w.boundary (j + 1) ≤ x then j + 1 else if x < w.boundary j then j - 1 else j

/-- Number of the first boundary at or after an instant (1/64 us). -/
def Windows.nextIndex (w : Windows) (x : Nat) : Nat :=
  let j := w.indexAt x
  if w.boundary j < x then j + 1 else j

/-- Modes that may follow the keeper (R167). -/
def Windows.mains (w : Windows) : Bool := w.mode == 2 || w.mode == 3

/-- Is the tracker LOCKED or in HOLDOVER (R167)? -/
def Block.trackerServes (b : Block) : Bool :=
  b.get Ob.mainsTrackerState = 2 || b.get Ob.mainsTrackerState = 3

/-- The mains frequency in use is the nominal one in force (R173). -/
def Block.showNominal (b : Block) : Block := b.put Ob.mainsFrequency b.win.nominal

/-- The settings that a boundary puts in force (R171); a nominal frequency in use changes with them (R173). -/
def Block.loadWindowSettings (b : Block) : Block :=
  let shown := b.get Ob.mainsFrequency = b.win.nominal && !b.win.keeperSchedule && !(b.isKeeper && b.trackerServes)
  let b := b.withWin { b.win with
      mode := b.nat Ob.windowMode, length := b.nat Ob.windowLength, multiple := b.nat Ob.mainsMultiple,
      nominal := b.nat Ob.mainsConfigNominal, threshold := b.get Ob.mainsConfigRippleThreshold, hold := b.get Ob.mainsConfigHoldTime }
  if shown then b.showNominal else b

/-- The tracker's period estimate times k, halved in TRACKED, to the nearest 1/64 us (R168); the estimate is held in ns. Choices: log 8
(DESIGN CHOICE, unsafe). -/
def Block.keeperLength (b : Block) : Nat :=
  let p := b.win.multiple * b.keeper.period * 64
  if b.win.mode = 3 then (p + 1000) / 2000 else (p + 500) / 1000

/-- Start, stop and number of the window that follows one under the settings in force; none in INSTANT (R166–R171). On FIXED and the nominal schedule
its end is the first boundary at least half a window after its start: after a window of the same schedule, the next one. Chain time starts again
from 0 at its wrap, and with it the boundaries of both. Choices: log 30 (DEDUCED, unsafe). -/
def Block.nextSpan (b : Block) (old : Window) : Option (Nat × Nat × Nat) :=
  let e := old.stop % wrap64
  if b.win.mode = 4 then none
  else if b.win.keeperSchedule then
    some (e, e + (if b.isKeeper then b.keeperLength else old.stop - old.start), (old.seq + 1) % 2 ^ 32)
  else
    let p := b.win.nominal64
    let j := b.win.nextIndex (e + p.1 / (2 * p.2))
    some (e, b.win.boundary j, (j - 1) % 2 ^ 32)

/-- The boundary, with the number of the window after it, that a keeper record announced while no window was open (R86), unless HoldTime has passed
since the last record (R169). -/
def Block.announcedStart (b : Block) : Option (Nat × Nat) :=
  let gone := match b.win.lastRecord with
    | some r => decide (b.win.hold ≤ chainDiff b.now r)
    | none => true
  if b.win.mains && !gone then b.win.announced else none

/-- The first window that can open at or after an instant (1/64 us), where none is open, with the settings in force (R86, R171): whether the keeper's
schedule names it, start, stop and number; none in INSTANT. Choices: log 30 (DEDUCED, unsafe). -/
def Block.firstSpan (b : Block) (x : Nat) : Option (Bool × Nat × Nat × Nat) :=
  if b.win.mode = 4 then none
  else match b.announcedStart with
    | some (s, n) => some (true, s, s + b.win.nominal64.1 / b.win.nominal64.2, n)
    | none =>
      let j := b.win.nextIndex x
      let j := if wrap64 ≤ b.win.boundary j then 0 else j
      some (false, b.win.boundary j, b.win.boundary (j + 1), j % 2 ^ 32)

/-- Start and number of the next window (R188): after the open one, or of the first after lanes have run for 1 ms (R86). -/
def Block.upcoming (b : Block) : Option (Nat × Nat) :=
  let c := b.loadWindowSettings
  match b.win.opened with
  | some w => (c.nextSpan w).map fun x => (x.1, x.2.2)
  | none =>
    let t := if 1000 ≤ chainDiff b.now b.lanes.startAt then b.now else (b.lanes.startAt + 1000) % t48
    if b.measuring then (c.firstSpan (64 * t - 63)).map fun x => (x.2.1, x.2.2.2) else none

/-! ### QUIET pauses (R188) -/

/-- Is a window with a number quiet (R188)? -/
def Block.isQuiet (b : Block) (seq : Nat) : Bool :=
  let m := b.nat Ob.tapConfigQuietEvery
  b.get Ob.tapCompensationMode == 2 && m != 0 && seq % m == 0

/-- How long the 100 us before a quiet window that follows have been running at chain time t, in 1/64 us; negative before them. -/
def Block.pauseSince (b : Block) (t : Nat) : Option Int := match b.upcoming with
  | some (s, n) => if b.isQuiet n then some (diff64 (64 * (t + 100)) s) else none
  | none => none

/-- Is the open window quiet under the settings in force (R188)? -/
def Block.inQuiet (b : Block) : Bool :=
  b.get Ob.tapCompensationMode == 2 && b.nat Ob.tapConfigQuietEvery != 0 && b.win.opened.any fun w => bitOf w.flags 6

/-- Is a QUIET pause in force at chain time t (R188): a quiet window, or the 100 us before one? -/
def Block.quietPause (b : Block) (t : Nat) : Bool :=
  b.inQuiet || (b.pauseSince t).any fun d => decide (0 ≤ d)

/-- Is a QUIET pause in force at t, or does one begin within the 2.1 ms after it (R188, R400)? Fixed windows of 1 ms follow one another faster than
that, so the next three numbers are looked at. -/
def Block.pauseNear (b : Block) (t : Nat) : Bool :=
  let step := if b.win.mode = 1 then b.win.length else 7000
  b.quietPause t || b.upcoming.any fun x => (List.range 3).any fun j =>
    b.isQuiet (x.2 + j) && decide (0 ≤ diff64 (64 * (t + 2200)) (x.1 + 64 * (j * step)))

end Sys2Proof.Machine
end

