-- ==== Sys2Proof/Machine/Fresh.lean ====
section
/-! DEFINITION. The block as a reset leaves it: every engine at rest, every object at its default (R43, R98, R103). -/

namespace Sys2Proof.Machine

/-- Terms of a lane that does not exist. -/
def LaneTerms.none : LaneTerms := ⟨0, 0, 0, 0, 0, false, false, false⟩

/-- A channel's comparator at rest. -/
def Comparator.rest : Comparator := ⟨0, 0, false, 0, 0, false⟩

/-- An aux pin's counters at rest. -/
def AuxPin.rest : AuxPin := ⟨0, 0, 0, 0, 0, 0, 0, false, false, false, false⟩

/-- "No value" of the I32 result objects (R180). -/
abbrev noValue : Int := -(2 ^ 31)

/-- An entry that is not there. -/
def ImpEntry.idle : ImpEntry := ⟨0, 0, 0, 0, [], [], [], none, none, ⟨0, 0, 0, [], none⟩, false⟩

/-- A cell of which nothing is retained. -/
def SocCell.unknown : SocCell := ⟨false, 0, 0, 0, false, 0, 0, 0, none, none, 0⟩

/-- Bedrock on the defaults of its objects, CellCount 32 (R98). Choices: log 4 (DESIGN CHOICE, unsafe). -/
def Bedrock.fresh : Bedrock :=
  ⟨60, 3650, 2500, 600, -300, 15, 32, [], 10000, 10000, 3435, List.replicate 32 0, List.replicate 32 0, List.replicate 32 0, 3000,
    false, [], [], none, 0, []⟩

/-- Power control at rest in a state, with nothing known of an earlier wake. Choices: log 4 (DESIGN CHOICE, unsafe). -/
def Power.fresh (mode : Mode) : Power :=
  ⟨mode, .idle, true, 0, 0, 0, 0, false, 0, false, false, [], none, false, false, 0⟩

/-- The Flint unit with nothing registered. -/
def Flint.fresh : Flint := ⟨[], [], [], [], false, false⟩

/-- NVM control before step 4 has read flash. -/
def Nvm.fresh : Nvm := ⟨none, 0, 0, none, 0, 0, 0, none, false, false, [], true, [], [], [], []⟩

/-- Chain time from 0, no SYNC known, no monitor finding. -/
def Timebase.fresh : Timebase := ⟨0, 0, none, false, 0, none, 0, 0, false, List.replicate 45 0, List.replicate 45 0, none⟩

/-- Ports idle. -/
def Phys.fresh : Phys := ⟨none, none, false, false, false, false, false, false, none, false, false, 0⟩

/-- The governor with every channel IDLE. Choices: log 4 (DESIGN CHOICE, unsafe). -/
def Gov.fresh : Gov :=
  ⟨List.replicate 32 .idle, 0, 0, [], [], 0, 0, 0, none, 0, false, false, List.replicate 32 ⟨0, 0⟩, false⟩

/-- Lanes stopped. Choices: log 4 (DESIGN CHOICE, unsafe). -/
def Lanes.fresh : Lanes :=
  { running := false, startAt := 0, terms := List.replicate 37 .none, fifos := List.replicate 32 [], currentFifo := [], auxFifo := []
    blocks := List.replicate 32 0, fine := List.replicate 32 0, raw := List.replicate 32 [], lags := List.replicate 32 [], meters := []
    edges := [], shadowServes := none, ratioNum := 1, ratioDen := 1, visits := List.replicate 32 0
    maps := List.replicate 32 (0, 0), badFrames := [], currentDiverge := 0, currentPending := false
    currentKept := 0, currentMeans := (0, 0), auxLost := [], bPin := 0, pinRuns := List.replicate 33 0
    pairRuns := List.replicate 33 0, shorts := [], lowSince := List.replicate 32 none, comparators := List.replicate 32 .rest
    limits := [], limitsNow := [], averagingPending := false, averagingNext := none, averagingBefore := none, dropAt := none
    slot := none, failedSlots := [], waitingSlots := [], lastSlot := none, confirm := none, tapOpen := none }

/-- No window open and none published. -/
def Windows.fresh : Windows := ⟨4, 0, 0, 0, 0, 0, false, none, none, false, none, false, none, false, (0, 0), ⟨0, 0, 0, 0, []⟩⟩

/-- No capture taken. -/
def Captures.fresh : Captures := ⟨none, none, [], 0⟩

/-- An interval sequence not begun. -/
def Sequence.fresh : Sequence := ⟨0, 0, 0, [], none⟩

/-- The keeper's sums at 0. -/
def Keeper.fresh : Keeper :=
  { charge := 0, weight := 0, nextCharge := 0, nextWeight := 0, remainder := 0, total := 0, epoch := 0, lastTotal := none
    lastEpoch := 0, lastPosition := 0, recent := [], history := [], sequences := List.replicate 4 .fresh
    qualifiedSince := none, weakSince := none, holdSince := none, period := 0, steps := [], announced := List.replicate 4 0
    phasors := [], outgoing := [], laneSums := (0, 0, 0), overs := [], sizes := [], closedState := 0 }

/-- E6 at rest, with no cell's state of charge known. Choices: log 4 (DESIGN CHOICE, unsafe). -/
def Imp.fresh : Imp :=
  { working := false, entries := List.replicate 4 .idle, active := none, nextOdd := 0, nextEven := 0, activeSpans := []
    candidates := [], sizes := [], steps := [], blocks := List.replicate 32 [], stretches := [], spoiled := []
    soc := List.replicate 32 .unknown, continuous := false, lastEpoch := none, packTotal := 0
    chainTime := 1000000, chainStep := 10000, medians := List.replicate 4 noValue, medianRs := noValue, medianSeq := 0
    outliers := [], shown := 0, conducted := [], startedAt := 0, stoppedAt := 0, stoppedFor := 0 }

/-- The link protocol with nothing heard and nothing sent. Choices: log 4 (DESIGN CHOICE, unsafe). -/
def Link.fresh : Link :=
  { census := [], own := [], queue := [], streamSeq := 0, pebble := 0, pebbleLeft := 0, pebbleType := 0, pebbleReason := 0, pebbleSince := 0
    headSide := .dl, taken := none, tentative := none, baseline := 0, sweep := none, impedLast := 0, lastSent := []
    voltsWaits := false, snapWaits := false, lastCommit := none, dlSecond := 0, duSecond := 0, delays := [], splitDelays := []
    heldDelays := false, round := none, roundWanted := false, idRound := false, splitEnds := false, breakAt := none, wakeCensus := []
    probing := none, nextNumber := 1, broadcasts := 0, commandSeq := List.replicate 64 0, commands := [], forwards := []
    trains := [], hostTriggers := [], waiting := [], behind := [], statusDue := false, lastStatus := none, resumeFrom := none
    records := [], closedTrains := List.replicate 7 0, assembling := [], pebbles := [], split := none, lacked := []
    missing := List.replicate 64 0, clear := false, nodeHolds := [], summary := [], medians := List.replicate 4 noValue
    medianRs := noValue, medianSeq := 0, retryAt := none, configDue := false, headWrite := none }

/-- A host carrier with nothing accepted. -/
def HostPort.fresh : HostPort := ⟨none, none, none, false, none, false, 0⟩

/-- The host side at rest, CAN FD on its defaults. -/
def HostSide.fresh : HostSide := ⟨.fresh, .fresh, false, false, [], false, [], [], []⟩

/-- The block right after the release of POR, in Sleep, or while POR is asserted, Off (R75, R98, R103). Choices: log 4 (DESIGN CHOICE, unsafe). -/
def Block.fresh (f : Fuses) (mode : Mode) : Block :=
  { fuses := f, power := .fresh mode, bedrock := .fresh, journal := .empty 1, flint := .fresh, nvm := .fresh, tb := .fresh
    phys := .fresh, gov := .fresh, lanes := .fresh, win := .fresh, cap := .fresh, keeper := .fresh
    aux := ⟨List.replicate 8 .rest, List.replicate 6 0⟩, imp := .fresh, link := .fresh, access := ⟨none, [], none, false⟩
    host := .fresh, diag := ⟨[], [], List.replicate 8 none, [], [], []⟩
    thermal := ⟨List.replicate 37 0, List.replicate 37 0, [], 0, 0, none, List.replicate 8 0, List.replicate 8 0,
      List.replicate 8 0, List.replicate 8 0⟩
    chainSet := List.replicate 4 (0, 0), socTable := [], tempCurve := [], dict := [], out := [], free := 0 }

/-- What the model takes for the part's fuses and factory record: an -X part, unique ID 0, firmware 3.0.0, switches of 450 mOhm, a reference
of 1.000 V, calibration without any correction, and 74 different dither seeds. Choices: log 3 (DESIGN CHOICE, unsafe). -/
def Fuses.model : Fuses :=
  { variantX := true, uid := 0, firmware := 0x03000000, cal := List.replicate 32 ⟨0, 0, 0, 0⟩, ron25 := List.replicate 32 450
    narrowOffset := 0, narrowGain := 0, wideOffset := 0, wideGain := 0, auxOffset := 0, auxGain := 0, basalt25 := 1000000000
    basaltSlope := 0, seeds := List.replicate 37 ⟨0, 0, 0, 0, (0, 0, 0, 0)⟩, mapSeeds := List.replicate 32 (0, 0)
    dither := (List.range 37).map fun k => (2 * k + 1, 2 * k + 2) }

end Sys2Proof.Machine
end

