-- ==== Sys2Proof/Machine/State.lean ====
section
/-! DEFINITION. The state of the model: the package (Block), its flash, and the queue of commands that wait, first in first
out; faults and refusals; the state after reset. -/

namespace Sys2Proof.Machine

/-- No command of the model ends in a fault: what the spec calls a fault is registered within the state (R376, R381).
The one constructor exists because the interface asks for a type; nobody raises it, which is safe. -/
inductive Fault where
  | unreachable
  deriving DecidableEq, Repr

/-- Why a command has no meaning. -/
inductive Refusal where
  /-- Raised by an arm of exec whose command has no meaning yet; safe, nothing is claimed of it. -/
  | notModelled (mnemonic : String)
  deriving DecidableEq, Repr

/-- The whole machine. flash holds the writable sectors of the data flash (R438) in canonical form, an unlisted byte reading as
erased; blk is every register, queue and engine of the package; pending is the model's queue of commands. -/
structure State where
  flash : List Host.Cell
  blk : Block
  pending : List Instr
  deriving DecidableEq, Repr

/-- The machine right after power-on reset has released (R75, R88, R98): in Sleep, Bedrock on its defaults, the flash erased but for the
factory record. Choices: log 3 (DESIGN CHOICE, unsafe). -/
def State.reset : State := ⟨[], Block.fresh Fuses.model .sleep, []⟩

/-- Outcome of a command. -/
abbrev Out : Type := Host.Outcome State Fault Refusal

/-- A command that changes the package only. Choices: log 1 (DESIGN CHOICE, unsafe). -/
def onBlock (f : Block → Block) (s : State) : Out := .next { s with blk := f s.blk }

/-- A command that changes the package and may read flash. Choices: log 1 (DESIGN CHOICE, unsafe). -/
def onBlockReading (f : List Host.Cell → Block → Block) (s : State) : Out := .next { s with blk := f s.flash s.blk }

/-- A command that changes the package and its flash. Choices: log 1 (DESIGN CHOICE, unsafe). -/
def onBoth (f : List Host.Cell → Block → List Host.Cell × Block) (s : State) : Out :=
  .next { s with flash := (f s.flash s.blk).1, blk := (f s.flash s.blk).2 }

end Sys2Proof.Machine
end

