-- ==== Sys2Proof/Machine/Governor.lean ====
section
/-! DEFINITION. The charge governor (R205–R236): sessions, the charge law of a tick, arbitration, the power budget, learning,
plausibility, confirmations, the throttle and the sleep plan. -/

namespace Sys2Proof.Machine

/-- Key of a per-cell entry of channel i (from 0). -/
abbrev chKey (base i : Nat) : Nat := base + i + 1

/-- Applied throttle of 1.0 with 31 fraction bits (R12, R222). -/
abbrev thetaOne : Nat := 2 ^ 31

/-- A Q15 code as a throttle value: 0x7FFF stands for 1.0 (R12). -/
def thetaOfCode (c : Int) : Nat := if c = 0x7FFF then thetaOne else (c * 2 ^ 16).toNat

/-- The Q15 code of a throttle value. -/
def codeOfTheta (x : Nat) : Int := min (x / 2 ^ 16) 0x7FFF

/-- Limit of the signed 48-bit totals, in 0.01 uC (R224). -/
abbrev sat48 : Int := 2 ^ 47 * 100

/-- T of channel i in uC (R211). -/
def Block.targetUc (b : Block) (i : Nat) : Int := b.get (chKey Ob.balanceTarget i) * 1000

/-- The error e of a channel in 1/6,553,600 uC, exact over both fraction formats (R213). Choices: log 34 (DEDUCED, unsafe). -/
def GovCh.error (c : GovCh) : Int := c.qref * 100 - c.qmeas * 65536

/-- One uC in the unit of GovCh.error. -/
abbrev errorUc : Int := 6553600

/-- e held in a signed 32-bit uC field (R224). -/
def GovCh.error32 (c : GovCh) : Int := clampInt (-(2 ^ 31) * errorUc) ((2 ^ 31 - 1) * errorUc) c.error

/-- Publishes SessionRemoved and BalanceRemoved of channel i in whole uC (R211, R213). -/
def Block.publishCharge (b : Block) (i : Nat) : Block :=
  let c := b.chan i
  (b.put (chKey Ob.sessionRemoved i) (c.qmeas / 100)).put (chKey Ob.balanceRemoved i) (c.removed / 100)

/-- Saturation in channel i (R224): sticky SATURATED, SATURATION, and 0x45 once until SATURATED is cleared. -/
def Block.saturated (b : Block) (i : Nat) : Block :=
  let b := b.putBit Ob.governorFlags 0 true
  if b.bit (chKey Ob.channelState i) 6 then b
  else (b.putBit (chKey Ob.channelState i) 6 true).raise 0x45 (i + 1)

/-- Charge added to both removal totals of channel i, saturating at 48 bits (R213, R224). -/
def Block.addCharge (b : Block) (i : Nat) (q : Int) : Block :=
  let c := b.chan i
  let m := clampInt (-sat48) (sat48 - 100) (c.qmeas + q)
  let r := clampInt (-sat48) (sat48 - 100) (c.removed + q)
  let clipped := decide (m ≠ c.qmeas + q) || decide (r ≠ c.removed + q)
  let b := (b.editCh i fun c => { c with qmeas := m, removed := r }).publishCharge i
  if clipped then b.saturated i else b

/-- A session's switch goes off and its state changes (R211). -/
def Block.endSession (b : Block) (i state : Nat) : Block :=
  b.editCh i fun c =>
    let c := if c.owner == .balancing then c.off else c
    { c with state := state }

/-- Effect of an accepted BalanceTarget of T mC on channel i (R211): a target below what has been removed ends the session, whatever
Q_ref. -/
def Block.targetWritten (b : Block) (i : Nat) (mC : Int) : Block :=
  let c := b.chan i
  let b := b.put (chKey Ob.balanceTarget i) mC
  if c.disabled then b
  else if mC = 0 then b.endSession i 0
  else if c.state = 0 || c.state = 3 || c.state = 4 then
    let b := b.editCh i fun c => { c with qref := 0, qmeas := 0, state := 1 }
    (b.put (chKey Ob.sessionTimer i) (b.get Ob.sessionLimit)).publishCharge i
  else
    let t := mC * 1000
    if t * 100 < c.qmeas then (b.endSession i 3).putBit (chKey Ob.channelState i) 5 true
    else if c.qref ≤ t * 65536 then
      if c.state = 2 && decide (c.qref < t * 65536) then b.editCh i fun c => { c with state := 1 } else b
    else b.editCh i fun c => { c with qref := t * 65536, state := 2 }

/-- Effect of an accepted SessionTimer of v seconds on channel i (R211). -/
def Block.timerWritten (b : Block) (i : Nat) (v : Int) : Block :=
  let b := b.put (chKey Ob.sessionTimer i) v
  if v = 0 && (b.chan i).openSession then b.endSession i 4 else b

/-- Effect of an accepted BalanceEnable: each channel whose bit falls stops conducting for balancing (R218). -/
def Block.enableWritten (b : Block) (v : Int) : Block :=
  let b := b.put Ob.balanceEnable v
  (List.range 32).foldl (fun b i =>
    if b.bit Ob.balanceEnable i then b
    else b.editCh i fun c => if c.on && c.owner == .balancing then c.off else c) b

/-- The channels frozen as a whole (R218): safe state, thermal level 2 or 3, the pre-shutdown stop, lanes stopped. -/
def Block.frozenAll (b : Block) : Bool :=
  decide (b.safeHold ≠ 0) || decide (2 ≤ b.get Ob.throttleLevelLevel) || b.live 0x82 || !b.measuring

/-- Is channel i's reference frozen (R218)? -/
def Block.frozen (b : Block) (i : Nat) : Bool := b.frozenAll || !b.bit Ob.balanceEnable i

/-- ChannelState as a read returns it (R235). -/
def Block.channelStateWord (b : Block) (i : Nat) : Nat :=
  let c := b.chan i
  b.nat (chKey Ob.channelState i) / 16 * 16 + c.shown + 8 * boolNat (c.openSession && b.frozen i)

/-- Path resistance of channel i in 1/1,024 mOhm (R226). -/
def Block.pathFine (b : Block) (i : Nat) : Nat :=
  b.nat (chKey Ob.pathResistance i) * 1024 + (b.chan i).pathFraction

/-- I_model of a voltage in uV over a path in 1/1,024 mOhm, to the nearest 0.1 mA (R205). Choices: log 8 (DESIGN CHOICE, unsafe). -/
def modelCurrent (uv : Int) (fine : Nat) : Nat := if fine = 0 then 0 else (roundDiv (uv * 10240) fine).toNat

/-- I_model,n from the channel's latest block value, in 0.1 mA (R205). -/
def Block.iModel (b : Block) (i : Nat) : Nat := modelCurrent ((b.lanes.blocks[i]?).getD 0) (b.pathFine i)

/-- Every cause of 0x40 over, its live bit clears; BALANCE_PATH follows the channels' bits (R377, R395). Choices: log 34 (DEDUCED, unsafe). -/
def Block.judgePath (b : Block) : Block :=
  let shows := (List.range 32).any fun i =>
    b.bit (chKey Ob.channelState i) 8 || b.bit (chKey Ob.channelState i) 9 || b.bit (chKey Ob.channelState i) 11
  let stands := (List.range 32).any fun i =>
    b.bit (chKey Ob.channelState i) 8 || b.bit (chKey Ob.channelState i) 9 || (b.chan i).atBound
  let b := b.reason .balancePath shows
  if stands then b else b.clearLive 0x40

/-- Is I_model,n above 300 mA (R207), before any rounding? -/
def Block.beyondPath (b : Block) (i : Nat) : Bool :=
  decide ((300 * b.pathFine i : Int) < (b.lanes.blocks[i]?).getD 0 * 1024)

/-- PATH_LIMIT of channel i (R207): found over 300 mA it raises 0x40 with reason PATH_LIMIT; it clears at 300 mA or below.
Choices: log 34 (DEDUCED, unsafe). -/
def Block.pathLimit (b : Block) (i : Nat) : Block :=
  if b.bit (chKey Ob.channelState i) 9 then
    if b.beyondPath i then b else (b.putBit (chKey Ob.channelState i) 9 false).judgePath
  else if b.beyondPath i then
    ((b.putBit (chKey Ob.channelState i) 9 true).reason .balancePath true).raise 0x40
      (i + 1 + 3 * 256 + (b.iModel i + 5) / 10 % 65536 * 65536)
  else b

/-- Is switch i held by a diagnostic slot or by excitation (R217)? -/
def Block.held (b : Block) (i : Nat) : Bool := (b.chan i).owner != .balancing

/-- Is switch i, or a neighbour's, held by a higher-precedence user (R214, R217)? -/
def Block.heldNear (b : Block) (i : Nat) : Bool :=
  b.held i || (decide (1 ≤ i) && b.held (i - 1)) || b.held (i + 1)

/-- wants(n) (R214): in a QUIET pause nothing conducts for balancing (R218). Choices: log 34 (DEDUCED, unsafe). -/
def Block.wants (b : Block) (i : Nat) : Bool :=
  let c := b.chan i
  if !c.openSession || b.frozen i || b.bit (chKey Ob.channelState i) 9 || b.heldNear i ||
      b.gov.quietWindow || b.gov.quietCapture then false
  else
    let e := c.error32
    let h := b.get Ob.band * errorUc
    if c.state = 2 then decide (0 < e) else if c.on then decide (-h < e) else decide (h ≤ e)

/-- Reference ramp of one tick: rate × theta × 0.1 uC with 16 bits below the uC, rounded down (R213). Choices: log 63 (DESIGN CHOICE, unsafe). -/
def rampStep (rate theta : Nat) : Nat := rate * theta / 327680

/-! ### The record of switch edges (R187, R207) -/

/-- An instant of chain time in us as sub-ticks. -/
abbrev ticksOf (t : Nat) : Nat := 400 * (t % t48)

/-- Did switch i change in [x, x + n) of sub-ticks? rising asks for edges of one kind. -/
def Block.edgeIn (b : Block) (i x n : Nat) (rising : Option Bool) : Bool :=
  b.lanes.edges.any fun e => e.ch == i && decide (0 ≤ subDiff e.time x) && decide (subDiff e.time x < n) && rising.all (· == e.rising)

/-- Does switch i conduct at an instant x in sub-ticks, by the recorded edges? -/
def Block.conductsAt (b : Block) (i x : Nat) : Bool :=
  let es := b.lanes.edges.filter fun e => e.ch == i
  match (es.filter fun e => decide (0 ≤ subDiff x e.time)).getLast? with
  | some e => e.rising
  | none => match es.head? with
    | some e => !e.rising
    | none => (b.chan i).on

/-- Does switch i conduct throughout [x, x + n) of sub-ticks? -/
def Block.conductsThrough (b : Block) (i x n : Nat) : Bool := b.conductsAt i x && !b.edgeIn i x n (some false)

/-- Is switch i off throughout [x, x + n) of sub-ticks? -/
def Block.darkThrough (b : Block) (i x n : Nat) : Bool := !b.conductsAt i x && !b.edgeIn i x n (some true)

/-- The meter conversion of one interval joins the accumulator and, for a switch that conducted throughout, the settled sums
of R226, those of the windows the interval falls in (0x300A) and the suspicions of R228, whoever holds the switches (R208). How the switches
conducted in the interval, which ends at this grid instant, the recorded edges say. -/
def Block.meterInterval (b : Block) (i reading : Nat) : Block :=
  let c := b.chan i
  let x := ticksOf (b.now + t48 - 100)
  let full := b.conductsThrough i x 40000
  let near := fun j => b.edgeIn j x 40000 none
  let settled := full && !near (i + 1) && !(decide (1 ≤ i) && near (i - 1))
  let still := fun j => b.darkThrough j x 40000
  let dark := still i && still (i + 1) && (i = 0 || still (i - 1))
  let ends := b.conductsAt i (x + 39999)
  let low := if settled then (if reading < 50 then c.lowTicks + 1 else 0) else c.lowTicks
  let stray := if dark && decide (50 ≤ reading) then c.strayTicks + 1 else 0
  let v := (b.lanes.blocks[i]?).getD 0
  let b : Block := if settled then b.onWindows fun w => w.channel i ((b.now + t48 - 100) % t48) 100 fun k c =>
      { c with bleed := c.bleed + k * reading, bleedUs := c.bleedUs + k } else b
  b.editCh i fun c => { c with
    acc := c.acc + reading
    reading := if ends && reading ≠ 0 then reading else c.reading
    lastFull := if full then some reading else c.lastFull
    settled := if settled then c.settled + 1 else c.settled
    settledI := if settled then c.settledI + reading else c.settledI
    settledV := if settled then c.settledV + v else c.settledV
    lowTicks := low
    strayTicks := stray
    suspicion :=
      if 10 ≤ low then some .lowMeter else if 3 ≤ stray then some .strayCurrent else c.suspicion }

/-- The update pass of a tick for one channel (R213). -/
def Block.updatePass (b : Block) (i : Nat) : Block :=
  let q := (b.chan i).acc
  let b := if q = 0 then b else (b.editCh i fun c => { c with acc := 0 }).addCharge i q
  let c := b.chan i
  let t := b.targetUc i * 65536
  let b := if c.openSession && !b.frozen i then
      let want := c.qref + rampStep (b.nat (chKey Ob.balanceRate i)) b.gov.theta
      let q' := min t (clampInt (-(2 ^ 47) * 65536) ((2 ^ 47 - 1) * 65536) want)
      b.editCh i fun c => { c with qref := q', state := if q' = t then 2 else c.state }
    else b
  let c := b.chan i
  let b := if c.error32 ≠ c.error then b.saturated i else b
  let b := if c.openSession && c.state = 2 && decide (c.error32 ≤ 0) then b.editCh i fun c => { c with state := 3 } else b
  let b := b.pathLimit i
  if (b.chan i).on && (b.chan i).owner == .balancing && !b.wants i then b.editCh i GovCh.off else b

/-- Channels in the order of grants: e falling, then channel rising (R215). -/
def insertByError (x : Int × Nat) : List (Int × Nat) → List (Int × Nat)
  | [] => [x]
  | y :: t => if y.1 < x.1 || (y.1 = x.1 && x.2 < y.2) then x :: y :: t else y :: insertByError x t

/-- Arbitration (R215): in that order, a channel is granted unless a neighbour has been granted. -/
def arbitrate : List (Int × Nat) → List Nat → List Nat
  | [], g => g
  | (_, i) :: t, g => arbitrate t (if g.contains (i + 1) || (decide (1 ≤ i) && g.contains (i - 1)) then g else g ++ [i])

/-- On-resistance of switch i at its lane thermometer, in units of 10^-5 mOhm (R223). A thermometer that shows no value gives
none, and the temperature is a free value (the spec states none then). Choices: log 6 (DESIGN CHOICE, safe). -/
def Block.onResistance (b : Block) (i : Nat) : Nat :=
  let r := (b.fuses.ron25[i]?).getD 0
  let t := b.get (Ob.laneTemperature + i + 1)
  let t := if t = -32768 then Config.freeValue b.free i else t
  (r * (100000 + 45 * (t - 250))).toNat

/-- Estimated dissipation of switch i in 10^-16 W (R223): its last full-tick reading, or I_model of a switch about to turn on; I_model too of one
that has never conducted for a full tick. Choices: log 34 (DEDUCED, unsafe). -/
def Block.switchPower (b : Block) (i : Nat) : Nat :=
  let c := b.chan i
  let n := if c.on then c.lastFull.getD (b.iModel i) else b.iModel i
  n * n * b.onResistance i

/-- One milliwatt in the unit of switchPower. -/
abbrev milliwatt : Nat := 10 ^ 13

/-- The effective power budget in the unit of switchPower: halved at thermal level 1 (R223). -/
def Block.effectiveBudget (b : Block) : Nat :=
  b.nat Ob.powerBudget * milliwatt / (if b.get Ob.throttleLevelLevel = 1 then 2 else 1)

/-- Grants that fit the budget and those dropped: the last of the grant order goes first (R223). -/
def Block.fitBudget (b : Block) (heldPower : Nat) : Nat → List Nat → List Nat × List Nat
  | 0, g => (g, [])
  | n + 1, g =>
    let p := heldPower + (g.map b.switchPower).foldl (· + ·) 0
    if p ≤ b.effectiveBudget then (g, [])
    else match g.reverse with
      | [] => ([], [])
      | d :: r =>
        let x := b.fitBudget heldPower n r.reverse
        (x.1, d :: x.2)

/-- The AX5 periods whose mean duty counts (R220): those that ended in the last 10 ms, or the last one. -/
def Block.recentPulses (b : Block) : List (Nat × Nat × Nat) :=
  let recent := b.gov.pulses.filter fun p => decide (chainDiff b.now p.1 ≤ 10000)
  if recent.isEmpty then b.gov.pulses.drop (b.gov.pulses.length - 1) else recent

/-- Input θ_in as the selected source gives it (R220, R221); before the first conversion of AX5, or its first period, it stays as it was. Choices:
log 63 (DESIGN CHOICE, unsafe). -/
def Block.throttleInput (b : Block) : Nat :=
  let src := b.get Ob.throttleSourceSource
  if src = 1 then thetaOfCode (b.get Ob.throttleValueSetpoint)
  else if src = 2 then
    if b.gov.analog.isEmpty then b.gov.thetaIn
    else (clampInt 0 (thetaOne : Int) (sumOf b.gov.analog * thetaOne / (2500000 * b.gov.analog.length))).toNat
  else if b.get Ob.throttleSourceState ≠ 0 then thetaOfCode (b.get Ob.throttleSourceFailValue)
  else
    let used := b.recentPulses
    if used.isEmpty then b.gov.thetaIn
    else (used.map fun p => if p.2.1 = 0 then 0 else p.2.2 * thetaOne / p.2.1).foldl (· + ·) 0 / used.length

/-- Slew limit of one tick with 31 fraction bits (R222). -/
def slewStep31 (slew : Nat) : Nat := slew * thetaOne / 10 ^ 7

/-- The applied θ moves toward θ_in by at most the slew limit (R222). -/
def Block.slewTheta (b : Block) : Block :=
  let tin := b.throttleInput
  let step := slewStep31 (b.nat Ob.throttleSlew)
  let th := if b.gov.theta < tin then min tin (b.gov.theta + step) else max tin (b.gov.theta - step)
  let b := b.withGov { b.gov with theta := th, thetaIn := tin }
  (b.put Ob.throttleValueInput (codeOfTheta tin)).put Ob.throttleValueApplied (codeOfTheta th)

/-- The law of one tick (R213–R216, R223) on the accumulated charge. Theta takes its slew step (R222) before the tick's ramp uses it, the model's
choice. Choices: log 63 (DESIGN CHOICE, unsafe). -/
def Block.tickLaw (b : Block) : Block :=
  let cells := List.range b.cells
  let b := b.slewTheta
  let b := cells.foldl (fun b i => b.updatePass i) b
  let want := cells.filter b.wants
  let order := want.foldl (fun l i => insertByError ((b.chan i).error32, i) l) []
  let granted := arbitrate order []
  let holders := (List.range 32).filter fun i => b.held i && (b.chan i).on
  let heldPower := (holders.map b.switchPower).foldl (· + ·) 0
  let fit := b.fitBudget heldPower granted.length granted
  let power := heldPower + (fit.1.map b.switchPower).foldl (· + ·) 0
  let b := fit.2.foldl (fun b i => (b.putBit (chKey Ob.channelState i) 10 true).putBit Ob.governorFlags 3 true) b
  let b := want.foldl (fun b i =>
    if !fit.1.contains i && (b.chan i).on then b.editCh i GovCh.off else b) b
  let b := fit.1.foldl (fun b i => b.turnOn i .balancing) b
  let b := cells.foldl (fun b i => b.putBit (chKey Ob.channelState i) 4 (b.chan i).on) b
  ((b.withGov { b.gov with
      power := power,
      conducted := b.gov.conducted || b.gov.ch.any (·.on) }).withFree (b.free + 1))

/-- An overrunning tick (R225). -/
def Block.overrun (b : Block) : Block :=
  let n := b.gov.overruns + 1
  let b := (b.putBit Ob.governorFlags 1 true).withGov { b.gov with overruns := n, lastOverrun := some b.now }
  if 3 ≤ n then b.raise 0x44 (min n 255) else b

/-- 0x44 clears after 1 s without an overrun (R377). -/
def Block.overrunGone (b : Block) : Block :=
  match b.gov.lastOverrun with
  | some t => if 1000000 ≤ chainDiff b.now t then b.clearLive 0x44 else b
  | none => b

/-- A conducting stretch begins or ends (R246), at an instant in sub-ticks. -/
def Stretch.edge (l : List Stretch) (ch x : Nat) (rising : Bool) : List Stretch :=
  if rising then l ++ [⟨ch, x, none, 0, x⟩]
  else l.map fun s => if s.ch == ch && s.fall.isNone then { s with fall := some x } else s

/-- Switch i has changed since its last recorded edge: the edge joins the record that tap-wire learning and the tap-wire term use (R187, R190,
R216) and the stretches of R246. x is its instant in sub-ticks. -/
def Block.noteEdge (b : Block) (i x : Nat) : Block :=
  let c := b.chan i
  if c.on == c.seen then b
  else
    let e : SwitchEdge := ⟨i, x % (400 * t48), c.reading, c.on⟩
    let b : Block := b.withLanes { b.lanes with edges := b.lanes.edges ++ [e] }
    let b : Block := b.withImp { b.imp with stretches := Stretch.edge b.imp.stretches i x c.on }
    b.editCh i fun c => { c with seen := c.on }

/-- Every switch that has changed is noted; delays[i] is the delay of channel i's edge in sub-ticks (R113). Edges older than 10 ms are
dropped. -/
def Block.noteEdges (b : Block) (delays : List Nat) : Block :=
  let b : Block := b.withLanes { b.lanes with
    edges := b.lanes.edges.filter fun e => decide (subDiff (ticksOf b.now) e.time ≤ 4000000) }
  (List.range 32).foldl (fun b i => b.noteEdge i (ticksOf b.now + (delays[i]?).getD 0)) b

/-- A command that may turn switches: their edges are noted at its instant. -/
def onSwitching (f : Block → Block) (s : State) : Out := onBlock (fun b => (f b).noteEdges []) s

/-- How long a stretch conducts within [x − 40,000, x) of sub-ticks: the tick that ends at x. -/
def Stretch.within (s : Stretch) (x : Nat) : Nat :=
  (min 0 ((s.fall.map fun y => subDiff y x).getD 0) - max (subDiff s.rise x) (-40000)).toNat

/-- The meter's reading of the tick that ends at x joins the stretches that conducted in it, each by its share (R208, R246). -/
def Stretch.feed (l : List Stretch) (meter : List Nat) (x : Nat) : List Stretch :=
  l.map fun s =>
    let o := s.within x
    let all := ((l.filter fun y => y.ch == s.ch).map fun y => y.within x).foldl (· + ·) 0
    if o = 0 then s
    else { s with
      sum := s.sum + (meter[s.ch]?).getD 0 * 40000 * o / all
      until' := match s.fall with
        | some y => if subDiff y x < 0 then y else x
        | none => x }

/-- The readings of the tick that ends now join the open stretches and the record of recent ticks (R187, R246). -/
def Block.feedStretches (b : Block) (meter : List Nat) : Block :=
  let b : Block := b.withImp { b.imp with stretches := Stretch.feed b.imp.stretches meter (b.now * 400) }
  b.withLanes { b.lanes with
    meters := (b.lanes.meters.filter fun m => decide (chainDiff b.now m.1 ≤ 10000)) ++ [(b.now, meter)] }

/-- Is the shadow lane rotating (R139, R161)? -/
def Block.shadowRotates (b : Block) : Bool := b.measuring && !b.bit Ob.frontEndHealth 4

/-- Channels lost to a higher-precedence user of their switch or a neighbour's (R250). -/
def Block.loseExcited (b : Block) (near : Nat → Bool) : Block :=
  match b.imp.active with
  | none => b
  | some a =>
    let gone := a.excited.filter fun i => !a.lost.contains i && (near i || near (i + 1) || (decide (1 ≤ i) && near (i - 1)))
    let b := gone.foldl (fun b i => b.editCh i fun c => if c.owner == .excitation then c.off else c) b
    b.withImp { b.imp with active := some { a with lost := a.lost ++ gone } }

/-- A diagnostic slot takes the switches n − 1, n and n + 1 from now on: off, and held (R217, R228, R398). -/
def Block.holdSlot (b : Block) (ch : Nat) : Block :=
  let near := fun j => decide (j ≤ ch + 1) && decide (ch ≤ j + 1)
  let b := b.loseExcited near
  ((List.range 32).filter near).foldl (fun b j => b.editCh j fun c => { c.dark with owner := .diagnostic }) b

/-- Every switch that a diagnostic slot holds is released. -/
def Block.releaseSlot (b : Block) : Block :=
  b.withGov { b.gov with ch := b.gov.ch.map fun c => if c.owner == .diagnostic then c.off else c }

/-- The open-wire slot at a tick (R399): phase B's switch conducts from 1,100 us to its release, at 1,900 us at the latest, and the slot ends at
2,000 us. -/
def Block.followSlot (b : Block) : Block :=
  match b.lanes.slot with
  | none => b
  | some s =>
    let d := chainDiff b.now s.start
    let c := b.chan s.ch
    if b.lanes.confirm.isSome then b
    else if 2000 ≤ d then
      let b := if c.on && c.owner == .diagnostic then (b.editCh s.ch GovCh.dark).noteEdge s.ch ((s.start + s.release) * 400) else b
      b.releaseSlot
    else if s.release ≤ d then
      if c.on && c.owner == .diagnostic then (b.editCh s.ch GovCh.dark).noteEdge s.ch ((s.start + s.release) * 400) else b
    else if s.conducts && decide (1100 ≤ d) && c.owner == .diagnostic && !c.on && !b.gov.quietWindow then
      (b.turnOn s.ch .diagnostic).noteEdge s.ch ((s.start + 1100) * 400)
    else b

/-- Is an earlier open-wire slot still under way, its TEST tail included (R398)? -/
def Block.slotBusy (b : Block) : Bool := match b.lanes.slot with
  | some s => decide (chainDiff b.now s.start < 2100) && decide (0 ≤ chainDiff b.now s.start)
  | none => false

/-- The diagnostic slot of a confirmation at a tick (R228): it begins with the frame that visits Bn, and ends with it. A switch is held on only
outside safe state, and where no QUIET pause comes near; all three off are held in either. Choices: log 34 (DEDUCED, unsafe). -/
def Block.followConfirm (b : Block) : Block :=
  let b : Block := match b.lanes.confirm with
    | some s => if 1000 ≤ chainDiff b.now s.start then (b.releaseSlot).withLanes { b.lanes with confirm := none } else b
    | none => b
  let pin := b.lanes.bPin
  if b.now % 1000 ≠ 0 || b.now / 1000 % 10 = 0 || pin = 0 || b.lanes.confirm.isSome || b.lanes.currentPending || !b.shadowRotates ||
      b.noCells || b.slotBusy || !b.engineRuns 5 then b
  else match (b.chan (pin - 1)).suspicion with
    | none => b
    | some s =>
      let on := s != .strayCurrent
      if on && (b.safeHold ≠ 0 || b.pauseNear b.now) then b
      else
        let b : Block := (b.holdSlot (pin - 1)).withLanes { (b.holdSlot (pin - 1)).lanes with confirm := some ⟨pin - 1, b.now, on, 1000⟩ }
        if on then b.turnOn (pin - 1) .diagnostic else b

/-- A QUIET pause begins at B − 100 us, or now where it is a setting just written that begins it (R188): no switch conducts, whoever holds it, and a
confirmation that held one on is given up. -/
def Block.beginPause (b : Block) : Block :=
  let back := match b.pauseSince b.now with
    | some d => if !b.inQuiet && decide (d ≤ 6400) then (d * 400 / 64).toNat else 0
    | none => 0
  let x := (b.now * 400 + 400 * t48 - back) % (400 * t48)
  let b : Block := if b.lanes.confirm.any (·.conducts) then b.releaseSlot.withLanes { b.lanes with confirm := none } else b
  (List.range 32).foldl (fun b i => (if (b.chan i).on then b.editCh i GovCh.dark else b).noteEdge i x) b

/-- The QUIET pause of R188 as it stands at a tick. -/
def Block.followPause (b : Block) : Block :=
  let pause := b.quietPause b.now
  let b := if pause && !b.gov.quietWindow then b.beginPause else b
  b.withGov { b.gov with quietWindow := pause }

/-- P of the last tick stands for the 100 us since (R223): each window takes its share. -/
def Block.meterPower (b : Block) : Block := b.onWindows fun w =>
  let k := overlap ((b.now + t48 - 100) % t48) 100 w.start w.stop
  { w with power := (w.power.1 + k * b.gov.power, w.power.2 + k) }

/-- The meter of channel i in Standby (R208): its conversion joins the accumulator. -/
def Block.meterOnly (b : Block) (i reading : Nat) : Block := b.editCh i fun c => { c with acc := c.acc + reading }

/-- One grid instant of the governor (R208, R213, R225): meters add their interval, in Standby too; a skipped tick leaves the charge in the
accumulators, and so does a stopped engine; otherwise the law runs, in Measure and Full. What ended before this instant, a pause's beginning or
phase B of a slot, is on record when the meters' interval is judged. -/
def governorTick (t : Nat) (timing : TickTiming) (meter delays : List Nat) (b : Block) : Block :=
  let b := b.at t
  if !b.awake || b.noCells then b
  else if !b.measuring then (List.range b.cells).foldl (fun b i => b.meterOnly i ((meter[i]?).getD 0)) b
  else
    let b := b.followPause.followSlot.feedStretches meter
    let b := ((List.range b.cells).foldl (fun b i => b.meterInterval i ((meter[i]?).getD 0)) b).meterPower.followConfirm
    let b := match (if b.engineRuns 5 then timing else .skipped) with
      | .skipped => if b.engineRuns 5 then b.overrun else b
      | .overran => b.tickLaw.overrun
      | .onTime => (b.tickLaw.withGov { b.tickLaw.gov with overruns := 0 }).overrunGone
    b.noteEdges delays

/-- Distance of two naturals. -/
def dist (a c : Nat) : Nat := (a - c) + (c - a)

/-- Do two currents in 0.1 mA agree within the tolerance of R227 at a model current, Relative × I_model + Absolute? -/
def Block.agree (b : Block) (x y model : Nat) : Bool :=
  decide (1000 * dist x y ≤ b.nat Ob.plausibilityToleranceRelative * model + b.nat Ob.plausibilityToleranceAbsolute * 10000)

/-- R_path of channel i moved one learning step and kept within 30 % of the seed (R226): sumI in 0.1 mA and sumV in uV are the sums over the
settled ticks, whose quotient is V_n / I_m; mA is I_m. R_path is held to 1/1,024 mOhm and shown in whole mOhm, rounded down. Choices: log 63
(DESIGN CHOICE, unsafe). -/
def Block.learnPath (b : Block) (i mA sumI : Nat) (sumV : Int) : Block :=
  let fine : Int := b.pathFine i
  let seed := (pathSeed (b.get Ob.bleedResistor)).toNat * 1024
  let next := if sumI = 0 then fine else fine + roundDiv (sumV * 10240 - fine * sumI) (sumI * 1024)
  let lo : Int := seed * 7 / 10
  let hi : Int := seed * 13 / 10
  let kept := (clampInt lo hi next).toNat
  let b := (b.put (chKey Ob.pathResistance i) (kept / 1024 : Nat)).editCh i fun c => { c with pathFraction := kept % 1024 }
  if next < lo || hi < next then
    let b := b.editCh i fun c => { c with atBound := true }
    ((b.putBit (chKey Ob.channelState i) 11 true).reason .balancePath true).raise 0x40 (i + 1 + 2 * 256 + mA % 65536 * 65536)
  else (b.editCh i fun c => { c with atBound := false }).judgePath

/-- One millisecond's learning and plausibility of channel i (R226, R227): a channel that deviates opens a confirmation at once (R228), 0x40 waits for
Time. The comparison of I_m with I_model is exact: both sides stand
multiplied by 1,000 × settled ticks × R_path. -/
def Block.learnChannel (b : Block) (i : Nat) : Block :=
  let c := b.chan i
  if c.settled = 0 then b
  else
    let fine := b.pathFine i
    let mA := (roundDiv c.settledI (10 * c.settled)).toNat
    let off : Int := ((c.settledI * fine - c.settledV * 10240).natAbs * 1000 : Nat)
    let tol : Int := b.get Ob.plausibilityToleranceRelative * (c.settledV * 10240) +
      b.get Ob.plausibilityToleranceAbsolute * 10000 * (c.settled * fine : Nat)
    let b := if 5 ≤ c.settled && off * 2 ≤ tol then b.learnPath i mA c.settledI c.settledV else b
    let time := b.nat Ob.plausibilityToleranceTime
    let bad := decide (tol < off)
    let dev := if bad then c.deviating + 100 * c.settled else 0
    let fine := if bad then 0 else c.within + 100 * c.settled
    let b := b.editCh i fun c => { c with
      settled := 0, settledI := 0, settledV := 0, deviating := dev, within := fine
      suspicion := if bad && c.suspicion.isNone then some .deviation else c.suspicion }
    if time ≤ dev then
      ((b.putBit (chKey Ob.channelState i) 8 true).reason .balancePath true).raise 0x40 (i + 1 + 1 * 256 + mA % 65536 * 65536)
    else if time ≤ fine && b.bit (chKey Ob.channelState i) 8 then (b.putBit (chKey Ob.channelState i) 8 false).judgePath
    else b

/-- Once per millisecond (R226, R227). -/
def pathLearn (b : Block) : Block :=
  if !b.measuring || b.noCells || !b.engineRuns 5 then b else (List.range b.cells).foldl (fun b i => b.learnChannel i) b

/-- Channel i is disabled (R211, R230). -/
def Block.disable (b : Block) (i : Nat) : Block :=
  if i < b.cells then (b.editCh i fun c => { c.off with disabled := true }).reason .balanceChannel true else b

/-- The meaning of a confirmation's readings (R228), by whether switch n was held on: none, or the source raised. The rows of an open switch
come before those of a deviation. Choices: log 34 (DEDUCED, unsafe). -/
def Block.confirmResult (b : Block) (i : Nat) (on : Bool) (meter ib : Nat) : Option Nat :=
  let model := b.iModel i
  if on then
    if meter < 50 && ib < 50 then some 0x43
    else if meter < 50 && 200 ≤ ib then some 0x41
    else if !b.agree meter ib model && b.agree ib model model then some 0x41
    else none
  else if meter < 50 then none
  else if 200 ≤ ib then some 0x42
  else if ib < 50 then some 0x41
  else none

/-- The shadow visit of Bn with a confirmation open (R228, R229): the slot holds the three switches, judges, and releases them; in safe state only
where all three were held off (R386). dropUv is Cn − Bn in uV; I_B = dropUv / BleedResistor. Choices: log 34 (DEDUCED, unsafe). -/
def bleedConfirmation (i : Nat) (dropUv : Int) (meter : Nat) (b : Block) : Block :=
  let c := b.chan i
  match c.suspicion with
  | none => b
  | some s =>
    if !b.shadowRotates || (b.safeHold ≠ 0 && s != .strayCurrent) || b.noCells || !b.engineRuns 5 || b.slotBusy then b
    else
      let rbl := b.nat Ob.bleedResistor
      let ib := if rbl = 0 then 0 else (roundDiv (dropUv * 10) rbl).toNat
      let near := [i, i + 1] ++ (if 1 ≤ i then [i - 1] else [])
      let result := b.confirmResult i (s != .strayCurrent) meter ib
      let b := b.loseExcited fun j => decide (j ≤ i + 1) && decide (i ≤ j + 1)
      let b := near.foldl (fun b j => b.editCh j GovCh.off) b
      let b : Block := b.withLanes { b.lanes with confirm := none }
      let b := b.editCh i fun c => { c with suspicion := none, lowTicks := 0, strayTicks := 0 }
      match result with
      | none => b
      | some src =>
        let b := if src = 0x42 then near.foldl (fun b j => b.disable j) b else b.disable i
        b.raise src (i + 1)

/-- No refresh for 1 ms (R209): the switch turns off; whoever holds it still does (R217). -/
def freshnessTimeout (i : Nat) (b : Block) : Block :=
  if (b.chan i).on then
    ((b.editCh i GovCh.dark).putBit Ob.governorFlags 2 true).raise 0x46 (i + 1)
  else b

/-- An on command still waiting after 5 us is dropped and counted (R206). -/
def interlockRefusal (i : Nat) (b : Block) : Block :=
  ((b.editCh i GovCh.dark).count32 Ob.interlockRefusals).putBit Ob.governorFlags 5 true

/-- One second of counting time of channel i (R210, R211). -/
def sessionTimerSecond (i : Nat) (b : Block) : Block :=
  let v := b.nat (chKey Ob.sessionTimer i)
  if !b.awake || !(b.chan i).openSession || v = 0 then b
  else
    let b := b.put (chKey Ob.sessionTimer i) (v - 1 : Nat)
    if v = 1 then b.endSession i 4 else b

/-- The pulse input is lost (R221). -/
def Block.throttleLost (b : Block) : Block :=
  let b := b.withGov { b.gov with validRun := 0 }
  ((b.put Ob.throttleSourceState 1).putBit Ob.governorFlags 4 true).reason .throttleInput true

/-- Does the node listen for throttle pulses (R220, R221)? -/
def Block.pulseThrottle (b : Block) : Bool :=
  b.awake && decide (b.get Ob.throttleSourceSource = 3) && decide (b.get (Ob.auxFunction + 6) = 7)

/-- A rising edge on AX5 ends a period of the given length with the given high time, in 10 ns steps (R221). -/
def thrPulseEdge (t period high : Nat) (b : Block) : Block :=
  let b := b.at t
  if !b.pulseThrottle then b
  else if 5000 ≤ period && period ≤ 1000000 then
    let g := b.gov
    let kept := (g.pulses.filter fun p => decide (chainDiff b.now p.1 ≤ 10000)) ++ [(b.now, period, high)]
    let run := g.validRun + 1
    let b : Block := b.withGov { g with pulses := kept, invalidRun := 0, validRun := run }
    if b.get Ob.throttleSourceState = 1 then b.put Ob.throttleSourceState 2
    else if b.get Ob.throttleSourceState = 2 && 8 ≤ run then (b.put Ob.throttleSourceState 0).reason .throttleInput false
    else b
  else
    let n := b.gov.invalidRun + 1
    let b : Block := b.withGov { b.gov with invalidRun := n, validRun := 0 }
    if 3 ≤ n then b.throttleLost else b

/-- No rising edge within three periods or 30 ms (R221). -/
def throttleInputLost (b : Block) : Block := if b.pulseThrottle then b.throttleLost else b

/-- Effect of an accepted write of ThrottleSource sub 1 (R220): of the same source too, it sets State VALID and forgets the pulses held. Choices:
log 63 (DESIGN CHOICE, unsafe). -/
def Block.throttleSourceWritten (b : Block) (v : Int) : Block :=
  let b := b.put Ob.throttleSourceSource v
  let b : Block := b.withGov { b.gov with pulses := [], invalidRun := 0, validRun := 0 }
  (b.put Ob.throttleSourceState 0).reason .throttleInput false

/-- PathResistance of the channels from lo on at the seed that BleedResistor gives, as never learned (R35, R205, R226, R234). -/
def Block.seedPaths (b : Block) (lo : Nat) : Block :=
  let seed := pathSeed (b.get Ob.bleedResistor)
  ((List.range 32).filter fun i => lo ≤ i && i < b.cells).foldl (fun (b : Block) (i : Nat) =>
    (b.put (chKey Ob.pathResistance i) seed).editCh i fun c => { c with pathFraction := 0, atBound := false }) b

/-- Effect of an accepted BleedResistor: every path returns to the new seed (R205, R226). -/
def Block.bleedResistorWritten (b : Block) (v : Int) : Block :=
  (b.put Ob.bleedResistor v).seedPaths 0

/-- Sticky bits of ChannelState and GovernorFlags (R235, R236). -/
abbrev channelSticky : Nat := 0x0CE0
abbrev governorSticky : Nat := 0x003F

/-- A word with the bits of a mask cleared. -/
def clearBits (v mask : Nat) : Nat := v &&& (0xFFFFFFFF - mask)

/-- Effect of an accepted sticky clear of ChannelState of channel i (R236). -/
def Block.channelStateCleared (b : Block) (i mask : Nat) : Block :=
  let k := chKey Ob.channelState i
  (b.put k (clearBits (b.nat k) mask)).judgePath

/-- Effect of an accepted sticky clear of GovernorFlags (R236). -/
def Block.governorFlagsCleared (b : Block) (mask : Nat) : Block :=
  b.put Ob.governorFlags (clearBits (b.nat Ob.governorFlags) mask)

/-- Remaining charge of channel i in 0.01 uC (R231). -/
def Block.remaining (b : Block) (i : Nat) : Int := b.targetUc i * 100 - (b.chan i).qmeas

/-- Channel i's entry of a sleep plan before the power limit (R231). -/
def Block.planEntry (b : Block) (i : Nat) : Planned :=
  let v := b.get (chKey Ob.cellVoltage i)
  let est := modelCurrent v (b.pathFine i)
  if b.bit Ob.balanceEnable i && (b.chan i).openSession && decide (b.get Ob.sleepBalanceFloorVoltage * 1000 ≤ v) &&
      decide (0 < est) && decide (0 < b.remaining i) then
    ⟨min (b.nat (chKey Ob.sessionTimer i)) (ceilDiv (2 * (b.remaining i).toNat) (est * 10000)), est⟩
  else ⟨0, 0⟩

/-- Conduction power of a planned channel in 10^-16 W: I_est² × R_on25 × 1.45 (R231). -/
def Block.planPower (b : Block) (i : Nat) (p : Planned) : Nat :=
  if p.seconds = 0 then 0 else p.estimate * p.estimate * (b.fuses.ron25[i]?).getD 0 * 145000

/-- A group's channels cut until its power fits: the smallest remaining charge goes first (R231), of equal ones the higher channel. Choices: log 63
(DESIGN CHOICE, unsafe). -/
def Block.fitPlan (b : Block) (limit : Nat) : Nat → List Nat → List Planned → List Planned
  | 0, _, plan => plan
  | n + 1, group, plan =>
    let power := (group.map fun i => b.planPower i ((plan[i]?).getD ⟨0, 0⟩)).foldl (· + ·) 0
    if power ≤ limit then plan
    else
      let ranked := (group.filter fun i => ((plan[i]?).getD ⟨0, 0⟩).seconds ≠ 0).foldl
        (fun l i => insertByError (b.remaining i, i) l) []
      match ranked.reverse with
      | [] => plan
      | (_, i) :: _ => b.fitPlan limit n group (plan.set i ⟨0, 0⟩)

/-- The sleep plan (R231); empty while SleepBalance is off and at thermal level 2 or above; at level 1 a quarter of PowerBudget
takes the place of the half (R417). -/
def Block.formPlan (b : Block) : List Planned :=
  let level := b.nat Ob.throttleLevelLevel
  if !b.on Ob.sleepBalanceEnable || b.noCells || decide (2 ≤ level) then List.replicate 32 ⟨0, 0⟩
  else
    let plan := (List.range 32).map fun i => if i < b.cells then b.planEntry i else ⟨0, 0⟩
    let limit := b.nat Ob.powerBudget * milliwatt / (if level = 1 then 4 else 2)
    let odd := (List.range 32).filter fun i => i % 2 = 0
    let even := (List.range 32).filter fun i => i % 2 = 1
    b.fitPlan limit 16 even (b.fitPlan limit 16 odd plan)

/-- The refresh of the plan in Measure and Full (R231). -/
def sleepPlanRefresh (t : Nat) (b : Block) : Block :=
  let b := b.at t
  if b.measuring then b.withGov { b.gov with plan := b.formPlan } else b

/-- The credit of the last Sleep for a planned channel i (R233): I_est × counted conduction. A session whose timer ran out in Sleep ends
DONE too when Q_meas has reached T. -/
def Block.creditChannel (b : Block) (i : Nat) : Block :=
  let est := (b.bedrock.estimate[i]?).getD 0
  let ms := (b.bedrock.conduction[i]?).getD 0
  if est = 0 then b
  else
    let c := est * ms * 10
    let b := b.addCharge i c
    let b := (b.put (chKey Ob.sleepEstimate i) (c / 100 : Nat)).putBit (chKey Ob.channelState i) 7 true
    let t := b.targetUc i
    let b := b.editCh i fun c =>
      let m := c.qmeas * 65536 / 100
      if c.qref < m then { c with qref := max c.qref (min m (t * 65536)) } else c
    if t * 100 ≤ (b.chan i).qmeas && (b.chan i).state ≠ 0 then b.editCh i fun c => { c with state := 3 } else b

/-! ### The commands of the family -/

/-- PATH_LEARN (R226, R227). -/
def execPathLearn (s : State) : Out := onBlock pathLearn s

/-- FRESHNESS_TIMEOUT (R209). -/
def execFreshnessTimeout (ch : Fin 32) (s : State) : Out := onSwitching (freshnessTimeout ch.val) s

/-- INTERLOCK_REFUSAL (R206). -/
def execInterlockRefusal (ch : Fin 32) (s : State) : Out := onSwitching (interlockRefusal ch.val) s

/-- SESSION_TIMER_SECOND (R210, R211). -/
def execSessionTimerSecond (ch : Fin 32) (s : State) : Out := onSwitching (sessionTimerSecond ch.val) s

/-- THR_PULSE_EDGE (R221). -/
def execThrPulseEdge (t period high : Nat) (s : State) : Out := onBlock (thrPulseEdge t period high) s

/-- THROTTLE_INPUT_LOST (R221). -/
def execThrottleInputLost (s : State) : Out := onBlock throttleInputLost s

/-- SLEEP_PLAN_REFRESH (R231). -/
def execSleepPlanRefresh (t : Nat) (s : State) : Out := onBlock (sleepPlanRefresh t) s

end Sys2Proof.Machine
end

