-- ==== Sys2Proof/Machine/Lanes.lean ====
section
/-! DEFINITION. Cell front end, slices and lanes (R125–R164), the tap-wire term and its learning (R186–R191), the limit comparators
(R201) and the short checks of the shadow lane (R401). Voltages are held in nV between the steps of R149. -/

namespace Sys2Proof.Machine

/-! ### Lanes and their terms -/

/-- Lanes as Lean numbers them: cell channels 0–31, the current lanes 32 and 33, the aux lanes 34 and 35, the shadow lane 36. -/
abbrev shadowLane : Nat := 36

/-- Correction terms of lane k. -/
def Block.terms (b : Block) (k : Nat) : LaneTerms := (b.lanes.terms[k]?).getD .none

/-- Lane k's terms rewritten. -/
def Block.editTerms (b : Block) (k : Nat) (f : LaneTerms → LaneTerms) : Block :=
  b.withLanes { b.lanes with terms := editAt b.lanes.terms k f }

/-- Factory seed of lane k. -/
def Block.seed (b : Block) (k : Nat) : LaneSeed := (b.fuses.seeds[k]?).getD ⟨0, 0, 0, 0, (0, 0, 0, 0)⟩

/-- Reading of lane thermometer k in 0.1 °C; before its first reading the temperature is a free value. Choices: log 6 (DESIGN CHOICE, safe). -/
def Block.laneTemp (b : Block) (k : Nat) : Int :=
  let t := b.get (Ob.laneTemperature + k + 1)
  if t = -32768 then Config.freeValue b.free k else t

/-- A term at a lane temperature (R133, R134). -/
def atTemp (term perDegree t10 : Int) : Int := term + roundDiv (perDegree * (t10 - 250)) 10

/-- Lane k's terms in use now: gains of A and B, offset of B, skew. -/
def Block.termsNow (b : Block) (k : Nat) : Int × Int × Int × Int :=
  let t := b.laneTemp k
  let x := b.terms k
  let p := (b.seed k).perDegree
  (atTemp x.gA p.1 t, atTemp x.gB p.2.1 t, atTemp x.oB p.2.2.1 t, atTemp x.tau p.2.2.2 t)

/-! ### Dither (R132) -/

/-- One conversion's step of the 15-bit PRBS x^15 + x^14 + 1. Choices: log 55 (DESIGN CHOICE, unsafe). -/
def prbsStep (x : Nat) : Nat := (2 * x + boolNat (x.testBit 14 != x.testBit 13)) % 2 ^ 15

/-- The PRBS after n conversions. -/
def prbsRun : Nat → Nat → Nat
  | 0, x => x
  | n + 1, x => prbsRun n (prbsStep x)

/-- Sign of the dither at a state of the PRBS: its top bit. Choices: log 55 (DESIGN CHOICE, unsafe). -/
def prbsSign (x : Nat) : Bool := x.testBit 14

/-- Raw codes of alternating slices, A first, with the signs of their dither. -/
def signedCodes : List Int → Nat → Nat → List (Int × Bool)
  | a :: v :: t, x, y => (a, prbsSign x) :: (v, prbsSign y) :: signedCodes t (prbsStep x) (prbsStep y)
  | [a], x, _ => [(a, prbsSign x)]
  | [], _, _ => []

/-- Raw codes of lane k's conversions from chain time start on with the signs of their dither (R112, R132): each slice converts every 2 us
since the lanes started, and the PRBS has period 32,767. Choices: log 55 (DESIGN CHOICE, unsafe). -/
def Block.withSigns (b : Block) (k start : Nat) (codes : List Int) : List (Int × Bool) :=
  let seeds := (b.fuses.dither[k]?).getD (1, 2)
  let n := (chainDiff start b.lanes.startAt).toNat / 2 % 32767
  signedCodes codes (prbsRun n seeds.1) (prbsRun n seeds.2)

/-- A slice sample, dither removed: (r − d) in code steps (R132, R135). -/
def dithered (x : Int × Bool) : Int := x.1 - (if x.2 then 8 else -8)

/-- Signed 20-bit saturation of a corrected sample (R135, R136). -/
def sat20 (y : Int) : Int := clampInt (-(2 ^ 19)) (2 ^ 19 - 1) y

/-- Corrected sample of slice A (R135), and whether it saturates. -/
def sampleA (gA : Int) (x : Int × Bool) : Int × Bool :=
  let y := roundDiv (dithered x * 16 * (10 ^ 9 + gA)) (10 ^ 9)
  (sat20 y, sat20 y != y)

/-- Corrected sample of slice B between the slice-A samples before and after it (R135), and whether it saturates; without slice A no skew is
applied. -/
def sampleB (gB oB tau : Int) (x : Int × Bool) (prev next : Int) : Int × Bool :=
  let y := roundDiv ((dithered x * 65536 - oB) * 16 * (10 ^ 9 + gB) - tau * (next - prev) * 32768000) (65536 * 10 ^ 9)
  (sat20 y, sat20 y != y)

/-- Corrected samples of one block: A and B alternate, A first; the last entry is the slice-A sample that completes the last
slice-B sample (R112, R136). A lane on one slice takes each remaining sample twice (R138). -/
def correctPairs (gA gB oB tau : Int) (failedA failedB : Bool) : List (Int × Bool) → List (Int × Bool)
  | a :: v :: n :: t =>
    let ya := sampleA gA a
    let yb := if failedA then sampleB gB oB 0 v 0 0 else sampleB gB oB tau v ya.1 (sampleA gA n).1
    let pair := if failedA then [yb, yb] else if failedB then [ya, ya] else [ya, yb]
    pair ++ correctPairs gA gB oB tau failedA failedB (n :: t)
  | _ => []

/-- Corrected samples of lane k from its raw codes from chain time start on (R133–R138), each with whether it saturates. -/
def Block.corrected (b : Block) (k start : Nat) (codes : List Int) : List (Int × Bool) :=
  let t := b.terms k
  let x := b.termsNow k
  correctPairs x.1 x.2.1 x.2.2.1 x.2.2.2 t.failedA t.failedB (b.withSigns k start codes)

/-- Is a raw code overrange (R131)? -/
def overrangeCode (x : Int) : Bool := x == -32768 || x == 32767

/-- Is a sample of a block overrange (R147)? The slice-A sample that completes the block belongs to the next one, and a failed slice's samples
are not used. -/
def overrangeBlock (failedA failedB : Bool) : List Int → Bool
  | a :: v :: n :: t =>
    (!failedA && overrangeCode a) || (!failedB && overrangeCode v) || overrangeBlock failedA failedB (n :: t)
  | _ => false

/-- A step of y in pV at the converter (R136): 2.5 V / 2^20. -/
abbrev stepPv : Int := 2500000000000

/-- Mean of corrected samples in nV at the converter, to the nearest (R136). Choices: log 8 (DESIGN CHOICE, unsafe). -/
def converterMean (ys : List (Int × Bool)) : Int :=
  if ys.isEmpty then 0 else roundDiv (sumOf (ys.map (·.1)) * stepPv) (2 ^ 20 * 1000 * ys.length)

/-- The averager's output: a sum shifted with rounding (R141). -/
def averagerOut (sum : Int) (shift : Nat) : Int := if shift = 0 then sum else (sum + 2 ^ (shift - 1)) / 2 ^ shift

/-- V_lane in nV of an output formed at code c and shift s (R143), before the ratio of R130. -/
def laneNanovolts (out : Int) (c s : Nat) : Int := 2500000000 + roundDiv (6000000000 * out) (2 ^ (20 + c - s))

/-- Saturation of every step of R149 at ±2^31 uV, in nV. -/
def satV (v : Int) : Int := clampInt (-(2 ^ 31) * 1000) (2 ^ 31 * 1000) v

/-- A value through one step of R149: saturated, and whether this step or one before it has saturated (R13). -/
def satStep (v : Int) (hit : Bool) : Int × Bool := (satV v, hit || satV v != v)

/-- Health bit i of channel n (R163). -/
def Block.healthBit (b : Block) (ch i : Nat) : Bool := b.bit (chKey Ob.cellHealth ch) i

/-- Health bit i of channel n set or cleared. -/
def Block.setHealth (b : Block) (ch i : Nat) (on : Bool) : Block := b.putBit (chKey Ob.cellHealth ch) i on

/-- Averaging count in force (R140, R146). -/
def Block.blockLength (b : Block) : Nat := 2 ^ b.nat Ob.laneAveragingCodeInForce

/-- The channel a shadow frame visits (R158), from 0. -/
def Block.visited (b : Block) (m : Nat) : Nat := if b.cells = 0 then 0 else m % b.cells

/-- Samples of [start, start + n) in which the shadow lane also loads channel ch: its comparison interval (R128, R158). -/
def Block.doubleLoad (b : Block) (ch start n : Nat) : Nat :=
  if !b.shadowRotates || b.noCells then 0
  else ((List.range n).filter fun i =>
    let t := start + i
    b.visited (t / 1000) == ch && decide (64 ≤ t % 1000) && decide (t % 1000 < 320)).length

/-- RFT × (i_n − i_(n−1)) of R128 in nV, averaged over a block: v is channel ch's own value, its neighbours stand at their
latest. -/
def Block.rftDrop (b : Block) (ch start n : Nat) (v : Int) : Int :=
  let at' := fun k => if k < b.cells then (b.lanes.fine[k]?).getD 0 else 0
  let load := fun k : Nat => (n + b.doubleLoad k start n : Int)
  let above := if ch + 1 < b.cells then at' (ch + 1) * load (ch + 1) else 0
  let below := if 1 ≤ ch then at' (ch - 1) * load (ch - 1) else 0
  roundDiv (b.get Ob.filterResistance * (2 * v * load ch - above - below)) (2000000 * n)

/-! ### The tap-wire term (R186, R187) -/

/-- Is the reading of the tick that an instant lies in held, or overdue (R187)? -/
def Block.meteredAt (b : Block) (t : Nat) : Bool :=
  decide (200 ≤ chainDiff b.now t) || b.lanes.meters.any fun m => decide (0 < chainDiff m.1 t) && decide (chainDiff m.1 t ≤ 100)

/-- Meter reading of channel i of the tick that an instant lies in (R187), in 0.1 mA; its latest one where that is not held.
Choices: log 8 (DESIGN CHOICE, unsafe). -/
def Block.readingAt (b : Block) (i t : Nat) : Nat :=
  match b.lanes.meters.find? fun m => decide (0 < chainDiff m.1 t) && decide (chainDiff m.1 t ≤ 100) with
  | some m => (m.2[i]?).getD 0
  | none => (b.chan i).reading

/-- Metered current of channel i in 0.1 mA at an instant, 0 while its switch is off and outside 0–CellCount (R186, R187). -/
def Block.currentAt (b : Block) (i : Int) (t : Nat) : Int :=
  if i < 0 || (b.cells : Int) ≤ i then 0
  else if b.conductsAt i.toNat (ticksOf t) then (b.readingAt i.toNat t : Int) else 0

/-- D_n of channel ch (from 0) at an instant, in 0.1 nV (R186). -/
def Block.tapDrop (b : Block) (ch t : Nat) : Int :=
  let w := fun k => b.get (Ob.tapResistance + k + 1)
  let i := fun k : Int => b.currentAt k t
  w (ch + 1) * (i (ch + 1) - i ch) - w ch * (i ch - i ((ch : Int) - 1))

/-- The filter of R187 run over n samples from an instant: the filtered value (1/65,536 nV) after them and the sum of the
values at each. The spec names a first-order filter; one step per sample is the model's form of it. Choices: log 8 (DESIGN CHOICE, unsafe). -/
def Block.filterRun (b : Block) (ch : Nat) : Nat → Nat → Int → Int × Int
  | 0, _, y => (y, 0)
  | n + 1, t, y =>
    let d := b.tapDrop ch t * 65536
    let y' := y + roundDiv (d - 10 * y) (10 * max 1 (b.nat Ob.tapConfigFilterTau))
    let r := b.filterRun ch n (t + 1) y'
    (r.1, r.2 + y')

/-- The filtered drop of channel ch at an instant (R187), in 1/65,536 nV: from the last value held before it. A gap of more than 5,000 us is
taken as that long; before the first value the drop is 0. Choices: log 8 (DESIGN CHOICE, unsafe). -/
def Block.lagAt (b : Block) (ch t : Nat) : Int :=
  match (((b.lanes.lags[ch]?).getD []).filter fun x : Nat × Int => decide (0 ≤ chainDiff t x.1)).getLast? with
  | some x =>
    let gap := min 5000 (chainDiff t x.1).toNat
    (b.filterRun ch gap ((t + t48 - gap) % t48) x.2).1
  | none => 0

/-- Factory calibration of channel ch at its lane's temperature: offset in nV and gain in ppb (R149, R150). -/
def Block.calNow (b : Block) (ch : Nat) : Int × Int :=
  let c := if b.nvm.calLoaded then (b.fuses.cal[ch]?).getD ⟨0, 0, 0, 0⟩ else ⟨0, 0, 0, 0⟩
  let dt := b.laneTemp ch - 250
  (c.offset + roundDiv (c.alpha * dt) 10, c.gain + roundDiv (c.beta * dt) 10)

/-- Step 2 of R149 without saturation, in nV. -/
def Block.factoryStep (b : Block) (ch : Nat) (lane : Int) : Int :=
  let c := b.calNow ch
  roundDiv ((lane - c.1) * (10 ^ 9 + c.2)) (10 ^ 9)

/-- V_cal with its trim: steps 2 to 4 of R149, in nV, and whether a step has saturated. -/
def Block.calibrate (b : Block) (ch start n : Nat) (lane : Int × Bool) : Int × Bool :=
  let v := satStep (b.factoryStep ch lane.1) lane.2
  let v := satStep (v.1 + b.rftDrop ch start n v.1) v.2
  satStep (roundDiv (v.1 * (10 ^ 6 + b.get (chKey Ob.calTrimGain ch))) (10 ^ 6) + b.get (chKey Ob.calTrimOffset ch) * 1000) v.2

/-- The Basalt ratio of R130 on a lane output. -/
def Block.onReference (b : Block) (v : Int) : Int :=
  if b.get Ob.referenceSource = 2 && b.lanes.ratioDen ≠ 0 then roundDiv (v * b.lanes.ratioNum) b.lanes.ratioDen else v

/-- V_lane with the Basalt ratio (R130, R149 step 1), in nV, and whether it has saturated. -/
def Block.laneVolts (b : Block) (out : Int) (c s : Nat) : Int × Bool := satStep (b.onReference (laneNanovolts out c s)) false

/-- The V_lane that R149 turns into a value v of channel ch in nV, with the tap-wire term in force (R201): its steps backwards. Choices: log 8
(DESIGN CHOICE, unsafe). -/
def Block.laneLimit (b : Block) (ch : Nat) (v : Int) : Int :=
  let c := b.calNow ch
  let term := if b.get Ob.tapCompensationMode = 1 then roundDiv (b.lagAt ch b.now) 65536 else 0
  let v := roundDiv ((v + term - b.get (chKey Ob.calTrimOffset ch) * 1000) * 10 ^ 6) (10 ^ 6 + b.get (chKey Ob.calTrimGain ch)).toNat
  let v := v - b.rftDrop ch b.now b.blockLength ((b.lanes.fine[ch]?).getD 0)
  let v := roundDiv (v * 10 ^ 9) (10 ^ 9 + c.2).toNat + c.1
  if b.get Ob.referenceSource = 2 && b.lanes.ratioNum ≠ 0 then roundDiv (v * b.lanes.ratioDen) b.lanes.ratioNum else v

/-! ### Learning the wires (R190) -/

/-- Mean of a list of (start, nV). -/
def meanBlocks (l : List (Nat × Int)) : Int := meanOf (l.map (·.2))

/-- One estimate of tap k in uOhm taken into W_k (R190, R191): a write of W_k leaves the count as it is, so that while it is 0 the first estimate
takes the written value's place. Choices: log 64 (DESIGN CHOICE, unsafe). -/
def Block.tapEstimate (b : Block) (k : Nat) (est : Int) : Block :=
  if est < 0 || 50000 < est then b
  else
    let n := min (b.nat (Ob.tapLearnCount + k + 1) + 1) 65535
    let w := b.get (Ob.tapResistance + k + 1)
    let w' := w + roundDiv (est - w) (if n ≤ 64 then n else 64)
    (b.put (Ob.tapResistance + k + 1) w').put (Ob.tapLearnCount + k + 1) n

/-- One switch edge seen from cell c, when its eighth block after the edge has come: tap k is learned (R190). -/
def Block.learnEdge (b : Block) (c k : Nat) (e : SwitchEdge) : Block :=
  let n := b.blockLength
  let raw := (b.lanes.raw[c]?).getD []
  let after := raw.filter fun x => decide (25600 ≤ subDiff (ticksOf x.1) e.time)
  let before := (raw.filter fun x => decide (subDiff (ticksOf (x.1 + n)) e.time ≤ -25600)).reverse.take 8
  let i := if e.rising || e.current = 0 then (b.chan e.ch).reading else e.current
  if after.length ≠ 8 || before.length ≠ 8 || i < 500 then b
  else
    let first := (before.getLast?.map (·.1)).getD 0
    let last := (after.getLast?.map (·.1)).getD 0 + n
    let disturbed := b.lanes.edges.any fun x => x.ch != e.ch && decide (x.ch ≤ e.ch + 2) && decide (e.ch ≤ x.ch + 2) &&
      decide (0 ≤ subDiff x.time (ticksOf first)) && decide (subDiff x.time (ticksOf last) ≤ 0)
    if disturbed then b
    else
      let step := meanBlocks after - meanBlocks before
      b.tapEstimate k (roundDiv ((if e.rising then step else -step) * 10) i)

/-- Edges that cell c's newest block completes (R190): tap c from switch c − 1, tap c + 1 from switch c + 1; inner taps only. -/
def Block.learnTaps (b : Block) (c : Nat) : Block :=
  if !b.on Ob.tapConfigLearnEnable then b
  else b.lanes.edges.foldl (fun b e =>
    if e.ch + 1 = c && decide (1 ≤ c) && decide (c < b.cells) then b.learnEdge c c e
    else if e.ch = c + 1 && decide (c + 1 < b.cells) then b.learnEdge c (c + 1) e
    else b) b

/-! ### Windows' share of a block (R175, R176) -/

/-- What one block brings to a channel's sums of one window (R175, R176, R179). -/
def ChanSum.take (c : ChanSum) (w : Nat) (v : Int) (flags : Nat) : ChanSum :=
  if w = 0 then c
  else
    { c with
      sum := c.sum + w * v
      used := c.used + w
      least := if c.used = 0 then v else min c.least v
      most := if c.used = 0 then v else max c.most v
      flags := c.flags ||| flags }

/-- Does the running window conduct no balancing because it is quiet (R188)? -/
def Window.quiet (w : Window) : Bool := bitOf w.flags 6

/-! ### Comparators (R201) -/

/-- Number of the lowest channel whose comparator is live on a side, and how many are. -/
def liveChannels (l : List Comparator) (side : Comparator → Bool) : Nat × Nat :=
  let ns := (List.range l.length).filter fun i => match l[i]? with
    | some c => side c
    | none => false
  ((ns.headD 0) + 1, ns.length)

/-- One side of a comparator after a block: consecutive blocks beyond and back inside, and whether the side is live. -/
def compareSide (run back : Nat) (isLive beyond inside : Bool) (d : Nat) : Nat × Nat × Bool :=
  if beyond then (run + 1, 0, isLive || decide (d ≤ run + 1))
  else if isLive && inside then (0, back + 1, decide (back + 1 < d))
  else (0, 0, isLive)

/-- The sources 0x01 and 0x02 follow the comparators of all channels. -/
def Block.followCompare (b : Block) (source : Nat) (side : Comparator → Bool) (rose : Bool) : Block :=
  let x := liveChannels b.lanes.comparators side
  if x.2 = 0 then b.clearLive source else if rose then b.raise source (x.1 + 256 * x.2) else b

/-- A block of channel ch, V_lane as its lane delivers it in nV, passes the comparators of its LANE island (R201): every block but a TEST
block, whether or not its engine takes it. -/
def Block.compareBlock (b : Block) (ch : Nat) (v : Int) : Block :=
  match b.lanes.limits[ch]? with
  | none => b
  | some l =>
    let c := (b.lanes.comparators[ch]?).getD ⟨0, 0, false, 0, 0, false⟩
    let o := compareSide c.overRun c.overBack c.overLive (decide (l.above < v)) (decide (v ≤ l.aboveBack)) l.blocks
    let u := compareSide c.underRun c.underBack c.underLive (decide (v < l.below)) (decide (l.belowBack ≤ v)) l.blocks
    let c' : Comparator := ⟨o.1, o.2.1, o.2.2, u.1, u.2.1, u.2.2⟩
    let b := b.withLanes { b.lanes with comparators := b.lanes.comparators.set ch c' }
    let b := if c.overLive = c'.overLive then b else b.followCompare 0x01 (·.overLive) c'.overLive
    if c.underLive = c'.underLive then b else b.followCompare 0x02 (·.underLive) c'.underLive

/-- Entry i of CellLimits as the last refresh left it (R201, R204). -/
def Block.limitNow (b : Block) (i : Nat) : Int := (b.lanes.limitsNow[i]?).getD (b.get (Ob.cellLimitsCellOver + i))

/-- CellOver and CellUnder as block codes of channel ch, and D = ceil(Debounce / N) (R201). -/
def Block.codeLimits (b : Block) (ch : Nat) : CodeLimits :=
  let nv := fun v : Int => b.laneLimit ch (v * 1000)
  let hi := b.get Ob.cellLimitsCellOver
  let lo := b.get Ob.cellLimitsCellUnder
  let h := b.get Ob.cellLimitsHysteresis
  ⟨nv hi, nv (hi - h), nv lo, nv (lo + h), ceilDiv (b.nat Ob.cellLimitsDebounce) b.blockLength⟩

/-- CELL_LIMIT_REFRESH (R201, R204): CellLimits takes effect, with the calibration and the tap-wire term in force. -/
def cellLimitRefresh (b : Block) : Block :=
  if !b.measuring then b
  else
    b.withLanes { b.lanes with
      limitsNow := (List.range 10).map fun i => b.get (Ob.cellLimitsCellOver + i)
      limits := if b.noCells then [] else (List.range b.cells).map b.codeLimits }

/-! ### Shorts (R401) -/

/-- A short check of one kind and place that failed or passed: 0x21 rises on a new finding and clears when no finding is left;
a finding goes after two consecutive passes. Choices: log 32 (DEDUCED, unsafe). -/
def Block.shortCheck (b : Block) (kind place : Nat) (bad : Bool) : Block :=
  let mine := fun x : Short => x.kind == kind && x.place == place
  let found := b.lanes.shorts.any mine
  if bad then
    let b := b.withLanes { b.lanes with
      shorts := (b.lanes.shorts.filter fun x => !mine x) ++ [⟨kind, place, 0⟩] }
    if found then b else b.raise 0x21 (place + 256 * kind)
  else if found then
    let kept := (b.lanes.shorts.map fun x => if mine x then { x with passes := x.passes + 1 } else x).filter
      fun x => !mine x || decide (x.passes < 2)
    let b := b.withLanes { b.lanes with shorts := kept }
    if kept.isEmpty then b.clearLive 0x21 else b
  else b

/-- LOW of R401 for channel ch on one window mean, or in INSTANT mode one block, at chain time t. -/
def Block.lowCheck (b : Block) (ch t : Nat) (uv : Int) : Block :=
  if uv < 200000 then
    match (b.lanes.lowSince[ch]?).getD none with
    | none => b.withLanes { b.lanes with lowSince := b.lanes.lowSince.set ch (some t) }
    | some t0 => if 1000000 ≤ chainDiff t t0 then b.shortCheck 1 (ch + 1) true else b
  else
    (b.withLanes { b.lanes with lowSince := b.lanes.lowSince.set ch none }).shortCheck 1 (ch + 1) false

/-! ### Blocks -/

/-- Is channel ch inside an open-wire slot or its TEST tail in [start, start + n) (R398)? -/
def Block.inSlot (b : Block) (ch start n : Nat) : Bool :=
  match b.lanes.slot with
  | none => false
  | some s => decide (ch ≤ s.ch + 1) && decide (s.ch ≤ ch + 1) && decide (chainDiff (start + n) s.start > 0) &&
      decide (chainDiff start s.start < 2100)

/-- Does an INSTANT burst cover [start, start + n), so that no block is formed there (R194)? The running capture's, the pending one's, or one that
waits to be published. -/
def Block.inBurst (b : Block) (start n : Nat) : Bool :=
  decide (b.win.mode = 4) && (b.cap.running.toList ++ b.cap.pending.toList ++ b.cap.done).any fun c =>
    decide (0 < chainDiff (start + n) (c.instant / 1000000)) && decide (chainDiff start ((c.stop + 999999) / 1000000) < 0)

/-- Did switch i conduct at some instant of [start, start + n) (R179)? -/
def Block.conductedIn (b : Block) (i start n : Nat) : Bool :=
  !b.darkThrough i (ticksOf start) (400 * n)

/-- Flags of R179 that a block gives its channel. -/
def Block.blockFlags (b : Block) (ch : Nat) (e : LaneEntry) (term : Int) : Nat :=
  let mode := b.get Ob.tapCompensationMode
  let on := fun i => b.conductedIn i e.start (2 ^ e.code)
  let near := on ch || on (ch + 1) || (decide (1 ≤ ch) && on (ch - 1))
  boolNat (mode == 1 && term != 0) + 2 * boolNat (mode != 1 && near) + 4 * boolNat e.overrange + 16 * boolNat e.subst +
    32 * boolNat e.single + 128 * boolNat (b.healthBit ch 5)

/-- How long a block is kept for R190 and R255: eight blocks of 256 us on either side of an edge, or the spans of a step, in us. -/
abbrev rawKept : Int := 5000

/-- Engine that serves channel ch (R6, chapter text before R149). -/
abbrev engineOf (ch : Nat) : Nat := ch / 8

/-- Does E6 do its work: on -X, in Full, running, below thermal level 3 (R237)? -/
def Block.e6Works (b : Block) : Bool :=
  b.inFull && b.fuses.variantX && b.engineRuns 6 && b.get Ob.throttleLevelLevel != 3

/-- Eight periods of an entry's frequency in us, the longest by which an interval exceeds its integration time (R242): of a harmonic entry, of
its lowest frequency, 45 Hz. -/
def eightPeriods (code : Nat) : Nat := if code = 0 then 0 else 8 * 10 ^ 9 / (if code < 100 then 45000 else code)

/-- How long E6 keeps blocks, in us: two intervals of its slowest entry, of its own or of the chain's set, with the settle of an ACTIVE one and
the time until an interval's end is worked (R242, R245). -/
def Block.e6Span (b : Block) : Int :=
  let slow := (((List.range 4).map fun k => eightPeriods (b.nat (Ob.analysisFrequencies + k + 1))) ++
    b.chainSet.map fun e => eightPeriods e.1).foldl max 0
  let w := 2 * b.win.length + 2 * b.win.multiple * 25000
  2 * (max (max (b.get Ob.impedanceConfigIntegrationTime) b.imp.chainTime) w + slow) + 200000

/-- A span (1/64 us) of which samples are missing is remembered for the intervals it touches (R253). -/
def Block.spoil (b : Block) (lo hi : Nat) : Block :=
  if b.e6Works then b.withImp { b.imp with spoiled :=
      (b.imp.spoiled.filter fun s => decide (diff64 (64 * b.now) s.2 < 64 * b.e6Span)) ++ [(lo, hi)] }
  else b

/-- E6 keeps a block's value while it works (R245, R255). -/
def Block.keepForE6 (b : Block) (ch : Nat) (x : E6Block) : Block :=
  if !b.e6Works then b
  else
    let old := (b.imp.blocks[ch]?).getD []
    let kept := old.filter fun y : E6Block => decide (chainDiff x.start y.start ≤ b.e6Span)
    b.withImp { b.imp with blocks := b.imp.blocks.set ch (kept ++ [x]) }

/-- The engine takes one entry (R149, R175): the calibrated value goes to the governor and the windows. -/
def Block.takeEntry (b : Block) (ch : Nat) (e : LaneEntry) : Block :=
  let n := 2 ^ e.code
  if e.test then
    if e.mixed then b.onWindows fun w => w.channel ch e.start n fun k c => { c with excluded := c.excluded + k } else b
  else
    let f := b.filterRun ch n e.start (b.lagAt ch e.start)
    let x := b.calibrate ch e.start n (b.laneVolts e.out e.code e.shift)
    let v := x.1
    let term := if b.get Ob.tapCompensationMode = 1 then roundDiv f.2 (65536 * n) else 0
    let v' := satStep (v - term) x.2
    let uv := roundDiv v'.1 1000
    let old := (b.lanes.raw[ch]?).getD []
    let lag := (b.lanes.lags[ch]?).getD []
    let b := (b.withLanes { b.lanes with
      lags := b.lanes.lags.set ch ((lag.filter fun x : Nat × Int => decide (chainDiff e.start x.1 ≤ rawKept)) ++ [((e.start + n) % t48, f.1)])
      fine := b.lanes.fine.set ch v, blocks := b.lanes.blocks.set ch uv,
      raw := b.lanes.raw.set ch ((old.filter fun x : Nat × Int => decide (chainDiff e.start x.1 ≤ rawKept)) ++ [(e.start, v)]) }).noteSat
        (engineOf ch) (v'.2 || e.clipped)
    let b := b.keepForE6 ch ⟨e.start, n, v'.1, e.overrange⟩
    let fl := b.blockFlags ch e term
    let b := b.onWindows fun w => w.channel ch e.start n fun k c => c.take k v'.1 fl
    let b := b.learnTaps ch
    if b.win.mode = 4 then b.lowCheck ch e.start uv else b

/-- A block that finds its FIFO full (R148): dropped; the windows it would have joined are incomplete, and the intervals it lies in (R253); none
where it is a TEST block (R159). -/
def Block.dropBlock (b : Block) (ch : Nat) (e : LaneEntry) : Block :=
  let b := if e.test then b else (b.onWindows fun w =>
    if overlap e.start (2 ^ e.code) w.start w.stop = 0 then w
    else { w with flags := setBitTo w.flags 0 true, sums := editAt w.sums ch fun c => { c with flags := c.flags ||| 8 } }).spoil
      (64 * e.start) (64 * (e.start + 2 ^ e.code))
  let b := b.withLanes { b.lanes with dropAt := some b.now }
  b.raise 0xA7 (ch + 1)

/-- Places of a lane FIFO (R148). -/
abbrev laneFifoDepth : Nat := 64

/-- Has the engine what it forms D_n of a block from (R186, R187): for each of the three switches that conducted in it, the readings of the ticks it
lies in? A reading that is 100 us late is not waited for. Choices: log 65 (DEDUCED, unsafe). -/
def Block.entryReady (b : Block) (ch : Nat) (e : LaneEntry) : Bool :=
  let n := 2 ^ e.code
  e.test || !([ch - 1, ch, ch + 1].any fun i => b.conductedIn i e.start n) ||
    [0, min 100 (n - 1), min 200 (n - 1), n - 1].all fun k => b.meteredAt ((e.start + k) % t48)

/-- The FIFO of channel ch. -/
def Block.fifo (b : Block) (ch : Nat) : List LaneEntry := (b.lanes.fifos[ch]?).getD []

/-- The FIFO of channel ch set. -/
def Block.setFifo (b : Block) (ch : Nat) (q : List LaneEntry) : Block := b.withLanes { b.lanes with fifos := b.lanes.fifos.set ch q }

/-- The engine takes the entries of a FIFO in order, up to the first that still waits for a reading; what is left stays in it. -/
def Block.takeFifo (b : Block) (ch : Nat) : List LaneEntry → Block
  | [] => b.setFifo ch []
  | e :: t => if b.entryReady ch e then (b.takeEntry ch e).takeFifo ch t else b.setFifo ch (e :: t)

/-- An entry arrives from a lane (R147, R148): its engine takes it at once, or it waits in the FIFO while the engine is stopped, or until the meter's
reading of its tick is there (R187). -/
def Block.offerEntry (b : Block) (ch : Nat) (e : LaneEntry) : Block :=
  let q := b.fifo ch
  let runs := b.engineRuns (engineOf ch)
  if runs && q.isEmpty && b.entryReady ch e then b.takeEntry ch e
  else if laneFifoDepth ≤ q.length then b.dropBlock ch e
  else if runs then b.takeFifo ch (q ++ [e])
  else b.setFifo ch (q ++ [e])

/-- An engine that runs empties the FIFOs of its channels in order, as far as it can (R148, R187). -/
def Block.drainFifos (b : Block) (engine : Nat) : Block :=
  (List.range 8).foldl (fun b i => b.takeFifo (engine * 8 + i) (b.fifo (engine * 8 + i))) b

/-- After a tick's readings the engines E0–E3 take what waited for them (R187). -/
def Block.takeMetered (b : Block) : Block :=
  if !b.measuring then b
  else (List.range 4).foldl (fun b k => if b.engineRuns k then b.drainFifos k else b) b

/-- Is 0xA7 gone: 1 s without a drop (R377)? -/
def Block.dropGone (b : Block) : Block :=
  match b.lanes.dropAt with
  | some t => if 1000000 ≤ chainDiff b.now t then
      (b.withLanes { b.lanes with dropAt := none }).clearLive 0xA7 else b
  | none => b

/-- Code and shift that a block is formed at by its start (R145): those before the change until the instant of the change. -/
def Block.settingAt (b : Block) (start : Nat) : Nat × Nat :=
  let now := (b.nat Ob.laneAveragingCodeInForce, b.nat Ob.laneAveragingShiftInForce)
  match b.lanes.averagingBefore with
  | some (t, c, s) => if chainDiff start t < 0 then (c, s) else now
  | none => now

/-- Does chain time t lie in the part of a frame that visits channel ch in which the lane's test switch is on and the shadow lane's samples
replace its own (R158)? -/
def Block.underTest (b : Block) (ch t : Nat) : Bool :=
  b.shadowRotates && b.visited (t / 1000) == ch && decide (320 ≤ t % 1000) && decide (t % 1000 < 576)

/-- Samples of [start, start + n) under channel ch's test switch. -/
def Block.testSpan (b : Block) (ch start n : Nat) : Nat := ((List.range n).filter fun i => b.underTest ch ((start + i) % t48)).length

/-- A corrected sample of the shadow lane on lane ch's scale (R159), and whether it saturates (R13). -/
def Block.mapped (b : Block) (ch : Nat) (y : Int) : Int × Bool :=
  let m := (b.lanes.maps[ch]?).getD (0, 0)
  let x := roundDiv (y * (10 ^ 9 + m.2) * 65536 + m.1 * 10 ^ 9) (65536 * 10 ^ 9)
  (sat20 x, sat20 x != x)

/-- Corrected samples of the shadow lane that stand for lane ch's (R158, R159). -/
def Block.substituted (b : Block) (ch start : Nat) (codes : List Int) : List (Int × Bool) :=
  (b.corrected shadowLane start codes).map fun y => ((b.mapped ch y.1).1, y.2 || (b.mapped ch y.1).2)

/-- The entry of a block of corrected samples (R141, R147): lane is the one that converted it. -/
def Block.formEntry (b : Block) (ch lane start : Nat) (set : Nat × Nat) (codes : List Int) (test mixed : Bool) : LaneEntry :=
  let t := b.terms lane
  let ys := if lane = ch then b.corrected ch start codes else b.substituted ch start codes
  let slot := b.inSlot ch start (2 ^ set.1)
  ⟨start, set.1, set.2, averagerOut (sumOf (ys.map (·.1))) set.2, lane != ch, t.failedA || t.failedB,
    overrangeBlock t.failedA t.failedB codes, slot || test, start / 2 ^ set.1 % 16, slot || mixed, ys.any (·.2)⟩

/-- A lane delivers an entry (R147, R201): its comparators see it, and it goes to its engine. -/
def Block.deliverBlock (b : Block) (ch : Nat) (e : LaneEntry) : Block :=
  (if e.test then b else b.compareBlock ch (laneNanovolts e.out e.code e.shift)).offerEntry ch e

/-- LANE_BLOCK (R140, R141, R147, R158, R159): block k = start / N of channel ch is complete. own and shadow are the raw codes of the N
conversions of the lane and of the shadow lane, slice A first, each with the conversion of slice A that completes the last (R136). In a frame that
visits the channel, a block wholly under the test switch enters as SUBST, with the TEST block beside it where that lies in the test voltage's
128 us; one partly under it enters as TEST, in place of the cell block. Choices: log 56 (DEDUCED, unsafe). -/
def laneBlock (ch start : Nat) (own shadow : List Int) (b : Block) : Block :=
  let set := b.settingAt start
  let n := 2 ^ set.1
  let b := (b.at (start + n)).dropGone
  if !b.measuring || b.noCells || decide (b.cells ≤ ch) || b.healthBit ch 4 || start % n ≠ 0 || b.inBurst start n then b
  else
    let subst := fun b : Block => if shadow.length = n + 1 then b.deliverBlock ch (b.formEntry ch shadowLane start set shadow false false) else b
    if b.healthBit ch 3 then subst b
    else
      let k := b.testSpan ch start n
      if k = n then
        let b := subst b
        if own.length = n + 1 && decide (384 ≤ start % 1000) && decide (start % 1000 + n ≤ 512) then
          b.deliverBlock ch (b.formEntry ch ch start set own true false)
        else b
      else if own.length = n + 1 then b.deliverBlock ch (b.formEntry ch ch start set own (k ≠ 0) (k ≠ 0))
      else b

/-! ### References (R129, R130) -/

/-- Calibrated Basalt value in nV at the converter (R129, R151), at the shadow lane's temperature: which thermometer stands for Basalt's the spec does
not say. Choices: log 66 (DESIGN CHOICE, unsafe). -/
def Block.basaltCal (b : Block) : Int :=
  b.fuses.basalt25 + roundDiv (b.fuses.basaltSlope * (b.laneTemp shadowLane - 250)) 10000

/-- Raw codes that sub-slot B of a frame delivers, one more than its 256 us (R158): of the current input too, for which R154 speaks of 1 ms. Choices:
log 67 (DEDUCED, unsafe). -/
abbrev subSlotCodes : Nat := 257

/-- What sub-slot B of the frame at t converts, in nV at the converter (R158). No part of the shadow lane's calibration that R151 keeps unreadable
applies to it, the model's choice. Choices: log 72 (DESIGN CHOICE, unsafe). -/
def Block.subSlotVolts (b : Block) (t : Nat) (codes : List Int) : Int := converterMean (b.corrected shadowLane ((t + 704) % t48) codes)

/-- REFERENCE_COMPARE (R130, R158): sub-slot B of the frame at t, whose number is a multiple of 10, has converted Basalt; codes are the shadow
lane's raw codes. At a head without cells too: its shadow lane has no cell to visit, and E4 runs on its references. -/
def referenceCompare (t : Nat) (codes : List Int) (b : Block) : Block :=
  let b := b.at (t + 1000)
  if !b.shadowRotates || t % 10000 ≠ 0 || codes.length ≠ subSlotCodes then b
  else
    let basalt := b.subSlotVolts t codes
    let cal := b.basaltCal
    let diff := roundDiv ((basalt - cal) * 24) 10000
    let b := b.put Ob.referenceCompareDifference diff
    let b := if (b.get Ob.referenceComparePeak).natAbs < diff.natAbs then b.put Ob.referenceComparePeak diff else b
    let beyond := decide (5000000 < ((basalt - cal) * 24).natAbs)
    let n := if beyond then min (b.nat Ob.referenceCompareConsecutive + 1) 255 else 0
    let b := b.put Ob.referenceCompareConsecutive n
    let ratio := fun b : Block => b.withLanes { b.lanes with ratioNum := cal.toNat, ratioDen := basalt.toNat }
    if b.get Ob.referenceSource = 2 then ratio b
    else if 3 ≤ n then
      let b := (ratio (b.put Ob.referenceSource 2)).flagWindow 8
      ((b.putBit Ob.frontEndHealth 0 true).reason .refBasalt true).raise 0x24 (diff % 2 ^ 32).toNat
    else b

/-! ### Slices that fail (R137–R139, R157) -/

/-- Data byte that names a lane in 0x22 (R377): cells 1–32, current 33, aux 34–35, shadow 36. -/
def laneCode (k : Nat) : Nat := if k < 32 then k + 1 else if k ≤ 33 then 33 else if k = 34 then 34 else if k = 35 then 35 else 36

/-- E4 keeps both current lanes: no shadow conversion can tell which is right (R154). -/
def Block.keepBoth (b : Block) : Block :=
  let b : Block := b.withLanes { b.lanes with currentPending := false }
  ((b.putBit Ob.frontEndHealth 1 true).reason .currentDegraded true).raise 0x26 0

/-- The shadow lane is failed or occupied: its rotation stops (R139, R161), and a current comparison that waits for it keeps both lanes
(R154). -/
def Block.loseShadow (b : Block) : Block :=
  let b := (b.putBit Ob.frontEndHealth 4 true).reason .shadowLost true
  if b.lanes.currentPending then b.keepBoth else b

/-- A lane has lost its second slice (R139, R154, R157): of two current lanes that were both kept one is left (R164). With both current lanes or
both aux lanes lost, none serves their inputs. Choices: log 57 (DEDUCED, unsafe). -/
def Block.loseLane (b : Block) (k : Nat) : Block :=
  if k < 32 then
    if b.lanes.shadowServes.isNone && !b.bit Ob.frontEndHealth 4 then
      let b := b.withLanes { b.lanes with shadowServes := some k }
      ((b.setHealth k 3 true).reason .shadowServed true).loseShadow
    else (b.setHealth k 4 true).reason .channelInvalid true
  else if k < 34 then
    let other := if k = 32 then 2 else 1
    let kept := if b.lanes.currentKept = 0 || b.lanes.currentKept = other then other else 3
    (((b.withLanes { b.lanes with currentKept := kept, currentPending := false }).putBit Ob.frontEndHealth 1 false).putBit
      Ob.frontEndHealth 2 true).reason .currentDegraded true
  else if k < 36 then
    ((b.withLanes { b.lanes with auxLost := b.lanes.auxLost ++ [k - 34] }).putBit Ob.frontEndHealth 3 true).reason .auxLaneLost true
  else
    match b.lanes.shadowServes with
    | some ch => ((b.setHealth ch 4 true).reason .channelInvalid true).loseShadow
    | none => b.loseShadow

/-- Slice A or B of lane k fails (R137–R139). -/
def Block.failSlice (b : Block) (k : Nat) (sliceB : Bool) : Block :=
  let t := b.terms k
  if (if sliceB then t.failedB else t.failedA) then b
  else
    let b := b.editTerms k fun t =>
      { t with failedA := t.failedA || !sliceB, failedB := t.failedB || sliceB, blamePending := false }
    let b := if k < 32 then b.setHealth k 2 true else b
    let b := b.reason .singleSlice true
    if (if sliceB then t.failedA else t.failedB) then
      let c := b.loseLane k
      let invalid := (List.range 32).any fun i => c.healthBit i 4 && !b.healthBit i 4
      if invalid then c.raiseAtLeast 0x22 (laneCode k + 256) 3 else c.raise 0x22 (laneCode k + 256)
    else b.raise 0x22 (laneCode k)

/-- One eighth of the way toward a new estimate (R134). -/
def eighth (term now est : Int) : Int := term + roundDiv (est - now) 8

/-- How far slice A's and slice B's terms have moved from their seeds, as fractions of the correctable range in parts per million
(R133, R137). Choices: log 29 (DEDUCED, unsafe). -/
def Block.moved (b : Block) (k : Nat) : Int × Int :=
  let t := b.terms k
  let s := b.seed k
  let dist := fun x y range : Int => ((x - y).natAbs : Int) * 1000000 / range
  (dist t.gA s.gA 5000000, max (dist t.gB s.gB 5000000) (max (dist t.oB s.oB 6871948) (dist t.tau s.tau 1000)))

/-- The least advanced of all lanes that run: CorrectionState and CONVERGING (R135, R162–R164). A head without cells forms no cell lanes
(R30). -/
def Block.publishCorrection (b : Block) : Block :=
  let lost := fun k => ((b.terms k).failedA && (b.terms k).failedB) || (b.noCells && decide (k < 32))
  let tracking := fun k => decide (10 ≤ (b.terms k).updates)
  let all := (List.range 37).all fun k => tracking k || lost k
  let b := (b.put Ob.correctionState (if all then 2 else 1)).putBit Ob.frontEndHealth 5 (!all)
  (List.range b.cells).foldl (fun b k => b.setHealth k 1 (!tracking k && !lost k)) b

/-- CORRECTION_UPDATE (R134, R135, R137): lane k's estimates over 2^20 conversions; skew none when the slope was too small; meanDiff
the difference of the corrected means of the slices over 10 ms, in uV cell-referred. The model's choices: a blame left undecided in a lane that no
shadow visit reaches keeps both slices and stays undecided; a junction temperature outside -40..+125 C is no term out of range. Choices: log 71
(DESIGN CHOICE, unsafe). -/
def correctionUpdate (k : Nat) (gA gB oB : Int) (skew : Option Int) (badA badB : Bool) (meanDiff : Int) (b : Block) : Block :=
  if !b.measuring || (b.noCells && decide (k < 32)) then b
  else
    let now := b.termsNow k
    let b := b.editTerms k fun t => { t with
      gA := eighth t.gA now.1 gA
      gB := eighth t.gB now.2.1 gB
      oB := eighth t.oB now.2.2.1 oB
      tau := match skew with
        | some s => eighth t.tau now.2.2.2 s
        | none => t.tau
      updates := min (t.updates + 1) 255 }
    let b := b.publishCorrection
    let t := b.terms k
    let x := b.termsNow k
    let single := t.failedA || t.failedB
    let outA := decide (5000000 < x.1.natAbs)
    let outB := decide (5000000 < x.2.1.natAbs) ||
      (!single && (decide (4 * 2 ^ 32 < x.2.2.1.natAbs * 2500) || decide (1000 < x.2.2.2.natAbs)))
    let apart := !single && decide (500 < meanDiff.natAbs)
    let b := if badA && !t.failedA then b.failSlice k false else b
    let b := if badB && !t.failedB then b.failSlice k true else b
    if badA || badB then b
    else if single then
      if (outA && !t.failedA) then b.failSlice k false else if (outB && !t.failedB) then b.failSlice k true else b
    else if outA || outB || apart then
      let m := b.moved k
      if m.2 < m.1 then b.failSlice k false
      else if m.1 < m.2 then b.failSlice k true
      else
        let b := b.editTerms k fun t => { t with blamePending := true }
        let b := if k < 32 then b.setHealth k 5 true else b
        b.raise 0x22 (laneCode k)
    else b

/-! ### The shadow lane (R158–R161) -/

/-- Data of 0x25 (R377): channel and error in mV. -/
def muxData (ch : Nat) (errUv : Int) : Nat := ch + 1 + 65536 * (roundDiv errUv 1000 % 65536).toNat

/-- B-pin checks of R401 at one visit of Bn (tap n = pin), from 704 to 960 us of the frame at start (R158): B_PIN over 100 mV with switches n and
n + 1 off for the visit and the 1 ms before it, C_B below half of I_n × BleedResistor while switch n conducts, by the recorded edges. A visit at which
a check's switches are not as it needs them ends its run of visits. -/
def Block.pinCheck (b : Block) (pin start : Nat) (dropUv : Int) : Block :=
  let quiet := fun i : Nat => b.darkThrough i (ticksOf (start + t48 - 296)) (400 * 1256)
  let quietBoth := (pin = 0 || quiet (pin - 1)) && (decide (b.cells ≤ pin) || quiet pin)
  let b := if quietBoth then
      let bad := decide (100000 < dropUv.natAbs)
      let n := if bad then (b.lanes.pinRuns[pin]?).getD 0 + 1 else 0
      let b := b.withLanes { b.lanes with pinRuns := b.lanes.pinRuns.set pin n }
      if bad then (if 2 ≤ n then b.shortCheck 2 pin true else b) else b.shortCheck 2 pin false
    else b.withLanes { b.lanes with pinRuns := b.lanes.pinRuns.set pin 0 }
  if 1 ≤ pin && b.conductsThrough (pin - 1) (ticksOf (start + 704)) (400 * 256) then
    let i := b.readingAt (pin - 1) ((start + 850) % t48)
    let bad := decide (20 * dropUv.natAbs < i * b.nat Ob.bleedResistor)
    let n := if bad then (b.lanes.pairRuns[pin]?).getD 0 + 1 else 0
    let b := b.withLanes { b.lanes with pairRuns := b.lanes.pairRuns.set pin n }
    if bad then (if 2 ≤ n then b.shortCheck 3 pin true else b) else b.shortCheck 3 pin false
  else b.withLanes { b.lanes with pairRuns := b.lanes.pairRuns.set pin 0 }

/-- E4 keeps the current lane that agrees better with the shadow lane's conversion, the first where both agree alike (R154). shadow is in nV
input-referred. Choices: log 29 (DEDUCED, unsafe). -/
def Block.keepCurrent (b : Block) (shadow : Int) : Block :=
  let m := b.lanes.currentMeans
  let kept := if (m.1 - shadow).natAbs ≤ (m.2 - shadow).natAbs then 1 else 2
  let b := b.withLanes { b.lanes with currentPending := false, currentKept := kept }
  ((b.putBit Ob.frontEndHealth 2 true).reason .currentDegraded true).raise 0x26 kept

/-- nV at the converter as nV at the current input (R152): the front-end gain is 25/3 on SHUNT and 5/6 on SENSOR. -/
def Block.atInput (b : Block) (v : Int) : Int := if b.get Ob.currentRange = 2 then roundDiv (v * 6) 5 else roundDiv (v * 3) 25

/-- Sub-slot B of frame m (R158), from nV at the converter: Basalt is compared by its own command; the current input when a comparison waits;
else the next B pin as Bn − Cn on ±3.0 V, which a head without cells does not have. -/
def Block.subSlotB (b : Block) (m : Nat) (nv : Int) : Block :=
  if m % 10 = 0 then b
  else if b.lanes.currentPending then b.keepCurrent (b.atInput nv)
  else if b.noCells then b
  else
    let pin := b.lanes.bPin
    let b := b.withLanes { b.lanes with bPin := if b.cells ≤ pin then 0 else pin + 1 }
    b.pinCheck pin (1000 * m) (roundDiv (nv * 24) 10000)

/-- Difference in uV cell-referred between sums of corrected samples over n conversions each (R136). -/
def sumsApart (x y : Int) (n : Nat) : Int := if n = 0 then 0 else roundDiv ((x - y) * 6000000) (2 ^ 20 * n)

/-- Every second of a list of samples, the first among them: slice A's of a lane's. -/
def everyOther {α : Type} : List α → List α
  | a :: _ :: t => a :: everyOther t
  | [a] => [a]
  | [] => []

/-- The frames of R161 after one that was out of limit: those before it count while they are consecutive and visit different channels. -/
def badRun (l : List (Nat × Nat)) (m ch : Nat) : List (Nat × Nat) :=
  match l.getLast? with
  | some x => if x.1 + 1 = m && !l.any (fun y => y.2 == ch) then l ++ [(m, ch)] else [(m, ch)]
  | none => [(m, ch)]

/-- The comparison of channel ch with the shadow lane in frame m (R161), and the blame that waited for it (R137). difference is lane minus shadow,
diffA and diffB what each slice differs by, in uV cell-referred. Slices that differ equally: slice B is blamed. SHADOW_MISMATCH (R163) follows R161:
it is set on the second consecutive visit beyond the limit, not on the first. Choices: log 29 (DEDUCED, unsafe). Choices: log 67 (DEDUCED, unsafe). -/
def Block.compareShadow (b : Block) (m ch : Nat) (difference diffA diffB : Int) : Block :=
  let b := b.put (chKey Ob.shadowDifference ch) difference
  let b := if (b.terms ch).blamePending then b.failSlice ch (decide (diffA.natAbs ≤ diffB.natAbs)) else b
  let bad := decide (1000 < difference.natAbs)
  if bad then
    let v := (b.lanes.visits[ch]?).getD 0 + 1
    let frames := badRun b.lanes.badFrames m ch
    let b := b.withLanes { b.lanes with visits := b.lanes.visits.set ch v, badFrames := frames }
    if 3 ≤ frames.length then b.loseShadow.raise 0x23 (ch + 1 + 256)
    else if 2 ≤ v then (b.setHealth ch 5 true).raise 0x23 (ch + 1)
    else b
  else
    let b := b.withLanes { b.lanes with visits := b.lanes.visits.set ch 0, badFrames := [] }
    let b := b.setHealth ch 5 false
    if !b.bit Ob.frontEndHealth 4 && (List.range b.cells).all (fun k => !b.healthBit k 5) then b.clearLive 0x23 else b

/-- The test voltage of frame m in uV (R160): 1.500 V where m / CellCount is even, 4.000 V where it is odd. -/
def Block.testLevel (b : Block) (m : Nat) : Int := if m / max 1 b.cells % 2 = 0 then 1500000 else 4000000

/-- The TEST result of channel ch against its test voltage (R160), an error in uV cell-referred. -/
def Block.muxCheck (b : Block) (ch : Nat) (testError : Int) : Block :=
  if 1000 < testError.natAbs then (b.setHealth ch 6 true).raise 0x25 (muxData ch testError)
  else
    let b := b.setHealth ch 6 false
    if (List.range b.cells).all fun k => !b.healthBit k 6 then b.clearLive 0x25 else b

/-- TEST result of lane ch in uV (R160): its mean through steps 1 and 2 of R149, without what the cell's own circuit adds. Choices: log 56
(DEDUCED, unsafe). -/
def Block.testResult (b : Block) (ch start : Nat) (codes : List Int) : Int :=
  roundDiv (b.factoryStep ch (b.onReference (2500000000 + roundDiv (converterMean (b.corrected ch start codes) * 24) 10))) 1000

/-- The comparison interval of channel ch in the frame at t (R159, R161), from the whole interval's raw codes: the comparison, and the mapping that the
interval gives. -/
def Block.visit (b : Block) (t ch : Nat) (lane shadow : List Int) (map : Int × Int) : Block :=
  if lane.length = 257 && shadow.length = 257 then
    let ys := (b.corrected ch (t + 64) lane).map (·.1)
    let zs := (b.substituted ch (t + 64) shadow).map (·.1)
    let s := sumOf zs
    let sa := sumOf (everyOther ys)
    let b := b.compareShadow (t / 1000) ch (sumsApart (sumOf ys) s 256) (sumsApart (2 * sa) s 256) (sumsApart (2 * (sumOf ys - sa)) s 256)
    b.withLanes { b.lanes with maps := b.lanes.maps.set ch map }
  else b

/-- SHADOW_FRAME (R158–R161): the frame of 1 ms that starts at t. lane and shadow are the raw codes of the comparison interval, test those of the
test voltage, subB those of sub-slot B, each with the conversion that completes it; map is the mapping from the shadow lane's scale onto the
visited lane's that the interval yields (R159: offset in 1/65,536 step of y, gain in ppb). With neither test nor subB the command is that of the
comparison interval alone, at 320 us of the frame, and its mapping stands for the SUBST blocks of the same visit; the rest of the frame then comes in
a command of its own at the frame's end. A frame in an open-wire slot compares nothing (R398). Choices: log 56 (DEDUCED, unsafe). -/
def shadowFrame (t : Nat) (lane shadow test subB : List Int) (map : Int × Int) (b : Block) : Block :=
  let b := (b.at (if test.isEmpty && subB.isEmpty then t + 320 else t + 1000)).dropGone
  if !b.shadowRotates || t % 1000 ≠ 0 then b
  else
    let m := t / 1000
    let ch := b.visited m
    let b := if b.noCells || b.inSlot ch t 1000 then b
      else
        let b := b.visit t ch lane shadow map
        if b.shadowRotates && test.length = 129 then b.muxCheck ch (b.testResult ch (t + 384) test - b.testLevel m) else b
    if b.shadowRotates && subB.length = subSlotCodes then b.subSlotB m (b.subSlotVolts t subB) else b

/-- CURRENT_LANE_COMPARE (R154): the demodulated means of the two current lanes over the millisecond from start to stop, in nV input-referred, from
the chop periods that E4 has taken in it. Choices: log 29 (DEDUCED, unsafe). -/
def currentLaneCompare (start stop : Nat) (b : Block) : Block :=
  let b := b.at stop
  if start % 1000 ≠ 0 || chainDiff stop start ≠ 1000 then b
  else
    let s := b.keeper.laneSums
    let b : Block := b.withKeeper { b.keeper with laneSums := (0, 0, 0) }
    if !b.measuring || !b.engineRuns 4 || b.lanes.currentKept ≠ 0 || b.bit Ob.frontEndHealth 1 || s.2.2 = 0 then b
    else
      let mean := fun x : Int => b.atInput (roundDiv (x * stepPv) (2 ^ 20 * 1000 * s.2.2))
      let m1 := mean s.1
      let m2 := mean s.2.1
      let floorNv : Int := if b.get Ob.currentRange = 2 then 50000 else 5000
      let limit := 2 * 2000 * floorNv + ((m1 + m2).natAbs : Int)
      let bad := decide (limit < (4000 * (m1 - m2)).natAbs)
      let n := if bad then b.lanes.currentDiverge + 1 else 0
      let b := b.withLanes { b.lanes with currentDiverge := n, currentMeans := (m1, m2) }
      if n < 3 || b.lanes.currentPending then b
      else if b.shadowRotates then b.withLanes { b.lanes with currentPending := true }
      else b.keepBoth

/-! ### Averaging in force (R145, R146) -/

/-- Code and shift that LaneAveraging asks for now, with the floor of thermal level 3 (R146). -/
def Block.averagingWanted (b : Block) : Nat × Nat :=
  let c := b.nat Ob.laneAveragingCode
  let s := b.nat Ob.laneAveragingShift
  if b.get Ob.throttleLevelLevel = 3 then (max c 6, max s (max c 6 - 4)) else (c, s)

/-- Code and shift in force from an instant on; blocks that started before it keep the earlier setting (R145). -/
def Block.setAveraging (b : Block) (at' : Nat) (w : Nat × Nat) : Block :=
  let old := (b.nat Ob.laneAveragingCodeInForce, b.nat Ob.laneAveragingShiftInForce)
  let b := (b.put Ob.laneAveragingCodeInForce w.1).put Ob.laneAveragingShiftInForce w.2
  b.withLanes { b.lanes with averagingBefore := some (at', old) }

/-- What has been asked for takes effect at once: no lanes run. -/
def Block.settleAveraging (b : Block) : Block :=
  let b := b.setAveraging b.now b.averagingWanted
  b.withLanes { b.lanes with averagingPending := false, averagingNext := none, averagingBefore := none }

/-- A change of LaneAveraging is asked for (R145): at once while no lanes run, else at the next window boundary. Choices: log 31 (DEDUCED, unsafe). -/
def Block.askAveraging (b : Block) : Block :=
  if b.measuring then b.withLanes { b.lanes with averagingPending := true } else b.settleAveraging

/-- LANE_AVERAGING_CHANGE (R145): the first whole multiple of the larger N at or after the boundary, for what the boundary found asked for; a
write since then waits for the next. Choices: log 31 (DEDUCED, unsafe). -/
def laneAveragingChange (t : Nat) (b : Block) : Block :=
  let b := b.at t
  match b.lanes.averagingNext with
  | none => b
  | some w =>
    if t % max b.blockLength (2 ^ w.1) ≠ 0 then b
    else ((b.setAveraging b.now w).withLanes { (b.setAveraging b.now w).lanes with averagingNext := none })

/-! ### Start and stop -/

/-- Lanes start (R135): terms from their seeds, CONVERGING; slices that failed stay failed until the next core reset. -/
def Block.lanesStart (b : Block) : Block :=
  let terms := (List.range 37).map fun k =>
    let s := b.seed k
    let old := b.terms k
    (⟨s.gA, s.gB, s.oB, s.tau, 0, old.failedA, old.failedB, false⟩ : LaneTerms)
  let b := b.withLanes { b.lanes with
    running := true, startAt := b.now, terms := terms, maps := b.fuses.mapSeeds, fifos := List.replicate 32 [], currentFifo := [],
    auxFifo := [], raw := List.replicate 32 [], lags := List.replicate 32 [], meters := [], confirm := none,
    visits := List.replicate 32 0, badFrames := [], currentDiverge := 0, currentPending := false,
    comparators := List.replicate 32 .rest, lowSince := List.replicate 32 none, bPin := 0, slot := none, failedSlots := [], waitingSlots := [], lastSlot := none }
  cellLimitRefresh (b.settleAveraging.publishCorrection)

/-- Lanes stop (R86): CorrectionState OFF, CONVERGING over, sources of the comparators no longer detected. -/
def Block.lanesStop (b : Block) : Block :=
  let b := b.withLanes { b.lanes with
    running := false, fifos := List.replicate 32 [], currentFifo := [], auxFifo := [], confirm := none, comparators := List.replicate 32 .rest, currentPending := false,
    slot := none, failedSlots := [], waitingSlots := [], lastSlot := none }
  let b := (b.put Ob.correctionState 0).putBit Ob.frontEndHealth 5 false
  let b := (List.range 32).foldl (fun b k => b.setHealth k 1 false) b
  (b.clearLive 0x01).clearLive 0x02

/-! ### The commands of the family -/

/-- REFERENCE_COMPARE (R130). -/
def execReferenceCompare (conversion : Nat × List Int) (s : State) : Out := onBlock (referenceCompare conversion.1 conversion.2) s

/-- CORRECTION_UPDATE (R134–R139). -/
def execCorrectionUpdate (lane : Fin 37) (gA gB oB : Int) (skew : Option Int) (badA badB : Bool) (meanDiff : Int)
    (s : State) : Out := onBlock (correctionUpdate lane.val gA gB oB skew badA badB meanDiff) s

/-- LANE_BLOCK (R140–R149, R158, R159, R175, R201). -/
def execLaneBlock (ch : Fin 32) (start : Nat) (own shadow : List Int) (s : State) : Out := onBlock (laneBlock ch.val start own shadow) s

/-- CELL_LIMIT_REFRESH (R201). -/
def execCellLimitRefresh (s : State) : Out := onBlock cellLimitRefresh s

/-- LANE_AVERAGING_CHANGE (R145). -/
def execLaneAveragingChange (t : Nat) (s : State) : Out := onBlock (laneAveragingChange t) s

/-- SHADOW_FRAME (R158–R161, R401). -/
def execShadowFrame (t : Nat) (lane shadow test subB : List Int) (offset gain : Int) (s : State) : Out :=
  onBlock (shadowFrame t lane shadow test subB (offset, gain)) s

/-- CURRENT_LANE_COMPARE (R154). -/
def execCurrentLaneCompare (start stop : Nat) (s : State) : Out := onBlock (currentLaneCompare start stop) s

end Sys2Proof.Machine
end

