-- ==== Sys2Proof/Machine/Measure.lean ====
section
/-! DEFINITION. Windows, captures and current (R152–R157, R165–R185, R193–R203, R424): the schedules and their boundaries, publication,
the keeper, the mains tracker, snapshots and the aux inputs. Window boundaries are held in 1/64 us (R167). -/

namespace Sys2Proof.Machine

/-- Wrap of chain time in ps. -/
abbrev wrapPs : Int := 2 ^ 48 * 1000000

/-- Difference of two instants in ps, modulo the wrap. -/
def psDiff (a b : Int) : Int :=
  let d := (a - b) % wrapPs
  if 2 * d < wrapPs then d else d - wrapPs

/-- A calibrated result held inside the values R180 leaves to results. -/
def resultOf (v : Int) : Int := clampInt (-(2 ^ 31) + 1) (2 ^ 31 - 1) v

/-- Does a result saturate (R13, R180)? -/
def resultHit (v : Int) : Bool := resultOf v != v

/-! ### Schedules (R166–R171) -/

/-- The node is on the nominal schedule from the next boundary on (R167, R173). -/
def Block.leaveKeeper (b : Block) : Block :=
  (b.withWin { b.win with keeperSchedule := false, changed := true }).showNominal

/-- An empty sum. -/
def ChanSum.zero : ChanSum := ⟨0, 0, 0, 0, 0, 0, 0, 0⟩

/-- Is a cell lane CONVERGING (R135, R178)? -/
def Block.cellConverging (b : Block) : Bool := !b.noCells && (List.range b.cells).any fun k => b.healthBit k 1

/-- Does one of E0–E4 deliver nothing now (R402)? -/
def Block.dataMissing (b : Block) : Bool := (List.range 5).any fun k => !b.engineRuns k

/-- A window from a start to a stop, with the flags that hold from its start (R178, R188, R402); one of FIXED ends at the wrap at the latest (R166). -/
def Block.freshWindow (b : Block) (start stop seq : Nat) (changed : Bool) : Window :=
  ⟨start, if b.win.mode = 1 then min stop wrap64 else stop, seq % 2 ^ 32,
    boolNat b.dataMissing + 4 * boolNat (b.get Ob.clockSourceTimebaseState != 2) +
      8 * boolNat (b.win.mains && !b.win.keeperSchedule) + 32 * boolNat changed + 64 * boolNat (b.isQuiet (seq % 2 ^ 32)) +
      128 * boolNat b.cellConverging + 256 * boolNat (b.get Ob.referenceSource == 2),
    List.replicate 32 .zero, (0, 0)⟩

/-- The window that follows one that ended at a boundary (R166–R171). -/
def Block.nextWindow (b : Block) (old : Window) : Option Window :=
  (b.nextSpan old).map fun x => b.freshWindow x.1 x.2.1 x.2.2 b.win.changed

/-! ### Publication (R175–R181) -/

/-- Samples a window expects of a channel: its whole microseconds less those excluded (R176). -/
def Window.expected (w : Window) (c : ChanSum) : Nat := (ceilDiv w.stop 64 - ceilDiv w.start 64) - c.excluded

/-- Coverage of one channel in per mille; none when nothing was expected of it. -/
def Window.coverageOf (w : Window) (c : ChanSum) : Option Nat :=
  let e := w.expected c
  if e = 0 then none else some (min 1000 (1000 * c.used / e))

/-- Coverage of a window: its worst channel that counts, 1,000 when none does (R176). -/
def Block.coverage (b : Block) (w : Window) : Nat :=
  ((List.range b.cells).filterMap fun i =>
    if b.noCells || b.healthBit i 4 then none
    else match w.sums[i]? with
      | some c => w.coverageOf c
      | none => none).foldl min 1000

/-- Mean, minimum, maximum and flags of one channel (R175, R179); the three have no value where no sample of the channel was used. Choices:
log 30 (DEDUCED, unsafe). -/
def Block.windowCell (b : Block) (i : Nat) (c : ChanSum) : Int × Int × Int × Nat :=
  if b.healthBit i 4 then (noValue, noValue, noValue, c.flags ||| 64)
  else if c.used = 0 then (noValue, noValue, noValue, c.flags)
  else (resultOf (roundDiv c.sum (c.used * 1000)), resultOf (roundDiv c.least 1000), resultOf (roundDiv c.most 1000), c.flags)

/-- T64 of an instant given in 1/128 us, truncated to the sub-tick (R113, R175). -/
def t64Of128 (x : Nat) : Nat := x / 128 % t48 * 65536 + x % 128 * 400 / 128 * 128

/-- T64 of an instant given in ps of chain time, truncated to the sub-tick (R113). Choices: log 8 (DESIGN CHOICE, unsafe). -/
def t64OfPs (x : Nat) : Nat := x / 1000000 % t48 * 65536 + x % 1000000 / 2500 * 128

/-- Largest and smallest of the cell values of a result, with their channels from 1. -/
def spread (l : List (Nat × Int)) : Option ((Nat × Int) × (Nat × Int)) :=
  match l with
  | [] => none
  | x :: t => some (t.foldl (fun m y => if m.2 < y.2 then y else m) x, t.foldl (fun m y => if y.2 < m.2 then y else m) x)

/-- CellDelta on a window or, in INSTANT mode, a capture (R202). -/
def Block.deltaCheck (b : Block) (cells : List Int) : Block :=
  let l := (List.range b.cells).filterMap fun i => match cells[i]? with
    | some v => if v = noValue || b.healthBit i 4 then none else some (i + 1, v)
    | none => none
  match spread l with
  | none => b
  | some (hi, lo) =>
    let d := hi.2 - lo.2
    b.follow 0x03 (hi.1 + 256 * lo.1 + 65536 * (min 65535 (d / 1000).toNat)) (decide (b.limitNow 4 < d))

/-- STALE on the published window (R176, R178). -/
def Block.staleWindow (b : Block) : Block := b.putBit Ob.windowStatusFlags 1 true

/-- What the meters say of the window: BleedCurrent over its settled ticks and SwitchPower, each tick by the us of it that lie in the window (R223,
chapter 7's table); a power beyond U16 saturates (R13). Choices: log 34 (DEDUCED, unsafe). -/
def Block.publishMeters (b : Block) (w : Window) : Block :=
  let b := (List.range b.cells).foldl (fun b i =>
    let c := (w.sums[i]?).getD .zero
    b.put (chKey Ob.bleedCurrent i) (if c.bleedUs = 0 then 0 else roundDiv c.bleed (10 * c.bleedUs))) b
  let p := if w.power.2 = 0 then 0 else roundDiv w.power.1 (w.power.2 * milliwatt)
  (b.noteSat 5 (decide (65535 < p))).put Ob.switchPower (min 65535 p)

/-- Does a result of a channel's window saturate (R13, R180)? -/
def Block.cellHit (b : Block) (i : Nat) (c : ChanSum) : Bool :=
  !b.healthBit i 4 && c.used ≠ 0 && (resultHit (roundDiv c.sum (c.used * 1000)) || resultHit (roundDiv c.least 1000) ||
    resultHit (roundDiv c.most 1000))

/-- The bits of CellHealth that follow the latest window, and the flags of R13 (R163). -/
def Block.healthOfWindow (b : Block) (w : Window) : Block :=
  if b.noCells then b
  else (List.range b.cells).foldl (fun b i =>
    let c := (w.sums[i]?).getD .zero
    ((b.setHealth i 7 (bitOf c.flags 2)).setHealth i 8 (bitOf c.flags 3)).noteSat (engineOf i) (b.cellHit i c)) b

/-- The window's objects, all in one step (R177). -/
def Block.publishObjects (b : Block) (w : Window) (coverage : Nat) : Block :=
  let cells := if b.noCells then [] else (List.range b.cells).map fun i => b.windowCell i ((w.sums[i]?).getD .zero)
  let centre := t64Of128 (w.start + w.stop)
  let len := (roundDiv ((w.stop - w.start : Nat) * 1000) 64).toNat
  let b := b.putAll [(Ob.windowSequence, w.seq), (Ob.windowStatusCentre, centre), (Ob.windowStatusLength, len),
    (Ob.windowStatusFlags, w.flags), (Ob.windowStatusCoverage, coverage)]
  let b := (List.range cells.length).foldl (fun b i => match cells[i]? with
    | some c => ((b.put (chKey Ob.cellVoltage i) c.1).put (chKey Ob.cellMin i) c.2.1).put (chKey Ob.cellMax i) c.2.2.1
    | none => b) b
  b.withWin { b.win with published := ⟨w.seq, centre, len, coverage, cells⟩ }

/-- WindowRecord (R181). -/
def Block.windowRecord (b : Block) : List Byte :=
  let p := b.win.published
  bytesOf 4 p.seq ++ bytesOf 8 p.centre ++ bytesOf 4 p.length ++ bytesOf 2 (b.nat Ob.windowStatusFlags) ++
    bytesOf 2 p.coverage ++ bytesOf 1 (if b.noCells then 0 else b.cells) ++ bytesOf 3 0 ++
    (if b.noCells then [] else
      ((List.range b.cells).map fun i =>
        let c := (p.cells[i]?).getD (noValue, noValue, noValue, 0)
        bytesOfInt 4 c.1 ++ bytesOfInt 4 c.2.1 ++ bytesOfInt 4 c.2.2.1 ++ bytesOf 2 c.2.2.2 ++ bytesOf 2 0).flatten)

/-! ### The keeper's record (R183, R184, R328) -/

/-- Q of a window in 2^-16 uC, floor, from Σ V·w (nV·us) and Σ w (R183, R184). -/
def Block.charge16 (b : Block) (vw : Int) (w : Nat) : Int :=
  (vw + b.get Ob.currentTrimOffset * w) * (10 ^ 6 + b.get Ob.currentTrimGain) * 65536 / (b.get Ob.shuntValue * 10 ^ 6)

/-- Frequency announced for entry k of the chain analysis set (R243): 0 when it is no harmonic. -/
def Block.announcedFor (b : Block) (k : Nat) : Nat :=
  match b.chainSet[k]? with
  | some (f, 1) => if 1 ≤ f && f ≤ 30 then (b.keeper.announced[k]?).getD 0 else 0
  | _ => 0

/-- The base frame of R328 for a window whose charge is Q. The tracker's state it states is that of the boundary that closed the window, by which the
keeper itself chose its schedule (R170). Choices: log 30 (DEDUCED, unsafe). -/
def Block.baseFrame (b : Block) (w : Window) (q mean : Int) (next : Window) (steps : List (Nat × Int)) (phasors : Nat) : List Byte :=
  let four := steps.take 4
  [0x01#8] ++ bytesOf 1 b.keeper.epoch ++ bytesOf 1 b.keeper.closedState ++ bytesOf 1 four.length ++ bytesOf 4 w.seq ++
    bytesOfInt 8 q ++ bytesOfInt 4 mean ++ bytesOfInt 8 b.keeper.total ++ bytesOf 4 (b.nat Ob.mainsFrequency) ++
    bytesOf 8 (next.stop % wrap64) ++ bytesOf 4 next.seq ++ ((List.range 4).map fun k => bytesOf 4 (b.announcedFor k)).flatten ++
    bytesOf 1 phasors ++ bytesOf 3 0 ++
    ((List.range 4).map fun i => match four[i]? with
      | some s => bytesOf 6 s.1 ++ bytesOf 2 0 ++ bytesOfInt 4 s.2
      | none => bytesOf 12 0).flatten

/-- A phasor frame of R328. -/
def KeeperPhasor.frame (p : KeeperPhasor) (seq : Nat) : List Byte :=
  [0x02#8] ++ bytesOf 1 p.entry ++ bytesOf 2 0 ++ bytesOf 4 seq ++ bytesOf 4 p.interval ++ bytesOf 4 p.frequency ++
    bytesOfInt 4 p.total.1 ++ bytesOfInt 4 p.total.2 ++
    ((List.range 8).map fun i =>
      let s := (p.subs[i]?).getD (0, 0)
      bytesOfInt 4 s.1 ++ bytesOfInt 4 s.2).flatten ++ bytesOf 24 0

/-- The frequencies announced for the harmonic entries of the chain analysis set (R243): a new one when the tracker's estimate has moved by
more than 0.1 %. -/
def Block.announce (b : Block) : Block :=
  let f := b.nat Ob.mainsFrequency
  b.withKeeper { b.keeper with announced := (List.range 4).map fun k =>
      let h := ((b.chainSet[k]?).getD (0, 0)).1
      let old := (b.keeper.announced[k]?).getD 0
      if 1 ≤ h && h ≤ 30 then (if old = 0 || old < 1000 * dist (h * f) old then h * f else old) else 0 }

/-- The last grid instant of 100 us at least some time ago (R255). -/
def gridBefore (now us : Nat) : Nat := (now + t48 - us) % t48 / 100 * 100

/-- The keeper closes a window: Q with the remainder carried, the running total, which saturates (R13), and the KEEPER frames (R184, R244, R328). A
current step waits for a record until the 1 ms after it has been looked at too (R255). Choices: log 30 (DEDUCED, unsafe). -/
def Block.closeKeeper (b : Block) (w : Window) : Block :=
  if !b.isKeeper then b
  else
    let k := b.keeper
    let q16 := b.charge16 k.charge k.weight + k.remainder
    let q := q16 / 65536
    let exact := roundDiv (q * 64000) (w.stop - w.start)
    let mean := resultOf exact
    let sum := k.total + q
    let total := clampInt (-(2 ^ 63)) (2 ^ 63 - 1) sum
    let b := b.noteSat 4 (resultHit exact || total != sum)
    let mine := fun s : Nat × Int =>
      decide (diff64 (64 * s.1) w.stop < 0) && decide (1000 ≤ chainDiff (gridBefore b.now 1200) s.1)
    let ended := fun p : KeeperPhasor => decide (diff64 p.stop w.stop ≤ 0)
    let b : Block := b.withKeeper { k with
      remainder := (q16 % 65536).toNat, total := total, charge := 0, weight := 0
      steps := k.steps.filter fun s => !mine s
      phasors := k.phasors.filter fun p => !ended p }
    let b := b.announce
    let next := b.win.opened.getD (b.freshWindow w.stop w.stop (w.seq + 1) false)
    let items := k.phasors.filter ended
    let frames := b.baseFrame w q mean next (k.steps.filter mine) items.length :: items.map fun p => p.frame w.seq
    b.withKeeper { b.keeper with outgoing := b.keeper.outgoing ++ frames }

/-- The window that waits is published, or found too thin (R176, R177), and its keeper record formed. -/
def Block.publishWindow (b : Block) : Block :=
  match b.win.closing with
  | none => b
  | some w =>
    let b := b.closeKeeper w
    let len := (roundDiv ((w.stop - w.start : Nat) * 1000) 64).toNat
    let b := (b.withWin { b.win with closing := none, latest := (w.seq, len) }).healthOfWindow w
    let cov := b.coverage w
    if cov < 500 then b.staleWindow
    else
      let b := (b.publishObjects w cov).publishMeters w
      if b.noCells then b
      else
        let b := b.deltaCheck (b.win.published.cells.map (·.1))
        (List.range b.cells).foldl (fun b i => match b.win.published.cells[i]? with
          | some c => if c.1 = noValue then b else b.lowCheck i b.now c.1
          | none => b) b

/-! ### Boundaries -/

/-- A timebase step, a reference switch or a drop marks the running window incomplete (R107, R118, R176). -/
def Block.spoilWindow (b : Block) : Block := b.flagWindow 0

/-- LaneAveraging waits for the boundary that has now come (R145). -/
def Block.averagingBoundary (b : Block) : Block :=
  if b.lanes.averagingPending then
    b.withLanes { b.lanes with averagingPending := false, averagingNext := some b.averagingWanted }
  else b

/-- The keeper takes its schedule up when its tracker serves, and leaves it when the tracker searches (R167, R170, R174); it takes it up at a
boundary of the nominal schedule only, never at one of FIXED. -/
def Block.keeperTakesOver (b : Block) (wasMains : Bool) : Block :=
  if !b.isKeeper || !b.win.mains || !wasMains then b
  else if b.trackerServes != b.win.keeperSchedule then
    b.withWin { b.win with keeperSchedule := b.trackerServes, changed := true }
  else b

/-- The keeper's name is gone, or the mode follows no keeper: the schedule is the nominal one (R167). -/
def Block.dropSchedule (b : Block) : Block :=
  if b.win.keeperSchedule && (!b.win.mains || decide (63 < b.get Ob.currentKeeper)) then b.leaveKeeper else b

/-- The boundary at the end of the open window (R166–R171, R175). -/
def Block.closeWindow (b : Block) (w : Window) : Block :=
  let b := b.publishWindow
  let unaligned := b.get Ob.clockSourceTimebaseState != 2
  let w := if unaligned then { w with flags := setBitTo w.flags 2 true } else w
  let k := b.keeper
  let b := b.withKeeper { k with charge := k.nextCharge, weight := k.nextWeight, nextCharge := 0, nextWeight := 0, closedState := b.nat Ob.mainsTrackerState }
  let b := b.withWin { b.win with closing := some w, mainsStart := b.win.mains }
  let b := (b.loadWindowSettings.keeperTakesOver b.win.mains).dropSchedule
  let b := b.withWin { b.win with opened := b.nextWindow w, changed := false, held := b.isKeeper }
  b.averagingBoundary

/-- The first window after lanes have run for 1 ms, or after INSTANT (R86, R171): it starts at a boundary of its schedule, the one a keeper
record has announced where the chain is on the keeper schedule, else a nominal one or one of FIXED. Its end at the keeper schedule is the next
record's to state. Choices: log 30 (DEDUCED, unsafe). -/
def Block.firstWindow (b : Block) (t : Nat) : Block :=
  let c := b.loadWindowSettings
  if chainDiff t b.lanes.startAt < 1000 then b
  else match c.firstSpan (64 * t - 63) with
    | none => b
    | some (served, start, stop, seq) =>
      if ceilDiv start 64 % t48 ≠ t then b
      else
        let c := c.withWin { c.win with keeperSchedule := served }
        let w := c.freshWindow start stop seq c.win.changed
        (c.withWin { c.win with
          opened := some w, changed := false, held := false, announced := none, mainsStart := true }).averagingBoundary

/-- The window of the schedule that holds chain time t after a timebase step past the open one (R166, R176). -/
def Block.seatWindow (b : Block) (t : Nat) : Block :=
  if b.win.mode = 4 then b
  else
    let j := b.win.indexAt (64 * (t % t48))
    let w := b.freshWindow (b.win.boundary j) (b.win.boundary (j + 1)) j false
    b.withWin { b.win with opened := some { w with flags := setBitTo w.flags 0 true }, mainsStart := true }

/-- WINDOW_BOUNDARY (R166–R171, R175): the boundary at chain time t, in whole microseconds at or after it. In FIXED the window that was running at the
wrap is cut there, and incomplete; one that a step of the timebase has moved past, either way, gives place to the one of FIXED or of the nominal
schedule that holds t. Choices: log 30 (DEDUCED, unsafe). -/
def windowBoundary (t : Nat) (b : Block) : Block :=
  let b := b.at t
  let x := 64 * (t % t48)
  if !b.measuring then b
  else match b.win.opened with
    | none => b.firstWindow (t % t48)
    | some w =>
      let marked := { w with flags := setBitTo w.flags 0 true }
      if !w.over x then b
      else if diff64 x w.start < 0 then
        if b.win.keeperSchedule then b else (b.closeWindow marked).seatWindow t
      else
        let c := b.closeWindow (if b.win.mode = 1 && w.stop = wrap64 then marked else w)
        match c.win.opened with
        | some n => if n.over x && !c.win.keeperSchedule then c.seatWindow t else c
        | none => c

/-- KEEPER_RECORD_MISSING (R169, R185): the record that fixes the open window's end has not come by B_(j+1) + 1 ms. -/
def keeperRecordMissing (t : Nat) (b : Block) : Block :=
  let b := b.at t
  if !b.measuring || b.win.held then b
  else
    let b := if b.get Ob.keeperStatusStatus = 1 then b.put Ob.keeperStatusStatus 2 else b
    if !b.win.keeperSchedule then b
    else
      let b := b.flagWindow 4
      match b.win.lastRecord with
      | some r =>
        if b.win.hold ≤ chainDiff b.now r then b.leaveKeeper else b
      | none => b

/-! ### Current samples (R152–R154, R174, R183, R202) -/

/-- Current of a current-channel value in nV, in mA, before it saturates (R183). Choices: log 30 (DEDUCED, unsafe). -/
def Block.rawMilliamps (b : Block) (v : Int) : Int :=
  let r := b.nat Ob.shuntValue
  if r = 0 then 0 else roundDiv ((v + b.get Ob.currentTrimOffset) * (10 ^ 6 + b.get Ob.currentTrimGain)) (r * 1000)

/-- Current of a current-channel value in nV, in mA (R180, R183). -/
def Block.milliamps (b : Block) (v : Int) : Int := resultOf (b.rawMilliamps v)

/-- A current lane's demodulated sum of a chop period (R153): the first sample of each half is blanked, one of the two of the first 1 us, and the
second half is exchanged. -/
def demodulate (ys : List Int) : Int := sumOf ((ys.take 16).drop 1) - sumOf (ys.drop 17)

/-- One current-channel sample in nV from the corrected samples of the lanes that run (R130, R152, R153): demodulated, and scaled by the range and
its calibration. When the factory record fails its check (R150), the current channel's offset and gain count as zero like the cells', and Basalt
keeps its fused value, the model's choice. Choices: log 72 (DESIGN CHOICE, unsafe). -/
def Block.chopSample (b : Block) (e : CurrentEntry) : Int :=
  let n := (if e.first.isEmpty then 0 else 30) + (if e.second.isEmpty then 0 else 30)
  let s := demodulate e.first + demodulate e.second
  let wide := b.get Ob.currentRange == 2
  let raw := if n = 0 then 0
    else if wide then roundDiv (s * 15000000000) (2 ^ 20 * 5 * n) else roundDiv (s * 7500000000) (2 ^ 20 * 25 * n)
  let cal := if b.nvm.calLoaded then
      (if wide then (b.fuses.wideOffset, b.fuses.wideGain) else (b.fuses.narrowOffset, b.fuses.narrowGain))
    else (0, 0)
  roundDiv ((b.onReference raw - cal.1) * (10 ^ 9 + cal.2)) (10 ^ 9)

/-- Is a corrected sample of a current lane beyond its range (R152): ±149.9 mV on SHUNT, ±1.499 V on SENSOR? -/
def Block.beyondRange (b : Block) (y : Int) : Bool :=
  if b.get Ob.currentRange = 2 then decide (1499000000 * 5 * 2 ^ 20 < y.natAbs * 15000000000)
  else decide (149900000 * 25 * 2 ^ 20 < y.natAbs * 7500000000)

/-- OverCurrent on the mean of the samples of the last CurrentDebounce (R202); of the fewer held where the channel has not run that long.
Choices: log 30 (DEDUCED, unsafe). -/
def Block.overCurrent (b : Block) : Block :=
  let l := b.keeper.recent.filter fun s : Nat × Int => decide (chainDiff b.now s.1 ≤ b.limitNow 7)
  let mean := b.milliamps (meanOf (l.map (·.2)))
  let b := b.noteSat 4 (resultHit (b.rawMilliamps (meanOf (l.map (·.2)))))
  let up := b.limitNow 5
  let down := b.limitNow 6
  let bad := (decide (up ≠ 0) && decide (up < mean)) || (decide (down ≠ 0) && decide (mean < -down))
  if bad then b.raise 0x07 (mean % 2 ^ 32).toNat else b.clearLive 0x07

/-- Mean of the recent samples whose centres lie in [g + lo, g + hi), in nV; none when there are none. -/
def spanMean (l : List (Nat × Int)) (g : Nat) (lo hi : Int) : Option Int :=
  let x := l.filter fun s => decide (lo ≤ chainDiff (s.1 + 16) g) && decide (chainDiff (s.1 + 16) g < hi)
  if x.isEmpty then none else some (meanOf (x.map (·.2)))

/-- Are two chain times within 1 ms of each other (R255)? -/
def nearMs (x y : Nat) : Bool := decide ((chainDiff x y).natAbs ≤ 1000)

/-- The steps kept after a grid instant at which one of a size was found (R255): a step stands only while no larger one lies within ±1 ms of it, kept
or not; sizes are those found at the grid instants of the last 1 ms. Of equal ones the first stands. -/
def addStep (l sizes : List (Nat × Int)) (t : Nat) (size : Int) : List (Nat × Int) :=
  let left := l.filter fun s => !(nearMs t s.1 && decide (s.2.natAbs < size.natAbs))
  if sizes.any fun s => nearMs t s.1 && decide (size.natAbs ≤ s.2.natAbs) then left else left ++ [(t, size)]

/-- StepCurrent of the chain analysis set that the keeper works (R241, R255). -/
def Block.stepCurrent (b : Block) : Int := b.imp.chainStep

/-- The keeper looks for a current step at a grid instant whose later span is now complete (R255). A size beyond I32 saturates (R13). -/
def Block.keeperStep (b : Block) : Block :=
  let g := gridBefore b.now 1200
  match spanMean b.keeper.recent g 200 1200, spanMean b.keeper.recent g (-1200) (-200) with
  | some a, some c =>
    let d := b.rawMilliamps a - b.rawMilliamps c
    let k := b.keeper
    let near := k.sizes.filter fun s => nearMs g s.1
    if b.stepCurrent ≤ d.natAbs then
      (b.noteSat 4 (resultHit d)).withKeeper { k with
        steps := addStep k.steps near g (resultOf d), sizes := near ++ [(g, resultOf d)] }
    else b
  | _, _ => b

/-- The keeper's share of a current-channel sample v of the chop period that starts at t (R175, R183, R202, R255). -/
def Block.keepSample (b : Block) (t : Nat) (v : Int) : Block :=
  let share : Option Window → Nat := fun o => match o with
    | some w => overlap t 32 w.start w.stop
    | none => 0
  let wc := share b.win.closing
  let wo := share b.win.opened
  let span := max (b.limitNow 7) 2600
  let k := b.keeper
  let b := b.withKeeper { k with
    recent := (k.recent.filter fun s : Nat × Int => decide (chainDiff b.now s.1 ≤ span)) ++ [(t, v)]
    history := if b.chainSet.any fun e => e.2 == 1 && e.1 != 0 then
      (k.history.filter fun s : Nat × Int => decide (chainDiff b.now s.1 ≤ b.e6Span)) ++ [(t, v)] else []
    charge := k.charge + v * wc, weight := k.weight + wc
    nextCharge := k.nextCharge + v * wo, nextWeight := k.nextWeight + wo }
  b.overCurrent.keeperStep

/-- E4 takes one chop period (R153, R154): the comparison of the two lanes at every node, the current at the keeper. -/
def Block.takeChop (b : Block) (e : CurrentEntry) : Block :=
  let s := b.keeper.laneSums
  let b : Block := if b.lanes.currentKept = 0 then
      b.withKeeper { b.keeper with laneSums := (s.1 + demodulate e.first, s.2.1 + demodulate e.second, s.2.2 + 30) }
    else b
  let old := b.keeper.overs.filter fun t => decide (chainDiff b.now t ≤ max (b.limitNow 7) 2600)
  let b : Block := b.withKeeper { b.keeper with overs := if e.overrange then old ++ [e.start] else old }
  if b.isKeeper then
    let v := b.chopSample e
    b.keepSample e.start v
  else b

/-- A sample that finds E4's FIFOs full (R148): dropped; at the keeper the windows it would have joined are incomplete. -/
def Block.dropChop (b : Block) (e : CurrentEntry) : Block :=
  let b := if b.isKeeper then b.onWindows fun w =>
      if overlap e.start 32 w.start w.stop = 0 then w else { w with flags := setBitTo w.flags 0 true }
    else b
  let b := b.withLanes { b.lanes with dropAt := some b.now }
  b.raise 0xA7 33

/-- Chop periods that a current lane's FIFO of 64 entries holds while E4 is stopped: an entry is a sample (R148). Choices: log 58 (DEDUCED, unsafe). -/
abbrev chopDepth : Nat := 2

/-- CURRENT_SAMPLE (R148, R152–R154, R175, R183, R202): the chop period [t, t + 32) of the current lanes, at every node. first and second are the
raw codes of the two lanes, 32 conversions and the one that completes the last; beyond says that ISP or ISN left ±1.6 V of AGND. A lane that
E4 does not keep delivers nothing. Choices: log 58 (DEDUCED, unsafe). -/
def currentSample (t : Nat) (first second : List Int) (beyond : Bool) (b : Block) : Block :=
  let b := (b.at (t + 32)).dropGone
  let kept := b.lanes.currentKept
  let one := kept == 0 || kept == 1
  let two := kept == 0 || kept == 2
  if !b.measuring || t % 32 ≠ 0 || kept = 3 || (one && first.length ≠ 33) || (two && second.length ≠ 33) then b
  else
    let a := if one then b.corrected 32 t first else []
    let c := if two then b.corrected 33 t second else []
    let beyond' := beyond || (one && overrangeBlock (b.terms 32).failedA (b.terms 32).failedB first) ||
      (two && overrangeBlock (b.terms 33).failedA (b.terms 33).failedB second) || (a ++ c).any fun y => b.beyondRange y.1
    let e : CurrentEntry := ⟨t, a.map (·.1), c.map (·.1), beyond'⟩
    let b := b.noteSat 4 ((a ++ c).any (·.2))
    if b.engineRuns 4 then b.takeChop e
    else if b.lanes.currentFifo.length < chopDepth then b.withLanes { b.lanes with currentFifo := b.lanes.currentFifo ++ [e] }
    else b.dropChop e

/-! ### The mains tracker (R173, R174) -/

/-- Time of qualifying ripple for LOCKED, and of weak ripple for HOLDOVER (R173, R174). -/
abbrev acquireUs : Int := 500000
abbrev weakUs : Int := 200000

/-- MAINS_TRACKER_UPDATE (R173, R174): ripple amplitude in nV and its fundamental in mHz as the keeper's E4 measured them. While LOCKED the period
follows every frequency in the band, that of a ripple weak for less than 200 ms too. -/
def mainsTrackerUpdate (t amplitude milliHz : Nat) (b : Block) : Block :=
  let b := b.at t
  if !b.engineRuns 4 || !b.isKeeper then b
  else if !b.measuring then b.put Ob.mainsTrackerState 0
  else
    let b := b.put Ob.mainsTrackerRippleAmplitude amplitude
    let band := decide (90000 ≤ milliHz) && decide (milliHz ≤ 130000)
    let good := band && decide (b.win.threshold ≤ amplitude)
    let k := b.keeper
    let qual := if good then (match k.qualifiedSince with
      | some q => some q
      | none => some b.now) else none
    let weak := if good then none else (match k.weakSince with
      | some q => some q
      | none => some b.now)
    let acquired := match qual with
      | some q => decide (acquireUs ≤ chainDiff b.now q)
      | none => false
    let faded := match weak with
      | some q => decide (weakUs ≤ chainDiff b.now q)
      | none => false
    let b := b.withKeeper { k with qualifiedSince := qual, weakSince := weak }
    let lock := fun b : Block =>
      let p := 2 * 10 ^ 12 / max 1 milliHz
      let b : Block := b.withKeeper { b.keeper with period := p, holdSince := none }
      ((b.put Ob.mainsTrackerState 2).put Ob.mainsTrackerPeriod p).put Ob.mainsFrequency (milliHz / 2 : Nat)
    let st := b.get Ob.mainsTrackerState
    if st = 2 then
      if !band || faded then
        ((b.withKeeper { b.keeper with holdSince := some b.now }) : Block).put Ob.mainsTrackerState 3
      else lock b
    else if st = 3 then
      if acquired then lock b
      else match b.keeper.holdSince with
        | some h =>
          if b.win.hold ≤ chainDiff b.now h then (b.put Ob.mainsTrackerState 1).showNominal else b
        | none => b
    else if acquired then lock b
    else b.put Ob.mainsTrackerState 1

/-- The keeper's work stops: its tracker is OFF (R174). -/
def Block.keeperStop (b : Block) : Block :=
  let b : Block := b.withKeeper { b.keeper with
    charge := 0, weight := 0, nextCharge := 0, nextWeight := 0, recent := [], history := [], steps := [], phasors := []
    sequences := List.replicate 4 .fresh, qualifiedSince := none, weakSince := none, holdSince := none
    laneSums := (0, 0, 0), overs := [], sizes := [], closedState := 0 }
  b.put Ob.mainsTrackerState 0

/-- CurrentKeeper, or the node's position, has changed: a node that was the keeper, or is now, starts without a lock (R173, R174). was says whether
it was the keeper. SnapshotCurrent and RippleAmplitude of a node that becomes keeper again read what its last time as keeper left until its next
capture and its next tracker update, the model's choice. Choices: log 73 (DESIGN CHOICE, unsafe). -/
def Block.keeperMoved (b : Block) (was : Bool) : Block :=
  if was == b.isKeeper then b
  else
    let b := b.keeperStop
    if b.win.keeperSchedule && !b.isKeeper then b else b.showNominal

/-! ### Captures (R193–R197) -/

/-- Tags of R197. -/
abbrev tagCoalesced : Nat := 0
abbrev tagStale : Nat := 1
abbrev tagDelayed : Nat := 2
abbrev tagUnaligned : Nat := 3
abbrev tagQuiet : Nat := 4
abbrev tagCompensated : Nat := 5
abbrev tagOverrange : Nat := 6

/-- CompatStatus as the snapshot just published leaves it (R70). -/
def Block.compatStatusWord (b : Block) : Nat :=
  boolNat b.anyLatched + 2 * boolNat (b.safeHold != 0) + 4 * boolNat b.gov.conducted + 8 * boolNat (b.on Ob.chargeInhibitCharge) +
    16 * boolNat (b.get Ob.serviceRequestReason != 0)

/-- CompatCellCode of a snapshot value (R71). -/
def compatCode (v : Int) : Int := if v = noValue then 0xFFFF else clampInt 0 65534 (roundHalfUp v 100)

/-- A snapshot published in one step (R71, R194, R197): values none leaves CellSnapshot as it was. CompatCellCode takes its codes only here: of a
channel whose CellSnapshot holds 0x80000000 because none is published yet, or because a raised CellCount brings it back, it reads R70's default 0
until then, not R71's 0xFFFF, the model's choice. Choices: log 68 (DESIGN CHOICE, unsafe). -/
def Block.publishSnapshot (b : Block) (seq instant tags : Nat) (values : Option (List Int)) (current : Int) : Block :=
  let b := b.putAll [(Ob.snapshotStatusSequence, seq), (Ob.snapshotStatusInstant, instant), (Ob.snapshotStatusTags, tags)]
  let b : Block := match values with
    | none => b
    | some l =>
      let b : Block := (List.range b.cells).foldl (fun b i => b.put (chKey Ob.cellSnapshot i) ((l[i]?).getD noValue)) b
      if b.isKeeper then b.put Ob.snapshotCurrent current else b
  let b := (List.range b.cells).foldl (fun b i =>
    b.put (chKey Ob.compatCellCode i) (compatCode (b.get (chKey Ob.cellSnapshot i)))) b
  let b := (b.put Ob.compatTag
    (seq % 16384 + 16384 * boolNat (bitOf tags tagStale) + 32768 * boolNat (bitOf tags tagCoalesced) : Nat)).put
      Ob.compatStatus b.compatStatusWord
  (b.withGov { b.gov with conducted := b.gov.ch.any (·.on) }).withLink { b.link with snapWaits := true }

/-- The next snapshot number (R197). -/
def Block.nextSnap (b : Block) : Block := b.withCap { b.cap with seq := (b.cap.seq + 1) % 2 ^ 32 }

/-- In QUIET mode a SNAP turns off every switch that balancing commands (R196). -/
def Block.quietForCapture (b : Block) : Block :=
  if b.get Ob.tapCompensationMode = 2 then
    let b : Block := b.withGov { b.gov with quietCapture := true }
    (List.range 32).foldl (fun b i => b.editCh i fun c => if c.owner == .balancing then c.off else c) b
  else b

/-- The averaging span in us. -/
def Block.captureSpan (b : Block) : Nat := b.blockLength

/-- A capture at an instant in ps, its samples still to come. -/
def Block.capture' (b : Block) (instant tags : Nat) : Capture :=
  ⟨instant % wrapPs.toNat, tags, b.cap.seq, none, (instant + b.captureSpan * 1000000) % wrapPs.toNat⟩

/-- The running capture has taken its last sample: it waits to be published, and the pending one runs (R195). -/
def Captures.shift (c : Captures) : Captures :=
  match c.running with
  | some r => { c with running := c.pending, pending := none, done := c.done ++ [r] }
  | none => c

/-- Captures whose end t_c + N us has come by now give up their place (R195). -/
def Block.settleCaptures (b : Block) : Block :=
  let ended := fun c : Captures => match c.running with
    | some r => decide (0 ≤ psDiff (b.now * 1000000 : Nat) r.stop)
    | none => false
  let c := if ended b.cap then b.cap.shift else b.cap
  b.withCap (if ended c then c.shift else c)

/-- SNAP acted on at t (R193, R195, R197): stampPs is the stamp of its leading edge in ps of chain time. -/
def Block.takeSnap (b : Block) (stampPs : Nat) : Block :=
  let instant := ((onGrid stampPs + 40000000 : Int) - b.tb.arrival) % wrapPs
  if !b.measuring then
    let b := b.nextSnap
    b.publishSnapshot b.cap.seq (t64OfPs instant.toNat) (2 + 8 * boolNat (b.get Ob.clockSourceTimebaseState != 2)) none 0
  else
    let b := b.settleCaptures
    let base := 16 * boolNat (b.get Ob.tapCompensationMode == 2)
    match b.cap.running with
    | none =>
      let b := b.nextSnap.quietForCapture
      b.withCap { b.cap with running := some (b.capture' instant.toNat base) }
    | some r =>
      match b.cap.pending with
      | some p =>
        let b := b.count32 Ob.triggerDropsDropped
        b.withCap { b.cap with pending := some { p with tags := setBitTo p.tags tagCoalesced true } }
      | none =>
        let b := b.nextSnap.quietForCapture
        let late := decide (psDiff instant r.stop < 0)
        let b := if late then b.count32 Ob.triggerDropsDelayed else b
        b.withCap { b.cap with pending := some (b.capture' (if late then r.stop else instant.toNat) (base + 4 * boolNat late)) }

/-- SNAP (R193–R197). -/
def snap (t stampPs : Nat) (b : Block) : Block :=
  let b := b.at t
  if b.awake then (b.heard b.link.headSide).takeSnap stampPs else b

/-- The first sample's microsecond of a capture (R194): that of t_c in INSTANT mode, else of the first strobe at or after t_c. -/
def Block.captureFirst (b : Block) (r : Capture) : Nat :=
  (if b.win.mode = 4 then r.instant / 1000000 else (r.instant + 999999) / 1000000) % t48

/-- Corrected samples of a channel of a capture: the shadow lane's where it stands for the lane (R139, R159). -/
def Block.captureSamples (b : Block) (ch start : Nat) (codes : List Int) : List (Int × Bool) :=
  let own := b.corrected ch start codes
  let other := b.substituted ch start codes
  (List.range own.length).filterMap fun i => if b.healthBit ch 3 || b.underTest ch ((start + i) % t48) then other[i]? else own[i]?

/-- Value of channel ch in a capture (R194, R196, R400): its N samples averaged, calibrated, and freed of the filtered drop over them, which has
run on from the last block; with whether that term is non-zero and whether a step has saturated. No value in an open-wire slot or without
a lane. -/
def Block.captureValue (b : Block) (ch start : Nat) (codes : List Int) : Int × Bool × Bool :=
  let n := b.blockLength
  if b.healthBit ch 4 || b.inSlot ch start n || codes.length ≠ n + 1 then (noValue, false, false)
  else
    let ys := b.captureSamples ch start codes
    let shift := b.nat Ob.laneAveragingShiftInForce
    let x := b.calibrate ch start n (b.laneVolts (averagerOut (sumOf (ys.map (·.1))) shift) (b.nat Ob.laneAveragingCodeInForce) shift)
    let f := b.filterRun ch n start (b.lagAt ch start)
    let term := if b.get Ob.tapCompensationMode = 3 then 0 else roundDiv f.2 (65536 * n)
    let v := satStep (x.1 - term) x.2
    (resultOf (roundDiv v.1 1000), term != 0, v.2 || ys.any (·.2) || resultHit (roundDiv v.1 1000))

/-- A capture that has its samples (R194, R196, R197). -/
def Block.fillCapture (b : Block) (r : Capture) (cells : List (List Int)) : Block × Capture :=
  let start := b.captureFirst r
  let chans := if b.noCells then [] else List.range b.cells
  let vals := chans.map fun i => b.captureValue i start ((cells[i]?).getD [])
  let beyond' := chans.any fun i =>
    let t := b.terms (if b.healthBit i 3 then shadowLane else i)
    overrangeBlock t.failedA t.failedB ((cells[i]?).getD [])
  let tags := r.tags + 8 * boolNat (b.get Ob.clockSourceTimebaseState != 2) + 32 * boolNat (vals.any (·.2.1)) + 64 * boolNat beyond'
  (chans.foldl (fun b i => b.noteSat (engineOf i) ((vals[i]?).getD (0, false, false)).2.2) b,
    { r with values := some (vals.map (·.1)), tags := tags })

/-- Does a capture still wait for its samples? -/
def Capture.open' (r : Capture) : Bool := r.values.isNone

/-- Balancing may resume once no capture waits for its samples (R196). -/
def Block.endQuiet (b : Block) : Block :=
  if (b.cap.running.toList ++ b.cap.pending.toList ++ b.cap.done).any Capture.open' then b
  else b.withGov { b.gov with quietCapture := false }

/-- CAPTURE_START (R194, R196): the capture of a sequence number, if it is the oldest without samples, has them: per channel the raw codes of its N
conversions, slice A first, and of the one that completes the last. Choices: log 59 (DEDUCED, unsafe). -/
def captureStart (t seq : Nat) (cells : List (List Int)) (b : Block) : Block :=
  let b := b.at t
  let b : Block := if b.cap.running.any fun r => !r.open' then b.withCap b.cap.shift else b
  if !b.measuring then b
  else match b.cap.done.find? Capture.open' with
    | some r =>
      if r.seq ≠ seq then b
      else
        let f := b.fillCapture r cells
        let c : Block := f.1.withCap { f.1.cap with done := f.1.cap.done.map fun x => if x.seq == r.seq then f.2 else x }
        c.endQuiet
    | none => match b.cap.running with
      | none => b
      | some r =>
        if r.seq ≠ seq then b
        else
          let f := b.fillCapture r cells
          let c : Block := f.1.withCap { f.1.cap with running := some f.2 }
          c.endQuiet

/-- Snapshot instant of a capture in ps: its first sample plus (N − 1) / 2 us; on the grid in window modes (R194). -/
def Block.snapshotPs (b : Block) (r : Capture) : Nat :=
  let first := if b.win.mode = 4 then r.instant else (r.instant + 999999) / 1000000 * 1000000
  first + (b.captureSpan - 1) * 500000

/-- Start and value in nV of the current-channel sample whose centre lies nearest an instant in ps (R194). -/
def Block.currentNear (b : Block) (x : Nat) : Option (Nat × Int) :=
  (b.keeper.recent.foldl (fun (o : Option (Nat × Nat × Int)) (s : Nat × Int) =>
    let d := (psDiff ((s.1 + 16) * 1000000 : Nat) x).natAbs
    match o with
    | some y => if d < y.1 then some (d, s) else o
    | none => some (d, s)) none).map (·.2)

/-- A capture with its values is published; in INSTANT mode it tests CellDelta (R194, R202). The OVER of the capture's own current sample counts with a
channel's: the current channel is one (R152, R197). Choices: log 59 (DEDUCED, unsafe). -/
def Block.publishCapture (b : Block) (r : Capture) (l : List Int) : Block :=
  let x := b.snapshotPs r
  let near := if b.isKeeper then b.currentNear x else none
  let tags := if near.any fun s => b.keeper.overs.contains s.1 then setBitTo r.tags tagOverrange true else r.tags
  let now := match near with
    | some s => b.milliamps s.2
    | none => noValue
  let b := b.noteSat 4 (near.any fun s => resultHit (b.rawMilliamps s.2))
  let b := b.publishSnapshot r.seq (t64OfPs x) tags (some l) now
  if b.win.mode = 4 && !b.noCells then b.deltaCheck l else b

/-- CAPTURE_PUBLISH (R194, R195): the oldest capture that has its samples. In INSTANT mode a change of LaneAveraging may follow (R145). -/
def capturePublish (t : Nat) (b : Block) : Block :=
  let b := b.at t
  let after := fun b : Block => if b.win.mode = 4 then b.averagingBoundary else b
  match b.cap.done with
  | r :: rest => match r.values with
    | some l => after ((b.publishCapture r l).withCap { (b.publishCapture r l).cap with done := rest })
    | none => b
  | [] => match b.cap.running with
    | none => b
    | some r => match r.values with
      | none => b
      | some l => after ((b.publishCapture r l).withCap { (b.publishCapture r l).cap with running := b.cap.pending, pending := none })

/-- Captures when the lanes stop (R86): those with their samples are published as usual; one that cannot complete is published STALE, with the
instant that its SNAP asked for. Choices: log 59 (DEDUCED, unsafe). -/
def Block.abandonCaptures (b : Block) : Block :=
  let unaligned := b.get Ob.clockSourceTimebaseState != 2
  let all := b.cap.done ++ b.cap.running.toList ++ b.cap.pending.toList
  let b := all.foldl (fun (b : Block) (r : Capture) => match r.values with
    | some l => b.publishCapture r l
    | none => b.publishSnapshot r.seq (t64OfPs r.instant) (setBitTo (setBitTo r.tags tagStale true) tagUnaligned unaligned) none 0) b
  (b.withCap { b.cap with running := none, pending := none, done := [] }).withGov { b.gov with quietCapture := false }

/-! ### Aux inputs (R155–R157, R198–R200, R202, R424) -/

/-- Bits of a logarithm to base 2 by repeated squaring: m in [2^64, 2^65) stands for 1 ≤ m/2^64 < 2. Choices: log 7 (DESIGN CHOICE, unsafe). -/
def log2Bits : Nat → Nat → Nat → Nat
  | 0, _, acc => acc
  | n + 1, m, acc =>
    let q := m * m / 2 ^ 64
    if 2 ^ 65 ≤ q then log2Bits n (q / 2) (2 * acc + 1) else log2Bits n q (2 * acc)

/-- ln(p / q) in units of 2^-60, for positive p and q: a fixed-point logarithm that R199 takes as the real one. Choices: log 7 (DESIGN CHOICE, unsafe). -/
def lnFixed (p q : Nat) : Int :=
  let x := p * 2 ^ 64 / q
  let e : Int := (Nat.log2 x : Int) - 64
  let m := if 64 ≤ Nat.log2 x then x / 2 ^ (Nat.log2 x - 64) else x * 2 ^ (64 - Nat.log2 x)
  let l2 : Int := e * 2 ^ 60 + log2Bits 60 m 0
  l2 * 799144290325165979 / 2 ^ 60

/-- Temperature of an NTC in 0.1 °C from the pin voltage and TREF (R199); none when the formula has no positive temperature.
Choices: log 7 (DESIGN CHOICE, unsafe). -/
def ntcTemperature (bias nominal beta pin tref : Nat) : Option Int :=
  let p := bias * pin
  let q := (tref - pin) * nominal
  if p = 0 || q = 0 then none
  else
    let l := lnFixed p q
    let den : Int := 100 * (beta : Int) * 2 ^ 60 + 29815 * l
    if den ≤ 0 then none
    else some (roundDiv (20 * (29815 * (beta : Int) * 2 ^ 60) - 5463 * den) (2 * den.toNat))

/-- Pin k's counters. -/
def Block.pin (b : Block) (k : Nat) : AuxPin := (b.aux.pins[k]?).getD .rest

/-- Counters of a pin after a conversion (R200, R202): temp none when the pin is open or shorted. -/
def AuxPin.step (p : AuxPin) (temp : Option Int) (isOpen : Bool) (hotAt coldAt : Int) : AuxPin :=
  let run := fun (c : Bool) n => if c then n + 1 else 0
  let hot := run (match temp with
    | some t => decide (hotAt < t)
    | none => false) p.hot
  let cold := run (match temp with
    | some t => decide (t < coldAt)
    | none => false) p.cold
  let hotBack := run (match temp with
    | some t => decide (t ≤ hotAt - 20)
    | none => false) p.hotBack
  let coldBack := run (match temp with
    | some t => decide (coldAt + 20 ≤ t)
    | none => false) p.coldBack
  let opens := run (temp.isNone && isOpen) p.opens
  let shorts := run (temp.isNone && !isOpen) p.shorts
  let valid := run temp.isSome p.valid
  ⟨hot, cold, opens, shorts, valid, hotBack, coldBack,
    (p.hotLive && decide (hotBack < 3)) || decide (3 ≤ hot), (p.coldLive && decide (coldBack < 3)) || decide (3 ≤ cold),
    (p.openLive && decide (valid < 3)) || decide (3 ≤ opens), (p.shortLive && decide (valid < 3)) || decide (3 ≤ shorts)⟩

/-- Data of 0x04 and 0x05 (R377). -/
def thermData (k : Nat) (broken : Bool) (temp : Int) : Nat :=
  k + 1 + 256 * boolNat broken + 65536 * ((if broken then -32768 else temp) % 65536).toNat

/-- 0x04 and 0x05 follow the pins (R200, R202). -/
def Block.followTherm (b : Block) (k : Nat) (was : AuxPin) (temp : Option Int) : Block :=
  let now := b.pin k
  let t := temp.getD 0
  let b := if (now.hotLive && !was.hotLive) then b.raise 0x04 (thermData k false t) else b
  let b := if (now.shortLive && !was.shortLive) then b.raise 0x04 (thermData k true t) else b
  let b := if (now.coldLive && !was.coldLive) then b.raise 0x05 (thermData k false t) else b
  let b := if (now.openLive && !was.openLive) then b.raise 0x05 (thermData k true t) else b
  let b := if b.aux.pins.any fun p => p.hotLive || p.shortLive then b else b.clearLive 0x04
  if b.aux.pins.any fun p => p.coldLive || p.openLive then b else b.clearLive 0x05

/-- Pins whose function is THERMISTOR. -/
def Block.thermistors (b : Block) : List Nat := (List.range 8).filter fun k => b.get (Ob.auxFunction + k + 1) = 1

/-- One advisory of R424 after pin k's conversion: its runs outside and inside, and whether it is set. -/
def Block.advise (b : Block) (k : Nat) (temp : Option Int) (lo hi : Int) (outside inside : List Nat) (was : Bool) :
    List Nat × List Nat × Bool :=
  let out := match temp with
    | some t => decide (t < lo) || decide (hi < t)
    | none => true
  let ins := match temp with
    | some t => decide (lo + 10 ≤ t) && decide (t ≤ hi - 10)
    | none => false
  let o := outside.set k (if out then (outside[k]?).getD 0 + 1 else 0)
  let i := inside.set k (if ins then min 3 ((inside[k]?).getD 0 + 1) else 0)
  let set := b.thermistors.any fun p => decide (3 ≤ (o[p]?).getD 0)
  let clear := b.thermistors.all fun p => decide (3 ≤ (i[p]?).getD 0)
  (o, i, set || (was && !clear))

/-- Both advisories after a THERMISTOR conversion (R424). -/
def Block.adviseBoth (b : Block) (k : Nat) (temp : Option Int) : Block :=
  let th := b.thermal
  let c := b.advise k temp (b.get Ob.chargeRangeLow) (b.get Ob.chargeRangeHigh) th.chargeOut th.chargeIn
    (b.on Ob.chargeInhibitCharge)
  let d := b.advise k temp (b.get Ob.dischargeRangeLow) (b.get Ob.dischargeRangeHigh) th.dischargeOut th.dischargeIn
    (b.on Ob.chargeInhibitDischarge)
  let b := b.withThermal { th with chargeOut := c.1, chargeIn := c.2.1, dischargeOut := d.1, dischargeIn := d.2.1 }
  let b := b.putBit Ob.chargeInhibitPins k (decide (1 ≤ (c.1[k]?).getD 0))
  let was := b.on Ob.chargeInhibitCharge
  let b := (b.put Ob.chargeInhibitCharge (boolVal c.2.2)).put Ob.chargeInhibitDischarge (boolVal d.2.2)
  if c.2.2 then
    if was then b
    else
      let lowest := ((List.range 8).filter fun p => b.bit Ob.chargeInhibitPins p).headD k
      b.raise 0x06 (lowest + 1)
  else b.clearLive 0x06

/-- Advisories outside Measure and Full (R424). -/
def Block.dropAdvisories (b : Block) : Block :=
  let z := List.replicate 8 0
  let b := b.withThermal { b.thermal with chargeOut := z, chargeIn := z, dischargeOut := z, dischargeIn := z }
  (b.putAll [(Ob.chargeInhibitCharge, 0), (Ob.chargeInhibitDischarge, 0), (Ob.chargeInhibitPins, 0)]).clearLive 0x06

/-- Calibrated aux voltage of an averager output at N = 128 and shift 3, in nV (R130, R151, R155): on Basalt the output is multiplied by the
ratio, and the 1.25 V that R155 adds is not. Choices: log 58 (DEDUCED, unsafe). -/
def Block.auxVolts (b : Block) (out : Int) : Int :=
  let v := 1250000000 + b.onReference (roundDiv (2500000000 * out) (2 ^ 24))
  let cal := if b.nvm.calLoaded then (b.fuses.auxOffset, b.fuses.auxGain) else (0, 0)
  roundDiv ((v - cal.1) * (10 ^ 9 + cal.2)) (10 ^ 9)

/-- A rail's conversion (R155): VSTK, VIN5, VDDA and VDDD in mV, TREF and Basalt in uV, in the order of Housekeeping. -/
def Block.railReading (b : Block) (rail : Nat) (nv : Int) : Block :=
  let v : Int :=
    if rail = 0 then roundDiv (nv * 80) 1000000
    else if rail = 1 then roundDiv (nv * 5) 2000000
    else if rail = 2 then roundDiv (nv * 2) 1000000
    else if rail = 3 then roundDiv nv 1000000
    else if rail = 4 then roundDiv (nv * 5) 4000
    else roundDiv nv 1000
  b.withAux { b.aux with rails := b.aux.rails.set rail v.toNat }

/-- A THERMISTOR pin's conversion (R156, R199, R200): before the first TREF conversion it changes nothing. Choices: log 6 (DESIGN CHOICE, safe),
log 58 (DEDUCED, unsafe). -/
def Block.thermistorReading (b : Block) (k pin : Nat) : Block :=
  let tref := (b.aux.rails[4]?).getD 0
  if tref = 0 then b
  else
    let isOpen := decide (98 * tref < 100 * pin)
    let short := decide (100 * pin < 2 * tref)
    let formula := ntcTemperature (b.nat Ob.thermistorModelBiasResistance) (b.nat Ob.thermistorModelNominalResistance)
      (b.nat Ob.thermistorModelBeta) pin tref
    let temp : Option Int := if isOpen || short then none else some (formula.getD (Config.freeValue b.free (40 + k)))
    let b := b.withFree (b.free + 1)
    let b := match temp with
      | some t => (b.put (Ob.auxValue + k + 1) t).put (Ob.auxStatus + k + 1) 1
      | none => (b.put (Ob.auxValue + k + 1) noValue).put (Ob.auxStatus + k + 1) (if isOpen then 2 else 3)
    let was := b.pin k
    let now := was.step temp isOpen (b.limitNow 8) (b.limitNow 9)
    let b := b.withAux { b.aux with pins := b.aux.pins.set k now }
    (b.followTherm k was temp).adviseBoth k temp

/-- Measured duty of the pulse input in ppm (R198): that of the last valid periods, whether or not the input is lost. -/
def Block.pulseDuty (b : Block) : Int :=
  let l := b.recentPulses
  if l.isEmpty then 0 else ((l.map fun p => if p.2.1 = 0 then 0 else p.2.2 * 1000000 / p.2.1).foldl (· + ·) 0 / l.length : Nat)

/-- One pin's slot (R155, R198): a conversion, the sampled level of an input, or the level driven. A THR pin while θ_in is taken from the object
is neither analogue nor pulse THR: it shows none. Choices: log 58 (DEDUCED, unsafe). -/
def Block.pinSlot (b : Block) (k : Nat) (out : Int) (level : Bool) : Block :=
  let f := b.get (Ob.auxFunction + k + 1)
  let source := b.get Ob.throttleSourceSource
  let show' := fun (b : Block) (v st : Int) => (b.put (Ob.auxValue + k + 1) v).put (Ob.auxStatus + k + 1) st
  let nv := b.auxVolts out
  let uv := roundDiv nv 1000
  if f = 1 then b.thermistorReading k uv.toNat
  else if f = 2 || (f = 7 && source = 2) then
    let b := show' b (clampInt 0 2500000 uv) (if uv < 0 || 2500000 < uv then 4 else 1)
    if f = 7 then
      b.withGov { b.gov with analog := (b.gov.analog ++ [clampInt 0 2500000 uv]).drop (b.gov.analog.length + 1 - 4) }
    else b
  else if f = 7 && source = 3 then show' b b.pulseDuty 1
  else if f = 3 then show' b (boolVal level) 1
  else if 4 ≤ f && f ≤ 6 then show' b (boolVal ((b.axLevel k).getD false)) 1
  else show' b 0 0

/-- Slots of a cycle of the aux lanes (R155, R157). -/
def Block.auxSlots (b : Block) : Nat := if b.lanes.auxLost.isEmpty then 5 else 9

/-- What a slot of an aux lane converts (R155, R157): a pin or a rail. cycle counts the cycles of chain time, and the rail slot of cycle c converts
rail c mod 3 of its lane, or c mod 6 of one lane alone. Choices: log 58 (DEDUCED, unsafe). -/
def Block.auxInput (b : Block) (lane slot cycle : Nat) : Option (Nat ⊕ Nat) :=
  if b.lanes.auxLost.contains lane then none
  else if b.lanes.auxLost.isEmpty then
    if slot < 4 then some (.inl (lane * 4 + slot)) else some (.inr (lane * 3 + cycle % 3))
  else if slot < 8 then some (.inl slot)
  else some (.inr (cycle % 6))

/-- E4 takes one slot of an aux lane (R155–R157, R198–R200, R424). -/
def Block.takeAux (b : Block) (e : AuxEntry) : Block :=
  let i := e.start / 192
  match b.auxInput e.lane (i % b.auxSlots) (i / b.auxSlots) with
  | none => b
  | some (.inl k) => b.pinSlot k e.out e.level
  | some (.inr r) => b.railReading r (b.auxVolts e.out)

/-- AUX_SLOT (R148, R155–R157, R198–R200, R424): the slot of aux lane A or B that starts at t. settling are the 64 conversions that are
discarded, codes the 128 that are averaged at shift 3 with the one that completes the last; level is the level of the pin, where the slot has one. -/
def auxSlot (t lane : Nat) (settling codes : List Int) (level : Bool) (b : Block) : Block :=
  let b := (b.at (t + 192)).dropGone
  if !b.measuring || t % 192 ≠ 0 || settling.length ≠ 64 || codes.length ≠ 129 then b
  else
    let ys := (b.corrected (34 + lane) t (settling ++ codes)).drop 64
    let e : AuxEntry := ⟨t, lane, averagerOut (sumOf (ys.map (·.1))) 3, level⟩
    let b := b.noteSat 4 (ys.any (·.2))
    if b.engineRuns 4 then b.takeAux e
    else if (b.lanes.auxFifo.filter fun x => x.lane == lane).length < laneFifoDepth then
      b.withLanes { b.lanes with auxFifo := b.lanes.auxFifo ++ [e] }
    else (b.withLanes { b.lanes with dropAt := some b.now }).raise 0xA7 (34 + lane)

/-- E4 runs again and empties its FIFOs in order (R148, R402). -/
def Block.drainE4 (b : Block) : Block :=
  let chops := b.lanes.currentFifo
  let slots := b.lanes.auxFifo
  let b := b.withLanes { b.lanes with currentFifo := [], auxFifo := [] }
  slots.foldl Block.takeAux (chops.foldl Block.takeChop b)

/-! ### The commands of the family -/

/-- SNAP (R193–R197). -/
def execSnap (t stampPs : Nat) (s : State) : Out := onSwitching (snap t stampPs) s

/-- CAPTURE_START (R194, R196). -/
def execCaptureStart (t seq : Nat) (cells : List (List Int)) (s : State) : Out := onBlock (captureStart t seq cells) s

/-- CAPTURE_PUBLISH (R194, R197). -/
def execCapturePublish (t : Nat) (s : State) : Out := onBlock (capturePublish t) s

/-- CURRENT_SAMPLE (R153, R183, R202). -/
def execCurrentSample (t : Nat) (lanes : List Int × List Int) (beyond : Bool) (s : State) : Out :=
  onBlock (currentSample t lanes.1 lanes.2 beyond) s

/-- MAINS_TRACKER_UPDATE (R173, R174). -/
def execMainsTrackerUpdate (t amplitude milliHz : Nat) (s : State) : Out := onBlock (mainsTrackerUpdate t amplitude milliHz) s

/-- AUX_SLOT (R155–R157, R198–R200). -/
def execAuxSlot (t : Nat) (lane : Fin 2) (settling codes : List Int) (level : Bool) (s : State) : Out :=
  onBlock (auxSlot t lane.val settling codes level) s

end Sys2Proof.Machine
end

