-- ==== Sys2Proof/Machine/Frames.lean ====
section
/-! DEFINITION. Frames of the Iswen link (R297–R305, R320–R331, R336–R338): their formats and checks, the payloads of a node's own
streams, the order in which the head-side transmitter sends, and what the head sends on DU. A frame is held as its bytes between K27.7
and K29.7: header, payload, CRC-16. -/

namespace Sys2Proof.Machine

/-! ### Formats -/

/-- One bit step of the CRC-16 of R304. -/
def crc16Bit (c : BitVec 16) : BitVec 16 := if c.getLsbD 15 then (c <<< 1) ^^^ 0x8BB7#16 else c <<< 1

/-- One byte of the CRC-16 (R304). -/
def crc16Byte (c : BitVec 16) (x : Byte) : BitVec 16 :=
  crc16Bit (crc16Bit (crc16Bit (crc16Bit (crc16Bit (crc16Bit (crc16Bit (crc16Bit (c ^^^ (x.setWidth 16 <<< 8)))))))))

/-- CRC-16 of a byte string (R304). -/
def crc16 (l : List Byte) : Nat := (l.foldl crc16Byte 0xFFFF#16).toNat

/-- One bit step of the CRC-8 of R336. -/
def crc8Bit (c : BitVec 8) : BitVec 8 := if c.getLsbD 7 then (c <<< 1) ^^^ 0x2F#8 else c <<< 1

/-- One byte of the CRC-8 (R336). -/
def crc8Byte (c : BitVec 8) (x : Byte) : BitVec 8 :=
  crc8Bit (crc8Bit (crc8Bit (crc8Bit (crc8Bit (crc8Bit (crc8Bit (crc8Bit (c ^^^ x))))))))

/-- CRC-8 of a byte string (R336). -/
def crc8 (l : List Byte) : Nat := (l.foldl crc8Byte 0xFF#8).toNat

/-- The 32-bit header (R301); flags are PEBBLE, MARK and STALE in bits 2, 1 and 0. -/
def headerOf (type pos cls flags seq : Nat) : Nat :=
  type * 2 ^ 28 + pos % 64 * 2 ^ 22 + cls % 8 * 2 ^ 19 + flags % 8 * 2 ^ 16 + seq % 65536

/-- A frame: header, payload and CRC-16 (R300). -/
def frameOf (header : Nat) (payload : List Byte) : List Byte :=
  let l := bytesOf 4 header ++ payload
  l ++ bytesOf 2 (crc16 l)

/-- Header of a frame's bytes. -/
def headerIn (f : List Byte) : Nat := natOf (f.take 4)

/-- Fields of a header (R301). -/
def hdrType (h : Nat) : Nat := h / 2 ^ 28
def hdrPos (h : Nat) : Nat := h / 2 ^ 22 % 64
def hdrClass (h : Nat) : Nat := h / 2 ^ 19 % 8
def hdrPebble (h : Nat) : Bool := bitOf h 18
def hdrMark (h : Nat) : Bool := bitOf h 17
def hdrStale (h : Nat) : Bool := bitOf h 16
def hdrSeq (h : Nat) : Nat := h % 65536

/-- Payload of a frame's bytes. -/
def payloadIn (f : List Byte) : List Byte := (f.drop 4).take (f.length - 6)

/-- Payload length of a stream class (R303). -/
def classLength (cls : Nat) : Option Nat :=
  if cls = 1 then some 104 else if cls = 2 then some 116 else if cls = 3 then some 56 else if cls = 4 then some 272
  else if cls = 5 then some 80 else if cls = 6 then some 112 else none

/-- Payload length of a broadcast subtype (R331). -/
def subtypeLength (sub : Nat) : Option Nat :=
  if sub = 1 then some 16 else if sub = 2 then some 8 else if sub = 3 then some 256 else if sub = 4 then some 4
  else if sub = 5 then some 36 else if sub = 6 then some 56 else none

/-- Does a payload have the length its type, class or subtype requires (R302, R303, R331)? -/
def lengthOk (h : Nat) (p : List Byte) : Bool :=
  let t := hdrType h
  if t = 1 then classLength (hdrClass h) == some p.length
  else if t = 2 || t = 3 then decide (8 ≤ p.length) && decide (p.length ≤ 136)
  else if t = 4 then
    if hdrClass h = 6 then p.length == 112
    else hdrClass h == 0 && match p.head? with
      | some x => subtypeLength x.toNat == some p.length
      | none => false
  else if t = 5 || t = 7 then p.length == 4
  else if t = 6 then p.length == 1
  else false

/-- Does a type travel in the upper direction (R302)? -/
def upperType (t : Nat) : Bool := t == 2 || t == 4 || t == 5

/-- Is a frame received in a direction well formed but for its CRC (R305)? -/
def formOk (upper : Bool) (f : List Byte) : Bool :=
  let h := headerIn f
  decide (6 ≤ f.length) && decide (1 ≤ hdrType h) && decide (hdrType h ≤ 7) && upperType (hdrType h) == upper &&
    lengthOk h (payloadIn f)

/-- Does a frame's CRC match (R304)? -/
def crcOk (f : List Byte) : Bool := natOf (f.drop (f.length - 2)) == crc16 (f.take (f.length - 2))

/-- I24 of a result (R322). -/
def i24 (v : Int) : List Byte :=
  if v = noValue then bytesOf 3 0x800000 else bytesOfInt 3 (clampInt (-8388607) 8388607 v)

/-- Value of an I24; none for the no-value code. -/
def i24Value (l : List Byte) : Option Int := if natOf l = 0x800000 then none else some (intOf l)

/-! ### Position and ports -/

/-- Does the node hold a committed position (R308, R312)? -/
def Block.positioned (b : Block) : Bool := decide (b.get Ob.position ≤ 63)

/-- A node, not a head, whose head-side port is DU (R341). -/
def Block.turned (b : Block) : Bool := !b.isHead && b.link.headSide == .du

/-- In INSTANT mode (R172)? -/
def Block.instantMode (b : Block) : Bool := if b.measuring then b.win.mode == 4 else b.get Ob.windowMode == 4

/-- Is excitation stopped (R238)? -/
def Block.activeStopped (b : Block) : Bool :=
  decide (b.safeHold ≠ 0) || decide (2 ≤ b.get Ob.throttleLevelLevel) || b.live 0x82

/-- Does an AMBIENT entry k (from 0) lack a reference (R241, R244)? -/
def Block.lacksReference (b : Block) (k : Nat) : Bool :=
  b.instantMode || decide (63 < b.get Ob.currentKeeper) ||
    (b.ownEntries[k]?).getD (0, 0) != (b.chainSet[k]?).getD (0, 0) ||
    match b.imp.entries[k]? with
    | some e => e.noReference
    | none => true

/-- ImpedanceStatus of entry k (R271): 0 IDLE, 1 RUNNING, 2 NO_REFERENCE, 3 WAITING, 4 STOPPED. -/
def Block.impStatus (b : Block) (k : Nat) : Nat :=
  let e := (b.ownEntries[k]?).getD (0, 0)
  if e.1 = 0 || e.2 = 0 then 0
  else if !b.e6Works then 4
  else if e.2 = 1 then (if b.lacksReference k then 2 else 1)
  else if b.activeStopped then 4
  else if b.imp.active.isSome then 1
  else 3

/-! ### Payloads (R322–R327) -/

/-- Cells 1–32 of a result array as I24 (R321, R322). -/
def Block.cells24 (b : Block) (base : Nat) : List Byte :=
  ((List.range 32).map fun i => if b.noCells || b.cells ≤ i then i24 noValue else i24 (b.get (base + i + 1))).flatten

/-- Cells eligible for the chain minimum (R264): not INVALID, uncertainty within MaxUncertainty. -/
def Block.lowestSoc (b : Block) : Nat :=
  if !b.fuses.variantX || b.noCells then 0xFFFF
  else ((List.range b.cells).filterMap fun i =>
    let v := b.nat (chKey Ob.cellSoc i)
    if v = 0xFFFF || b.healthBit i 4 || b.nat Ob.autoBalanceMaxUncertainty < b.nat (chKey Ob.socUncertainty i) then none
    else some v).foldl min 0xFFFF

/-- VOLTS (R323): payload and whether its objects are stale. -/
def Block.voltsPayload (b : Block) : List Byte × Bool :=
  if b.instantMode then
    (bytesOf 4 0 ++ bytesOf 2 (b.nat Ob.windowStatusFlags) ++ bytesOf 2 b.lowestSoc ++
      ((List.range 32).map fun _ => i24 noValue).flatten, true)
  else
    (bytesOf 4 (b.nat Ob.windowSequence) ++ bytesOf 2 (b.nat Ob.windowStatusFlags) ++ bytesOf 2 b.lowestSoc ++
      b.cells24 Ob.cellVoltage, b.bit Ob.windowStatusFlags 1)

/-- SNAP (R324). -/
def Block.snapPayload (b : Block) : List Byte × Bool :=
  (bytesOf 4 (b.nat Ob.snapshotStatusSequence) ++ bytesOf 8 (b.nat Ob.snapshotStatusInstant) ++
    bytesOf 2 (b.nat Ob.snapshotStatusTags) ++ bytesOf 1 (if b.noCells then 0 else b.cells) ++ bytesOf 1 0 ++
    bytesOfInt 4 (if b.isKeeper then b.get Ob.snapshotCurrent else noValue) ++ b.cells24 Ob.cellSnapshot,
    b.bit Ob.snapshotStatusTags tagStale)

/-- TEMPS (R325). -/
def Block.tempsPayload (b : Block) : List Byte × Bool :=
  (bytesOf 1 (b.nat Ob.throttleLevelLevel) ++
    bytesOf 1 (boolNat (b.on Ob.chargeInhibitCharge) + 2 * boolNat (b.hasReason .thermometer)) ++ bytesOf 2 0 ++
    ((List.range 8).map fun k => bytesOfInt 4 (b.get (Ob.auxValue + k + 1))).flatten ++
    ((List.range 8).map fun k => bytesOf 1 (b.nat (Ob.auxStatus + k + 1))).flatten ++
    bytesOfInt 2 (b.get Ob.hottestLaneHottest) ++ bytesOf 1 (b.nat Ob.hottestLaneHottestSub) ++ bytesOf 1 0 ++
    bytesOfInt 2 (b.get Ob.hottestLaneCoolest) ++ bytesOf 1 (b.nat Ob.hottestLaneCoolestSub) ++ bytesOf 1 0 ++
    bytesOfInt 2 (b.get Ob.hottestLaneMean) ++ bytesOf 2 0, false)

/-- Has the node's generation moved since its COMMIT (R312, R326)? -/
def Block.genChanged (b : Block) : Bool := b.nat Ob.generation != b.link.baseline

/-- StatusFlags (R326). -/
def Block.statusFlags (b : Block) : Nat :=
  boolNat b.genChanged + 2 * boolNat b.power.wakeRequest + 4 * boolNat (b.get Ob.serviceRequestReason != 0) +
    8 * boolNat (b.on Ob.chargeInhibitCharge) + 16 * boolNat b.turned + 32 * boolNat (b.get Ob.keeperStatusStatus == 2) +
    64 * boolNat (b.bit Ob.frontEndHealth 5) + 128 * boolNat (b.get Ob.referenceSource == 2)

/-- The 256 bits of eight 32-bit words, source 255 first (R326). -/
def Block.words256 (b : Block) (base : Nat) : List Byte :=
  ((List.range 8).map fun k => bytesOf 4 (b.nat (base + 8 - k))).flatten

/-- STATUS (R326). -/
def Block.statusPayload (b : Block) : List Byte × Bool :=
  (bytesOf 1 (b.nat Ob.powerStateState) ++ bytesOf 1 b.safeHold ++ bytesOf 1 (b.nat Ob.generation) ++ bytesOf 1 b.statusFlags ++
    bytesOf 1 (b.nat Ob.clockSourceTimebaseState) ++ bytesOf 1 (b.nat Ob.throttleLevelLevel) ++
    bytesOf 1 (b.nat Ob.firstFaultSource) ++ bytesOf 1 (boolNat (b.portUp .dl) + 2 * boolNat (b.portUp .du)) ++
    bytesOf 4 (b.nat Ob.serviceRequestReason) ++ bytesOf 4 0 ++ b.words256 Ob.faultLatched ++ b.words256 Ob.faultLive, false)

/-- The next analysis entry in ascending rotation that is not IDLE (R327): from 0; none when all are. -/
def Block.nextImped (b : Block) : Option Nat :=
  if !b.fuses.variantX then none
  else ((List.range 4).map fun k => (b.link.impedLast + k) % 4).find? fun k => b.impStatus k != 0

/-- A cell's part of an IMPED payload (R327). -/
def ImpCell.imped (c : ImpCell) : List Byte :=
  i24 c.re ++ i24 c.im ++ bytesOf 1 ((2 * c.coherence * 255 + 65535) / 131070) ++ bytesOf 1 (c.flags % 256)

/-- A cell without a value. -/
def ImpCell.none : ImpCell := ⟨noValue, noValue, noValue, 0, 0xFFFF, 0x80⟩

/-- IMPED of one entry, and whether a result it carries is STALE (R253, R327, R329). -/
def Block.impedPayload (b : Block) : List Byte × Bool :=
  match b.nextImped with
  | none =>
    (bytesOf 3 0 ++ bytesOf 1 (if b.noCells then 0 else b.cells) ++ bytesOf 12 0 ++
      ((List.range 32).map fun _ => ImpCell.none.imped).flatten, false)
  | some k =>
    match b.imp.entries[k]? with
    | none => (bytesOf 272 0, false)
    | some e =>
      (bytesOf 1 (k + 1) ++ bytesOf 1 (b.nat (Ob.excitationSource + k + 1)) ++ bytesOf 1 (b.impStatus k) ++
        bytesOf 1 (if b.noCells then 0 else b.cells) ++ bytesOf 4 e.frequency ++ bytesOf 4 e.number ++ bytesOf 4 0 ++
        ((List.range 32).map fun i =>
          if b.noCells || b.cells ≤ i then ImpCell.none.imped else ((e.cells[i]?).getD .none).imped).flatten,
        !b.noCells && (e.cells.take b.cells).any fun c => bitOf c.flags 7)

/-! ### Pebbles (R336–R338) -/

/-- Highest class latched (R337). -/
def Block.highestLatched (b : Block) : Nat :=
  (b.flint.regs.filter fun r => b.latched r.source).foldl (fun m r => max m r.eff) 0

/-- VALUE of a pebble message (R337). -/
def Block.pebbleValue (b : Block) (type : Nat) : Nat :=
  if type = 1 then b.fuses.uid % 2 ^ 48
  else if type = 2 then b.fuses.firmware * 2 ^ 16 + 0xB1 * 256 + (if b.fuses.variantX then 2 else 1)
  else if type = 3 then b.nat Ob.checkCfg ^^^ 0xFFFFFFFF
  else if type = 4 then b.highestLatched * 2 ^ 40 + b.nat Ob.serviceRequestReason
  else if type = 5 then b.nat Ob.lifetimeOperatingHours
  else if type = 6 then (b.get Ob.lifetimePeakLaneTemperature % 65536).toNat
  else b.nat Ob.lifetimeWakeCount

/-- A message of 64 bits (R336). -/
def pebbleMessage (type value : Nat) : Nat :=
  let x := type * 2 ^ 48 + value % 2 ^ 48
  x * 256 + crc8 (bytesOf 7 x)

/-- The type after a type in the rotation of PebbleSet (R338). -/
def Block.nextPebble (b : Block) : Nat :=
  (((List.range 7).map fun k => (b.link.pebbleType + k) % 7 + 1).find? fun t => b.bit Ob.pebbleSet (t - 1)).getD 1

/-- A new message begins when none is under way (R338): SERVICE_REQUEST where the reason has changed since the last one, even to and fro. -/
def Block.beginPebble (b : Block) : Block :=
  if b.link.pebbleLeft ≠ 0 then b
  else
    let reason := b.nat Ob.serviceRequestReason
    let since := b.nat Ob.serviceRequestSince
    let asked := reason != b.link.pebbleReason || since != b.link.pebbleSince
    let t := if asked then 4 else b.nextPebble
    b.withLink { b.link with
        pebble := pebbleMessage t (b.pebbleValue t), pebbleLeft := 64
        pebbleType := if asked then b.link.pebbleType else t
        pebbleReason := if t = 4 then reason else b.link.pebbleReason
        pebbleSince := if t = 4 then since else b.link.pebbleSince }

/-- The entry of the last IMPED frame, as a frame of a class leaves it (R327): entry 0 moves no rotation. -/
def Link.impedAfter (l : Link) (cls : Nat) (payload : List Byte) : Nat :=
  if cls = 4 && natOf (payload.take 1) ≠ 0 then natOf (payload.take 1) else l.impedLast

/-- One own STREAM frame starts: SEQ, PEBBLE, MARK and STALE are composed, CheckStream takes the payload (R302, R327, R329, R336, R436). -/
def Block.startStream (b : Block) (cls : Nat) (stale : Bool) (payload : List Byte) : List Byte × Block :=
  let b := b.beginPebble
  let l := b.link
  let bitNow := bitOf l.pebble (l.pebbleLeft - 1)
  let same := (l.lastSent.find? fun x : Nat × List Byte => x.1 == cls).map (·.2) == some payload
  let flags := 4 * boolNat bitNow + 2 * boolNat (l.pebbleLeft == 64) + boolNat (stale || same)
  let frame := frameOf (headerOf 1 (b.nat Ob.position) cls flags l.streamSeq) payload
  let b := b.withLink { l with
    pebbleLeft := l.pebbleLeft - 1, impedLast := l.impedAfter cls payload, streamSeq := (l.streamSeq + 1) % 65536
    lastSent := (l.lastSent.filter fun x : Nat × List Byte => x.1 != cls) ++ [(cls, payload)] }
  (frame, b.put Ob.checkStream (crcFeed (b.nat Ob.checkStream) payload))

/-! ### Own frames and the head-side transmitter (R298, R318, R320) -/

/-- A command response waits to be sent (R318). -/
def Block.queueResponse (b : Block) (seq : Nat) (payload : List Byte) : Block :=
  b.withLink { b.link with own := b.link.own ++ [⟨0, seq, false, payload⟩] }

/-- An own stream response waits to be sent; one that waited is replaced and counted (R320). -/
def Block.queueStream (b : Block) (cls : Nat) (stale : Bool) (payload : List Byte) : Block :=
  let waits := b.link.own.any fun o => o.cls == cls
  let b := if waits then b.count32 Ob.triggerDropsReplaced else b
  b.withLink { b.link with own := (b.link.own.filter fun o => o.cls != cls) ++ [⟨cls, 0, stale, payload⟩] }

/-- Distance of a SNAP frame from the capture of a train; the trains of any other class count by age alone (R321). -/
def trainDistance (r : StreamRecord) (t : Train) : Nat :=
  if r.cls = 2 then (chainDiff (natOf ((r.payload.drop 4).take 6)) t.instant).natAbs else 0

/-- A train takes a frame, unless it holds one from that position already (R335). -/
def Train.take (t : Train) (r : StreamRecord) : Train :=
  if t.frames.any fun x => x.position == r.position then t else { t with frames := t.frames ++ [r] }

/-- The latest train of a frame's class takes it; a SNAP frame goes to its capture by its instant (R321). -/
def giveTrain (r : StreamRecord) : List Train → List Train
  | [] => []
  | t :: l =>
    if t.cls == r.cls && l.all (fun x => x.cls != r.cls || decide (trainDistance r t < trainDistance r x)) then t.take r :: l
    else t :: giveTrain r l

/-- Is a train of the class in progress (R333)? -/
def Block.inTrain (b : Block) (cls : Nat) : Bool := b.link.trains.any fun t => t.cls == cls

/-- Closed trains of a class since the core reset (R360). -/
def Block.closedCount (b : Block) (cls : Nat) : Nat := (b.link.closedTrains[cls]?).getD 0

/-- The latest record of a class and position (R360). -/
def Block.storeRecord (b : Block) (r : StreamRecord) : Block :=
  b.withLink { b.link with
      records := (b.link.records.filter fun x => !(x.cls == r.cls && x.position == r.position)) ++ [r] }

/-- A frame reaches the train in progress; outside one it is not delivered (R335). -/
def Block.deliver (b : Block) (r : StreamRecord) : Block := b.withLink { b.link with trains := giveTrain r b.link.trains }

/-- The head's own record of a class (R321), in the place of a frame: in the train in progress, or in the one just closed. -/
def Block.keepOwnRecord (b : Block) (cls : Nat) (stale : Bool) (payload : List Byte) : Block :=
  let same := (b.link.lastSent.find? fun x : Nat × List Byte => x.1 == cls).map (·.2) == some payload
  let r : StreamRecord := ⟨cls, 0, headerOf 1 0 cls (boolNat (stale || same)) 0, payload, b.closedCount cls⟩
  let b := b.withLink { b.link with
      impedLast := b.link.impedAfter cls payload
      lastSent := (b.link.lastSent.filter fun x : Nat × List Byte => x.1 != cls) ++ [(cls, payload)] }
  if b.inTrain cls then b.deliver r else b.storeRecord r

/-- Does a value saturate as an I24 (R322, R327)? -/
def beyond24 (v : Int) : Bool := v != noValue && decide (8388607 < v.natAbs)

/-- Does the response of a class hold a saturated I24 (R13)? -/
def Block.saturates24 (b : Block) (cls : Nat) : Bool :=
  if cls = 1 then !b.instantMode && (List.range b.cells).any fun i => beyond24 (b.get (chKey Ob.cellVoltage i))
  else if cls = 2 then (List.range b.cells).any fun i => beyond24 (b.get (chKey Ob.cellSnapshot i))
  else if cls = 4 then
    match b.nextImped.bind fun k => b.imp.entries[k]? with
    | some e => (e.cells.take b.cells).any fun c => beyond24 c.re || beyond24 c.im
    | none => false
  else false

/-- The node's own response of a class is formed (R320, R321); E7, which forms it, notes an I24 that saturates (R13). Choices: log 9 (DESIGN CHOICE,
unsafe). -/
def Block.respond (b : Block) (cls : Nat) (x : List Byte × Bool) : Block :=
  let b := b.noteSat 7 (!b.noCells && b.saturates24 cls)
  if b.isHead then b.keepOwnRecord cls x.2 x.1 else b.queueStream cls x.2 x.1

/-- The first queued frame a test picks, and the queue without it. -/
def takeFirst {α : Type} (p : α → Bool) : List α → Option (α × List α)
  | [] => none
  | x :: t => if p x then some (x, t) else match takeFirst p t with
    | some r => some (r.1, x :: r.2)
    | none => none

/-- Is a stored frame a KEEPER frame (R298)? -/
def isKeeperFrame (f : List Byte) : Bool := hdrType (headerIn f) == 1 && hdrClass (headerIn f) == 6

/-- The next frame the head-side transmitter sends, by the precedence of R298. -/
def Block.nextFrame (b : Block) : Option (List Byte) × Block :=
  match b.link.census with
  | f :: t => (some f, (b.withLink { b.link with census := t }))
  | [] => match b.keeper.outgoing with
    | p :: t =>
      if b.positioned then
        let r := ((b.withKeeper { b.keeper with outgoing := t }) : Block).startStream 6 false p
        (some r.1, r.2)
      else (none, (b.withKeeper { b.keeper with outgoing := [] }))
    | [] => match takeFirst isKeeperFrame b.link.queue with
      | some (f, q) => (some f, (b.withLink { b.link with queue := q }))
      | none => match b.link.own with
        | o :: t =>
          let b : Block := b.withLink { b.link with own := t }
          if o.cls = 0 then (some (frameOf (headerOf 3 (b.nat Ob.position) 0 0 o.seq) o.payload), b)
          else
            let r := b.startStream o.cls o.stale o.payload
            (some r.1, r.2)
        | [] => match b.link.queue with
          | f :: t => (some f, (b.withLink { b.link with queue := t }))
          | [] => (none, b)

/-- Frames that wait for the head-side transmitter are pre-empted by a tone: they are dropped, counted as replaced responses (R94).
Choices: log 37 (DEDUCED, unsafe). -/
def Block.preempted (b : Block) : Block :=
  let n := b.link.census.length + b.keeper.outgoing.length + b.link.own.length + b.link.queue.length
  let b : Block := (b.withLink { b.link with census := [], own := [], queue := [] }).withKeeper { b.keeper with outgoing := [] }
  b.countUp Ob.triggerDropsReplaced n (2 ^ 32 - 1)

/-- A tone leaves a port: an even number of half-periods of 25 UI each, then idle (R279, R285). -/
def Block.startTone (b : Block) (p : Port) (us : Nat) : Block :=
  let b := if b.link.headSide == p && !b.isHead then b.preempted else b
  (b.emit (.tone p us)).emit (.idle p)

/-- A tone of the device's own on a port (R94, R285, R286): 20 us, or 1.2 ms where it is extended. It waits for a frame or an ALARM in progress
there. -/
def Block.sendTone (b : Block) (p : Port) (us : Nat) : Block :=
  if (b.sending p).isSome || (b.phys.alarmBusy && b.link.headSide == p) then
    match p with
    | .dl => b.withPhys { b.phys with toneWaitingDl := true }
    | .du => b.withPhys { b.phys with toneWaitingDu := true }
  else b.startTone p us

/-- A tone that waited for a port. Choices: log 37 (DEDUCED, unsafe). -/
def Block.waitingTone (b : Block) (p : Port) : Option Block := match p with
  | .dl => if b.phys.toneWaitingDl then some (((b.withPhys { b.phys with toneWaitingDl := false }) : Block).startTone p 20) else none
  | .du => if b.phys.toneWaitingDu then some (((b.withPhys { b.phys with toneWaitingDu := false }) : Block).startTone p 20) else none

/-- FRAME_TRANSMIT (R279, R284, R286, R298): the head-side transmitter is free again. -/
def frameTransmit (t : Nat) (b : Block) : Block :=
  let b := b.at t
  if !b.awake then b
  else
    let p := b.link.headSide
    let b := (((b.withPhys { b.phys with alarmBusy := false }) : Block).setSending p none)
    if b.phys.alarmWaiting then ((b.withPhys { b.phys with alarmWaiting := false }) : Block).sendAlarm
    else match b.waitingTone p with
      | some c => c
      | none =>
        if b.isHead || !b.transmits p then b
        else
          let r := b.nextFrame
          match r.1 with
          | some f => (r.2.setSending p (some f)).emit (.frame p f)
          | none => r.2

/-! ### What the head sends -/

/-- A pebble message discarded (R339). -/
def Block.dropPebble (b : Block) (p : Nat) : Block :=
  ((b.withLink { b.link with assembling := b.link.assembling.filter fun a => a.position != p }) : Block).count32
    Ob.linkCountersPebbleDiscards

/-- A message of a position is held; a UNIQUE_ID that differs from the one held wants a census (R306, R339). -/
def Block.holdPebble (b : Block) (p message : Nat) : Block :=
  let type := message / 2 ^ 56
  let value := message / 256 % 2 ^ 48
  if type = 0 || 7 < type then b
  else
    let same := fun h : PebbleHeld => h.position == p && h.type == type
    let other := type == 1 && b.link.pebbles.any fun h => same h && h.value != value
    let b : Block := b.withLink { b.link with
      pebbles := (b.link.pebbles.filter fun h => !same h) ++ [⟨p, type, value, 0⟩] }
    if other then
      ((b.withLink { b.link with idRound := true, roundWanted := true }) : Block).putBit Ob.censusResultFlags 6 true
    else b

/-- The PEBBLE bit of a stream frame of a position (R339). Choices: log 45 (DEDUCED, unsafe). -/
def Block.takePebble (b : Block) (header : Nat) : Block :=
  let p := hdrPos header
  let x := boolNat (hdrPebble header)
  let next := (hdrSeq header + 1) % 65536
  let put := fun (b : Block) (a : PebbleIn) =>
    b.withLink { b.link with assembling := (b.link.assembling.filter fun y => y.position != p) ++ [a] }
  let now := b.link.assembling.find? fun a => a.position == p
  if hdrMark header then
    let b := if now.isSome then b.dropPebble p else b
    put b ⟨p, next, 1, x⟩
  else match now with
    | none => b
    | some a =>
      if a.seq ≠ hdrSeq header then b.dropPebble p
      else
        let v := 2 * a.value + x
        if a.bits < 63 then put b ⟨p, next, a.bits + 1, v⟩
        else if crc8 (bytesOf 7 (v / 256)) ≠ v % 256 then b.dropPebble p
        else
          ((b.withLink { b.link with assembling := b.link.assembling.filter fun y => y.position != p }) : Block).holdPebble p v

/-- Is split operation in force at the head (R342)? -/
def Block.splitOn (b : Block) : Bool := b.link.split.isSome

/-- Chain time in ps. -/
def Timebase.ps (t : Timebase) : Nat := t.us * 1000000 + t.sub * 2500

/-- How long, in ps, what a head has started on DU still lasts (R116); nothing lasts 20 ms. -/
def Block.duBusy (b : Block) : Nat :=
  let d := psDiff b.phys.duUntil b.tb.ps
  if 0 < d && d < 20000000000 then d.toNat else 0

/-- What a head starts on DU takes the line for some ns, after what it has started before (R116). -/
def Block.occupyDu (b : Block) (ns : Nat) : Block :=
  b.withPhys { b.phys with duUntil := (((b.tb.ps + b.duBusy + 1000 * ns : Nat) : Int) % wrapPs).toNat }

/-- The head sends a frame on a port: two control symbols and its bytes, 200 ns each (R300). -/
def Block.sendOn (b : Block) (p : Port) (f : List Byte) : Block :=
  if b.transmits p then
    let b := if p = .du then b.occupyDu ((f.length + 2) * 200) else b
    b.emit (.frame p f)
  else b

/-- A broadcast (R331): on DU, and on DL in split operation; SEQ is the head's broadcast count. -/
def Block.broadcast (b : Block) (cls : Nat) (payload : List Byte) : Block :=
  let f := frameOf (headerOf 4 0 cls 0 b.link.broadcasts) payload
  let b := b.withLink { b.link with broadcasts := (b.link.broadcasts + 1) % 65536 }
  let b := b.sendOn .du f
  if b.splitOn then b.sendOn .dl f else b

/-- Nominal length of a pulse of the head in ns, with the eight K28.5 that follow it (R279, R280). -/
def pulseTime (c : PulseClass) : Nat :=
  1600 + 20 * (match c with
    | .volts => 8
    | .snap => 16
    | .tone => 25
    | .temps => 32
    | .imped => 64
    | .status => 128
    | .sync => 256
    | .alarm => 512
    | .error => 0)

/-- A pulse of the head: on DU, and on DL in split operation (R342). -/
def Block.headPulse (b : Block) (c : PulseClass) : Block :=
  let b := if b.transmits .du then (b.sendPulse .du c).occupyDu (pulseTime c) else b
  if b.splitOn && b.transmits .dl then b.sendPulse .dl c else b

/-- Pulse class of a stream class. -/
def pulseOf : StreamClass → PulseClass
  | .volts => .volts
  | .snap => .snap
  | .temps => .temps
  | .imped => .imped
  | .status => .status
  | .keeper => .error

/-- CLASS code of R303. -/
def codeOf : StreamClass → Nat
  | .volts => 1
  | .snap => 2
  | .temps => 3
  | .imped => 4
  | .status => 5
  | .keeper => 6

/-- The stream class with a code. -/
def streamClassOf (n : Nat) : StreamClass :=
  if n = 1 then .volts else if n = 2 then .snap else if n = 3 then .temps else if n = 4 then .imped else if n = 5 then .status
  else .keeper

/-- Chain time of the next SYNC leading edge (R114, R116): the next whole multiple of 10,000 us of a count that wraps to 0. -/
def nextSyncAt (t : Nat) : Nat :=
  let n := (t % t48 / 10000 + 1) * 10000
  if n < t48 then n else 0

/-- Does what lasts ns on DU, started when DU is free, end at least 1 us before the next SYNC (R116)? -/
def Block.syncRoom (b : Block) (ns : Nat) : Bool :=
  decide (((ns : Int) + 1000) * 1000 + b.tb.sub * 2500 + b.duBusy ≤ chainDiff (nextSyncAt b.now) b.now * 1000000)

/-- Nominal length of a trigger in ns (R280). -/
def triggerTime (cls : Nat) : Nat :=
  20 * (if cls = 1 then 8 else if cls = 2 then 16 else if cls = 3 then 32 else if cls = 4 then 64 else 128)

/-- The chain reference frame (R117, R331): with SPLIT on DL in split operation, without on DU. -/
def Block.sendReference (b : Block) : Block :=
  let payload := fun split : Bool => [0x01#8] ++ bytesOf 1 (boolNat split) ++ bytesOf 2 (b.nat Ob.censusResultCensusNumber) ++
    bytesOf 6 (nextSyncAt b.now) ++ bytesOf 6 0
  let h := headerOf 4 0 0 0 b.link.broadcasts
  let b := b.withLink { b.link with broadcasts := (b.link.broadcasts + 1) % 65536 }
  let b := b.sendOn .du (frameOf h (payload false))
  if b.splitOn then b.sendOn .dl (frameOf h (payload true)) else b

/-- The CHAIN_CONFIG image (R331): 56 bytes. -/
def Block.chainImage (b : Block) : List Byte :=
  let set := fun k => (b.chainSet[k]?).getD (0, 0)
  [0x06#8] ++ bytesOf 1 (b.nat Ob.ringMode) ++ bytesOf 1 (b.nat Ob.currentKeeper) ++ bytesOf 1 0 ++
    ((List.range 5).map fun k => bytesOf 4 (b.nat (Ob.streamSchedule + k + 1))).flatten ++
    bytesOf 2 (b.nat Ob.streamScheduleTriggerDelay) ++ bytesOf 2 0 ++
    ((List.range 4).map fun k => bytesOf 4 (set k).1).flatten ++ ((List.range 4).map fun k => bytesOf 1 (set k).2).flatten ++
    bytesOf 4 b.imp.chainTime ++ bytesOf 4 (b.imp.chainStep.toNat)

/-- CHAIN_CONFIG is sent; one due during a census round waits for its end (R306, R315, R331). -/
def Block.sendChainConfig (b : Block) : Block :=
  if b.link.round.isSome then b.withLink { b.link with configDue := true } else b.broadcast 0 b.chainImage

/-- FRAME_TRANSMIT (R298). -/
def execFrameTransmit (t : Nat) (s : State) : Out := onBlock (frameTransmit t) s

end Sys2Proof.Machine
end

