-- ==== Sys2Proof/Machine/Can.lean ====
section
/-! DEFINITION. CAN FD at a head and what goes out on it by itself (R330, R360, R365–R368, R370–R372): fault confinement, alarm frames,
responses, and the fragments of a closed train or of a KEEPER frame. -/

namespace Sys2Proof.Machine

/-! ### The controller (R366–R368) -/

/-- Settings of CAN FD as CanConfig and CanBaseId hold them (R367, R375). -/
def Block.canSettings (b : Block) : List Int := (List.range 9).map (fun k => b.get (Ob.canConfig + k + 1)) ++ [b.get Ob.canBaseId]

/-- Codes of ErrorState (R375). -/
abbrev canOff : Int := 0
abbrev canActive : Int := 1
abbrev canPassive : Int := 2
abbrev canBusOff : Int := 3
abbrev canSilent : Int := 4

/-- Does the controller send: on the bus, and not SILENT (R370, R372)? -/
def Block.canSends (b : Block) : Bool :=
  b.awake && b.isHead && (b.get Ob.canStatusErrorState == canActive || b.get Ob.canStatusErrorState == canPassive)

/-- Does the controller receive: enabled and not in bus-off? -/
def Block.canHears (b : Block) : Bool := b.canSends || (b.awake && b.isHead && b.get Ob.canStatusErrorState == canSilent)

/-- ErrorState by the counters (R366), out of bus-off and SILENT. Choices: log 48 (PRESUMED, unsafe). -/
def Block.judgeCan (b : Block) : Block :=
  let s := b.get Ob.canStatusErrorState
  if s = canActive || s = canPassive then
    b.put Ob.canStatusErrorState
      (if 127 < b.get Ob.canStatusTxErrors || 127 < b.get Ob.canStatusRxErrors then canPassive else canActive)
  else b

/-- A frame received without an error takes 1 off the receive error counter, and brings one above 127 to 127 (R366). Choices: log 48 (PRESUMED,
unsafe). -/
def Block.canReceived (b : Block) : Block :=
  let n := b.nat Ob.canStatusRxErrors
  (b.put Ob.canStatusRxErrors (if 127 < n then 127 else n - 1 : Nat)).judgeCan

/-- Data bytes a DLC gives room for (R368). Choices: log 48 (PRESUMED, unsafe). -/
def dlcRoom (n : Nat) : Nat :=
  if n ≤ 8 then n else if n ≤ 12 then 12 else if n ≤ 16 then 16 else if n ≤ 20 then 20 else if n ≤ 24 then 24
  else if n ≤ 32 then 32 else if n ≤ 48 then 48 else 64

/-- Entry k of the settings of CAN FD in force: CanConfig sub k, and CanBaseId as 10. -/
def Block.canForce (b : Block) (k : Nat) : Int := (b.host.canInForce[k - 1]?).getD 0

/-- Timing of a phase at a rate in kbit/s (R367): the sample point, in thousandths of a bit, to the nearest tq; SJW is phase segment 2.
Choices: log 48 (PRESUMED, unsafe). -/
def canTiming (prescaler rate : Nat) (point : Int) : CanTiming :=
  let n := 80000 / (prescaler * rate)
  let s := (n * point.toNat + 500) / 1000
  ⟨prescaler, n, s, n - s⟩

/-- Timing of the nominal phase in force (R367). -/
def Block.nominalTiming (b : Block) : CanTiming :=
  let r := nominalRate (b.canForce 2)
  canTiming (1000 / r) r (b.canForce 4)

/-- Is BRS sent as 1: a data rate is chosen, and it differs from the nominal rate (R366, R367)? -/
def Block.sendsBrs (b : Block) : Bool := b.canForce 3 != 0 && dataRate (b.canForce 3) (b.canForce 2) != nominalRate (b.canForce 2)

/-- Timing of the data phase in force, where the rate switches (R367). -/
def Block.dataTiming (b : Block) : Option CanTiming :=
  if b.sendsBrs then some (canTiming 1 (dataRate (b.canForce 3) (b.canForce 2)) (b.canForce 5)) else none

/-- Does a frame sent now measure the transmitter's delay (R366, R367)? -/
def Block.measuresDelay (b : Block) : Bool := b.sendsBrs && b.canForce 6 != 0

/-- Secondary sample point in tq for a measured delay (R367): with AUTO the data sample point after it, with MANUAL TdcOffset after it.
Choices: log 48 (PRESUMED, unsafe). -/
def Block.secondPoint (b : Block) (delay : Nat) : Option Nat :=
  if !b.measuresDelay then none
  else if b.canForce 6 = 1 then b.dataTiming.map fun t => delay + t.sample
  else some (delay + (b.canForce 7).toNat)

/-- The frame on identifier B + k that carries some bytes, padded to its DLC (R366–R369): delay is what the transmitter measures in it. -/
def Block.canShape (b : Block) (k : Nat) (l : List Byte) (delay : Nat) : CanFrame :=
  { id := (b.canForce 10).toNat + k, long := b.canForce 8 == 2, brs := b.sendsBrs, esi := b.get Ob.canStatusErrorState == canPassive
    nominal := b.nominalTiming, data := b.dataTiming, second := b.secondPoint delay
    bytes := l ++ bytesOf (dlcRoom l.length - l.length) 0 }

/-- A frame leaves on identifier B + k (R368, R369); the measured transmitter delay comes from outside, 0 to 127 tq (R461).
Choices: log 6 (DESIGN CHOICE, safe). Choices: log 48 (PRESUMED, unsafe). -/
def Block.canFrame (b : Block) (k : Nat) (l : List Byte) : Block :=
  let delay := Config.freeNat b.free 200 % 128
  let measures := b.measuresDelay
  let b := b.emit (.canFrame (b.canShape k l delay))
  let b := (b.put Ob.canStatusTxErrors (b.nat Ob.canStatusTxErrors - 1 : Nat)).judgeCan
  if measures then (b.put Ob.canStatusTdcMeasured delay).withFree (b.free + 1) else b

/-- The alarm frames that wait go out, ahead of everything else (R368, R371). -/
def Block.canAlarms (b : Block) : Block :=
  let l := b.host.alarms
  l.foldl (fun b x => b.canFrame 0 x) ((b.withHost { b.host with alarms := [] }) : Block)

/-- CAN_BUS_ERROR (R366): the counters of ISO 11898-1, 8 for an error in sending, 1 in receiving. Choices: log 48 (PRESUMED, unsafe). -/
def canBusError (transmit : Bool) (b : Block) : Block :=
  if !b.canHears then b
  else if !transmit then (b.countUp Ob.canStatusRxErrors 1 255).judgeCan
  else
    let n := b.nat Ob.canStatusTxErrors + 8
    let b := b.put Ob.canStatusTxErrors (min n 255 : Nat)
    if n ≤ 255 then b.judgeCan
    else
      let b := (b.put Ob.canStatusErrorState canBusOff).countUp Ob.canStatusBusOffCount 1 65535
      b.withHost { b.host with fragments := [] }

/-- What waited in bus-off goes out: alarm frames, then responses (R372). -/
def Block.canResume (b : Block) : Block :=
  let l := b.host.responses
  l.foldl (fun b x => b.canFrame 1 x) ((b.withHost { b.host with responses := [] }) : Block).canAlarms

/-- Must the controller keep SILENT: the settings in force say so, and no valid request has come since the core reset (R370)? -/
def Block.mustBeSilent (b : Block) : Bool := b.canForce 9 != 0 && !b.host.spoken

/-- CAN_BUS_OFF_RECOVERY (R366, R370, R372). -/
def canBusOffRecovery (b : Block) : Block :=
  if b.awake && b.isHead && b.get Ob.canStatusErrorState = canBusOff then
    let b := b.putAll [(Ob.canStatusErrorState, if b.mustBeSilent then canSilent else canActive), (Ob.canStatusTxErrors, 0),
      (Ob.canStatusRxErrors, 0)]
    if b.mustBeSilent then b else b.canResume
  else b

/-- CAN_CONFIG_APPLY (R370, R375): the bus is idle, and the settings written come into force. SILENT follows SilentUntilRequest; bus-off lasts
until its recovery. Choices: log 48 (PRESUMED, unsafe). -/
def canConfigApply (b : Block) : Block :=
  if !b.awake || !b.isHead || !b.host.canPending then b
  else
    let b : Block := b.withHost { b.host with canPending := false, canInForce := b.canSettings }
    let s := b.get Ob.canStatusErrorState
    if !b.on Ob.canConfigEnable then b.put Ob.canStatusErrorState canOff
    else if s = canBusOff then b
    else if b.mustBeSilent then b.put Ob.canStatusErrorState canSilent
    else if s = canOff || s = canSilent then (b.put Ob.canStatusErrorState canActive).judgeCan
    else b

/-- CAN_ALARM_FRAME (R371): the first alarm frame that waits. Choices: log 48 (PRESUMED, unsafe). -/
def canAlarmFrame (b : Block) : Block := match b.host.alarms with
  | [] => b
  | l :: t => if b.canSends then ((b.withHost { b.host with alarms := t }) : Block).canFrame 0 l else b

/-- IGNORED_FRAME (R366). -/
def ignoredFrame (b : Block) : Block := if b.canHears then b.canReceived.count32 Ob.canStatusIgnoredFrames else b

/-- A response is sent after the alarm frames that wait, or waits for the end of bus-off (R368, R369, R371, R372). -/
def Block.canRespond (b : Block) (l : List Byte) : Block :=
  if b.get Ob.canStatusErrorState == canActive || b.get Ob.canStatusErrorState == canPassive then b.canAlarms.canFrame 1 l
  else if b.get Ob.canStatusErrorState = canBusOff then b.withHost { b.host with responses := b.host.responses ++ [l] }
  else b

/-! ### Streams to the host (R360, R372) -/

/-- A record's TrainFlags (R360) and payload; none of a position that never answered. -/
def Block.streamRecord (b : Block) (cls p : Nat) : Nat × StreamRecord :=
  match b.link.records.find? fun r => r.cls == cls && r.position == p with
  | some r => (boolNat (r.train != b.closedCount cls), r)
  | none => (2, ⟨cls, p, 0, bytesOf ((classLength cls).getD 0) 0, 0⟩)

/-- Positions of the chain, the head's own first. -/
def Block.positions (b : Block) : List Nat :=
  let top := b.nat Ob.censusResultTop
  List.range ((if top ≤ 63 then top else 0) + 1)

/-- The byte stream of a closed train (R372). -/
def Block.trainBytes (b : Block) (cls : Nat) : List Byte :=
  (b.positions.map fun p =>
    let r := b.streamRecord cls p
    bytesOf 1 p ++ bytesOf 1 r.1 ++ r.2.payload).flatten

/-- Bytes 0 and 1 of a fragment (R372). -/
def fragmentHead (train index : Nat) : List Byte := bytesOf 2 (train % 16 * 4096 + index % 4096)

/-- A stream cut into fragments of up to 62 bytes. -/
def fragmentsOf (train : Nat) (l : List Byte) : List (List Byte) :=
  (List.range (ceilDiv l.length 62)).map fun i => fragmentHead train i ++ (l.drop (62 * i)).take 62

/-- Fragments wait for the bus; what waits of an earlier train of the class is abandoned (R372). -/
def Block.queueFragments (b : Block) (cls : Nat) (l : List (List Byte)) : Block :=
  if !b.canSends then b
  else
    let b := if b.host.fragments.any (·.1 == cls) then b.count32 Ob.canStatusTrainsAbandoned else b
    b.withHost { b.host with fragments := (b.host.fragments.filter (·.1 != cls)) ++ [(cls, l)] }

/-- What a closed train gives the host by itself (R372). -/
def Block.streamToHost (b : Block) (cls : Nat) : Block :=
  let mode := b.get (Ob.hostForward + cls)
  let n := b.closedCount cls
  if mode = 1 then b.queueFragments cls (fragmentsOf n (b.trainBytes cls))
  else if mode = 2 then b.queueFragments cls [fragmentHead n 0xFFF ++ b.link.summary]
  else b

/-- CAN_TRAIN_STREAM (R371, R372): the fragments of a class go out, after the alarm frames that wait. -/
def canTrainStream (cls : Nat) (b : Block) : Block :=
  if !b.canSends then b
  else match b.host.fragments.find? (·.1 == cls) with
    | none => b
    | some x =>
      let b := b.withHost { b.host with fragments := b.host.fragments.filter (·.1 != cls) }
      x.2.foldl (fun b l => b.canFrame (cls + 2) l) ((b.canAlarms) : Block)

/-! ### KEEPER frames at the head (R306, R330, R365) -/

/-- One more closed train of a class (R360). -/
def Block.countTrain (b : Block) (cls : Nat) : Block :=
  b.withLink { b.link with closedTrains := editAt b.link.closedTrains cls fun n => (n + 1) % 65536 }

/-- A KEEPER frame is forwarded; a base frame sets its Attention bit (R330, R365). -/
def Block.sendKeeper (b : Block) (payload : List Byte) : Block :=
  (if payload.head? = some 1#8 then b.attend 8 else b).broadcast 6 payload

/-- The head holds a KEEPER frame: its record, its stream, and its forward, which a census round defers.
Choices: log 45 (DEDUCED, unsafe). -/
def Block.forwardKeeper (b : Block) (header : Nat) (payload : List Byte) : Block :=
  let b := b.countTrain 6
  let b := b.storeRecord ⟨6, hdrPos header, header, payload, b.closedCount 6⟩
  let b := if b.get (Ob.hostForward + 6) = 1 then
      b.queueFragments 6 (fragmentsOf (b.closedCount 6) (bytesOf 1 (hdrPos header) ++ bytesOf 1 0 ++ payload))
    else b
  if b.link.round.isSome then b.withLink { b.link with forwards := b.link.forwards ++ [payload] } else b.sendKeeper payload

/-- KEEPER_FORWARD (R330). -/
def keeperForward (header : Nat) (payload : List Byte) (t : Nat) (b : Block) : Block :=
  let b := b.at t
  if b.awake && b.isHead && payload.length = 112 then (b.takePebble header).forwardKeeper header payload else b

/-! ### CanLoad (R375) -/

/-- Time of one fragment of n data bytes in us times 40 (R372's model): nominal bits, then data bits. Choices: log 48 (PRESUMED, unsafe). -/
def Block.fragmentTime (b : Block) (n : Nat) : Nat :=
  let nominal := nominalRate (b.get Ob.canConfigNominalRate)
  let data := dataRate (b.get Ob.canConfigDataRate) (b.get Ob.canConfigNominalRate)
  let room := dlcRoom n
  30 * 40000 / nominal + (if room ≤ 16 then 31 + 8 * room else 36 + 8 * room) * 40000 / data

/-- Bus time of one train's stream of l bytes, in us times 40. -/
def Block.streamTime (b : Block) (l : Nat) : Nat :=
  l / 62 * b.fragmentTime 64 + (if l % 62 = 0 then 0 else b.fragmentTime (l % 62 + 2))

/-- Share of the bus that the streams to the host take, in percent, rounded up. Choices: log 48 (PRESUMED, unsafe). -/
def Block.canLoad (b : Block) : Nat :=
  let term := fun cls : Nat =>
    let mode := b.get (Ob.hostForward + cls)
    let rate := if cls = 6 then mulFrac (1 + countEntries b.chainSet 1) b.windowRate else b.classRate (b.nat (Ob.streamSchedule + cls))
    let bytes := if cls = 6 then 114 else b.positions.length * ((classLength cls).getD 0 + 2)
    let time := if mode = 1 then b.streamTime bytes else if mode = 2 then b.fragmentTime 42 else 0
    mulFrac time rate
  let f := (List.range 6).foldl (fun (x : Nat × Nat) (k : Nat) => addFrac x (term (k + 1))) (0, 1)
  if b.on Ob.canConfigEnable then min 255 (ceilDiv f.1 (400000 * f.2)) else 0

/-! ### The commands of the family -/

/-- KEEPER_FORWARD (R330). -/
def execKeeperForward (header : Nat) (payload : List Byte) (t : Nat) (s : State) : Out := onBlock (keeperForward header payload t) s

/-- CAN_ALARM_FRAME (R371). -/
def execCanAlarmFrame (s : State) : Out := onBlock canAlarmFrame s

/-- CAN_TRAIN_STREAM (R372). -/
def execCanTrainStream (cls : StreamClass) (s : State) : Out := onBlock (canTrainStream (codeOf cls)) s

/-- CAN_BUS_OFF_RECOVERY (R366). -/
def execCanBusOffRecovery (s : State) : Out := onBlock canBusOffRecovery s

/-- CAN_CONFIG_APPLY (R375). -/
def execCanConfigApply (s : State) : Out := onBlock canConfigApply s

/-- IGNORED_FRAME (R366). -/
def execIgnoredFrame (s : State) : Out := onBlock ignoredFrame s

/-- CAN_BUS_ERROR (R366). -/
def execCanBusError (transmit : Bool) (s : State) : Out := onBlock (canBusError transmit) s

end Sys2Proof.Machine
end

