-- ==== Sys2Proof/Machine/Clock.lean ====
section
/-! DEFINITION. Clock islands, timebase and chain time (R106–R124): references of the CORE PLL, the classification of SYNC, slewing and
steps, the chain reference frame, and the clock monitors. Corrections are held in ps. -/

namespace Sys2Proof.Machine

/-- TimebaseState (R119). -/
abbrev tbFree : Int := 0
abbrev tbAcquiring : Int := 1
abbrev tbAligned : Int := 2
abbrev tbHoldover : Int := 3

/-- Present TimebaseState. -/
def Block.tbState (b : Block) : Int := b.get Ob.clockSourceTimebaseState

/-- The timebase enters a state; a window that runs while it is not ALIGNED carries UNALIGNED (R119, R178), and 0x64 clears in ALIGNED
(R377). -/
def Block.enterTb (b : Block) (st : Int) : Block :=
  let b : Block := if st = tbAligned && b.tbState ≠ tbAligned then b.withTb { b.tb with unalignedEnd := some b.now } else b
  let b := b.put Ob.clockSourceTimebaseState st
  if st = tbAligned then b.clearLive 0x64 else b.flagWindow 2

/-- HOLDOVER entered: 0x64 SyncLost (R119). -/
def Block.enterHoldover (b : Block) : Block := (b.enterTb tbHoldover).raise 0x64 2

/-- The count moved by a whole number of sub-ticks (R113, R118). -/
def Timebase.move (t : Timebase) (ticks : Int) : Timebase :=
  let x := (((t.ps : Int) + ticks * 2500) % wrapPs).toNat
  { t with us := x / 1000000, sub := x % 1000000 / 2500 }

/-- One cycle of the timebase (R113), while the core runs it: what passes when no command waits. Choices: log 2 (DESIGN CHOICE, unsafe). -/
def Block.tbCycle (b : Block) : Block := if b.awake then b.withTb (b.tb.move 1) else b

/-- A correction in whole sub-ticks, halves away from zero (R118). -/
def subTicks (c : Int) : Int := roundDiv c 2500

/-- The multiple of 10,000 us nearest to an instant in ps, in us (R118); 0 is one, across the wrap too (R114). -/
def nearestSync (x : Int) : Nat :=
  let us := (x % wrapPs).toNat / 1000000
  let before := us / 10000 * 10000
  let after := nextSyncAt us
  let far := fun n : Nat => (psDiff (n * 1000000 : Nat) x).natAbs
  if far after ≤ far before then after else before

/-- Instants that rules measure intervals from move with the count, so that a step of chain time lengthens no interval (the model's own
bookkeeping). -/
def Block.shiftInstants (b : Block) (d : Int) : Block :=
  let m := fun t : Nat => (((t : Int) + d) % (t48 : Int)).toNat
  let b : Block := b.withPower { b.power with commAt := m b.power.commAt }
  let b : Block := b.withThermal { b.thermal with since := m b.thermal.since, coolSince := b.thermal.coolSince.map m }
  let b : Block := b.withLanes { b.lanes with
    startAt := m b.lanes.startAt, dropAt := b.lanes.dropAt.map m
    edges := b.lanes.edges.map fun (e : SwitchEdge) => { e with time := (((e.time : Int) + 400 * d) % (400 * t48 : Nat)).toNat } }
  let b : Block := b.withGov { b.gov with lastOverrun := b.gov.lastOverrun.map m }
  let b : Block := b.withTb { b.tb with unalignedEnd := b.tb.unalignedEnd.map m }
  let b : Block := b.withWin { b.win with lastRecord := b.win.lastRecord.map m }
  let b : Block := b.withKeeper { b.keeper with
    qualifiedSince := b.keeper.qualifiedSince.map m, weakSince := b.keeper.weakSince.map m, holdSince := b.keeper.holdSince.map m }
  let b : Block := b.withImp { b.imp with
    startedAt := m b.imp.startedAt, stoppedAt := m b.imp.stoppedAt
    soc := b.imp.soc.map fun (c : SocCell) => { c with
      seen := m c.seen, point := c.point.map fun (p : RestPoint) => { p with time := m p.time }
      latest := c.latest.map fun p => (m p.1, m p.2) }
    entries := b.imp.entries.map fun (e : ImpEntry) => { e with changedAt := e.changedAt.map m } }
  let b : Block := b.withPhys { b.phys with
    ownToneEnd := b.phys.ownToneEnd.map m
    duUntil := (((b.phys.duUntil : Int) + d * 1000000) % wrapPs).toNat }
  let b : Block := b.withLink { b.link with
    trains := b.link.trains.map fun (x : Train) => { x with deadline := m x.deadline, instant := m x.instant }
    wakeCensus := b.link.wakeCensus.map m, lastStatus := b.link.lastStatus.map m, resumeFrom := b.link.resumeFrom.map m, retryAt := b.link.retryAt.map m }
  b.withDiag { b.diag with expired := b.diag.expired.map fun e => e.map m }

/-- A step of the timebase: while lanes run, the window is incomplete (R118). -/
def Block.stepTime (b : Block) (c : Int) : Block :=
  let old := b.now
  let b : Block := b.withTb { b.tb.move (subTicks c) with slewLeft := 0 }
  let b := b.shiftInstants (chainDiff b.now old)
  if b.measuring then b.spoilWindow else b

/-- A turned node whose delay of the ring path, or whose first chain reference frame, has not arrived (R120). -/
def Block.awaitsSplit (b : Block) : Bool := b.turned && (b.link.splitDelays.isEmpty || !b.tb.referenced)

/-- The arrival delay that the node's SYNC stamps take now (R118, R120, R314); none while it has none. A turned node needs the ring path's delay
and a first chain reference frame. -/
def Block.syncDelay (b : Block) : Option Nat :=
  if b.turned then
    if b.awaitsSplit then none else some (b.nat Ob.hopDelaySplitDelay)
  else if b.link.heldDelays then some (b.nat Ob.hopDelayArrivalDelay)
  else none

/-- Whole multiples of 10,000 us that lie between two of them, across the wrap too (R114, R116). -/
def syncsBetween (l n : Nat) : Nat :=
  if chainDiff n l ≤ 0 then 0
  else if l < n then n / 10000 - l / 10000 - 1
  else (t48 - 1) / 10000 - l / 10000 + n / 10000

/-- Missed SYNCs since the last one accounted for (R121). -/
def Block.countMissed (b : Block) (nominal : Nat) : Block :=
  match b.tb.lastSync with
  | some l =>
    let n := syncsBetween l nominal
    if n = 0 then b else b.countUp Ob.clockSourceSyncErrors n 65535
  | none => b

/-- A SYNC judged in a state (R118, R119): c in ps. -/
def Block.judgeSync (b : Block) (c : Int) : Block :=
  let st := b.tbState
  let small := decide (c.natAbs ≤ 20000)
  let kept := fun b : Block => ((b.withTb { b.tb with rejected := 0, slewLeft := subTicks c }) : Block).enterTb tbAligned
  let stepped := fun b : Block => (((b.stepTime c).withTb { (b.stepTime c).tb with rejected := 0 }) : Block).enterTb tbAligned
  if st = tbAcquiring then stepped b
  else if st = tbAligned then
    if small then kept b
    else
      let b := b.countUp Ob.clockSourceSyncErrors 1 65535
      let n := b.tb.rejected + 1
      if 3 ≤ n then (stepped b).raise 0x64 1 else b.withTb { b.tb with rejected := n }
  else if st = tbHoldover then if small then kept b else stepped b
  else b

/-- SYNC (R118–R120): stampPs is when the leading edge came, in ps of chain time; it is stamped on the grid of 0.3125 ns. A SYNC without a delay
moves nothing but is none missed, and it is the first after a chain reference frame all the same. Choices: log 33 (DEDUCED, unsafe). -/
def sync (t stampPs : Nat) (b : Block) : Block :=
  let b := b.at t
  let b := b.heard b.link.headSide
  let stamp := onGrid stampPs
  if !b.awake || b.isHead || b.tbState = tbFree then b
  else match b.syncDelay with
    | none => b.withTb { b.tb with reference := none, lastSync := b.tb.lastSync.map fun _ => nearestSync stamp }
    | some a =>
      let nominal : Nat := match b.tb.reference with
        | some r => r
        | none => nearestSync ((stamp : Int) - a)
      let c := psDiff ((nominal : Int) * 1000000 + a) stamp
      let b := b.countMissed nominal
      let b : Block := b.withTb { b.tb with reference := none, lastSync := some nominal, arrival := a }
      (b.put Ob.clockSourceLastCorrection (clampInt (-(2 ^ 31)) (2 ^ 31 - 1) c)).judgeSync c

/-- The next SYNC a node expects, from its own count (R119). -/
def Block.expectedSync (b : Block) : Nat := nextSyncAt ((((b.tb.ps : Int) - b.tb.arrival) % wrapPs).toNat / 1000000)

/-- The SYNCs expected by now and not accounted for are missed, and accounted for from now on (R121). -/
def Block.settleMissed (b : Block) : Block :=
  let next := b.expectedSync
  let last := if next = 0 then (t48 - 1) / 10000 * 10000 else next - 10000
  let b := b.countMissed next
  b.withTb { b.tb with lastSync := b.tb.lastSync.map fun l => if syncsBetween l next = 0 then l else last }

/-- SYNC_MISSING (R119): three consecutive expected arrivals have passed without a SYNC; one at which a SYNC came and was rejected is counted
already (R121). Choices: log 33 (DEDUCED, unsafe). -/
def syncMissing (t : Nat) (b : Block) : Block :=
  let b := b.at t
  if !b.awake || b.isHead || b.tbState ≠ tbAligned then b
  else
    let b := b.settleMissed
    ((b.withTb { b.tb with rejected := 0 }) : Block).enterHoldover

/-- SLEW_STEP (R118): one TB cycle in 10 us is shortened or lengthened by 2.5 ns until c is used up. -/
def slewStep (b : Block) : Block :=
  if !b.awake || b.tb.slewLeft = 0 then b
  else
    let d : Int := if 0 < b.tb.slewLeft then 1 else -1
    b.withTb { b.tb.move d with slewLeft := b.tb.slewLeft - d }

/-- A change of the CORE PLL's reference (R107): the running window is incomplete, the timebase acquires again; a turned node that still waits
for what R120 asks for is in HOLDOVER. -/
def Block.switchReference (b : Block) (source : Int) : Block :=
  let b := b.put Ob.clockSourceSource source
  let b := if b.measuring then b.spoilWindow else b
  let b : Block := b.withTb { b.tb with slewLeft := 0, rejected := 0 }
  if b.awaitsSplit then (if b.tbState = tbHoldover then b else b.enterHoldover) else b.enterTb tbAcquiring

/-- Source code of a port (R121). Choices: log 33 (DEDUCED, unsafe). -/
def sourceOf : Port → Int
  | .dl => 2
  | .du => 3

/-- PLL_REFERENCE_SWITCH (R107, R115, R120): symbol lock on the head-side port. -/
def pllReferenceSwitch (p : Port) (b : Block) : Block :=
  if !b.awake || b.isHead || b.link.headSide != p || b.get Ob.clockSourceSource = sourceOf p then b
  else b.switchReference (sourceOf p)

/-- SYMBOL_LOCK_LOSS (R115, R119): the PLL holds its last frequency; a node that was not yet aligned stands alone. Choices: log 33 (DEDUCED, unsafe). -/
def symbolLockLoss (p : Port) (b : Block) : Block :=
  if !b.awake || b.isHead || b.link.headSide != p || b.get Ob.clockSourceSource ≠ sourceOf p then b
  else
    let b := b.put Ob.clockSourceSource 5
    if b.tbState = tbAligned then b.enterHoldover
    else if b.tbState = tbAcquiring then b.enterTb tbFree
    else b

/-- CHAIN_REFERENCE_SEND (R117): not during a census round, whose end sends it (R306). -/
def chainReferenceSend (t : Nat) (b : Block) : Block :=
  let b := b.at t
  if b.awake && b.isHead && b.link.round.isNone then b.sendReference else b

/-- The node turns its head-side port (R341): toward DU it waits in HOLDOVER for the ring path's delay (R120); it holds none, and SplitDelay reads
0 (R346). -/
def Block.turnTo (b : Block) (p : Port) : Block :=
  if b.link.headSide = p then b
  else
    let b : Block := (b.withLink { b.link with headSide := p, splitDelays := [] }).withTb { b.tb with reference := none, referenced := false }
    let b := b.putAll [(Ob.hopDelaySplitDelay, 0), (Ob.clockSourceSource, sourceOf p)]
    match p with
    | .du =>
      let b := if b.measuring then b.spoilWindow else b
      if b.tbState = tbHoldover then b else b.enterHoldover
    | .dl => b.switchReference (sourceOf p)

/-- With RingMode OFF, DL is a node's head-side port (R341). -/
def Block.followRing (b : Block) : Block := if b.isHead || b.on Ob.ringMode then b else b.turnTo .dl

/-- CHAIN_REFERENCE (R117–R121, R341): received on a port with its SPLIT flag, census number and NextSync. One that differs makes a node acquire
again, out of HOLDOVER too unless it still waits for what R120 asks for; the SYNCs missed before it are counted. -/
def chainReference (p : Port) (next : Nat) (b : Block) : Block :=
  if !b.awake || b.isHead || !b.positioned then b
  else
    let b := if b.on Ob.ringMode then b.turnTo p else b
    if b.link.headSide ≠ p then b
    else
      let differs := next % t48 != b.expectedSync
      let b := if differs then b.settleMissed else b
      let b : Block := b.withTb { b.tb with
        reference := some (next % t48), referenced := true, lastSync := if differs then none else b.tb.lastSync }
      if differs && (b.tbState = tbAligned || (b.tbState = tbHoldover && !b.awaitsSplit)) then
        ((b.withTb { b.tb with slewLeft := 0, rejected := 0 }) : Block).enterTb tbAcquiring
      else b

/-- Effect of an accepted write of ChainTime at the head (R122): the count is set, and the chain reference frame goes out, in a census round with
the round's end (R306). -/
def Block.chainTimeWritten (b : Block) (v : Nat) : Block :=
  let old := b.now
  let b : Block := b.withTb { b.tb with us := v % t48, sub := 0 }
  let b := b.shiftInstants (chainDiff b.now old)
  if b.link.round.isSome then b else b.sendReference

/-! ### Clock monitors (R124) -/

/-- Is a gate of clock k out of band? Counts are whole cycles, of BED in 1/64 cycle. -/
def outOfBand (k count : Nat) : Bool :=
  let off := fun nominal percent : Nat => decide (percent * nominal < 100 * dist count nominal)
  if k ≤ 3 then off 4000 5
  else if k ≤ 40 then off 1000 5
  else if k = 41 then off 800 5
  else if k = 42 then off 250 5
  else if k = 43 then decide (10 * 2097152 < 100 * dist (count * 1000) 2097152)
  else off 50000 5

/-- Is clock k monitored now (R111, R124)? The model's choices: a lane's clock is gated whenever neither of R111's conditions holds, and at a head
without cells the 32 cell lanes' clocks count as running in Measure and Full. Choices: log 70 (DESIGN CHOICE, unsafe). -/
def Block.monitored (b : Block) (k : Nat) : Bool :=
  b.awake &&
    (if k ≤ 3 then true
    else if k ≤ 40 then b.measuring || (b.chan (k - 4)).on
    else if k = 41 then b.isHead && b.on Ob.canConfigEnable
    else if k = 42 then b.isHead
    else k == 43)

/-- Counters of clock k after a gate. -/
def Block.gate (b : Block) (k : Nat) (bad : Bool) (need : Nat) : Block :=
  let n := (b.tb.gatesBad[k]?).getD 0
  let g := (b.tb.gatesGood[k]?).getD 0
  let x : Nat × Nat :=
    if bad then (min 2 (n + (3 - need)), 0) else if n < 2 then (0, 0) else if 1 ≤ g then (0, 0) else (2, 1)
  b.withTb { b.tb with gatesBad := b.tb.gatesBad.set k x.1, gatesGood := b.tb.gatesGood.set k x.2 }

/-- 0xA4 once a finding stands, gone when none does (R377); the crystal's carries its own class with the fallback done (R109, R379).
Choices: log 33 (DEDUCED, unsafe). -/
def Block.judgeClock (b : Block) (k : Nat) (bad : Bool) : Block :=
  if bad && decide (2 ≤ (b.tb.gatesBad[k]?).getD 0) then
    if k = 42 then
      let b := if b.tb.crystalFallback then b
        else
          let b : Block := b.withTb { b.tb with crystalFallback := true }
          let b := if b.measuring then b.spoilWindow else b
          (b.put Ob.clockSourceSource 4).reason .clockFallback true
      b.raiseExactly 0xA4 k 2
    else b.raise 0xA4 k
  else if b.tb.gatesBad.any fun n => decide (2 ≤ n) then b
  else b.clearLive 0xA4

/-- CLOCK_MONITOR_GATE (R109, R124): a gate of clock k ends with a count. Choices: log 33 (DEDUCED, unsafe). -/
def clockMonitorGate (k count : Nat) (b : Block) : Block :=
  if !b.monitored k then b
  else (b.gate k (outOfBand k count) 2).judgeClock k (outOfBand k count)

/-- FAULT_RC_CHECK (R124): E7 counts the FAULT RC over 1 ms of the CORE clock. Choices: log 33 (DEDUCED, unsafe). -/
def faultRcCheck (count : Nat) (b : Block) : Block :=
  if !b.awake || !b.engineRuns 7 then b
  else (b.gate 44 (outOfBand 44 count) 1).judgeClock 44 (outOfBand 44 count)

/-! ### The commands of the family -/

/-- PLL_REFERENCE_SWITCH (R107). -/
def execPllReferenceSwitch (port : Port) (s : State) : Out := onBlock (pllReferenceSwitch port) s

/-- SYMBOL_LOCK_LOSS (R115). -/
def execSymbolLockLoss (port : Port) (s : State) : Out := onBlock (symbolLockLoss port) s

/-- CLOCK_MONITOR_GATE (R124). -/
def execClockMonitorGate (clock count : Nat) (s : State) : Out := onBlock (clockMonitorGate clock count) s

/-- FAULT_RC_CHECK (R124). -/
def execFaultRcCheck (count : Nat) (s : State) : Out := onBlock (faultRcCheck count) s

/-- SYNC_MISSING (R119). -/
def execSyncMissing (t : Nat) (s : State) : Out := onBlock (syncMissing t) s

/-- SLEW_STEP (R118). -/
def execSlewStep (s : State) : Out := onBlock slewStep s

/-- CHAIN_REFERENCE_SEND (R117). -/
def execChainReferenceSend (t : Nat) (s : State) : Out := onBlock (chainReferenceSend t) s

end Sys2Proof.Machine
end

