-- ==== Sys2Proof/Machine/Nvm.lean ====
section
/-! DEFINITION. Non-volatile storage (R434–R445): the flash as an addressed memory, the dictionary record, the summary bank, Save,
RestoreDefaults and the programs that carry them out. -/

namespace Sys2Proof.Machine

/-! ### Flash -/

/-- Bytes of the data flash (R438). -/
abbrev flashSize : Nat := 0x20000

/-- What a byte that no program has written reads as: erased. The spec gives no code for it; all ones is the model's choice.
Choices: log 5 (DESIGN CHOICE, unsafe). -/
abbrev erasedByte : Byte := 0xFF#8

namespace Flash

/-- The byte at an address. Choices: log 5 (DESIGN CHOICE, unsafe). -/
def read (a : Nat) : List Host.Cell → Byte
  | [] => erasedByte
  | (k, v) :: t => if k = a then v else if a < k then erasedByte else read a t

/-- The bytes of a range. -/
def readRange (a n : Nat) (m : List Host.Cell) : List Byte := (List.range n).map fun i => read (a + i) m

/-- One byte stored; storing the erased value unlists the address. -/
def write (a : Nat) (v : Byte) : List Host.Cell → List Host.Cell
  | [] => if v = erasedByte then [] else [(a, v)]
  | (k, w) :: t =>
    if k = a then (if v = erasedByte then t else (a, v) :: t)
    else if a < k then (if v = erasedByte then (k, w) :: t else (a, v) :: (k, w) :: t)
    else (k, w) :: write a v t

/-- Bytes programmed in ascending address; there is nothing above the flash to program. Choices: log 5 (DESIGN CHOICE, unsafe). -/
def program (a : Nat) : List Byte → List Host.Cell → List Host.Cell
  | [], m => m
  | x :: t, m => program (a + 1) t (if a < flashSize then write a x m else m)

/-- A range of addresses erased. -/
def erase (lo n : Nat) (m : List Host.Cell) : List Host.Cell := m.filter fun c => c.1 < lo || lo + n ≤ c.1

/-- Canonical form: addresses inside the flash, strictly rising, none listed at the erased value. -/
def wf : List Host.Cell → Bool
  | [] => true
  | [(k, v)] => decide (k < flashSize) && decide (v ≠ erasedByte)
  | (k, v) :: (j, w) :: t => decide (k < flashSize) && decide (v ≠ erasedByte) && decide (k < j) && wf ((j, w) :: t)

end Flash

/-- Base address of a dictionary bank (R438): false A, true B. -/
def dictBase (bank : Bool) : Nat := if bank then 0x06000 else 0x04000

/-- Base address of a summary bank (R438). -/
def summaryBase (bank : Bool) : Nat := if bank then 0x03000 else 0x02000

/-- Bytes of a dictionary bank (two sectors) and of a summary bank (one sector). -/
abbrev dictBankSize : Nat := 0x2000
abbrev summaryBankSize : Nat := 0x1000

/-- Bytes of a page (R434, R440). -/
abbrev pageSize : Nat := 256

/-! ### The dictionary record (R439) -/

/-- One entry of the record. -/
def recordEntry (ix sub : Nat) (value : List Byte) : List Byte :=
  bytesOf 2 ix ++ bytesOf 1 sub ++ [0#8] ++ bytesOf 2 value.length ++ value

/-- Every P entry with its bytes, in ascending index and sub-index. -/
def Block.pEntries (b : Block) : List (Nat × Nat × List Byte) :=
  (b.pObjects.map fun o => (b.pSubs o).map fun k => (o.ix, k, b.entryBytes o k)).flatten

/-- The record of the present dictionary, for the bank's next erase count. -/
def Block.record (b : Block) (erases : Nat) : List Byte :=
  let es := b.pEntries
  let body := (es.map fun e => recordEntry e.1 e.2.1 e.2.2).flatten
  let head := bytesOf 2 1 ++ bytesOf 2 0 ++ bytesOf 4 (body.length + 36) ++ bytesOf 4 (b.nat Ob.nvmStatusSequence + 1) ++
    bytesOf 4 b.fuses.firmware ++ bytesOf 4 erases ++ bytesOf 4 (b.nat Ob.checkCfg) ++ bytesOf 2 es.length ++ bytesOf 6 0
  let all := head ++ body
  all ++ bytesOf 4 (crc32c all)

/-- A field of stored bytes. -/
def field (l : List Byte) (at' n : Nat) : Nat := natOf ((l.drop at').take n)

/-- Does an uncorrectable word lie in a range of flash (R438)? -/
def Nvm.spoils (n : Nvm) (base len : Nat) : Bool := n.bad.any fun a => decide (base ≤ a / 8 * 8 + 7) && decide (a / 8 * 8 < base + len)

/-- Was the bank's erase or a page of it cut off (R441)? Choices: log 50 (DEDUCED, unsafe). -/
def Nvm.cutOff (n : Nvm) (base : Nat) : Bool := n.unfinished.any (·.1 == base)

/-- Is a dictionary bank valid (R441)? -/
def Nvm.dictValid (n : Nvm) (m : List Host.Cell) (bank : Bool) : Bool :=
  let base := dictBase bank
  let head := Flash.readRange base 32 m
  let len := field head 4 4
  field head 0 2 == 1 && decide (36 ≤ len) && decide (len ≤ 8192) && !n.cutOff base && !n.spoils base len &&
    (let l := Flash.readRange base len m
     crc32c (l.take (len - 4)) == field l (len - 4) 4)

/-- Does every word of a bank read erased (R441)? Choices: log 50 (DEDUCED, unsafe). -/
def Nvm.blank (n : Nvm) (m : List Host.Cell) (base len : Nat) : Bool :=
  !n.cutOff base && !n.spoils base len && m.all fun c => c.1 < base || base + len ≤ c.1

/-- Content rules of a TempCurve block (R257). -/
def tempCurveOk (l : List Byte) : Bool :=
  let phase := fun i => intOf ((l.drop (16 + 8 * i)).take 4)
  let temp := fun i => intOf ((l.drop (20 + 8 * i)).take 2)
  let steps := List.range 15
  l.length == 148 && field l 0 2 == 1 && field l 2 2 == 148 && decide (1 ≤ field l 4 1) && decide (field l 4 1 ≤ 4) &&
    decide (field l 6 2 < field l 8 2) &&
    ((steps.all fun i => decide (phase i < phase (i + 1))) || (steps.all fun i => decide (phase (i + 1) < phase i))) &&
    (steps.all fun i => decide (temp i < temp (i + 1))) &&
    crc32c (l.take 144) == field l 144 4

/-- Content rules of a SocTable block (R259). -/
def socTableOk (l : List Byte) : Bool :=
  let ocv := fun i => intOf ((l.drop (16 + 6 * i)).take 4)
  let soc := fun i => field l (20 + 6 * i) 2
  let steps := List.range 63
  l.length == 404 && field l 0 2 == 1 && field l 2 2 == 404 && decide (1000 ≤ field l 4 4) &&
    decide (field l 4 4 ≤ 20000000) && (steps.all fun i => decide (ocv i < ocv (i + 1))) &&
    (steps.all fun i => decide (soc i < soc (i + 1))) && soc 0 == 0 && soc 63 == 10000 &&
    crc32c (l.take 400) == field l 400 4

/-- May an aux function stand on its pin in this role (R23, R24)? THR is AX5's alone; CRYSTAL is AX6's and AX7's at a head, which take
nothing else. -/
def Block.pinTakes (b : Block) (sub : Nat) (v : Int) : Bool :=
  let crystal := b.isHead && (sub == 7 || sub == 8)
  (v != 7 || sub == 6) && ((v == 8) == crystal)

/-- One entry of a record applied at the load (R441): false when it is skipped. -/
def Block.loadEntry (b : Block) (ix sub : Nat) (value : List Byte) : Block × Bool :=
  match findObj ix with
  | none => (b, false)
  | some o =>
    if !b.provides ix || !(b.pSubs o).contains sub then (b, false)
    else if ix = 0x4010 then
      if value.isEmpty || socTableOk value then ((b.withSocTable value), true) else (b, false)
    else if ix = 0x4012 then
      if value.isEmpty || tempCurveOk value then ((b.withTempCurve value), true) else (b, false)
    else match o.entry sub with
      | none => (b, false)
      | some e =>
        let v := e.ty.decode value
        if value.length = e.ty.size && valueOk (keyOf ix sub) v && (ix != 0x2040 || b.pinTakes sub v) then (b.put (keyOf ix sub) v, true) else (b, false)

/-- The entries of a record applied in order; whether any was skipped (R441). -/
def Block.loadEntries (b : Block) : Nat → List Byte → Bool → Block × Bool
  | 0, _, skipped => (b, skipped)
  | n + 1, l, skipped =>
    if l.length < 6 then (b, true)
    else
      let len := field l 4 2
      let r := b.loadEntry (field l 0 2) (field l 2 1) ((l.drop 6).take len)
      r.1.loadEntries n (l.drop (6 + len)) (skipped || !r.2)

/-- An unsigned scalar as the entries of a record give it, if one the load accepts does. -/
def recordValue (ix : Nat) : Nat → List Byte → Option Nat
  | 0, _ => none
  | n + 1, l =>
    if l.length < 6 then none
    else
      let len := field l 4 2
      let v := field (l.drop 6) 0 len
      let fits := match entryOf (keyOf ix 0) with
        | some e => e.ty.size == len && valueOk (keyOf ix 0) v
        | none => false
      if field l 0 2 = ix && field l 2 1 = 0 && fits then some v else recordValue ix n (l.drop (6 + len))

/-- The defaults that depend on a record: its CellCount and BleedResistor give the seeds that stand where it holds no path (R205, R234). -/
def Block.seedFrom (b : Block) (n : Nat) (l : List Byte) : Block :=
  let take := fun (b : Block) (ix : Nat) => match recordValue ix n l with
    | some v => b.put (keyOf ix 0) v
    | none => b
  (take (take b 0x1011) 0x3011).seedPaths 0

/-- Bits of NvmStatus Flags (R445). -/
abbrev nvmTorn : Nat := 0
abbrev nvmBlank : Nat := 1
abbrev nvmCorrupt : Nat := 2
abbrev nvmSkipped : Nat := 3
abbrev nvmSummaryTorn : Nat := 4
abbrev nvmEndurance : Nat := 5
abbrev nvmFactoryCopy : Nat := 6

/-- A flag of NvmStatus. -/
def Block.nvmFlag (b : Block) (bit : Nat) (on : Bool) : Block := b.putBit Ob.nvmStatusFlags bit on

/-- 0xA2 NvmEcc for a record: 1 factory, 2 dictionary, 3 summary (R438). Choices: log 12 (DEDUCED, unsafe). -/
def Block.recordFault (b : Block) (id : Nat) : Block :=
  (b.raise 0xA2 id).withNvm { b.nvm with badRecords := id :: b.nvm.badRecords.filter (· != id) }

/-- Can the first len bytes of a bank be read: none of their words is uncorrectable, and no erase of it was cut off (R441)?
Choices: log 50 (DEDUCED, unsafe). -/
def Nvm.headerReads (n : Nvm) (base len : Nat) : Bool := !n.spoils base len && !n.unfinished.contains (base, false)

/-- Erase count of a bank at step 4 (R441): its own where its header reads, of a blank bank 0, else one more than the other bank's. mine and other say
whether a header reads, and its count. -/
def bankErases (blank : Bool) (mine other : Bool × Nat) : Nat :=
  if blank then 0 else if mine.1 then mine.2 else (if other.1 then other.2 else 0) + 1

/-- The dictionary loaded at step 4 (R441): every P object from the valid record with the higher sequence, or its default.
Choices: log 50 (DEDUCED, unsafe). -/
def Block.loadDictionary (b : Block) (m : List Host.Cell) : Block :=
  let va := b.nvm.dictValid m false
  let vb := b.nvm.dictValid m true
  let ba := b.nvm.blank m (dictBase false) dictBankSize
  let bb := b.nvm.blank m (dictBase true) dictBankSize
  let seqOf := fun bank => field (Flash.readRange (dictBase bank) 32 m) 8 4
  let use : Option Bool :=
    if va && vb then some (decide (seqOf false < seqOf true)) else if va then some false else if vb then some true else none
  let head := fun bank => (b.nvm.headerReads (dictBase bank) 32 && field (Flash.readRange (dictBase bank) 32 m) 0 2 == 1,
    field (Flash.readRange (dictBase bank) 32 m) 16 4)
  let ea := bankErases ba (head false) (head true)
  let eb := bankErases bb (head true) (head false)
  let b := b.withNvm { b.nvm with dictBank := use, dictErasesA := ea, dictErasesB := eb }
  let torn := (va && !vb && !bb) || (vb && !va && !ba)
  let corrupt := !va && !vb && !(ba && bb)
  let b := b.nvmFlag nvmTorn torn
  let b := b.nvmFlag nvmBlank (ba && bb)
  let b := b.nvmFlag nvmCorrupt corrupt
  let b := if corrupt then b.recordFault 2 else b
  match use with
  | none => b
  | some bank =>
    let base := dictBase bank
    let len := field (Flash.readRange base 32 m) 4 4
    let l := Flash.readRange base len m
    let body := (l.drop 32).take (len - 36)
    let r := (b.seedFrom (field l 24 2) body).loadEntries (field l 24 2) body false
    let b := r.1.nvmFlag nvmSkipped r.2
    b.putAll [(Ob.nvmStatusSequence, field l 8 4), (Ob.nvmStatusRecordCheck, field l (len - 4) 4),
      (Ob.nvmWriteCountRecordWrites, field l 8 4), (Ob.checkCfg, field l 20 4)]

/-! ### The summary bank (R434, R435) -/

/-- Bytes of one slot. -/
abbrev slotSize : Nat := 1024

/-- Is a summary bank valid (R435)? -/
def Nvm.summaryValid (n : Nvm) (m : List Host.Cell) (bank : Bool) : Bool :=
  let base := summaryBase bank
  let l := Flash.readRange base (4 * slotSize) m
  let slot := fun k => (l.drop (k * slotSize)).take slotSize
  !n.cutOff base && !n.spoils base summaryBankSize &&
    ((List.range 4).all fun k =>
      let s := slot k
      field s 60 4 == crc32c (s.take 60 ++ s.drop 64) && field s 16 4 == field (slot 0) 16 4)

/-- The slots of the bank in force, newest first; none before any summary was written. -/
def Block.summarySlots (b : Block) (m : List Host.Cell) : List (List Byte) :=
  match b.nvm.summaryBank with
  | none => []
  | some bank => (List.range 4).map fun k => Flash.readRange (summaryBase bank + k * slotSize) slotSize m

/-- The summary banks judged at step 4 (R441); incident numbers go on above the highest saved (R434). Choices: log 22 (DEDUCED, unsafe).
Choices: log 50 (DEDUCED, unsafe). -/
def Block.loadSummaries (b : Block) (m : List Host.Cell) : Block :=
  let va := b.nvm.summaryValid m false
  let vb := b.nvm.summaryValid m true
  let ba := b.nvm.blank m (summaryBase false) summaryBankSize
  let bb := b.nvm.blank m (summaryBase true) summaryBankSize
  let seqOf := fun bank => field (Flash.readRange (summaryBase bank) 64 m) 16 4
  let head := fun bank => (b.nvm.headerReads (summaryBase bank) 64 && field (Flash.readRange (summaryBase bank) 64 m) 20 4 != 0xFFFFFFFF,
    field (Flash.readRange (summaryBase bank) 64 m) 20 4)
  let use : Option Bool :=
    if va && vb then some (decide (seqOf false < seqOf true)) else if va then some false else if vb then some true else none
  let ea := bankErases ba (head false) (head true)
  let eb := bankErases bb (head true) (head false)
  let b := b.nvmFlag nvmSummaryTorn ((va && !vb && !bb) || (vb && !va && !ba))
  let b := if !va && !vb && !(ba && bb) then b.recordFault 3 else b
  let seq := match use with
    | some bank => seqOf bank
    | none => 0
  let b := b.withNvm { b.nvm with
    summaryBank := use, summarySeq := seq, summaryErasesA := ea, summaryErasesB := eb }
  let top := ((b.summarySlots m).map fun s => field s 0 4).foldl max 0
  (b.put Ob.nvmWriteCountSummaryWrites seq).withJournal { b.journal with nextIncident := top + 1 }

/-- The 15 bytes of entry e in the summary of an incident (R435). -/
def Journal.summaryEntry (j : Journal) (i : Incident) (e : JEntry) : List Byte :=
  let d := (chainDiff e.time i.time).toNat
  (if e.epoch = i.epoch then bytesOf 5 (min d (2 ^ 40 - 1)) else bytesOf 5 (2 ^ 40 - 1)) ++ (j.encode e).drop 6

/-- Bytes 0–15 and 24–1,023 of an incident's slot, the bank fields left open (R435). -/
def Journal.slotOf (j : Journal) (i : Incident) : List Byte × List Byte :=
  let count := min 64 (j.next - i.start)
  let held := (List.range count).map fun k => j.entries.find? fun e => e.number == i.start + k
  let missing := (held.filter (·.isNone)).length
  let body := (held.map fun h => match h with
    | some e => j.summaryEntry i e
    | none => List.replicate 15 0#8).flatten
  (bytesOf 4 i.number ++ bytesOf 6 i.time ++ bytesOf 1 i.epoch ++ bytesOf 1 count ++ bytesOf 1 missing ++
    bytesOf 1 (boolNat i.closed) ++ bytesOf 2 0, body ++ List.replicate (960 - body.length) 0#8)

/-- A slot closed with its bank fields and Check (R435). -/
def sealSlot (seq erases : Nat) (head body : List Byte) : List Byte :=
  let h := head ++ bytesOf 4 seq ++ bytesOf 4 erases ++ List.replicate 36 0#8
  h ++ bytesOf 4 (crc32c (h ++ body)) ++ body

/-- Candidates in falling incident number. -/
def insertSlot (x : Nat × List Byte × List Byte) : List (Nat × List Byte × List Byte) → List (Nat × List Byte × List Byte)
  | [] => [x]
  | y :: t => if y.1 ≤ x.1 then x :: y :: t else y :: insertSlot x t

/-- Does the journal still hold one of the first 64 entries of an incident (R434)? -/
def Journal.holds (j : Journal) (i : Incident) : Bool :=
  j.entries.any fun e => decide (i.start ≤ e.number) && decide (e.number < i.start + 64)

/-- The four newest incidents of the journal and the bank in force (R434): number, head and body. -/
def Block.gatherSummaries (b : Block) (m : List Host.Cell) : List (Nat × List Byte × List Byte) :=
  let own := (b.journal.incidents.filter b.journal.holds).map fun i =>
    (i.number, (b.journal.slotOf i).1, (b.journal.slotOf i).2)
  let saved := (b.summarySlots m).filterMap fun s =>
    let n := field s 0 4
    if n = 0 || own.any (·.1 == n) then none else some (n, s.take 16, s.drop 64)
  ((own ++ saved).foldl (fun l x => insertSlot x l) []).take 4

/-- Does a summary write have anything to save (R434)? -/
def Block.summaryNeeded (b : Block) (m : List Host.Cell) : Bool :=
  let want := (b.gatherSummaries m).map (·.1)
  let saved := ((b.summarySlots m).map fun s => field s 0 4).filter (· != 0)
  want != saved

/-- The image of a summary bank (R434, R435). Choices: log 38 (DEDUCED, unsafe). -/
def Block.summaryImage (b : Block) (m : List Host.Cell) (erases : Nat) : List Byte :=
  let four := b.gatherSummaries m
  let empty : Nat × List Byte × List Byte := (0, List.replicate 16 0#8, List.replicate 960 0#8)
  ((List.range 4).map fun k =>
    let s := (four[k]?).getD empty
    sealSlot (b.nvm.summarySeq + 1) erases s.2.1 s.2.2).flatten

/-- Highest erase count among sectors 2–7 (R444), and ENDURANCE for a bank in force (R443). -/
def Block.judgeEndurance (b : Block) : Block :=
  let n := b.nvm
  let worst := max (max n.dictErasesA n.dictErasesB) (max n.summaryErasesA n.summaryErasesB)
  let inForce := match n.dictBank with
    | some bank => if bank then n.dictErasesB else n.dictErasesA
    | none => 0
  let inForceS := match n.summaryBank with
    | some bank => if bank then n.summaryErasesB else n.summaryErasesA
    | none => 0
  let b := b.put Ob.nvmWriteCountWorstCycles worst
  if 100000 < inForce || 100000 < inForceS then b.nvmFlag nvmEndurance true else b

/-! ### Programs -/

/-- The junction window of R423: a valid lane thermometer exists, the hottest reads at most 125.0 °C and the coolest at
least −40.0 °C. Choices: log 14 (DEDUCED, unsafe). -/
def Block.inWindow (b : Block) : Bool :=
  decide (b.get Ob.hottestLaneHottest ≠ -32768) && decide (b.get Ob.hottestLaneHottest ≤ 1250) &&
    decide (-400 ≤ b.get Ob.hottestLaneCoolest)

/-- The abort of a Save, RestoreDefaults or SHIP that NVM does not permit now (R440, R84): 0x0609, 0x060B or none. Choices: log 14 (DEDUCED, unsafe). -/
def Block.nvmRefusal (b : Block) : Option Nat :=
  if b.nvm.program.isSome then some 0x0609
  else if b.live 0x82 || !b.inWindow then some 0x060B
  else none

/-- The bank a dictionary program takes: the one not in force (R440). -/
def Nvm.nextDictBank (n : Nvm) : Bool := match n.dictBank with
  | some bank => !bank
  | none => false

/-- The bank a summary takes: the one not in force (R434). -/
def Nvm.nextSummaryBank (n : Nvm) : Bool := match n.summaryBank with
  | some bank => !bank
  | none => false

/-- Words of some addresses have been corrected in a reading (R438): NvmStatus counts them. -/
def Block.countCorrected (b : Block) (l : List Nat) : Block := b.countUp Ob.nvmStatusCorrected l.length (2 ^ 32 - 1)

/-- A range of flash is read: a word in it known to need a correction is corrected again (R438). Choices: log 12 (DEDUCED, unsafe). -/
def Block.correctAgain (b : Block) (base len : Nat) : Block :=
  b.countCorrected (b.nvm.weak.filter fun a => decide (base ≤ a) && decide (a < base + len))

/-- Part of a record is read (R438): its weak words are corrected again, and an uncorrectable word raises 0xA2 with the record.
Choices: log 12 (DEDUCED, unsafe). -/
def Block.readFlash (b : Block) (base len record : Nat) : Block :=
  let b := b.correctAgain base len
  if b.nvm.spoils base len then b.recordFault record else b

/-- The summary bank in force is read (R434, R438). -/
def Block.readSummaries (b : Block) : Block := match b.nvm.summaryBank with
  | none => b
  | some bank => b.readFlash (summaryBase bank) (4 * slotSize) 3

/-- What the read-back of a program's image meets (R438): corrections are counted, an uncorrectable word raises 0xA2 with the record it lies in.
What it finds uncorrectable stands for the image. Choices: log 12 (DEDUCED, unsafe). -/
def Block.noteReadBack (b : Block) (p : Program) (r : ReadBack) (record : Nat) : Block :=
  let b := b.countCorrected r.corrected
  let n := b.nvm
  let b : Block := b.withNvm { n with
    weak := n.weak ++ r.corrected.filter fun a => !n.weak.contains a
    bad := (n.bad.filter fun a => decide (a < p.base) || decide (p.base + p.image.length ≤ a)) ++ r.bad }
  if r.bad.isEmpty then b else b.recordFault record

/-- Banks with a program under way once that of the bank at base is none. -/
def Nvm.ended (n : Nvm) (base : Nat) : List (Nat × Bool) := n.unfinished.filter (·.1 != base)

/-- Banks with a program under way once one takes the bank at base: its erase begins. -/
def Nvm.begin (n : Nvm) (base : Nat) : List (Nat × Bool) := n.ended base ++ [(base, false)]

/-- A dictionary program starts (R440, R442): snapshot, State, Result NONE; erasing begins. -/
def Block.startRecord (b : Block) (kind : ProgramKind) : Block :=
  let bank := b.nvm.nextDictBank
  let erases := (if bank then b.nvm.dictErasesB else b.nvm.dictErasesA) + 1
  let image := b.record erases
  let b := b.withNvm { b.nvm with program := some ⟨kind, dictBase bank, image, false, 0, 0, false⟩, unfinished := b.nvm.begin (dictBase bank) }
  (b.put Ob.nvmStatusState (if kind = .save then 1 else 2)).put Ob.nvmStatusResult 0

/-- A summary write starts when something is to be saved (R434). -/
def Block.startSummary (b : Block) (m : List Host.Cell) (thenShip : Bool) : Block :=
  let bank := b.nvm.nextSummaryBank
  let erases := (if bank then b.nvm.summaryErasesB else b.nvm.summaryErasesA) + 1
  let image := b.summaryImage m erases
  let b := b.withNvm { b.nvm with
    program := some ⟨.summary, summaryBase bank, image, false, 0, 0, thenShip⟩, unfinished := b.nvm.begin (summaryBase bank) }
  (b.put Ob.nvmStatusState 3).put Ob.nvmStatusResult 0

/-- Code of a program's kind in the event 0xE5 (R428). -/
def ProgramKind.code : ProgramKind → Nat
  | .save => 1
  | .restore => 2
  | .summary => 3

/-- A program ends with a result (R440, R428); a Save that failed sets the NVM reason (R395). -/
def Block.endProgram (b : Block) (p : Program) (result : Nat) : Block :=
  let b := b.withNvm { b.nvm with
    program := none
    saveFailed := if p.kind = ProgramKind.summary then b.nvm.saveFailed else decide (result ≠ 1) }
  let b := (b.put Ob.nvmStatusState 0).put Ob.nvmStatusResult result
  (b.event 0xE5 (p.kind.code + 256 * result)).followReasons

/-- Pages of an image. -/
def Program.pages (p : Program) : Nat := ceilDiv p.image.length pageSize

/-- May the next page of a program go (R419, R423)? A summary write runs on during the stop and without the window check then. -/
def Block.pageAllowed (b : Block) (p : Program) : Bool :=
  if p.kind = .summary then b.live 0x82 || b.inWindow else !b.live 0x82 && b.inWindow

/-- SAVE (R440): the effect of an accepted write to 0x8000. -/
def Block.acceptSave (b : Block) : Block := b.startRecord .save

/-- Every P object at its default but the ones kept (R442): the RWU objects when keepRwu, and Lifetime. -/
def Block.restoreDefaults (b : Block) (keepRwu : Bool) : Block :=
  let b := ((b.withDict (b.dict.filter fun e => match entryOf e.1 with
      | some x => x.pers != Pers.p || (keepRwu && x.rwu) || e.1 / 256 == 0x1121
      | none => true)).withSocTable []).withTempCurve []
  let b := if keepRwu then b else
    (List.range 32).foldl (fun b i => b.editCh i fun c => { c with pathFraction := 0, atBound := false }) b
  if b.isHead then (b.put (Ob.auxFunction + 7) 8).put (Ob.auxFunction + 8) 8 else b

/-- Has an object an entry that RESTORE_CONFIG keeps (R442)? -/
def Block.keepsRwu (b : Block) (ix : Nat) : Bool := match findObj ix with
  | none => false
  | some o => (b.pSubs o).any fun k => match o.entry k with
    | some e => e.rwu
    | none => false

/-- RESTORE (R405, R442): CheckCfg set, defaults applied, and with them the references of the signature; a record programmed.
Choices: log 38 (DEDUCED, unsafe). -/
def Block.acceptRestore (b : Block) (all : Bool) : Block :=
  let b : Block := b.withNvm { b.nvm with corrupted := b.nvm.corrupted.filter fun ix => !all && b.keepsRwu ix }
  ((b.put Ob.checkCfg 0xFFFFFFFF).restoreDefaults (!all)).startRecord .restore

/-- CheckNvm snoops the bytes programmed (R436). -/
def Block.snoopNvm (b : Block) (l : List Byte) : Block := b.put Ob.checkNvm (crcFeed (b.nat Ob.checkNvm) l)

/-- The sectors of the program under way are erased, and the first page is judged (R423, R440). -/
def sectorEraseComplete (m : List Host.Cell) (b : Block) : List Host.Cell × Block :=
  match b.nvm.program with
  | none => (m, b)
  | some p =>
    if p.erased then (m, b)
    else
      let size := if p.kind = .summary then summaryBankSize else dictBankSize
      let m := Flash.erase p.base size m
      let n := b.nvm
      let b := b.withNvm { n with
        program := some { p with erased := true }
        weak := n.weak.filter fun a => decide (a < p.base) || decide (p.base + size ≤ a)
        bad := n.bad.filter fun a => decide (a < p.base) || decide (p.base + size ≤ a)
        unfinished := n.ended p.base ++ (if b.pageAllowed p then [(p.base, true)] else [])
        dictErasesA := if p.base = dictBase false then n.dictErasesA + 1 else n.dictErasesA
        dictErasesB := if p.base = dictBase true then n.dictErasesB + 1 else n.dictErasesB
        summaryErasesA := if p.base = summaryBase false then n.summaryErasesA + 1 else n.summaryErasesA
        summaryErasesB := if p.base = summaryBase true then n.summaryErasesB + 1 else n.summaryErasesB }
      let b := b.judgeEndurance
      if b.pageAllowed p then (m, b) else (m, b.endProgram p 2)

/-- A page program completes; the next page is judged (R423, R440). -/
def pageProgram (m : List Host.Cell) (b : Block) : List Host.Cell × Block :=
  match b.nvm.program with
  | none => (m, b)
  | some p =>
    if !p.erased || decide (p.pages ≤ p.page) then (m, b)
    else
      let bytes := (p.image.drop (p.page * pageSize)).take pageSize
      let m := Flash.program (p.base + p.page * pageSize) bytes m
      let q := { p with page := p.page + 1 }
      let goesOn := decide (q.page < q.pages) && b.pageAllowed q
      let b := (b.withNvm { b.nvm with
        program := some q, unfinished := if goesOn then b.nvm.unfinished else b.nvm.ended p.base }).snoopNvm bytes
      if q.page < q.pages && !goesOn then (m, b.endProgram q 2) else (m, b)

/-- A dictionary record verified: the bank in force switches (R440). -/
def Block.switchDictBank (b : Block) (p : Program) : Block :=
  let bank := p.base == dictBase true
  let b := b.withNvm { b.nvm with dictBank := some bank, badRecords := b.nvm.badRecords.filter (· != 2) }
  let b := b.putAll [(Ob.nvmStatusSequence, field p.image 8 4),
    (Ob.nvmStatusRecordCheck, field p.image (p.image.length - 4) 4), (Ob.nvmWriteCountRecordWrites, field p.image 8 4)]
  let b := ((b.nvmFlag nvmTorn false).nvmFlag nvmBlank false).nvmFlag nvmCorrupt false
  if b.nvm.badRecords.isEmpty then b.clearLive 0xA2 else b

/-- The record is read back (R438, R440): verified, or failed once, or failed twice. -/
def Block.saveReadBack (b : Block) (r : ReadBack) : Block :=
  match b.nvm.program with
  | none => b
  | some p =>
    if p.kind = .summary || !p.erased || decide (p.page < p.pages) then b
    else
      let b := b.noteReadBack p r 2
      if r.passes then ((b.switchDictBank p).judgeEndurance).endProgram p 1
      else if 1 ≤ p.badReads then b.endProgram p 3
      else b.withNvm { b.nvm with program := some { p with badReads := p.badReads + 1 } }

/-- A summary bank verified: it comes into force (R434). -/
def Block.switchSummaryBank (b : Block) (p : Program) : Block :=
  let bank := p.base == summaryBase true
  let seq := b.nvm.summarySeq + 1
  let b := b.withNvm { b.nvm with
    summaryBank := some bank, summarySeq := seq, badRecords := b.nvm.badRecords.filter (· != 3) }
  let b := (b.put Ob.nvmWriteCountSummaryWrites seq).nvmFlag nvmSummaryTorn false
  if b.nvm.badRecords.isEmpty then b.clearLive 0xA2 else b

/-- An operating hour (R346): whole hours spent in Measure or Full. -/
def operatingHour (b : Block) : Block := if b.measuring then b.count32 Ob.lifetimeOperatingHours else b

end Sys2Proof.Machine
end

