-- ==== Sys2Proof/Machine/Thermal.lean ====
section
/-! DEFINITION. Temperature, throttling and the orderly stop (R409, R412–R419): lane thermometers, the housekeeping round with its
cross-check, the throttle level, and the pre-shutdown stop. Temperatures are in 0.1 °C; −32,768 (0x8000) is no reading. -/

namespace Sys2Proof.Machine

/-- "No reading" of the I16 temperatures (R412). -/
abbrev noReading : Int := -32768

/-- Reading of lane thermometer k (from 0). -/
def Block.lane (b : Block) (k : Nat) : Int := b.get (Ob.laneTemperature + k + 1)

/-- Is lane thermometer k valid: it has a reading and is not excluded (R413)? -/
def Block.laneValid (b : Block) (k : Nat) : Bool := b.lane k != noReading && !b.bit Ob.excludedThermometers k

/-- The valid lane thermometers with their sub-indices, rising. -/
def Block.validLanes (b : Block) : List (Nat × Int) :=
  ((List.range 37).filter b.laneValid).map fun k => (k + 1, b.lane k)

/-- HottestLane (R414): on equal readings the lower sub-index; the values of R414 when none is valid. -/
def Block.formHottest (b : Block) : Block :=
  match b.validLanes with
  | [] => b.putAll [(Ob.hottestLaneHottest, noReading), (Ob.hottestLaneHottestSub, 0), (Ob.hottestLaneCoolest, noReading),
      (Ob.hottestLaneCoolestSub, 0), (Ob.hottestLaneMean, noReading)]
  | x :: t =>
    let hot := t.foldl (fun m y => if m.2 < y.2 then y else m) x
    let cool := t.foldl (fun m y => if y.2 < m.2 then y else m) x
    let mean := meanOf ((x :: t).map (·.2))
    let b := b.putAll [(Ob.hottestLaneHottest, hot.2), (Ob.hottestLaneHottestSub, hot.1), (Ob.hottestLaneCoolest, cool.2),
      (Ob.hottestLaneCoolestSub, cool.1), (Ob.hottestLaneMean, mean)]
    b.put Ob.lifetimePeakLaneTemperature (max (b.get Ob.lifetimePeakLaneTemperature) hot.2)

/-- Runs of readings at or above a limit, per lane thermometer (R419, R420). -/
def Block.hotRuns (b : Block) (runs : List Nat) (limit : Int) : List Nat :=
  (List.range 37).map fun k => if b.lane k ≠ noReading && limit ≤ b.lane k then min 2 ((runs[k]?).getD 0 + 1) else 0

/-- Since when the hottest valid lane thermometer has stayed below 140.0 °C (R419). -/
def Block.coolTime (b : Block) : Option Nat :=
  let h := b.get Ob.hottestLaneHottest
  if h = noReading || 1400 ≤ h then none else match b.thermal.coolSince with
    | some t => some t
    | none => some b.now

/-- LANE_THERMOMETER_INTERVAL (R412, R414): the 37 readings of one 100 us interval. -/
def laneThermometerInterval (t : Nat) (lanes : List Int) (b : Block) : Block :=
  let b := b.at t
  if !b.awake then b
  else
    let b := (List.range 37).foldl (fun b k => match lanes[k]? with
      | some v => b.put (Ob.laneTemperature + k + 1) (clampInt (-550) 1750 v)
      | none => b) b
    let b := b.formHottest
    let b : Block := b.withThermal { b.thermal with
      over145 := b.hotRuns b.thermal.over145 1450, over150 := b.hotRuns b.thermal.over150 1500, coolSince := b.coolTime }
    if b.live 0x82 then b.put Ob.thermalRecordPeak (max (b.get Ob.thermalRecordPeak) (b.get Ob.hottestLaneHottest)) else b

/-! ### The housekeeping round (R409, R413, R418) -/

/-- Have the thermometers of three adjacent cell channels been excluded (R379)? -/
def Block.threeExcluded (b : Block) : Bool :=
  (List.range 30).any fun k => b.bit Ob.excludedThermometers k && b.bit Ob.excludedThermometers (k + 1) &&
    b.bit Ob.excludedThermometers (k + 2)

/-- Thermometers excluded. -/
def Block.excludedCount (b : Block) : Nat := ((List.range 37).filter fun k => b.bit Ob.excludedThermometers k).length

/-- Does lane thermometer k differ from the mean of its slices by more than 5.0 °C (R409)? -/
def Block.crossFails (b : Block) (k : Nat) : Bool :=
  let s := fun i => b.get (Ob.sliceTemperature + 2 * k + 1 + i)
  b.laneValid k && decide (100 < (2 * b.lane k - (s 0 + s 1)).natAbs)

/-- Lane thermometer k is excluded (R413, R418, R379); hottest is the hottest valid one of the round. -/
def Block.excludeLane (b : Block) (hottest : Int) (k : Nat) : Block :=
  let held := decide (1 ≤ b.get Ob.throttleLevelLevel) || decide (b.lane k = hottest)
  let b := (b.putBit Ob.excludedThermometers k true).reason .thermometer true
  let b := if held then b.put Ob.throttleLevelHeld 1 else b
  let data := k + 1 + 256 * b.excludedCount
  if b.threeExcluded then b.raiseAtLeast 0x84 data 3 else b.raise 0x84 data

/-- The cross-check of one round (R409, R413): a second failure excludes, a first makes suspect and restarts a COOL measurement (R416). -/
def Block.crossCheck (b : Block) : Block :=
  let hottest := mostOf noReading (b.validLanes.map (·.2))
  let failing := (List.range 37).filter b.crossFails
  let out := failing.filter b.thermal.suspect.contains
  let fresh := failing.filter fun k => !b.thermal.suspect.contains k
  let b := out.foldl (fun b k => b.excludeLane hottest k) b
  let since := if fresh.isEmpty || b.thermal.band ≠ 3 then b.thermal.since else b.now
  b.withThermal { b.thermal with suspect := fresh, since := since }

/-- HOUSEKEEPING_ROUND (R409, R413): slice thermometers ST0–ST73, the latest rails, the cross-check. -/
def housekeepingRound (t : Nat) (slices : List Int) (b : Block) : Block :=
  let b := b.at t
  if !b.awake || !b.engineRuns 7 then b
  else
    let b := (List.range 74).foldl (fun b k => match slices[k]? with
      | some v => b.put (Ob.sliceTemperature + k + 1) (clampInt (-550) 1750 v)
      | none => b) b
    let b := (List.range 6).foldl (fun b k => b.put (Ob.housekeeping + k + 1) ((b.aux.rails[k]?).getD 0 : Nat)) b
    b.crossCheck

/-! ### The throttle (R415–R418) -/

/-- The throttle level changes (R416, R417): what follows a level is asked for, 0x81 rises from 0 and clears at 0. -/
def Block.setLevel (b : Block) (n : Nat) : Block :=
  let old := b.nat Ob.throttleLevelLevel
  let b := (b.put Ob.throttleLevelLevel n).put Ob.throttleLevelSince b.now
  let b : Block := b.withThermal { b.thermal with since := b.now }
  let b := if (old = 3) != (n = 3) then b.askAveraging else b
  let b := b.reason .thermalEnforced (1 ≤ n)
  if old = 0 && 1 ≤ n then b.raise 0x81 n else if n = 0 then b.clearLive 0x81 else b

/-- T_t (R415): none while no lane thermometer is valid. -/
def Block.throttleTemp (b : Block) : Int :=
  let h := b.get Ob.hottestLaneHottest
  if h = noReading then noReading else h + (if b.on Ob.throttleLevelHeld then 100 else 0)

/-- Band of T_t (R415): 1 HOT, 2 DEAD, 3 COOL; no valid thermometer counts as HOT. -/
def Block.throttleBand (b : Block) (temp : Int) : Nat :=
  let w := b.get Ob.throttleWarn
  if temp = noReading || w < temp then 1 else if w - 50 ≤ temp then 2 else 3

/-- THROTTLE_EVALUATION (R415, R416). Choices: log 25 (DEDUCED, unsafe). -/
def throttleEvaluation (t : Nat) (b : Block) : Block :=
  let b := b.at t
  if !b.awake || !b.engineRuns 7 || (List.range 37).all (fun k => b.lane k == noReading) then b
  else
    let temp := b.throttleTemp
    let band := b.throttleBand temp
    let b := b.put Ob.throttleLevelThrottleTemperature temp
    let entered := b.thermal.band ≠ band
    let b : Block := if entered then b.withThermal { b.thermal with band := band, since := b.now } else b
    let b := if band = 1 then (if entered then b.raise 0x80 (b.get Ob.hottestLaneHottest % 65536).toNat else b)
      else b.clearLive 0x80
    let g := b.get Ob.graceTime * 1000000
    let long := decide (g ≤ chainDiff b.now b.thermal.since)
    let level := b.nat Ob.throttleLevelLevel
    if band = 1 && long && level < 3 then b.setLevel (level + 1)
    else if band = 3 && long && 0 < level && b.thermal.suspect.isEmpty then b.setLevel (level - 1)
    else b

/-! ### The orderly stop (R419) -/

/-- Is a valid lane thermometer at a limit on two consecutive readings (R419, R420)? -/
def Block.hotTwice (b : Block) (runs : List Nat) : Bool :=
  (List.range 37).any fun k => b.laneValid k && decide (2 ≤ (runs[k]?).getD 0)

/-- A summary write is wanted (R434): it starts now, or when the NVM program under way has ended, or E7 runs again. -/
def Block.wantSummary (b : Block) (m : List Host.Cell) : Block :=
  if b.nvm.program.isSome || !b.engineRuns 7 then b.withNvm { b.nvm with summaryWanted := true }
  else
    let b : Block := (b.withNvm { b.nvm with summaryWanted := false }).readSummaries
    if b.summaryNeeded m then b.startSummary m false else b

/-- What the capture FIFO holds reaches the journal while E7 runs (R385, R393). -/
def Block.settleJournal (b : Block) : Block := if b.engineRuns 7 then b.drainAll else b

/-- PRE_SHUTDOWN (R416, R419, R434): 0x82 registers, the level goes to 3, and the summaries are written, that of the incident it begins with them: its
entry has reached the journal by then (R385). Choices: log 25 (DEDUCED, unsafe). -/
def preShutdown (m : List Host.Cell) (b : Block) : Block :=
  if !b.awake || b.live 0x82 || !b.hotTwice b.thermal.over145 then b
  else
    let hot := b.get Ob.hottestLaneHottest
    let b := (b.raise 0x82 (hot % 65536).toNat).faultCycle
    let b := b.put Ob.thermalRecordPeak hot
    let b := if b.get Ob.throttleLevelLevel = 3 then b else b.setLevel 3
    b.settleJournal.wantSummary m

/-- PRE_SHUTDOWN_END (R419): the hottest has stayed below 140.0 °C for G. -/
def preShutdownEnd (t : Nat) (b : Block) : Block :=
  let b := b.at t
  match b.thermal.coolSince with
  | some c => if b.awake && b.live 0x82 && b.get Ob.graceTime * 1000000 ≤ chainDiff b.now c then b.clearLive 0x82 else b
  | none => b

/-- SUMMARY_WRITE (R434): a summary write that had to wait starts. -/
def summaryWrite (m : List Host.Cell) (b : Block) : Block :=
  if b.awake && b.nvm.summaryWanted then b.settleJournal.wantSummary m else b

/-! ### The commands of the family -/

/-- LANE_THERMOMETER_INTERVAL (R412). -/
def execLaneThermometerInterval (t : Nat) (lanes : List Int) (s : State) : Out := onBlock (laneThermometerInterval t lanes) s

/-- HOUSEKEEPING_ROUND (R413). -/
def execHousekeepingRound (t : Nat) (slices : List Int) (s : State) : Out := onBlock (housekeepingRound t slices) s

/-- PRE_SHUTDOWN_END (R419). -/
def execPreShutdownEnd (t : Nat) (s : State) : Out := onBlock (preShutdownEnd t) s

/-- SUMMARY_WRITE (R434). -/
def execSummaryWrite (s : State) : Out := onBlockReading summaryWrite s

end Sys2Proof.Machine
end

