-- ==== Sys2Proof/Machine/Trig.lean ====
section
/-! DEFINITION. The real functions that the spec's formulas name (R245, R246, R261), in fixed point with 64 fraction bits: sine and
cosine of a fraction of a turn, the arc tangent, and square roots. Each stands for the exact value (a log row says so). -/

namespace Sys2Proof.Machine

/-- One in the fixed point of this file. -/
abbrev fxOne : Int := 2 ^ 64

/-- 2 pi in the fixed point. -/
abbrev fxTwoPi : Int := 115904311329233965478

/-- The alternating series of terms t × x² / ((2k + a)(2k + a + 1)): the tail of a sine (a = 2) or a cosine (a = 1). -/
def fxSeries : Nat → Int → Int → Nat → Int
  | 0, _, _, _ => 0
  | n + 1, term, sq, a =>
    let next := -(term * sq / fxOne / (a * (a + 1) : Nat))
    term + fxSeries n next sq (a + 2)

/-- Cosine and sine of a quarter turn's part: of x turns, 0 ≤ x < 1/4. -/
def fxQuarter (x : Int) : Int × Int :=
  let r := x * fxTwoPi / fxOne
  let sq := r * r / fxOne
  (fxSeries 16 fxOne sq 1, fxSeries 16 r sq 2)

/-- Cosine and sine of num / den turns. Choices: log 7 (DESIGN CHOICE, unsafe). -/
def fxCosSin (num den : Nat) : Int × Int :=
  let x : Int := (num % den * 2 ^ 64 / den : Nat)
  let q := 4 * x / fxOne
  let c := fxQuarter (x - q * (fxOne / 4))
  if q = 0 then c else if q = 1 then (-c.2, c.1) else if q = 2 then (-c.1, -c.2) else (c.2, -c.1)

/-- sin(x) / x for x of num / den half turns, not 0. Choices: log 7 (DESIGN CHOICE, unsafe). -/
def fxSinc (num den : Nat) : Int :=
  let x := fxTwoPi / 2 * num / den
  if x = 0 then fxOne else (fxCosSin num (2 * den)).2 * fxOne / x

/-- Square root of a natural, rounded to nearest. Choices: log 7 (DESIGN CHOICE, unsafe). -/
def sqrtRound (x : Nat) : Nat := (Nat.sqrt (4 * x) + 1) / 2

/-- tan of half the angle whose tangent is t. -/
def fxHalfTan (t : Int) : Int := t * fxOne / (fxOne + (Nat.sqrt ((fxOne * fxOne + t * t).toNat) : Int))

/-- The arc tangent's series t − t³/3 + …, n terms; k counts the odd numbers. -/
def fxAtanSeries : Nat → Int → Int → Nat → Int
  | 0, _, _, _ => 0
  | n + 1, term, sq, k => term / (k : Int) + fxAtanSeries n (-(term * sq / fxOne)) sq (k + 2)

/-- Arc tangent of t, 0 ≤ t ≤ 1, in radians. Choices: log 7 (DESIGN CHOICE, unsafe). -/
def fxAtan (t : Int) : Int :=
  let h := fxHalfTan (fxHalfTan t)
  4 * fxAtanSeries 24 h (h * h / fxOne) 1

/-- atan2(y, x) in 0.001°, from −180,000 to +180,000; none at the origin. Choices: log 7 (DESIGN CHOICE, unsafe). -/
def atan2Milli (y x : Int) : Option Int :=
  if x = 0 && y = 0 then none
  else
    let a : Int := x.natAbs
    let o : Int := y.natAbs
    let first := if o ≤ a then fxAtan (o * fxOne / a) else fxTwoPi / 4 - fxAtan (a * fxOne / o)
    let upper := if 0 ≤ x then first else fxTwoPi / 2 - first
    let v := roundDiv (upper * 360000) fxTwoPi.toNat
    some (if 0 ≤ y then v else -v)

end Sys2Proof.Machine
end

