-- ==== Sys2Proof/Machine/Impedance.lean ====
section
/-! DEFINITION. Impedance of the cells (R237–R258, R269): analysis intervals and their phasors, ACTIVE excitation, results, series
resistance, temperature estimates and outliers. Interval boundaries are in 1/64 us, voltages in phasors in 1/65,536 nV, currents in uA. -/

namespace Sys2Proof.Machine

/-! ### Intervals (R242, R243) -/

/-- K for an integration time in us and a frequency in mHz (R242). Choices: log 35 (DEDUCED, unsafe). -/
def periodsFor (f us : Nat) : Nat := 8 * ceilDiv (f * us) (8 * 10 ^ 9)

/-- K of an AMBIENT entry: the larger integration time of R242, against 1.25 window lengths. -/
def Block.ambientPeriods (b : Block) (f us : Nat) : Nat :=
  let w := b.win.nominal64
  max (periodsFor f us) (8 * ceilDiv (f * 5 * w.1) (8 * 10 ^ 9 * 4 * 64 * w.2))

/-- Boundary i of back-to-back intervals of K periods from chain time 0 (R243), to the nearest 1/64 us: the period stays exact and each boundary is
rounded, where the words may also mean a period rounded once, the model's choice. Choices: log 35 (DEDUCED, unsafe). -/
def gridBoundary (f k i : Nat) : Nat := (2 * i * k * 64 * 10 ^ 9 + f) / (2 * f)

/-- Number of the last boundary at or before x. -/
def gridIndex (f k x : Nat) : Nat :=
  let j := x * f / max 1 (k * 64 * 10 ^ 9)
  if gridBoundary f k (j + 1) ≤ x then j + 1 else if x < gridBoundary f k j then j - 1 else j

/-- Length of an interval of a harmonic entry. -/
def spanOf (f k : Nat) : Nat := if f = 0 then 0 else gridBoundary f k 1

/-- A sequence takes an announced frequency that holds from a boundary (R243); the records that repeat it change nothing. The first announcement
starts it on the grid of a fixed entry. Choices: log 35 (DEDUCED, unsafe). -/
def Sequence.hear (s : Sequence) (f fromB k : Nat) : Sequence :=
  if f = 0 then { s with freq := 0, next := [] }
  else if s.freq = 0 then
    let i := gridIndex f k (fromB + 64)
    let i := if gridBoundary f k i < fromB then i + 1 else i
    { s with freq := f, start := gridBoundary f k i, number := i % 2 ^ 32, next := [] }
  else if (s.next.getLast?.map (·.1)).getD s.freq = f then s
  else { s with next := s.next ++ [(f, fromB)] }

/-- Does x come at or after y, both in 1/64 us of chain time (R114)? -/
def after64 (x y : Nat) : Bool := decide (0 ≤ diff64 x y)

/-- The sequence after the interval that started at its start has ended: back to back, numbers rising by 1, at the latest frequency that holds
from there (R243). -/
def Sequence.pass (s : Sequence) (stop : Nat) : Sequence :=
  let s := { s with start := stop % wrap64, number := (s.number + 1) % 2 ^ 32 }
  match (s.next.filter fun y => after64 stop y.2).getLast? with
  | some (f, _) => { s with freq := f, next := s.next.filter fun y => !after64 stop y.2 }
  | none => s

/-- n intervals of a harmonic sequence gone by at the frequency it has. -/
def Sequence.skip (s : Sequence) (n : Nat) (periods : Nat → Nat) : Sequence :=
  { s with start := (s.start + n * spanOf s.freq (periods s.freq)) % wrap64, number := (s.number + n) % 2 ^ 32 }

/-- A harmonic sequence brought up to the last interval that has ended by x, its frequencies in turn: intervals go on back to back and numbers rise
while E6 is stopped, or the mode is INSTANT, too (R237, R243). The list is that of the frequencies still to come. -/
def Sequence.catchUp (x : Nat) (periods : Nat → Nat) : List (Nat × Nat) → Sequence → Sequence
  | l, s =>
    let span := max 1 (spanOf s.freq (periods s.freq))
    let gone := (diff64 x s.start).toNat / span - 1
    match l with
    | [] => s.skip gone periods
    | (f, fromB) :: rest =>
      let until' := ceilDiv (diff64 fromB s.start).toNat span
      if until' ≤ gone then Sequence.catchUp x periods rest { s.skip until' periods with freq := f, next := rest }
      else s.skip gone periods

/-- An interval that has just ended: number, frequency, K, start, stop. -/
abbrev Ended : Type := Nat × Nat × Nat × Nat × Nat

/-- The interval of a sequence that has ended by an instant (1/64 us), and the sequence after it: of a fixed entry from chain time 0, where one
that would span the wrap is discarded; of a harmonic from its announced start, back to back over the wrap too, where its stop lies beyond
it (R114, R243). -/
def Sequence.ended (s : Sequence) (code x : Nat) (periods : Nat → Nat) : Option Ended × Sequence :=
  if 100 ≤ code then
    let k := periods code
    let j := gridIndex code k x
    let stop := gridBoundary code k j
    if j = 0 || s.done = some stop then (none, s)
    else (some ((j - 1) % 2 ^ 32, code, k, gridBoundary code k (j - 1), stop), { s with done := some stop })
  else if s.freq = 0 then (none, s)
  else
    let s := Sequence.catchUp x periods s.next s
    let k := periods s.freq
    let stop := s.start + spanOf s.freq k
    if after64 x stop then (some (s.number, s.freq, k, s.start, stop), { s.pass stop with done := some (stop % wrap64) })
    else (none, s)

/-! ### Phasors (R245, R246) -/

/-- Sums for the least-squares line of R245 over (weight, x, v). -/
def fitSums : List (Nat × Int × Int) → Int × Int × Int × Int × Int
  | [] => (0, 0, 0, 0, 0)
  | (w, x, v) :: t =>
    let s := fitSums t
    (s.1 + w, s.2.1 + w * x, s.2.2.1 + w * x * x, s.2.2.2.1 + w * v, s.2.2.2.2 + w * x * v)

/-- Residual of the fit at (x, v), in 1/65,536 of v's unit. -/
def residual (s : Int × Int × Int × Int × Int) (x v : Int) : Int :=
  let det := s.1 * s.2.2.1 - s.2.1 * s.2.1
  if det = 0 then (if s.1 = 0 then 0 else roundDiv ((v * s.1 - s.2.2.2.1) * 65536) s.1.toNat)
  else
    let a := s.2.2.2.1 * s.2.2.1 - s.2.2.2.2 * s.2.1
    let c := s.1 * s.2.2.2.2 - s.2.1 * s.2.2.2.1
    roundDiv ((v * det - a - c * x) * 65536) det.toNat

/-- Cosine and sine of f mHz over a time in 1/128 us, either side of 0. -/
def cosSinAt (f : Nat) (x : Int) : Int × Int :=
  let c := fxCosSin (f * x.natAbs) (128 * 10 ^ 9)
  if x < 0 then (c.1, -c.2) else c

/-- The eight sub-phasors of R245, in 1/65,536 of the values' unit, from (start, length, value); response is the averaging count of H in us.
Blocks that begin before the interval, or beyond the wrap of chain time, keep their place against its start (R114). -/
def subPhasors (bl : List (Nat × Nat × Int)) (f start stop response : Nat) : List (Int × Int) :=
  let centre := fun x : Nat × Nat × Int => 64 * (2 * usFrom start x.1 + x.2.1)
  let pts := bl.filterMap fun x =>
    let w := overlap x.1 x.2.1 start stop
    if w = 0 then none else some (x, (w, ((centre x : Int) - (start + stop : Nat)), x.2.2))
  let sums := fitSums (pts.map (·.2))
  let h := fxSinc (f * response) (10 ^ 9)
  let edge := fun s : Nat => start + (stop - start) * s / 8
  (List.range 8).map fun s =>
    let parts := pts.filterMap fun p =>
      let w := overlap p.1.1 p.1.2.1 (edge s) (edge (s + 1))
      if w = 0 then none
      else
        let r := residual sums p.2.2.1 p.2.2.2
        let cs := cosSinAt f ((centre p.1 : Int) - (2 * start : Nat))
        some ((w : Int), (w : Int) * r * cs.1, -((w : Int) * r * cs.2))
    let w := sumOf (parts.map (·.1))
    let den := (w * h).toNat
    if den = 0 then (0, 0)
    else (roundDiv (2 * sumOf (parts.map (·.2.1))) den, roundDiv (2 * sumOf (parts.map (·.2.2))) den)

/-- Mean current of a stretch in uA (R246): its metered charge in 0.1 mA × sub-ticks over the time it was metered for. Choices: log 35 (DEDUCED,
unsafe). -/
def Stretch.mean (s : Stretch) : Int :=
  let stop := match s.fall with
    | some y => if subDiff y s.until' < 0 then y else s.until'
    | none => s.until'
  let span := (subDiff stop s.rise).toNat
  if span = 0 then 0 else roundDiv ((100 * s.sum : Nat) : Int) span

/-- 64 bits of pi. -/
abbrev fxPi : Int := fxTwoPi / 2

/-- The eight sub-phasors of channel ch's own conduction in uA (R246): each stretch a rectangle between its edges. -/
def bleedPhasors (l : List Stretch) (ch f k start stop : Nat) : List (Int × Int) :=
  let toSub := fun x : Nat => x * 400 / 64
  let mine := l.filter fun s => s.ch == ch
  let edge := fun s : Nat => ((toSub (start + (stop - start) * s / 8) - toSub start : Nat) : Int)
  (List.range 8).map fun s =>
    let parts := mine.filterMap fun x =>
      let lo := max (subDiff x.rise (toSub start)) (edge s)
      let hi := min ((x.fall.map fun y : Nat => subDiff y (toSub start)).getD (edge 8)) (edge (s + 1))
      if hi ≤ lo then none
      else
        let a := fxCosSin (f * lo.toNat) (400 * 10 ^ 9)
        let z := fxCosSin (f * hi.toNat) (400 * 10 ^ 9)
        some (x.mean * (z.2 - a.2), x.mean * (z.1 - a.1))
    let den := (fxPi * k).toNat
    if den = 0 then (0, 0) else (roundDiv (8 * sumOf (parts.map (·.1))) den, roundDiv (8 * sumOf (parts.map (·.2))) den)

/-- Was a window INCOMPLETE somewhere in [start, stop) (R253)? -/
def Block.spoiledIn (b : Block) (start stop : Nat) : Bool :=
  let bad := fun o : Option Window => match o with
    | some w => bitOf w.flags 0 && spansMeet (w.start, w.stop) (start, stop)
    | none => false
  (b.imp.spoiled.any fun w => spansMeet w (start, stop)) || bad b.win.opened || bad b.win.closing

/-- The voltage and conduction phasors of channel ch over an interval (R245, R246); none of a cell without a lane or without blocks.
Choices: log 35 (DEDUCED, unsafe). -/
def Block.cellPhasors (b : Block) (ch f k start stop : Nat) : Option CellPhasors :=
  let bl := ((b.imp.blocks[ch]?).getD []).filter fun x => decide (0 < overlap x.start x.length start stop)
  if b.healthBit ch 4 || bl.isEmpty then none
  else some ⟨subPhasors (bl.map fun x => (x.start, x.length, x.value)) f start stop b.blockLength,
    bleedPhasors b.imp.stretches ch f k start stop,
    64 * boolNat (b.spoiledIn start stop) + 512 * boolNat (bl.any (·.overrange))⟩

/-- Cells near which a switch conducted in [start, stop) (R251). -/
def Block.touchedIn (b : Block) (start stop : Nat) : List Nat :=
  (List.range b.cells).filter fun i => b.imp.stretches.any fun s =>
    decide (s.ch ≤ i + 1) && decide (i ≤ s.ch + 1) && decide (subDiff s.rise (stop * 400 / 64) < 0) &&
      (match s.fall with
        | some x => decide (0 < subDiff x (start * 400 / 64))
        | none => true)

/-- Was the timebase not ALIGNED at some instant since start (R253)? -/
def Block.unalignedSince (b : Block) (start : Nat) : Bool :=
  b.tbState != tbAligned || match b.tb.unalignedEnd with
    | some x => decide (0 < chainDiff x (start / 64))
    | none => false

/-- The interval as E6 forms it (R245). -/
def Block.formInterval (b : Block) (e : Ended) (excited : Option (List Nat)) (skipped lost : List Nat) : Interval :=
  let (n, f, k, start, stop) := e
  let wants := fun i => match excited with
    | some l => l.contains i && !lost.contains i
    | none => true
  ⟨n, f, k, start, stop, (List.range b.cells).map fun i => if wants i then b.cellPhasors i f k start stop else none,
    b.touchedIn start stop, b.unalignedSince start, excited, skipped, lost⟩

/-- Entry k of E6 (from 0). -/
def Block.impEntry (b : Block) (k : Nat) : ImpEntry := (b.imp.entries[k]?).getD .idle

/-- Entry k rewritten. -/
def Block.editEntry (b : Block) (k : Nat) (f : ImpEntry → ImpEntry) : Block :=
  b.withImp { b.imp with entries := editAt b.imp.entries k f }

/-- Does an AMBIENT interval count: begun while E6 worked, at least 10 ms after a change of the entry (R240), apart from every ACTIVE sequence
(R251)? -/
def Block.ambientCounts (b : Block) (k start stop : Nat) : Bool :=
  after64 start (64 * b.imp.startedAt) &&
    (match (b.impEntry k).changedAt with
      | some c => after64 start (64 * (c + 10000))
      | none => true) &&
    !(b.imp.activeSpans.any fun s => spansMeet s (start, stop)) &&
    match b.imp.active with
      | some a => after64 a.settleAt stop
      | none => true

/-- Entry (from 0) whose phase the curve uses; none without a curve. -/
def Block.curveEntry (b : Block) : Option Nat :=
  if b.tempCurve.isEmpty then none else some (field b.tempCurve 4 1 - 1)

/-- Status and, where it changes, value of one cell's temperature estimate. -/
def Block.putTemp (b : Block) (i : Nat) (status : Int) (value : Option Int) : Block :=
  let b := b.put (chKey Ob.tempEstimateStatus i) status
  match value with
  | some v => b.put (chKey Ob.cellTempEstimate i) v
  | none => b

/-- Temperature estimates from entry k's results become STALE for the cells a test picks, and keep their values (R258). -/
def Block.staleTemps (b : Block) (k : Nat) (p : Nat → Bool) : Block :=
  if b.curveEntry = some k then
    ((List.range b.cells).filter p).foldl (fun b i =>
      if b.get (chKey Ob.tempEstimateStatus i) = 0 then b else b.putTemp i 5 none) b
  else b

/-- An AMBIENT interval of entry k is discarded: the earlier results carry STALE (R253, R258). -/
def Block.discardResults (b : Block) (k : Nat) : Block :=
  (b.editEntry k fun e => { e with cells := e.cells.map fun c => { c with flags := setBitTo c.flags 7 true } }).staleTemps k fun _ => true

/-- An AMBIENT interval of entry k has ended by now: its phasors wait for the keeper's (R244, R245). One that does not count is discarded. -/
def Block.endAmbient (b : Block) (k code : Nat) : Block :=
  if b.instantMode then b
  else
    let e := b.impEntry k
    let r := e.sequence.ended code (64 * b.now) fun f => b.ambientPeriods f (b.nat Ob.impedanceConfigIntegrationTime)
    let b := b.editEntry k fun e => { e with sequence := r.2 }
    match r.1 with
    | none => b
    | some x =>
      if b.ambientCounts k x.2.2.2.1 x.2.2.2.2 then
        let iv := b.formInterval x none [] []
        b.editEntry k fun e => { e with waiting := e.waiting ++ [iv] }
      else b.discardResults k

/-- The keeper's E4 forms the current sub-phasors of entry k of the chain analysis set (R241, R244, R245); one beyond I32 uA saturates (R13). -/
def Block.endKeeper (b : Block) (k : Nat) : Block :=
  let set := (b.chainSet[k]?).getD (0, 0)
  if !b.isKeeper || b.instantMode || set.2 ≠ 1 || set.1 = 0 then b
  else
    let s := (b.keeper.sequences[k]?).getD ⟨0, 0, 0, [], none⟩
    let r := s.ended set.1 (64 * b.now) fun f => b.ambientPeriods f b.imp.chainTime
    let b : Block := b.withKeeper { b.keeper with sequences := b.keeper.sequences.set k r.2 }
    match r.1 with
    | none => b
    | some (n, f, _, start, stop) =>
      let micro := fun v : Int =>
        roundDiv ((v + b.get Ob.currentTrimOffset) * (10 ^ 6 + b.get Ob.currentTrimGain)) (b.nat Ob.shuntValue)
      let p := subPhasors (b.keeper.history.map fun x => (x.1, 32, micro x.2)) f start stop 32
      let p := p.map fun x => (roundDiv x.1 65536, roundDiv x.2 65536)
      let total := (meanOf (p.map (·.1)), meanOf (p.map (·.2)))
      let kept := fun x : Int × Int => (resultOf x.1, resultOf x.2)
      let b := b.noteSat 4 ((total :: p).any fun x => resultHit x.1 || resultHit x.2)
      let item : KeeperPhasor := ⟨k + 1, n, f, stop, kept total, p.map kept⟩
      b.withKeeper { b.keeper with phasors := b.keeper.phasors ++ [item] }

/-! ### ACTIVE excitation (R248–R250) -/

/-- The ACTIVE entries in ascending k, each for the odd channels and then the even ones (R248). Choices: log 35 (DEDUCED, unsafe). -/
def Block.activeTodo (b : Block) : List (Nat × Bool) :=
  ((List.range 4).map fun k =>
    let e := (b.ownEntries[k]?).getD (0, 0)
    let settled := match (b.impEntry k).changedAt with
      | some c => decide (10000 ≤ chainDiff b.now c)
      | none => true
    if e.2 = 2 && e.1 ≠ 0 && settled then [(k, false), (k, true)] else []).flatten

/-- May channel i (from 0) be excited in an interval of a parity (R249)? -/
def Block.excitable (b : Block) (even : Bool) (i : Nat) : Bool :=
  (i % 2 == (if even then 1 else 0)) && b.bit Ob.impedanceConfigActiveMask i && !(b.chan i).disabled &&
    !b.bit (chKey Ob.channelState i) 9

/-- Channels taken in order until the next would exceed the budget, and those left out (R249). -/
def Block.takeExcited (b : Block) : List Nat → Nat → List Nat × List Nat
  | [], _ => ([], [])
  | i :: t, power =>
    let p := power + b.switchPower i
    if p ≤ b.effectiveBudget then
      let r := b.takeExcited t p
      (i :: r.1, r.2)
    else ([], i :: t)

/-- The excitation holds a switch, on or off (R217): an on command waits for the interlock and for a QUIET pause (R188, R206). -/
def Block.excite (b : Block) (i : Nat) (on : Bool) : Block :=
  if on && !(b.gov.quietWindow || b.quietPause b.now) then b.turnOn i .excitation else b.editCh i fun c => { c.dark with owner := .excitation }

/-- The switches excitation holds are released. -/
def Block.releaseExcited (b : Block) : Block :=
  b.withGov { b.gov with ch := b.gov.ch.map fun c => if c.owner == .excitation then c.off else c }

/-- The sequence is over: the following one starts from the first channels that this one left out (R249). Choices: log 35 (DEDUCED, unsafe). -/
def Block.endSequence (b : Block) (odd even : Option Nat) : Block :=
  b.withImp { b.imp with active := none, nextOdd := odd.getD b.imp.nextOdd, nextEven := even.getD b.imp.nextEven }

/-- Does an interval of todo still stand (R240): its entry is ACTIVE, and unchanged for 10 ms? -/
def Block.stillDue (b : Block) (x : Nat × Bool) : Bool := b.activeTodo.contains x

/-- A settle begins for the first of todo at x (1/64 us): channels are chosen, their neighbours go off, the first half period conducts from the
sub-tick nearest to x (R248, R249). odd and even say from where the following sequence is to start. Choices: log 35 (DEDUCED, unsafe). -/
def Block.beginSettle (b : Block) (todo : List (Nat × Bool)) (x : Nat) (odd even : Option Nat) : Block :=
  let b := b.releaseExcited
  match todo.dropWhile fun y => !b.stillDue y with
  | [] => b.endSequence odd even
  | (k, isEven) :: rest =>
    let f := max 1 ((b.ownEntries[k]?).getD (0, 0)).1
    let periods := periodsFor f (b.nat Ob.impedanceConfigIntegrationTime)
    let settle := max 1 (ceilDiv (20000 * f) (10 ^ 9))
    let able := (List.range b.cells).filter (b.excitable isEven)
    let first := if isEven then b.imp.nextEven else b.imp.nextOdd
    let order := (able.filter fun i => decide (first ≤ i)) ++ able.filter fun i => decide (i < first)
    let all := (able.map b.switchPower).foldl (· + ·) 0
    let pick := if all ≤ b.effectiveBudget then (able, []) else b.takeExcited order 0
    let lost := pick.1.filter fun i =>
      (b.chan i).owner == .diagnostic || (b.chan (i + 1)).owner == .diagnostic || (decide (1 ≤ i) && (b.chan (i - 1)).owner == .diagnostic)
    let mine := pick.1.filter fun i => !lost.contains i
    let b := mine.foldl (fun b i =>
      [i - 1, i + 1].foldl (fun b j => if j ≠ i && (b.chan j).owner == .balancing then b.editCh j GovCh.off else b) b) b
    let b := mine.foldl (fun b i => (b.excite i true).noteEdge i ((2 * x * 400 + 64) / 128)) b
    let next := some (pick.2.headD 0)
    b.withImp { b.imp with
      active := some ⟨(k, isEven) :: rest, f, periods, x, x + gridBoundary f settle 1, x + gridBoundary f (settle + periods) 1, pick.1, pick.2,
        lost, if isEven then odd else next, if isEven then next else even⟩ }

/-- ACTIVE_SEQUENCE_START (R238, R248): a start while a sequence runs is skipped. -/
def activeSequenceStart (t : Nat) (b : Block) : Block :=
  let b := b.at t
  if !b.e6Works || b.noCells || b.activeStopped || b.imp.active.isSome || b.activeTodo.isEmpty ||
      b.now % (b.nat Ob.impedanceConfigActivePeriod * 1000000) ≠ 0 then b
  else b.beginSettle b.activeTodo (64 * b.now) none none

/-- Number of the half period, from the start of the settle, whose edge lies nearest to the middle of microsecond t (R249). -/
def ActiveSeq.halfAt (a : ActiveSeq) (t : Nat) : Nat :=
  (4 * (diff64 (64 * t + 32) a.settleAt).toNat * a.frequency + 64 * 10 ^ 9) / (2 * 64 * 10 ^ 9)

/-- The sub-tick nearest to the ideal edge of a half period: settleAt / 64 us + half × 10^9 / (2 f) us (R249). -/
def ActiveSeq.edgeAt (a : ActiveSeq) (half : Nat) : Nat :=
  let f := max 1 a.frequency
  (25 * f * a.settleAt + 8 * 10 ^ 11 * half + 2 * f) / (4 * f)

/-- EXCITATION_EDGE (R249): the half-period edge nearest to t; edges are stamped at the sub-tick nearest their ideal time.
Nothing conducts for excitation that is stopped (R238). -/
def excitationEdge (t : Nat) (b : Block) : Block :=
  let b := b.at t
  match b.imp.active with
  | none => b
  | some a =>
    let half := a.halfAt b.now
    let on := half % 2 == 0 && decide (a.edgeAt half * 64 < a.stop * 400) && !b.activeStopped
    a.excited.foldl (fun b i =>
      if a.lost.contains i then b else (b.excite i on).noteEdge i (a.edgeAt half % (400 * t48))) b

/-- A span of ACTIVE activity joins those that discard AMBIENT intervals (R251). -/
def Block.addActiveSpan (b : Block) (lo hi : Nat) : Block :=
  b.withImp { b.imp with activeSpans :=
      (b.imp.activeSpans.filter fun s => decide (diff64 (64 * b.now) s.2 < 64 * b.e6Span)) ++ [(lo, hi)] }

/-- Earlier results of channels whose interval was discarded (R250, R253). -/
def preemptCells (gone : List Nat) (l : List ImpCell) : List ImpCell :=
  (List.range l.length).map fun i =>
    let c : ImpCell := (l[i]?).getD .none
    if gone.contains i then { c with flags := setBitTo (setBitTo c.flags 3 true) 7 true } else c

/-- The ACTIVE interval that runs is discarded (R237, R238, R240, R250): the channels' earlier results and the estimates from them show it. -/
def Block.dropActive (b : Block) (a : ActiveSeq) : Block :=
  let b := (b.releaseExcited).addActiveSpan a.settleAt (64 * b.now)
  match a.todo with
  | [] => b
  | (k, _) :: _ => (b.editEntry k fun e => { e with cells := preemptCells a.excited e.cells }).staleTemps k a.excited.contains

/-- A running ACTIVE sequence is discarded and its switches released (R237, R238). -/
def Block.discardActive (b : Block) : Block :=
  match b.imp.active with
  | none => b
  | some a => (b.dropActive a).endSequence a.nextOdd a.nextEven

/-- Safe state discards an ACTIVE interval as it is entered (R238, R386). -/
def Block.reactSafe (b : Block) : Block := if b.safeHold ≠ 0 then b.discardActive else b

/-- ACTIVE_INTERVAL_DISCARD (R238). -/
def activeIntervalDiscard (b : Block) : Block := if b.activeStopped then b.discardActive.noteEdges [] else b

/-- Earlier results of channels whose interval was discarded carry STALE (R253). -/
def staleCells (gone : List Nat) (l : List ImpCell) : List ImpCell :=
  (List.range l.length).map fun i =>
    let c : ImpCell := (l[i]?).getD .none
    if gone.contains i then { c with flags := setBitTo c.flags 7 true } else c

/-- An ACTIVE interval of entry k has ended (R245, R248): its phasors wait to be published, and the sequence goes on, unless excitation has
been stopped in it (R238). One that spans the wrap of chain time is discarded (R243). -/
def Block.endActive (b : Block) (k : Nat) : Block :=
  match b.imp.active with
  | none => b
  | some a =>
    match a.todo with
    | [] => b
    | (j, _) :: rest =>
      if j ≠ k || diff64 (64 * b.now + 64) a.stop ≤ 0 then b
      else if b.activeStopped then b.discardActive.noteEdges []
      else if a.start < wrap64 && wrap64 < a.stop then
        let b := (b.addActiveSpan a.settleAt a.stop).editEntry k fun e => { e with cells := staleCells a.excited e.cells }
        ((b.staleTemps k a.excited.contains).beginSettle rest (a.stop % wrap64) a.nextOdd a.nextEven).noteEdges []
      else
        let number := gridIndex a.frequency a.periods (a.start % wrap64) % 2 ^ 32
        let iv := b.formInterval (number, a.frequency, a.periods, a.start, a.stop) (some a.excited) a.skipped a.lost
        let b := (b.addActiveSpan a.settleAt a.stop).editEntry k fun e => { e with waiting := e.waiting ++ [iv] }
        (b.beginSettle rest (a.stop % wrap64) a.nextOdd a.nextEven).noteEdges []

/-- ANALYSIS_INTERVAL_END (R241–R245): the interval of an entry that has ended by t, at the node and at the keeper. -/
def analysisIntervalEnd (k t : Nat) (b : Block) : Block :=
  let b := b.at t
  if !b.measuring then b
  else
    let b := b.endKeeper k
    if !b.e6Works || b.noCells then b
    else
      let e := (b.ownEntries[k]?).getD (0, 0)
      if e.1 = 0 then b else if e.2 = 1 then b.endAmbient k e.1 else if e.2 = 2 then b.endActive k else b

/-! ### Results (R246, R247, R251–R254) -/

/-- Σ V conj(I), Σ |I|² and Σ |V|² over the sub-intervals. -/
def crossSums : List (Int × Int) → List (Int × Int) → (Int × Int) × Nat × Nat
  | v :: vs, i :: is =>
    let r := crossSums vs is
    ((r.1.1 + v.1 * i.1 + v.2 * i.2, r.1.2 + v.2 * i.1 - v.1 * i.2),
      r.2.1 + (i.1 * i.1 + i.2 * i.2).toNat, r.2.2 + (v.1 * v.1 + v.2 * v.2).toNat)
  | _, _ => ((0, 0), 0, 0)

/-- Relative uncertainty in 0.001 % from γ² = num / den (R246), before it saturates; none of γ = 0, where it has no bound. -/
def rawUncertainty (num den : Nat) : Option Nat :=
  if num = 0 then none else some (sqrtRound (10 ^ 10 * (den - num) / (16 * num)))

/-- Relative uncertainty in 0.001 % (R246, R252), saturating. -/
def uncertaintyOf (num den : Nat) : Nat := min 65535 ((rawUncertainty num den).getD 65535)

/-- |Σ V conj(I)|² and Σ |V|² Σ |I|², whose quotient is γ² (R246). -/
def coherenceParts (v i : List (Int × Int)) : Nat × Nat :=
  let s := crossSums v i
  ((s.1.1 * s.1.1 + s.1.2 * s.1.2).toNat, s.2.1 * s.2.2)

/-- Does a cell's uncertainty saturate (R13, R252)? -/
def uncertaintyHit (v i : List (Int × Int)) : Bool :=
  let p := coherenceParts v i
  p.2 ≠ 0 && (rawUncertainty p.1 p.2).all fun u => decide (65535 < u)

/-- Re Z and Im Z in uOhm (R246): wire is W_(n−1) + W_n where R251 subtracts it. A sum of 0 under Z leaves them a free value of cell n: the spec
states none. Choices: log 6 (DESIGN CHOICE, safe). -/
def Block.impedanceOf (b : Block) (n : Nat) (v i : List (Int × Int)) (wire : Int) : Int × Int :=
  let s := crossSums v i
  let den := 65536 * s.2.1
  if den = 0 then (Config.freeValue b.free (400 + n), Config.freeValue b.free (500 + n))
  else (roundDiv (1000 * s.1.1 - wire * den) den, roundDiv (1000 * s.1.2) den)

/-- One cell's result (R246, R247, R252, R253). A sum of 0 under Z or γ² leaves them, and the phase, a free value of cell n. Choices: log 6 (DESIGN
CHOICE, safe). -/
def Block.impResult (b : Block) (n : Nat) (v i : List (Int × Int)) (wire : Int) (flags : Nat) : ImpCell :=
  let s := crossSums v i
  let den := 65536 * s.2.1
  let num := (coherenceParts v i).1
  let full := (coherenceParts v i).2
  let coh := if full = 0 then Config.freeNat b.free (300 + n) % 65536 else (2 * num * 65535 + full) / (2 * full)
  let valid := if full = 0 then b.nat Ob.impedanceConfigCoherenceMin ≤ coh
    else b.nat Ob.impedanceConfigCoherenceMin * full ≤ num * 65535
  let z := b.impedanceOf n v i wire
  let phase := if den = 0 then none else atan2Milli (1000 * s.1.2) (1000 * s.1.1 - wire * den)
  ⟨resultOf z.1, resultOf z.2, phase.getD (resultOf (Config.freeValue b.free (600 + n))), coh,
    if full = 0 then 65535 else uncertaintyOf num full, flags + (if valid then 1 else 2)⟩

/-- Reference sub-phasors of a cell (R246). -/
def referenceOf (keeper : List (Int × Int)) (bleed : List (Int × Int)) : List (Int × Int) :=
  (List.range 8).map fun s =>
    let k := (keeper[s]?).getD (0, 0)
    let c := (bleed[s]?).getD (0, 0)
    (k.1 - c.1, k.2 - c.2)

/-- The wires' share that R251 subtracts from Re Z of cell i. -/
def Block.wireOf (b : Block) (iv : Interval) (i : Nat) : Int :=
  if iv.excited.isSome && b.get Ob.tapCompensationMode ≠ 1 then b.get (Ob.tapResistance + i + 1) + b.get (Ob.tapResistance + i + 2) else 0

/-- The cells of an entry after an interval is worked, and which of them are new (R250, R253). keeper is empty of an ACTIVE interval.
Choices: log 35 (DEDUCED, unsafe). -/
def Block.workCells (b : Block) (old : List ImpCell) (iv : Interval) (keeper : List (Int × Int)) : List (ImpCell × Bool) :=
  let raw := b.get Ob.tapCompensationMode ≠ 1
  let active := iv.excited.isSome
  (List.range b.cells).map fun i =>
    let was := (old[i]?).getD .none
    match (iv.cells[i]?).getD none with
    | some p =>
      let tap := raw && (active || iv.touched.contains i)
      (b.impResult i p.volt (referenceOf keeper p.bleed) (b.wireOf iv i)
        (setBitTo p.flags 6 (bitOf p.flags 6 || b.spoiledIn iv.start iv.stop) + 4 * boolNat active + 32 * boolNat tap + 256 * boolNat iv.unaligned), true)
    | none =>
      let f := setBitTo was.flags 7 true
      let f := setBitTo f 3 (iv.lost.contains i)
      ({ was with flags := setBitTo f 4 (iv.skipped.contains i) }, false)

/-- Does a result of an interval, its uncertainty, or its K, saturate (R13, R252)? -/
def Block.impHit (b : Block) (iv : Interval) (keeper : List (Int × Int)) : Bool :=
  decide (65535 < iv.periods) || (List.range b.cells).any fun i => match (iv.cells[i]?).getD none with
    | some p =>
      let z := b.impedanceOf i p.volt (referenceOf keeper p.bleed) (b.wireOf iv i)
      resultHit z.1 || resultHit z.2 || uncertaintyHit p.volt (referenceOf keeper p.bleed)
    | none => false

/-- An integer put in its place in a rising list. -/
def insertInt (v : Int) : List Int → List Int
  | [] => [v]
  | x :: t => if v ≤ x then v :: x :: t else x :: insertInt v t

/-- Median of a list of integers (R268, R269): the mean of the two middle values of an even number. Choices: log 36 (DEDUCED, unsafe). -/
def medianOf (l : List Int) : Int :=
  let s := l.foldr insertInt []
  let n := s.length
  if n % 2 = 1 then (s[n / 2]?).getD 0
  else roundDiv ((s[n / 2 - 1]?).getD 0 + (s[n / 2]?).getD 0) 2

/-- Deviation of x from a median in 0.1 % (R269), and whether it is beyond a limit; the spec states none against a median of 0,
and the deviation is then the free value of that place. Choices: log 6 (DESIGN CHOICE, safe). -/
def Block.deviation (b : Block) (place : Nat) (x median limit : Int) : Int × Bool :=
  if median = 0 then (Config.freeValue b.free place, decide (limit < (Config.freeValue b.free place).natAbs))
  else
    let d := (x - median) * 1000 * (if median < 0 then -1 else 1)
    (roundDiv d median.natAbs, decide (limit * median.natAbs < d.natAbs))

/-- 0x09 clears when no quantity of any cell is outlying (R269). -/
def Block.judgeOutliers (b : Block) : Block := if b.imp.outliers.any (·.isLive) then b else b.clearLive 0x09

/-- Is a window at most ten windows old (R264, R265, R269)? -/
def Block.recentWindow (b : Block) (seq : Nat) : Bool :=
  decide ((b.nat Ob.windowSequence + 2 ^ 32 - seq) % 2 ^ 32 ≤ 10)

/-- An I16 of a data field, saturating (R268, R269). -/
def i16 (v : Int) : Int := clampInt (-32768) 32767 v

/-- Quantity q of channel ch has a new value x: it is compared with both populations (R269). nodeMedian is none below 8 values.
Choices: log 36 (DEDUCED, unsafe). -/
def Block.outlierCheck (b : Block) (ch q : Nat) (x : Int) (nodeMedian : Option Int) : Block :=
  let limit := b.get Ob.impedanceConfigOutlierLimit
  let chain := if q = 4 then b.imp.medianRs else (b.imp.medians[q]?).getD noValue
  let chainMedian := if chain = noValue || !b.recentWindow b.imp.medianSeq then none else some chain
  let judge := fun (pop : Nat) (o : Option Int) => match o with
    | some m => b.deviation (1000 + 16 * ch + 2 * q + pop) x m limit
    | none => ((0 : Int), false)
  let n := judge 0 nodeMedian
  let c := judge 1 chainMedian
  let d := if n.2 then n.1 else c.1
  let pop := if n.2 then 0 else 1
  let old := b.imp.outliers.find? fun o => o.ch == ch && o.quantity == q
  let others := b.imp.outliers.filter fun o => !(o.ch == ch && o.quantity == q)
  if n.2 || c.2 then
    let run := ((old.map (·.run)).getD 0) + 1
    let lives := ((old.map (·.isLive)).getD false) || decide (b.nat Ob.impedanceConfigOutlierCount ≤ run)
    let b : Block := b.withImp { b.imp with outliers := others ++ [⟨ch, q, min run 255, lives⟩] }
    if lives then
      (b.noteSat 6 (i16 d != d)).raise 0x09 (ch + 1 + 256 * q + 2048 * pop + 65536 * (i16 d % 65536).toNat)
    else b
  else ((b.withImp { b.imp with outliers := others }) : Block).judgeOutliers

/-- Outliers among the new VALID results of entry k (R247, R269). -/
def Block.outlierEntry (b : Block) (k : Nat) (l : List (ImpCell × Bool)) : Block :=
  let valid := l.filter fun c => bitOf c.1.flags 0
  let median := if 8 ≤ valid.length then some (medianOf (valid.map (·.1.re))) else none
  (List.range l.length).foldl (fun b i => match l[i]? with
    | some (c, true) => if bitOf c.flags 0 then b.outlierCheck i k c.re median else b
    | _ => b) b

/-! ### Internal temperature (R257, R258) -/

/-- Field of TempCurve's point i: phase and temperature. -/
def Block.curvePoint (b : Block) (i : Nat) : Int × Int :=
  (intOf ((b.tempCurve.drop (16 + 8 * i)).take 4), intOf ((b.tempCurve.drop (20 + 8 * i)).take 2))

/-- The curve at a phase (R258): none beyond its ends. -/
def Block.curveAt (b : Block) (phase : Int) : Option Int :=
  ((List.range 15).filterMap fun i =>
    let p := b.curvePoint i
    let q := b.curvePoint (i + 1)
    let inside := (decide (p.1 ≤ phase) && decide (phase ≤ q.1)) || (decide (q.1 ≤ phase) && decide (phase ≤ p.1))
    if inside && p.1 ≠ q.1 then
      some (p.2 + (if p.1 < q.1 then roundDiv ((q.2 - p.2) * (phase - p.1)) (q.1 - p.1).toNat
        else roundDiv ((q.2 - p.2) * (p.1 - phase)) (p.1 - q.1).toNat))
    else none).head?

/-- The estimate of cell i after a result of the curve's entry (R258). -/
def Block.estimateTemp (b : Block) (i : Nat) (c : ImpCell) (isNew : Bool) : Block :=
  let soc := b.nat (chKey Ob.cellSoc i)
  if !isNew then b.putTemp i 5 none
  else if !bitOf c.flags 0 then b.putTemp i 2 none
  else if soc = 0xFFFF || soc < field b.tempCurve 6 2 || field b.tempCurve 8 2 < soc then b.putTemp i 3 (some (-32768))
  else match b.curveAt c.phase with
    | some v => b.putTemp i 1 (some v)
    | none => b.putTemp i 4 (some (-32768))

/-- Estimates after the results of entry k. -/
def Block.estimateTemps (b : Block) (k : Nat) (l : List (ImpCell × Bool)) : Block :=
  if b.curveEntry = some k then
    (List.range l.length).foldl (fun b i => match l[i]? with
      | some (c, new) => b.estimateTemp i c new
      | none => b) b
  else b

/-- No curve, or its entry idle: NONE everywhere (R258). -/
def Block.dropTemps (b : Block) : Block :=
  let idle := match b.curveEntry with
    | none => true
    | some k => b.impStatus k == 0
  if idle then (List.range 32).foldl (fun b i => b.putTemp i 0 (some (-32768))) b else b

/-! ### Publication (R254) -/

/-- Results of entry k published in one step. -/
def Block.publishEntry (b : Block) (k : Nat) (iv : Interval) (item : Option KeeperPhasor) : Block :=
  let e := b.impEntry k
  let subs := (item.map (·.subs)).getD []
  let l := b.workCells e.cells iv subs
  let b := b.noteSat 6 (b.impHit iv subs)
  let b := b.editEntry k fun e => { e with
    frequency := iv.frequency, periods := iv.periods, stop := iv.stop, number := iv.number, cells := l.map (·.1)
    waiting := e.waiting.erase iv, items := e.items.filter fun p => some p != item
    paired := if item.isSome then item else e.paired, noReference := false }
  let b : Block := b.withFree (b.free + 1)
  let b := match item with
    | some p => (b.put (Ob.currentPhasor + 2 * k + 1) p.total.1).put (Ob.currentPhasor + 2 * k + 2) p.total.2
    | none => b
  (b.estimateTemps k l).outlierEntry k l

/-- The keeper's phasors of an AMBIENT interval, where the node holds them (R244). -/
def ImpEntry.itemFor (e : ImpEntry) (iv : Interval) : Option KeeperPhasor :=
  e.items.find? fun p => p.interval == iv.number && p.frequency == iv.frequency

/-- The first interval of an entry that can be published: an ACTIVE one, or an AMBIENT one whose phasors are held. -/
def ImpEntry.ready (e : ImpEntry) : Option Interval := e.waiting.find? fun iv => iv.excited.isSome || (e.itemFor iv).isSome

/-- IMPEDANCE_PUBLISH (R241, R244, R246, R254): an AMBIENT interval once the keeper's record of it is held, where the entry is that of the chain
analysis set, an ACTIVE one at once. -/
def impedancePublish (k : Nat) (b : Block) : Block :=
  match (b.impEntry k).ready with
  | none => b
  | some iv =>
    if !b.e6Works then b
    else if iv.excited.isSome then b.publishEntry k iv none
    else if b.instantMode || (b.ownEntries[k]?).getD (0, 0) != (b.chainSet[k]?).getD (0, 0) then b
    else b.publishEntry k iv ((b.impEntry k).itemFor iv)

/-- AMBIENT_PAIRING_TIMEOUT (R244): the oldest interval that still waits for its record. -/
def ambientPairingTimeout (k : Nat) (b : Block) : Block :=
  if !b.e6Works then b
  else match (b.impEntry k).waiting.find? fun iv => iv.excited.isNone && ((b.impEntry k).itemFor iv).isNone with
  | some iv => (b.editEntry k fun e => { e with waiting := e.waiting.erase iv, noReference := true }).discardResults k
  | none => b

/-- Impedance as a DOMAIN (R252). -/
def Block.impedanceDomain (b : Block) : List Byte :=
  bytesOf 2 1 ++ bytesOf 1 b.cells ++ bytesOf 5 0 ++
    ((List.range 4).map fun k =>
      let e := b.impEntry k
      bytesOf 4 e.frequency ++ bytesOf 1 (b.nat (Ob.excitationSource + k + 1)) ++ bytesOf 1 (b.impStatus k) ++ bytesOf 2 (min 65535 e.periods) ++
        bytesOf 8 (t64Of128 (2 * e.stop)) ++ bytesOf 4 e.number ++ bytesOf 4 0 ++
        ((List.range b.cells).map fun i =>
          let c := (e.cells[i]?).getD .none
          bytesOfInt 4 c.re ++ bytesOfInt 4 c.im ++ bytesOfInt 4 c.phase ++ bytesOf 2 c.coherence ++ bytesOf 2 c.uncertainty ++
            bytesOf 2 c.flags ++ bytesOf 2 0).flatten).flatten

/-- An entry is changed by a write of its frequency or source (R240): its interval that runs is discarded. An ACTIVE sequence goes on with what is
left of its work, unless excitation has been stopped in it (R238, R417). -/
def Block.entryChanged (b : Block) (k : Nat) : Block :=
  let b := b.discardResults k
  let b := b.editEntry k fun e => { e with
    waiting := [], items := [], changedAt := some b.now, sequence := ⟨0, 0, 0, [], none⟩, noReference := false }
  let b := match b.imp.active with
    | some a => match a.todo with
      | (j, _) :: rest =>
        if j ≠ k then b
        else if b.activeStopped then b.discardActive
        else (b.dropActive a).beginSettle rest (64 * b.now) a.nextOdd a.nextEven
      | [] => b
    | none => b
  b.dropTemps

/-! ### Series resistance (R255, R256) -/

/-- Mean in nV of channel i's blocks whose centres lie in [g + lo, g + hi); none without one. -/
def Block.blockMean (b : Block) (i g : Nat) (lo hi : Int) : Option Int :=
  let centre := fun x : E6Block => 2 * chainDiff x.start g + x.length
  let l := ((b.imp.blocks[i]?).getD []).filter fun x => decide (2 * lo ≤ centre x) && decide (centre x < 2 * hi)
  if l.isEmpty then none else some (meanOf (l.map (·.value)))

/-- ΔV_n at grid instant g, in nV, none of a cell without blocks; and whether RS skips the cell: a switch near it changed state within the spans, or
it is INVALID (R255). -/
def Block.stepOf (b : Block) (g i : Nat) : Option Int × Bool :=
  let inSpan := fun d : Int => (decide (-480000 ≤ d) && decide (d < -80000)) || (decide (80000 ≤ d) && decide (d < 480000))
  let moved := b.lanes.edges.any fun e => decide (e.ch ≤ i + 1) && decide (i ≤ e.ch + 1) && inSpan (subDiff e.time (ticksOf g))
  (match b.blockMean i g 200 1200, b.blockMean i g (-1200) (-200) with
    | some a, some c => some (a - c)
    | _, _ => none, moved || b.healthBit i 4)

/-- Median of |ΔV_n| of a candidate, in nV. -/
def candidateSize (l : List (Option Int × Bool)) : Int := medianOf ((l.filterMap (·.1)).map fun v => (v.natAbs : Int))

/-- A step seen at the node with, per cell, ΔV_n and whether RS skips the cell (R255). -/
abbrev Candidate : Type := Nat × List (Option Int × Bool)

/-- The candidates after a grid instant at which x was found (R255): one stands only while no larger lies within ±1 ms of it, kept or not; sizes
are those found at the grid instants of the last 1 ms. Of equal ones the first stands; of more than eight the oldest goes. Choices: log 36
(DEDUCED, unsafe). -/
def addCandidate (l : List Candidate) (sizes : List (Nat × Int)) (x : Candidate) : List Candidate :=
  let size := candidateSize x.2
  let left := l.filter fun y => !(nearMs x.1 y.1 && decide (candidateSize y.2 < size))
  if sizes.any fun s => nearMs x.1 s.1 && decide (size ≤ s.2) then left
  else
    let kept := left ++ [x]
    kept.drop (kept.length - 8)

/-- RS_n takes one more estimate (R256); beyond U32 uOhm it saturates (R13). -/
def Block.learnRs (b : Block) (i : Nat) (est : Int) : Block :=
  let old := b.get (chKey Ob.seriesResistance i)
  let next := if old = 0 then est else old + roundDiv (est - old) 8
  let kept := clampInt 0 (2 ^ 32 - 1) next
  (b.noteSat 6 (kept != next)).put (chKey Ob.seriesResistance i) kept

/-- A candidate that a keeper step matches gives RS of its cells (R255, R256, R269). Choices: log 36 (DEDUCED, unsafe). -/
def Block.useStep (b : Block) (c : Nat × List (Option Int × Bool)) (size : Int) : Block :=
  let found := (List.range b.cells).filterMap fun i => match c.2[i]? with
    | some (some v, false) => some (i, v)
    | _ => none
  let b := found.foldl (fun b x =>
    b.learnRs x.1 (if 0 < size then roundDiv x.2 size.toNat else roundDiv (-x.2) (-size).toNat)) b
  let rs := ((List.range b.cells).map fun i => b.get (chKey Ob.seriesResistance i)).filter (· ≠ 0)
  let median := if 8 ≤ rs.length then some (medianOf rs) else none
  (found.foldl (fun b x => b.outlierCheck x.1 4 (b.get (chKey Ob.seriesResistance x.1)) median) b).withFree (b.free + 1)

/-- Candidates whose instant a keeper step has (R255). -/
def Block.matchSteps (b : Block) : Block :=
  if !b.e6Works then b
  else b.imp.steps.foldl (fun (b : Block) (s : Nat × Int) =>
    match b.imp.candidates.find? fun c => c.1 == s.1 with
    | some c =>
      if s.2 = 0 then b
      else
        let b : Block := b.withImp { b.imp with
          candidates := b.imp.candidates.filter fun y => y.1 != c.1, steps := b.imp.steps.filter fun y => y.1 != s.1 }
        b.useStep c s.2
    | none => b) b

/-- Once per grid instant the node looks 1.6 ms back for a candidate (R255). -/
def Block.seekStep (b : Block) : Block :=
  if !b.e6Works || b.noCells then b
  else
    let g := gridBefore b.now 1600
    let l := (List.range b.cells).map fun i => b.stepOf g i
    if (l.filterMap (·.1)).isEmpty || candidateSize l < b.get Ob.impedanceConfigRsStepVoltage * 1000 then b
    else
      let near := b.imp.sizes.filter fun s => nearMs g s.1
      ((b.withImp { b.imp with
        candidates := addCandidate b.imp.candidates near (g, l), sizes := near ++ [(g, candidateSize l)] }) : Block).matchSteps

/-- What no interval can reach any more is forgotten: stretches, all that have ended while E6 does no work, else those older than its span (R246),
and the instants and spans that intervals are compared with, so that none is met again when chain time has gone round (R114). -/
def Block.trimE6 (b : Block) : Block :=
  let past := 2 * b.e6Span
  let young := fun t : Nat => decide (chainDiff b.now t ≤ past)
  let near := fun s : Nat × Nat => decide (diff64 (64 * b.now) s.2 ≤ 64 * past)
  let b : Block := b.withTb { b.tb with unalignedEnd := b.tb.unalignedEnd.filter young }
  b.withImp { b.imp with
    stretches := b.imp.stretches.filter fun s => match s.fall with
      | none => true
      | some x => b.e6Works && decide (subDiff (400 * b.now) x < 400 * b.e6Span)
    startedAt := if young b.imp.startedAt then b.imp.startedAt else (b.now + t48 - past.toNat) % t48
    activeSpans := b.imp.activeSpans.filter near, spoiled := b.imp.spoiled.filter near
    entries := b.imp.entries.map fun (e : ImpEntry) => { e with changedAt := e.changedAt.filter young } }

/-- GOVERNOR_TICK (R213–R225): with its readings the engines take the blocks that waited for them (R187), and the grid instant looks for a voltage
step (R255). -/
def execGovernorTick (t : Nat) (timing : TickTiming) (meter delays : List Nat) (s : State) : Out :=
  onBlock (fun b => (governorTick t timing meter delays b).takeMetered.trimE6.seekStep) s

/-! ### The commands of the family -/

/-- ANALYSIS_INTERVAL_END (R241–R245). -/
def execAnalysisIntervalEnd (entry : Fin 4) (t : Nat) (s : State) : Out := onBlock (analysisIntervalEnd entry.val t) s

/-- IMPEDANCE_PUBLISH (R254). -/
def execImpedancePublish (entry : Fin 4) (s : State) : Out := onBlock (impedancePublish entry.val) s

/-- AMBIENT_PAIRING_TIMEOUT (R244). -/
def execAmbientPairingTimeout (entry : Fin 4) (s : State) : Out := onBlock (ambientPairingTimeout entry.val) s

/-- ACTIVE_SEQUENCE_START (R248). -/
def execActiveSequenceStart (t : Nat) (s : State) : Out := onSwitching (activeSequenceStart t) s

/-- EXCITATION_EDGE (R249). -/
def execExcitationEdge (t : Nat) (s : State) : Out := onBlock (excitationEdge t) s

/-- ACTIVE_INTERVAL_DISCARD (R238). -/
def execActiveIntervalDiscard (s : State) : Out := onBlock activeIntervalDiscard s

end Sys2Proof.Machine
end

