-- ==== Sys2Proof/Machine/CellState.lean ====
section
/-! DEFINITION. State of charge, rest, self-discharge and autonomous balancing (R259–R268). A state of charge and its uncertainty are
held in 10^-6 of 0.01 %, charges in uC. -/

namespace Sys2Proof.Machine

/-- Units of the internal state of charge in 0.01 %. -/
abbrev socUnit : Int := 10 ^ 6

/-- Capacity of SocTable in C; 0 without a table (R259). -/
def Block.capacity (b : Block) : Nat := if b.socTable.isEmpty then 0 else field b.socTable 4 4

/-- Cell i's state of charge. -/
def Block.socCell (b : Block) (i : Nat) : SocCell := (b.imp.soc[i]?).getD .unknown

/-- Cell i rewritten. -/
def Block.editSoc (b : Block) (i : Nat) (f : SocCell → SocCell) : Block :=
  b.withImp { b.imp with soc := editAt b.imp.soc i f }

/-- CellSoc and SocUncertainty of cell i (R263); each saturates in its field (R13). -/
def Block.publishSoc (b : Block) (i : Nat) : Block :=
  let c := b.socCell i
  if c.known then
    let soc := roundDiv c.soc 1000000
    let u := (c.u + 500000) / 1000000
    let b := b.noteSat 6 (decide (soc < 0) || decide (10000 < soc) || decide (65535 < u))
    (b.put (chKey Ob.cellSoc i) (clampInt 0 10000 soc)).put (chKey Ob.socUncertainty i) (min 65535 u : Nat)
  else (b.put (chKey Ob.cellSoc i) 0xFFFF).put (chKey Ob.socUncertainty i) 0xFFFF

/-- BalanceRemoved of channel i in uC. -/
def Block.removedUc (b : Block) (i : Nat) : Int := b.get (chKey Ob.balanceRemoved i)

/-- The uncertainty of cell i grows (R260, R262); its field saturates (R13). -/
def Block.growU (b : Block) (i d : Nat) : Block :=
  let u := (b.socCell i).u + d
  (b.noteSat 6 (decide (2 ^ 48 < u))).editSoc i fun c => { c with u := min u (2 ^ 48) }

/-- Every cell's state of charge discarded (R259). -/
def Block.dropSoc (b : Block) : Block :=
  let b : Block := b.withImp { b.imp with soc := b.imp.soc.map fun c => { c with known := false, soc := 0, u := 0 } }
  (List.range 32).foldl (fun b i => b.publishSoc i) b

/-! ### The table (R259, R261) -/

/-- Point i of SocTable: OCV in uV and SOC in 0.01 %. -/
def Block.socPoint (b : Block) (i : Nat) : Int × Int :=
  (intOf ((b.socTable.drop (16 + 6 * i)).take 4), (field b.socTable (20 + 6 * i) 2 : Int))

/-- Segment of the table that holds a voltage; the first or last beyond its ends. -/
def Block.socSegment (b : Block) (v : Int) : Nat :=
  ((List.range 62).filter fun i => decide ((b.socPoint (i + 1)).1 ≤ v)).length

/-- SOC_ocv of a voltage (R261). -/
def Block.socOcv (b : Block) (v : Int) : Int :=
  let i := b.socSegment v
  let p := b.socPoint i
  let q := b.socPoint (i + 1)
  clampInt 0 (10000 * socUnit) (p.2 * socUnit + roundDiv ((q.2 - p.2) * socUnit * (v - p.1)) (q.1 - p.1).toNat)

/-- VoltageUncertainty over the slope of segment i. -/
def Block.slopeU (b : Block) (i : Nat) : Nat :=
  let p := b.socPoint i
  let q := b.socPoint (i + 1)
  (roundDiv (b.get Ob.socConfigVoltageUncertainty * (q.2 - p.2) * socUnit) (q.1 - p.1).toNat).toNat

/-- u_ocv at a voltage (R261): by the smaller slope of the segment that holds it and the next; at the last segment, the one before. -/
def Block.uOcv (b : Block) (v : Int) : Nat :=
  let i := b.socSegment v
  max (b.slopeU i) (b.slopeU (if i < 62 then i + 1 else i - 1))

/-! ### Coulomb counting (R260) -/

/-- What time and charge add to u (R260): the pack's gain, the bleed's gain and the current offset, over a charge in uC. -/
def Block.uGrowth (b : Block) (pack bleed : Int) (us : Nat) : Nat :=
  let cap := b.capacity
  if cap = 0 then 0
  else
    (roundDiv (b.nat Ob.socConfigGainUncertainty * pack.natAbs + 200 * bleed.natAbs) cap).toNat +
      (if b.nat Ob.shuntValue = 0 then 0 else 1000 * us * 10 ^ 4 / (b.nat Ob.shuntValue * cap))

/-- Cell i advances over a pack charge and its own bleed since its last update (R260): timed says that chain time has run since then, gap is the
time in us that no record covers. -/
def Block.advanceSoc (b : Block) (i : Nat) (pack : Int) (gap : Nat) (timed : Bool) : Block :=
  let c := b.socCell i
  let us := if timed then (max 0 (chainDiff b.now c.seen)).toNat else 0
  let cap := b.capacity
  let bleed := b.removedUc i - c.removed
  let b := b.editSoc i fun c => { c with charge := b.get Ob.chargeCounter, removed := b.removedUc i, seen := b.now }
  if !c.known || cap = 0 then b
  else
    let lost := (b.get Ob.currentMean).natAbs * gap / 1000
    let d := b.uGrowth pack bleed us + 10 ^ 4 * lost / cap
    ((b.editSoc i fun c => { c with soc := c.soc + roundDiv ((pack - bleed) * 10 ^ 4) cap }).growU i d).publishSoc i

/-- Every cell advances at a keeper record (R260): delta is what ChargeCounter moved by, changed whether epoch or position did, and us the time
since the last record, the gap then. -/
def Block.countCharge (b : Block) (delta : Int) (changed : Bool) (us : Nat) : Block :=
  let b : Block := b.withImp { b.imp with packTotal := b.imp.packTotal + delta }
  let b : Block := if changed then
      b.withImp { b.imp with soc := b.imp.soc.map fun c => { c with point := none } } else b
  if !b.e6Works || b.noCells then b
  else (List.range b.cells).foldl (fun b i =>
    b.advanceSoc i (b.get Ob.chargeCounter - (b.socCell i).charge) (if changed then us else 0) true) b

/-- A preset of ChargeCounter is no charge: the anchors move with it (R185, R260). Choices: log 41 (DEDUCED, unsafe). -/
def Block.shiftAnchors (b : Block) (d : Int) : Block :=
  b.withImp { b.imp with soc := b.imp.soc.map fun c => { c with charge := c.charge + d } }

/-! ### Rest and self-discharge (R261, R262, R267, R268) -/

/-- S and u of two estimates joined (R261). -/
def fuse (scc socv : Int) (ucc uocv : Nat) : Int × Nat :=
  let a := ucc * ucc
  let o := uocv * uocv
  if a + o = 0 then (scc, 0)
  else (roundDiv (scc * o + socv * a) (a + o), sqrtRound (a * o / (a + o)))

/-- A rest point of cell i (R267): an estimate of its self-discharge when it lies far enough from the stored one. -/
def Block.restPoint (b : Block) (i : Nat) (socv : Int) : Block :=
  let c := b.socCell i
  let here : RestPoint := ⟨b.now, socv, b.imp.packTotal, b.removedUc i⟩
  match c.point with
  | none => b.editSoc i fun c => { c with point := some here }
  | some p =>
    let dt := chainDiff here.time p.time
    if dt < b.get Ob.selfDischargeConfigMinSpan * 1000000 then b
    else
      let uc := (here.charge - p.charge) - (here.removed - p.removed) - roundDiv (b.capacity * (here.soc - p.soc)) 10000
      let rate := roundDiv (uc * 1000000) dt.toNat
      ((b.noteSat 6 (resultHit rate)).put (chKey Ob.selfDischargeRate i) (resultOf rate)).editSoc i fun c => { c with
        point := some here, latest := some (p.time, here.time) }

/-- Excess of cell i over the median of its rest pair (R268), and 0x08 on two consecutive estimates beyond ExcessLimit. -/
def Block.excessOf (b : Block) (i : Nat) (excess : Int) : Block :=
  let b := (b.noteSat 6 (resultHit excess)).put (chKey Ob.selfDischargeExcess i) (resultOf excess)
  let beyond := decide (b.get Ob.selfDischargeConfigExcessLimit * 1000 < excess)
  let run := if beyond then min 2 ((b.socCell i).excessRun + 1) else 0
  let b := b.editSoc i fun c => { c with excessRun := run }
  if 2 ≤ run then
    let mA := roundDiv excess 1000
    (b.noteSat 6 (i16 mA != mA)).raise 0x08 (i + 1 + 65536 * (i16 mA % 65536).toNat)
  else if b.imp.soc.any fun c => decide (2 ≤ c.excessRun) then b
  else b.clearLive 0x08

/-- Excesses of the cells that have just formed an estimate (R268): those of one pair of rest instants, when at least 8 share it. -/
def Block.excesses (b : Block) (fresh : List Nat) : Block :=
  fresh.foldl (fun b i =>
    let pair := (b.socCell i).latest
    let group := (List.range b.cells).filter fun j => (b.socCell j).latest == pair
    if pair.isNone || group.length < 8 then b
    else
      let m := medianOf (group.map fun j => b.get (chKey Ob.selfDischargeRate j))
      b.excessOf i (b.get (chKey Ob.selfDischargeRate i) - m)) b

/-- Rest of cell i over a window (R261): its timer, its fusion once per episode, which is a rest point (R267), or its first state of charge (R262),
which is none. mean is none without a window value. Answers whether an estimate of its self-discharge was formed. -/
def Block.restCell (b : Block) (i us : Nat) (quiet : Bool) (mean : Option Int) : Block × Bool :=
  let was := b.socCell i
  let rest := if quiet then was.rest + us else 0
  let atRest := quiet && decide (b.nat Ob.socConfigRestTime * 1000000 ≤ rest)
  let b := b.editSoc i fun c => { c with rest := rest, fused := quiet && c.fused }
  match mean with
  | none => (b, false)
  | some v =>
    if b.capacity = 0 then (b, false)
    else
      let socv := b.socOcv v
      if !was.known then
        let b := b.editSoc i fun c => { c with
          known := true, soc := socv, u := if atRest then b.uOcv v else 2500 * 10 ^ 6, fused := atRest
          charge := b.get Ob.chargeCounter, removed := b.removedUc i, seen := b.now }
        (b.publishSoc i, false)
      else if atRest && !(b.socCell i).fused then
        let f := fuse was.soc socv was.u (b.uOcv v)
        let b := (b.editSoc i fun c => { c with soc := f.1, u := f.2, fused := true }).restPoint i socv
        (b.publishSoc i, (b.socCell i).latest != was.latest)
      else (b, false)

/-- Did channel i's rest hold over the window just judged (R261): the pack current small by a record in time, and switch i idle? -/
def Block.calmCell (b : Block) (i : Nat) : Bool :=
  b.get Ob.keeperStatusStatus = 1 && decide ((b.get Ob.currentMean).natAbs ≤ b.get Ob.socConfigRestCurrent) && !b.imp.conducted.contains i

/-- A window that E6 does not work in can end a rest; it counts toward none (R237, R261). Choices: log 24 (DEDUCED, unsafe). -/
def Block.restInterrupted (b : Block) : Block :=
  let soc := (List.range 32).map fun i => if b.calmCell i then b.socCell i else { b.socCell i with rest := 0, fused := false }
  b.withImp { b.imp with soc := soc }

/-- Rest is judged once per window, when the window has closed and been published, or found too thin to be, and its keeper record is held
(R261). -/
def Block.restStep (b : Block) : Block :=
  let p := b.win.published
  let w := b.win.latest
  if !b.measuring || !b.fuses.variantX || b.noCells || b.nat Ob.keeperStatusSequence ≠ w.1 || b.imp.shown = w.1 + 1 then b
  else
    let b : Block := b.withImp { b.imp with shown := w.1 + 1 }
    if !b.e6Works then b.restInterrupted
    else
      let r := (List.range b.cells).foldl (fun (x : Block × List Nat) i =>
        let mean := match p.cells[i]? with
          | some c => if c.1 = noValue || p.seq ≠ w.1 then none else some c.1
          | none => none
        let y := x.1.restCell i (w.2 / 1000) (b.calmCell i) mean
        (y.1, if y.2 then x.2 ++ [i] else x.2)) (b, [])
      r.1.excesses r.2

/-- Rest has ended, and with no record first states of charge are still taken (R261, R262): a window whose record is missing.
Choices: log 24 (DEDUCED, unsafe). -/
def Block.restBroken (b : Block) : Block :=
  b.withImp { b.imp with soc := b.imp.soc.map fun c => { c with rest := 0, fused := false } }

/-- A record that comes while no lane runs (R261): a pack current above RestCurrent ends every rest. Choices: log 24 (DEDUCED, unsafe). -/
def Block.restOutside (b : Block) : Block :=
  if b.measuring || (b.get Ob.currentMean).natAbs ≤ b.get Ob.socConfigRestCurrent then b else b.restBroken

/-- A first state of charge from a published window in Full while no keeper is configured (R262). -/
def Block.firstSoc (b : Block) : Block :=
  if !b.e6Works || b.noCells || b.get Ob.keeperStatusStatus = 1 then b
  else (List.range b.cells).foldl (fun b i =>
    if (b.socCell i).known then b
    else match b.win.published.cells[i]? with
      | some c => if c.1 = noValue then b else (b.restCell i 0 false (some c.1)).1
      | none => b) b

/-! ### E6 starts and stops (R237, R262, R263) -/

/-- u grows by DriftRate over a time in s (R262). -/
def Block.drift (b : Block) (seconds : Nat) : Block :=
  let d := b.nat Ob.socConfigDriftRate * 10 ^ 5 * seconds / 3600
  if d = 0 then b
  else (List.range b.cells).foldl (fun b i =>
    if (b.socCell i).known then (b.growU i d).publishSoc i else b) b

/-- E6 starts, or restarts (R263): the bleed since, the pack charge where nothing broke it, and the drift. -/
def Block.impStart (b : Block) : Block :=
  if !b.fuses.variantX then b
  else
    let idle := b.imp.stoppedFor + (max 0 (chainDiff b.now b.imp.stoppedAt)).toNat / 1000000
    let same := b.imp.continuous && b.imp.lastEpoch == some (b.keeper.lastEpoch, b.keeper.lastPosition)
    let b : Block := b.withImp { b.imp with
      working := true, startedAt := b.now, stoppedFor := 0, blocks := List.replicate 32 [], candidates := [], sizes := []
      stretches := b.imp.stretches.filter fun s => s.fall.isNone
      activeSpans := [], spoiled := [], continuous := true }
    let b := (List.range b.cells).foldl (fun b i =>
      let d := if same then b.get Ob.chargeCounter - (b.socCell i).charge else 0
      b.advanceSoc i d 0 same) b
    b.drift idle

/-- Results of an entry as E6 stops: they carry STALE (R237, R253). -/
def ImpEntry.stopped (e : ImpEntry) : ImpEntry :=
  { e with waiting := [], items := [], cells := e.cells.map fun c => { c with flags := setBitTo c.flags 7 true } }

/-- E6 stops (R237, R258): an ACTIVE interval is discarded, results and estimates carry STALE. -/
def Block.impStop (b : Block) : Block :=
  if !b.fuses.variantX || !b.imp.working then b
  else
    let b := b.discardActive
    let b : Block := b.withImp { b.imp with
      working := false, stoppedAt := b.now, entries := b.imp.entries.map ImpEntry.stopped
      lastEpoch := some (b.keeper.lastEpoch, b.keeper.lastPosition) }
    (List.range b.cells).foldl (fun b i =>
      if b.get (chKey Ob.tempEstimateStatus i) = 0 then b else b.putTemp i 5 none) b

/-- E6 follows what makes it work or not (R237): Full, thermal level 3, its engine. -/
def Block.followE6 (b : Block) : Block :=
  if b.e6Works && !b.imp.working then b.impStart else if !b.e6Works && b.imp.working then b.impStop else b

/-! ### The chain minimum and AutoBalance (R264–R266) -/

/-- AutoBalance State (R265, R266): 0 OFF, 1 RUNNING, 2 PAUSED_NO_MINIMUM, 3 PAUSED_STATE. -/
def Block.autoState (b : Block) : Nat :=
  if !b.on Ob.autoBalanceEnable then 0
  else if !b.inFull then 3
  else if b.get Ob.chainSocMinimumValue = 0xFFFF || !b.recentWindow (b.nat Ob.chainSocMinimumSequence) then 2
  else 1

/-- Is channel i managed (R265)? -/
def Block.managed (b : Block) (i : Nat) : Bool :=
  !b.bit Ob.autoBalanceManualMask i && decide (i < b.cells) && !(b.chan i).disabled

/-- The target that AutoBalance writes for channel i, if any (R265). R_n is excess / 10^4 C. -/
def Block.autoTarget (b : Block) (i : Nat) : Option Int :=
  let excess : Int := b.capacity * (b.get (chKey Ob.cellSoc i) - b.get Ob.chainSocMinimumValue - b.get Ob.autoBalanceDeadband)
  let up := fun (a : Int) (d : Int) => -((-a) / d)
  if (b.chan i).openSession then
    if excess ≤ 0 then some 0
    else
      let q := (b.chan i).qmeas / 100
      some (min 1000000 (min (up (q + excess * 100) 1000) (q / 1000 + 1000000)))
  else if b.get Ob.autoBalanceMinSession * 10 ≤ excess then some (min (up excess 10) 1000000)
  else none

/-- AUTOBALANCE_PERIOD (R265). -/
def autobalancePeriod (t : Nat) (b : Block) : Block :=
  let b := b.at t
  if b.autoState ≠ 1 || !b.e6Works || b.noCells || b.capacity = 0 ||
      b.now % (b.nat Ob.autoBalancePeriod * 1000000) ≠ 0 then b
  else (List.range b.cells).foldl (fun b i =>
    if !b.managed i || b.get Ob.autoBalanceMaxUncertainty < b.get (chKey Ob.socUncertainty i) then b
    else match b.autoTarget i with
      | some mC => b.targetWritten i mC
      | none => b) b

/-- AUTOBALANCE_PERIOD (R265). -/
def execAutobalancePeriod (t : Nat) (s : State) : Out := onSwitching (autobalancePeriod t) s

end Sys2Proof.Machine
end

