-- ==== Sys2Proof/Machine/Record.lean ====
section
/-! DEFINITION. The keeper record at a node (R167–R170, R185, R243, R244, R255, R260, R328, R330), the chain aggregate (R264, R269), and the
window commands that a record or the cell state follows. -/

namespace Sys2Proof.Machine

/-! ### The base frame (R328) -/

/-- Signed field of a payload. -/
def signedField (l : List Byte) (at' n : Nat) : Int := intOf ((l.drop at').take n)

/-- The current objects follow a record (R13, R185, R203): answers what ChargeCounter moved by and whether epoch or position changed. With no
earlier total held, as after a core reset of the node's own, ChargeCounter advances by Q. Choices: log 60 (DEDUCED, unsafe). -/
def Block.takeCurrent (b : Block) (p : List Byte) : Block × Int × Bool :=
  let epoch := field p 1 1
  let q := signedField p 8 8
  let total := signedField p 20 8
  let pos := b.nat Ob.currentKeeper
  let k := b.keeper
  let same := k.lastTotal.isSome && k.lastEpoch == epoch && k.lastPosition == pos
  let delta := if same then total - k.lastTotal.getD 0 else q
  let b : Block := b.withKeeper { k with lastTotal := some total, lastEpoch := epoch, lastPosition := pos }
  let sum := b.get Ob.chargeCounter + delta
  let kept := clampInt (-(2 ^ 63)) (2 ^ 63 - 1) sum
  let b := (b.noteSat 4 (kept != sum)).putAll [(Ob.currentMean, signedField p 16 4), (Ob.chargeIncrement, q), (Ob.chargeCounter, kept),
    (Ob.keeperStatusSequence, field p 4 4), (Ob.keeperStatusStatus, 1), (Ob.keeperStatusEpoch, epoch)]
  let b := if b.isKeeper then b else (b.put Ob.mainsFrequency (field p 28 4)).put Ob.mainsTrackerState (field p 2 1)
  (b, delta, k.lastTotal.isSome && !same)

/-- The open window takes the boundary a record states (R167–R170), and is quiet or not by its number (R188): serves says that the keeper's tracker
is LOCKED or in HOLDOVER. -/
def Window.rule (w : Window) (stop seq : Nat) (changes serves quiet : Bool) : Window :=
  let flags := setBitTo (setBitTo w.flags 3 (!serves)) 6 quiet
  { w with stop := w.start + (diff64 stop w.start).toNat, seq := seq, flags := if changes then setBitTo flags 5 true else flags }

/-- The window schedule follows a record (R86, R167–R170). With no window open, the record says where the next may open. One that comes after the
1 ms of R169 rules the open window too, which keeps BOUNDARY_ESTIMATED. The keeper's boundaries are taken up by a window that began at a nominal
boundary only: at the end of a FIXED one the keeper itself is on the nominal schedule still (R170). Choices: log 60 (DEDUCED, unsafe). -/
def Block.takeSchedule (b : Block) (p : List Byte) : Block :=
  let serves := field p 2 1 == 2 || field p 2 1 == 3
  let next := field p 32 8
  let seq := field p 40 4
  let b : Block := b.withWin { b.win with lastRecord := some b.now }
  match b.win.opened with
  | none => b.withWin { b.win with announced := if serves && !b.isKeeper then some (next % wrap64, (seq + 1) % 2 ^ 32) else none }
  | some w =>
    let b : Block := b.withWin { b.win with held := true }
    if b.isKeeper || !b.win.mains || !b.measuring || diff64 next (64 * b.now) ≤ 0 || diff64 next w.start ≤ 0 then b
    else if (serves && b.win.mainsStart) || b.win.keeperSchedule then
      let changes := serves != b.win.keeperSchedule
      b.withWin { b.win with opened := some (w.rule next seq changes serves (b.isQuiet seq)), keeperSchedule := serves }
    else b

/-- Harmonic announcements of a record reach the sequences of the node's entries and of the keeper's work (R243). -/
def Block.takeHarmonics (b : Block) (p : List Byte) : Block :=
  let next := field p 32 8
  (List.range 4).foldl (fun b k =>
    let f := field p (44 + 4 * k) 4
    let set := (b.chainSet[k]?).getD (0, 0)
    let harmonic := set.2 = 1 && 1 ≤ set.1 && set.1 ≤ 30
    if !harmonic then b
    else
      let b := if (b.ownEntries[k]?).getD (0, 0) = set then
          b.editEntry k fun e => { e with
            sequence := e.sequence.hear f next (b.ambientPeriods f (b.nat Ob.impedanceConfigIntegrationTime)) } else b
      if b.isKeeper then
        b.withKeeper { b.keeper with
          sequences := editAt b.keeper.sequences k fun s => s.hear f next (b.ambientPeriods f b.imp.chainTime) }
      else b) b

/-- Current steps of a record (R255): the latest eight are kept for the candidates. -/
def Block.takeSteps (b : Block) (p : List Byte) : Block :=
  let l := (List.range (min 4 (field p 3 1))).map fun i => (field p (64 + 12 * i) 6, signedField p (72 + 12 * i) 4)
  let all := b.imp.steps ++ l
  ((b.withImp { b.imp with steps := all.drop (all.length - 8) }) : Block).matchSteps

/-- A base frame in one step (R185). -/
def Block.takeBase (b : Block) (p : List Byte) : Block :=
  let us := match b.win.lastRecord with
    | some r => (max 0 (chainDiff b.now r)).toNat
    | none => 0
  let r := b.takeCurrent p
  let b := (r.1.takeSchedule p).takeHarmonics p
  ((b.takeSteps p).countCharge r.2.1 r.2.2 us).restOutside.restStep

/-- A phasor frame is held for its entry's interval (R244). -/
def Block.takePhasor (b : Block) (p : List Byte) : Block :=
  let k := field p 1 1
  if k = 0 || 4 < k then b
  else
    let two := fun at' => (signedField p at' 4, signedField p (at' + 4) 4)
    let item : KeeperPhasor := ⟨k, field p 8 4, field p 12 4, 0, two 16, (List.range 8).map fun s => two (24 + 8 * s)⟩
    b.editEntry (k - 1) fun e => { e with items := (e.items ++ [item]).drop (e.items.length - 3) }

/-- A KEEPER frame's payload reaches the node (R185, R328). A node that is told of no keeper takes none. -/
def Block.takeRecord (b : Block) (p : List Byte) : Block :=
  if !b.awake || 63 < b.get Ob.currentKeeper || p.length ≠ 112 then b
  else if field p 0 1 = 1 then b.takeBase p
  else if field p 0 1 = 2 then b.takePhasor p
  else b

/-- The keeper holds its own record as it forms it; a head that is the keeper forwards it too (R328, R330). -/
def Block.withOwnRecord (b : Block) (f : Block → Block) : Block :=
  let had := b.keeper.outgoing.length
  let b := f b
  let fresh := b.keeper.outgoing.drop had
  let b := fresh.foldl (fun b p => b.takeRecord p) b
  if b.isHead then
    fresh.foldl (fun b p => b.forwardKeeper (headerOf 1 0 6 0 0) p) (b.withKeeper { b.keeper with outgoing := b.keeper.outgoing.take had })
  else b

/-- KEEPER_RECORD (R185, R330): the head's forward of a KEEPER frame. The keeper already holds what it sent. Choices: log 30 (DEDUCED, unsafe). -/
def keeperRecord (p : List Byte) (t : Nat) (b : Block) : Block :=
  let b := b.at t
  if b.isKeeper || !b.positioned then b else b.takeRecord p

/-! ### Window commands (R169, R175–R177) -/

/-- Channels whose switch has conducted in the window that is being published, or found too thin to be (R261). -/
def Block.noteConducted (b : Block) : Block :=
  let b : Block := b.withImp { b.imp with conducted := (List.range b.cells).filter fun i => (b.chan i).on || (b.chan i).worked }
  b.withGov { b.gov with ch := b.gov.ch.map fun c => { c with worked := c.on } }

/-- A window is published, and what follows a window follows (R177, R255–R262). -/
def Block.publishAll (b : Block) : Block :=
  if b.win.closing.isSome then ((b.noteConducted.withOwnRecord Block.publishWindow).firstSoc).restStep else b

/-- WINDOW_PUBLISH (R175–R177): the block that straddles the boundary is in. -/
def windowPublish (t : Nat) (b : Block) : Block :=
  let b := b.at t
  if b.measuring then b.publishAll else b

/-- An INCOMPLETE window is remembered for the intervals it touches (R253). -/
def Block.noteSpoiled (b : Block) : Block :=
  match b.win.closing with
  | some w =>
    if bitOf w.flags 0 then b.spoil w.start w.stop else b
  | none => b

/-- A window still unpublished at the next boundary is published first, in full. -/
def Block.publishLate (b : Block) (t : Nat) : Block :=
  match b.win.opened with
  | some w => if b.measuring && w.over (64 * (t % t48)) then b.publishAll else b
  | none => b

/-- WINDOW_BOUNDARY at the block: the keeper's own record of a window that had not been published goes out with it. -/
def Block.passBoundary (b : Block) (t : Nat) : Block :=
  ((b.at t).publishLate t).withOwnRecord (fun b => (windowBoundary t b).noteSpoiled)

/-- WINDOW_PUBLISH (R177). -/
def execWindowPublish (t : Nat) (s : State) : Out := onBlock (windowPublish t) s

/-- KEEPER_RECORD_MISSING (R169, R185); rest needs every record (R261). -/
def execKeeperRecordMissing (t : Nat) (s : State) : Out :=
  onBlock (fun b => if b.measuring && !b.win.held then (keeperRecordMissing t b).restBroken else keeperRecordMissing t b) s

/-- KEEPER_RECORD (R185). -/
def execKeeperRecord (payload : List Byte) (t : Nat) (s : State) : Out := onBlock (keeperRecord payload t) s

/-- THROTTLE_EVALUATION (R415): at level 3, and on leaving it, E6 follows (R237). -/
def execThrottleEvaluation (t : Nat) (s : State) : Out := onSwitching (fun b => (throttleEvaluation t b).followE6) s

/-- PRE_SHUTDOWN (R416, R419). -/
def execPreShutdown (s : State) : Out := onBlockReading (fun m b => ((preShutdown m b).reactSafe.followE6).noteEdges []) s

/-! ### The chain aggregate (R264, R269, R331) -/

/-- What CHAIN_AGGREGATE says, held by a node or by the head itself: its minimum and its medians. -/
def Block.holdAggregate (b : Block) (p : List Byte) : Block :=
  let flags := field p 1 1
  let b := if bitOf flags 0 then
      b.putAll [(Ob.chainSocMinimumValue, field p 8 2), (Ob.chainSocMinimumPosition, field p 2 1),
        (Ob.chainSocMinimumSequence, field p 4 4)]
    else b
  if bitOf flags 1 then
    b.withImp { b.imp with
      medians := (List.range 4).map fun k => signedField p (12 + 4 * k) 4
      medianRs := signedField p 28 4, medianSeq := field p 32 4 }
  else b

/-- CHAIN_AGGREGATE (R264, R331). -/
def chainAggregate (p : List Byte) (b : Block) : Block :=
  if b.awake && b.positioned && !b.isHead && p.length = 36 then b.holdAggregate p else b

/-- CHAIN_AGGREGATE (R331). -/
def execChainAggregate (payload : List Byte) (s : State) : Out := onBlock (chainAggregate payload) s

end Sys2Proof.Machine
end

