-- ==== Sys2Proof/Machine/Faults.lean ====
section
/-! DEFINITION. Fault classes and reactions (R376–R411, R473): registration, the capture FIFO's way to the journal, leaving safe state,
acknowledgement, engines, memories, the configuration signature, FLT_N, and the open-wire test. -/

namespace Sys2Proof.Machine

/-! ### Registration and the capture FIFO (R381, R393) -/

/-- FAULT_REGISTRATION (R381): the sources detected since the last cycle register. Choices: log 26 (DEDUCED, unsafe). -/
def faultRegistration (b : Block) : Block := if b.awake then b.faultCycle.reactSafe else b

/-- CAPTURE_FIFO_DRAIN (R393). Choices: log 27 (DEDUCED, unsafe). -/
def captureFifoDrain (t : Nat) (b : Block) : Block :=
  let b := b.at t
  if b.awake && b.engineRuns 7 then b.drainOne else b

/-! ### FLT_N at a head (R349) and leaving safe state (R389) -/

/-- A head's FLT_N falls when its SafeHold rises or an ALARM arrives, and is released only when its own SafeHold is NONE and a STATUS train
after the last ALARM reports every position NONE (R349). -/
def Block.judgeHeadFlt (b : Block) : Block :=
  if b.isHead && b.flint.fltLow && decide (b.safeHold = 0) && b.link.clear then
    (b.setFlt false).queueAlarm 3 0xFF 0 0
  else b

/-- FLT_N after SafeHold has fallen to NONE (R387, R349). -/
def Block.releaseFlt (b : Block) : Block := if b.isHead then b.judgeHeadFlt else b.setFlt false

/-- Is a source of effective class c or above live or latched (R389)? -/
def Block.classStands (b : Block) (c : Nat) : Bool := b.flint.regs.any fun r => decide (c ≤ r.eff)

/-- SafeHold falls (R389, R428). -/
def Block.lowerHold (b : Block) (next : Nat) : Block :=
  let old := b.safeHold
  let b := (b.put Ob.powerStateSafeHold next).event 0xE4 (old + 256 * next)
  if next = 0 then b.releaseFlt else b

/-- SAFE_STATE_EXIT (R389): a cycle that registers nothing of class SAFE or above, SafeHold SAFE and no cause left. -/
def safeStateExit (t : Nat) (b : Block) : Block :=
  let b := b.at t
  if b.awake && b.safeHold = 3 && b.cycleWorst < 3 && !b.classStands 3 then b.lowerHold 0 else b

/-! ### Acknowledgement (R391, R392) -/

/-- A source is acknowledged: its latched bit clears when it is not live. Choices: log 28 (DEDUCED, unsafe). -/
def Block.ackSource (b : Block) (s : Nat) : Block :=
  let b : Block := b.withFlint { b.flint with
    regs := b.flint.regs.map fun r => if r.source == s then { r with acked := true } else r }
  if b.latched s && !b.live s then b.dropLatch s else b

/-- An accepted write of Acknowledge (R392, R428, R430). -/
def Block.acknowledge (b : Block) (v : Nat) : Block :=
  let all := v / 256 == 1
  let which := fun s : Nat => all || s == v % 256
  let b := ((List.range 256).filter fun s => which s && b.latched s).foldl (fun b s => b.ackSource s) b
  let b := b.withJournal (b.journal.acknowledge which)
  (b.event 0xE3 v).followReasons

/-! ### Engines (R402, R403, R68) -/

/-- 0xA3 clears when every engine runs and is tested (R377): E5 and E7 once a self-test has passed since their restart (R403). -/
def Block.judgeEngines (b : Block) : Block :=
  if b.diag.halted.isEmpty && b.diag.stopped.isEmpty && b.diag.failed.isEmpty && b.diag.untested.isEmpty then b.clearLive 0xA3 else b

/-- ENGINE_WATCHDOG_EXPIRY (R402, R379): a second expiry within 60 s leaves the engine stopped, or, of E7, carries LOCK.
Choices: log 51 (DEDUCED, safe). -/
def engineWatchdogExpiry (k t : Nat) (b : Block) : Block :=
  let b := b.at t
  if !b.awake || !b.engineRuns k then b
  else
    let again := match (b.diag.expired[k]?).getD none with
      | some l => decide (chainDiff b.now l ≤ 60000000)
      | none => false
    let stays := again && k ≠ 7
    let d := b.diag
    let b : Block := b.withDiag { d with
      halted := d.halted ++ [k], expired := d.expired.set k (some b.now)
      stopped := if stays then d.stopped ++ [k] else d.stopped }
    let b := if k ≤ 4 && b.measuring then b.flagWindow 0 else b
    let b := if stays then b.reason .engineStopped true else b
    let b := if again && k = 7 then b.raiseExactly 0xA3 7 5 else b.raise 0xA3 (k + 512 * boolNat stays)
    b.followE6

/-- ENGINE_RESTART (R402): E7 keeps the dictionary only when the signature check passes, else it loads the P objects again,
reading both banks (R438, R441). -/
def engineRestart (k : Nat) (dictionaryOk : Bool) (m : List Host.Cell) (b : Block) : Block :=
  if !b.awake || !b.diag.halted.contains k || b.diag.stopped.contains k then b
  else
    let b : Block := b.withDiag { b.diag with
      halted := b.diag.halted.filter (· != k)
      untested := if k = 5 || k = 7 then b.diag.untested.filter (· != k) ++ [k] else b.diag.untested }
    let b := if k = 7 && (!dictionaryOk || !b.nvm.corrupted.isEmpty) then
        let c := ((b.restoreDefaults false).correctAgain (dictBase false) (2 * dictBankSize)).loadDictionary m
        (((c.withNvm { c.nvm with corrupted := [] }) : Block).keeperMoved b.isKeeper).followRing.judgeDiag
      else b
    let b := if k ≤ 3 then b.drainFifos k else if k = 4 then b.drainE4 else b
    b.followE6.judgeEngines

/-- ENGINE_SELF_TEST (R403): of E5 and E7. Choices: log 51 (DEDUCED, safe). -/
def engineSelfTest (k : Nat) (passed : Bool) (b : Block) : Block :=
  if !b.awake || !(k == 5 || k == 7) || !b.engineRuns k then b
  else
    let others := b.diag.failed.filter (· != k)
    let b : Block := b.withDiag { b.diag with
      failed := if passed then others else others ++ [k], untested := b.diag.untested.filter (· != k) }
    if passed then b.judgeEngines else b.raise 0xA3 (k + 256)

/-- ENGINE_LOAD_MEASUREMENT (R68): busy time of E0–E7 in percent. -/
def engineLoadMeasurement (percent : List Nat) (b : Block) : Block :=
  if !b.awake then b
  else (List.range 8).foldl (fun b k => b.put (Ob.engineLoadMeasured + k + 1) (min 255 ((percent[k]?).getD 0) : Nat)) b

/-! ### Memories and the signature (R404, R405) -/

/-- MEMORY_ERROR (R404). In Sleep it is what Bedrock's scrub of the journal SRAM and the retained latches meets at a periodic check: kept until the
Flint unit is up again, at step 4 of the next wake. Choices: log 51 (DEDUCED, safe). -/
def memoryError (memory address : Nat) (double : Bool) (b : Block) : Block :=
  let source := if double then 0xA1 else 0xA0
  let data := memory + 256 * (address % 2 ^ 24)
  if 12 < memory then b
  else if b.awake then b.raise source data
  else if b.power.mode == .sleep && b.power.stage == .idle && (memory == 9 || memory == 12) then
    b.withBedrock { b.bedrock with scrubbed := b.bedrock.scrubbed ++ [(source, data)] }
  else b

/-- MEMORY_SCRUB (R404): what the scrubber, in Sleep Bedrock's, meets in one pass. Choices: log 51 (DEDUCED, safe). -/
def memoryScrub (errors : List (Nat × Nat × Bool)) (b : Block) : Block :=
  errors.foldl (fun b e => memoryError e.1 e.2.1 e.2.2 b) b

/-- Is an index one of the configured P objects of R405? -/
def Block.signed (b : Block) (ix : Nat) : Bool :=
  ix != 0x2021 && ix != 0x3009 && ix != 0x1121 && b.pObjects.any (·.ix == ix)

/-- CONFIG_SIGNATURE_CHECK (R405): corrupt names an entry of the image in SRAM that has changed by itself, and its value.
Choices: log 51 (DEDUCED, safe). -/
def configSignatureCheck (corrupt : Option (Nat × Int)) (b : Block) : Block :=
  if !b.awake || !b.engineRuns 7 then b
  else
    let b := match corrupt with
      | some (k, v) =>
        if b.signed (k / 256) && b.get k ≠ v then
          let b := b.put k v
          b.withNvm { b.nvm with corrupted := (b.nvm.corrupted.filter (· != k / 256)) ++ [k / 256] }
        else b
      | none => b
    match b.nvm.corrupted with
    | [] => b
    | x :: t => b.raise 0xA5 (t.foldl min x)

/-! ### FLT_N (R406) -/

/-- FLT_READBACK (R406): the level FLT_N has shown for us microseconds since it last changed or was commanded. Choices: log 51 (DEDUCED, safe). -/
def fltReadback (level : Bool) (us : Nat) (b : Block) : Block :=
  if !b.awake then b
  else if b.flint.fltLow then
    let b := b.putBit Ob.faultFlags 1 false
    if level && decide (5 ≤ us) then (b.reason .fltN true).raise 0xA6 1 else b
  else if level then b.putBit Ob.faultFlags 1 false
  else if decide (100 < us) then b.putBit Ob.faultFlags 1 true
  else b

/-! ### The open-wire test (R398–R400) -/

/-- Does the node run open-wire slots now (R398, R411)? -/
def Block.openWireRuns (b : Block) : Bool := b.measuring && !b.noCells && b.on Ob.diagnosticScheduleOpenWireEnable

/-- Movement of the channel in uV from its reference in one phase, and of the neighbours below and above; 0 where there is none. -/
def moves (l : List Int) : Int × Int × Int := ((l[0]?).getD 0, (l[1]?).getD 0, (l[2]?).getD 0)

/-- Tap that a failed phase names (R399): low and high say which neighbour responded. -/
def Block.tapNamed (b : Block) (ch : Nat) (low high : Bool) : Nat :=
  if low then ch else if high then ch + 1 else if ch = 0 then 0 else if ch + 1 = b.cells then b.cells else ch

/-- A phase's finding (R399): none where it passes, else the tap it names. Choices: log 32 (DEDUCED, unsafe). -/
def Block.phaseFinding (b : Block) (ch : Nat) (wire : Bool) (l : List Int) : Option Nat :=
  let (lo, mid, hi) := moves l
  let below := decide (1 ≤ ch)
  let above := decide (ch + 1 < b.cells)
  if wire then
    if mid < -500000 then some (b.tapNamed ch (below && decide (0 < lo)) (above && decide (0 < hi))) else none
  else if mid < -200000 then some (b.tapNamed ch (below && decide (lo < -100000)) (above && decide (100000 < hi)))
  else none

/-- May switch ch conduct in phase B (R399)? -/
def Block.phaseBRuns (b : Block) (ch : Nat) : Bool := !(b.chan ch).disabled && decide (b.safeHold = 0)

/-- The finding on a tap is over: a later slot on that tap passed the phase that found it (R399). Choices: log 32 (DEDUCED, unsafe). -/
def Block.tapPassed (b : Block) (ch : Nat) (ranB : Bool) : Block :=
  match b.lanes.tapOpen with
  | some (tap, wire) =>
    if (tap == ch || tap == ch + 1) && (!wire || ranB) then
      ((b.withLanes { b.lanes with tapOpen := none }) : Block).clearLive 0x20
    else b
  | none => b

/-- The slot starts (R217, R250, R398): it holds the three switches, and in phase B, where it runs, switch ch conducts until release (R399). -/
def Block.openSlot (b : Block) (ch start : Nat) (ranB : Bool) (release : Nat) : Block :=
  let b := b.holdSlot ch
  b.withLanes { b.lanes with slot := some ⟨ch, start, ranB, release⟩ }

/-- When phase B turns its switch off, in us from the slot's start (R399): at 1,900, or within 50 us of the first block beyond the limit, which the
model takes to be the first block after 1,100. Choices: log 32 (DEDUCED, unsafe). -/
def Block.phaseBEnd (b : Block) (open' : Bool) : Nat := if open' then min 1900 (1150 + b.blockLength) else 1900

/-- One slot of channel ch, judged (R399): the first failure waits for its repeat, the second raises 0x20. -/
def Block.runSlot (b : Block) (ch start : Nat) (again : Bool) (phaseA phaseB : List Int) : Block :=
  let a := b.phaseFinding ch false phaseA
  let ranB := a.isNone && b.phaseBRuns ch && !phaseB.isEmpty
  let f : Option (Nat × Bool) := match a with
    | some tap => some (tap, false)
    | none => if ranB then (b.phaseFinding ch true phaseB).map fun tap => (tap, true) else none
  let b := b.openSlot ch start ranB (b.phaseBEnd (ranB && f.isSome))
  match f with
  | none => b.tapPassed ch ranB
  | some (tap, wire) =>
    let b := if wire then (match b.lanes.tapOpen with
        | some (_, false) => b.tapPassed ch false
        | _ => b) else b
    if again then
      let b : Block := if b.lanes.tapOpen.isNone then b.withLanes { b.lanes with tapOpen := some (tap, wire) } else b
      b.raise 0x20 (tap + 256 * boolNat wire)
    else b.withLanes { b.lanes with failedSlots := b.lanes.failedSlots ++ [⟨ch, start⟩] }

/-- P_slot in us (R398). -/
def Block.slotPeriod (b : Block) : Nat :=
  if b.get Ob.diagnosticScheduleOpenWireRotation = 1 then 1875000
  else if b.get Ob.diagnosticScheduleOpenWireRotation = 3 then 62500
  else 312500

/-- May a slot start now (R398, R400)? The slot before it is 2.2 ms old, no confirmation runs, and no QUIET pause is in force or begins within its
2.1 ms. -/
def Block.slotFree (b : Block) : Bool :=
  let clear := match b.lanes.slot with
    | some s => decide (2200 ≤ chainDiff b.now s.start) || decide (chainDiff b.now s.start < 0)
    | none => true
  clear && b.lanes.confirm.isNone && !b.pauseNear b.now

/-- Has slot number index come at its own instant, index × P_slot, for the first time (R398)? -/
def Block.slotDue (b : Block) (index : Nat) : Bool :=
  index * b.slotPeriod % t48 == b.now && b.lanes.lastSlot != some index

/-- May slot number index start now (R398, R400)? It is the first of those that wait, or none waits and its instant is now; and a slot may start. -/
def Block.slotMayStart (b : Block) (index : Nat) : Bool :=
  (match b.lanes.waitingSlots with
    | [] => b.slotDue index
    | i :: _ => i == index) && b.slotFree

/-- Slot number index begins, and waits no longer. -/
def Block.takeSlot (b : Block) (index : Nat) : Block :=
  b.withLanes { b.lanes with
    waitingSlots := b.lanes.waitingSlots.filter (· != index), lastSlot := if b.lanes.waitingSlots.contains index then b.lanes.lastSlot else some index }

/-- OPEN_WIRE_SLOT (R398–R400): slot number index starts at t; movements in uV of channels n − 1, n and n + 1 at the decision of each
phase. A slot whose instant falls in or near a QUIET pause, on another or behind others that wait, waits for its turn, in order.
Choices: log 32 (DEDUCED, unsafe). -/
def openWireSlot (t index : Nat) (phaseA phaseB : List Int) (b : Block) : Block :=
  let b := b.at t
  if !b.openWireRuns || b.cells = 0 then b
  else if b.slotMayStart index then (b.takeSlot index).releaseSlot.runSlot (index % b.cells) b.now false phaseA phaseB
  else if b.slotDue index then
    b.withLanes { b.lanes with waitingSlots := b.lanes.waitingSlots ++ [index], lastSlot := some index }
  else b

/-- When the repeat of a failed slot starts (R399, R400): 10 ms after that slot, or now where it had to wait. -/
def Block.repeatAt (b : Block) (f : FailedSlot) : Nat :=
  let due := (f.at' + 10000) % t48
  if 0 < chainDiff b.now due then b.now else due

/-- OPEN_WIRE_REPEAT (R399, R400): 10 ms after the slot that failed first, or when it may start after that. Choices: log 32 (DEDUCED, unsafe). -/
def openWireRepeat (phaseA phaseB : List Int) (b : Block) : Block :=
  match b.lanes.failedSlots with
  | [] => b
  | f :: rest =>
    let start := b.repeatAt f
    let c := b.at start
    if !b.openWireRuns || !c.slotFree then b
    else ((c.withLanes { c.lanes with failedSlots := rest }) : Block).releaseSlot.runSlot f.ch start true phaseA phaseB

/-! ### The commands of the family -/

/-- FAULT_REGISTRATION (R381). -/
def execFaultRegistration (s : State) : Out := onSwitching faultRegistration s

/-- CAPTURE_FIFO_DRAIN (R393). -/
def execCaptureFifoDrain (t : Nat) (s : State) : Out := onBlock (captureFifoDrain t) s

/-- SAFE_STATE_EXIT (R389). -/
def execSafeStateExit (t : Nat) (s : State) : Out := onBlock (safeStateExit t) s

/-- ENGINE_WATCHDOG_EXPIRY (R402). -/
def execEngineWatchdogExpiry (engine : Fin 8) (t : Nat) (s : State) : Out := onBlock (engineWatchdogExpiry engine.val t) s

/-- ENGINE_RESTART (R402). -/
def execEngineRestart (engine : Fin 8) (dictionaryOk : Bool) (s : State) : Out :=
  onBlockReading (engineRestart engine.val dictionaryOk) s

/-- ENGINE_SELF_TEST (R403). -/
def execEngineSelfTest (engine : Fin 8) (passed : Bool) (s : State) : Out := onBlock (engineSelfTest engine.val passed) s

/-- ENGINE_LOAD_MEASUREMENT (R68). -/
def execEngineLoadMeasurement (percent : List Nat) (s : State) : Out := onBlock (engineLoadMeasurement percent) s

/-- MEMORY_ERROR (R404). -/
def execMemoryError (memory address : Nat) (double : Bool) (s : State) : Out := onBlock (memoryError memory address double) s

/-- MEMORY_SCRUB (R404). -/
def execMemoryScrub (errors : List (Nat × Nat × Bool)) (s : State) : Out := onBlock (memoryScrub errors) s

/-- CONFIG_SIGNATURE_CHECK (R405). -/
def execConfigSignatureCheck (corrupt : Option (Nat × Int)) (s : State) : Out := onBlock (configSignatureCheck corrupt) s

/-- FLT_READBACK (R406). -/
def execFltReadback (level : Bool) (us : Nat) (s : State) : Out := onBlock (fltReadback level us) s

/-- OPEN_WIRE_SLOT (R399). -/
def execOpenWireSlot (t index : Nat) (phaseA phaseB : List Int) (s : State) : Out :=
  onSwitching (openWireSlot t index phaseA phaseB) s

/-- OPEN_WIRE_REPEAT (R399). -/
def execOpenWireRepeat (phaseA phaseB : List Int) (s : State) : Out := onSwitching (openWireRepeat phaseA phaseB) s

/-- BLEED_CONFIRMATION (R228–R230): its slot takes the switches from excitation (R250); it waits while an open-wire slot is under way
(R398). -/
def execBleedConfirmation (ch : Fin 32) (dropUv : Int) (meter : Nat) (s : State) : Out :=
  onSwitching (bleedConfirmation ch.val dropUv meter) s

end Sys2Proof.Machine
end

