-- ==== Sys2Proof/Machine/Power.lean ====
section
/-! DEFINITION. Supplies, power states and start-up (R72–R105, R231–R233, R408, R420–R422): the power commands, the entries to Sleep, Ship
and thermal shutdown, the wake sequence, what a core reset keeps, and Bedrock. -/

namespace Sys2Proof.Machine

/-! ### Leaving and entering Measure and Full (R86, R222, R408) -/

/-- PowerState sub 1 code of a state (R80). -/
def Mode.code : Mode → Nat
  | .standby => 4
  | .measure => 5
  | .full => 6
  | .off => 0
  | .ship => 1
  | .sleep => 2
  | .shutdown => 7

/-- The node is in a state from now on. -/
def Block.setMode (b : Block) (m : Mode) : Block :=
  ((b.withPower { b.power with mode := m }) : Block).put Ob.powerStateState m.code

/-- A channel's sums and counters as a start of the governor finds them; its last full-tick reading stands (R223). -/
def GovCh.rested (c : GovCh) : GovCh :=
  { c with settled := 0, settledI := 0, settledV := 0, deviating := 0, within := 0
           lowTicks := 0, strayTicks := 0, suspicion := none, worked := false }

/-- The way from Measure or Full to Standby (R86): switches off, a closed window published, the running one dropped, captures ended, E0–E6
stopped. -/
def Block.stopMeasuring (b : Block) : Block :=
  if !b.measuring then b
  else
    let b := b.switchesOff.publishAll
    let b : Block := b.withWin { b.win with
      opened := none, closing := none, changed := false, held := false, keeperSchedule := false, announced := none }
    let b := b.abandonCaptures.lanesStop.impStop.dropAdvisories
    let b := if b.isKeeper then b.keeperStop.showNominal else b
    let b := b.settleAveraging
    let b : Block := b.withGov { b.gov with ch := b.gov.ch.map GovCh.rested, quietWindow := false, quietCapture := false }
    b.setMode .standby

/-- The dry switch-off of R408, while all switches are off: ack holds a bit for each driver that acknowledged in time.
Choices: log 17 (DEDUCED, unsafe). -/
def Block.dryCheck (b : Block) (ack : Nat) : Block :=
  if b.noCells || b.gov.ch.any (·.on) then b
  else
    let silent := (List.range 32).filter fun i => !bitOf ack i
    silent.foldl (fun b i =>
      let near := [i, i + 1] ++ (if 1 ≤ i then [i - 1] else [])
      (near.foldl (fun b j => b.disable j) b).raise 0x42 (i + 1 + 256)) b

/-- θ at an entry to Measure or Full (R222). -/
def Block.zeroTheta (b : Block) : Block :=
  ((b.withGov { b.gov with theta := 0 }) : Block).put Ob.throttleValueApplied 0

/-- Lanes and E0–E5 start from Standby, in Measure (R83, R86). -/
def Block.startMeasuring (b : Block) : Block :=
  let b := ((b.put Ob.unlockState 0).setMode .measure).lanesStart.loadWindowSettings
  b.withWin { b.win with opened := none, closing := none, changed := false, held := false }

/-- MEASURE (R83): from Standby lanes start; from Full E6 stops. -/
def Block.toMeasure (b : Block) (ack : Nat) : Block :=
  let b := if b.inFull then (b.setMode .measure).followE6 else b.startMeasuring
  b.zeroTheta.dryCheck ack

/-- FULL (R3, R83): on an -S node, Measure. -/
def Block.toFull (b : Block) (ack : Nat) : Block :=
  if !b.fuses.variantX then (if b.measuring then b else b.toMeasure ack)
  else
    let b := if b.measuring then b else b.startMeasuring
    (b.setMode .full).followE6.zeroTheta.dryCheck ack

/-! ### Sleep, Ship and thermal shutdown -/

/-- What every way out of Standby shares (R85, R90, R293, R387, R393): transfers closed, journal entries drained, K23.7 sent, ports off,
PWR_EN low, locked again. -/
def Block.leaveAwake (b : Block) (m : Mode) : Block :=
  let b := b.stopMeasuring.drainAll.withAccess ⟨none, [], none, false⟩
  let b := b.sendClose
  let b := b.putAll [(Ob.portStatusDlState, 0), (Ob.portStatusDuState, 0), (Ob.unlockState, 0), (Ob.powerStatePending, 0)]
  let b : Block := (b.withPhys .fresh).withFlint { b.flint with alarmWhenUp := false }
  b.withPower { b.power with mode := m, stage := .idle, pwrEn := false, pwrEnMisses := 0, vin5Good := false, railsBad := [] }

/-- At every entry to Sleep E7 hands its settings and the sleep plan to Bedrock (R98, R102, R231). -/
def Block.handOver (b : Block) (plan : List Planned) : Block :=
  let k := b.bedrock
  b.withBedrock { k with
      period := b.nat Ob.bedrockPeriod, overMv := b.get Ob.bedrockThresholdsCellOver, underMv := b.get Ob.bedrockThresholdsCellUnder
      hotLimit := b.get Ob.bedrockThresholdsThermHot, coldLimit := b.get Ob.bedrockThresholdsThermCold
      enable := b.nat Ob.bedrockThresholdsEnable, cellCount := b.cells, thermPins := b.thermistors
      bias := b.nat Ob.thermistorModelBiasResistance, nominal := b.nat Ob.thermistorModelNominalResistance
      beta := b.nat Ob.thermistorModelBeta, planned := plan.map (·.seconds), estimate := plan.map (·.estimate)
      conduction := List.replicate 32 0, floorMv := b.nat Ob.sleepBalanceFloorVoltage
      balancing := b.safeHold = 0 && plan.any (·.seconds ≠ 0)
      firstCrossings := [], crossings := [], lastTone := none, flags := 0 }

/-- Sleep is entered (R83, R98, R102, R387), with the plan formed now or, after a VIN5 failure, as last refreshed (R231). -/
def Block.enterSleep (b : Block) (plan : List Planned) : Block :=
  ((b.handOver plan).leaveAwake .sleep).setFlt false

/-- A channel of which nothing is retained (R212). -/
def GovCh.forgotten (c : GovCh) : GovCh := { c.off.rested with state := 0, qref := 0, qmeas := 0, removed := 0, acc := 0 }

/-- Entries that a set of objects holds, at their defaults. -/
def Block.clearObjects (b : Block) (indices : List Nat) : Block :=
  b.withDict (b.dict.filter fun e => !indices.contains (e.1 / 256))

/-- What Ship does not keep (R43, R103, R212, R263, R427): journal with its epoch, latches, SafeHold, removal totals, sessions, series resistances
and states of charge. -/
def Block.forget (b : Block) : Block :=
  let b := b.clearObjects [0x6001, 0x6002, 0x6003, 0x3001, 0x3003, 0x3005, 0x3012, 0x4005, 0x4011, 0x4015]
  let b := b.put Ob.powerStateSafeHold 0
  let b : Block := (b.withJournal (Journal.empty b.journal.nextIncident)).withFlint .fresh
  let b : Block := b.withGov { b.gov with ch := b.gov.ch.map GovCh.forgotten }
  let b : Block := b.withImp { b.imp with soc := List.replicate 32 .unknown, packTotal := 0 }
  b.withPower { b.power with supplyRecorded := false }

/-- Bedrock's latches of an earlier Sleep cleared: they tell of the state that the next wake leaves (R81). -/
def Bedrock.cleared (k : Bedrock) : Bedrock := { k with firstCrossings := [], crossings := [], lastTone := none, flags := 0 }

/-- Ship is entered (R81, R83, R103, R387). -/
def Block.enterShip (b : Block) : Block :=
  (((b.withBedrock b.bedrock.cleared).leaveAwake .ship).forget).setFlt false

/-- Thermal shutdown is entered (R81, R420): 0x83 registers, its record is kept, FLT_N stays low. hot is the reading in 0.1 °C. What Bedrock
recorded in the Sleep it is entered from stays until that Sleep's crossings are journalled. Choices: log 20 (DEDUCED, unsafe). -/
def Block.enterShutdown (b : Block) (hot : Int) : Block :=
  let b := (b.raise 0x83 (hot % 65536).toNat).faultCycle
  let b := b.put Ob.thermalRecordPeak (if b.live 0x82 then max (b.get Ob.thermalRecordPeak) hot else hot)
  let b := b.countUp Ob.thermalRecordShutdowns 1 65535
  let b : Block := if b.power.mode = .sleep then b else b.withBedrock b.bedrock.cleared
  let b := b.leaveAwake .shutdown
  (((b.withNvm { b.nvm with program := none }).withBedrock { b.bedrock with balancing := false }) : Block).setFlt true

/-- The page being programmed completes; every further page is abandoned (R420). Choices: log 15 (DEDUCED, unsafe). -/
def finishPage (m : List Host.Cell) (b : Block) : List Host.Cell × Block :=
  match b.nvm.program with
  | none => (m, b)
  | some p =>
    let b' : Block := b.withNvm { b.nvm with program := none, unfinished := if p.erased then b.nvm.ended p.base else b.nvm.unfinished }
    if !p.erased || decide (p.pages ≤ p.page) then (m, b')
    else
      let bytes := (p.image.drop (p.page * pageSize)).take pageSize
      (Flash.program (p.base + p.page * pageSize) bytes m, b'.snoopNvm bytes)

/-! ### PowerCommand (R83–R85) -/

/-- States a command is accepted from (R3, R83). -/
def Block.commandFrom (b : Block) (code : Nat) : Bool :=
  if code = 1 then b.power.mode == .standby
  else if code = 5 then b.power.mode == .standby || b.power.mode == .full
  else if code = 6 then b.power.mode == .standby || b.power.mode == .measure
  else if code = 9 then b.isHead
  else true

/-- Command codes of R80. -/
def commandCodes : List Nat := [1, 2, 4, 5, 6, 8, 9]

/-- The abort of a PowerCommand, in the order of R45: state, value, Pending, safe state, NVM window (R83, R84). Choices: log 14 (DEDUCED, unsafe). -/
def Block.powerAbort (b : Block) (code : Nat) : Option Nat :=
  if commandCodes.contains code && !b.commandFrom code then some 0x0604
  else if !commandCodes.contains code then some 0x0605
  else if b.get Ob.powerStatePending ≠ 0 then some 0x0609
  else if code = 1 && 4 ≤ b.safeHold then some 0x060A
  else if code = 1 && (b.live 0x82 || !b.inWindow) then some 0x060B
  else none

/-- SHIP begins: summaries first, when there is something to save (R83, R434). Choices: log 15 (DEDUCED, unsafe). -/
def Block.beginShip (b : Block) (m : List Host.Cell) : Block :=
  let b := b.settleJournal.readSummaries
  if b.summaryNeeded m then b.startSummary m true else b.enterShip

/-- RESET begins (R83, R293): the core reset is asserted; wake steps 3–5 follow. Choices: log 18 (DEDUCED, unsafe). -/
def Block.beginReset (b : Block) : Block :=
  let b := b.stopMeasuring.switchesOff.drainAll.withAccess ⟨none, [], none, false⟩
  let b := b.sendClose
  let b := b.putAll [(Ob.portStatusDlState, 0), (Ob.portStatusDuState, 0)]
  (b.withPhys .fresh).withPower { b.power with stage := .rails, cause := 6 }

/-- A transition that waited for an NVM program begins (R85). Choices: log 15 (DEDUCED, unsafe). -/
def Block.resumePending (b : Block) (m : List Host.Cell) : Block :=
  if !b.awake || b.nvm.program.isSome then b
  else
    let p := b.get Ob.powerStatePending
    if p = 1 then b.beginShip m
    else if p = 2 then b.enterSleep b.formPlan
    else if p = 8 then b.beginReset
    else b

/-- A head's own tone request as WAKE_CHAIN makes it (R83, R95, R96, R285): on DU, and on DL in ring mode; its census is due some time after it
starts, beside those still due of earlier tones. -/
def Block.wakeTones (b : Block) (us census : Nat) : Block :=
  let b := b.sendTone .du us
  let b := if b.get Ob.ringMode = 1 then b.sendTone .dl us else b
  (b.withPhys { b.phys with ownToneEnd := some ((b.now + us) % t48) }).withLink {
    b.link with wakeCensus := b.link.wakeCensus ++ [(b.now + census) % t48] }

/-- Is a source of effective class HOLD live (R389)? Choices: log 26 (DEDUCED, unsafe). -/
def Block.holdLive (b : Block) : Bool := b.flint.regs.any fun r => r.eff == 4 && b.live r.source

/-- An accepted command (R83, R428). SLEEP, SHIP and RESET close an open transfer and wait for an NVM program (R85). Choices: log 16 (DEDUCED, unsafe). -/
def Block.acceptCommand (b : Block) (code ack : Nat) (m : List Host.Cell) : Block :=
  let b := b.event 0xE6 code
  if code = 9 then b.wakeTones 20 20020
  else if code = 4 then
    if b.measuring then b.stopMeasuring.put Ob.powerStatePending 4 else b
  else if code = 5 then (b.toMeasure ack).put Ob.powerStatePending 5
  else if code = 6 then
    if !b.fuses.variantX && b.measuring then b
    else (b.toFull ack).put Ob.powerStatePending (if b.fuses.variantX then 6 else 5)
  else
    let b := b.closeTransfers
    let b : Block := b.withPower { b.power with holdLiveAtReset := if code = 8 then b.holdLive else b.power.holdLiveAtReset }
    (b.put Ob.powerStatePending code).resumePending m

/-- A write of PowerCommand by anyone: its abort, and the block after it. -/
def powerCommand (code ack : Nat) (m : List Host.Cell) (b : Block) : Option Nat × Block :=
  match b.powerAbort code with
  | some a => (some a, b)
  | none => (none, b.acceptCommand code ack m)

/-- A row of PowerCommand: answered, in a state that answers the dictionary (R40, R54). -/
def commandRow (code ack : Nat) (m : List Host.Cell) (b : Block) : Block :=
  if !b.awake then b
  else
    let r := powerCommand code ack m b.disarm
    (r.2.emit (.answer r.1)).noteEdges []

/-- TRANSITION_COMPLETE (R83): a transition to Standby, Measure or Full has ended. Choices: log 16 (DEDUCED, unsafe). -/
def transitionComplete (b : Block) : Block :=
  if b.awake && (b.get Ob.powerStatePending = 4 || b.get Ob.powerStatePending = 5 || b.get Ob.powerStatePending = 6) then
    b.put Ob.powerStatePending 0
  else b

/-- COMM_LOSS (R89): 0x63 registers, and the node sleeps as if SLEEP had been commanded. Where another accepted transition is Pending the spec says
nothing; the model overwrites it with SLEEP. Choices: log 25 (DEDUCED, unsafe). Choices: log 62 (DESIGN CHOICE, unsafe). -/
def commLoss (t : Nat) (m : List Host.Cell) (b : Block) : Block :=
  let b := b.at t
  if !b.awake || chainDiff b.now b.power.commAt < b.get Ob.commLossTimeout then b
  else
    let b := (b.raise 0x63 (b.nat Ob.commLossTimeout / 1000)).faultCycle.switchesOff
    (b.closeTransfers.put Ob.powerStatePending 2).resumePending m

/-! ### Supplies (R75–R78, R407) -/

/-- The block as fresh, with the condition its flash is in (R441). Choices: log 50 (DEDUCED, unsafe). -/
def Block.afresh (b : Block) (mode : Mode) : Block :=
  let f := Block.fresh b.fuses mode
  f.withNvm { f.nvm with unfinished := b.nvm.unfinished }

/-- POR_RELEASE (R75, R88): from Off to Sleep. -/
def porRelease (b : Block) : Block :=
  if b.power.mode = .off then ((b.afresh .sleep).withOut b.out).withFree b.free else b

/-- POR_ASSERT (R75, R88, R103): to Off; nothing is retained. -/
def porAssert (b : Block) : Block := ((b.afresh .off).withOut b.out).withFree b.free

/-- VSTK_RANGE_CHECK (R75): VSTK in 0.1 V. -/
def vstkRangeCheck (decivolts : Nat) (b : Block) : Block :=
  if b.awake && (decivolts < 90 || 1700 < decivolts) then b.raise 0x86 (min 65535 decivolts) else b

/-- VSTK_IN_RANGE (R377). -/
def vstkInRange (b : Block) : Block := if b.awake then b.clearLive 0x86 else b

/-- A rail that the Flint unit finds bad raises 0x85 (R377). -/
def Block.railBad (b : Block) (r : Rail) : Block :=
  let b : Block := b.withPower { b.power with
    railsBad := if b.power.railsBad.contains r then b.power.railsBad else b.power.railsBad ++ [r] }
  b.raise 0x85 r.code

/-- VIN_LOW (R77): after VIN5 has been good. -/
def vinLow (b : Block) : Block := if b.awake && b.power.vin5Good then b.railBad .vin5 else b

/-- RAIL_WINDOW_FAULT (R407): VDDA or VDDD. -/
def railWindowFault (r : Rail) (b : Block) : Block := if b.awake && r != .vin5 then b.railBad r else b

/-- RAIL_GOOD (R377): for 1 ms; the live bit of 0x85 clears when no rail is bad. -/
def railGood (r : Rail) (b : Block) : Block :=
  if !b.awake then b
  else
    let b : Block := b.withPower { b.power with railsBad := b.power.railsBad.filter (· != r) }
    if b.power.railsBad.isEmpty then b.clearLive 0x85 else b

/-- SUPPLY_FAIL (R77, R88, R231): Sleep with the plan of the latest refresh; a running NVM program is cut off with the supply.
Choices: log 15 (DEDUCED, unsafe). Choices: log 18 (DEDUCED, unsafe). -/
def supplyFail (b : Block) : Block :=
  if b.power.mode = .standby || b.measuring then
    let b : Block := b.withNvm { b.nvm with program := none }
    b.enterSleep b.gov.plan
  else b

/-- PWR_EN_COMPARISON (R76): the pin's level against the one commanded; three differences in a row raise 0x87. -/
def pwrEnComparison (level : Bool) (b : Block) : Block :=
  if !b.awake then b
  else
    let n := if level = b.power.pwrEn then 0 else min 3 (b.power.pwrEnMisses + 1)
    let b : Block := b.withPower { b.power with pwrEnMisses := n }
    if 3 ≤ n then (b.reason .pwrEn true).raise 0x87 (boolNat b.power.pwrEn) else b

/-! ### The wake sequence (R91–R97) -/

/-- PriorState code of a state that a wake leaves (R80). Choices: log 18 (DEDUCED, unsafe). -/
def Block.priorCode (b : Block) : Nat :=
  if b.power.mode = .shutdown then 7 else if b.power.firstWake then 0 else if b.power.mode = .ship then 1 else 2

/-- Step 1 (R91): PWR_EN high; sleep balancing ends (R102). -/
def Block.startWake (b : Block) (cause slept : Nat) : Block :=
  let b := b.switchesOff
  (b.withBedrock { b.bedrock with balancing := false }).withPower { b.power with
      stage := .awaitVin5, prior := b.priorCode, cause := cause, slept := min slept (2 ^ 32 - 1), attempts := 1, pwrEn := true
      deferred := none }

/-- Cause of a wake from Sleep (R81). -/
def wakeCause : WakeSource → Nat
  | .toneDl => 3
  | .toneDu => 4
  | .hostActivity => 5

/-- May a wake come from this source here: host activity only at a head (R92)? Before the first core reset no role is sampled.
Choices: log 19 (DEDUCED, unsafe). -/
def Block.wakesFrom (b : Block) (src : WakeSource) : Bool := src != .hostActivity || b.isHead || b.power.firstWake

/-- A wake event while the node is entering Sleep or Ship is kept (R97). Choices: log 19 (DEDUCED, unsafe). -/
def Block.keepWake (b : Block) (src : WakeSource) (extended : Bool) : Block :=
  let p := b.get Ob.powerStatePending
  if b.awake && b.wakesFrom src && (p = 2 || (p = 1 && extended)) && b.power.deferred.isNone then
    b.withPower { b.power with deferred := some (if p = 1 then 8 else wakeCause src) }
  else b

/-- A wake event in Sleep (R92): a tone that arrives on DU is recorded (R81, R100). Choices: log 19 (DEDUCED, unsafe). -/
def Block.wakeFromSleep (b : Block) (src : WakeSource) (slept : Nat) : Block :=
  if b.power.stage ≠ .idle || !b.wakesFrom src then b
  else
    let b : Block := if src = .toneDu then
      b.withBedrock { b.bedrock with flags := setBitTo b.bedrock.flags 5 true } else b
    b.startWake (wakeCause src) slept

/-- WAKE_EVENT (R92, R97). -/
def wakeEvent (src : WakeSource) (slept : Nat) (b : Block) : Block :=
  if b.power.mode = .sleep then b.wakeFromSleep src slept else b.keepWake src false

/-- The port a tone is repeated on (R94, R96). -/
def repeatPort : WakeSource → Option Port
  | .toneDl => some .du
  | .toneDu => some .dl
  | .hostActivity => none

/-- EXTENDED_WAKE_EVENT (R96): in Ship a node repeats the tone first, a wake sequence under way or not; a head does not. In Sleep it is a wake
event as any tone. -/
def extendedWakeEvent (src : WakeSource) (slept : Nat) (b : Block) : Block :=
  if b.power.mode = .ship then
    if !b.wakesFrom src then b
    else
      let b := match repeatPort src with
        | some p => if b.isHead then b else b.emit (.tone p 1200)
        | none => b
      if b.power.stage ≠ .idle then b else b.startWake 8 slept
  else if b.power.mode = .sleep then b.wakeFromSleep src slept
  else b.keepWake src true

/-- DEFERRED_WAKE_START (R97): PWR_EN has been low for 1 ms. Choices: log 19 (DEDUCED, unsafe). -/
def deferredWakeStart (slept : Nat) (b : Block) : Block :=
  match b.power.deferred with
  | some c => if (b.power.mode = .sleep || b.power.mode = .ship) && b.power.stage = .idle then b.startWake c slept else b
  | none => b

/-- SUPPLY_ATTEMPT_TIMEOUT (R93): PWR_EN low; the fourth failure is recorded and ends the sequence. Choices: log 18 (DEDUCED, unsafe). -/
def supplyAttemptTimeout (b : Block) : Block :=
  if b.power.stage ≠ .awaitVin5 then b
  else if 4 ≤ b.power.attempts then
    b.withPower { b.power with pwrEn := false, stage := .idle, supplyRecorded := true }
  else b.withPower { b.power with pwrEn := false, stage := .retryWait }

/-- SUPPLY_ATTEMPT_RETRY (R93): step 1 again. -/
def supplyAttemptRetry (b : Block) : Block :=
  if b.power.stage = .retryWait then
    b.withPower { b.power with pwrEn := true, stage := .awaitVin5, attempts := b.power.attempts + 1 }
  else b

/-- VIN5_GOOD (R78, R91): step 2. -/
def vin5Good (b : Block) : Block :=
  if b.power.stage = .awaitVin5 then b.withPower { b.power with vin5Good := true, stage := .rails } else b

/-! ### The core reset (R20, R30, R43, R103) -/

/-- Objects whose values Bedrock's retained latches hold, or that the node keeps but at POR (R104, R212, R263, R425). R43 does not list 0x4005
SeriesResistance; that it is kept rests on R270's word "retained", the model's reading. Choices: log 11 (DEDUCED, unsafe). -/
def retainedObjects : List Nat :=
  [0x6002, 0x6003, 0x3001, 0x3003, 0x3005, 0x3012, 0x4005, 0x4011, 0x4015, 0x5007]

/-- Is a dictionary entry kept through a core reset (R43)? Choices: log 11 (DEDUCED, unsafe). -/
def keptKey (k : Nat) : Bool := retainedObjects.contains (k / 256) || k == Ob.powerStateSafeHold

/-- What a channel keeps through a core reset (R212, R230). Choices: log 11 (DEDUCED, unsafe). -/
def GovCh.afterReset (c : GovCh) : GovCh :=
  { GovCh.idle with state := c.state, qref := c.qref, qmeas := c.qmeas, removed := c.removed }

/-- The block after a core reset (R103): retained latches, journal and Bedrock's copies stay, the rest is as fresh. Choices: log 11 (DEDUCED, unsafe).
Choices: log 24 (DEDUCED, unsafe). -/
def Block.coreReset (b : Block) : Block :=
  let b := b.clearEveryLive
  let f := b.afresh b.power.mode
  let idle := if b.imp.working then 0 else (max 0 (chainDiff b.now b.imp.stoppedAt)).toNat / 1000000
  let f : Block := f.withPower { b.power with pwrEnMisses := 0, railsBad := [], deferred := none }
  let f : Block := (f.withBedrock b.bedrock).withJournal { b.journal with
    epoch := (b.journal.epoch + 1) % 256, resetAt := b.journal.next }
  let f : Block := f.withFlint { f.flint with
    regs := b.flint.regs.map fun r => { r with retained := true }, fltLow := b.flint.fltLow }
  let f : Block := f.withGov { f.gov with ch := b.gov.ch.map GovCh.afterReset }
  let f : Block := f.withKeeper { f.keeper with epoch := (b.keeper.epoch + 1) % 256 }
  let f : Block := f.withImp { f.imp with
    soc := b.imp.soc.map fun c => { c with point := none, latest := none, excessRun := 0 }
    packTotal := b.imp.packTotal, stoppedFor := b.imp.stoppedFor + idle }
  let f : Block := (f.withHost { f.host with wakeLow := b.host.wakeLow }).withDiag { f.diag with saturated := b.diag.saturated }
  ((f.withDict (b.dict.filter fun e => keptKey e.1)).withOut b.out).withFree b.free

/-- CORE_RESET_RELEASE (R17, R20, R30, R91): step 3. SYNC is sampled; a head compares C32 with C0 (mV). In node role WAKE is released. -/
def coreResetRelease (strapHigh : Bool) (stackMv : Int) (b : Block) : Block :=
  if b.power.stage ≠ .rails then b
  else
    let b := b.coreReset.put Ob.role (if strapHigh then (if stackMv < 1000 then 3 else 2) else 1)
    let b : Block := b.withHost { b.host with wakeLow := strapHigh && b.host.wakeLow }
    b.withPower { b.power with stage := .booting }

/-! ### Step 4 (R91, R104, R150, R233, R438, R441) -/

/-- Channels above CellCount lose their sessions, their retained values and their place in the sleep plan (R28, R35, R212). -/
def Block.trimChannels (b : Block) : Block :=
  let gone := (List.range 32).filter fun i => b.cells ≤ i
  let b : Block := b.withGov { b.gov with plan := gone.foldl (fun l i => l.set i ⟨0, 0⟩) b.gov.plan }
  gone.foldl (fun b i =>
    let b := b.editCh i GovCh.forgotten
    b.putAll [(chKey Ob.balanceTarget i, 0), (chKey Ob.sessionTimer i, 0), (chKey Ob.sessionRemoved i, 0),
      (chKey Ob.balanceRemoved i, 0)]) b

/-- The factory record (R150, R438): the first copy that passes; record 1 of 0xA2 when the first fails. Choices: log 12 (DEDUCED, unsafe). -/
def Block.loadFactory (b : Block) (r : BootReport) : Block :=
  let good := r.factoryA || r.factoryB
  let b : Block := b.withNvm { b.nvm with calLoaded := good }
  let b := b.nvmFlag nvmFactoryCopy (!r.factoryA && r.factoryB)
  let b := if r.factoryA then b else b.recordFault 1
  let b := (List.range 32).foldl (fun b i => b.setHealth i 0 good) b
  b.reason .calibration (!good)

/-- The persistent dictionary and the summaries (R24, R43, R103, R441): Lifetime too comes from the record at every wake and RESET.
Choices: log 10 (DEDUCED, unsafe). -/
def Block.loadBanks (b : Block) (m : List Host.Cell) : Block :=
  let b := if b.isHead then b.putAll [(Ob.auxFunction + 7, 8), (Ob.auxFunction + 8, 8)] else b
  (((b.loadDictionary m).loadSummaries m).judgeEndurance).trimChannels

/-- An item of the retained latches cleared (R104). Choices: log 23 (DEDUCED, unsafe). -/
def Block.loseLatch (b : Block) : Latch → Block
  | .faultBits => (b.clearObjects [0x6002]).withFlint { b.flint with regs := [] }
  | .firstFault => b.clearObjects [0x6003]
  | .safeHold => b.put Ob.powerStateSafeHold 0
  | .crossing => b.withBedrock { b.bedrock with crossings := [], flags := b.bedrock.flags / 16 * 16 }
  | .supplyRecord => b.withPower { b.power with supplyRecorded := false }
  | .thermalRecord => b.clearObjects [0x5007]
  | .removed i =>
    let b := (b.put (chKey Ob.balanceRemoved i) 0).editCh i fun c => { c with removed := 0 }
    b.withImp { b.imp with soc := editAt b.imp.soc i fun c => { c with removed := 0 } }
  | .session i =>
    (b.putAll [(chKey Ob.balanceTarget i, 0), (chKey Ob.sessionTimer i, 0), (chKey Ob.sessionRemoved i, 0)]).editCh i fun c =>
      { c with state := 0, qref := 0, qmeas := 0 }
  | .charge i =>
    (b.withImp { b.imp with soc := editAt b.imp.soc i fun _ => .unknown }).putAll
      [(chKey Ob.cellSoc i, 0xFFFF), (chKey Ob.socUncertainty i, 0xFFFF)]

/-- Uncorrectable words of the retained latches and the journal (R104, R431): the affected item is cleared, 0xA1 raised.
Choices: log 23 (DEDUCED, unsafe). -/
def Block.restoreLatches (b : Block) (r : BootReport) : Block :=
  let lost := b.journal.entries.filter fun e => r.lostEntries.contains e.number
  let b : Block := b.withJournal { b.journal with
    entries := b.journal.entries.filter fun e => !r.lostEntries.contains e.number }
  let b := if lost.isEmpty then b else (b.countUp (Ob.dropCount + 3) lost.length (2 ^ 32 - 1)).raise 0xA1 9
  r.lostLatches.foldl (fun b l => (b.loseLatch l).raise 0xA1 12) b

/-- What the time since the last awake state means for the states of charge (R261, R262): drift, and rest where SleepIsRest lets Sleep count.
Choices: log 24 (DEDUCED, unsafe). -/
def Block.countSlept (b : Block) : Block :=
  let rests := b.on Ob.socConfigSleepIsRest && b.power.prior = 2
  let us := b.power.slept * 1000000
  let worked := fun i => (b.bedrock.conduction[i]?).getD 0 ≠ 0
  b.withImp { b.imp with
      stoppedFor := b.imp.stoppedFor + b.power.slept
      soc := (List.range 32).map fun i =>
        let c := b.socCell i
        if rests && !worked i then { c with rest := c.rest + us } else { c with rest := 0, fused := false } }

/-- E7 credits the channels that Bedrock balanced (R233); the credit is given once. -/
def Block.creditSleep (b : Block) : Block :=
  let b := (List.range 32).foldl (fun b i => b.creditChannel i) b
  b.withBedrock { b.bedrock with
      planned := List.replicate 32 0, estimate := List.replicate 32 0, conduction := List.replicate 32 0 }

/-- SafeHold as step 4 restores it (R103, R387, R389): a HOLD falls at a RESET whose causes were gone. At a node FLT_N follows it; a head drives it
low, and releases it by R349 alone. -/
def Block.restoreHold (b : Block) : Block :=
  let b := if b.safeHold = 4 && b.power.cause = 6 && !b.power.holdLiveAtReset then b.lowerHold (if b.classStands 3 then 3 else 0) else b
  let standing := decide (b.safeHold ≠ 0)
  let b := b.setFlt (standing || (b.isHead && b.flint.fltLow))
  b.withFlint { b.flint with alarmWhenUp := standing && !b.isHead }

/-- WakeRecord (R80, R81). Choices: log 18 (DEDUCED, unsafe). -/
def Block.writeWakeRecord (b : Block) : Block :=
  let first := b.bedrock.crossings.head?
  b.putAll [(Ob.wakeRecordPriorState, b.power.prior), (Ob.wakeRecordCause, b.power.cause),
    (Ob.wakeRecordBedrockFlags, b.bedrock.flags),
    (Ob.wakeRecordBedrockChannel, match first with
      | some c => c.channel
      | none => 0),
    (Ob.wakeRecordBedrockValue, match first with
      | some c => c.value
      | none => 0),
    (Ob.wakeRecordSleepTime, b.power.slept), (Ob.wakeRecordSupplyAttempts, b.power.attempts)]

/-- Data of a CROSSING entry (R428). -/
def Crossing.data (c : Crossing) : Nat := c.channel + 256 * c.kind + 65536 * (c.value % 65536).toNat

/-- Data of the RECOVERY entry (R428). -/
def Block.recoveryData (b : Block) : Nat :=
  (b.get Ob.thermalRecordPeak % 65536).toNat + 65536 * min 65535 (b.nat Ob.thermalRecordDuration)

/-- Event entries of step 5 (R428): START, and after a wake the crossings and the recovery. -/
def Block.startEvents (b : Block) : Block :=
  let b := b.event 0xE0 (b.power.cause + 256 * b.power.prior)
  if b.power.cause = 6 then b
  else
    let b := b.bedrock.crossings.foldl (fun b c => b.event 0xE1 c.data) b
    if b.power.cause = 7 then b.event 0xE2 b.recoveryData else b

/-- Ports and timebase at step 5, by role (R108, R119, R291, R346). -/
def Block.startPorts (b : Block) : Block :=
  if b.isHead then
    b.putAll [(Ob.portStatusDlState, if b.get Ob.ringMode = 1 then 2 else 1), (Ob.portStatusDuState, 2), (Ob.position, 0),
      (Ob.clockSourceSource, 1), (Ob.clockSourceTimebaseState, tbAligned)]
  else
    b.putAll [(Ob.portStatusDlState, 2), (Ob.portStatusDuState, 2), (Ob.clockSourceSource, 4),
      (Ob.clockSourceTimebaseState, tbFree)]

/-- Settings that act at once take the values just loaded; CAN FD starts SILENT where it is told to (R370). -/
def Block.applyLoaded (b : Block) : Block :=
  let b := b.settleAveraging.loadWindowSettings
  let b := (b.put Ob.mainsFrequency (b.get Ob.mainsConfigNominal)).judgeDiag
  let state := if !b.isHead || !b.on Ob.canConfigEnable then 0 else if b.on Ob.canConfigSilentUntilRequest then 4 else 1
  let b := b.put Ob.canStatusErrorState state
  b.withHost { b.host with canInForce := b.canSettings }

/-- What a head does once it stands (R95, R365): it wakes the chain after HOST_ACTIVITY and SHIP_EXIT, and else runs its census at once. The tone on DU
that woke it is told to the host. Choices: log 21 (DEDUCED, unsafe). -/
def Block.headFollowUp (b : Block) : Block :=
  let b := if b.host.wakeLow && (b.power.cause = 4 || b.power.cause = 8) then b.attend 1 else b
  if !b.isHead then b
  else if b.power.cause = 5 then b.wakeTones 20 20020
  else if b.power.cause = 8 then b.wakeTones 1200 100000
  else b.withLink { b.link with roundWanted := true }

/-- ENGINE_BOOT_COMPLETE (R91, R93): steps 4 and 5. A recorded supply failure registers at step 4, with its chain time. -/
def engineBootComplete (r : BootReport) (t : Nat) (m : List Host.Cell) (b : Block) : Block :=
  if b.power.stage ≠ .booting then b
  else
    let isWake := decide (b.power.cause ≠ 6)
    let b : Block := ((b.at t).withNvm { b.nvm with weak := r.corrected, bad := r.badWords }).countCorrected r.corrected
    let b := ((b.loadFactory r).loadBanks m).restoreLatches r
    let b := b.bedrock.scrubbed.foldl (fun b x => b.raise x.1 x.2) b
    let b : Block := b.withBedrock { b.bedrock with scrubbed := [] }
    let b := if b.power.supplyRecorded then (b.raise 0x85 4).faultCycle else b
    let b := if isWake then (b.countSlept.creditSleep).countUp Ob.lifetimeWakeCount 1 (2 ^ 32 - 1) else b
    let b := if isWake && b.power.prior = 7 then b.put Ob.thermalRecordDuration b.power.slept else b
    let b := b.applyLoaded.restoreHold.writeWakeRecord.startPorts.startEvents
    let b : Block := b.withPower { b.power with
      stage := .idle, firstWake := false, supplyRecorded := false, holdLiveAtReset := false, commAt := b.now
      wakeRequest := if isWake then !b.bedrock.crossings.isEmpty else b.power.wakeRequest }
    ((b.setMode .standby).headFollowUp).followReasons

/-! ### Bedrock (R99–R102, R232, R421, R422) -/

/-- Crossings of one check (R99): cells in mV as converted, thermistors of the copied pins as ρ in 1/65,536 (R199). OPEN and SHORT give no value
(R200), and a value equal to a threshold is no crossing. Choices: log 20 (DEDUCED, unsafe). -/
def Bedrock.find (k : Bedrock) (cells therm : List Int) : List Crossing :=
  let volts := (List.range k.cellCount).map fun i =>
    let v := (cells[i]?).getD 0
    (if bitOf k.enable 0 && decide (k.overMv < v) then [⟨1, i + 1, v⟩] else []) ++
      (if bitOf k.enable 1 && decide (v < k.underMv) then [⟨2, i + 1, v⟩] else [])
  let temps := (List.range 8).map fun p =>
    if !k.thermPins.contains p then []
    else
      let rho := ((therm[p]?).getD 0).toNat
      if 98 * 65536 < 100 * rho || 100 * rho < 2 * 65536 then []
      else match ntcTemperature k.bias k.nominal k.beta rho 65536 with
        | none => []
        | some v =>
          (if bitOf k.enable 2 && decide (k.hotLimit < v) then [⟨3, p + 33, v⟩] else []) ++
            (if bitOf k.enable 3 && decide (v < k.coldLimit) then [⟨4, p + 33, v⟩] else [])
  volts.flatten ++ temps.flatten

/-- Was the same threshold crossed by the same channel? -/
def Crossing.same (a c : Crossing) : Bool := a.kind == c.kind && a.channel == c.channel

/-- Bedrock's wake tone goes out (R100), toward DU at a node that was turned round when it went to Sleep (R341). Choices: log 20 (DEDUCED, unsafe). -/
def Block.bedrockTone (b : Block) : Block := b.emit (.tone (if b.turned then .du else .dl) 20)

/-- A further tone while a confirmed crossing persists, not more often than once in 60 s (R100). now is Bedrock's clock in ms. -/
def Block.persistTone (b : Block) (found : List Crossing) (now : Nat) : Block :=
  let persists := b.bedrock.crossings.any fun c => found.any c.same
  let due := match b.bedrock.lastTone with
    | some l => decide (l + 60000 ≤ now)
    | none => true
  if persists && due then
    ((b.withBedrock { b.bedrock with lastTone := some now }) : Block).bedrockTone
  else b

/-- Hottest valid lane reading Bedrock took; the exclusions in force stay (R421). -/
def Block.hottestOf (b : Block) (lanes : List Int) : Int :=
  mostOf noReading (((List.range 37).filter fun k => !b.bit Ob.excludedThermometers k).map fun k => (lanes[k]?).getD noReading)

/-- Sleep balancing ends with a flag (R100, R102, R232, R422). -/
def Block.endBalancing (b : Block) (flag : Nat) : Block :=
  let b := b.switchesOff
  b.withBedrock { b.bedrock with balancing := false, flags := setBitTo b.bedrock.flags flag true }

/-- Lane temperatures in Sleep (R422). Choices: log 20 (DEDUCED, unsafe). -/
def Block.sleepHeat (b : Block) (lanes : List Int) : Block :=
  let hot := b.hottestOf lanes
  let b := if 1450 ≤ hot then b.endBalancing 7 else b
  if 1500 ≤ hot then b.enterShutdown hot else b

/-- Does Bedrock watch the cells now: in Sleep, with no wake sequence under way? -/
def Block.bedrockWatches (b : Block) : Bool := b.power.mode == .sleep && b.power.stage == .idle

/-- PERIODIC_CHECK (R99, R100, R422). The command is the whole check: switches are off while it runs, and conduct again after it unless it ends
sleep balancing; that time is not in the conduction its half reports (R232). Choices: log 20 (DEDUCED, unsafe). -/
def periodicCheck (cells therm lanes : List Int) (bedTime : Nat) (b : Block) : Block :=
  if !b.bedrockWatches then b
  else
    let found := b.bedrock.find cells therm
    let b := ((b.withBedrock { b.bedrock with firstCrossings := found }) : Block).persistTone found bedTime
    b.sleepHeat lanes

/-- Confirmed crossings (R100): the first is recorded with its flag; sleep balancing stops, a tone goes out. Choices: log 20 (DEDUCED, unsafe). -/
def Block.confirm (b : Block) (l : List Crossing) (bedTime : Nat) : Block :=
  match l with
  | [] => b
  | c :: _ =>
    let b := if b.bedrock.crossings.isEmpty then
        b.withBedrock { b.bedrock with flags := setBitTo b.bedrock.flags (c.kind - 1) true } else b
    let b := b.endBalancing 7
    let b : Block := b.withBedrock { b.bedrock with
      crossings := b.bedrock.crossings ++ l, lastTone := some bedTime, flags := setBitTo b.bedrock.flags 4 true }
    b.bedrockTone

/-- CROSSING_CONFIRMATION (R100): the check 1 s after a first crossing, again with the switches off while it runs; a crossing first seen on it gets a
second check of its own. Choices: log 20 (DEDUCED, unsafe). -/
def crossingConfirmation (cells therm : List Int) (bedTime : Nat) (b : Block) : Block :=
  if !b.bedrockWatches || b.bedrock.firstCrossings.isEmpty then b
  else
    let found := b.bedrock.find cells therm
    let known := fun c : Crossing => b.bedrock.crossings.any c.same
    let fresh := found.filter fun c => b.bedrock.firstCrossings.any c.same && !known c
    let first := found.filter fun c => !b.bedrock.firstCrossings.any c.same && !known c
    let b := ((b.withBedrock { b.bedrock with firstCrossings := first }) : Block)
    if fresh.isEmpty then b.persistTone found bedTime else b.confirm fresh bedTime

/-- The part of the cycle that ends (R232): what its channels conducted, in ms, is counted, and no switch conducts. -/
def Block.endSleepHalf (b : Block) (ms : Nat) : Block :=
  let counted := (List.range 32).map fun i =>
    let c := (b.bedrock.conduction[i]?).getD 0
    if (b.chan i).worked then c + min ms 499 else c
  let b := b.switchesOff.withBedrock { b.bedrock with conduction := counted }
  b.withGov { b.gov with ch := b.gov.ch.map fun c => { c with worked := false } }

/-- SLEEP_BALANCE_PHASE (R232): a half begins for the planned odd or even channels; none begins the millisecond in which no channel conducts.
ms is what the part that ends conducted; a wake, too, finds the half before it ended by this command. Choices: log 20 (DEDUCED, unsafe). -/
def sleepBalancePhase (odd : Option Bool) (ms : Nat) (b : Block) : Block :=
  if !b.bedrockWatches || !b.bedrock.balancing then b
  else
    let b := b.endSleepHalf ms
    match odd with
    | none => b
    | some first =>
      (List.range 32).foldl (fun (b : Block) (i : Nat) =>
        let mine := (if first then i % 2 == 0 else i % 2 == 1) && (b.bedrock.planned[i]?).getD 0 ≠ 0
        if mine then b.editCh i fun c => { c with on := true, worked := true } else b) b

/-- SLEEP_BALANCE_SECOND (R210, R232): S_n and SessionTimer of each planned channel count down; a channel whose S_n reaches 0 leaves the plan,
its switch off; the plan empties. -/
def sleepBalanceSecond (lanes : List Int) (b : Block) : Block :=
  if !b.bedrockWatches || !b.bedrock.balancing then b
  else
    let k := b.bedrock
    let b := (List.range 32).foldl (fun (b : Block) (i : Nat) =>
      if (k.planned[i]?).getD 0 = 0 then b
      else
        let v := b.nat (chKey Ob.sessionTimer i)
        let b := b.put (chKey Ob.sessionTimer i) (v - 1 : Nat)
        let b := if (k.planned[i]?).getD 0 = 1 then b.editCh i fun c => { c with on := false } else b
        if v = 1 then b.editCh i fun c => { c with state := 4 } else b) b
    let b : Block := b.withBedrock { k with planned := k.planned.map fun n => n - 1 }
    let b := if b.bedrock.planned.all (· == 0) then b.endBalancing 6 else b
    b.sleepHeat lanes

/-- THERMAL_SHUTDOWN (R420): two consecutive readings of 150.0 °C or more. Choices: log 25 (DEDUCED, unsafe). -/
def thermalShutdown (m : List Host.Cell) (b : Block) : List Host.Cell × Block :=
  if !b.awake || !b.hotTwice b.thermal.over150 then (m, b)
  else
    let r := finishPage m b
    (r.1, r.2.enterShutdown (b.get Ob.hottestLaneHottest))

/-- SHUTDOWN_TEMPERATURE_CHECK (R421): below 130.0 °C everywhere the node wakes; the peak and the duration are kept. -/
def shutdownTemperatureCheck (lanes : List Int) (slept : Nat) (b : Block) : Block :=
  if b.power.mode ≠ .shutdown || b.power.stage ≠ .idle then b
  else
    let hot := b.hottestOf lanes
    let b := b.put Ob.thermalRecordPeak (max (b.get Ob.thermalRecordPeak) hot)
    if hot < 1300 then b.startWake 7 slept else b

/-! ### The commands of the family -/

/-- POR_RELEASE (R75). -/
def execPorRelease (s : State) : Out := onBlock porRelease s

/-- POR_ASSERT (R75). -/
def execPorAssert (s : State) : Out := onBlock porAssert s

/-- VSTK_RANGE_CHECK (R75). -/
def execVstkRangeCheck (decivolts : Nat) (s : State) : Out := onBlock (vstkRangeCheck decivolts) s

/-- VIN_LOW (R77). -/
def execVinLow (s : State) : Out := onBlock vinLow s

/-- SUPPLY_FAIL (R77). -/
def execSupplyFail (s : State) : Out := onSwitching supplyFail s

/-- RAIL_WINDOW_FAULT (R407). -/
def execRailWindowFault (rail : Rail) (s : State) : Out := onBlock (railWindowFault rail) s

/-- PWR_EN_COMPARISON (R76). -/
def execPwrEnComparison (level : Bool) (s : State) : Out := onBlock (pwrEnComparison level) s

/-- SHIP (R83, R84). -/
def execShip (s : State) : Out := onBlockReading (commandRow 1 0) s

/-- SLEEP (R83). -/
def execSleep (s : State) : Out := onBlockReading (commandRow 2 0) s

/-- STANDBY (R83, R86). -/
def execStandby (s : State) : Out := onBlockReading (commandRow 4 0) s

/-- MEASURE (R83, R408). -/
def execMeasure (driversAck : Nat) (s : State) : Out := onBlockReading (commandRow 5 driversAck) s

/-- FULL (R83, R408). -/
def execFull (driversAck : Nat) (s : State) : Out := onBlockReading (commandRow 6 driversAck) s

/-- RESET (R83, R105). -/
def execReset (s : State) : Out := onBlockReading (commandRow 8 0) s

/-- WAKE_CHAIN (R83). -/
def execWakeChain (s : State) : Out := onBlockReading (commandRow 9 0) s

/-- TRANSITION_COMPLETE (R83). -/
def execTransitionComplete (s : State) : Out := onBlock transitionComplete s

/-- COMM_LOSS (R89). -/
def execCommLoss (t : Nat) (s : State) : Out := onBlockReading (fun m b => (commLoss t m b).noteEdges []) s

/-- WAKE_EVENT (R92). -/
def execWakeEvent (src : WakeSource) (slept : Nat) (s : State) : Out := onBlock (wakeEvent src slept) s

/-- EXTENDED_WAKE_EVENT (R96). -/
def execExtendedWakeEvent (src : WakeSource) (slept : Nat) (s : State) : Out := onBlock (extendedWakeEvent src slept) s

/-- DEFERRED_WAKE_START (R97). -/
def execDeferredWakeStart (slept : Nat) (s : State) : Out := onBlock (deferredWakeStart slept) s

/-- SUPPLY_ATTEMPT_TIMEOUT (R93). -/
def execSupplyAttemptTimeout (s : State) : Out := onBlock supplyAttemptTimeout s

/-- SUPPLY_ATTEMPT_RETRY (R93). -/
def execSupplyAttemptRetry (s : State) : Out := onBlock supplyAttemptRetry s

/-- VIN5_GOOD (R91). -/
def execVin5Good (s : State) : Out := onBlock vin5Good s

/-- RAIL_GOOD (R377). -/
def execRailGood (rail : Rail) (s : State) : Out := onBlock (railGood rail) s

/-- VSTK_IN_RANGE (R377). -/
def execVstkInRange (s : State) : Out := onBlock vstkInRange s

/-- CORE_RESET_RELEASE (R20, R30). -/
def execCoreResetRelease (strapHigh : Bool) (stackMv : Int) (s : State) : Out := onBlock (coreResetRelease strapHigh stackMv) s

/-- ENGINE_BOOT_COMPLETE (R91). -/
def execEngineBootComplete (report : BootReport) (t : Nat) (s : State) : Out := onBlockReading (engineBootComplete report t) s

/-- PERIODIC_CHECK (R99). -/
def execPeriodicCheck (cells therm lanes : List Int) (bedTime : Nat) (s : State) : Out :=
  onBlock (periodicCheck cells therm lanes bedTime) s

/-- CROSSING_CONFIRMATION (R100). -/
def execCrossingConfirmation (cells therm : List Int) (bedTime : Nat) (s : State) : Out :=
  onBlock (crossingConfirmation cells therm bedTime) s

/-- SLEEP_BALANCE_PHASE (R232). -/
def execSleepBalancePhase (odd : Option Bool) (ms : Nat) (s : State) : Out := onBlock (sleepBalancePhase odd ms) s

/-- SLEEP_BALANCE_SECOND (R232). -/
def execSleepBalanceSecond (lanes : List Int) (s : State) : Out := onBlock (sleepBalanceSecond lanes) s

/-- THERMAL_SHUTDOWN (R420). -/
def execThermalShutdown (s : State) : Out := onBoth thermalShutdown s

/-- SHUTDOWN_TEMPERATURE_CHECK (R421). -/
def execShutdownTemperatureCheck (lanes : List Int) (slept : Nat) (s : State) : Out :=
  onBlock (shutdownTemperatureCheck lanes slept) s

end Sys2Proof.Machine
end

