-- ==== Sys2Proof/Machine/Storage.lean ====
section
/-! DEFINITION. What runs in NVM after a command has been accepted (R423, R434, R440–R443): erasing, pages, read-back and what follows the end
of a program. -/

namespace Sys2Proof.Machine

/-- What follows when an NVM program has ended: a summary written for SHIP lets the node enter Ship (R83, R434), and a transition that
waited begins (R85). Choices: log 15 (DEDUCED, unsafe). -/
def Block.afterProgram (b : Block) (was : Option Program) (m : List Host.Cell) : Block :=
  match was with
  | none => b
  | some p =>
    if b.nvm.program.isSome then b
    else if p.thenShip then (if b.awake then b.enterShip else b)
    else b.resumePending m

/-- SECTOR_ERASE_COMPLETE (R440, R443). Choices: log 50 (DEDUCED, unsafe). -/
def sectorErase (m : List Host.Cell) (b : Block) : List Host.Cell × Block :=
  if !b.awake then (m, b)
  else
    let r := sectorEraseComplete m b
    (r.1, r.2.afterProgram b.nvm.program r.1)

/-- NVM_PAGE_PROGRAM (R423, R440). -/
def nvmPage (m : List Host.Cell) (b : Block) : List Host.Cell × Block :=
  if !b.awake then (m, b)
  else
    let r := pageProgram m b
    (r.1, r.2.afterProgram b.nvm.program r.1)

/-- SAVE_COMPLETE (R440, R442): the record is read back. -/
def saveComplete (r : ReadBack) (m : List Host.Cell) (b : Block) : Block :=
  if !b.awake then b else (b.saveReadBack r).afterProgram b.nvm.program m

/-- SUMMARY_WRITE_COMPLETE (R434, R438): the bank comes into force when it verifies. -/
def summaryWriteComplete (r : ReadBack) (m : List Host.Cell) (b : Block) : Block :=
  match b.nvm.program with
  | none => b
  | some p =>
    if !b.awake || p.kind ≠ .summary || !p.erased || decide (p.page < p.pages) then b
    else
      let b := b.noteReadBack p r 3
      let c := if r.passes then ((b.switchSummaryBank p).judgeEndurance).endProgram p 1 else b.endProgram p 3
      c.afterProgram (some p) m

/-! ### The commands of the family -/

/-- SECTOR_ERASE_COMPLETE (R440). -/
def execSectorEraseComplete (s : State) : Out := onBoth sectorErase s

/-- NVM_PAGE_PROGRAM (R440). -/
def execNvmPageProgram (s : State) : Out := onBoth nvmPage s

/-- SAVE_COMPLETE (R440). -/
def execSaveComplete (readBack : ReadBack) (s : State) : Out := onBlockReading (saveComplete readBack) s

/-- SUMMARY_WRITE_COMPLETE (R434). -/
def execSummaryWriteComplete (readBack : ReadBack) (s : State) : Out := onBlockReading (summaryWriteComplete readBack) s

/-- OPERATING_HOUR (R346). -/
def execOperatingHour (s : State) : Out := onBlock operatingHour s

end Sys2Proof.Machine
end

