-- ==== Sys2Proof/Machine/LinkPhys.lean ====
section
/-! DEFINITION. The Iswen link at line level (R94, R101, R272–R296, R320): held states and their repetition, wake tones, the responses that
pulses ask for, and the states of the two ports. A direction is named by its port: upper traffic arrives on the head-side port, lower
traffic on the other one (R272, R341). -/

namespace Sys2Proof.Machine

/-! ### Held states (R279–R284) -/

/-- Class of a held state of the upper direction by its length in UI (R280). -/
def upperClass (ui : Nat) : PulseClass :=
  if ui < 6 then .error
  else if ui ≤ 11 then .volts
  else if ui ≤ 22 then .snap
  else if ui ≤ 27 then .tone
  else if ui ≤ 45 then .temps
  else if ui ≤ 90 then .imped
  else if ui ≤ 181 then .status
  else if ui ≤ 362 then .sync
  else .error

/-- Class of a held state of the lower direction (R280). -/
def lowerClass (ui : Nat) : PulseClass :=
  if 363 ≤ ui then .alarm else if 23 ≤ ui && ui ≤ 27 then .tone else .error

/-- Key of a port's pulse errors, code errors and falls (R296). -/
def pulseErrorsKey : Port → Nat
  | .dl => Ob.lineErrorsDlPulseErrors
  | .du => Ob.lineErrorsDuPulseErrors
def codeErrorsKey : Port → Nat
  | .dl => Ob.lineErrorsDlCodeErrors
  | .du => Ob.lineErrorsDuCodeErrors
def fallsKey : Port → Nat
  | .dl => Ob.lineErrorsDlFalls
  | .du => Ob.lineErrorsDuFalls

/-- Does a held state on a port travel in the upper direction (R272, R341)? A head receives lower traffic only. Choices: log 37 (DEDUCED, unsafe). -/
def Block.upperOn (b : Block) (p : Port) : Bool := !b.isHead && b.link.headSide == p

/-- Is the port a head's DL on which the ring is whole: upper traffic returning there is ignored (R340)? -/
def Block.ringReturn (b : Block) (p : Port) : Bool := b.isHead && p == .dl && !b.splitOn

/-- An ALARM from above is repeated or absorbed (R283, R284). -/
def Block.repeatAlarm (b : Block) : Block := if b.phys.alarmBusy then b else b.sendAlarm

/-- A held state of the lower direction repeated on the head side (R283): an ALARM at its own length, a tone half-period at 25 UI, a pulse error
at the length received. None but an ALARM cuts a frame or an ALARM in progress there (R284, R286). -/
def Block.repeatLower (b : Block) (p : Port) (c : PulseClass) (ui : Nat) : Block :=
  if c == .alarm then b.repeatAlarm
  else if b.phys.alarmBusy || (b.sending p).isSome then b
  else if c == .tone then b.sendPulse p .tone
  else b.sendHeld p (.held p ui)

/-- PULSE_REPEAT (R280–R284, R290): a held state of a length in UI ends on a port. A piece of one that a transient broke may be shorter than
6 UI; it is a pulse error, where runs inside coded symbols are no held states and no command (R279). A pulse error of the upper direction goes on as
400 UI (R282). Choices: log 37 (DEDUCED, unsafe). -/
def pulseRepeat (p : Port) (ui : Nat) (b : Block) : Block :=
  if !b.awake || !b.transmits p || ui = 0 || b.ringReturn p then b
  else
    let c := if b.upperOn p then upperClass ui else lowerClass ui
    let b := if c == .error then b.count32 (pulseErrorsKey p) else b
    let b := if c == .error || c == .tone then b else b.heard p
    if b.isHead || !b.transmits p.other then b
    else if b.upperOn p then (if c == .error then b.sendHeld p.other (.held p.other 400) else b.sendPulse p.other c)
    else b.repeatLower p.other c ui

/-! ### Wake tones (R92, R94, R96, R101, R285, R286) -/

/-- May the head take a tone as a wake request: not before 1 ms has passed since the end of one of its own (R94)? In Sleep t is Bedrock's clock
in us. -/
def Block.takesTone (b : Block) (t : Nat) : Bool :=
  if b.awake then
    match b.phys.ownToneEnd with
    | some e => decide (1000 < chainDiff b.now e)
    | none => true
  else match b.bedrock.lastTone with
    | some l => decide (1000 * l + 1020 < t)
    | none => true

/-- The source a tone on a port is (R81). -/
def toneSource : Port → WakeSource
  | .dl => .toneDl
  | .du => .toneDu

/-- A node repeats a tone on its other port (R94, R286); a head repeats none. Choices: log 37 (DEDUCED, unsafe). -/
def Block.repeatTone (b : Block) (p : Port) (extended : Bool) : Block :=
  if b.isHead then b
  else if b.awake then
    if b.transmits p.other then b.sendTone p.other (if extended then 1200 else 20) else b
  else if b.power.mode == .sleep || b.power.mode == .shutdown then b.emit (.tone p.other 20)
  else b

/-- A head pulls WAKE low for a tone on DU, in any state (R101), and tells its host while it is awake (R365). -/
def Block.pullWake (b : Block) (p : Port) : Block :=
  if b.isHead && p == .du then
    let b : Block := b.withHost { b.host with wakeLow := true }
    if b.awake then b.attend 1 else b
  else b

/-- WAKE_TONE (R94, R285): in Ship only an extended tone is detected (R96). t is chain time, in Sleep Bedrock's clock in us. -/
def wakeTone (p : Port) (extended : Bool) (t slept : Nat) (b : Block) : Block :=
  let b := if b.awake then b.at t else b
  if b.power.mode = .off then b
  else if b.power.mode = .ship then (if extended then extendedWakeEvent (toneSource p) slept (b.pullWake p) else b)
  else if (b.awake && !b.transmits p) || (b.isHead && !b.takesTone t) then b
  else
    let b := (b.repeatTone p extended).pullWake p
    if extended then extendedWakeEvent (toneSource p) slept b else wakeEvent (toneSource p) slept b

/-! ### Responses to pulses (R320, R321) -/

/-- Has a node the right to answer pulses: a committed position, Standby or above (R320)? -/
def Block.answersPulses (b : Block) : Bool := b.awake && !b.isHead && b.positioned

/-- Must a VOLTS response wait for its window: PER_WINDOW, with a closed window that is not published (R320)? Choices: log 44 (DEDUCED, unsafe). -/
def Block.voltsMustWait (b : Block) : Bool :=
  b.nat (Ob.streamSchedule + 1) / 2 ^ 24 == 1 && !b.instantMode && b.win.closing.isSome

/-- The response to VOLTS, at a node or as the head's own record. -/
def Block.answerVolts (b : Block) : Block :=
  if b.voltsMustWait then b.withLink { b.link with voltsWaits := true } else b.respond 1 b.voltsPayload

/-- The response to a pulse of a class. -/
def Block.answer (b : Block) : StreamClass → Block
  | .volts => b.answerVolts
  | .temps => b.respond 3 b.tempsPayload
  | .imped => b.respond 4 b.impedPayload
  | .status => b.respond 5 b.statusPayload
  | .snap => b
  | .keeper => b

/-- A classified pulse at a node (R320). Choices: log 37 (DEDUCED, unsafe). -/
def classified (c : StreamClass) (t : Nat) (b : Block) : Block :=
  let b := b.at t
  let b := b.heard b.link.headSide
  if b.answersPulses then b.answer c else b

/-- STREAM_RESPONSE_FORM (R320): the window or the snapshot that a response waits for has been published. Choices: log 45 (DEDUCED, unsafe). -/
def streamResponseForm (c : StreamClass) (b : Block) : Block :=
  if !b.awake then b
  else
    let may := b.isHead || b.positioned
    match c with
    | .volts =>
      if !b.link.voltsWaits || b.win.closing.isSome then b
      else
        let b : Block := b.withLink { b.link with voltsWaits := false }
        if may then b.respond 1 b.voltsPayload else b
    | .snap =>
      if !b.link.snapWaits then b
      else
        let b : Block := b.withLink { b.link with snapWaits := false }
        if may then b.respond 2 b.snapPayload else b
    | .temps => b
    | .imped => b
    | .status => b
    | .keeper => b

/-! ### Port states (R291–R295) -/

/-- Key of a port's state and of its cause (R296). -/
def stateKey : Port → Nat
  | .dl => Ob.portStatusDlState
  | .du => Ob.portStatusDuState
def causeKey : Port → Nat
  | .dl => Ob.portStatusDlCause
  | .du => Ob.portStatusDuCause

/-- Code of a cause (R296). -/
def downCode : DownCause → Nat
  | .lossOfSignal => 1
  | .stuck => 2
  | .codeErrors _ => 3
  | .closed => 4

/-- The port's number in the data of 0x60 and 0x61 (R295, R348). -/
def portNumber : Port → Nat
  | .dl => 0
  | .du => 1

/-- A port enters or leaves UP: the generation counts (R294), and a head whose DU changed wants a round (R306). Choices: log 21 (DEDUCED, unsafe). -/
def Block.linkChanged (b : Block) (p : Port) : Block :=
  let b := (b.put Ob.generation ((b.nat Ob.generation + 1) % 256 : Nat)).put Ob.portStatusLastChange b.now
  if b.isHead && p == .du then b.withLink { b.link with roundWanted := true } else b

/-- A port stands for 0x61, or does no longer (R295). -/
def Block.setLost (b : Block) (p : Port) (on : Bool) : Block := match p with
  | .dl => b.withPhys { b.phys with dlLost := on }
  | .du => b.withPhys { b.phys with duLost := on }

/-- PORT_SIGNAL_DETECT (R291). -/
def portSignalDetect (p : Port) (b : Block) : Block :=
  if b.awake && b.get (stateKey p) = 2 then b.put (stateKey p) 3 else b

/-- PORT_TRAINED (R291, R294): 0x61 clears once no port stands for it; an ALARM that waited for the head-side port goes out (R387).
Choices: log 49 (DEDUCED, unsafe). -/
def portTrained (p : Port) (t : Nat) (b : Block) : Block :=
  if !b.awake || b.get (stateKey p) ≠ 3 then b
  else
    let b := (((b.at t).put (stateKey p) 4).linkChanged p).setLost p false
    let b := if b.phys.dlLost || b.phys.duLost then b else b.clearLive 0x61
    if b.flint.alarmWhenUp && b.link.headSide == p then
      ((b.withFlint { b.flint with alarmWhenUp := false }) : Block).sendAlarm
    else b

/-- TRAINING_FAIL (R291). -/
def trainingFail (p : Port) (b : Block) : Block :=
  if b.awake && b.get (stateKey p) = 3 then (b.put (stateKey p) 2).put (causeKey p) 5 else b

/-- PORT_DOWN (R292, R294, R295). Of the eight code errors that take a port down, those that no FRAME_RECEIVE has reported are counted here
(R296). Choices: log 37 (DEDUCED, unsafe). -/
def portDown (p : Port) (cause : DownCause) (t : Nat) (b : Block) : Block :=
  if !b.awake || b.get (stateKey p) ≠ 4 then b
  else
    let b := (b.at t).putAll [(stateKey p, 2), (causeKey p, downCode cause)]
    let b := (b.linkChanged p).count32 (fallsKey p)
    let b := match cause with
      | .codeErrors n => b.countUp (codeErrorsKey p) (min 8 n) (2 ^ 32 - 1)
      | .lossOfSignal => b
      | .stuck => b
      | .closed => b
    if cause = .closed then b.setLost p false
    else (b.setLost p true).raise 0x61 (portNumber p + 256 * downCode cause)

/-! ### The commands of the family -/

/-- SYNC (R118). -/
def execSync (t stampPs : Nat) (s : State) : Out := onBlock (sync t stampPs) s

/-- CHAIN_REFERENCE (R117, R341). -/
def execChainReference (port : Port) (nextSync : Nat) (s : State) : Out := onBlock (chainReference port nextSync) s

/-- VOLTS (R320). -/
def execVolts (t : Nat) (s : State) : Out := onBlock (classified .volts t) s

/-- TEMPS (R320). -/
def execTemps (t : Nat) (s : State) : Out := onBlock (classified .temps t) s

/-- IMPED (R327). -/
def execImped (t : Nat) (s : State) : Out := onBlock (classified .imped t) s

/-- STATUS (R320). -/
def execStatus (t : Nat) (s : State) : Out := onBlock (classified .status t) s

/-- PULSE_REPEAT (R282). -/
def execPulseRepeat (port : Port) (ui : Nat) (s : State) : Out := onBlock (pulseRepeat port ui) s

/-- WAKE_TONE (R285). -/
def execWakeTone (port : Port) (extended : Bool) (t slept : Nat) (s : State) : Out := onBlock (wakeTone port extended t slept) s

/-- PORT_SIGNAL_DETECT (R291). -/
def execPortSignalDetect (port : Port) (s : State) : Out := onBlock (portSignalDetect port) s

/-- PORT_TRAINED (R291). -/
def execPortTrained (port : Port) (t : Nat) (s : State) : Out := onBlock (portTrained port t) s

/-- TRAINING_FAIL (R291). -/
def execTrainingFail (port : Port) (s : State) : Out := onBlock (trainingFail port) s

/-- PORT_DOWN (R292). -/
def execPortDown (port : Port) (cause : DownCause) (t : Nat) (s : State) : Out := onBlock (portDown port cause t) s

/-- STREAM_RESPONSE_FORM (R320). -/
def execStreamResponseForm (cls : StreamClass) (s : State) : Out := onBlock (streamResponseForm cls) s

end Sys2Proof.Machine
end

