-- ==== Sys2Proof/Machine/Access.lean ====
section
/-! DEFINITION. Reads of the dictionary and the checks of writes (R30, R33–R49, R56–R66, and the write rules of the owning chapters): what
each object reads as, and the abort of a refused access in the order of R45. -/

namespace Sys2Proof.Machine

/-! ### The capability list (R59–R62) -/

/-- One feature of R61. -/
structure Feature where
  id : Nat
  xOnly : Bool
  version : Nat
  base : Nat
  span : Nat
  flags : Nat
  deriving DecidableEq, Repr

/-- The features of firmware 3.x on silicon B1, in ascending ID (R61). -/
def features : List Feature :=
  [⟨0x0001, false, 3, 0x1000, 0x0100, 0x0011⟩, ⟨0x0002, false, 3, 0x1100, 0x0100, 0x0011⟩, ⟨0x0003, false, 3, 0x1200, 0x0100, 0x0019⟩,
   ⟨0x0010, false, 3, 0x2000, 0x1000, 0x0011⟩, ⟨0x0020, false, 3, 0x3000, 0x1000, 0x0011⟩, ⟨0x0030, true, 1, 0x4000, 0x0010, 0x0015⟩,
   ⟨0x0031, true, 1, 0x4010, 0x0010, 0x0015⟩, ⟨0x0033, true, 1, 0x4020, 0x0001, 0x0015⟩, ⟨0x0034, true, 1, 0x4021, 0x000F, 0x0015⟩,
   ⟨0x0040, false, 3, 0x5000, 0x1000, 0x0011⟩, ⟨0x0050, false, 3, 0x6000, 0x1000, 0x0011⟩, ⟨0x0060, false, 3, 0x7000, 0x1000, 0x0001⟩,
   ⟨0x0070, false, 3, 0x8000, 0x1000, 0x0001⟩, ⟨0x0080, false, 3, 0x9000, 0x1000, 0x0011⟩, ⟨0x0090, false, 1, 0xA000, 0x0100, 0x0011⟩]

/-- The features of this node: the records from 0x0100 on (R61, R62). -/
def Block.records (b : Block) : List Feature := features.filter fun f => b.fuses.variantX || !f.xOnly

/-- Is an engine left stopped (R402)? -/
def Block.leftStopped (b : Block) (p : Nat → Bool) : Bool := b.diag.stopped.any p

/-- Has a fault taken the feature away (R64, R395)? -/
def Block.unavailable (b : Block) (id : Nat) : Bool :=
  (id == 0x0020 && b.leftStopped (· == 5)) || ([0x0030, 0x0031, 0x0033, 0x0034].contains id && b.leftStopped (· == 6))

/-- Has a fault reduced the feature (R64, R395)? -/
def Block.degraded (b : Block) (id : Nat) : Bool :=
  let has := fun l : List Reason => l.any b.hasReason
  (id == 0x0001 && has [.clockFallback, .pwrEn]) || (id == 0x0002 && b.hasReason .link) ||
    (id == 0x0010 &&
      (has [.singleSlice, .shadowServed, .channelInvalid, .refBasalt, .currentDegraded, .auxLaneLost, .calibration, .fifoDrops] ||
        b.leftStopped fun e => decide (e ≤ 4))) ||
    (id == 0x0020 && has [.balanceChannel, .balancePath, .throttleInput]) || (id == 0x0040 && has [.thermometer, .thermalEnforced]) ||
    (id == 0x0050 && b.hasReason .fltN) || (id == 0x0070 && b.hasReason .nvm) ||
    (id == 0x0080 && has [.shadowServed, .shadowLost, .diagReduced])

/-- Flags of a record now (R60, R64, R395). -/
def Block.featureFlags (b : Block) (f : Feature) : Nat :=
  if b.unavailable f.id then f.flags - 1 + 2 else if b.degraded f.id then f.flags + 2 else f.flags

/-- Entry of a capability record (R59): its type and value. -/
def Block.recordEntry (b : Block) (i sub : Nat) : Option (Ty × Int) :=
  match b.records[i]? with
  | none => none
  | some f =>
    if sub = 0 then some (.u8, 6)
    else if sub = 1 then some (.u16, f.id)
    else if sub = 2 then some (.u8, f.version)
    else if sub = 3 then some (.u16, f.base)
    else if sub = 4 then some (.u16, f.span)
    else if sub = 5 then some (.u16, b.featureFlags f)
    else if sub = 6 then some (.u16, if i + 1 < b.records.length then 0x0101 + i else 0)
    else none

/-! ### What a scalar entry reads as -/

/-- JournalPointers (R444). -/
def Journal.pointer (j : Journal) (sub : Nat) : Int :=
  if sub = 1 then j.oldest else if sub = 2 then j.next else if sub = 3 then j.cursor else if sub = 4 then j.entries.length
  else j.skipped

/-- IncidentState (R430, R444). -/
def Journal.incidentState (j : Journal) (sub : Nat) : Int :=
  match j.incidents.getLast? with
  | none => 0
  | some i =>
    if sub = 1 then (if i.closed then 2 else 1)
    else if sub = 2 then i.number
    else if sub = 3 then i.start
    else if sub = 4 then (if i.closed then 0 else min (j.next - i.start) protectedSize)
    else if sub = 5 then i.time
    else i.epoch

/-- Value of a scalar entry as a read returns it: fused and computed values, else the dictionary's. -/
def Block.valueAt (b : Block) (ix sub : Nat) : Int :=
  if ix = 0x0001 then (if b.fuses.variantX then 2 else 1)
  else if ix = 0x0003 then b.fuses.firmware
  else if ix = 0x0004 then (b.fuses.uid % 2 ^ 48 : Nat)
  else if ix = 0x0010 then b.records.length
  else if ix = 0x1021 then b.now
  else if ix = 0x1030 then b.engineLoad (sub - 1)
  else if ix = 0x1214 then b.canLoad
  else if ix = 0x300E then b.channelStateWord (sub - 1)
  else if ix = 0x2006 && sub = 2 && !b.isKeeper then 0
  else if ix = 0x2038 && !b.isKeeper then noValue
  else if ix = 0x4004 then b.impStatus (sub - 1)
  else if ix = 0x4020 && sub = 7 then b.autoState
  else if ix = 0x7001 then b.journal.pointer sub
  else if ix = 0x7002 then b.journal.incidentState sub
  else b.get (keyOf ix sub)

/-! ### What a DOMAIN reads as -/

/-- FactoryCalibration (R151). -/
def Fuses.domain (f : Fuses) : List Byte :=
  let i32 := bytesOfInt 4
  let l := bytesOf 2 1 ++ bytesOf 2 564 ++ bytesOf 6 f.uid ++ bytesOf 6 0 ++
    ((List.range 32).map fun k =>
      let c := (f.cal[k]?).getD ⟨0, 0, 0, 0⟩
      i32 c.offset ++ i32 c.gain ++ i32 c.alpha ++ i32 c.beta).flatten ++
    i32 f.narrowOffset ++ i32 f.narrowGain ++ i32 f.wideOffset ++ i32 f.wideGain ++ i32 f.auxOffset ++ i32 f.auxGain ++
    bytesOf 4 f.basalt25 ++ i32 f.basaltSlope
  l ++ bytesOf 4 (crc32c l)

/-- LimitLedger: quantity, unit, sense, limit, device, factor (R466). -/
def ledgerRow (k : Nat) : List Byte :=
  let row := fun (unit sense limit device factor : Nat) =>
    bytesOf 2 k ++ bytesOf 1 unit ++ bytesOf 1 sense ++ bytesOf 4 limit ++ bytesOf 4 device ++ bytesOf 2 factor ++ bytesOf 2 0
  if k = 1 then row 1 0 910 2000 220
  else if k = 2 then row 1 0 54500 108000 198
  else if k = 3 then row 2 0 3500 7000 200
  else if k = 4 then row 3 0 200 800 400
  else row 4 1 1287 1200 107

/-- PebbleRecord of a head (R346): for each position and type, 8 bytes. -/
def Block.pebbleDomain (b : Block) : List Byte :=
  ((List.range 64).map fun p =>
    ((List.range 7).map fun t =>
      match b.link.pebbles.find? fun h => h.position == p && h.type == t + 1 with
      | some h => bytesOf 1 h.type ++ bytesOf 6 h.value ++ bytesOf 1 (min h.age 255)
      | none => bytesOf 8 0).flatten).flatten

/-- DelayTable (R346): what the latest DELAYS brought, or, at a head, sent. -/
def Block.delayDomain (b : Block) : List Byte := ((List.range 63).map fun p => bytesOf 4 ((b.link.delays[p]?).getD 0)).flatten

/-- Bytes of a DOMAIN but JournalRead; a summary slot never written reads as an empty one (R435). -/
def Block.domainAt (b : Block) (m : List Host.Cell) (ix sub : Nat) : List Byte :=
  if ix = 0x1108 then b.delayDomain
  else if ix = 0x1122 then b.pebbleDomain
  else if ix = 0x1230 then (b.link.summary ++ bytesOf 40 0).take 40
  else if ix = 0x2016 then b.windowRecord
  else if ix = 0x2086 then b.fuses.domain
  else if ix = 0x4002 then b.impedanceDomain
  else if ix = 0x4010 then b.socTable
  else if ix = 0x4012 then b.tempCurve
  else if ix = 0x7004 then ((b.summarySlots m)[sub - 1]?).getD (bytesOf slotSize 0)
  else if ix = 0x9010 then ledgerRow sub
  else []

/-! ### The common steps of R45 -/

/-- Objects that answer 0x0604 at a head without cells (R30, R237): of the -X features, those with a sub for each cell, and so not 0x4002. Choices:
log 61 (DEDUCED, unsafe). -/
def cellSide (o : Obj) : Bool :=
  (0x2010 ≤ o.ix && o.ix ≤ 0x2013) || (0x3000 ≤ o.ix && o.ix ≤ 0x3016) || (xOnly o.ix && o.shape == .perCell)

/-- An object in a span that this role does not serve (R30, R60, R346, R375). -/
def Block.roleRefuses (b : Block) (o : Obj) : Bool :=
  (0x1200 ≤ o.ix && o.ix ≤ 0x12FF && !b.isHead) || (b.noCells && cellSide o)

/-- Is a sub-index present (R34, R35)? -/
def Block.hasSub (b : Block) (o : Obj) (sub : Nat) : Bool := match o.shape with
  | .simple => sub == 0
  | .record n => sub == 0xFF || decide (sub ≤ n)
  | .perCell => sub == 0xFF || decide (sub ≤ b.cells)
  | .perTap => sub == 0xFF || decide (sub ≤ b.cells + 1)

/-- Access of an entry in this role. -/
def Block.accessOf (b : Block) (e : Entry) : Acc := if b.isHead then e.accHead else e.accNode

/-- Entries that a sub-index addresses: one, or all (R35). -/
def Block.addressed (b : Block) (o : Obj) (sub : Nat) : List Nat :=
  if sub = 0xFF && o.shape != .simple then b.subsOf o else [sub]

/-! ### Reads (R45, R46, R50) -/

/-- State conditions of the owning chapters on a read (R72, R172, R270, R346). Choices: log 38 (DEDUCED, unsafe). -/
def Block.readRefused (b : Block) (ix : Nat) : Bool :=
  (0xA001 ≤ ix && ix ≤ 0xA003 && !(b.on Ob.instantCompat && b.get Ob.windowMode == 4)) ||
  ((ix = 0x2010 || ix = 0x2011 || ix = 0x2012 || ix = 0x2014 || ix = 0x2015 || ix = 0x2016) && b.instantMode) ||
    (ix = 0x1122 && !b.isHead) || (ix = 0x4010 && b.socTable.isEmpty) || (ix = 0x4012 && b.tempCurve.isEmpty)

/-- Steps 1 to 7 of R45 for a read of an object of the table. -/
def Block.readObj (b : Block) (m : List Host.Cell) (o : Obj) (sub : Nat) : Except Nat (List Byte) :=
  if !b.hasSub o sub then .error 0x0602
  else
    let subs := b.addressed o sub
    if subs.any fun k => match o.entry k with
        | some e => b.accessOf e == .wo
        | none => false then .error 0x0603
    else if b.roleRefuses o || b.readRefused o.ix then .error 0x0604
    else if sub = 0 && o.shape != .simple then .ok (bytesOf 1 (b.countOf o))
    else .ok ((subs.map fun k => match o.entry k with
      | some e => if e.ty == .domain then b.domainAt m o.ix k else e.ty.encode (b.valueAt o.ix k)
      | none => []).flatten)

/-- A read of a capability record (R59). -/
def Block.readRecord (b : Block) (i sub : Nat) : Except Nat (List Byte) :=
  if b.records.length ≤ i then .error 0x0601
  else if sub = 0xFF then
    .ok ((([1, 2, 3, 4, 5, 6].filterMap (b.recordEntry i)).map fun x => x.1.encode x.2).flatten)
  else match b.recordEntry i sub with
    | some x => .ok (x.1.encode x.2)
    | none => .error 0x0602

/-- The bytes a read answers, or its abort, but for lengths and JournalRead (R45). Choices: log 38 (DEDUCED, unsafe). -/
def Block.readBytes (b : Block) (m : List Host.Cell) (ix sub : Nat) : Except Nat (List Byte) :=
  if 0xF000 ≤ ix then .error 0x0601
  else if xOnly ix && !b.fuses.variantX then .error 0x060C
  else if 0x0100 ≤ ix && ix ≤ 0x01FF then b.readRecord (ix - 0x0100) sub
  else match findObj ix with
    | none => .error 0x0601
    | some o => b.readObj m o sub

/-- What a completed read changes: WAKE_REQUEST falls once WakeRecord is read (R326). -/
def Block.wasRead (b : Block) (ix : Nat) : Block :=
  if ix = 0x1005 then b.withPower { b.power with wakeRequest := false } else b

/-- An expedited read (R46): 1 to 4 bytes. JournalRead is read by segments only. -/
def Block.expeditedRead (b : Block) (m : List Host.Cell) (ix sub : Nat) : Except Nat (List Byte) :=
  match b.readBytes m ix sub with
  | .error a => .error a
  | .ok l => if ix = 0x7000 || 4 < l.length then .error 0x0606 else .ok l

/-! ### Writes (R45, R47, R49) -/

/-- May an entry be written at all in this role (R35, R39)? -/
def Block.writable (b : Block) (e : Entry) : Bool :=
  let a := b.accessOf e
  e.pers != .f && (a == .rw || a == .wo || a == .rws || a == .rwu)

/-- Size of an entry in bytes; the tables of a DOMAIN have one length each (R257, R259). -/
def entrySize (ix : Nat) (e : Entry) : Nat :=
  if ix = 0x4010 then 404 else if ix = 0x4012 then 148 else e.ty.size

/-- The size of a write (R35, R47, R49). -/
def Block.writeSize (b : Block) (o : Obj) (sub : Nat) : Nat :=
  ((b.addressed o sub).map fun k => match o.entry k with
    | some e => entrySize o.ix e
    | none => 1).foldl (· + ·) 0

/-- Writable entries a write reaches, each with its bytes (R35). -/
def Block.slices (b : Block) (o : Obj) : List Nat → List Byte → List (Nat × Entry × List Byte)
  | [], _ => []
  | k :: t, l => match o.entry k with
    | none => b.slices o t (l.drop 1)
    | some e =>
      let n := entrySize o.ix e
      let rest := b.slices o t (l.drop n)
      if b.writable e then (k, e, l.take n) :: rest else rest

/-- State conditions of the owning chapters on a write that need no value (R39, R41, R346, R442). Choices: log 38 (DEDUCED, unsafe). -/
def Block.writeState (b : Block) (o : Obj) (es : List Entry) : Bool :=
  b.roleRefuses o || (o.ix = 0x1102 && !b.isHead) ||
    ((es.any fun e => b.accessOf e == .rws || b.accessOf e == .rwu) && b.power.mode != .standby) ||
    ((o.ix = 0x1F00 || o.ix = 0x8001) && b.power.mode != .standby)

/-- Steps 2 to 7 of R45 for a write: the object, or the abort. -/
def Block.writeTarget (b : Block) (ix sub : Nat) : Except Nat Obj :=
  if 0xF000 ≤ ix then .error 0x0601
  else if xOnly ix && !b.fuses.variantX then .error 0x060C
  else if 0x0100 ≤ ix && ix ≤ 0x01FF then
    if b.records.length ≤ ix - 0x0100 then .error 0x0601
    else if sub ≤ 6 || sub = 0xFF then .error 0x0603
    else .error 0x0602
  else match findObj ix with
    | none => .error 0x0601
    | some o =>
      if !b.hasSub o sub then .error 0x0602
      else
        let es := ((b.addressed o sub).filterMap o.entry).filter b.writable
        if es.isEmpty then .error 0x0603
        else if (es.any Entry.rwu) && b.get Ob.unlockState ≠ 2 then .error 0x0603
        else if b.writeState o es then .error 0x0604
        else .ok o

/-- Step 8 for a length against the object's size (R47, R49); most is the longest the kind of transfer carries. Choices: log 38 (DEDUCED, unsafe). -/
def Block.lengthAbort (b : Block) (o : Obj) (sub n most : Nat) : Option Nat :=
  let size := b.writeSize o sub
  if n = 0 then some 0x0606
  else if most < n then some 0x0607
  else if n < size then some 0x0606
  else if size < n then some 0x0607
  else none

/-- A value that the Meaning columns and the owning chapters refuse with 0x0605, beyond its range (R25, R182, R234, R236, R365, R392, R411,
R433). -/
def Block.valueRefused (b : Block) (ix sub : Nat) (v : Int) : Bool :=
  if ix = 0x3000 then decide ((2 ^ b.cells : Nat) ≤ v)
  else if ix = 0x1203 then bitOf v.toNat 1
  else if ix = 0x2040 then decide (8 < v) || (v == 7 && sub != 6) || v == 8
  else if ix = 0x2032 then decide (v ≤ 63) && decide (b.get Ob.censusResultTop < v)
  else if ix = 0x300B then v.toNat &&& governorSticky != v.toNat
  else if ix = 0x300E then v.toNat &&& channelSticky != v.toNat
  else if ix = 0x6004 then
    let scope := v / 256
    !((scope == 0 && assigned (v % 256).toNat) || (scope == 1 && v % 256 == 0))
  else if ix = 0x6009 then bitOf v.toNat 1
  else if ix = 0x7001 then !(decide ((b.journal.oldest : Int) ≤ v) && decide (v ≤ b.journal.next))
  else false

/-- The values of a write decoded, each with its key. -/
def decodeSlices (ix : Nat) (l : List (Nat × Entry × List Byte)) : List (Nat × Int) :=
  l.map fun x => (keyOf ix x.1, x.2.1.ty.decode x.2.2)

/-- Step 7's conditions that depend on the value: THR without its pin (R220). -/
def Block.valueState (b : Block) (vals : List (Nat × Int)) : Bool :=
  vals.any fun x => x.1 == Ob.throttleSourceSource && (x.2 == 2 || x.2 == 3) && b.get (Ob.auxFunction + 6) != 7

/-- Step 9 (R37, R38): every value in type and range, and the ties of the object as it would stand. -/
def Block.valuesOk (b : Block) (o : Obj) (sl : List (Nat × Entry × List Byte)) : Bool :=
  if o.ix = 0x4010 then sl.all fun x => socTableOk x.2.2
  else if o.ix = 0x4012 then sl.all fun x => tempCurveOk x.2.2
  else
    let vals := decodeSlices o.ix sl
    vals.all (fun x => valueOk x.1 x.2 && !b.valueRefused o.ix (x.1 % 256) x.2) && (b.putAll vals).tiesOk o.ix

/-- Objects whose write at a head needs the positions' consent and is distributed (R331). -/
def chainObjects : List Nat := [0x1105, 0x1110, 0x2032]

/-- The committed positions beside the head's own (R312, R356). -/
def Block.committed (b : Block) : List Nat :=
  let top := b.nat Ob.censusResultTop
  if top ≤ 63 then (List.range top).map (· + 1) else []

/-- The positions whose admission check a write at the head concerns (R66, R182, R331): the one that CurrentKeeper names, or all.
Choices: log 40 (DEDUCED, unsafe). -/
def Block.concerned (b : Block) (ix : Nat) (vals : List (Nat × Int)) : List Nat :=
  if ix = 0x2032 then b.committed.filter fun p => vals.any fun x => x.2 == (p : Int)
  else if chainObjects.contains ix then b.committed
  else []

/-- Step 10 (R25, R220, R266, R331, R440): the resource is held. Choices: log 40 (DEDUCED, unsafe). -/
def Block.heldAbort (b : Block) (ix : Nat) (vals : List (Nat × Int)) : Bool :=
  if ix = 0x2040 then
    vals.any fun x =>
      (x.2 != 0 && b.get x.1 != 0 && b.get x.1 != x.2) ||
        (x.1 == Ob.auxFunction + 6 && x.2 == 0 && b.get x.1 == 7 && b.get Ob.throttleSourceSource != 1)
  else if ix = 0x3001 then b.on Ob.autoBalanceEnable && vals.any fun x => b.managed (x.1 % 256 - 1)
  else if ix = 0x8000 || ix = 0x8001 then b.nvm.program.isSome
  else chainObjects.contains ix && b.link.headWrite.isSome

/-- Step 11 (R57, R219, R378): a fault forbids the write. -/
def Block.faultAbort (b : Block) (ix : Nat) (vals : List (Nat × Int)) : Bool :=
  let safe := decide (b.safeHold ≠ 0)
  if ix = 0x3000 then (safe || b.unavailable 0x0020) && vals.any fun x => x.2 != 0
  else if ix = 0x4001 then (safe || b.unavailable 0x0030) && vals.any fun x => x.2 == 2
  else if ix = 0x4020 then (safe || b.unavailable 0x0033) && vals.any fun x => x.1 == Ob.autoBalanceEnable && x.2 == 1
  else if ix = 0x6000 then decide (4 ≤ b.safeHold)
  else false

/-- Steps 9 to 13 of R45 for data of the right length: the values to write, or the abort. -/
def Block.judgeValues (b : Block) (o : Obj) (sub : Nat) (data : List Byte) : Except Nat (List (Nat × Entry × List Byte)) :=
  let sl := b.slices o (b.addressed o sub) data
  let vals := if o.ix = 0x4010 || o.ix = 0x4012 then [] else decodeSlices o.ix sl
  if b.valueState vals then .error 0x0604
  else if o.ix = 0x8001 && vals.any (fun x => x.2 == 2) && b.get Ob.unlockState ≠ 2 then .error 0x0603
  else if !b.valuesOk o sl then .error 0x0605
  else if b.heldAbort o.ix vals then .error 0x0609
  else if b.faultAbort o.ix vals then .error 0x060A
  else if admissionObjects.contains o.ix && !(b.putAll vals).admitted then .error 0x0608
  else if (o.ix = 0x8000 || o.ix = 0x8001) && (b.live 0x82 || !b.inWindow) then .error 0x060B
  else .ok sl

/-- All checks of a write (R45, steps 2 to 13). Choices: log 38 (DEDUCED, unsafe). -/
def Block.checkWrite (b : Block) (ix sub : Nat) (data : List Byte) (most : Nat) : Except Nat (Obj × List (Nat × Entry × List Byte)) :=
  match b.writeTarget ix sub with
  | .error a => .error a
  | .ok o => match b.lengthAbort o sub data.length most with
    | some a => .error a
    | none => match b.judgeValues o sub data with
      | .error a => .error a
      | .ok sl => .ok (o, sl)

end Sys2Proof.Machine
end

