-- ==== Sys2Proof/Machine/Writes.lean ====
section
/-! DEFINITION. Writes to the dictionary (R25, R35, R41–R45, R54, R55, R171, R182, R185, R211, R219, R220, R226, R236, R257, R259, R331, R340,
R378, R392, R411, R433, R437, R440, R442, R474): what an accepted write changes beside the entry itself, Unlock, and the writes of a head that
wait for its positions. -/

namespace Sys2Proof.Machine

/-- How a write ended: done, refused with an abort, or waiting for the positions' checks (R331). -/
inductive Verdict where
  | done
  | refused (abort : Nat)
  | waits
  deriving DecidableEq, Repr

/-! ### Unlock (R41, R42) -/

/-- Whether the write that armed Unlock is the last write received (R41). -/
def Block.armedLast (b : Block) (v : Bool) : Block := b.withAccess { b.access with armed := v }

/-- An accepted access to Unlock: its abort, and the state after it. Choices: log 39 (DEDUCED, unsafe). -/
def Block.unlockWritten (b : Block) (v : Nat) : Verdict × Block :=
  if v = 0x5A3C then (.done, (b.put Ob.unlockState 1).armedLast true)
  else if v = 0xC3A5 then
    if b.get Ob.unlockState = 1 && b.access.armed then (.done, b.put Ob.unlockState 2) else (.refused 0x0605, b.put Ob.unlockState 0)
  else (.done, b.put Ob.unlockState 0)

/-- A write to Unlock. One refused for its length or state leaves UnlockState as it is, but an arming write before it is no longer the last
write received, so it cannot be confirmed (R41). Choices: log 39 (DEDUCED, unsafe). -/
def Block.writeUnlock (b : Block) (sub : Nat) (data : List Byte) (most : Nat) : Verdict × Block :=
  match b.writeTarget 0x1F00 sub with
  | .error a => (.refused a, b.armedLast false)
  | .ok o => match b.lengthAbort o sub data.length most with
    | some a => (.refused a, b.armedLast false)
    | none => b.unlockWritten (natOf data)

/-! ### Effects by object -/

/-- The values applied one by one; f takes the entry's sub-index less 1 and the value. -/
def Block.eachValue (b : Block) (vals : List (Nat × Int)) (f : Block → Nat → Int → Block) : Block :=
  vals.foldl (fun (b : Block) (x : Nat × Int) => f b (x.1 % 256 - 1) x.2) b

/-- Is an entry of the dictionary above the count of its array (R35)? -/
def Block.aboveCount (b : Block) (key : Nat) : Bool := match findObj (key / 256) with
  | none => false
  | some o => match o.shape with
    | .perCell => decide (b.cells < key % 256)
    | .perTap => decide (b.cells + 1 < key % 256)
    | .simple => false
    | .record _ => false

/-- CellCount takes a value: entries above the new count are discarded, their sessions end (R35, R212); entries that come back stand at
their defaults, the paths at the present seed (R205, R234). The model's choices: CellHealth, which has no default, speaks of the lane in bits 0 to
6, which stay with it (R139, R163), and of the latest window above them, which clear; BalanceEnable, one word for all channels, keeps its bits above
a lowered count. Choices: log 66 (DESIGN CHOICE, unsafe). -/
def Block.cellCountWritten (b : Block) (v : Int) : Block :=
  let old := b.cells
  let b := (b.put Ob.cellCount v).trimChannels
  let b : Block := b.withDict (b.dict.filter fun e => e.1 / 256 == Ob.cellHealth / 256 || !b.aboveCount e.1)
  let b := (List.range 32).foldl (fun b i =>
    if b.cells ≤ i then b.put (chKey Ob.cellHealth i) (b.nat (chKey Ob.cellHealth i) % 128 : Nat) else b) b
  let soc := (List.range 32).map fun i => if i < b.cells then (b.imp.soc[i]?).getD .unknown else SocCell.unknown
  ((b.withImp { b.imp with soc := soc }) : Block).seedPaths old

/-- BalanceRemoved of a channel cleared: the anchors of its state of charge keep their difference (R103, R260). Choices: log 41 (DEDUCED, unsafe). -/
def Block.removedCleared (b : Block) (i : Nat) : Block :=
  let old := b.removedUc i
  let b := (b.put (chKey Ob.balanceRemoved i) 0).editCh i fun c => { c with removed := 0 }
  let soc := editAt b.imp.soc i fun c => { c with
    removed := c.removed - old
    point := c.point.map fun p => { p with removed := p.removed - old } }
  b.withImp { b.imp with soc := soc }

/-- The running charge preset (R185). -/
def Block.chargePreset (b : Block) (v : Int) : Block :=
  let d := v - b.get Ob.chargeCounter
  (b.put Ob.chargeCounter v).shiftAnchors d

/-- Window settings take effect at the next boundary of a node that measures, else with the next start (R171, R173). -/
def Block.windowSettingsWritten (b : Block) : Block :=
  if b.measuring then b.withWin { b.win with changed := true } else b

/-- An AX pin takes a function (R25, R424): what was counted of its conversions is forgotten, and with the last THERMISTOR pin both advisories go.
Choices: log 41 (DEDUCED, unsafe). -/
def Block.functionWritten (b : Block) (k : Nat) (v : Int) : Block :=
  let key := Ob.auxFunction + k + 1
  if b.get key = v then b
  else
    let b := b.put key v
    let b : Block := b.withAux { b.aux with pins := b.aux.pins.set k .rest }
    let th := b.thermal
    let b : Block := b.withThermal { th with
      chargeOut := th.chargeOut.set k 0, chargeIn := th.chargeIn.set k 0, dischargeOut := th.dischargeOut.set k 0
      dischargeIn := th.dischargeIn.set k 0 }
    let b := b.putBit Ob.chargeInhibitPins k false
    let b := if b.thermistors.isEmpty then b.dropAdvisories else b
    let b := if b.aux.pins.any fun p => p.hotLive || p.shortLive then b else b.clearLive 0x04
    if b.aux.pins.any fun p => p.coldLive || p.openLive then b else b.clearLive 0x05

/-- RingMode at the head (R293, R296, R340): its DL is enabled, or closed, disabled and split operation ended. Choices: log 40 (DEDUCED, unsafe). -/
def Block.ringModeWritten (b : Block) (v : Int) : Block :=
  let b := b.put Ob.ringMode v
  let st := b.get Ob.portStatusDlState
  if v = 1 then (if st = 1 then b.put Ob.portStatusDlState 2 else b)
  else
    let b := if st = 4 then ((b.emit (.k237 .dl)).linkChanged .dl).count32 (fallsKey .dl) else b
    let b := (b.put Ob.portStatusDlState 1).setLost .dl false
    let b := if b.phys.duLost then b else b.clearLive 0x61
    if b.splitOn then
      ((b.withLink { b.link with split := none, lacked := [], roundWanted := true }) : Block).putBit Ob.censusResultFlags 3 false
    else b

/-- What the defaults that RestoreDefaults brings change at once (R55, R442). Choices: log 41 (DEDUCED, unsafe). -/
def Block.defaultsApplied (b : Block) : Block :=
  let b := (b.askAveraging.windowSettingsWritten).judgeDiag
  let b := b.throttleSourceWritten (b.get Ob.throttleSourceSource)
  let b := ((List.range 4).foldl (fun (b : Block) (k : Nat) => b.entryChanged k) b).dropSoc.dropTemps
  let b := if b.isHead then b.ringModeWritten (b.get Ob.ringMode) else b.followRing
  b.withHost { b.host with canPending := b.isHead }

/-- RestoreDefaults (R442). -/
def Block.restoreWritten (b : Block) (v : Int) : Block :=
  ((b.acceptRestore (v == 2)).keeperMoved b.isKeeper).defaultsApplied

/-- The effect of accepted scalar values on an object. -/
def Block.applyValues (b : Block) (ix : Nat) (vals : List (Nat × Int)) : Block :=
  let one := (vals.headD (0, 0)).2
  if ix = 0x1011 then b.cellCountWritten one
  else if ix = 0x1021 then b.chainTimeWritten one.toNat
  else if ix = 0x1102 then b.withLink { b.link with roundWanted := true, splitEnds := b.splitOn }
  else if ix = 0x1105 then b.ringModeWritten one
  else if ix = 0x1210 || ix = 0x1211 then
    let b := b.putAll vals
    b.withHost { b.host with canPending := true }
  else if ix = 0x2000 then (b.putAll vals).askAveraging
  else if ix = 0x2001 || ix = 0x2002 || ix = 0x2003 || ix = 0x2005 then (b.putAll vals).windowSettingsWritten
  else if ix = 0x2032 then (b.putAll vals).keeperMoved b.isKeeper
  else if ix = 0x2035 then b.chargePreset one
  else if ix = 0x2040 then b.eachValue vals Block.functionWritten
  else if ix = 0x3000 then b.enableWritten one
  else if ix = 0x3001 then b.eachValue vals Block.targetWritten
  else if ix = 0x3003 then b.eachValue vals fun b i _ => b.removedCleared i
  else if ix = 0x3005 then b.eachValue vals Block.timerWritten
  else if ix = 0x3006 then
    let b := b.putAll vals
    if vals.any fun x => x.1 == Ob.throttleSourceSource then b.throttleSourceWritten (b.get Ob.throttleSourceSource) else b
  else if ix = 0x3009 then
    b.eachValue vals fun b i v => (b.put (chKey Ob.pathResistance i) v).editCh i fun c => { c with pathFraction := 0, atBound := false }
  else if ix = 0x300B then b.governorFlagsCleared one.toNat
  else if ix = 0x300E then b.eachValue vals fun b i v => b.channelStateCleared i v.toNat
  else if ix = 0x3011 then b.bleedResistorWritten one
  else if ix = 0x4000 || ix = 0x4001 then
    vals.foldl (fun (b : Block) (x : Nat × Int) =>
      if b.get x.1 = x.2 then b else (b.put x.1 x.2).entryChanged (x.1 % 256 - 1)) b
  else if ix = 0x6004 then b.acknowledge one.toNat
  else if ix = 0x6009 then if bitOf one.toNat 0 then b.putBit Ob.faultFlags 0 false else b
  else if ix = 0x7001 then b.withJournal { b.journal with cursor := one.toNat }
  else if ix = 0x8000 then b.acceptSave
  else if ix = 0x8001 then b.restoreWritten one
  else if ix = 0x9001 then
    let b := b.putAll vals
    b.judgeDiag
  else b.putAll vals

/-- The effect of the slices of an accepted write: a table of its own, or values. -/
def Block.applySlices (b : Block) (ix : Nat) (sl : List (Nat × Entry × List Byte)) : Block :=
  let bytes := (sl.map fun x => x.2.2).flatten
  if ix = 0x4010 then ((b.withSocTable bytes) : Block).dropSoc
  else if ix = 0x4012 then ((b.withTempCurve bytes) : Block).dropTemps
  else b.applyValues ix (decodeSlices ix sl)

/-- CheckCfg takes one record per written P entry (R44, R436). Choices: log 41 (DEDUCED, unsafe). -/
def Block.snoopCfg (b : Block) (ix : Nat) (sl : List (Nat × Entry × List Byte)) : Block :=
  sl.foldl (fun (b : Block) (x : Nat × Entry × List Byte) =>
    if x.2.1.pers = .p then b.put Ob.checkCfg (crcFeed (b.nat Ob.checkCfg) (bytesOf 2 ix ++ bytesOf 1 x.1 ++ x.2.2)) else b) b

/-- An accepted write applied (R44, R55, R405, R436); what the head sets for its chain goes out (R331). -/
def Block.applyWrite (b : Block) (o : Obj) (sl : List (Nat × Entry × List Byte)) : Block :=
  let b := (b.applySlices o.ix sl).snoopCfg o.ix sl
  let b : Block := b.withNvm { b.nvm with corrupted := b.nvm.corrupted.filter (· != o.ix) }
  let b := if b.isHead && chainObjects.contains o.ix then b.sendChainConfig else b
  b.noteEdges []

/-! ### The whole access -/

/-- The CHAIN_CONFIG image as a write would leave it. -/
def Block.imageWith (b : Block) (ix : Nat) (sl : List (Nat × Entry × List Byte)) : List Byte :=
  (b.putAll (decodeSlices ix sl)).chainImage

/-- The header and data of a chain command (R316). -/
def commandPayload (op ix sub length seg : Nat) (data : List Byte) : List Byte :=
  bytesOf 1 op ++ bytesOf 1 sub ++ bytesOf 2 ix ++ bytesOf 2 length ++ bytesOf 1 seg ++ bytesOf 1 0 ++ data

/-- The port on which the head reaches a position (R342). -/
def Block.portFor (b : Block) (p : Nat) : Port := match b.link.split with
  | some s => if s < p then .dl else .du
  | none => .du

/-- A COMMAND frame leaves. -/
def Block.sendCommand (b : Block) (p seq : Nat) (payload : List Byte) : Block :=
  b.sendOn (b.portFor p) (frameOf (headerOf 2 p 0 0 seq) payload)

/-- Time of a frame with a payload, in ns (R300). -/
def frameTime (payload : List Byte) : Nat := (payload.length + 8) * 200

/-- Commands outstanding in the chain (R319). -/
abbrev commandsAtOnce : Nat := 8

/-- May the command at a place in the list leave now: none to its position and fewer than eight in the chain (R319), no round (R306), and its end
well before the next SYNC (R116)? -/
def Block.maySend (b : Block) (c : Outstanding) : Bool :=
  let sent := b.link.commands.filter fun x => x.seq.isSome
  c.seq.isNone && b.link.round.isNone && b.syncRoom (frameTime c.payload) && decide (sent.length < commandsAtOnce) && sent.all fun x => x.position != c.position

/-- The command at place i leaves, if it may. -/
def Block.dispatchOne (b : Block) (i : Nat) : Block := match b.link.commands[i]? with
  | none => b
  | some c =>
    if !b.maySend c then b
    else
      let seq := (b.link.commandSeq[c.position]?).getD 0
      let l := b.link
      let b := b.withLink { l with
        commands := l.commands.set i { c with seq := some seq, attempts := 1 }
        commandSeq := editAt l.commandSeq c.position fun n => (n + 1) % 65536 }
      b.sendCommand c.position seq c.payload

/-- Every command that may leave does, in the order asked. -/
def Block.dispatch (b : Block) : Block := (List.range b.link.commands.length).foldl (fun (b : Block) (i : Nat) => b.dispatchOne i) b

/-- A command of the head waits to go to a position (R319). -/
def Block.askPosition (b : Block) (p : Nat) (payload : List Byte) (w : Waiter) : Block :=
  b.withLink { b.link with commands := b.link.commands ++ [⟨p, none, payload, 0, w, false⟩] }

/-- The head asks the positions a write concerns for their consent (R331). Choices: log 40 (DEDUCED, unsafe). -/
def Block.askConsent (b : Block) (who : Option Carrier) (ix sub : Nat) (data : List Byte) (image : List Byte) (ps : List Nat) : Block :=
  let b := b.withLink { b.link with headWrite := some ⟨who, ix, sub, data, ps, false, false⟩ }
  (ps.foldl (fun (b : Block) (p : Nat) => b.askPosition p (commandPayload 8 0 0 56 0 image) .configCheck) b).dispatch

/-- A write of PowerCommand (R83, R84). Which drivers acknowledge the dry switch-off of R408 comes from outside: free values. Choices: log 6 (DESIGN
CHOICE, safe). -/
def Block.writePower (b : Block) (m : List Host.Cell) (sub : Nat) (data : List Byte) (most : Nat) : Verdict × Block :=
  match b.writeTarget 0x1001 sub with
  | .error a => (.refused a, b)
  | .ok o => match b.lengthAbort o sub data.length most with
    | some a => (.refused a, b)
    | none =>
      let code := natOf data
      let r := powerCommand code (Config.freeNat b.free 201 % 2 ^ 32) m b
      match r.1 with
      | some a => (.refused a, r.2.noteEdges [])
      | none => (.done, ((if code = 5 || code = 6 then r.2.withFree (b.free + 1) else r.2) : Block).noteEdges [])

/-- A write to any object but Unlock and PowerCommand, received from a host carrier or otherwise. -/
def Block.writeObject (b : Block) (ix sub : Nat) (data : List Byte) (most : Nat) (who : Option Carrier) : Verdict × Block :=
  match b.checkWrite ix sub data most with
  | .error a => (.refused a, b)
  | .ok (o, sl) =>
    let ps := if b.isHead then b.concerned ix (decodeSlices ix sl) else []
    if !ps.isEmpty then (.waits, b.askConsent who ix sub data (b.imageWith ix sl) ps)
    else (.done, b.applyWrite o sl)

/-- A write received (R41, R42, R45): any object but Unlock disarms an armed unlock. most is 4 of an expedited write. -/
def Block.writeAccess (b : Block) (m : List Host.Cell) (ix sub : Nat) (data : List Byte) (most : Nat) (who : Option Carrier) :
    Verdict × Block :=
  if ix = 0x1F00 then b.writeUnlock sub data most
  else if ix = 0x1001 then b.disarm.writePower m sub data most
  else b.disarm.writeObject ix sub data most who

/-- Longest write of a segmented transfer (R48). -/
abbrev longest : Nat := 4096

/-- A write that comes as a command of its own: answered, where the node answers its dictionary (R40). -/
def writeRow (ix sub : Nat) (data : List Byte) (m : List Host.Cell) (b : Block) : Block :=
  if !b.awake then b
  else
    let r := b.writeAccess m ix sub data longest none
    match r.1 with
    | .done => r.2.emit (.answer none)
    | .refused a => r.2.emit (.answer (some a))
    | .waits => r.2

/-- UNLOCK_EXPIRY (R42): the count of 1 s or of 60 s has run out. -/
def unlockExpiry (b : Block) : Block := b.put Ob.unlockState 0

/-! ### The commands of the family -/

/-- CHAIN_TIME_WRITE (R122). -/
def execChainTimeWrite (data : List Byte) (s : State) : Out := onBlockReading (writeRow 0x1021 0 data) s

/-- WINDOW_MODE_WRITE (R171). -/
def execWindowModeWrite (ix sub : Nat) (data : List Byte) (s : State) : Out := onBlockReading (writeRow ix sub data) s

/-- AUX_OUTPUT_WRITE (R474). -/
def execAuxOutputWrite (data : List Byte) (s : State) : Out := onBlockReading (writeRow 0x2044 0 data) s

/-- AUX_FUNCTION_WRITE (R25). -/
def execAuxFunctionWrite (sub : Nat) (data : List Byte) (s : State) : Out := onBlockReading (writeRow 0x2040 sub data) s

/-- CHARGE_COUNTER_PRESET (R185). -/
def execChargeCounterPreset (data : List Byte) (s : State) : Out := onBlockReading (writeRow 0x2035 0 data) s

/-- CURRENT_KEEPER_WRITE (R182). -/
def execCurrentKeeperWrite (data : List Byte) (s : State) : Out := onBlockReading (writeRow 0x2032 0 data) s

/-- BALANCE_TARGET_WRITE (R211). -/
def execBalanceTargetWrite (sub : Nat) (data : List Byte) (s : State) : Out := onBlockReading (writeRow 0x3001 sub data) s

/-- SESSION_TIMER_WRITE (R211). -/
def execSessionTimerWrite (sub : Nat) (data : List Byte) (s : State) : Out := onBlockReading (writeRow 0x3005 sub data) s

/-- BALANCE_ENABLE_WRITE (R219). -/
def execBalanceEnableWrite (data : List Byte) (s : State) : Out := onBlockReading (writeRow 0x3000 0 data) s

/-- STICKY_FLAG_CLEAR (R236). -/
def execStickyFlagClear (ix sub : Nat) (data : List Byte) (s : State) : Out := onBlockReading (writeRow ix sub data) s

/-- BLEED_RESISTOR_WRITE (R226). -/
def execBleedResistorWrite (data : List Byte) (s : State) : Out := onBlockReading (writeRow 0x3011 0 data) s

/-- SOC_TABLE_WRITE (R259). -/
def execSocTableWrite (data : List Byte) (s : State) : Out := onBlockReading (writeRow 0x4010 0 data) s

/-- TEMP_CURVE_WRITE (R257). -/
def execTempCurveWrite (data : List Byte) (s : State) : Out := onBlockReading (writeRow 0x4012 0 data) s

/-- RING_MODE_WRITE (R340). -/
def execRingModeWrite (data : List Byte) (s : State) : Out := onBlockReading (writeRow 0x1105 0 data) s

/-- CENSUS_RUN (R306). -/
def execCensusRun (data : List Byte) (s : State) : Out := onBlockReading (writeRow 0x1102 1 data) s

/-- ACKNOWLEDGE_SOURCE (R392). -/
def execAcknowledgeSource (source : Nat) (s : State) : Out := onBlockReading (writeRow 0x6004 0 (bytesOf 2 (source % 256))) s

/-- ACKNOWLEDGE_ALL (R392). -/
def execAcknowledgeAll (s : State) : Out := onBlockReading (writeRow 0x6004 0 (bytesOf 2 0x0100)) s

/-- FAULT_SEVERITY_WRITE (R378). -/
def execFaultSeverityWrite (sub : Nat) (data : List Byte) (s : State) : Out := onBlockReading (writeRow 0x6000 sub data) s

/-- FAULT_FLAGS_WRITE (R411). -/
def execFaultFlagsWrite (data : List Byte) (s : State) : Out := onBlockReading (writeRow 0x6009 0 data) s

/-- UNLOCK_ARM (R41). -/
def execUnlockArm (s : State) : Out := onBlockReading (writeRow 0x1F00 0 (bytesOf 2 0x5A3C)) s

/-- UNLOCK_CONFIRM (R41). -/
def execUnlockConfirm (s : State) : Out := onBlockReading (writeRow 0x1F00 0 (bytesOf 2 0xC3A5)) s

/-- UNLOCK_CLEAR (R41). -/
def execUnlockClear (value : Nat) (s : State) : Out := onBlockReading (writeRow 0x1F00 0 (bytesOf 2 value)) s

/-- UNLOCK_EXPIRY (R42). -/
def execUnlockExpiry (s : State) : Out := onBlock unlockExpiry s

/-- DICTIONARY_WRITE (R45). -/
def execDictionaryWrite (ix sub : Nat) (data : List Byte) (s : State) : Out := onBlockReading (writeRow ix sub data) s

/-- READ_CURSOR_WRITE (R433). -/
def execReadCursorWrite (data : List Byte) (s : State) : Out := onBlockReading (writeRow 0x7001 3 data) s

/-- CHECK_UNIT_WRITE (R437). -/
def execCheckUnitWrite (ix : Nat) (data : List Byte) (s : State) : Out := onBlockReading (writeRow ix 0 data) s

/-- SAVE (R440). -/
def execSave (data : List Byte) (s : State) : Out := onBlockReading (writeRow 0x8000 0 data) s

/-- RESTORE_CONFIG (R442). -/
def execRestoreConfig (s : State) : Out := onBlockReading (writeRow 0x8001 0 [1#8]) s

/-- RESTORE_ALL (R442). -/
def execRestoreAll (s : State) : Out := onBlockReading (writeRow 0x8001 0 [2#8]) s

end Sys2Proof.Machine
end

