-- ==== Sys2Proof/Machine/Transfer.lean ====
section
/-! DEFINITION. Transfers to the dictionary (R46–R53, R432) and the commands of the chain at their destination (R316–R318): expedited and
segmented reads and writes, the stream read of the journal, CHECK_CONFIG, and the answer to a repeated command. -/

namespace Sys2Proof.Machine

/-- What a transfer command answers: its abort, or a length, a segment number and data (R317). -/
structure Reply where
  abort : Option Nat
  length : Nat
  segment : Nat
  data : List Byte
  deriving DecidableEq, Repr

/-- A refusal; the command's length and segment number are copied (R318). -/
def Reply.refuse (abort length segment : Nat) : Reply := ⟨some abort, length, segment, []⟩

/-- Bytes of one chain segment (R317). -/
abbrev segmentSize : Nat := 128

/-! ### Expedited (R46, R47) -/

/-- An expedited read. -/
def Block.readNow (b : Block) (m : List Host.Cell) (ix sub : Nat) : Reply × Block :=
  match b.expeditedRead m ix sub with
  | .error a => (.refuse a 0 0, b)
  | .ok l => (⟨none, l.length, 0, l⟩, b.wasRead ix)

/-- The reply to a write, none where it waits for the positions. -/
def Verdict.reply (v : Verdict) (length : Nat) : Option Reply := match v with
  | .done => some ⟨none, length, 0, []⟩
  | .refused a => some (.refuse a length 0)
  | .waits => none

/-- An expedited write. -/
def Block.writeNow (b : Block) (m : List Host.Cell) (ix sub : Nat) (data : List Byte) (who : Option Carrier) : Option Reply × Block :=
  let r := b.writeAccess m ix sub data 4 who
  (r.1.reply data.length, r.2)

/-! ### Segmented (R48–R52) -/

/-- An Initiate ends what its requester has open (R51). A close by time is still to be reported where the Initiate is refused. A segmented write
of Unlock that ends so, or by time, was never refused: an arming write before it can still be confirmed, the model's choice (R41).
Choices: log 39 (DEDUCED, unsafe). -/
def Access.restart (a : Access) (r : Requester) : Access := { a with transfer := a.transfer.filter fun t => t.requester != r }

/-- Step 8 of R45 for L of a segmented transfer of either direction (R48). -/
def limitAbort (l : Nat) : Option Nat := if l = 0 then some 0x0606 else if longest < l then some 0x0607 else none

/-- The entries a stream read returns, where they start, and what Skipped takes (R432). -/
def Block.journalRun (b : Block) (l : Nat) : List JEntry × Nat × Option Nat :=
  let j := b.journal
  let start := max j.cursor j.oldest
  (((j.readable b.now start).take (l / 16)), start, if j.cursor < j.oldest then some (j.oldest - j.cursor) else none)

/-- Skipped takes its value (R432). -/
def Block.noteSkipped (b : Block) (n : Option Nat) : Block := match n with
  | none => b
  | some k => b.withJournal { b.journal with skipped := k }

/-- A transfer opens or goes on: an earlier close by time of its requester is no longer to be reported. -/
def Block.openTransfer (b : Block) (t : Transfer) : Block :=
  b.withAccess { b.access with transfer := some t, timedOut := b.access.timedOut.filter (· != t.requester) }

/-- A read of IncidentSummary reads the slot's words, or those of all four, in flash (R438). -/
def Block.readsFlash (b : Block) (ix sub : Nat) : Block :=
  if ix ≠ 0x7004 || sub = 0 then b
  else if 4 < sub then b.readSummaries
  else match b.nvm.summaryBank with
    | none => b
    | some bank => b.readFlash (summaryBase bank + (sub - 1) * slotSize) slotSize 3

/-- SEG_INIT_READ (R48, R50, R51, R432). Choices: log 39 (DEDUCED, unsafe). -/
def Block.initRead (b : Block) (m : List Host.Cell) (r : Requester) (ix sub l : Nat) : Reply × Block :=
  let b : Block := b.withAccess (b.access.restart r)
  match b.readBytes m ix sub with
  | .error a => (.refuse a l 0, b)
  | .ok bytes =>
    match limitAbort l with
    | some a => (.refuse a l 0, b)
    | none =>
      if (ix = 0x7000 && l < 16) || (ix ≠ 0x7000 && l < bytes.length) then (.refuse 0x0606 l 0, b)
      else if b.access.transfer.isSome then (.refuse 0x0609 l 0, b)
      else if ix = 0x7000 then
        let run := b.journalRun l
        let data := (run.1.map b.journal.encode).flatten
        let cursor := run.1.getLast?.map fun e => (e.number + 1) % 2 ^ 32
        (⟨none, data.length, 0, []⟩,
          (b.noteSkipped run.2.2).openTransfer ⟨r, ix, sub, false, data, data.length, 0, none, 0, cursor⟩)
      else (⟨none, bytes.length, 0, []⟩,
        (b.readsFlash ix sub).openTransfer ⟨r, ix, sub, false, bytes, bytes.length, 0, none, 0, none⟩)

/-- A segmented write refused at any of its phases is a write received: of Unlock, an arming write before it is no longer the last (R41), of
another object, it disarms (R42). Choices: log 39 (DEDUCED, unsafe). -/
def Block.refusedWrite (b : Block) (ix : Nat) : Block := if ix = 0x1F00 then b.armedLast false else b.disarm

/-- SEG_INIT_WRITE (R48, R49, R51): steps 2 to 8 and 10 of R45. It is a write received (R42). Choices: log 39 (DEDUCED, unsafe). -/
def Block.initWrite (b : Block) (r : Requester) (ix sub l : Nat) : Reply × Block :=
  let b := if ix = 0x1F00 then b else b.disarm
  let b : Block := b.withAccess (b.access.restart r)
  match b.writeTarget ix sub with
  | .error a => (.refuse a l 0, b.refusedWrite ix)
  | .ok o => match b.lengthAbort o sub l longest with
    | some a => (.refuse a l 0, b.refusedWrite ix)
    | none =>
      if b.access.transfer.isSome then (.refuse 0x0609 l 0, b.refusedWrite ix)
      else (⟨none, l, 0, []⟩, b.openTransfer ⟨r, ix, sub, true, [], l, 0, none, 0, none⟩)

/-- A segment or End of a requester without an open transfer: 0x060E once after a close by time, else 0x060D (R51). -/
def Block.noTransfer (b : Block) (r : Requester) (length segment : Nat) : Reply × Block :=
  if b.access.timedOut.contains r then
    (.refuse 0x060E length segment, (b.withAccess { b.access with timedOut := b.access.timedOut.filter (· != r) }))
  else (.refuse 0x060D length segment, b)

/-- The open transfer of a requester. -/
def Block.transferOf (b : Block) (r : Requester) : Option Transfer := b.access.transfer.filter fun t => t.requester == r

/-- The transfer closes. -/
def Block.closeTransfer (b : Block) : Block := b.withAccess { b.access with transfer := none }

/-- A transfer is closed by a refusal: what it was to write is discarded (R49, R52). -/
def Block.breakTransfer (b : Block) (t : Transfer) : Block := if t.writing then b.closeTransfer.refusedWrite t.ix else b.closeTransfer

/-- SEG_READ (R50, R52): the next segment of the snapshot, or the last one again. -/
def Block.segmentRead (b : Block) (r : Requester) (s : Nat) : Reply × Block :=
  match b.transferOf r with
  | none => b.noTransfer r 0 s
  | some t =>
    let again := t.last.filter fun x => x.1 == s
    if t.writing then (.refuse 0x060D 0 s, b.breakTransfer t)
    else match again with
      | some x => (⟨none, x.2.length, s, x.2⟩, b)
      | none =>
        if s ≠ t.next || t.data.length ≤ t.delivered then (.refuse 0x060D 0 s, b.breakTransfer t)
        else
          let chunk := (t.data.drop t.delivered).take segmentSize
          (⟨none, chunk.length, s, chunk⟩, b.openTransfer { t with
            next := (s + 1) % 256, last := some (s, chunk), delivered := t.delivered + chunk.length })

/-- SEG_WRITE (R49, R52, R317). Choices: log 39 (DEDUCED, unsafe). -/
def Block.segmentWrite (b : Block) (r : Requester) (s : Nat) (data : List Byte) : Reply × Block :=
  let n := data.length
  match b.transferOf r with
  | none => b.noTransfer r n s
  | some t =>
    let kept := if t.writing then b.refusedWrite t.ix else b
    if n = 0 then (.refuse 0x0606 n s, kept)
    else if segmentSize < n then (.refuse 0x0607 n s, kept)
    else
      let again := t.last.filter fun x => x.1 == s
      if !t.writing then (.refuse 0x060D n s, b.breakTransfer t)
      else if again.isSome then (⟨none, n, s, []⟩, b)
      else if s ≠ t.next then (.refuse 0x060D n s, b.breakTransfer t)
      else if t.length < t.data.length + n then (.refuse 0x0607 n s, b.breakTransfer t)
      else (⟨none, n, s, []⟩, b.openTransfer { t with next := (s + 1) % 256, last := some (s, []), data := t.data ++ data })

/-- The end of a completed stream read moves ReadCursor past the last entry returned (R432). -/
def Block.moveCursor (b : Block) (c : Option Nat) : Block := match c with
  | none => b
  | some n => b.withJournal { b.journal with cursor := n }

/-- SEG_END (R49, R50, R432): the transfer completes, or its data is discarded. -/
def Block.segmentEnd (b : Block) (m : List Host.Cell) (r : Requester) (total : Nat) (who : Option Carrier) : Option Reply × Block :=
  match b.transferOf r with
  | none =>
    let x := b.noTransfer r total 0
    (some x.1, x.2)
  | some t =>
    let b := b.closeTransfer
    if t.writing then
      if total ≠ t.length || t.data.length ≠ t.length then (some (.refuse 0x0606 total 0), b.refusedWrite t.ix)
      else
        let w := b.writeAccess m t.ix t.sub t.data longest who
        (w.1.reply total, w.2)
    else if total ≠ t.data.length || t.delivered ≠ t.data.length then (some (.refuse 0x0606 total 0), b)
    else (some ⟨none, total, 0, []⟩, (b.moveCursor t.cursor).wasRead t.ix)

/-- One host carrier of the head. -/
def Block.hostPort (b : Block) : Carrier → HostPort
  | .spi => b.host.spi
  | .can => b.host.can

/-- One host carrier of the head set. -/
def Block.setHostPort (b : Block) (c : Carrier) (p : HostPort) : Block := match c with
  | .spi => b.withHost { b.host with spi := p }
  | .can => b.withHost { b.host with can := p }

/-- A host's transfer in the head's buffer is closed by time, and with it what it holds open in the head's own dictionary (R51, R357). -/
def Block.closeHost (b : Block) (c : Carrier) : Block :=
  let p := b.hostPort c
  let b : Block := b.withAccess { b.access with transfer := b.access.transfer.filter fun t => t.requester != c.requester }
  if p.transfer.isSome then b.setHostPort c { p with transfer := none, timedOut := true } else b

/-- SEGMENT_TIMEOUT (R51, R357): 100 ms without a segment or End of a requester. Choices: log 39 (DEDUCED, unsafe). Choices: log 46 (DEDUCED, unsafe). -/
def segmentTimeout (r : Requester) (b : Block) : Block :=
  if !b.awake then b
  else match r with
    | .chain => if b.isHead then b else b.withAccess b.access.close
    | .spi => if b.isHead then b.closeHost .spi else b
    | .can => if b.isHead then b.closeHost .can else b

/-! ### CHECK_CONFIG and CHAIN_CONFIG (R317, R331) -/

/-- The node objects a CHAIN_CONFIG image sets. -/
def imageValues (image : List Byte) : List (Nat × Int) :=
  let at' := fun (k n : Nat) => ((field image k n : Nat) : Int)
  [(Ob.ringMode, at' 1 1), (Ob.currentKeeper, at' 2 1), (Ob.streamSchedule + 1, at' 4 4), (Ob.streamSchedule + 2, at' 8 4),
    (Ob.streamSchedule + 3, at' 12 4), (Ob.streamSchedule + 4, at' 16 4), (Ob.streamSchedule + 5, at' 20 4),
    (Ob.streamScheduleTriggerDelay, at' 24 2)]

/-- The chain analysis set of an image. -/
def imageSet (image : List Byte) : List (Nat × Nat) :=
  (List.range 4).map fun k => (field image (28 + 4 * k) 4, field image (44 + k) 1)

/-- Does a configuration image fit the node (R317)? -/
def Block.imageFits (b : Block) (image : List Byte) : Bool :=
  let c := b.putAll (imageValues image)
  let c : Block := if c.isKeeper then c.withChainSet (imageSet image) else c
  c.admitted

/-- CHECK_CONFIG at its destination. Choices: log 40 (DEDUCED, unsafe). -/
def Block.judgeImage (b : Block) (image : List Byte) : Reply :=
  let n := image.length
  if n < 56 then .refuse 0x0606 n 0
  else if 56 < n then .refuse 0x0607 n 0
  else if b.imageFits image then ⟨none, n, 0, []⟩
  else .refuse 0x0608 n 0

/-! ### Commands over the chain (R53, R316–R318) -/

/-- The RESPONSE payload (R318): the command's bytes, with the Length and SegSeq that R317 gives the answer. Choices: log 46 (DEDUCED, unsafe). -/
def responsePayload (op ix sub : Nat) (r : Reply) : List Byte :=
  bytesOf 1 op ++ bytesOf 1 sub ++ bytesOf 2 ix ++ bytesOf 2 r.length ++ bytesOf 1 r.segment ++
    match r.abort with
    | none => bytesOf 1 0 ++ r.data
    | some a => bytesOf 1 1 ++ bytesOf 2 a

/-- A response goes out: it waits for the transmitter (R298); where the command has ended the node's answering, it is sent ahead of that
(R54, R83). -/
def Block.sendResponse (b : Block) (was : Block) (seq : Nat) (payload : List Byte) : Block :=
  if b.awake then b.queueResponse seq payload
  else b.emit (.frame was.link.headSide (frameOf (headerOf 3 (was.nat Ob.position) 0 0 seq) payload))

/-- The reply of a node, which no configuration check delays. -/
def settled (x : Option Reply × Block) : Reply × Block := (x.1.getD (.refuse 0x0604 0 0), x.2)

/-- A COMMAND frame executed by its destination; the SEQ of the command last executed only repeats its response (R53). -/
def Block.chainCommand (b : Block) (seq op ix sub : Nat) (run : Block → Reply × Block) : Block :=
  if !b.awake || b.isHead || !b.positioned then b
  else
    let b := b.heard b.link.headSide
    match b.access.lastSeq.filter fun x => x.1 == seq with
    | some x => b.queueResponse seq x.2
    | none =>
      let r := run b
      let payload := responsePayload op ix sub r.1
      let c : Block := r.2.withAccess { r.2.access with lastSeq := some (seq, payload) }
      c.sendResponse b seq payload

/-- JOURNAL_READ (R432): the whole transfer of one requester, from its Initiate to its End. Choices: log 46 (DEDUCED, unsafe). -/
def journalRead (r : Requester) (l : Nat) (m : List Host.Cell) (b : Block) : Block :=
  if !b.awake then b
  else
    let x := b.initRead m r 0x7000 0 l
    match x.1.abort with
    | some a => x.2.emit (.answer (some a))
    | none => match x.2.transferOf r with
      | none => x.2
      | some t => ((x.2.closeTransfer.moveCursor t.cursor).emit (.returned t.data)).emit (.answer none)

/-! ### The commands of the family -/

/-- READ (R46, R317). -/
def execRead (seq ix sub : Nat) (s : State) : Out :=
  onBlockReading (fun m b => b.chainCommand seq 1 ix sub fun b => b.readNow m ix sub) s

/-- WRITE (R47, R317). -/
def execWrite (seq ix sub : Nat) (data : List Byte) (s : State) : Out :=
  onBlockReading (fun m b => b.chainCommand seq 2 ix sub fun b => settled (b.writeNow m ix sub data none)) s

/-- SEG_INIT_READ (R48, R50). -/
def execSegInitRead (seq ix sub length : Nat) (s : State) : Out :=
  onBlockReading (fun m b => b.chainCommand seq 3 ix sub fun b => b.initRead m .chain ix sub length) s

/-- SEG_INIT_WRITE (R48, R49). -/
def execSegInitWrite (seq ix sub length : Nat) (s : State) : Out :=
  onBlock (fun b => b.chainCommand seq 4 ix sub fun b => b.initWrite .chain ix sub length) s

/-- SEG_READ (R50, R52). -/
def execSegRead (seq ix sub segment : Nat) (s : State) : Out :=
  onBlock (fun b => b.chainCommand seq 5 ix sub fun b => b.segmentRead .chain segment) s

/-- SEG_WRITE (R49, R52). -/
def execSegWrite (seq ix sub segment : Nat) (data : List Byte) (s : State) : Out :=
  onBlock (fun b => b.chainCommand seq 6 ix sub fun b => b.segmentWrite .chain segment data) s

/-- SEG_END (R49, R50). -/
def execSegEnd (seq ix sub total : Nat) (s : State) : Out :=
  onBlockReading (fun m b => b.chainCommand seq 7 ix sub fun b => settled (b.segmentEnd m .chain total none)) s

/-- CHECK_CONFIG (R317). -/
def execCheckConfig (seq : Nat) (image : List Byte) (s : State) : Out :=
  onBlock (fun b => b.chainCommand seq 8 0 0 fun b => (b.judgeImage image, b)) s

/-- SEGMENT_TIMEOUT (R51). -/
def execSegmentTimeout (requester : Requester) (s : State) : Out := onBlock (segmentTimeout requester) s

/-- JOURNAL_READ (R432). -/
def execJournalRead (requester : Requester) (length : Nat) (s : State) : Out := onBlockReading (journalRead requester length) s

end Sys2Proof.Machine
end

