-- ==== Sys2Proof/Machine/Link.lean ====
section
/-! DEFINITION. The Iswen link protocol at a node (R297–R299, R305, R307–R314, R331, R341, R348): frames received, repeated and forwarded, the
census, COMMIT, probe sweeps, DELAYS and CHAIN_CONFIG. -/

namespace Sys2Proof.Machine

/-! ### Frames received (R297, R299, R305) -/

/-- Why a received frame is not valid. -/
inductive FrameFault where
  | crc | format
  deriving DecidableEq, Repr

/-- What is wrong with a frame received in a direction, if anything (R305): broken says that it held a code error or has no K29.7. -/
def frameFault (upper broken : Bool) (f : List Byte) : Option FrameFault :=
  if broken || f.length < 6 then some .format
  else if !crcOk f then some .crc
  else if !formOk upper f then some .format
  else none

/-- A CRC failure on a port, counted for ever and for this second (R305, R348). -/
def Block.countCrc (b : Block) : Port → Block
  | .dl => (b.count32 Ob.linkCountersDlCrcFailures).withLink { b.link with dlSecond := b.link.dlSecond + 1 }
  | .du => (b.count32 Ob.linkCountersDuCrcFailures).withLink { b.link with duSecond := b.link.duSecond + 1 }

/-- A frame is counted (R305); a valid one restarts the comm-loss count (R89). Choices: log 37 (DEDUCED, unsafe). -/
def Block.countFrame (b : Block) (p : Port) (fault : Option FrameFault) : Block := match fault with
  | none => (b.count32 Ob.linkCountersFramesReceived).heard p
  | some .crc => b.countCrc p
  | some .format => b.count32 Ob.linkCountersFormatErrors

/-- Does nothing wait for the head-side transmitter, and is it free (R299)? -/
def Block.idleSide (b : Block) : Bool :=
  (b.sending b.link.headSide).isNone && !b.phys.alarmBusy && b.link.census.isEmpty && b.link.own.isEmpty && b.link.queue.isEmpty &&
    b.keeper.outgoing.isEmpty

/-- Frames the forwarding queue holds (R299). -/
abbrev queueDepth : Nat := 8

/-- FRAME_FORWARD (R299): at once, queued, or dropped. Choices: log 53 (DEDUCED, unsafe). -/
def frameForward (f : List Byte) (b : Block) : Block :=
  let p := b.link.headSide
  if !b.awake || b.isHead || !b.transmits p then b
  else if b.idleSide then (b.setSending p (some f)).emit (.frame p f)
  else if b.link.queue.length < queueDepth then b.withLink { b.link with queue := b.link.queue ++ [f] }
  else b.count32 Ob.linkCountersQueueDrops

/-- What a node passes on (R297, R299): upper frames but CENSUS to its far side, lower frames but echoes and replies to its head side.
Choices: log 53 (DEDUCED, unsafe). -/
def Block.passOn (b : Block) (p : Port) (f : List Byte) : Block :=
  let t := hdrType (headerIn f)
  if b.upperOn p then (if t = 5 || !b.transmits p.other then b else b.emit (.frame p.other f))
  else if t = 6 || t = 7 then b
  else frameForward f b

/-- A COMMAND frame whose operation no carrier defines is answered by its destination (R45, R56, R317). -/
def Block.unknownOperation (b : Block) (f : List Byte) : Block :=
  let h := headerIn f
  let l := payloadIn f
  let op := field l 0 1
  if hdrType h ≠ 2 || hdrPos h ≠ b.nat Ob.position || (1 ≤ op && op ≤ 8) then b
  else b.chainCommand (hdrSeq h) op (field l 2 2) (field l 1 1) fun b => (.refuse 0x060F (field l 4 2) (field l 6 1), b)

/-- FRAME_RECEIVE (R277, R296, R297, R299, R305): what came on a port since the last frame: stray code errors outside frames, and on a port that is UP
a frame with the code errors inside it, whole or broken off before its K29.7. A port that is TRAINING receives code errors only. Choices: log 37
(DEDUCED, unsafe). -/
def frameReceive (p : Port) (stray inside : Nat) (ending : FrameEnd) (f : List Byte) (b : Block) : Block :=
  if !b.awake || !(b.portUp p || b.get (stateKey p) = 3) then b
  else
    let b := b.countUp (codeErrorsKey p) (stray + inside) (2 ^ 32 - 1)
    if ending = .noFrame || !b.portUp p || (b.ringReturn p && upperType (hdrType (headerIn f))) then b
    else
      let fault := frameFault (b.upperOn p) (inside ≠ 0 || ending = .cut) f
      let b := b.countFrame p fault
      if b.isHead then b
      else if b.upperOn p && fault.isNone then (b.passOn p f).unknownOperation f
      else b.passOn p f

/-- LINK_CRC_RATE (R348): a second of chain time ends. The pebbles a head holds grow older by it (R346). -/
def linkCrcRate (b : Block) : Block :=
  if !b.awake then b
  else
    let limit := b.get Ob.crcRateLimit
    let dl := b.link.dlSecond
    let du := b.link.duSecond
    let data := fun (p n : Nat) => p + 65536 * min n 65535
    let c : Block := b.withLink { b.link with
      dlSecond := 0, duSecond := 0, pebbles := b.link.pebbles.map fun (h : PebbleHeld) => { h with age := min (h.age + 1) 255 } }
    let c := if limit < (dl : Int) then c.raise 0x60 (data 0 dl) else c
    let c := if limit < (du : Int) then c.raise 0x60 (data 1 du) else c
    if (dl : Int) ≤ limit && (du : Int) ≤ limit then c.clearLive 0x60 else c

/-! ### Census at a node (R307–R310) -/

/-- An echo or a reply waits for the head-side transmitter (R298). -/
def Block.queueCensus (b : Block) (f : List Byte) : Block := b.withLink { b.link with census := b.link.census ++ [f] }

/-- A CENSUS_ECHO of a census number (R307). -/
def echoFrame (number : Nat) (ring : Bool) : List Byte := frameOf (headerOf 6 0 0 0 number) (bytesOf 1 (boolNat ring))

/-- The payload of CENSUS and CENSUS_REPLY (R307): position or top, OVERFLOW, generations, RING or RING_CLOSED. -/
def censusPayload (position : Nat) (overflow : Bool) (most sum flags : Nat) : List Byte :=
  bytesOf 1 (position + 128 * boolNat overflow) ++ bytesOf 1 most ++ bytesOf 1 (sum % 256) ++ bytesOf 1 flags

/-- A CENSUS_REPLY (R302, R307): POS names the top. -/
def replyFrame (number top : Nat) (payload : List Byte) : List Byte := frameOf (headerOf 7 top 0 0 number) payload

/-- The node closes the census as top and replies (R308, R309). -/
def Block.closeTop (b : Block) (t : CensusTaken) (overflow ring : Bool) : Block :=
  let b : Block := b.withLink { b.link with taken := none }
  b.queueCensus (replyFrame t.number t.position (censusPayload t.position overflow t.maxGeneration t.sum (2 * boolNat ring)))

/-- A node takes a CENSUS frame that is not in overflow (R308, steps 3 and 4): it forwards the frame on a DU that is not UP too, and is then the top.
Choices: log 42 (DEDUCED, unsafe). -/
def Block.takeCensus (b : Block) (number : Nat) (payload : List Byte) : Block :=
  let position := field payload 0 1 % 128
  let own := b.nat Ob.generation
  let most := max (field payload 1 1) own
  let sum := (field payload 2 1 + own) % 256
  let last := decide (63 ≤ position)
  let taken : CensusTaken := ⟨number, position, most, sum, own, last, false⟩
  let b : Block := b.withLink { b.link with tentative := some (position, number), taken := some taken }
  let next := if last then 63 else position + 1
  let b := if b.transmits .du then
      b.emit (.frame .du (frameOf (headerOf 5 0 0 0 number) (censusPayload next last most sum (field payload 3 1))))
    else b
  if b.portUp .du then b else b.closeTop taken false false

/-- CENSUS (R308): a node takes DL as its head side, echoes, and forwards the frame changed; a head whose frame has come round echoes with
RING (R309). -/
def census (p : Port) (number : Nat) (payload : List Byte) (b : Block) : Block :=
  if !b.awake || p ≠ .dl || !b.portUp p || payload.length ≠ 4 then b
  else if b.isHead then (if b.link.round.isSome then b.emit (.frame .dl (echoFrame number true)) else b)
  else
    let b := (b.turnTo .dl).queueCensus (echoFrame number false)
    if 128 ≤ field payload 0 1 then
      (((b.withLink { b.link with tentative := none, taken := none, own := [] }) : Block).put Ob.position 0xFE).keeperMoved b.isKeeper
    else b.takeCensus number payload

/-- CENSUS_ECHO (R308, R309): the echo from above. -/
def censusEcho (number : Nat) (ring : Bool) (b : Block) : Block :=
  match b.link.taken.filter fun t => t.number == number && !t.echoed with
  | none => b
  | some t =>
    if ring || t.overflowed then b.closeTop t t.overflowed ring
    else b.withLink { b.link with taken := some { t with echoed := true } }

/-- CENSUS_ECHO_TIMEOUT (R308): no echo within 2 us. -/
def censusEchoTimeout (b : Block) : Block :=
  match b.link.taken.filter fun t => !t.echoed with
  | none => b
  | some t => b.closeTop t false false

/-- CENSUS_REPLY (R310): the generation fields are brought up to date, and the reply goes on. -/
def censusReply (number : Nat) (payload : List Byte) (b : Block) : Block :=
  match b.link.taken.filter fun t => t.number == number && t.echoed && payload.length == 4 with
  | none => b
  | some t =>
    let own := b.nat Ob.generation
    let top := field payload 0 1
    let sum := field payload 2 1 + (own + 256 - t.generation) % 256
    let b : Block := b.withLink { b.link with taken := none }
    b.queueCensus (replyFrame number (top % 128)
      (censusPayload (top % 128) (decide (128 ≤ top)) (max (field payload 1 1) own) sum (field payload 3 1)))

/-- COMMIT (R312): the first copy of a census number. Choices: log 42 (DEDUCED, unsafe). -/
def commit (number top flags t : Nat) (b : Block) : Block :=
  let b := b.at t
  if !b.awake || b.isHead || b.link.lastCommit = some number then b
  else
    let b : Block := b.withLink { b.link with lastCommit := some number }
    match b.link.tentative.filter fun x => x.2 == number with
    | some x =>
      let was := b.isKeeper
      let b : Block := b.withLink { b.link with baseline := b.nat Ob.generation }
      Block.keeperMoved (was := was) <| b.putAll [(Ob.position, (x.1 : Int)), (Ob.censusResultTop, (top : Int)), (Ob.censusResultFlags, (flags : Int)),
        (Ob.censusResultCensusNumber, (number : Int)), (Ob.censusResultLastCommit, (b.now : Int))]
    | none =>
      if b.get Ob.position = 0xFE then b
      else (((b.withLink { b.link with own := [] }) : Block).put Ob.position 0xFF).keeperMoved b.isKeeper

/-! ### Delays at a node (R313, R314, R341) -/

/-- PROBE_SWEEP (R313): the node takes part in sweeps on a port, and counts probes from now on. -/
def probeSweep (p : Port) (sweeps count : Nat) (b : Block) : Block :=
  if !b.awake || b.isHead || !b.positioned || sweeps = 0 || count = 0 then b
  else b.withLink { b.link with sweep := some ⟨p, sweeps, count, 0⟩ }

/-- The node's index in a sweep (R313). -/
def Block.probeIndex (b : Block) (p : Port) : Nat := match p with
  | .du => b.nat Ob.position
  | .dl => b.nat Ob.censusResultTop + 1 - b.nat Ob.position

/-- The probe that arrives is the next of the sweeps: is it the node's, and what is left of the sweeps (R313)? -/
def Block.countProbe (b : Block) : Bool × Option Sweep := match b.link.sweep with
  | none => (false, none)
  | some s =>
    let mine := s.heard % s.count + 1 == b.probeIndex s.port && (s.port == .du || b.turned)
    (b.positioned && mine, if s.heard + 1 < s.sweeps * s.count then some { s with heard := s.heard + 1 } else none)

/-- PROBE (R313): a probe arrives on a port at t; the node whose it is returns it on its head side, every node repeats it. Which one it is the node
counts from the broadcast on. -/
def probe (p : Port) (t : Nat) (b : Block) : Block :=
  let b := b.at t
  if !b.awake || b.isHead || !b.upperOn p then b
  else
    let r := b.countProbe
    let b : Block := b.withLink { b.link with sweep := r.2 }
    let b := if b.transmits p.other then b.sendPulse p.other .tone else b
    if r.1 && b.transmits p then b.sendHeld p (.probe p) else b

/-- DELAYS (R314, R342): the arrival delays of positions 1 to 63 in ps, or those of the ring path. Choices: log 43 (DEDUCED, unsafe). -/
def delays (split : Bool) (table : List Nat) (b : Block) : Block :=
  if !b.awake || b.isHead || !b.positioned then b
  else
    let at' := fun p : Nat => if p = 0 then 0 else (table[p - 1]?).getD 0
    let p := b.nat Ob.position
    if split then
      let b : Block := b.withLink { b.link with splitDelays := table }
      b.put Ob.hopDelaySplitDelay (at' p : Nat)
    else
      let b : Block := b.withLink { b.link with delays := table, heldDelays := true }
      b.putAll [(Ob.hopDelayArrivalDelay, (at' p : Int)), (Ob.hopDelayHopLatency, ((at' p - at' (p - 1) : Nat) : Int))]

/-! ### CHAIN_CONFIG at a node (R331) -/

/-- CHAIN_CONFIG: the head's objects take the image's values, which are their references from now on (R405), and the chain analysis set is held.
With RingMode OFF the head side is DL (R341). -/
def chainConfig (image : List Byte) (b : Block) : Block :=
  if !b.awake || b.isHead || !b.positioned || image.length ≠ 56 then b
  else
    let now := (imageValues image).map fun x => x.1 / 256
    let b : Block := b.withNvm { b.nvm with corrupted := b.nvm.corrupted.filter fun ix => !now.contains ix }
    let b := (b.putAll (imageValues image)).keeperMoved b.isKeeper
    let b := b.followRing
    (b.withChainSet (imageSet image)).withImp { b.imp with chainTime := field image 48 4, chainStep := (field image 52 4 : Nat) }

/-! ### The commands of the family -/

/-- FRAME_RECEIVE (R305). -/
def execFrameReceive (port : Port) (errors : Nat × Nat) (frame : FrameEnd × List Byte) (s : State) : Out :=
  onBlock (frameReceive port errors.1 errors.2 frame.1 frame.2) s

/-- FRAME_FORWARD (R299). -/
def execFrameForward (bytes : List Byte) (s : State) : Out := onBlock (frameForward bytes) s

/-- LINK_CRC_RATE (R348). -/
def execLinkCrcRate (s : State) : Out := onBlock linkCrcRate s

/-- CENSUS (R308). -/
def execCensus (port : Port) (number : Nat) (payload : List Byte) (s : State) : Out := onBlock (census port number payload) s

/-- CENSUS_ECHO (R308). -/
def execCensusEcho (number : Nat) (ring : Bool) (s : State) : Out := onBlock (censusEcho number ring) s

/-- CENSUS_ECHO_TIMEOUT (R308). -/
def execCensusEchoTimeout (s : State) : Out := onBlock censusEchoTimeout s

/-- CENSUS_REPLY (R310). -/
def execCensusReply (number : Nat) (payload : List Byte) (s : State) : Out := onBlock (censusReply number payload) s

/-- COMMIT (R312). -/
def execCommit (number top flags t : Nat) (s : State) : Out := onBlock (commit number top flags t) s

/-- PROBE_SWEEP (R313). -/
def execProbeSweep (port : Port) (sweeps count : Nat) (s : State) : Out := onBlock (probeSweep port sweeps count) s

/-- PROBE (R313). -/
def execProbe (port : Port) (t : Nat) (s : State) : Out := onBlock (probe port t) s

/-- DELAYS (R314). -/
def execDelays (split : Bool) (table : List Nat) (s : State) : Out := onBlock (delays split table) s

/-- CHAIN_CONFIG (R331). -/
def execChainConfig (image : List Byte) (s : State) : Out := onBlock (chainConfig image) s

end Sys2Proof.Machine
end

