-- ==== Sys2Proof/Machine/Head.lean ====
section
/-! DEFINITION. Triggers at the head (R22, R193, R306, R332, R333, R335): how trains start, and ALARM. -/

namespace Sys2Proof.Machine

/-! ### Trains (R193, R332, R333, R335) -/

/-- Time from a trigger to the deadline of its train, in us rounded up (R335). Choices: log 44 (DEDUCED, unsafe). -/
def Block.trainSpan (b : Block) (cls : Nat) (perWindow : Bool) : Nat :=
  let top := b.positions.length - 1
  let n := b.blockLength
  let start :=
    if cls = 2 then 10 * (96 + n)
    else if cls = 1 && perWindow then max 1000 (10 * (n + 300) - 10 * b.nat Ob.streamScheduleTriggerDelay)
    else 1000
  let arrival := if top = 0 then 0 else (b.link.delays[top - 1]?).getD 0
  ceilDiv (start + ceilDiv (2 * arrival) 100000 + top * (2 * ((classLength cls).getD 0 + 8) + 4) + 500) 10

/-- A train joins those in progress; frames already held count as delivered. -/
def Block.openTrain (b : Block) (cls : Nat) (perWindow : Bool) (held : List StreamRecord) : Block :=
  let b := if cls = 5 then b.withLink { b.link with lastStatus := some b.now } else b
  b.withLink { b.link with
      trains := b.link.trains ++ [⟨cls, (b.now + b.trainSpan cls perWindow) % t48, if cls = 2 then (b.now + 40) % t48 else 0, held, true, false⟩] }

/-- The head's part of a trigger: its own capture (R193), or its own record (R321). -/
def Block.ownAnswer (b : Block) (cls : Nat) : Block :=
  if cls = 2 then (b.takeSnap b.tb.ps).noteEdges [] else b.answer (streamClassOf cls)

/-- A trigger leaves, and its train begins. -/
def Block.startTrain (b : Block) (cls : Nat) (perWindow : Bool) : Block :=
  ((b.headPulse (pulseOf (streamClassOf cls))).openTrain cls perWindow []).ownAnswer cls

/-- A trigger that a census round drops: counted (R306, R359). -/
def Block.dropTrigger (b : Block) : Block := b.count32 Ob.triggerDropsDropped

/-- Would a scheduled train that starts now close too late before the next boundary (R333)? Choices: log 44 (DEDUCED, unsafe). -/
def Block.tooLate (b : Block) (cls : Nat) (perWindow : Bool) : Bool := match b.win.opened with
  | some w => b.measuring && decide (chainDiff (w.stop / 64 % t48) b.now < (b.trainSpan cls perWindow : Int) + 100)
  | none => false

/-- A class joins a list of waiting ones. -/
def addClass (l : List Nat) (c : Nat) : List Nat := if l.contains c then l else l ++ [c]

/-- A trigger of a class waits. -/
def Block.waitFor (b : Block) (cls : Nat) : Block := b.withLink { b.link with waiting := addClass b.link.waiting cls }

/-- Does a refresh of the delays run, or wait for a SYNC (R314)? It lies between trains: those that can wait do. -/
def Block.refreshing (b : Block) : Bool := b.link.round.isNone && b.link.probing.any fun q => q.port == .du

/-- A scheduled trigger under the train rules and before the next SYNC (R116, R332, R333); SNAP waits for a SYNC alone. Choices: log 44 (DEDUCED, unsafe). -/
def Block.request (b : Block) (cls : Nat) (perWindow : Bool) : Block :=
  if !b.syncRoom (triggerTime cls) then b.waitFor cls
  else if cls = 2 then b.startTrain 2 perWindow
  else if b.inTrain cls || b.refreshing || (b.link.statusDue && cls ≠ 5) then b.waitFor cls
  else if b.tooLate cls perWindow then b.withLink { b.link with behind := addClass b.link.behind cls }
  else b.startTrain cls perWindow

/-- Is a class triggered PER_WINDOW (R332)? -/
def Block.perWindow (b : Block) (cls : Nat) : Bool := b.nat (Ob.streamSchedule + cls) / 2 ^ 24 == 1

/-- The order of triggers due together (R333); a SNAP goes at once. -/
def classOrder : List Nat := [2, 1, 5, 3, 4]

/-- Do scheduled triggers still wait for the first boundary after a round (R315)? Choices: log 31 (DEDUCED, unsafe). -/
def Block.resumes (b : Block) : Bool := match b.link.resumeFrom, b.win.opened with
  | some t, some w => !b.measuring || decide (0 ≤ chainDiff (w.start / 64 % t48) t)
  | _, _ => true

/-- The STATUS train that follows an ALARM goes as soon as none is in progress, ahead of the scheduled ones that wait (R332, R333); those that
waited through a round wait for the boundary after it (R315), but for a SNAP, which goes once the SYNC is past (R116, R333). -/
def Block.kick (b : Block) : Block :=
  if b.link.round.isSome then b
  else
    let b := if b.link.statusDue && b.link.trains.isEmpty && b.syncRoom (triggerTime 5) then
        ((b.withLink { b.link with statusDue := false }) : Block).startTrain 5 false
      else b
    classOrder.foldl (fun (b : Block) (c : Nat) =>
      if b.link.waiting.contains c && (c = 2 || b.resumes && !(b.inTrain c || b.refreshing || b.link.statusDue)) &&
          b.syncRoom (triggerTime c) then
        ((b.withLink { b.link with waiting := b.link.waiting.filter (· != c) }) : Block).request c (b.perWindow c)
      else b) b

/-- A SNAP trigger of the SYNC pin (R22, R116, R193, R306). -/
def Block.snapCause (b : Block) : Block := if b.link.round.isSome then b.dropTrigger else b.request 2 false

/-- INSTANT_TRIGGER (R22). Choices: log 44 (DEDUCED, unsafe). -/
def instantTrigger (t : Nat) (b : Block) : Block :=
  let b := b.at t
  if b.awake && b.isHead then b.snapCause else b

/-- Is now TriggerDelay after a window boundary of the head's own (R332)? A FIXED window may be shorter than the delay; no other is. -/
def Block.afterBoundary (b : Block) : Bool := match b.win.opened with
  | none => false
  | some w =>
    let at' := (b.now + t48 - b.nat Ob.streamScheduleTriggerDelay) % t48
    if b.win.mode = 1 && !b.win.keeperSchedule then b.win.length != 0 && at' % b.win.length == 0 else at' == ceilDiv w.start 64 % t48

/-- Is a trigger of a class due by the schedule at the time now (R332)? -/
def Block.due (b : Block) (cls : Nat) : Bool :=
  let w := b.nat (Ob.streamSchedule + cls)
  let mode := w / 2 ^ 24
  let period := w % 2 ^ 24 * 1000
  (mode == 1 && b.measuring && !b.instantMode && b.afterBoundary) || (mode == 2 && period != 0 && b.now % period == 0)

/-- Has a second passed since the last STATUS trigger (R332)? -/
def Block.statusSecond (b : Block) : Bool := match b.link.lastStatus with
  | some t => decide (1000000 ≤ chainDiff b.now t)
  | none => true

/-- SCHEDULED_TRIGGER (R332, R333). Choices: log 44 (DEDUCED, unsafe). -/
def scheduledTrigger (c : StreamClass) (t : Nat) (b : Block) : Block :=
  let b := b.at t
  let cls := codeOf c
  if !b.awake || !b.isHead || cls = 6 then b
  else if b.link.round.isSome then (if cls = 2 && b.due 2 then b.dropTrigger else b)
  else if b.due cls && b.resumes then b.request cls (b.perWindow cls)
  else if cls = 5 && b.statusSecond && !b.inTrain 5 then
    (if b.syncRoom (triggerTime 5) && !b.refreshing then b.startTrain 5 false else b.waitFor 5)
  else b

/-! ### ALARM (R283, R284, R332, R349, R365, R371) -/

/-- An ALARM classified at the head. -/
def Block.hearAlarm (b : Block) : Block :=
  let b := ((b.setFlt true).attend 0).queueAlarm 1 0xFF 0 0
  let l := b.link
  let b := b.withLink { l with
    clear := false, statusDue := true, trains := l.trains.map fun (t : Train) => { t with afterAlarm := false } }
  b.kick

/-- ALARM: repeated toward the head or absorbed at a node, classified at a head. Choices: log 49 (DEDUCED, unsafe). -/
def alarm (p : Port) (t : Nat) (b : Block) : Block :=
  let b := b.at t
  if !b.awake || !b.transmits p then b
  else if b.isHead then b.hearAlarm
  else if b.upperOn p then b
  else b.repeatAlarm

/-! ### The commands of the family -/

/-- WINDOW_BOUNDARY (R166): at a head it is also the boundary at which scheduled triggers resume (R315). -/
def execWindowBoundary (t : Nat) (s : State) : Out :=
  onBlock (fun b =>
    let c := b.passBoundary t
    if c.awake && c.isHead && !(b.at t).resumes && c.resumes then c.kick else c) s

/-- INSTANT_TRIGGER (R22). -/
def execInstantTrigger (t : Nat) (s : State) : Out := onBlock (instantTrigger t) s

/-- SCHEDULED_TRIGGER (R332). -/
def execScheduledTrigger (cls : StreamClass) (t : Nat) (s : State) : Out := onBlock (scheduledTrigger cls t) s

/-- ALARM (R283). -/
def execAlarm (port : Port) (t : Nat) (s : State) : Out := onBlock (alarm port t) s

end Sys2Proof.Machine
end

