-- ==== Sys2Proof/Machine/Host.lean ====
section
/-! DEFINITION. The host of a head (R89, R101, R351–R365, R369, R370): the Novez protocol on both carriers, SPI transactions, CAN FD requests,
and the head's buffer for segmented transfers. -/

namespace Sys2Proof.Machine

/-! ### Messages (R351–R353) -/

/-- Outcome of a host's command (R353). -/
inductive Result where
  | done (data : List Byte)
  | abort (code : Nat)
  | chainFail
  | noPosition
  | rejected
  | busy
  deriving DecidableEq, Repr

/-- Result byte and further data (R353). -/
def Result.bytes : Result → List Byte
  | .done d => bytesOf 1 0 ++ d
  | .abort c => bytesOf 1 1 ++ bytesOf 2 c
  | .chainFail => bytesOf 1 2
  | .noPosition => bytesOf 1 3
  | .rejected => bytesOf 1 4
  | .busy => bytesOf 1 5

/-- A message: header bytes 0–4, the length of its data, both CRCs (R351). -/
def novezMessage (header body : List Byte) : List Byte :=
  let h := header ++ bytesOf 1 body.length
  h ++ bytesOf 2 (crc16 h) ++ body ++ (if body.isEmpty then [] else bytesOf 2 (crc16 body))

/-- Longest host segment of a carrier (R352). -/
def hostSegment : Carrier → Nat
  | .spi => 128
  | .can => 48

/-- Longest READ_STREAM of a carrier (R352). -/
def hostStream : Carrier → Nat
  | .spi => 128
  | .can => 40

/-- Least and greatest n of an operation; none of a code not listed (R352). Choices: log 47 (DEDUCED, unsafe). -/
def novezLength (c : Carrier) (op : Nat) : Option (Nat × Nat) :=
  if op = 0x01 || op = 0x12 then some (0, 0)
  else if op = 0x02 then some (1, 4)
  else if op = 0x03 || op = 0x04 || op = 0x07 then some (2, 2)
  else if op = 0x05 || op = 0x10 || op = 0x11 then some (1, 1)
  else if op = 0x06 then some (2, 1 + hostSegment c)
  else none

/-- Does a length match its operation? A code not listed has none to match. Choices: log 47 (DEDUCED, unsafe). -/
def novezFits (c : Carrier) (op n : Nat) : Bool := match novezLength c op with
  | some (lo, hi) => decide (lo ≤ n) && decide (n ≤ hi)
  | none => true

/-- Operation code of a header. -/
def headerOp (h : List Byte) : Nat := field h 0 1 % 64

/-! ### Answers (R355, R358, R369) -/

/-- The command in execution ends with a response, kept for a repeat (R354). -/
def Block.answerWith (b : Block) (c : Carrier) (body : List Byte) : Block :=
  let p := b.hostPort c
  match p.executing with
  | none => b
  | some r =>
    let message := novezMessage r.header body
    let p := { p with executing := none, last := some (r.header ++ r.data, message) }
    match c with
    | .spi => b.setHostPort .spi { p with slot := some message }
    | .can => (((b.setHostPort .can p).withPower { b.power with commAt := b.now }) : Block).canRespond message

/-- The command in execution ends. Choices: log 9 (DESIGN CHOICE, unsafe). -/
def Block.answerHost (b : Block) (c : Carrier) (r : Result) : Block := b.answerWith c r.bytes

/-- What a transfer command answered, as a result. -/
def Reply.result (r : Reply) (data : List Byte) : Result := match r.abort with
  | some a => .abort a
  | none => .done data

/-- The job of the command in execution. -/
def Block.setJob (b : Block) (c : Carrier) (j : HostJob) : Block :=
  let p := b.hostPort c
  b.setHostPort c { p with executing := p.executing.map fun r => { r with job := j } }

/-- The host's transfer of a carrier. -/
def Block.setBuffer (b : Block) (c : Carrier) (t : Option HostTransfer) : Block :=
  b.setHostPort c { b.hostPort c with transfer := t, timedOut := t.isNone && (b.hostPort c).timedOut }

/-- The command in execution asks a position. -/
def Block.askFor (b : Block) (c : Carrier) (p : Nat) (payload : List Byte) : Block := (b.askPosition p payload (.host c)).dispatch

/-! ### Expedited access and ALL (R352, R356) -/

/-- Does the position of a command exist (R356)? Choices: log 47 (DEDUCED, unsafe). -/
def Block.positionKnown (b : Block) (op p : Nat) : Bool :=
  decide (b.get Ob.censusResultTop ≤ 63) && (decide ((p : Int) ≤ b.get Ob.censusResultTop) || (p == 0x80 && op == 2))

/-- READ. Choices: log 46 (DEDUCED, unsafe). -/
def Block.hostRead (b : Block) (m : List Host.Cell) (c : Carrier) (p ix sub : Nat) : Block :=
  if p = 0 then
    let r := b.readNow m ix sub
    r.2.answerHost c (r.1.result r.1.data)
  else b.askFor c p (commandPayload 1 ix sub 0 0 [])

/-- The result of ALL: the first failure with their number and its position (R356). -/
def allBody (failures : Nat) (first : Nat × Nat × Nat) : List Byte :=
  if failures = 0 then bytesOf 1 0
  else bytesOf 1 first.2.1 ++ bytesOf 1 failures ++ bytesOf 1 first.1 ++ (if first.2.1 = 1 then bytesOf 2 first.2.2 else [])

/-- ALL goes on to its next position, or ends. -/
def Block.allNext (b : Block) (c : Carrier) (left : List Nat) (failures : Nat) (first : Nat × Nat × Nat) : Block :=
  match left, (b.hostPort c).executing with
  | p :: _, some r =>
    (b.setJob c (.all left failures first)).askFor c p
      (commandPayload 2 (field r.header 2 2) (field r.header 4 1) r.data.length 0 r.data)
  | _, _ => b.answerWith c (allBody failures first)

/-- One write of ALL has ended at the position in front: result code and abort code. -/
def Block.allStep (b : Block) (c : Carrier) (left : List Nat) (failures : Nat) (first : Nat × Nat × Nat) (result abort : Nat) : Block :=
  let p := left.headD 0
  if result = 0 then b.allNext c left.tail failures first
  else b.allNext c left.tail (failures + 1) (if failures = 0 then (p, result, abort) else first)

/-- A write of a carrier's command to the head's own dictionary has ended. -/
def Block.ownWritten (b : Block) (c : Carrier) (r : Result) : Block := match (b.hostPort c).executing.map (fun (r : Running) => r.job) with
  | some (.all left failures first) => match r with
    | .abort a => b.allStep c left failures first 1 a
    | .chainFail => b.allStep c left failures first 2 0
    | _ => b.allStep c left failures first 0 0
  | _ => b.answerHost c r

/-- WRITE to the head's own dictionary. -/
def Block.writeOwn (b : Block) (m : List Host.Cell) (c : Carrier) (ix sub : Nat) (data : List Byte) : Block :=
  let r := b.writeNow m ix sub data (some c)
  match r.1 with
  | some y => r.2.ownWritten c (y.result [])
  | none => r.2

/-- WRITE. -/
def Block.hostWrite (b : Block) (m : List Host.Cell) (c : Carrier) (p ix sub : Nat) (data : List Byte) : Block :=
  if p = 0 then b.writeOwn m c ix sub data
  else if p = 0x80 then (b.setJob c (.all (0 :: b.committed) 0 (0, 0, 0))).writeOwn m c ix sub data
  else b.askFor c p (commandPayload 2 ix sub data.length 0 data)

/-! ### Segmented transfers through the buffer (R48–R52, R357) -/

/-- Number of chain segments of n bytes. -/
abbrev chainSegments (n : Nat) : Nat := ceilDiv n segmentSize

/-- Chain segment k of a run of bytes. -/
def chainSegment (l : List Byte) (k : Nat) : List Byte := (l.drop (segmentSize * k)).take segmentSize

/-- A read has arrived whole in the buffer: the host has its length. -/
def Block.fetched (b : Block) (c : Carrier) (t : HostTransfer) : Block :=
  (b.setBuffer c (some { t with length := t.data.length })).answerHost c (.done (bytesOf 2 t.data.length))

/-- A read of the head's own dictionary into the buffer. -/
def Block.fetchOwn (b : Block) (m : List Host.Cell) (c : Carrier) (t : HostTransfer) : Block :=
  let r := b.initRead m c.requester t.ix t.sub t.length
  match r.1.abort with
  | some a => r.2.answerHost c (.abort a)
  | none =>
    let b := (List.range (chainSegments r.1.length)).foldl
      (fun (b : Block) (k : Nat) => (b.segmentRead c.requester (k % 256)).2) r.2
    b.fetched c { t with data := match b.transferOf c.requester with
      | some x => x.data
      | none => [] }

/-- SEG_INIT_READ (R357). -/
def Block.hostInitRead (b : Block) (m : List Host.Cell) (c : Carrier) (p ix sub l : Nat) : Block :=
  let t : HostTransfer := ⟨p, ix, sub, false, [], l, 0, none, 0, 0⟩
  let b := b.setHostPort c { b.hostPort c with transfer := none }
  if p = 0 then b.fetchOwn m c t else (b.setJob c (.fetch t)).askFor c p (commandPayload 3 ix sub l 0 [])

/-- SEG_INIT_WRITE (R357): answered after the head has checked L. To the head's own dictionary it is a write received (R42). -/
def Block.hostInitWrite (b : Block) (c : Carrier) (p ix sub l : Nat) : Block :=
  let b := b.setHostPort c { b.hostPort c with transfer := none }
  let b := if p = 0 && ix ≠ 0x1F00 then b.disarm else b
  match limitAbort l with
  | some a => (if p = 0 then b.refusedWrite ix else b).answerHost c (.abort a)
  | none => (b.setBuffer c (some ⟨p, ix, sub, true, [], l, 0, none, 0, 0⟩)).answerHost c (.done [])

/-- A segment or End without a transfer (R51). -/
def Block.noBuffer (b : Block) (c : Carrier) : Block :=
  let p := b.hostPort c
  (b.setHostPort c { p with timedOut := false }).answerHost c (.abort (if p.timedOut then 0x060E else 0x060D))

/-- The host's transfer closes, and the command ends with an abort; a write to the head's own dictionary is refused with it (R41, R42). -/
def Block.closeBuffer (b : Block) (c : Carrier) (t : HostTransfer) (abort : Nat) : Block :=
  ((if t.writing && t.position = 0 then b.refusedWrite t.ix else b).setBuffer c none).answerHost c (.abort abort)

/-- SEG_READ, answered from the buffer (R52, R357). -/
def Block.hostSegRead (b : Block) (c : Carrier) (s : Nat) : Block := match (b.hostPort c).transfer with
  | none => b.noBuffer c
  | some t =>
    let again := t.last.filter fun x => x.1 == s
    if t.writing then b.closeBuffer c t 0x060D
    else match again with
      | some x => b.answerHost c (.done (bytesOf 1 s ++ x.2))
      | none =>
        if s ≠ t.next || t.data.length ≤ t.delivered then b.closeBuffer c t 0x060D
        else
          let chunk := (t.data.drop t.delivered).take (hostSegment c)
          (b.setBuffer c (some { t with next := (s + 1) % 256, last := some (s, chunk), delivered := t.delivered + chunk.length })).answerHost c
            (.done (bytesOf 1 s ++ chunk))

/-- SEG_WRITE, into the buffer (R49, R52, R357). -/
def Block.hostSegWrite (b : Block) (c : Carrier) (s : Nat) (data : List Byte) : Block := match (b.hostPort c).transfer with
  | none => b.noBuffer c
  | some t =>
    let again := t.last.any fun x => x.1 == s
    if !t.writing then b.closeBuffer c t 0x060D
    else if again then b.answerHost c (.done (bytesOf 1 s))
    else if s ≠ t.next then b.closeBuffer c t 0x060D
    else if t.length < t.data.length + data.length then b.closeBuffer c t 0x0607
    else
      (b.setBuffer c (some { t with next := (s + 1) % 256, last := some (s, []), data := t.data ++ data })).answerHost c
        (.done (bytesOf 1 s))

/-- A write out of the buffer into the head's own dictionary. -/
def Block.putOwn (b : Block) (m : List Host.Cell) (c : Carrier) (t : HostTransfer) : Block :=
  let r := b.initWrite c.requester t.ix t.sub t.length
  match r.1.abort with
  | some a => r.2.answerHost c (.abort a)
  | none =>
    let b := (List.range (chainSegments t.data.length)).foldl
      (fun (b : Block) (k : Nat) => (b.segmentWrite c.requester (k % 256) (chainSegment t.data k)).2) r.2
    let e := b.segmentEnd m c.requester t.length (some c)
    match e.1 with
    | some y => e.2.ownWritten c (y.result [])
    | none => e.2

/-- End of a read from the head's own dictionary. -/
def Block.endOwn (b : Block) (m : List Host.Cell) (c : Carrier) (total : Nat) : Block :=
  let e := b.segmentEnd m c.requester total (some c)
  match e.1 with
  | some y => e.2.answerHost c (y.result [])
  | none => e.2

/-- SEG_END (R49, R50, R357). -/
def Block.hostSegEnd (b : Block) (m : List Host.Cell) (c : Carrier) (total : Nat) : Block := match (b.hostPort c).transfer with
  | none => b.noBuffer c
  | some t =>
    if t.writing then
      if total ≠ t.length || t.data.length ≠ t.length then b.closeBuffer c t 0x0606
      else
        let b := b.setBuffer c none
        if t.position = 0 then b.putOwn m c t
        else (b.setJob c (.put { t with chainSegment := 0 })).askFor c t.position (commandPayload 4 t.ix t.sub t.length 0 [])
    else if total ≠ t.data.length || t.delivered ≠ t.data.length then b.closeBuffer c t 0x0606
    else
      let b := b.setBuffer c none
      if t.position = 0 then b.endOwn m c total else b.askFor c t.position (commandPayload 7 t.ix t.sub total 0 [])

/-- A step of a read from a position has been answered: chainSegment counts the commands answered before it. -/
def Block.fetchStep (b : Block) (c : Carrier) (t : HostTransfer) (y : Reply) : Block :=
  let t := if t.chainSegment = 0 then { t with length := y.length } else { t with data := t.data ++ y.data }
  if t.length ≤ t.data.length then b.fetched c t
  else
    (b.setJob c (.fetch { t with chainSegment := t.chainSegment + 1 })).askFor c t.position
      (commandPayload 5 t.ix t.sub 0 (t.chainSegment % 256) [])

/-- A step of a write to a position has been answered. -/
def Block.putStep (b : Block) (c : Carrier) (t : HostTransfer) : Block :=
  let k := t.chainSegment
  let n := chainSegments t.length
  let next := HostJob.put { t with chainSegment := k + 1 }
  if k < n then
    let chunk := chainSegment t.data k
    (b.setJob c next).askFor c t.position (commandPayload 6 t.ix t.sub chunk.length (k % 256) chunk)
  else if k = n then (b.setJob c next).askFor c t.position (commandPayload 7 t.ix t.sub t.length 0 [])
  else b.answerHost c (.done [])

/-- A position has answered the command of a carrier; none stands for four attempts that failed (R319). -/
def Block.hostReply (b : Block) (c : Carrier) (x : Option Reply) : Block :=
  match (b.hostPort c).executing.map (fun (r : Running) => r.job), x with
  | some (.all left failures first), none => b.allStep c left failures first 2 0
  | some (.all left failures first), some y => match y.abort with
    | some a => b.allStep c left failures first 1 a
    | none => b.allStep c left failures first 0 0
  | _, none => b.answerHost c .chainFail
  | some (.fetch t), some y => match y.abort with
    | some a => b.answerHost c (.abort a)
    | none => b.fetchStep c t y
  | some (.put t), some y => match y.abort with
    | some a => b.answerHost c (.abort a)
    | none => b.putStep c t
  | _, some y => b.answerHost c (y.result y.data)

/-- SEGMENT_REPEAT_KEEPALIVE (R357): the last segment request to the position goes out again. -/
def segmentRepeatKeepalive (c : Carrier) (b : Block) : Block :=
  match (b.hostPort c).transfer.filter fun t => !t.writing && t.position != 0 && t.chainSegment != 0 with
  | none => b
  | some t =>
    if !b.awake || !b.isHead then b
    else (b.askPosition t.position (commandPayload 5 t.ix t.sub 0 ((t.chainSegment - 1) % 256) []) .keepalive).dispatch

/-! ### TRIGGER, READ_STREAM, READ_ATTENTION (R359, R360, R365) -/

/-- TRIGGER (R352, R359). -/
def Block.hostTrigger (b : Block) (c : Carrier) (cls : Nat) : Block :=
  if cls = 0 || 5 < cls then b.answerHost c (.abort 0x0605)
  else if b.link.round.isSome then b.dropTrigger.answerHost c (.done [])
  else if b.link.hostTriggers.any (fun x => x.2 == cls) then b.answerHost c (.abort 0x0609)
  else if (cls ≠ 2 && (b.inTrain cls || b.refreshing)) || !b.syncRoom (triggerTime cls) then
    ((b.withLink { b.link with hostTriggers := b.link.hostTriggers ++ [(c, cls)] }) : Block).setJob c .trigger
  else (b.startTrain cls false).answerHost c (.done [])

/-- Record that READ_STREAM reads: TrainFlags, count of closed trains, header and payload (R360). -/
def Block.streamFor (b : Block) (cls p : Nat) : Nat × Nat × Nat × List Byte :=
  if cls = 0 then
    (if b.link.summary.isEmpty then 2 else 0, b.closedCount 1, 0, (b.link.summary ++ bytesOf 40 0).take 40)
  else
    let r := b.streamRecord cls p
    (r.1, b.closedCount cls, r.2.header, r.2.payload)

/-- READ_STREAM (R352, R356, R360). Choices: log 45 (DEDUCED, unsafe). -/
def Block.hostStreamRead (b : Block) (c : Carrier) (p cls offset k : Nat) : Result :=
  if 6 < cls then .abort 0x0605
  else if k = 0 then .abort 0x0606
  else if hostStream c < k then .abort 0x0607
  else if cls ≠ 0 && !b.positionKnown 0x11 p then .noPosition
  else
    let r := b.streamFor cls p
    if r.2.2.2.length < offset + k then .abort 0x0607
    else .done (bytesOf 1 r.1 ++ bytesOf 2 r.2.1 ++ bytesOf 4 r.2.2.1 ++ (r.2.2.2.drop offset).take k)

/-! ### A command accepted (R354–R356) -/

/-- The command in execution is carried out. -/
def Block.runHost (b : Block) (m : List Host.Cell) (c : Carrier) (r : Running) : Block :=
  let op := headerOp r.header
  let p := field r.header 1 1
  let ix := field r.header 2 2
  let sub := field r.header 4 1
  let first := field r.data 0 1
  let word := field r.data 0 2
  if op = 0x12 then (b.put Ob.attention 0).answerHost c (.done (bytesOf 2 (b.nat Ob.attention)))
  else if op = 0x11 then b.answerHost c (b.hostStreamRead c p sub ix first)
  else if !b.positionKnown op p then b.answerHost c .noPosition
  else if op = 0x01 then b.hostRead m c p ix sub
  else if op = 0x02 then b.hostWrite m c p ix sub r.data
  else if op = 0x03 then b.hostInitRead m c p ix sub word
  else if op = 0x04 then b.hostInitWrite c p ix sub word
  else if op = 0x05 then b.hostSegRead c first
  else if op = 0x06 then b.hostSegWrite c first (r.data.drop 1)
  else b.hostSegEnd m c word

/-- A command begins: refused, a TRIGGER, held by a census round, or carried out (R352, R355, R359). Choices: log 9 (DESIGN CHOICE, unsafe). -/
def Block.startHost (b : Block) (m : List Host.Cell) (c : Carrier) (r : Running) : Block :=
  let op := headerOp r.header
  let b := b.setHostPort c { b.hostPort c with executing := some r }
  let fits := novezFits c op r.data.length
  if op = 0x10 && fits then b.hostTrigger c (field r.data 0 1)
  else if b.link.round.isSome then b.setHostPort c { b.hostPort c with executing := some { r with held := true } }
  else if (novezLength c op).isNone then b.answerHost c (.abort 0x060F)
  else if !fits then b.answerHost c .rejected
  else b.runHost m c r

/-- The commands that a census round held are carried out (R355). -/
def Block.runHeld (b : Block) (m : List Host.Cell) : Block :=
  [Carrier.spi, Carrier.can].foldl (fun (b : Block) (c : Carrier) =>
    match (b.hostPort c).executing.filter (·.held) with
    | some r => b.startHost m c { r with held := false }
    | none => b) b

/-- A transaction keeps the head awake (R89, R364, R369) and releases WAKE (R101). -/
def Block.hostHeard (b : Block) : Block :=
  (b.withPower { b.power with commAt := b.now }).withHost { b.host with wakeLow := false }

/-- A valid request ends SILENT (R370). -/
def Block.endSilent (b : Block) : Carrier → Block
  | .spi => b
  | .can =>
    let b : Block := b.withHost { b.host with spoken := true }
    if b.get Ob.canStatusErrorState = canSilent then (b.put Ob.canStatusErrorState canActive).judgeCan else b

/-- Counter of accepted commands (R375). -/
def acceptedKey : Carrier → Nat
  | .spi => Ob.hostCountersSpiAccepted
  | .can => Ob.hostCountersCanAccepted

/-- A command while the carrier's previous one executes (R355). -/
def Block.refuseBusy (b : Block) (c : Carrier) (header : List Byte) : Block :=
  let b := b.count32 Ob.hostCountersBusyRefusals
  match c with
  | .spi => b.setHostPort .spi { b.host.spi with rejected := true }
  | .can => b.canRespond (novezMessage header Result.busy.bytes)

/-- The earlier response again (R354). -/
def Block.repeatAnswer (b : Block) (c : Carrier) (message : List Byte) : Block := match c with
  | .spi => b.setHostPort .spi { b.host.spi with slot := some message }
  | .can => b.canRespond message

/-- A new command discards an unread response (R355). -/
def Block.discardSlot (b : Block) (c : Carrier) : Block :=
  let p := b.hostPort c
  if p.slot.isSome then (b.count32 Ob.hostCountersResponsesDiscarded).setHostPort c { p with slot := none } else b

/-- A command that passed the checks of its carrier: header bytes 0–4 and data. Choices: log 47 (DEDUCED, unsafe). -/
def Block.acceptHost (b : Block) (m : List Host.Cell) (c : Carrier) (header data : List Byte) : Block :=
  let b := b.hostHeard.endSilent c
  let p := b.hostPort c
  if p.executing.isSome then b.refuseBusy c header
  else
    let b := (b.setHostPort c { p with rejected := false }).count32 (acceptedKey c)
    match p.last.filter fun x => x.1 == header ++ data with
    | some x => b.repeatAnswer c x.2
    | none => (b.discardSlot c).startHost m c ⟨header, data, .single, false⟩

/-! ### SPI (R361–R363) -/

/-- Does a head answer on a carrier (R40, R362, R366)? -/
def Block.carrierOpen (b : Block) : Carrier → Bool
  | .spi => b.awake && b.isHead && b.on Ob.spiConfigEnable
  | .can => b.canHears

/-- Attention bits under the mask (R365). -/
def Block.attentionShown (b : Block) : Bool := b.nat Ob.attention &&& b.nat Ob.attentionMask != 0

/-- Is WAKE driven low (R101, R365)? -/
def Block.wakePin (b : Block) : Bool :=
  b.isHead && (b.host.wakeLow || (b.carrierOpen .spi && (b.host.spi.slot.isSome || b.attentionShown)))

/-- The status byte (R362). -/
def Block.spiStatus (b : Block) : Nat :=
  128 + boolNat b.host.spi.slot.isSome + 2 * boolNat b.host.spi.executing.isSome + 4 * boolNat b.attentionShown +
    8 * boolNat b.flint.fltLow + 16 * boolNat b.host.spi.rejected

/-- The checks of a message: its bytes as received (R351, R361, R369). exact asks for no byte beyond it. Choices: log 47 (DEDUCED, unsafe). -/
structure Checked where
  header : List Byte
  data : List Byte
  whole : Bool
  headerOk : Bool
  dataOk : Bool
  deriving DecidableEq, Repr

/-- A received message taken apart. -/
def checkMessage (exact : Bool) (l : List Byte) : Checked :=
  let n := field l 5 1
  let size := if n = 0 then 8 else 10 + n
  let data := (l.drop 8).take n
  { header := (l ++ bytesOf 5 0).take 5
    data := data
    whole := decide (8 ≤ l.length) && (if exact then l.length == size else decide (size ≤ l.length))
    headerOk := field l 6 2 == crc16 (l.take 6)
    dataOk := n == 0 || field l (8 + n) 2 == crc16 data }

/-- Does a message fail by a CRC (R364)? -/
def Checked.crcFails (k : Checked) (l : List Byte) : Bool := (decide (8 ≤ l.length) && !k.headerOk) || (k.whole && !k.dataOk)

/-- A message that fails a check counts its CRC failure for this second (R364). -/
def Block.noteCrc (b : Block) (c : Carrier) (fails : Bool) : Block :=
  let p := b.hostPort c
  if fails then b.setHostPort c { p with crcSecond := p.crcSecond + 1 } else b

/-- SPI_READ (R353, R363): a transaction of so many bytes whose first is 0x3F. -/
def spiRead (clocked : Nat) (b : Block) : Block :=
  if !b.carrierOpen .spi || clocked = 0 then b
  else
    let s := b.host.spi
    let none' := if s.executing.isSome then 0xFE else 0xFF
    let message := s.slot.getD (novezMessage (bytesOf 5 0) (bytesOf 1 none'))
    let out := bytesOf 1 b.spiStatus ++ message
    let b := (b.emit (.spi ((out ++ bytesOf (clocked - out.length) 0).take clocked))).hostHeard
    if out.length ≤ clocked then b.setHostPort .spi { s with slot := none } else b

/-- A command transaction that fails a check (R361). Choices: log 47 (DEDUCED, unsafe). -/
def Block.rejectSpi (b : Block) (header : List Byte) : Block :=
  let b := b.count32 Ob.hostCountersSpiRejected
  let s := b.host.spi
  b.setHostPort .spi { s with
    rejected := true
    slot := if s.executing.isSome then s.slot else some (novezMessage header Result.rejected.bytes) }

/-- SPI_COMMAND (R361): a whole transaction. Choices: log 47 (DEDUCED, unsafe). -/
def spiCommand (l : List Byte) (m : List Host.Cell) (b : Block) : Block :=
  if !b.carrierOpen .spi || l.isEmpty then b
  else if field l 0 1 = 0x3F then spiRead l.length b
  else
    let b := b.emit (.spi (bytesOf 1 b.spiStatus ++ bytesOf (l.length - 1) 0))
    let k := checkMessage true l
    if k.whole && k.headerOk && k.dataOk then b.acceptHost m .spi k.header k.data
    else (b.noteCrc .spi (k.crcFails l)).rejectSpi k.header

/-! ### CAN FD requests (R369) -/

/-- CAN_REQUEST: a data frame on B + 2. Choices: log 47 (DEDUCED, unsafe). -/
def canRequest (l : List Byte) (m : List Host.Cell) (b : Block) : Block :=
  if !b.canHears then b
  else
    let b := b.canReceived
    let k := checkMessage false l
    let sound := k.whole && k.headerOk && k.dataOk
    if sound && novezFits .can (headerOp k.header) k.data.length then b.acceptHost m .can k.header k.data
    else
      let b := b.noteCrc .can (k.crcFails l)
      let b := if sound then b.hostHeard else b
      if b.canSends then (b.count32 Ob.hostCountersCanRejected).canRespond (novezMessage k.header Result.rejected.bytes) else b

/-! ### The commands of Novez as rows of their own -/

/-- The TAG of the host's next command (R354). -/
def Block.nextTag (b : Block) (c : Carrier) : Nat := match (b.hostPort c).last with
  | some x => (field x.1 0 1 / 64 + 1) % 4
  | none => 0

/-- A Novez command that arrives on a carrier with both CRCs right. -/
def hostCommand (c : Carrier) (op p ix sub : Nat) (data : List Byte) (m : List Host.Cell) (b : Block) : Block :=
  if !b.carrierOpen c then b
  else b.acceptHost m c (bytesOf 1 (64 * b.nextTag c + op) ++ bytesOf 1 p ++ bytesOf 2 ix ++ bytesOf 1 sub) data

/-- HOST_CRC_RATE (R364) of one carrier: a second ends. -/
def Block.judgeHostCrc (b : Block) (c : Carrier) (code : Nat) : Block :=
  let p := b.hostPort c
  let c' := b.setHostPort c { p with crcSecond := 0 }
  if b.get Ob.hostCrcLimit < p.crcSecond then c'.raise 0x65 (code + 65536 * min p.crcSecond 65535) else c'

/-- HOST_CRC_RATE (R364). -/
def hostCrcRate (b : Block) : Block :=
  if !b.awake || !b.isHead then b
  else
    let within := ((b.host.spi.crcSecond : Int) ≤ b.get Ob.hostCrcLimit) && ((b.host.can.crcSecond : Int) ≤ b.get Ob.hostCrcLimit)
    let c := (b.judgeHostCrc .spi 0).judgeHostCrc .can 1
    if within then c.clearLive 0x65 else c

/-! ### The commands of the family -/

/-- SPI_COMMAND (R361). -/
def execSpiCommand (bytes : List Byte) (s : State) : Out := onBlockReading (spiCommand bytes) s

/-- SPI_READ (R363). -/
def execSpiRead (clocked : Nat) (s : State) : Out := onBlock (spiRead clocked) s

/-- CAN_REQUEST (R369). -/
def execCanRequest (bytes : List Byte) (s : State) : Out := onBlockReading (canRequest bytes) s

/-- NOVEZ_READ (R352). -/
def execNovezRead (carrier : Carrier) (position ix sub : Nat) (s : State) : Out :=
  onBlockReading (hostCommand carrier 1 position ix sub []) s

/-- NOVEZ_WRITE (R352, R356). -/
def execNovezWrite (carrier : Carrier) (position ix sub : Nat) (data : List Byte) (s : State) : Out :=
  onBlockReading (hostCommand carrier 2 position ix sub data) s

/-- NOVEZ_SEG_INIT_READ (R357). -/
def execNovezSegInitRead (carrier : Carrier) (position ix sub length : Nat) (s : State) : Out :=
  onBlockReading (hostCommand carrier 3 position ix sub (bytesOf 2 length)) s

/-- NOVEZ_SEG_INIT_WRITE (R357). -/
def execNovezSegInitWrite (carrier : Carrier) (position ix sub length : Nat) (s : State) : Out :=
  onBlockReading (hostCommand carrier 4 position ix sub (bytesOf 2 length)) s

/-- NOVEZ_SEG_READ (R357). -/
def execNovezSegRead (carrier : Carrier) (position ix sub segment : Nat) (s : State) : Out :=
  onBlockReading (hostCommand carrier 5 position ix sub (bytesOf 1 segment)) s

/-- NOVEZ_SEG_WRITE (R357). -/
def execNovezSegWrite (carrier : Carrier) (position ix sub segment : Nat) (data : List Byte) (s : State) : Out :=
  onBlockReading (hostCommand carrier 6 position ix sub (bytesOf 1 segment ++ data)) s

/-- NOVEZ_SEG_END (R357). -/
def execNovezSegEnd (carrier : Carrier) (position ix sub total : Nat) (s : State) : Out :=
  onBlockReading (hostCommand carrier 7 position ix sub (bytesOf 2 total)) s

/-- SEGMENT_REPEAT_KEEPALIVE (R357). -/
def execSegmentRepeatKeepalive (carrier : Carrier) (s : State) : Out := onBlock (segmentRepeatKeepalive carrier) s

/-- TRIGGER (R359). -/
def execTrigger (carrier : Carrier) (cls : Nat) (s : State) : Out := onBlockReading (hostCommand carrier 0x10 0 0 0 (bytesOf 1 cls)) s

/-- READ_STREAM (R360). -/
def execReadStream (carrier : Carrier) (position cls offset count : Nat) (s : State) : Out :=
  onBlockReading (hostCommand carrier 0x11 position offset cls (bytesOf 1 count)) s

/-- READ_ATTENTION (R365). -/
def execReadAttention (carrier : Carrier) (s : State) : Out := onBlockReading (hostCommand carrier 0x12 0 0 0 []) s

/-- HOST_CRC_RATE (R364). -/
def execHostCrcRate (s : State) : Out := onBlock hostCrcRate s

end Sys2Proof.Machine
end

