-- ==== Sys2Proof/Machine/HeadLink.lean ====
section
/-! DEFINITION. The head at work on its chain (R241, R264, R269, R306, R307, R311–R315, R319, R321, R331–R335, R339, R342–R344, R349, R350):
census rounds, delays, split operation, answers of positions, the checks a write waits for, stream frames and the close of trains. -/

namespace Sys2Proof.Machine

/-! ### Broadcasts of a round (R307, R312–R315) -/

/-- A broadcast on one port only. -/
def Block.broadcastOn (b : Block) (p : Port) (payload : List Byte) : Block :=
  let f := frameOf (headerOf 4 0 0 0 b.link.broadcasts) payload
  ((b.withLink { b.link with broadcasts := (b.link.broadcasts + 1) % 65536 }) : Block).sendOn p f

/-- The pass of the round in progress waits for a SYNC, or does so no more (R315). -/
def Block.holdPass (b : Block) (x : Bool) : Block := b.withLink { b.link with round := b.link.round.map fun (r : Round) => { r with held := x } }

/-- How long the upward traffic of a pass lasts in ns (R315): 63 hops of at most 3.72 us, since the head does not know how many there are. Choices:
log 42 (DEDUCED, unsafe). -/
abbrev passTime : Nat := 63 * 3720

/-- A CENSUS frame leaves on DU (R307), or waits for the next SYNC to go by (R315). -/
def Block.sendCensus (b : Block) (number : Nat) : Block :=
  let g := b.nat Ob.generation
  let p := censusPayload 1 false g g (b.nat Ob.ringMode)
  if b.syncRoom passTime then (b.holdPass false).sendOn .du (frameOf (headerOf 5 0 0 0 number) p) else b.holdPass true

/-- Time from one sweep to the next, and what a sweep of n probes takes, in ns (R313). -/
abbrev sweepStep : Nat := 200000
def sweepTime (n : Nat) : Nat := 2500 * (n - 1) + 500

/-- How many of the next sweeps of n probes end well before the next SYNC (R315), of at most a number. -/
def Block.sweepsFit (b : Block) (n : Nat) : Nat → Nat
  | 0 => 0
  | k + 1 => if b.syncRoom (sweepStep * k + sweepTime n) then k + 1 else b.sweepsFit n k

/-- The broadcast of the sweeps in progress and those sweeps that end well before the next SYNC leave (R313, R315); the others wait for it to go
by, and those of a refresh for the end of a train too (R314). -/
def Block.sendProbes (b : Block) : Block := match b.link.probing with
  | none => b
  | some q =>
    if b.refreshing && !b.link.trains.isEmpty then b else
    let b := if !q.announced && 0 < b.sweepsFit q.count 1 then
        ((b.withLink { b.link with probing := some { q with announced := true } }) : Block).broadcastOn q.port
          (bytesOf 1 4 ++ bytesOf 1 (if q.port = .dl then 1 else 0) ++ bytesOf 1 4 ++ bytesOf 1 q.count)
      else b
    match b.link.probing with
    | none => b
    | some q =>
      let n := if q.announced then b.sweepsFit q.count q.left else 0
      let b : Block := b.withLink { b.link with probing := some { q with left := q.left - n } }
      if n = 0 || !b.transmits q.port then b
      else
        let b := (List.range (n * q.count)).foldl (fun (b : Block) (_ : Nat) => b.sendPulse q.port .tone) b
        if q.port = .du then b.occupyDu (sweepStep * (n - 1) + sweepTime q.count) else b

/-- Sweeps begin (R313): the broadcast, then four sweeps of so many probes. -/
def Block.sendSweeps (b : Block) (p : Port) (count : Nat) (again : Bool) : Block :=
  ((b.withLink { b.link with probing := some ⟨p, count, again, 4, false⟩ }) : Block).sendProbes

/-- DELAYS (R314, R331). Choices: log 43 (DEDUCED, unsafe). -/
def delaysPayload (top : Nat) (split : Bool) (table : List Nat) : List Byte :=
  bytesOf 1 3 ++ bytesOf 1 top ++ bytesOf 1 (boolNat split) ++ bytesOf 1 0 ++
    ((List.range 63).map fun k => bytesOf 4 ((table[k]?).getD 0)).flatten

/-- DELAYS goes out twice (R314). -/
def Block.sendDelays (b : Block) (p : Port) (top : Nat) (split : Bool) (table : List Nat) : Block :=
  let x := delaysPayload top split table
  (b.broadcastOn p x).broadcastOn p x

/-- COMMIT (R312, R331). -/
def commitPayload (top flags number : Nat) : List Byte :=
  bytesOf 1 2 ++ bytesOf 1 top ++ bytesOf 1 flags ++ bytesOf 1 0 ++ bytesOf 2 number ++ bytesOf 2 0

/-! ### The end of a round (R306, R315) -/

/-- Host triggers whose class is free go out, and are answered (R359); a scheduled trigger of the class that waits goes with them. -/
def Block.runTriggers (b : Block) : Block :=
  b.link.hostTriggers.foldl (fun (b : Block) (x : Carrier × Nat) =>
    if b.link.round.isSome || (x.2 ≠ 2 && (b.inTrain x.2 || b.refreshing)) || !b.syncRoom (triggerTime x.2) then b
    else
      let l := b.link
      let b : Block := b.withLink { l with
        hostTriggers := l.hostTriggers.filter (· != x), waiting := l.waiting.filter (· != x.2) }
      (b.startTrain x.2 false).answerHost x.1 (.done [])) b

/-- The round ends: the configuration after a COMMIT, the chain reference, and a configuration that fell due in a round that failed (R306, R331),
KEEPER forwards it deferred, and what waited. -/
def Block.endRound (b : Block) (m : List Host.Cell) (committed : Bool) : Block :=
  let forwards := b.link.forwards
  let due := b.link.configDue
  let b : Block := b.withLink { b.link with
    round := none, probing := none, resumeFrom := some b.now, forwards := [], configDue := false }
  let b := if committed then b.sendChainConfig.sendReference else if due then b.sendReference.sendChainConfig else b.sendReference
  let b := forwards.foldl (fun (b : Block) (p : List Byte) => b.sendKeeper p) b
  (b.dispatch.runHeld m).kick

/-! ### Census rounds (R306, R311, R312) -/

/-- May a round start (R306, R343): nothing in progress, no command outstanding, no split that stays? -/
def Block.roundFree (b : Block) : Bool :=
  b.awake && b.isHead && b.link.round.isNone && b.link.trains.isEmpty && b.link.probing.isNone &&
    (b.link.commands.all fun c => c.seq.isNone) && (!b.splitOn || b.link.splitEnds)

/-- A consistent round (R312): COMMIT goes out twice, and its result is the head's. Choices: log 42 (DEDUCED, unsafe). -/
def Block.commitRound (b : Block) (m : List Host.Cell) (number pass top : Nat) (overflow closed : Bool) : Block :=
  let ring := b.get Ob.ringMode = 1
  let ringOpen := ring && !closed
  let flags := boolNat overflow + 2 * boolNat closed + 4 * boolNat ringOpen + 32 * boolNat (b.bit Ob.censusResultFlags 5) +
    64 * boolNat (b.link.round.any fun r => r.byId)
  let b := b.putAll [(Ob.censusResultTop, (top : Int)), (Ob.censusResultFlags, (flags : Int)),
    (Ob.censusResultCensusNumber, (number : Int)), (Ob.censusResultPasses, (pass : Int)), (Ob.censusResultLastCommit, (b.now : Int))]
  let b : Block := b.withLink { b.link with
    baseline := b.nat Ob.generation, retryAt := none, missing := List.replicate 64 0, lacked := []
    nodeHolds := b.link.nodeHolds.filter fun x => decide (x.1 ≤ top)
    round := b.link.round.map fun (r : Round) => { r with settled := true } }
  let x := commitPayload top flags number
  let b := ((b.broadcastOn .du x).broadcastOn .du x).attend 2
  let b := b.clearLive 0x62
  let b := if top = 63 && overflow then b.raise 0x62 2 else b
  let b := if ringOpen then b.raise 0x62 3 else b
  if top = 0 then b.endRound m true else b.sendSweeps .du top false

/-- A round begins (R306, R307). A head whose DU is not UP has no node above it. -/
def Block.startRound (b : Block) (m : List Host.Cell) : Block :=
  let n := b.link.nextNumber
  let b := b.putBit Ob.censusResultFlags 3 false
  let b := if b.link.idRound then b.putBit Ob.censusResultFlags 6 true else b
  let b : Block := b.withLink { b.link with
    round := some ⟨n, 1, none, false, false, b.link.idRound⟩, roundWanted := false, idRound := false
    wakeCensus := b.link.wakeCensus.filter fun x => !reached b.now x, split := none, splitEnds := false, lacked := []
    breakAt := none, retryAt := none, nextNumber := (n + 1) % 65536 }
  if b.portUp .du then b.sendCensus n else b.commitRound m n 1 0 false false

/-- CENSUS_ROUND_START (R83, R95, R96, R306): a round is wanted, or the census that follows a tone is due; one that is not due yet outlives an
earlier round. Choices: log 21 (DEDUCED, unsafe). -/
def censusRoundStart (t : Nat) (m : List Host.Cell) (b : Block) : Block :=
  let b := b.at t
  if b.roundFree && (b.link.roundWanted || b.link.wakeCensus.any fun x => reached b.now x) then b.startRound m else b

/-- CENSUS_RETRY (R311): 100 ms after a failed round. -/
def censusRetry (t : Nat) (m : List Host.Cell) (b : Block) : Block :=
  let b := b.at t
  match b.link.retryAt with
  | some r => if b.roundFree && reached b.now r then b.startRound m else b
  | none => b

/-- The round fails after eight passes (R311). Choices: log 42 (DEDUCED, unsafe). -/
def Block.failRound (b : Block) (m : List Host.Cell) : Block :=
  let b := ((b.putBit Ob.censusResultFlags 4 true).putBit Ob.censusResultFlags 6 (b.link.round.any fun r => r.byId)).put Ob.censusResultPasses 8
  let b := b.raise 0x62 1
  let b : Block := b.withLink { b.link with retryAt := some ((b.now + 100000) % t48) }
  b.endRound m false

/-- A further pass, or failure after the eighth (R311). -/
def Block.nextPass (b : Block) (m : List Host.Cell) (r : Round) (last : Option (List Byte)) : Block :=
  if 8 ≤ r.pass then b.failRound m
  else
    ((b.withLink { b.link with round := some { r with pass := r.pass + 1, last := last, held := false } }) : Block).sendCensus r.number

/-- What two passes must agree in (R311). Choices: log 42 (DEDUCED, unsafe). -/
def passResult (p : List Byte) : List Byte := p.take 3 ++ bytesOf 1 (field p 3 1 &&& 2)

/-- CENSUS_PASS_RESULT (R311, R312): the CENSUS_REPLY of a pass. Choices: log 42 (DEDUCED, unsafe). -/
def censusPassResult (number : Nat) (p : List Byte) (t : Nat) (m : List Host.Cell) (b : Block) : Block :=
  let b := b.at t
  match b.link.round.filter fun r => r.number == number && !r.settled && !r.held && p.length == 4 with
  | none => b
  | some r =>
    if r.last = some (passResult p) then
      b.commitRound m number r.pass (field p 0 1 % 128) (decide (128 ≤ field p 0 1)) (bitOf (field p 3 1) 1)
    else b.nextPass m r (some (passResult p))

/-- CENSUS_PASS_TIMEOUT (R311): no reply within 1 ms. -/
def censusPassTimeout (t : Nat) (m : List Host.Cell) (b : Block) : Block :=
  let b := b.at t
  match b.link.round.filter fun r => !r.settled && !r.held with
  | none => b
  | some r => b.nextPass m r none

/-! ### Delays (R313, R314, R342) -/

/-- Do the loop times of a sweep, in ps, give every hop between 150 ns and 330 ns (R313)? last is the loop time before. -/
def hopsOk : Nat → List Nat → Bool
  | _, [] => true
  | last, l :: t => decide (last + 300000 ≤ l) && decide (l ≤ last + 660000) && hopsOk l t

/-- A sweep is valid when each of its probes came back and every hop is plausible. -/
def sweepOk (count : Nat) (s : List Nat) : Bool := s.length == count && hopsOk 100000 s

/-- Arrival delay of index i from the valid sweeps, in ps (R313): (mean L − 100 ns) / 2. -/
def arrivalOf (valid : List (List Nat)) (i : Nat) : Nat :=
  let total : Nat := (valid.map fun s => (s[i]?).getD 0).sum
  (roundDiv ((total : Int) - (100000 * valid.length : Nat)) (2 * valid.length)).toNat

/-- Delays of positions 1 to 63 after sweeps on DU: those measured, the earlier ones beyond. Choices: log 43 (DEDUCED, unsafe). -/
def Block.measuredDelays (b : Block) (valid : List (List Nat)) (count : Nat) : List Nat :=
  let beyond := b.splitOn
  (List.range 63).map fun k => if k < count then arrivalOf valid k else if beyond then (b.link.delays[k]?).getD 0 else 0

/-- Delays by position of a split side: index i of a sweep on DL is position top − i + 1. -/
def splitTable (valid : List (List Nat)) (count top : Nat) : List Nat :=
  (List.range 63).map fun k => if top ≤ k + count && k < top then arrivalOf valid (top - 1 - k) else 0

/-- Classes whose trains lacked all the positions cut off go out again on DL, once the sweeps are over; what was delivered from below counts
(R342, R343). A class with a train in progress, or without time before the next SYNC, waits (R116, R333). -/
def Block.triggerAgain (b : Block) : Block := match b.link.split with
  | none => b
  | some s =>
    if b.link.probing.any fun q => q.port == .dl then b
    else
      let todo := b.link.lacked.filter fun x => decide (x.2 ≤ s + 1)
      todo.foldl (fun (b : Block) (x : Nat × Nat) =>
        if (x.1 ≠ 2 && (b.inTrain x.1 || b.refreshing)) || !b.syncRoom (triggerTime x.1) then b
        else
          let held := b.link.records.filter fun r => r.cls == x.1 && decide (r.position ≤ s) && r.train == b.closedCount x.1
          let b : Block := b.withLink { b.link with lacked := b.link.lacked.filter (· != x) }
          let b := if b.transmits .dl then b.sendPulse .dl (pulseOf (streamClassOf x.1)) else b
          b.openTrain x.1 false held) ((b.withLink { b.link with lacked := todo }) : Block)

/-- Sweeps gave delays: they go out, and the head holds them. -/
def Block.sweepsGood (b : Block) (q : Probing) (valid : List (List Nat)) : Block :=
  let b := b.putBit Ob.censusResultFlags 5 false
  match q.port with
  | .du =>
    let table := b.measuredDelays valid q.count
    ((b.withLink { b.link with delays := table }) : Block).sendDelays .du q.count false table
  | .dl =>
    let table := splitTable valid q.count (b.nat Ob.censusResultTop)
    ((b.withLink { b.link with splitDelays := table }) : Block).sendDelays .dl q.count true table

/-- What follows sweeps, good or bad: after a refresh, the triggers that waited for it (R314). Choices: log 42 (DEDUCED, unsafe). -/
def Block.sweepsOver (b : Block) (m : List Host.Cell) : Block :=
  let b : Block := b.withLink { b.link with probing := none }
  if b.link.round.isSome then b.endRound m true
  else b.triggerAgain.runTriggers.kick

/-- PROBE_SWEEPS_COMPLETE (R313, R314): the loop times of each sweep by index, in ps. Choices: log 43 (DEDUCED, unsafe). -/
def probeSweepsComplete (sweeps : List (List Nat)) (t : Nat) (m : List Host.Cell) (b : Block) : Block :=
  let b := b.at t
  match b.link.probing.filter fun q => q.left == 0 with
  | none => b
  | some q =>
    let valid := sweeps.filter (sweepOk q.count)
    if 3 ≤ valid.length then (b.sweepsGood q valid).sweepsOver m
    else if !q.again then b.sendSweeps q.port q.count true
    else ((b.putBit Ob.censusResultFlags 5 true).raise 0x62 4).sweepsOver m

/-- DELAY_REFRESH (R314): between trains, without a census; in split operation for the positions below the break. Choices: log 43 (DEDUCED, unsafe). -/
def delayRefresh (t : Nat) (b : Block) : Block :=
  let b := b.at t
  let n := b.link.split.getD b.committed.length
  if b.awake && b.isHead && b.link.round.isNone && b.link.trains.isEmpty && b.link.probing.isNone && n ≠ 0 then b.sendSweeps .du n false
  else b

/-! ### Split operation (R342, R343) -/

/-- SPLIT_ENTRY (R342): a train or a STATUS frame has shown the chain broken above position below. -/
def splitEntry (below t : Nat) (b : Block) : Block :=
  let b := b.at t
  let top := b.committed.length
  if b.awake && b.isHead && b.get Ob.ringMode = 1 && b.portUp .dl && !b.splitOn && b.link.round.isNone &&
      b.link.breakAt == some below && decide (below < top) then
    let b := ((b.withLink { b.link with
      split := some below, splitEnds := false
      trains := b.link.trains.map fun (x : Train) => { x with cut := true } }) : Block).putBit Ob.censusResultFlags 3 true
    b.sendReference.sendSweeps .dl (top - below) false
  else b

/-- SPLIT_END (R343): a STATUS frame from the position below the break has shown its DU UP; a census round ends the split. -/
def splitEnd (t : Nat) (b : Block) : Block :=
  let b := b.at t
  if b.awake && b.isHead && b.splitOn && b.link.breakAt.isNone then b.withLink { b.link with splitEnds := true, roundWanted := true } else b

/-! ### Answers of positions (R318, R319, R331, R357) -/

/-- A RESPONSE payload as a reply (R318). -/
def replyIn (p : List Byte) : Reply :=
  ⟨if field p 7 1 = 0 then none else some (field p 8 2), field p 4 2, field p 6 1, p.drop 8⟩

/-- A configuration check of a position has ended (R331). -/
def Block.checkDone (b : Block) (p : Nat) (x : Option Reply) : Block :=
  let refused := match x with
    | some y => y.abort.isSome
    | none => false
  b.withLink { b.link with headWrite := b.link.headWrite.map fun (w : HeadWrite) =>
      { w with waiting := w.waiting.filter (· != p), refused := w.refused || refused, failed := w.failed || x.isNone } }

/-- A command to a position has ended. -/
def Block.commandDone (b : Block) (c : Outstanding) (x : Option Reply) : Block :=
  let b : Block := b.withLink { b.link with
    commands := b.link.commands.filter fun y => !(y.position == c.position && y.seq == c.seq) }
  let b := match c.waiter with
    | .host carrier => b.hostReply carrier x
    | .keepalive => b
    | .configCheck => b.checkDone c.position x
  b.dispatch

/-- A command that has had no valid answer is sent again, behind a SYNC that is near (R116), or fails after the fourth attempt (R319). -/
def Block.commandAgain (b : Block) (c : Outstanding) : Block :=
  if c.attempts < 4 then
    let b := b.count32 Ob.linkCountersCommandRetries
    let b : Block := b.withLink { b.link with commands := b.link.commands.map fun (y : Outstanding) =>
      if y.position == c.position && y.seq == c.seq then
        { y with attempts := y.attempts + 1, held := !b.syncRoom (frameTime c.payload) } else y }
    if b.syncRoom (frameTime c.payload) then b.sendCommand c.position (c.seq.getD 0) c.payload else b
  else (b.count32 Ob.linkCountersCommandFailures).commandDone c none

/-- The command sent to a position. -/
def Block.sentTo (b : Block) (p : Nat) : Option Outstanding := b.link.commands.find? fun c => c.position == p && c.seq.isSome

/-- Is a response valid for a command (R318, R319)? Choices: log 46 (DEDUCED, unsafe). -/
def responseOk (c : Outstanding) (p : List Byte) : Bool :=
  p.take 4 == c.payload.take 4 && (if field p 7 1 = 0 then decide (8 ≤ p.length) else field p 7 1 == 1 && decide (10 ≤ p.length))

/-- RESPONSE (R318, R319). Choices: log 46 (DEDUCED, unsafe). -/
def response (p seq : Nat) (payload : List Byte) (b : Block) : Block :=
  if !b.awake || !b.isHead then b
  else match (b.sentTo p).filter fun c => c.seq == some seq with
    | none => b
    | some c => if responseOk c payload then b.commandDone c (some (replyIn payload)) else b.commandAgain c

/-- COMMAND_TIMEOUT (R319): 3.0 ms without a response. Choices: log 46 (DEDUCED, unsafe). -/
def commandTimeout (p : Nat) (b : Block) : Block :=
  if !b.awake || !b.isHead then b
  else match b.sentTo p with
    | none => b
    | some c => b.commandAgain c

/-- A write of the head's that waited has ended. -/
def Block.headWriteOver (b : Block) (w : HeadWrite) (r : Result) : Block := match w.requester with
  | some c => b.ownWritten c r
  | none => match r with
    | .abort a => b.emit (.answer (some a))
    | .chainFail => b.emit .chainFail
    | _ => b.emit (.answer none)

/-- HEAD_CONFIG_CHECKS_DONE (R331): a refusal first, then a position that did not answer; else the write is checked again and applied.
Choices: log 40 (DEDUCED, unsafe). -/
def headConfigChecksDone (b : Block) : Block := match b.link.headWrite.filter fun w => w.waiting.isEmpty with
  | none => b
  | some w =>
    if !b.awake then b
    else
      let b : Block := b.withLink { b.link with headWrite := none }
      if w.refused then b.headWriteOver w (.abort 0x0608)
      else if w.failed then b.headWriteOver w .chainFail
      else match b.checkWrite w.ix w.sub w.data longest with
        | .error a => b.headWriteOver w (.abort a)
        | .ok (o, sl) => (b.applyWrite o sl).headWriteOver w (.done [])

/-! ### Stream frames (R321, R326, R335, R339) -/

/-- What a STATUS frame from position p tells of a break above it (R326, R342, R343): its DU down is one, and its DU up again, while the chain is
split there, ends it. -/
def Block.heedPorts (b : Block) (p : Nat) (duUp : Bool) : Block := match b.link.split with
  | some s => if s = p && duUp then b.withLink { b.link with breakAt := none } else b
  | none => if duUp then b else b.withLink { b.link with breakAt := some p }

/-- What the head takes from a STATUS frame of position pos at once (R101, R306, R326, R342, R343, R365). Choices: log 53 (DEDUCED, unsafe). -/
def Block.heedStatus (b : Block) (pos : Nat) (p : List Byte) : Block :=
  let b := b.heedPorts pos (bitOf (field p 7 1) 1)
  let flags := field p 3 1
  let b := if bitOf flags 0 && !(b.splitOn && bitOf flags 4) then b.withLink { b.link with roundWanted := true } else b
  if bitOf flags 1 then ((b.withHost { b.host with wakeLow := true }) : Block).attend 1 else b

/-- STREAM_FRAME (R321). -/
def streamFrame (header : Nat) (payload : List Byte) (b : Block) : Block :=
  let cls := hdrClass header
  let p := hdrPos header
  if !b.awake || !b.isHead || cls = 6 || classLength cls ≠ some payload.length || !b.committed.contains p then b
  else
    let b := b.takePebble header
    let b := if cls = 5 then b.heedStatus p payload else b
    b.deliver ⟨cls, p, header, payload, 0⟩

/-! ### The close of a train (R335, R342, R344, R349, R350) -/

/-- A cell value in a VOLTS frame: channel n from 1. -/
def voltsCell (p : List Byte) (n : Nat) : Option Int := i24Value ((p.drop (8 + 3 * (n - 1))).take 3)

/-- Cells of one VOLTS frame that count: position, channel, value. -/
def countedCells (r : StreamRecord) : List (Nat × Nat × Int) :=
  (List.range 32).filterMap fun k => (voltsCell r.payload (k + 1)).map fun v => (r.position, k + 1, v)

/-- The cell that beats the others, the earliest of equals. -/
def pickCell (better : Int → Int → Bool) (l : List (Nat × Nat × Int)) : Option (Nat × Nat × Int) :=
  l.foldl (fun (x : Option (Nat × Nat × Int)) (y : Nat × Nat × Int) => match x with
    | none => some y
    | some z => if better y.2.2 z.2.2 then some y else some z) none

/-- A cell of the summary with its place. -/
def cellField (x : Option (Nat × Nat × Int)) : List Byte := match x with
  | some c => bytesOfInt 4 c.2.2 ++ bytesOf 1 c.1 ++ bytesOf 1 c.2.1
  | none => bytesOfInt 4 noValue ++ bytesOf 2 0

/-- Least LowestSoc of a train with its position (R264). -/
def leastSoc (l : List StreamRecord) : Nat × Nat :=
  l.foldl (fun (x : Nat × Nat) (r : StreamRecord) =>
    let v := field r.payload 6 2
    if v < x.1 then (v, r.position) else x) (0xFFFF, 0xFF)

/-- ChainSummary (R350), from the frames of a closed VOLTS train in order of position. Choices: log 45 (DEDUCED, unsafe). -/
def summaryOf (l : List StreamRecord) (stale : Nat) : List Byte :=
  let cells := (l.map countedCells).flatten
  let flags := fun i : Nat => l.any fun r => bitOf (field r.payload 4 2) i
  let soc := leastSoc l
  bytesOf 4 (match l.head? with
    | some r => field r.payload 0 4
    | none => 0) ++
    bytesOf 2 (boolNat (decide (0 < stale)) + 2 * boolNat (flags 0) + 4 * boolNat (flags 2)) ++
    bytesOf 1 (l.filter fun r => !(countedCells r).isEmpty).length ++ bytesOf 1 stale ++
    cellField (pickCell (fun a c => decide (c < a)) cells) ++ bytesOf 2 0 ++
    cellField (pickCell (fun a c => decide (a < c)) cells) ++ bytesOf 2 0 ++
    bytesOfInt 8 (sumOf (cells.map fun c => c.2.2)) ++ bytesOf 2 cells.length ++ bytesOf 2 soc.1 ++ bytesOf 1 soc.2 ++ bytesOf 3 0

/-- CHAIN_AGGREGATE (R264, R269, R331). -/
def Block.aggregatePayload (b : Block) : List Byte :=
  let s := if b.link.summary.isEmpty then bytesOf 34 0 ++ bytesOf 3 0xFFFFFF ++ bytesOf 3 0 else b.link.summary
  let soc := field s 34 2
  let medians := b.link.medianRs != noValue || b.link.medians.any fun v => v != noValue
  bytesOf 1 5 ++ bytesOf 1 (boolNat (soc != 0xFFFF) + 2 * boolNat medians) ++ bytesOf 1 (field s 36 1) ++ bytesOf 1 0 ++
    bytesOf 4 (field s 0 4) ++ bytesOf 2 soc ++ bytesOf 2 0 ++ (b.link.medians.map (bytesOfInt 4)).flatten ++
    bytesOfInt 4 b.link.medianRs ++ bytesOf 4 b.link.medianSeq

/-- CHAIN_AGGREGATE goes out; the head holds it as a node does. -/
def Block.sendAggregate (b : Block) : Block :=
  let p := b.aggregatePayload
  (b.broadcast 0 p).holdAggregate p

/-- Re Z of the VALID cells of an IMPED frame (R327). -/
def impedValues (p : List Byte) : List Int :=
  (List.range 32).filterMap fun k =>
    if bitOf (field p (16 + 8 * k + 7) 1) 0 then i24Value ((p.drop (16 + 8 * k)).take 3) else none

/-- Medians of Re Z from a closed IMPED train; an entry that no frame of it carried keeps its own (R269, R331). Choices: log 45 (DEDUCED, unsafe). -/
def Block.trainMedians (b : Block) (l : List StreamRecord) : List Int :=
  (List.range 4).map fun k =>
    let frames := l.filter fun r => field r.payload 0 1 == k + 1
    let values := (frames.map fun r => impedValues r.payload).flatten
    if frames.isEmpty then (b.link.medians[k]?).getD noValue
    else if 8 ≤ values.length then medianOf values
    else noValue

/-- What a closed STATUS train tells the host of its positions (R349, R371). -/
def Block.heedHolds (b : Block) (t : Train) (missing : List Nat) : Block :=
  let frames := t.frames.filter fun r => r.position != 0
  let b := frames.foldl (fun (b : Block) (r : StreamRecord) =>
    let hold := field r.payload 1 1
    let old := match b.link.nodeHolds.find? fun x => x.1 == r.position with
      | some x => x.2
      | none => 0
    let b := if old = 0 && hold ≠ 0 then b.queueAlarm 2 r.position hold (field r.payload 6 1) else b
    (b.withLink { b.link with nodeHolds := (b.link.nodeHolds.filter fun x => x.1 != r.position) ++ [(r.position, hold)] })) b
  if t.afterAlarm then
    ((b.withLink { b.link with clear := missing.isEmpty && frames.all fun r => field r.payload 1 1 == 0 }) : Block).judgeHeadFlt
  else b

/-- Positions that a train lacked are counted (R335, R344). -/
def Block.countMissing (b : Block) (missing : List Nat) : Block :=
  let b := b.countUp Ob.linkCountersStaleSlots missing.length (2 ^ 32 - 1)
  let runs := (List.range 64).map fun p =>
    if missing.contains p then (b.link.missing[p]?).getD 0 + 1
    else if b.committed.contains p then 0
    else (b.link.missing[p]?).getD 0
  if b.get Ob.ringMode = 0 && runs.any fun n => decide (3 ≤ n) then
    b.withLink { b.link with missing := List.replicate 64 0, roundWanted := true }
  else b.withLink { b.link with missing := runs }

/-- Records of a closed train take the places of the earlier ones (R321, R360). -/
def Block.storeTrain (b : Block) (t : Train) : Block :=
  t.frames.foldl (fun (b : Block) (r : StreamRecord) => b.storeRecord { r with train := b.closedCount t.cls }) b

/-- Frames of a train in ascending order of position (R343). -/
def Block.inOrder (b : Block) (t : Train) : List StreamRecord :=
  b.positions.filterMap fun p => t.frames.find? fun r => r.position == p

/-- What the class of a closed train asks of the head (R264, R269, R349, R350). -/
def Block.heedTrain (b : Block) (t : Train) (missing : List Nat) : Block :=
  if t.cls = 1 then
    ((b.withLink { b.link with summary := summaryOf (b.inOrder t) missing.length }) : Block).sendAggregate
  else if t.cls = 4 then
    ((b.withLink { b.link with medians := b.trainMedians (b.inOrder t), medianSeq := b.nat Ob.windowSequence }) : Block).sendAggregate
  else if t.cls = 5 then b.heedHolds t missing
  else b

/-- What waits behind a VOLTS train asks again, in the order of R333; after a round it waits for the next boundary (R315). -/
def Block.runBehind (b : Block) : Block :=
  let l := classOrder.filter b.link.behind.contains
  l.foldl (fun (b : Block) (c : Nat) => if b.resumes then b.request c (b.perWindow c) else b.waitFor c) (b.withLink { b.link with behind := [] })

/-- What a train outside split operation tells of a break (R342): it lacked every position above one, or none. -/
def Block.heedBreak (b : Block) (missing : List Nat) : Block :=
  if b.splitOn then b
  else match missing with
    | [] => b.withLink { b.link with breakAt := none }
    | p :: _ => if missing == b.committed.filter (fun q => decide (p ≤ q)) then b.withLink { b.link with breakAt := some (p - 1) } else b

/-- A train of a class lacked every position from one on, with Top among them, or did not (R342). -/
def Block.noteLacked (b : Block) (cls : Nat) (missing : List Nat) : Block :=
  let l := b.link.lacked.filter fun x => x.1 != cls
  let from' := b.committed.filter fun p => b.committed.all fun q => decide (q < p) || missing.contains q
  b.withLink { b.link with lacked := match from' with
    | [] => l
    | p :: _ => l ++ [(cls, p)] }

/-- A train closes. Choices: log 53 (DEDUCED, unsafe). -/
def Block.closeTrain (b : Block) (t : Train) : Block :=
  let missing := b.committed.filter fun p => !t.frames.any fun r => r.position == p
  let b := ((b.countTrain t.cls).storeTrain t).heedBreak missing
  let b := b.countMissing missing
  let b := if b.splitOn && !t.cut then b else b.noteLacked t.cls missing
  let b := ((b.attend (2 + t.cls)).heedTrain t missing).streamToHost t.cls
  let b := if t.cls = 1 then b.runBehind else b
  let b := b.triggerAgain.runTriggers.kick
  if b.refreshing then b.sendProbes else b

/-- May a train close: its deadline has come, or every committed position has answered (R335)? -/
def Block.trainOver (b : Block) (t : Train) : Bool :=
  reached b.now t.deadline || b.committed.all fun p => t.frames.any fun r => r.position == p

/-- TRAIN_CLOSE (R335). -/
def trainClose (c : StreamClass) (t : Nat) (b : Block) : Block :=
  let b := b.at t
  if !b.awake || !b.isHead then b
  else match takeFirst (fun x : Train => x.cls == codeOf c && b.trainOver x) b.link.trains with
    | none => b
    | some (x, rest) => ((b.withLink { b.link with trains := rest }) : Block).closeTrain x

/-! ### SYNC (R116) -/

/-- Attempts that waited for a SYNC to pass leave (R116, R319). -/
def Block.resumeCommands (b : Block) : Block :=
  b.link.commands.foldl (fun (b : Block) (c : Outstanding) =>
    if !c.held || !b.syncRoom (frameTime c.payload) then b
    else
      let b : Block := b.withLink { b.link with commands := b.link.commands.map fun (y : Outstanding) =>
        if y.position == c.position && y.seq == c.seq then { y with held := false } else y }
      b.sendCommand c.position (c.seq.getD 0) c.payload) b

/-- A pass of the round that waited for a SYNC leaves (R315). -/
def Block.resumePass (b : Block) : Block := match b.link.round.filter fun r => r.held with
  | none => b
  | some r => b.sendCensus r.number

/-- SYNC_SEND (R90, R116, R315): at a whole multiple of 10,000 us the pulse, and then what waited for it to pass. -/
def syncSendThen (t : Nat) (b : Block) : Block :=
  let b := b.at t
  if !b.awake || !b.isHead || t % t48 % 10000 ≠ 0 then b
  else
    let b := (b.headPulse .sync).resumePass.sendProbes
    if b.link.round.isSome then b else b.resumeCommands.dispatch.triggerAgain.runTriggers.kick

/-! ### What the head reads for its chain (R241, R331) -/

/-- ANALYSIS_SET_READ (R241): entries of the lowest -X position, position 0 being the head itself. -/
def analysisSetRead (p : Nat) (frequencies sources : List Nat) (integration : Nat) (step : Int) (b : Block) : Block :=
  if !b.awake || !b.isHead then b
  else
    let own := p = 0
    let entry := fun k : Nat =>
      let e : Nat × Nat := if own then (b.ownEntries[k]?).getD (0, 0) else ((frequencies[k]?).getD 0, (sources[k]?).getD 0)
      if e.2 = 1 && e.1 ≠ 0 then e else (0, 0)
    let set := (List.range 4).map entry
    let time := if own then b.nat Ob.impedanceConfigIntegrationTime else integration
    let current := if own then b.get Ob.impedanceConfigStepCurrent else step
    if b.chainSet = set && b.imp.chainTime = time && b.imp.chainStep = current then b
    else
      (((b.withChainSet set).withImp { b.imp with chainTime := time, chainStep := current }) : Block).sendChainConfig

/-- MEDIAN_RS_READ (R331): series resistances of the positions, once per minute. -/
def medianRsRead (values : List (Nat × List Nat)) (b : Block) : Block :=
  if !b.awake || !b.isHead then b
  else
    let l := ((values.map fun x => x.2.filter fun v => v != 0).flatten).map fun v : Nat => (v : Int)
    b.withLink { b.link with
        medianRs := if l.isEmpty then noValue else medianOf l, medianSeq := b.nat Ob.windowSequence }

/-! ### The commands of the family -/

/-- SYNC_SEND (R116). -/
def execSyncSend (t : Nat) (s : State) : Out := onBlock (syncSendThen t) s

/-- CENSUS_ROUND_START (R306). -/
def execCensusRoundStart (t : Nat) (s : State) : Out := onBlockReading (censusRoundStart t) s

/-- CENSUS_PASS_RESULT (R311). -/
def execCensusPassResult (number : Nat) (payload : List Byte) (t : Nat) (s : State) : Out :=
  onBlockReading (censusPassResult number payload t) s

/-- CENSUS_PASS_TIMEOUT (R311). -/
def execCensusPassTimeout (t : Nat) (s : State) : Out := onBlockReading (censusPassTimeout t) s

/-- CENSUS_RETRY (R311). -/
def execCensusRetry (t : Nat) (s : State) : Out := onBlockReading (censusRetry t) s

/-- PROBE_SWEEPS_COMPLETE (R313). -/
def execProbeSweepsComplete (sweeps : List (List Nat)) (t : Nat) (s : State) : Out := onBlockReading (probeSweepsComplete sweeps t) s

/-- DELAY_REFRESH (R314). -/
def execDelayRefresh (t : Nat) (s : State) : Out := onBlock (delayRefresh t) s

/-- RESPONSE (R318). -/
def execResponse (position seq : Nat) (payload : List Byte) (s : State) : Out := onBlock (response position seq payload) s

/-- COMMAND_TIMEOUT (R319). -/
def execCommandTimeout (position : Nat) (s : State) : Out := onBlock (commandTimeout position) s

/-- HEAD_CONFIG_CHECKS_DONE (R331). -/
def execHeadConfigChecksDone (s : State) : Out := onBlock headConfigChecksDone s

/-- STREAM_FRAME (R321). -/
def execStreamFrame (header : Nat) (payload : List Byte) (s : State) : Out := onBlock (streamFrame header payload) s

/-- TRAIN_CLOSE (R335). -/
def execTrainClose (cls : StreamClass) (t : Nat) (s : State) : Out := onBlock (trainClose cls t) s

/-- SPLIT_ENTRY (R342). -/
def execSplitEntry (below t : Nat) (s : State) : Out := onBlock (splitEntry below t) s

/-- SPLIT_END (R343). -/
def execSplitEnd (t : Nat) (s : State) : Out := onBlock (splitEnd t) s

/-- ANALYSIS_SET_READ (R241). -/
def execAnalysisSetRead (position : Nat) (frequencies sources : List Nat) (integration : Nat) (step : Int) (s : State) : Out :=
  onBlock (analysisSetRead position frequencies sources integration step) s

/-- MEDIAN_RS_READ (R331). -/
def execMedianRsRead (values : List (Nat × List Nat)) (s : State) : Out := onBlock (medianRsRead values) s

end Sys2Proof.Machine
end

