-- ==== Sys2Proof/Machine/Dispatch.lean ====
section
/-! DEFINITION. The meaning of every command: one arm per row of the table of commands, each one direct call. -/

namespace Sys2Proof.Machine

/-- The effect of a command on everything but the queue. -/
def exec (i : Instr) (s : State) : Host.Outcome State Fault Refusal :=
  match i with
  | .porRelease => Sys2Proof.Machine.execPorRelease s
  | .porAssert => Sys2Proof.Machine.execPorAssert s
  | .vstkRangeCheck decivolts => Sys2Proof.Machine.execVstkRangeCheck decivolts s
  | .vinLow => Sys2Proof.Machine.execVinLow s
  | .supplyFail => Sys2Proof.Machine.execSupplyFail s
  | .railWindowFault rail => Sys2Proof.Machine.execRailWindowFault rail s
  | .pwrEnComparison level => Sys2Proof.Machine.execPwrEnComparison level s
  | .ship => Sys2Proof.Machine.execShip s
  | .sleep => Sys2Proof.Machine.execSleep s
  | .standby => Sys2Proof.Machine.execStandby s
  | .measure driversAck => Sys2Proof.Machine.execMeasure driversAck s
  | .full driversAck => Sys2Proof.Machine.execFull driversAck s
  | .reset => Sys2Proof.Machine.execReset s
  | .wakeChain => Sys2Proof.Machine.execWakeChain s
  | .transitionComplete => Sys2Proof.Machine.execTransitionComplete s
  | .commLoss t => Sys2Proof.Machine.execCommLoss t s
  | .wakeEvent src slept => Sys2Proof.Machine.execWakeEvent src slept s
  | .extendedWakeEvent src slept => Sys2Proof.Machine.execExtendedWakeEvent src slept s
  | .deferredWakeStart slept => Sys2Proof.Machine.execDeferredWakeStart slept s
  | .supplyAttemptTimeout => Sys2Proof.Machine.execSupplyAttemptTimeout s
  | .vin5Good => Sys2Proof.Machine.execVin5Good s
  | .coreResetRelease strapHigh stackMv => Sys2Proof.Machine.execCoreResetRelease strapHigh stackMv s
  | .engineBootComplete report t => Sys2Proof.Machine.execEngineBootComplete report t s
  | .periodicCheck cells therm lanes bedTime => Sys2Proof.Machine.execPeriodicCheck cells therm lanes bedTime s
  | .crossingConfirmation cells therm bedTime => Sys2Proof.Machine.execCrossingConfirmation cells therm bedTime s
  | .sleepBalancePhase odd ms => Sys2Proof.Machine.execSleepBalancePhase odd ms s
  | .sleepBalanceSecond lanes => Sys2Proof.Machine.execSleepBalanceSecond lanes s
  | .sleepPlanRefresh t => Sys2Proof.Machine.execSleepPlanRefresh t s
  | .thermalShutdown => Sys2Proof.Machine.execThermalShutdown s
  | .shutdownTemperatureCheck lanes slept => Sys2Proof.Machine.execShutdownTemperatureCheck lanes slept s
  | .preShutdown => Sys2Proof.Machine.execPreShutdown s
  | .preShutdownEnd t => Sys2Proof.Machine.execPreShutdownEnd t s
  | .laneThermometerInterval t lanes => Sys2Proof.Machine.execLaneThermometerInterval t lanes s
  | .housekeepingRound t slices => Sys2Proof.Machine.execHousekeepingRound t slices s
  | .throttleEvaluation t => Sys2Proof.Machine.execThrottleEvaluation t s
  | .pllReferenceSwitch port => Sys2Proof.Machine.execPllReferenceSwitch port s
  | .symbolLockLoss port => Sys2Proof.Machine.execSymbolLockLoss port s
  | .clockMonitorGate clock count => Sys2Proof.Machine.execClockMonitorGate clock count s
  | .faultRcCheck count => Sys2Proof.Machine.execFaultRcCheck count s
  | .syncSend t => Sys2Proof.Machine.execSyncSend t s
  | .sync t stampPs => Sys2Proof.Machine.execSync t stampPs s
  | .syncMissing t => Sys2Proof.Machine.execSyncMissing t s
  | .slewStep => Sys2Proof.Machine.execSlewStep s
  | .chainReferenceSend t => Sys2Proof.Machine.execChainReferenceSend t s
  | .chainReference port _ _ nextSync => Sys2Proof.Machine.execChainReference port nextSync s
  | .chainTimeWrite data => Sys2Proof.Machine.execChainTimeWrite data s
  | .referenceCompare conversion => Sys2Proof.Machine.execReferenceCompare conversion s
  | .correctionUpdate lane gA gB oB skew badA badB meanDiff => Sys2Proof.Machine.execCorrectionUpdate lane gA gB oB skew badA badB meanDiff s
  | .laneBlock ch start own shadow => Sys2Proof.Machine.execLaneBlock ch start own shadow s
  | .cellLimitRefresh => Sys2Proof.Machine.execCellLimitRefresh s
  | .laneAveragingChange t => Sys2Proof.Machine.execLaneAveragingChange t s
  | .shadowFrame t lane shadow test subB offset gain => Sys2Proof.Machine.execShadowFrame t lane shadow test subB offset gain s
  | .currentLaneCompare start stop => Sys2Proof.Machine.execCurrentLaneCompare start stop s
  | .currentSample t lanes beyond => Sys2Proof.Machine.execCurrentSample t lanes beyond s
  | .mainsTrackerUpdate t amplitude milliHz => Sys2Proof.Machine.execMainsTrackerUpdate t amplitude milliHz s
  | .auxSlot t lane settling codes level => Sys2Proof.Machine.execAuxSlot t lane settling codes level s
  | .windowBoundary t => Sys2Proof.Machine.execWindowBoundary t s
  | .windowPublish t => Sys2Proof.Machine.execWindowPublish t s
  | .keeperRecordMissing t => Sys2Proof.Machine.execKeeperRecordMissing t s
  | .windowModeWrite ix sub data => Sys2Proof.Machine.execWindowModeWrite ix sub data s
  | .snap t stampPs => Sys2Proof.Machine.execSnap t stampPs s
  | .captureStart t seq cells => Sys2Proof.Machine.execCaptureStart t seq cells s
  | .capturePublish t => Sys2Proof.Machine.execCapturePublish t s
  | .instantTrigger t => Sys2Proof.Machine.execInstantTrigger t s
  | .auxOutputWrite data => Sys2Proof.Machine.execAuxOutputWrite data s
  | .auxFunctionWrite sub data => Sys2Proof.Machine.execAuxFunctionWrite sub data s
  | .chargeCounterPreset data => Sys2Proof.Machine.execChargeCounterPreset data s
  | .currentKeeperWrite data => Sys2Proof.Machine.execCurrentKeeperWrite data s
  | .governorTick t timing meter delays => Sys2Proof.Machine.execGovernorTick t timing meter delays s
  | .pathLearn => Sys2Proof.Machine.execPathLearn s
  | .bleedConfirmation ch dropUv meter => Sys2Proof.Machine.execBleedConfirmation ch dropUv meter s
  | .freshnessTimeout ch => Sys2Proof.Machine.execFreshnessTimeout ch s
  | .interlockRefusal ch => Sys2Proof.Machine.execInterlockRefusal ch s
  | .sessionTimerSecond ch => Sys2Proof.Machine.execSessionTimerSecond ch s
  | .balanceTargetWrite sub data => Sys2Proof.Machine.execBalanceTargetWrite sub data s
  | .sessionTimerWrite sub data => Sys2Proof.Machine.execSessionTimerWrite sub data s
  | .balanceEnableWrite data => Sys2Proof.Machine.execBalanceEnableWrite data s
  | .stickyFlagClear ix sub data => Sys2Proof.Machine.execStickyFlagClear ix sub data s
  | .bleedResistorWrite data => Sys2Proof.Machine.execBleedResistorWrite data s
  | .thrPulseEdge t period high => Sys2Proof.Machine.execThrPulseEdge t period high s
  | .throttleInputLost => Sys2Proof.Machine.execThrottleInputLost s
  | .analysisIntervalEnd entry t => Sys2Proof.Machine.execAnalysisIntervalEnd entry t s
  | .impedancePublish entry => Sys2Proof.Machine.execImpedancePublish entry s
  | .ambientPairingTimeout entry => Sys2Proof.Machine.execAmbientPairingTimeout entry s
  | .activeSequenceStart t => Sys2Proof.Machine.execActiveSequenceStart t s
  | .excitationEdge t => Sys2Proof.Machine.execExcitationEdge t s
  | .activeIntervalDiscard => Sys2Proof.Machine.execActiveIntervalDiscard s
  | .autobalancePeriod t => Sys2Proof.Machine.execAutobalancePeriod t s
  | .socTableWrite data => Sys2Proof.Machine.execSocTableWrite data s
  | .tempCurveWrite data => Sys2Proof.Machine.execTempCurveWrite data s
  | .analysisSetRead position frequencies sources integration step => Sys2Proof.Machine.execAnalysisSetRead position frequencies sources integration step s
  | .volts t => Sys2Proof.Machine.execVolts t s
  | .temps t => Sys2Proof.Machine.execTemps t s
  | .imped t => Sys2Proof.Machine.execImped t s
  | .status t => Sys2Proof.Machine.execStatus t s
  | .alarm port t => Sys2Proof.Machine.execAlarm port t s
  | .pulseRepeat port ui => Sys2Proof.Machine.execPulseRepeat port ui s
  | .wakeTone port extended t slept => Sys2Proof.Machine.execWakeTone port extended t slept s
  | .portSignalDetect port => Sys2Proof.Machine.execPortSignalDetect port s
  | .portTrained port t => Sys2Proof.Machine.execPortTrained port t s
  | .trainingFail port => Sys2Proof.Machine.execTrainingFail port s
  | .portDown port cause t => Sys2Proof.Machine.execPortDown port cause t s
  | .ringModeWrite data => Sys2Proof.Machine.execRingModeWrite data s
  | .frameReceive port errors frame => Sys2Proof.Machine.execFrameReceive port errors frame s
  | .frameForward bytes => Sys2Proof.Machine.execFrameForward bytes s
  | .frameTransmit t => Sys2Proof.Machine.execFrameTransmit t s
  | .linkCrcRate => Sys2Proof.Machine.execLinkCrcRate s
  | .censusRoundStart t => Sys2Proof.Machine.execCensusRoundStart t s
  | .censusRun data => Sys2Proof.Machine.execCensusRun data s
  | .census port number payload => Sys2Proof.Machine.execCensus port number payload s
  | .censusEcho number ring => Sys2Proof.Machine.execCensusEcho number ring s
  | .censusEchoTimeout => Sys2Proof.Machine.execCensusEchoTimeout s
  | .censusReply number payload => Sys2Proof.Machine.execCensusReply number payload s
  | .censusPassResult number payload t => Sys2Proof.Machine.execCensusPassResult number payload t s
  | .censusPassTimeout t => Sys2Proof.Machine.execCensusPassTimeout t s
  | .censusRetry t => Sys2Proof.Machine.execCensusRetry t s
  | .commit number top flags t => Sys2Proof.Machine.execCommit number top flags t s
  | .probeSweep port sweeps count => Sys2Proof.Machine.execProbeSweep port sweeps count s
  | .probe port t => Sys2Proof.Machine.execProbe port t s
  | .probeSweepsComplete sweeps t => Sys2Proof.Machine.execProbeSweepsComplete sweeps t s
  | .delays split table => Sys2Proof.Machine.execDelays split table s
  | .delayRefresh t => Sys2Proof.Machine.execDelayRefresh t s
  | .chainConfig image => Sys2Proof.Machine.execChainConfig image s
  | .chainAggregate payload => Sys2Proof.Machine.execChainAggregate payload s
  | .keeperForward header payload t => Sys2Proof.Machine.execKeeperForward header payload t s
  | .keeperRecord payload t => Sys2Proof.Machine.execKeeperRecord payload t s
  | .read seq ix sub => Sys2Proof.Machine.execRead seq ix sub s
  | .write seq ix sub data => Sys2Proof.Machine.execWrite seq ix sub data s
  | .segInitRead seq ix sub length => Sys2Proof.Machine.execSegInitRead seq ix sub length s
  | .segInitWrite seq ix sub length => Sys2Proof.Machine.execSegInitWrite seq ix sub length s
  | .segRead seq ix sub segment => Sys2Proof.Machine.execSegRead seq ix sub segment s
  | .segWrite seq ix sub segment data => Sys2Proof.Machine.execSegWrite seq ix sub segment data s
  | .segEnd seq ix sub total => Sys2Proof.Machine.execSegEnd seq ix sub total s
  | .checkConfig seq image => Sys2Proof.Machine.execCheckConfig seq image s
  | .segmentTimeout requester => Sys2Proof.Machine.execSegmentTimeout requester s
  | .response position seq payload => Sys2Proof.Machine.execResponse position seq payload s
  | .commandTimeout position => Sys2Proof.Machine.execCommandTimeout position s
  | .headConfigChecksDone => Sys2Proof.Machine.execHeadConfigChecksDone s
  | .scheduledTrigger cls t => Sys2Proof.Machine.execScheduledTrigger cls t s
  | .streamResponseForm cls => Sys2Proof.Machine.execStreamResponseForm cls s
  | .streamFrame header payload => Sys2Proof.Machine.execStreamFrame header payload s
  | .trainClose cls t => Sys2Proof.Machine.execTrainClose cls t s
  | .splitEntry below t => Sys2Proof.Machine.execSplitEntry below t s
  | .splitEnd t => Sys2Proof.Machine.execSplitEnd t s
  | .spiCommand bytes => Sys2Proof.Machine.execSpiCommand bytes s
  | .spiRead clocked => Sys2Proof.Machine.execSpiRead clocked s
  | .canRequest bytes => Sys2Proof.Machine.execCanRequest bytes s
  | .novezRead carrier position ix sub => Sys2Proof.Machine.execNovezRead carrier position ix sub s
  | .novezWrite carrier position ix sub data => Sys2Proof.Machine.execNovezWrite carrier position ix sub data s
  | .novezSegInitRead carrier position ix sub length => Sys2Proof.Machine.execNovezSegInitRead carrier position ix sub length s
  | .novezSegInitWrite carrier position ix sub length => Sys2Proof.Machine.execNovezSegInitWrite carrier position ix sub length s
  | .novezSegRead carrier position ix sub segment => Sys2Proof.Machine.execNovezSegRead carrier position ix sub segment s
  | .novezSegWrite carrier position ix sub segment data => Sys2Proof.Machine.execNovezSegWrite carrier position ix sub segment data s
  | .novezSegEnd carrier position ix sub total => Sys2Proof.Machine.execNovezSegEnd carrier position ix sub total s
  | .segmentRepeatKeepalive carrier => Sys2Proof.Machine.execSegmentRepeatKeepalive carrier s
  | .trigger carrier cls => Sys2Proof.Machine.execTrigger carrier cls s
  | .readStream carrier position cls offset count => Sys2Proof.Machine.execReadStream carrier position cls offset count s
  | .readAttention carrier => Sys2Proof.Machine.execReadAttention carrier s
  | .hostCrcRate => Sys2Proof.Machine.execHostCrcRate s
  | .canAlarmFrame => Sys2Proof.Machine.execCanAlarmFrame s
  | .canTrainStream cls => Sys2Proof.Machine.execCanTrainStream cls s
  | .canBusOffRecovery => Sys2Proof.Machine.execCanBusOffRecovery s
  | .canConfigApply => Sys2Proof.Machine.execCanConfigApply s
  | .faultRegistration => Sys2Proof.Machine.execFaultRegistration s
  | .captureFifoDrain t => Sys2Proof.Machine.execCaptureFifoDrain t s
  | .acknowledgeSource source => Sys2Proof.Machine.execAcknowledgeSource source s
  | .acknowledgeAll => Sys2Proof.Machine.execAcknowledgeAll s
  | .safeStateExit t => Sys2Proof.Machine.execSafeStateExit t s
  | .faultSeverityWrite sub data => Sys2Proof.Machine.execFaultSeverityWrite sub data s
  | .faultFlagsWrite data => Sys2Proof.Machine.execFaultFlagsWrite data s
  | .engineWatchdogExpiry engine t => Sys2Proof.Machine.execEngineWatchdogExpiry engine t s
  | .engineRestart engine dictionaryOk => Sys2Proof.Machine.execEngineRestart engine dictionaryOk s
  | .engineSelfTest engine passed => Sys2Proof.Machine.execEngineSelfTest engine passed s
  | .engineLoadMeasurement percent => Sys2Proof.Machine.execEngineLoadMeasurement percent s
  | .memoryError memory address double => Sys2Proof.Machine.execMemoryError memory address double s
  | .memoryScrub errors => Sys2Proof.Machine.execMemoryScrub errors s
  | .configSignatureCheck corrupt => Sys2Proof.Machine.execConfigSignatureCheck corrupt s
  | .fltReadback level us => Sys2Proof.Machine.execFltReadback level us s
  | .openWireSlot t index phaseA phaseB => Sys2Proof.Machine.execOpenWireSlot t index phaseA phaseB s
  | .openWireRepeat phaseA phaseB => Sys2Proof.Machine.execOpenWireRepeat phaseA phaseB s
  | .unlockArm => Sys2Proof.Machine.execUnlockArm s
  | .unlockConfirm => Sys2Proof.Machine.execUnlockConfirm s
  | .unlockClear value => Sys2Proof.Machine.execUnlockClear value s
  | .unlockExpiry => Sys2Proof.Machine.execUnlockExpiry s
  | .dictionaryWrite ix sub data => Sys2Proof.Machine.execDictionaryWrite ix sub data s
  | .journalRead requester length => Sys2Proof.Machine.execJournalRead requester length s
  | .readCursorWrite data => Sys2Proof.Machine.execReadCursorWrite data s
  | .checkUnitWrite ix data => Sys2Proof.Machine.execCheckUnitWrite ix data s
  | .save data => Sys2Proof.Machine.execSave data s
  | .nvmPageProgram => Sys2Proof.Machine.execNvmPageProgram s
  | .saveComplete readBack => Sys2Proof.Machine.execSaveComplete readBack s
  | .restoreConfig => Sys2Proof.Machine.execRestoreConfig s
  | .restoreAll => Sys2Proof.Machine.execRestoreAll s
  | .summaryWrite => Sys2Proof.Machine.execSummaryWrite s
  | .summaryWriteComplete readBack => Sys2Proof.Machine.execSummaryWriteComplete readBack s
  | .supplyAttemptRetry => Sys2Proof.Machine.execSupplyAttemptRetry s
  | .railGood rail => Sys2Proof.Machine.execRailGood rail s
  | .vstkInRange => Sys2Proof.Machine.execVstkInRange s
  | .sectorEraseComplete => Sys2Proof.Machine.execSectorEraseComplete s
  | .operatingHour => Sys2Proof.Machine.execOperatingHour s
  | .medianRsRead values => Sys2Proof.Machine.execMedianRsRead values s
  | .ignoredFrame => Sys2Proof.Machine.execIgnoredFrame s
  | .canBusError transmit => Sys2Proof.Machine.execCanBusError transmit s

end Sys2Proof.Machine
end

