-- ==== Sys2Proof/Machine/Step.lean ====
section
/-! DEFINITION. One step of the machine: the command at the front of the queue, or a cycle of the timebase when none waits. -/

namespace Sys2Proof.Machine

/-- With a command at the front: exec on the state with the queue's rest. With none: one cycle of the timebase. DESIGN CHOICE, unsafe
(log 2). -/
def step (s : State) : Host.Outcome State Fault Refusal := match s.pending with
  | c :: rest => exec c { s with pending := rest }
  | [] => .next { s with blk := s.blk.tbCycle }

/-- The state with the command that a word spells at the front of its queue; unchanged where the word spells none.
Choices: log 2 (DESIGN CHOICE, unsafe). -/
def State.withFetchWord (s : State) (nbits w : Nat) : State := match decodeTableWord nbits w with
  | some c => { s with pending := c :: s.pending }
  | none => s

end Sys2Proof.Machine
end

