-- ==== Sys2Proof/Safety.lean ====
section
/-! DEFINITION. The terms in which claims speak of runs: a command that gives a next state, a command that leaves flash and queue alone, a
step that is not stopped. -/

namespace Sys2Proof.Machine

/-- Command c in state s answers a next state, and P holds of it. -/
def Gives (c : Instr) (s : State) (P : State → Prop) : Prop := ∃ t, exec c s = .next t ∧ P t

/-- Command c in state s answers a next state that keeps the flash and the queue, and P holds of its package. -/
def GivesBlock (c : Instr) (s : State) (P : Block → Prop) : Prop := ∃ b, exec c s = .next { s with blk := b } ∧ P b

/-- A step that is not stopped: neither a fault nor a refusal. -/
def SafeStep (s : State) : Prop := ∃ t, step s = .next t

/-- A write of data to an object stands the checks of R45 and carries these entries with their values; at a head no position has to consent
to it (R331). -/
def Accepts (b : Block) (ix sub : Nat) (data : List Byte) (vals : List (Nat × Int)) : Prop :=
  b.awake = true ∧ (b.isHead = false ∨ b.concerned ix vals = []) ∧
    ∃ o sl, b.disarm.checkWrite ix sub data longest = .ok (o, sl) ∧ decodeSlices ix sl = vals

/-- A write of data to an object is refused with an abort code of R56 by the checks of R45. -/
def Refuses (b : Block) (ix sub : Nat) (data : List Byte) (abort : Nat) : Prop :=
  b.awake = true ∧ b.disarm.checkWrite ix sub data longest = .error abort

/-- A write of BedrockThresholds that stands the checks of R45 before its values, and would leave CellUnder at or above CellOver or ThermCold
at or above ThermHot (R82); a write of all entries is judged by its own values. -/
def BreaksTies (b : Block) (sub : Nat) (data : List Byte) (most : Nat) : Prop :=
  ∃ o, b.writeTarget 0x1004 sub = .ok o ∧ b.lengthAbort o sub data.length most = none ∧
    let after := b.putAll (decodeSlices 0x1004 (b.slices o (b.addressed o sub) data))
    (after.get Ob.bedrockThresholdsCellOver ≤ after.get Ob.bedrockThresholdsCellUnder ∨
      after.get Ob.bedrockThresholdsThermHot ≤ after.get Ob.bedrockThresholdsThermCold)

/-- The entries of BedrockThresholds stand as they did. -/
def KeepsThresholds (was b : Block) : Prop := ∀ sub < 256, b.get (keyOf 0x1004 sub) = was.get (keyOf 0x1004 sub)

/-- A node that executes a chain command of this SEQ: it answers its dictionary, holds a position, and did not execute that SEQ last (R53,
R319). -/
def Listens (b : Block) (seq : Nat) : Prop :=
  b.awake = true ∧ b.isHead = false ∧ b.positioned = true ∧ ∀ x, b.access.lastSeq = some x → x.1 ≠ seq

/-- The node with a command's frame counted against communication loss (R89). -/
def Block.commanded (b : Block) : Block := b.heard b.link.headSide

/-- The node with an earlier transfer of the head abandoned by an Initiate (R51). -/
def Block.initiated (b : Block) : Block := b.withAccess (b.access.restart .chain)

/-- The response to a chain command waits behind what the node had to send, and is kept for a repeat of the SEQ (R53, R318). -/
def Responds (was b : Block) (seq : Nat) (payload : List Byte) : Prop :=
  b.link.own = was.link.own ++ [⟨0, seq, false, payload⟩] ∧ b.access.lastSeq = some (seq, payload)

/-- Is there time for a pass of the head before the next SYNC (R315)? -/
def Block.censusRoom (b : Block) : Bool := b.syncRoom passTime

/-- The sweeps in progress at the head (R313): their port, their probes, and whether they are the second four. -/
def Sweeps (b : Block) (p : Port) (n : Nat) (again : Bool) : Prop :=
  ∃ q, b.link.probing = some q ∧ q.port = p ∧ q.count = n ∧ q.again = again

/-- The identifier B + k of CAN FD in force (R368). -/
def Block.canId (b : Block) (k : Nat) : Nat := (b.canForce 10).toNat + k

/-- What a CAN FD frame carries as its data: the bytes, padded with zeros to the room of its DLC (R368, R369). -/
def canPadded (l : List Byte) : List Byte := l ++ bytesOf (dlcRoom l.length - l.length) 0

/-- No two neighbouring balance switches conduct (R206). -/
def Block.NeighboursOff (b : Block) : Prop := ∀ i, (b.chan i).on = true → (b.chan (i + 1)).on = false

/-- Objects whose write changes their own entries only. -/
def plainObjects : List Nat := [0x1002, 0x1003, 0x1004, 0x2060, 0x3004, 0x5003, 0x5004, 0x5010, 0x6005]

/-- A head whose carrier is open, with no command of it in execution, no census round in progress and a committed census (R355, R356). -/
def Ready (b : Block) (c : Carrier) : Prop :=
  b.carrierOpen c = true ∧ (b.hostPort c).executing = none ∧ b.link.round = none ∧ 0 ≤ b.get Ob.censusResultTop ∧
    b.get Ob.censusResultTop ≤ 63

/-- Header bytes 0–4 of the host's next command (R351, R354). -/
def Block.nextHeader (b : Block) (c : Carrier) (op p ix sub : Nat) : List Byte :=
  bytesOf 1 (64 * b.nextTag c + op) ++ bytesOf 1 p ++ bytesOf 2 ix ++ bytesOf 1 sub

/-- The head as it begins to execute a command that a carrier has accepted (R354, R355, R375). -/
def Block.begun (b : Block) (c : Carrier) (header data : List Byte) : Block :=
  let b := b.hostHeard.endSilent c
  let b := ((b.setHostPort c { b.hostPort c with rejected := false }).count32 (acceptedKey c)).discardSlot c
  b.setHostPort c { b.hostPort c with executing := some ⟨header, data, .single, false⟩ }

/-- A command of a carrier has ended with a result: its response is kept for a repeat, and on SPI it waits in the slot (R353, R354, R363). -/
def Answered (b : Block) (c : Carrier) (header data : List Byte) (r : Result) : Prop :=
  (b.hostPort c).executing = none ∧ (b.hostPort c).last = some (header ++ data, novezMessage header r.bytes) ∧
    (c = .spi → b.host.spi.slot = some (novezMessage header r.bytes))

/-- A command to a position joins those that go out over the chain (R319). -/
def Asks (b : Block) (p : Nat) (payload : List Byte) (w : Waiter) : Prop :=
  ∃ x ∈ b.link.commands, x.position = p ∧ x.payload = payload ∧ x.waiter = w

/-! ### Kinds of commands, by what they leave alone -/

/-- Commands of the measuring side: its lanes, slots, samples and captures. -/
def inMeasuring : Instr → Bool
  | .auxSlot .. | .capturePublish .. | .captureStart .. | .cellLimitRefresh | .correctionUpdate .. | .currentLaneCompare ..
  | .currentSample .. | .keeperRecordMissing .. | .laneAveragingChange .. | .laneBlock .. | .laneThermometerInterval ..
  | .mainsTrackerUpdate .. | .openWireRepeat .. | .openWireSlot .. | .referenceCompare .. | .shadowFrame .. => true
  | _ => false

/-- Commands of the charge governor and the throttle. -/
def inGoverning : Instr → Bool
  | .bleedConfirmation .. | .freshnessTimeout .. | .governorTick .. | .interlockRefusal .. | .pathLearn | .sessionTimerSecond ..
  | .sleepPlanRefresh .. | .throttleEvaluation .. | .throttleInputLost | .thrPulseEdge .. => true
  | _ => false

/-- Commands of the analysis of E6. -/
def inAnalysing : Instr → Bool
  | .activeIntervalDiscard | .activeSequenceStart .. | .ambientPairingTimeout .. | .analysisSetRead .. | .autobalancePeriod ..
  | .chainAggregate .. | .excitationEdge .. | .impedancePublish .. | .medianRsRead .. => true
  | _ => false

/-- Commands of the clocks, the chain time and the ports. -/
def inTiming : Instr → Bool
  | .chainReference .. | .chainReferenceSend .. | .clockMonitorGate .. | .commit .. | .delayRefresh .. | .delays .. | .faultRcCheck ..
  | .linkCrcRate | .pllReferenceSwitch .. | .portDown .. | .portSignalDetect .. | .probe .. | .probeSweep .. | .slewStep | .splitEnd ..
  | .splitEntry .. | .symbolLockLoss .. | .syncMissing .. | .trainingFail .. => true
  | _ => false

/-- Commands of the frames and censuses at a node. -/
def inRelaying : Instr → Bool
  | .census .. | .censusEcho .. | .censusEchoTimeout | .censusReply .. | .frameForward .. => true
  | _ => false

/-- Commands of the answers to pulses and the triggers. -/
def inStreaming : Instr → Bool
  | .imped .. | .instantTrigger .. | .scheduledTrigger .. | .snap .. | .status .. | .streamResponseForm .. | .temps .. | .volts .. => true
  | _ => false

/-- Commands of the chain commands at their destination. -/
def inServing : Instr → Bool
  | .checkConfig .. | .read .. | .segInitRead .. | .segInitWrite .. | .segRead .. | .segWrite .. | .segmentTimeout .. => true
  | _ => false

/-- Commands of the host side of a head. -/
def inHosting : Instr → Bool
  | .canAlarmFrame | .canBusError .. | .canBusOffRecovery | .canConfigApply | .commandTimeout .. | .hostCrcRate | .ignoredFrame
  | .keeperForward .. | .response .. | .segmentRepeatKeepalive .. | .spiRead .. | .streamFrame .. => true
  | _ => false

/-- Commands of the monitors and tests. -/
def inGuarding : Instr → Bool
  | .configSignatureCheck .. | .engineLoadMeasurement .. | .engineSelfTest .. | .fltReadback .. | .memoryError .. | .memoryScrub ..
  | .operatingHour | .preShutdownEnd .. | .pwrEnComparison .. | .railGood .. | .railWindowFault .. | .supplyAttemptRetry
  | .supplyAttemptTimeout | .transitionComplete | .unlockExpiry | .vin5Good | .vinLow | .vstkInRange | .vstkRangeCheck .. => true
  | _ => false

/-- Commands of the wake events and Bedrock in Sleep. -/
def inWaking : Instr → Bool
  | .deferredWakeStart .. | .extendedWakeEvent .. | .shutdownTemperatureCheck .. | .sleepBalancePhase .. | .wakeEvent .. | .wakeTone .. => true
  | _ => false

/-- Commands that change no entry of the dictionary. -/
def leavesDict : Instr → Bool
  | .analysisSetRead .. | .captureStart .. | .cellLimitRefresh | .chainReferenceSend .. | .deferredWakeStart ..
  | .delayRefresh .. | .excitationEdge .. | .extendedWakeEvent .. | .medianRsRead .. | .memoryError .. | .memoryScrub .. | .probe ..
  | .probeSweep .. | .railWindowFault .. | .segmentRepeatKeepalive .. | .segmentTimeout ..
  | .sleepBalancePhase .. | .sleepPlanRefresh .. | .slewStep | .spiRead .. | .splitEnd .. | .supplyAttemptRetry | .supplyAttemptTimeout
  | .vin5Good | .vinLow | .vstkRangeCheck .. | .wakeEvent .. => true
  | _ => false

end Sys2Proof.Machine
end

