-- ==== Sys2Proof/Certificates/Slice0/Obligations.lean ====
section
/-! DEFINITION. The statements about the model, for the provers. -/

section

open Sys2Proof Sys2Proof.Machine

/-- POR_ASSERT takes the node to Off with nothing retained; POR_RELEASE takes it from Off to Sleep with Bedrock on its defaults, and does
nothing elsewhere (R75, R88, R103). -/
def Obligations.PorKeepsNothing : Prop :=
  (∀ s, GivesBlock .porAssert s fun b =>
    b.power.mode = .off ∧ b.journal.entries = [] ∧ b.flint.regs = [] ∧ b.dict = [] ∧ b.imp.soc = List.replicate 32 .unknown ∧
      b.fuses = s.blk.fuses) ∧
  (∀ s, s.blk.power.mode = .off → GivesBlock .porRelease s fun b =>
    b.power.mode = .sleep ∧ b.power.stage = .idle ∧ b.dict = [] ∧ b.bedrock = Bedrock.fresh ∧ b.fuses = s.blk.fuses) ∧
  (∀ s, s.blk.power.mode ≠ .off → exec .porRelease s = .next s)

/-- The supply monitors (R75–R78, R377, R407): VSTK outside 9.0–170.0 V, a bad rail and a wrong PWR_EN level raise their sources, and the
conditions' ends clear the live bits. SUPPLY_FAIL takes a node in Standby or above to Sleep with PWR_EN low and FLT_N released (R77, R387); that a
running NVM program is cut off with the supply (program = none) is the model's choice, log 15. -/
def Obligations.SupplyMonitors : Prop :=
  (∀ s d, s.blk.awake = true → (d < 90 ∨ 1700 < d) → GivesBlock (.vstkRangeCheck d) s fun b =>
    b = s.blk.raise 0x86 (min 65535 d)) ∧
  (∀ s d, 90 ≤ d → d ≤ 1700 → exec (.vstkRangeCheck d) s = .next s) ∧
  (∀ s, s.blk.awake = true → GivesBlock .vstkInRange s fun b =>
    b.live 0x86 = false ∧ b = (s.blk.withFlint b.flint).withDict b.dict) ∧
  (∀ s, s.blk.awake = true → s.blk.power.vin5Good = true → GivesBlock .vinLow s fun b =>
    b.flint.detections = s.blk.flint.detections ++ [⟨0x85, 1, 0, none⟩] ∧ Rail.vin5 ∈ b.power.railsBad ∧ b.dict = s.blk.dict) ∧
  (∀ s r, s.blk.awake = true → r ≠ .vin5 → GivesBlock (.railWindowFault r) s fun b =>
    b.flint.detections = s.blk.flint.detections ++ [⟨0x85, r.code, 0, none⟩] ∧ r ∈ b.power.railsBad ∧ b.dict = s.blk.dict) ∧
  (∀ s r, s.blk.awake = true → (∀ x ∈ s.blk.power.railsBad, x = r) → GivesBlock (.railGood r) s fun b =>
    b.power.railsBad = [] ∧ b.live 0x85 = false) ∧
  (∀ s level, s.blk.awake = true → level ≠ s.blk.power.pwrEn → 2 ≤ s.blk.power.pwrEnMisses →
    GivesBlock (.pwrEnComparison level) s fun b =>
      b.flint.detections = s.blk.flint.detections ++ [⟨0x87, boolNat s.blk.power.pwrEn, 0, none⟩] ∧ b.hasReason .pwrEn = true) ∧
  (∀ s, s.blk.awake = true → GivesBlock (.pwrEnComparison s.blk.power.pwrEn) s fun b =>
    b = s.blk.withPower { s.blk.power with pwrEnMisses := 0 }) ∧
  (∀ s, (s.blk.power.mode = .standby ∨ s.blk.measuring = true) → GivesBlock .supplyFail s fun b =>
    b.power.mode = .sleep ∧ b.power.pwrEn = false ∧ b.nvm.program = none ∧ b.flint.fltLow = false)

/-- The wake sequence (R91–R97): a wake event starts it at step 1, an extended one in Ship repeats the tone at a node, from either port, and starts
it at a head, also for HCS_N or HCRX; VIN5 gives step 2, four failed supply attempts end it, and the release of the core reset gives the sampled
role. The model's choices: log 18 that the node stays in the mode it woke from after the fourth failure, Ship included, where R93 says Sleep; log 19
that wakesFrom takes host activity at any package before the first core reset, when no role is sampled yet. -/
def Obligations.WakeSequence : Prop :=
  (∀ s src slept, s.blk.power.mode = .sleep → s.blk.power.stage = .idle → s.blk.wakesFrom src = true →
    GivesBlock (.wakeEvent src slept) s fun b =>
      b.power.stage = .awaitVin5 ∧ b.power.cause = wakeCause src ∧ b.power.attempts = 1 ∧ b.power.pwrEn = true ∧
        b.power.slept = min slept (2 ^ 32 - 1) ∧ b.power.prior = s.blk.priorCode) ∧
  (∀ s slept, s.blk.power.mode = .ship → s.blk.power.stage = .idle → s.blk.isHead = false →
    GivesBlock (.extendedWakeEvent .toneDl slept) s fun b =>
      b.power.stage = .awaitVin5 ∧ b.power.cause = 8 ∧ b.out = s.blk.out ++ [.tone .du 1200]) ∧
  (∀ s slept, s.blk.power.mode = .ship → s.blk.power.stage = .idle → s.blk.isHead = false →
    GivesBlock (.extendedWakeEvent .toneDu slept) s fun b =>
      b.power.stage = .awaitVin5 ∧ b.power.cause = 8 ∧ b.out = s.blk.out ++ [.tone .dl 1200]) ∧
  (∀ s src slept, s.blk.power.mode = .ship → s.blk.power.stage = .idle → s.blk.isHead = true →
    GivesBlock (.extendedWakeEvent src slept) s fun b =>
      b.power.stage = .awaitVin5 ∧ b.power.cause = 8 ∧ b.out = s.blk.out) ∧
  (∀ s src slept, s.blk.power.mode = .sleep → s.blk.power.stage = .idle → s.blk.wakesFrom src = true →
    GivesBlock (.extendedWakeEvent src slept) s fun b => b.power.stage = .awaitVin5 ∧ b.power.cause = wakeCause src) ∧
  (∀ s c slept, s.blk.power.deferred = some c → (s.blk.power.mode = .sleep ∨ s.blk.power.mode = .ship) → s.blk.power.stage = .idle →
    GivesBlock (.deferredWakeStart slept) s fun b =>
      b.power.stage = .awaitVin5 ∧ b.power.cause = c ∧ b.power.deferred = none) ∧
  (∀ s, s.blk.power.stage = .awaitVin5 → GivesBlock .vin5Good s fun b =>
    b = s.blk.withPower { s.blk.power with vin5Good := true, stage := .rails }) ∧
  (∀ s, s.blk.power.stage = .awaitVin5 → s.blk.power.attempts < 4 → GivesBlock .supplyAttemptTimeout s fun b =>
    b = s.blk.withPower { s.blk.power with pwrEn := false, stage := .retryWait }) ∧
  (∀ s, s.blk.power.stage = .awaitVin5 → 4 ≤ s.blk.power.attempts → GivesBlock .supplyAttemptTimeout s fun b =>
    b = s.blk.withPower { s.blk.power with pwrEn := false, stage := .idle, supplyRecorded := true }) ∧
  (∀ s, s.blk.power.stage = .retryWait → GivesBlock .supplyAttemptRetry s fun b =>
    b = s.blk.withPower { s.blk.power with pwrEn := true, stage := .awaitVin5, attempts := s.blk.power.attempts + 1 }) ∧
  (∀ s strap mv, s.blk.power.stage = .rails → GivesBlock (.coreResetRelease strap mv) s fun b =>
    b.power.stage = .booting ∧ b.get Ob.role = (if strap then (if mv < 1000 then 3 else 2) else 1) ∧
      b.journal.entries = s.blk.journal.entries ∧ b.bedrock = s.blk.bedrock ∧ b.fuses = s.blk.fuses) ∧
  (∀ s report t, s.blk.power.stage = .booting → GivesBlock (.engineBootComplete report t) s fun b =>
    b.power.mode = .standby ∧ b.power.stage = .idle ∧ b.power.firstWake = false)

/-- The power commands (R3, R83–R86, R89, R387): each accepted command leads to its state, or begins its transition, and shows it in Pending; FULL
takes an -S node from Standby to Measure and changes no state from Measure, WAKE_CHAIN makes the head's census due 20 ms after its tone, and a
SLEEP releases FLT_N (R387). That the mode has already changed while Pending shows 4, 5 or 6 until TRANSITION_COMPLETE is the model's choice, log 16;
that a communication loss overwrites another transition in Pending is log 62's. -/
def Obligations.PowerCommandsAccepted : Prop :=
  (∀ s, s.blk.measuring = true → s.blk.get Ob.powerStatePending = 0 → GivesBlock .standby s fun b =>
    b.power.mode = .standby ∧ b.get Ob.powerStatePending = 4) ∧
  (∀ s ack, s.blk.awake = true → (s.blk.power.mode = .standby ∨ s.blk.power.mode = .full) → s.blk.get Ob.powerStatePending = 0 →
    GivesBlock (.measure ack) s fun b => b.power.mode = .measure ∧ b.get Ob.powerStatePending = 5) ∧
  (∀ s ack, s.blk.awake = true → (s.blk.power.mode = .standby ∨ s.blk.power.mode = .measure) → s.blk.fuses.variantX = true →
    s.blk.get Ob.powerStatePending = 0 →
    GivesBlock (.full ack) s fun b => b.power.mode = .full ∧ b.get Ob.powerStatePending = 6) ∧
  (∀ s ack, s.blk.awake = true → s.blk.power.mode = .standby → s.blk.fuses.variantX = false → s.blk.get Ob.powerStatePending = 0 →
    GivesBlock (.full ack) s fun b => b.power.mode = .measure ∧ b.get Ob.powerStatePending = 5) ∧
  (∀ s ack, s.blk.awake = true → s.blk.power.mode = .measure → s.blk.fuses.variantX = false → s.blk.get Ob.powerStatePending = 0 →
    GivesBlock (.full ack) s fun b => b.power = s.blk.power ∧ b.get Ob.powerStatePending = 0 ∧ b.win = s.blk.win) ∧
  (∀ s, s.blk.awake = true → s.blk.get Ob.powerStatePending = 0 → s.blk.nvm.program = none → GivesBlock .sleep s fun b =>
    b.power.mode = .sleep ∧ b.power.pwrEn = false ∧ b.flint.fltLow = false) ∧
  (∀ s, s.blk.awake = true → s.blk.power.mode = .standby → s.blk.get Ob.powerStatePending = 0 → s.blk.safeHold < 4 →
    s.blk.live 0x82 = false → s.blk.inWindow = true → s.blk.nvm.program = none → s.blk.nvm.summaryBank = none →
    s.blk.journal.incidents = [] → s.blk.flint.fifo = [] → s.blk.flint.overflow = [] → GivesBlock .ship s fun b =>
      b.power.mode = .ship ∧ b.journal.entries = [] ∧ b.flint = Flint.fresh) ∧
  (∀ s, s.blk.awake = true → s.blk.get Ob.powerStatePending = 0 → s.blk.nvm.program = none → GivesBlock .reset s fun b =>
    b.power.stage = .rails ∧ b.power.cause = 6) ∧
  (∀ s, s.blk.awake = true → s.blk.isHead = true → s.blk.get Ob.powerStatePending = 0 → GivesBlock .wakeChain s fun b =>
    b.link.wakeCensus = s.blk.link.wakeCensus ++ [(s.blk.now + 20020) % t48] ∧ b.phys.ownToneEnd = some ((s.blk.now + 20) % t48)) ∧
  (∀ s, s.blk.awake = true →
    (s.blk.get Ob.powerStatePending = 4 ∨ s.blk.get Ob.powerStatePending = 5 ∨ s.blk.get Ob.powerStatePending = 6) →
    GivesBlock .transitionComplete s fun b => b = s.blk.put Ob.powerStatePending 0) ∧
  (∀ s t, s.blk.awake = true → s.blk.nvm.program = none → s.blk.get Ob.commLossTimeout ≤ chainDiff (t % t48) s.blk.power.commAt →
    GivesBlock (.commLoss t) s fun b => b.power.mode = .sleep ∧ b.power.pwrEn = false)

/-- Bedrock's watch in Sleep (R99, R100, R232): a check keeps its crossings, a crossing that the check 1 s later finds again ends sleep balancing
and sends the tone toward the head (DL, DU at a turned node), while one first seen on that check is kept for a second check of its own, a half
turns on its planned channels only, its end turns every switch off, and a second counts the plan down. -/
def Obligations.BedrockWatch : Prop :=
  (∀ s cells therm lanes bed, s.blk.bedrockWatches = true → s.blk.hottestOf lanes < 1450 →
    GivesBlock (.periodicCheck cells therm lanes bed) s fun b =>
      b.bedrock.firstCrossings = s.blk.bedrock.find cells therm ∧ b.power = s.blk.power ∧ b.dict = s.blk.dict) ∧
  (∀ s cells therm bed, s.blk.bedrockWatches = true →
    ((s.blk.bedrock.find cells therm).filter fun c =>
      s.blk.bedrock.firstCrossings.any c.same && !s.blk.bedrock.crossings.any c.same) ≠ [] →
    GivesBlock (.crossingConfirmation cells therm bed) s fun b =>
      b.bedrock.crossings = s.blk.bedrock.crossings ++ ((s.blk.bedrock.find cells therm).filter fun c =>
        s.blk.bedrock.firstCrossings.any c.same && !s.blk.bedrock.crossings.any c.same) ∧
      b.bedrock.balancing = false ∧ b.bedrock.firstCrossings = ((s.blk.bedrock.find cells therm).filter fun c =>
        !s.blk.bedrock.firstCrossings.any c.same && !s.blk.bedrock.crossings.any c.same) ∧ b.out = s.blk.out ++ [.tone (if s.blk.turned then .du else .dl) 20] ∧
      (∀ c ∈ b.gov.ch, c.on = false)) ∧
  (∀ s odd ms i, s.blk.bedrockWatches = true → s.blk.bedrock.balancing = true → i < 32 → i < s.blk.gov.ch.length →
    GivesBlock (.sleepBalancePhase odd ms) s fun b =>
      (b.chan i).on = match odd with
        | none => false
        | some first => decide (i % 2 = if first then 0 else 1) && decide ((s.blk.bedrock.planned[i]?).getD 0 ≠ 0)) ∧
  (∀ s lanes, s.blk.bedrockWatches = true → s.blk.bedrock.balancing = true → s.blk.hottestOf lanes < 1450 →
    GivesBlock (.sleepBalanceSecond lanes) s fun b =>
      b.bedrock.planned = s.blk.bedrock.planned.map (fun n => n - 1) ∧ b.power = s.blk.power) ∧
  (∀ s t, s.blk.measuring = true → GivesBlock (.sleepPlanRefresh t) s fun b =>
    b = (s.blk.at t).withGov { s.blk.gov with plan := (s.blk.at t).formPlan })

/-- Thermal shutdown (R420, R421): two readings at the limit take the node there with FLT_N low and no program going on; it wakes with cause 7 once
every thermometer reads below 130.0 °C and otherwise stays. The thermal ladder below shutdown (R412–R419, R434): readings are published, the
throttle temperature and its band follow them, two readings of 145.0 °C register 0x82 at level 3, and 0x82 ends after G below 140.0 °C. The model's
choices: log 25, that 0x82 is live and the shutdown acts in the very command that finds it, where R381 registers in a cycle of its own; logs 9 and
15, that no program goes on once the shutdown is entered, where R420 lets a page in progress complete. -/
def Obligations.ThermalWatch : Prop :=
  ((∀ s, s.blk.awake = true → s.blk.hotTwice s.blk.thermal.over150 = true → Gives .thermalShutdown s fun t =>
    t.blk.power.mode = .shutdown ∧ t.blk.power.pwrEn = false ∧ t.blk.flint.fltLow = true ∧ t.blk.nvm.program = none ∧
      t.pending = s.pending) ∧
  (∀ s lanes slept, s.blk.power.mode = .shutdown → s.blk.power.stage = .idle → s.blk.hottestOf lanes < 1300 →
    GivesBlock (.shutdownTemperatureCheck lanes slept) s fun b =>
      b.power.stage = .awaitVin5 ∧ b.power.cause = 7 ∧ b.power.prior = s.blk.priorCode ∧
      b.get Ob.thermalRecordPeak = max (s.blk.get Ob.thermalRecordPeak) (s.blk.hottestOf lanes)) ∧
  (∀ s lanes slept, s.blk.power.mode = .shutdown → s.blk.power.stage = .idle → 1300 ≤ s.blk.hottestOf lanes →
    GivesBlock (.shutdownTemperatureCheck lanes slept) s fun b =>
      b = s.blk.put Ob.thermalRecordPeak (max (s.blk.get Ob.thermalRecordPeak) (s.blk.hottestOf lanes)))) ∧
  ((∀ s t lanes k v, s.blk.awake = true → k < 37 → lanes[k]? = some v → GivesBlock (.laneThermometerInterval t lanes) s fun b =>
    b.get (Ob.laneTemperature + k + 1) = clampInt (-550) 1750 v ∧ b.power = s.blk.power) ∧
  (∀ s t slices k v, s.blk.awake = true → s.blk.engineRuns 7 = true → k < 74 → slices[k]? = some v →
    GivesBlock (.housekeepingRound t slices) s fun b =>
      b.get (Ob.sliceTemperature + k + 1) = clampInt (-550) 1750 v ∧ b.power = s.blk.power) ∧
  (∀ s t k, s.blk.awake = true → s.blk.engineRuns 7 = true → k < 37 → s.blk.lane k ≠ noReading →
    GivesBlock (.throttleEvaluation t) s fun b =>
      b.get Ob.throttleLevelThrottleTemperature = s.blk.throttleTemp ∧
      b.thermal.band = s.blk.throttleBand s.blk.throttleTemp ∧ b.power = s.blk.power) ∧
  (∀ s, s.blk.awake = true → s.blk.live 0x82 = false → s.blk.hotTwice s.blk.thermal.over145 = true →
    GivesBlock .preShutdown s fun b =>
      b.get Ob.throttleLevelLevel = 3 ∧ b.get Ob.thermalRecordPeak = s.blk.get Ob.hottestLaneHottest ∧ b.live 0x82 = true) ∧
  (∀ s t c, s.blk.awake = true → s.blk.live 0x82 = true → s.blk.thermal.coolSince = some c →
    s.blk.get Ob.graceTime * 1000000 ≤ chainDiff (t % t48) c → GivesBlock (.preShutdownEnd t) s fun b =>
      b = (s.blk.at t).clearLive 0x82 ∧ b.live 0x82 = false) ∧
  (∀ s, s.blk.awake = true → s.blk.nvm.summaryWanted = true → s.blk.engineRuns 7 = false → GivesBlock .summaryWrite s fun b => b = s.blk) ∧
  (∀ s, s.blk.awake = true → s.blk.nvm.summaryWanted = true → s.blk.nvm.program = none → s.blk.engineRuns 7 = true →
    s.blk.settleJournal.summaryNeeded s.flash = true → GivesBlock .summaryWrite s fun b =>
      (∃ p, b.nvm.program = some p ∧ p.kind = .summary ∧ p.erased = false ∧ p.page = 0) ∧ b.get Ob.nvmStatusState = 3))

/-- References of the CORE PLL and the clock monitors (R107, R109, R115, R119, R120, R124): symbol lock switches to the port and acquires again, but
for a turned node whose delay of the ring path or whose first chain reference frame has not come, which is in HOLDOVER; loss of lock holds the last
frequency, and a clock that fails two gates (FAULT RC one) raises 0xA4 with its number. SYNC and chain time (R113, R116–R118): an aligned node takes
a small correction as a slew and stays aligned, such a turned node moves nothing, three missing SYNCs give HOLDOVER, a slew step moves the count by
one sub-tick, and the head sends SYNC at whole multiples of 10,000 us, at no other time, and its reference frame. A node takes that frame on its
head-side port, and in ring mode turns to the port it comes on. The model's choices: log 33, that a SYNC a node cannot use is the first after
its reference frame all the same (reference = none), and that a frame still in a queue follows the SYNC. -/
def Obligations.ChainClock : Prop :=
  ((∀ s p, s.blk.awake = true → s.blk.isHead = false → s.blk.link.headSide = p → s.blk.get Ob.clockSourceSource ≠ sourceOf p →
    s.blk.awaitsSplit = false → GivesBlock (.pllReferenceSwitch p) s fun b =>
      b.get Ob.clockSourceSource = sourceOf p ∧ b.tbState = tbAcquiring ∧ b.tb.slewLeft = 0 ∧ b.tb.rejected = 0) ∧
  (∀ s p, s.blk.awake = true → s.blk.isHead = false → s.blk.link.headSide = p → s.blk.get Ob.clockSourceSource ≠ sourceOf p →
    s.blk.turned = true → (s.blk.link.splitDelays = [] ∨ s.blk.tb.referenced = false) → GivesBlock (.pllReferenceSwitch p) s fun b =>
      b.get Ob.clockSourceSource = sourceOf p ∧ b.tbState = tbHoldover ∧ b.tb.slewLeft = 0 ∧ b.tb.rejected = 0) ∧
  (∀ s p, s.blk.awake = true → s.blk.isHead = false → s.blk.link.headSide = p → s.blk.get Ob.clockSourceSource = sourceOf p →
    GivesBlock (.pllReferenceSwitch p) s fun b => b = s.blk) ∧
  (∀ s p, s.blk.awake = true → s.blk.isHead = false → s.blk.link.headSide = p → s.blk.get Ob.clockSourceSource = sourceOf p →
    s.blk.tbState = tbAligned → GivesBlock (.symbolLockLoss p) s fun b =>
      b.get Ob.clockSourceSource = 5 ∧ b.tbState = tbHoldover ∧
      b.flint.detections = s.blk.flint.detections ++ [⟨0x64, 2, 0, none⟩]) ∧
  (∀ s k count, s.blk.monitored k = true → k ≠ 42 → outOfBand k count = true → s.blk.tb.gatesBad[k]? = some 1 →
    GivesBlock (.clockMonitorGate k count) s fun b =>
      b.flint.detections = s.blk.flint.detections ++ [⟨0xA4, k, 0, none⟩] ∧ b.dict = s.blk.dict) ∧
  (∀ s count, s.blk.awake = true → s.blk.engineRuns 7 = true → outOfBand 44 count = true → s.blk.tb.gatesBad[44]? = some 0 →
    GivesBlock (.faultRcCheck count) s fun b =>
      b.flint.detections = s.blk.flint.detections ++ [⟨0xA4, 44, 0, none⟩] ∧ b.dict = s.blk.dict)) ∧
  ((∀ s t (stamp a r : Nat), s.blk.awake = true → s.blk.isHead = false → s.blk.tbState = tbAligned → s.blk.syncDelay = some a →
    s.blk.tb.reference = some r → (psDiff ((r : Int) * 1000000 + a) (onGrid stamp)).natAbs ≤ 20000 →
    GivesBlock (.sync t stamp) s fun b =>
      b.get Ob.clockSourceLastCorrection = psDiff ((r : Int) * 1000000 + a) (onGrid stamp) ∧ b.tbState = tbAligned ∧
      b.tb.slewLeft = subTicks (psDiff ((r : Int) * 1000000 + a) (onGrid stamp)) ∧ b.tb.rejected = 0 ∧ b.tb.lastSync = some r) ∧
  (∀ s t stamp r, s.blk.awake = true → s.blk.isHead = false → s.blk.tbState ≠ tbFree → s.blk.turned = true →
    (s.blk.link.splitDelays = [] ∨ s.blk.tb.referenced = false) → s.blk.tb.reference = some r → GivesBlock (.sync t stamp) s fun b =>
      b.tbState = s.blk.tbState ∧ b.tb.reference = none ∧ b.tb.slewLeft = s.blk.tb.slewLeft ∧ b.tb.us = (s.blk.at t).tb.us) ∧
  (∀ s t, s.blk.awake = true → s.blk.isHead = false → s.blk.tbState = tbAligned → GivesBlock (.syncMissing t) s fun b =>
    b.tbState = tbHoldover ∧ b.tb.rejected = 0 ∧ b.flint.detections = s.blk.flint.detections ++ [⟨0x64, 2, 0, none⟩]) ∧
  (∀ s, s.blk.awake = true → 0 < s.blk.tb.slewLeft → GivesBlock .slewStep s fun b =>
    b = s.blk.withTb { s.blk.tb.move 1 with slewLeft := s.blk.tb.slewLeft - 1 }) ∧
  (∀ s, s.blk.awake = true → s.blk.tb.slewLeft < 0 → GivesBlock .slewStep s fun b =>
    b = s.blk.withTb { s.blk.tb.move (-1) with slewLeft := s.blk.tb.slewLeft + 1 }) ∧
  (∀ s t, s.blk.awake = true → s.blk.isHead = true → t % t48 % 10000 = 0 → s.blk.transmits .du = true → s.blk.splitOn = false →
    GivesBlock (.syncSend t) s fun b => s.blk.out ++ [.pulse .du .sync, .idle .du] <+: b.out) ∧
  (∀ s t, s.blk.awake = true → s.blk.isHead = true → t % t48 % 10000 = 0 → s.blk.transmits .du = true → s.blk.splitOn = true →
    s.blk.transmits .dl = true → GivesBlock (.syncSend t) s fun b =>
      s.blk.out ++ [.pulse .du .sync, .idle .du, .pulse .dl .sync, .idle .dl] <+: b.out) ∧
  (∀ s t, t % t48 % 10000 ≠ 0 → GivesBlock (.syncSend t) s fun b => b = s.blk.at t) ∧
  (∀ s t, s.blk.awake = true → s.blk.isHead = true → s.blk.link.round = none → s.blk.transmits .du = true → s.blk.splitOn = false →
    GivesBlock (.chainReferenceSend t) s fun b =>
      b.out = s.blk.out ++ [.frame .du (frameOf (headerOf 4 0 0 0 s.blk.link.broadcasts) ([0x01#8] ++ bytesOf 1 0 ++
        bytesOf 2 (s.blk.nat Ob.censusResultCensusNumber) ++ bytesOf 6 (nextSyncAt (t % t48)) ++ bytesOf 6 0))] ∧
      b.link.broadcasts = (s.blk.link.broadcasts + 1) % 65536 ∧ b.dict = s.blk.dict) ∧
  (∀ s p split census next, s.blk.awake = true → s.blk.isHead = false → s.blk.positioned = true → s.blk.link.headSide = p →
    GivesBlock (.chainReference p split census next) s fun b =>
      b.tb.reference = some (next % t48) ∧ b.tb.referenced = true ∧ b.link = s.blk.link ∧ b.power = s.blk.power) ∧
  (∀ s p split census next, s.blk.awake = true → s.blk.isHead = false → s.blk.positioned = true → s.blk.on Ob.ringMode = true →
    s.blk.link.headSide ≠ p → GivesBlock (.chainReference p split census next) s fun b =>
      b.link = { s.blk.link with headSide := p, splitDelays := [] } ∧ b.get Ob.clockSourceSource = sourceOf p ∧
      b.tb.reference = some (next % t48) ∧ b.tb.referenced = true ∧
      b.tbState = (match p with | .dl => tbAcquiring | .du => tbHoldover)) ∧
  (∀ s p split census next, s.blk.on Ob.ringMode = false → s.blk.link.headSide ≠ p →
    GivesBlock (.chainReference p split census next) s fun b => b = s.blk))

/-- Writes that set the measuring side (R25, R122, R171, R182, R185, R257, R259, R474): an accepted write of each leaves its value to be read and has
its effect beside it. -/
def Obligations.MeasuringWrites : Prop :=
  (∀ s data v, s.blk.isHead = true → Accepts s.blk 0x1021 0 data [(Ob.chainTime, v)] → GivesBlock (.chainTimeWrite data) s fun b =>
    b.tb.us = v.toNat % t48 ∧ b.tb.sub = 0) ∧
  (∀ s ix sub data v, (ix = 0x2001 ∨ ix = 0x2002 ∨ ix = 0x2003 ∨ ix = 0x2005) → Accepts s.blk ix sub data [(keyOf ix sub, v)] →
    GivesBlock (.windowModeWrite ix sub data) s fun b =>
      b.get (keyOf ix sub) = v ∧ (s.blk.measuring = true → b.win.changed = true)) ∧
  (∀ s data v, Accepts s.blk 0x2044 0 data [(Ob.auxOutput, v)] → GivesBlock (.auxOutputWrite data) s fun b =>
    b.get Ob.auxOutput = v ∧ b.power = s.blk.power) ∧
  (∀ s sub data v, 1 ≤ sub → sub ≤ 8 → Accepts s.blk 0x2040 sub data [(keyOf 0x2040 sub, v)] →
    GivesBlock (.auxFunctionWrite sub data) s fun b => b.get (keyOf 0x2040 sub) = v ∧ b.power = s.blk.power) ∧
  (∀ s data v, Accepts s.blk 0x2035 0 data [(Ob.chargeCounter, v)] → GivesBlock (.chargeCounterPreset data) s fun b =>
    b.get Ob.chargeCounter = v) ∧
  (∀ s data v, Accepts s.blk 0x2032 0 data [(Ob.currentKeeper, v)] → GivesBlock (.currentKeeperWrite data) s fun b =>
    b.get Ob.currentKeeper = v) ∧
  (∀ s data vals, Accepts s.blk 0x4010 0 data vals → GivesBlock (.socTableWrite data) s fun b => b.socTable = data) ∧
  (∀ s data vals, Accepts s.blk 0x4012 0 data vals → GivesBlock (.tempCurveWrite data) s fun b => b.tempCurve = data)

/-- Writes to the charge governor (R211, R218, R219, R226, R236): a target, a session timer, the enables, the bleed resistor with the seeds of the
paths, and the clearing of sticky flags. -/
def Obligations.GovernorWrites : Prop :=
  (∀ s i data v, i < 32 → Accepts s.blk 0x3001 (i + 1) data [(chKey Ob.balanceTarget i, v)] →
    GivesBlock (.balanceTargetWrite (i + 1) data) s fun b => b.get (chKey Ob.balanceTarget i) = v ∧ b.power = s.blk.power) ∧
  (∀ s i data v, i < 32 → Accepts s.blk 0x3005 (i + 1) data [(chKey Ob.sessionTimer i, v)] →
    GivesBlock (.sessionTimerWrite (i + 1) data) s fun b => b.get (chKey Ob.sessionTimer i) = v ∧ b.power = s.blk.power) ∧
  (∀ s data v i, i < 32 → Accepts s.blk 0x3000 0 data [(Ob.balanceEnable, v)] → GivesBlock (.balanceEnableWrite data) s fun b =>
    b.get Ob.balanceEnable = v ∧
    (bitOf v.toNat i = false → (b.chan i).owner = .balancing → (b.chan i).on = false)) ∧
  (∀ s data v, Accepts s.blk 0x300B 0 data [(Ob.governorFlags, v)] → GivesBlock (.stickyFlagClear 0x300B 0 data) s fun b =>
    b.nat Ob.governorFlags = clearBits (s.blk.nat Ob.governorFlags) v.toNat ∧ b.power = s.blk.power) ∧
  (∀ s data v i, i < s.blk.cells → i < 32 → Accepts s.blk 0x3011 0 data [(Ob.bleedResistor, v)] →
    GivesBlock (.bleedResistorWrite data) s fun b =>
      b.get Ob.bleedResistor = v ∧ b.get (chKey Ob.pathResistance i) = pathSeed v)

/-- Writes to the system side (R306, R340, R378, R392, R411, R433, R437, R440, R442): the census and the ring, severities, acknowledgement, the
read cursor, check units, Save and RestoreDefaults. -/
def Obligations.SystemWrites : Prop :=
  (∀ s data v, s.blk.isHead = true → Accepts s.blk 0x1105 0 data [(Ob.ringMode, v)] → GivesBlock (.ringModeWrite data) s fun b =>
    b.get Ob.ringMode = v) ∧
  (∀ s data vals, s.blk.isHead = true → Accepts s.blk 0x1102 1 data vals → GivesBlock (.censusRun data) s fun b =>
    b.link.roundWanted = true ∧ b.power = s.blk.power) ∧
  (∀ s src v, 1 ≤ src → src < 256 → Accepts s.blk 0x6004 0 (bytesOf 2 src) [(Ob.acknowledge, v)] → v = src →
    s.blk.live src = false → GivesBlock (.acknowledgeSource src) s fun b => b.latched src = false ∧ b.power = s.blk.power) ∧
  (∀ s src, src < 256 → Accepts s.blk 0x6004 0 (bytesOf 2 0x0100) [(Ob.acknowledge, 0x0100)] → s.blk.live src = false →
    GivesBlock .acknowledgeAll s fun b => b.latched src = false ∧ b.power = s.blk.power) ∧
  (∀ s sub data v, 1 ≤ sub → sub < 256 → Accepts s.blk 0x6000 sub data [(keyOf 0x6000 sub, v)] →
    GivesBlock (.faultSeverityWrite sub data) s fun b => b.get (keyOf 0x6000 sub) = v ∧ b.power = s.blk.power) ∧
  (∀ s data, Accepts s.blk 0x6009 0 data [(Ob.faultFlags, 1)] → GivesBlock (.faultFlagsWrite data) s fun b =>
    b.bit Ob.faultFlags 0 = false ∧ b.power = s.blk.power) ∧
  (∀ s data v, Accepts s.blk 0x7001 3 data [(keyOf 0x7001 3, v)] → GivesBlock (.readCursorWrite data) s fun b =>
    b.journal = { s.blk.journal with cursor := v.toNat } ∧ b.power = s.blk.power) ∧
  (∀ s ix data v, (ix = 0x7010 ∨ ix = 0x7011 ∨ ix = 0x7012) → Accepts s.blk ix 0 data [(keyOf ix 0, v)] →
    GivesBlock (.checkUnitWrite ix data) s fun b => b.get (keyOf ix 0) = v ∧ b.power = s.blk.power) ∧
  (∀ s data v, Accepts s.blk 0x8000 0 data [(Ob.save, v)] → GivesBlock (.save data) s fun b =>
    (∃ p, b.nvm.program = some p ∧ p.kind = .save ∧ p.erased = false ∧ p.base = dictBase s.blk.nvm.nextDictBank) ∧
      b.get Ob.nvmStatusState = 1) ∧
  (∀ s, Accepts s.blk 0x8001 0 [1#8] [(Ob.restoreDefaults, 1)] → GivesBlock .restoreConfig s fun b =>
    (∃ p, b.nvm.program = some p ∧ p.kind = .restore ∧ p.erased = false) ∧ b.get Ob.throttleWarn = 1150 ∧ b.socTable = []) ∧
  (∀ s, Accepts s.blk 0x8001 0 [2#8] [(Ob.restoreDefaults, 2)] → GivesBlock .restoreAll s fun b =>
    (∃ p, b.nvm.program = some p ∧ p.kind = .restore ∧ p.erased = false) ∧ b.get Ob.throttleWarn = 1150 ∧ b.get Ob.bleedResistor = 7500)

/-- Unlock (R41, R42): arm, confirm, clear and expiry, each for every node that answers its dictionary. That a write of Unlock of the wrong
length leaves UnlockState and only ends the arming is the model's choice, log 39. -/
def Obligations.UnlockSequence : Prop :=
  (∀ s, s.blk.awake = true → s.blk.power.mode = .standby → GivesBlock .unlockArm s fun b =>
    b = ((s.blk.put Ob.unlockState 1).armedLast true).emit (.answer none)) ∧
  (∀ s, s.blk.awake = true → s.blk.power.mode = .standby → s.blk.get Ob.unlockState = 1 → s.blk.access.armed = true →
    GivesBlock .unlockConfirm s fun b =>
    b = (s.blk.put Ob.unlockState 2).emit (.answer none)) ∧
  (∀ s, s.blk.awake = true → s.blk.power.mode = .standby → (s.blk.get Ob.unlockState ≠ 1 ∨ s.blk.access.armed = false) →
    GivesBlock .unlockConfirm s fun b =>
    b = (s.blk.put Ob.unlockState 0).emit (.answer (some 0x0605))) ∧
  (∀ s v, s.blk.awake = true → s.blk.power.mode = .standby → v < 65536 → v ≠ 0x5A3C → v ≠ 0xC3A5 → GivesBlock (.unlockClear v) s fun b =>
    b = (s.blk.put Ob.unlockState 0).emit (.answer none)) ∧
  (∀ s data, s.blk.awake = true → s.blk.power.mode = .standby → data.length ≠ 2 → GivesBlock (.dictionaryWrite 0x1F00 0 data) s fun b =>
    b.get Ob.unlockState = s.blk.get Ob.unlockState ∧ b.access.armed = false) ∧
  (∀ s, GivesBlock .unlockExpiry s fun b => b = s.blk.put Ob.unlockState 0)

/-- A write of the dictionary (R44, R45): an accepted value is read back, and a refused one changes nothing but that an armed unlock is
disarmed (R41). -/
def Obligations.DictionaryWrites : Prop :=
  (∀ s ix sub data v, ix ∈ [0x1002, 0x1003, 0x1004, 0x2060, 0x3004, 0x5003, 0x5004, 0x5010, 0x6005] →
    Accepts s.blk ix sub data [(keyOf ix sub, v)] → GivesBlock (.dictionaryWrite ix sub data) s fun b =>
      b.get (keyOf ix sub) = v ∧ (∀ k, k ≠ keyOf ix sub → k ≠ Ob.unlockState → k ≠ Ob.checkCfg → b.get k = s.blk.get k) ∧
      b.power = s.blk.power ∧ b.flint = s.blk.flint ∧ b.journal = s.blk.journal ∧ b.link = s.blk.link ∧ b.host = s.blk.host ∧ b.win = s.blk.win) ∧
  (∀ s ix sub data a, ix ≠ 0x1F00 → ix ≠ 0x1001 → Refuses s.blk ix sub data a → GivesBlock (.dictionaryWrite ix sub data) s fun b =>
    b = s.blk.disarm.emit (.answer (some a)))

/-- The reference comparison and the lanes' terms (R130, R134): Basalt as a whole sub-slot B of every tenth frame converts it; a small difference
changes no reference, the third excess in a row takes Basalt's and registers 0x24, and a lane's terms move by an eighth toward new estimates. -/
def Obligations.ReferenceAndCorrection : Prop :=
  (∀ s t codes, s.blk.shadowRotates = true → t % 10000 = 0 → codes.length = subSlotCodes →
    ((s.blk.subSlotVolts t codes - s.blk.basaltCal) * 24).natAbs ≤ 5000000 → s.blk.get Ob.referenceSource ≠ 2 →
    GivesBlock (.referenceCompare (t, codes)) s fun b =>
      b.get Ob.referenceCompareDifference = roundDiv ((s.blk.subSlotVolts t codes - s.blk.basaltCal) * 24) 10000 ∧
      b.get Ob.referenceCompareConsecutive = 0 ∧ b.get Ob.referenceSource = s.blk.get Ob.referenceSource ∧ b.flint = s.blk.flint) ∧
  (∀ s t codes, s.blk.shadowRotates = true → t % 10000 = 0 → codes.length = subSlotCodes →
    5000000 < ((s.blk.subSlotVolts t codes - s.blk.basaltCal) * 24).natAbs →
    s.blk.nat Ob.referenceCompareConsecutive = 2 → s.blk.get Ob.referenceSource ≠ 2 → GivesBlock (.referenceCompare (t, codes)) s fun b =>
      b.get Ob.referenceSource = 2 ∧ b.lanes.ratioNum = s.blk.basaltCal.toNat ∧ b.lanes.ratioDen = (s.blk.subSlotVolts t codes).toNat ∧
      b.hasReason .refBasalt = true ∧ b.flint.detections = s.blk.flint.detections ++
        [⟨0x24, (roundDiv ((s.blk.subSlotVolts t codes - s.blk.basaltCal) * 24) 10000 % 2 ^ 32).toNat, 0, none⟩]) ∧
  (∀ s lane gA gB oB skew badA badB d, s.blk.measuring = true → (s.blk.noCells = false ∨ 32 ≤ lane.val) →
    lane.val < s.blk.lanes.terms.length → GivesBlock (.correctionUpdate lane gA gB oB skew badA badB d) s fun b =>
      (b.terms lane.val).gA = eighth (s.blk.terms lane.val).gA (s.blk.termsNow lane.val).1 gA ∧
      (b.terms lane.val).gB = eighth (s.blk.terms lane.val).gB (s.blk.termsNow lane.val).2.1 gB ∧
      (b.terms lane.val).oB = eighth (s.blk.terms lane.val).oB (s.blk.termsNow lane.val).2.2.1 oB ∧
      b.power = s.blk.power)

/-- A block of a lane (R140–R149, R158, R159): its corrected samples are summed, averaged, scaled and calibrated to the cell's value, the tap-wire
term taken off in its mode; one whose tick the meter has not read yet waits in its FIFO (the model's choice, log 65); a lane that the shadow lane
serves waits in the FIFO with the shadow lane's samples while its engine is stopped; and a block partly under the test switch gives no value. c is
the package as the block ends. CELL_LIMIT_REFRESH takes the limits as block codes (R201), and a change of the averaging takes effect at its
instant, for the blocks that start there (R145). -/
def Obligations.LaneBlocks : Prop :=
  (∀ s ch start own shadow set c e term, set = s.blk.settingAt start → c = (s.blk.at (start + 2 ^ set.1)).dropGone →
    e = c.formEntry ch.val ch.val start set own false false →
    term = (if c.get Ob.tapCompensationMode = 1
      then roundDiv (c.filterRun ch.val (2 ^ set.1) start (c.lagAt ch.val start)).2 (65536 * 2 ^ set.1) else 0) →
    s.blk.measuring = true → s.blk.noCells = false → ch.val < s.blk.cells → start % 2 ^ set.1 = 0 → own.length = 2 ^ set.1 + 1 →
    c.healthBit ch.val 3 = false → c.healthBit ch.val 4 = false → c.inBurst start (2 ^ set.1) = false →
    c.testSpan ch.val start (2 ^ set.1) = 0 → s.blk.lanes.slot = none → s.blk.engineRuns (engineOf ch.val) = true →
    c.fifo ch.val = [] → c.entryReady ch.val e = true → ch.val < s.blk.lanes.blocks.length → GivesBlock (.laneBlock ch start own shadow) s fun b =>
      b.lanes.blocks[ch.val]? =
        some (roundDiv (satV ((c.calibrate ch.val start (2 ^ set.1) (c.laneVolts e.out set.1 set.2)).1 - term)) 1000) ∧
      e.out = averagerOut (sumOf ((c.corrected ch.val start own).map (·.1))) set.2) ∧
  (∀ s ch start own shadow set c e, set = s.blk.settingAt start → c = (s.blk.at (start + 2 ^ set.1)).dropGone →
    e = c.formEntry ch.val ch.val start set own false false →
    s.blk.measuring = true → s.blk.noCells = false → ch.val < s.blk.cells → start % 2 ^ set.1 = 0 → own.length = 2 ^ set.1 + 1 →
    c.healthBit ch.val 3 = false → c.healthBit ch.val 4 = false → c.inBurst start (2 ^ set.1) = false →
    c.testSpan ch.val start (2 ^ set.1) = 0 → s.blk.engineRuns (engineOf ch.val) = true →
    s.blk.lanes.fifos[ch.val]? = some [] → c.entryReady ch.val e = false → GivesBlock (.laneBlock ch start own shadow) s fun b =>
      b.lanes.fifos[ch.val]? = some [e] ∧ b.lanes.blocks = s.blk.lanes.blocks) ∧
  (∀ s ch start own shadow set c q, set = s.blk.settingAt start → c = (s.blk.at (start + 2 ^ set.1)).dropGone →
    s.blk.measuring = true → s.blk.noCells = false → ch.val < s.blk.cells → start % 2 ^ set.1 = 0 → shadow.length = 2 ^ set.1 + 1 →
    c.healthBit ch.val 3 = true → c.healthBit ch.val 4 = false → c.inBurst start (2 ^ set.1) = false →
    s.blk.engineRuns (engineOf ch.val) = false → s.blk.lanes.fifos[ch.val]? = some q → q.length < laneFifoDepth →
    GivesBlock (.laneBlock ch start own shadow) s fun b =>
      b.lanes.fifos[ch.val]? = some (q ++ [c.formEntry ch.val shadowLane start set shadow false false])) ∧
  (∀ s ch start own shadow set c, set = s.blk.settingAt start → c = (s.blk.at (start + 2 ^ set.1)).dropGone →
    s.blk.measuring = true → c.healthBit ch.val 3 = false → c.testSpan ch.val start (2 ^ set.1) ≠ 0 →
    c.testSpan ch.val start (2 ^ set.1) ≠ 2 ^ set.1 → GivesBlock (.laneBlock ch start own shadow) s fun b =>
      b.lanes.blocks = s.blk.lanes.blocks ∧ b.lanes.comparators = s.blk.lanes.comparators) ∧
  (∀ s, s.blk.measuring = true → GivesBlock .cellLimitRefresh s fun b =>
    b.lanes.limits = (if s.blk.noCells then [] else (List.range s.blk.cells).map s.blk.codeLimits) ∧
      b.dict = s.blk.dict ∧ b.flint = s.blk.flint) ∧
  (∀ s t w, s.blk.lanes.averagingNext = some w → t % max s.blk.blockLength (2 ^ w.1) = 0 → GivesBlock (.laneAveragingChange t) s fun b =>
    b.get Ob.laneAveragingCodeInForce = (w.1 : Nat) ∧ b.get Ob.laneAveragingShiftInForce = (w.2 : Nat) ∧ b.lanes.averagingNext = none ∧
      ∀ start, b.settingAt start = if chainDiff start (t % t48) < 0
        then (s.blk.nat Ob.laneAveragingCodeInForce, s.blk.nat Ob.laneAveragingShiftInForce) else w)

/-- The shadow lane's frame and the comparison of the current lanes (R154, R158–R161): a frame with a whole comparison interval leaves the
difference of the channel it visits and its mapping, c being the package at 320 us of the frame where the command brings that interval alone and at
the frame's end else (the model's choice, log 56); agreeing current lanes change nothing else. The model's choices, log 29: a third divergence waits
for the shadow lane's conversion before anything is raised, and without a shadow lane 0x26 carries data 0, where R154 has the node raise 0x26 at the
third divergence. -/
def Obligations.ShadowAndCurrentLanes : Prop :=
  (∀ s t lane shadow test subB offset gain ch c,
    c = (s.blk.at (if test.isEmpty && subB.isEmpty then t + 320 else t + 1000)).dropGone → ch = s.blk.visited (t / 1000) →
    s.blk.shadowRotates = true → s.blk.noCells = false → t % 1000 = 0 → s.blk.lanes.slot = none → s.blk.cells ≤ 32 → lane.length = 257 →
    shadow.length = 257 → GivesBlock (.shadowFrame t lane shadow test subB offset gain) s fun b =>
      b.get (chKey Ob.shadowDifference ch) = sumsApart (sumOf ((c.corrected ch (t + 64) lane).map (·.1)))
        (sumOf ((c.substituted ch (t + 64) shadow).map (·.1))) 256 ∧
      (ch < s.blk.lanes.maps.length → b.lanes.maps[ch]? = some (offset, gain)) ∧ b.power = s.blk.power) ∧
  (∀ s t x y n m1 m2, t % 1000 = 0 → s.blk.keeper.laneSums = (x, y, n) → n ≠ 0 → m1 = s.blk.atInput (roundDiv (x * stepPv) (2 ^ 20 * 1000 * n)) →
    m2 = s.blk.atInput (roundDiv (y * stepPv) (2 ^ 20 * 1000 * n)) → s.blk.measuring = true → s.blk.engineRuns 4 = true →
    s.blk.lanes.currentKept = 0 → s.blk.bit Ob.frontEndHealth 1 = false →
    (4000 * (m1 - m2)).natAbs ≤ 4000 * (if s.blk.get Ob.currentRange = 2 then 50000 else 5000) + (m1 + m2).natAbs →
    GivesBlock (.currentLaneCompare t (t + 1000)) s fun b =>
      b = ((s.blk.at (t + 1000)).withKeeper { s.blk.keeper with laneSums := (0, 0, 0) }).withLanes
        { s.blk.lanes with currentDiverge := 0, currentMeans := (m1, m2) }) ∧
  (∀ s t x y n m1 m2, t % 1000 = 0 → s.blk.keeper.laneSums = (x, y, n) → n ≠ 0 → m1 = s.blk.atInput (roundDiv (x * stepPv) (2 ^ 20 * 1000 * n)) →
    m2 = s.blk.atInput (roundDiv (y * stepPv) (2 ^ 20 * 1000 * n)) → s.blk.measuring = true → s.blk.engineRuns 4 = true →
    s.blk.lanes.currentKept = 0 → s.blk.bit Ob.frontEndHealth 1 = false →
    4000 * (if s.blk.get Ob.currentRange = 2 then 50000 else 5000) + (m1 + m2).natAbs < (4000 * (m1 - m2)).natAbs →
    2 ≤ s.blk.lanes.currentDiverge → s.blk.lanes.currentPending = false → GivesBlock (.currentLaneCompare t (t + 1000)) s fun b =>
      (s.blk.shadowRotates = true → b.lanes.currentPending = true ∧ b.flint = s.blk.flint) ∧
      (s.blk.shadowRotates = false → b.bit Ob.frontEndHealth 1 = true ∧ b.hasReason .currentDegraded = true ∧
        b.flint.detections = s.blk.flint.detections ++ [⟨0x26, 0, 0, none⟩]))

/-- The keeper's current and its mains tracker (R152–R154, R173, R174, R183): a chop period demodulated from the lanes that E4 keeps joins the sums
of the windows it falls in by its share, and half a second of good ripple locks the tracker on half its frequency. -/
def Obligations.CurrentAndMains : Prop :=
  (∀ s t first second beyond w c v, c = (s.blk.at (t + 32)).dropGone →
    v = c.chopSample ⟨t, if s.blk.lanes.currentKept = 2 then [] else (c.corrected 32 t first).map (·.1),
      if s.blk.lanes.currentKept = 1 then [] else (c.corrected 33 t second).map (·.1), beyond⟩ →
    s.blk.measuring = true → s.blk.isKeeper = true → s.blk.engineRuns 4 = true → s.blk.lanes.currentKept ≤ 2 → t % 32 = 0 →
    first.length = 33 → second.length = 33 → s.blk.win.opened = some w → s.blk.win.closing = none →
    GivesBlock (.currentSample t (first, second) beyond) s fun b =>
      b.keeper.nextCharge = s.blk.keeper.nextCharge + v * overlap t 32 w.start w.stop ∧
      b.keeper.nextWeight = s.blk.keeper.nextWeight + overlap t 32 w.start w.stop ∧ b.keeper.charge = s.blk.keeper.charge ∧
      b.keeper.total = s.blk.keeper.total ∧ b.power = s.blk.power) ∧
  (∀ s t (amplitude f q : Nat), s.blk.measuring = true → s.blk.isKeeper = true → s.blk.engineRuns 4 = true → 90000 ≤ f → f ≤ 130000 →
    s.blk.win.threshold ≤ (amplitude : Int) → s.blk.get Ob.mainsTrackerState = 1 → s.blk.keeper.qualifiedSince = some q →
    500000 ≤ chainDiff (t % t48) q → GivesBlock (.mainsTrackerUpdate t amplitude f) s fun b =>
      b.get Ob.mainsTrackerState = 2 ∧ b.get Ob.mainsFrequency = (f / 2 : Nat) ∧ b.get Ob.mainsTrackerRippleAmplitude = amplitude) ∧
  (∀ s t amplitude f, s.blk.measuring = true → s.blk.isKeeper = true → s.blk.engineRuns 4 = true → (f < 90000 ∨ 130000 < f) →
    s.blk.get Ob.mainsTrackerState = 2 → GivesBlock (.mainsTrackerUpdate t amplitude f) s fun b =>
      b.get Ob.mainsTrackerState = 3 ∧ b.keeper.holdSince = some (t % t48))

/-- A slot of an aux lane (R155, R157, R198): 128 of its conversions averaged; a VOLTAGE pin shows its voltage held to 0–2.5 V, an input its level,
and the rail slot its rail, in the cycle of both lanes and in that of one alone. c is the package as the slot ends, out the averager's output. -/
def Obligations.AuxSlots : Prop :=
  (∀ s t lane codes level c out k, c = (s.blk.at (t + 192)).dropGone →
    out = averagerOut (sumOf (((c.corrected (34 + lane.val) t codes).drop 64).map (·.1))) 3 → s.blk.measuring = true →
    s.blk.engineRuns 4 = true → t % 192 = 0 → codes.length = 193 → k < 8 →
    s.blk.auxInput lane.val (t / 192 % s.blk.auxSlots) (t / 192 / s.blk.auxSlots) = some (.inl k) →
    GivesBlock (.auxSlot t lane (codes.take 64) (codes.drop 64) level) s fun b =>
      b.power = s.blk.power ∧
      (s.blk.get (Ob.auxFunction + k + 1) = 2 →
        b.get (Ob.auxValue + k + 1) = clampInt 0 2500000 (roundDiv (c.auxVolts out) 1000)) ∧
      (s.blk.get (Ob.auxFunction + k + 1) = 3 → b.get (Ob.auxValue + k + 1) = boolVal level)) ∧
  (∀ s t lane codes level c out r, c = (s.blk.at (t + 192)).dropGone →
    out = averagerOut (sumOf (((c.corrected (34 + lane.val) t codes).drop 64).map (·.1))) 3 → s.blk.measuring = true →
    s.blk.engineRuns 4 = true → t % 192 = 0 → codes.length = 193 →
    s.blk.auxInput lane.val (t / 192 % s.blk.auxSlots) (t / 192 / s.blk.auxSlots) = some (.inr r) →
    GivesBlock (.auxSlot t lane (codes.take 64) (codes.drop 64) level) s fun b =>
      b.aux = (c.railReading r (c.auxVolts out)).aux ∧ b.dict = c.dict ∧ b.flint = c.flint)

/-- Windows (R166–R178, R184): the open window closes at its boundary and the next starts where it ended, or, after a step of the timebase past it, is
the one of the schedule that holds the time, incomplete (the model's choice, log 30); one of FIXED that the wrap of chain time cuts is incomplete
(R166). A window with half its samples or more is published and a thinner one only marks the last STALE; the keeper's own publication forms its
record, with the charge of the window and the running total (R184), and a missing keeper record marks the open window. -/
def Obligations.WindowLife : Prop :=
  (∀ s t w, s.blk.measuring = true → s.blk.win.opened = some w → s.blk.win.closing = none → 0 ≤ diff64 (64 * (t % t48)) w.start →
    ((w.stop - w.start : Nat) : Int) ≤ diff64 (64 * (t % t48)) w.start → (s.blk.win.mode ≠ 1 ∨ w.stop ≠ wrap64) → s.blk.tbState = tbAligned →
    GivesBlock (.windowBoundary t) s fun b =>
      b.win.closing = some w ∧ b.win.changed = false ∧ b.keeper.charge = s.blk.keeper.nextCharge ∧
      (s.blk.nat Ob.windowMode = 1 → s.blk.win.keeperSchedule = false →
        ∃ n, b.win.opened = some n ∧ (n.start = w.stop % wrap64 ∨
          bitOf n.flags 0 = true ∧ n.start = b.win.boundary (b.win.indexAt (64 * (t % t48)))))) ∧
  (∀ s t w, s.blk.measuring = true → s.blk.win.opened = some w → s.blk.win.closing = none → 0 ≤ diff64 (64 * (t % t48)) w.start →
    ((w.stop - w.start : Nat) : Int) ≤ diff64 (64 * (t % t48)) w.start → s.blk.win.mode = 1 → w.stop = wrap64 → s.blk.tbState = tbAligned →
    GivesBlock (.windowBoundary t) s fun b => b.win.closing = some { w with flags := setBitTo w.flags 0 true }) ∧
  (∀ s t w, s.blk.measuring = true → s.blk.win.closing = some w → 500 ≤ s.blk.coverage w → s.blk.isKeeper = false →
    GivesBlock (.windowPublish t) s fun b =>
      b.win.closing = none ∧ b.win.published.seq = w.seq ∧ b.win.published.centre = t64Of128 (w.start + w.stop) ∧
      b.win.published.coverage = s.blk.coverage w) ∧
  (∀ s t w, s.blk.measuring = true → s.blk.win.closing = some w → s.blk.coverage w < 500 → s.blk.isKeeper = false →
    GivesBlock (.windowPublish t) s fun b => b.win.closing = none ∧ b.win.published = s.blk.win.published) ∧
  (∀ s t w (q : Int), s.blk.measuring = true → s.blk.win.closing = some w → 500 ≤ s.blk.coverage w → s.blk.isKeeper = true →
    q = s.blk.charge16 s.blk.keeper.charge s.blk.keeper.weight + s.blk.keeper.remainder → GivesBlock (.windowPublish t) s fun b =>
      b.win.closing = none ∧ b.win.published.seq = w.seq ∧ (b.keeper.remainder : Int) = q % 65536 ∧
      b.keeper.total = clampInt (-(2 ^ 63)) (2 ^ 63 - 1) (s.blk.keeper.total + q / 65536) ∧ b.keeper.charge = 0 ∧ b.keeper.weight = 0 ∧
      (s.blk.isHead = false → ∃ f rest, b.keeper.outgoing = s.blk.keeper.outgoing ++ f :: rest ∧ f.length = 112 ∧ f.take 1 = [1#8] ∧
        (f.drop 4).take 4 = bytesOf 4 w.seq ∧ (f.drop 8).take 8 = bytesOfInt 8 (q / 65536) ∧
        (f.drop 20).take 8 = bytesOfInt 8 b.keeper.total)) ∧
  (∀ s t w, s.blk.measuring = true → s.blk.win.held = false → s.blk.win.keeperSchedule = true → s.blk.win.opened = some w →
    GivesBlock (.keeperRecordMissing t) s fun b =>
      b.win.opened = some { w with flags := setBitTo w.flags 4 true } ∧ (∀ c ∈ b.imp.soc, c.rest = 0))

/-- Captures (R193–R197): a SNAP starts one at the stamped edge less the arrival delay plus 40 us, or in Standby publishes a STALE snapshot;
a capture takes its samples' values, and one with its values is published, whose place the pending capture takes. The SYNC pin at the head starts a
SNAP train. That CAPTURE_START serves the oldest capture without samples and CAPTURE_PUBLISH the oldest with them is the model's choice, log 59. -/
def Obligations.Captures : Prop :=
  (∀ s t stamp, s.blk.measuring = true → s.blk.cap.running = none → GivesBlock (.snap t stamp) s fun b =>
    b.cap.seq = (s.blk.cap.seq + 1) % 2 ^ 32 ∧ b.cap.pending = s.blk.cap.pending ∧
    ∃ r, b.cap.running = some r ∧ (r.instant : Int) = ((onGrid stamp : Int) + 40000000 - s.blk.tb.arrival) % wrapPs ∧ r.seq = b.cap.seq ∧
      r.values = none) ∧
  (∀ s t stamp, s.blk.power.mode = .standby → s.blk.awake = true → s.blk.cells ≤ 32 → GivesBlock (.snap t stamp) s fun b =>
    b.cap.seq = (s.blk.cap.seq + 1) % 2 ^ 32 ∧ b.get Ob.snapshotStatusSequence = b.cap.seq ∧
    b.bit Ob.snapshotStatusTags tagStale = true) ∧
  (∀ s t cells r, s.blk.measuring = true → s.blk.cap.running = some r → r.values = none → (∀ x ∈ s.blk.cap.done, x.values ≠ none) →
    GivesBlock (.captureStart t r.seq cells) s fun b =>
      b.cap.done = s.blk.cap.done ∧ ∃ q l, b.cap.running = some q ∧ q.values = some l ∧
        l.length = (if s.blk.noCells then 0 else s.blk.cells) ∧ q.instant = r.instant ∧ q.seq = r.seq) ∧
  (∀ s t cells r, s.blk.measuring = true → s.blk.cap.running = none → s.blk.cap.done = [r] → r.values = none →
    GivesBlock (.captureStart t r.seq cells) s fun b =>
      ∃ q l, b.cap.done = [q] ∧ q.values = some l ∧ l.length = (if s.blk.noCells then 0 else s.blk.cells) ∧ q.instant = r.instant ∧
        q.seq = r.seq) ∧
  (∀ s t r l, s.blk.cap.done = [] → s.blk.cap.running = some r → r.values = some l → s.blk.cells ≤ 32 →
    GivesBlock (.capturePublish t) s fun b =>
      b.cap.running = s.blk.cap.pending ∧ b.cap.pending = none ∧ b.get Ob.snapshotStatusSequence = r.seq ∧ b.link.snapWaits = true) ∧
  (∀ s t r rest l, s.blk.cap.done = r :: rest → r.values = some l → s.blk.cells ≤ 32 → GivesBlock (.capturePublish t) s fun b =>
    b.cap.done = rest ∧ b.cap.running = s.blk.cap.running ∧ b.get Ob.snapshotStatusSequence = r.seq ∧ b.link.snapWaits = true) ∧
  (∀ s t, s.blk.awake = true → s.blk.isHead = true → s.blk.link.round = none → (s.blk.at t).syncRoom (triggerTime 2) = true →
    GivesBlock (.instantTrigger t) s fun b => ∃ tr, b.link.trains = s.blk.link.trains ++ [tr] ∧ tr.cls = 2)

/-- A tick of the governor (R213–R216, R218, R222, R223, R225): a skipped tick leaves the metered charge in the accumulators and counts as an overrun,
and a timely one moves the applied throttle toward its input by at most the slew limit; with the engine stopped, or in Standby, only the meters run.
The charge law of a timely tick: the accumulated charge joins Q_meas and BalanceRemoved, Q_ref of an open channel that is not frozen ramps up to its
target (by rampStep, rounded down: the model's choice, log 63), and the state follows; a switch that conducts for balancing afterwards is wanted, and
one that is wanted and does not conduct has lost to a neighbour of larger error, or to the power budget. What runs beside the tick (R206, R209, R211,
R221, R226–R229):
learning starts new sums, a confirmation judges and releases, a stale channel goes off, a refused interlock is counted, a session's timer runs
out, and pulses of the throttle input come and go. -/
def Obligations.GovernorLaw : Prop :=
  ((∀ s t meter delays i, s.blk.measuring = true → s.blk.noCells = false → s.blk.engineRuns 5 = true → i < s.blk.cells →
    i < s.blk.gov.ch.length → GivesBlock (.governorTick t .skipped meter delays) s fun b =>
      (b.chan i).acc = (s.blk.chan i).acc + (meter[i]?).getD 0 ∧ (b.chan i).qmeas = (s.blk.chan i).qmeas ∧
      (b.chan i).removed = (s.blk.chan i).removed ∧ b.gov.overruns = s.blk.gov.overruns + 1 ∧ b.gov.theta = s.blk.gov.theta) ∧
  (∀ s t timing meter delays i, s.blk.measuring = true → s.blk.noCells = false → s.blk.engineRuns 5 = false → i < s.blk.cells →
    i < s.blk.gov.ch.length → GivesBlock (.governorTick t timing meter delays) s fun b =>
      (b.chan i).acc = (s.blk.chan i).acc + (meter[i]?).getD 0 ∧ (b.chan i).qmeas = (s.blk.chan i).qmeas ∧
      b.gov.overruns = s.blk.gov.overruns) ∧
  (∀ s t timing meter delays i, s.blk.power.mode = .standby → s.blk.awake = true → s.blk.noCells = false → i < s.blk.cells →
    i < s.blk.gov.ch.length → GivesBlock (.governorTick t timing meter delays) s fun b =>
      (b.chan i).acc = (s.blk.chan i).acc + (meter[i]?).getD 0 ∧ (b.chan i).qmeas = (s.blk.chan i).qmeas ∧ b.dict = s.blk.dict) ∧
  (∀ s t meter delays, s.blk.measuring = true → s.blk.noCells = false → s.blk.engineRuns 5 = true →
    GivesBlock (.governorTick t .onTime meter delays) s fun b =>
      b.gov.theta = (if s.blk.gov.theta < (s.blk.at t).throttleInput
        then min (s.blk.at t).throttleInput (s.blk.gov.theta + slewStep31 (s.blk.nat Ob.throttleSlew))
        else max (s.blk.at t).throttleInput (s.blk.gov.theta - slewStep31 (s.blk.nat Ob.throttleSlew))) ∧
      b.gov.thetaIn = (s.blk.at t).throttleInput ∧ b.gov.overruns = 0) ∧
  (∀ s t meter delays (i : Nat) (q : Int), s.blk.measuring = true → s.blk.noCells = false → s.blk.engineRuns 5 = true → s.blk.cells ≤ 32 → i < s.blk.cells →
    i < s.blk.gov.ch.length → q = (s.blk.chan i).acc + ((meter[i]?).getD 0 : Nat) → GivesBlock (.governorTick t .onTime meter delays) s fun b =>
      (b.chan i).acc = 0 ∧
      (b.chan i).qmeas = (if q = 0 then (s.blk.chan i).qmeas else clampInt (-sat48) (sat48 - 100) ((s.blk.chan i).qmeas + q)) ∧
      (b.chan i).removed = (if q = 0 then (s.blk.chan i).removed else clampInt (-sat48) (sat48 - 100) ((s.blk.chan i).removed + q)) ∧
      (q ≠ 0 → b.get (chKey Ob.balanceRemoved i) = (b.chan i).removed / 100) ∧
      (b.chan i).qref = (if (s.blk.chan i).openSession = true ∧ s.blk.frozen i = false
        then min (s.blk.targetUc i * 65536) (clampInt (-(2 ^ 47) * 65536) ((2 ^ 47 - 1) * 65536)
          ((s.blk.chan i).qref + rampStep (s.blk.nat (chKey Ob.balanceRate i)) b.gov.theta))
        else (s.blk.chan i).qref) ∧
      (b.chan i).state = (if (s.blk.chan i).openSession = false then (s.blk.chan i).state
        else if s.blk.frozen i = false ∧ (b.chan i).qref = s.blk.targetUc i * 65536 ∨ (s.blk.chan i).state = 2
          then (if (b.chan i).error ≤ 0 then 3 else 2) else 1)) ∧
  (∀ s t meter delays i, s.blk.measuring = true → s.blk.noCells = false → s.blk.engineRuns 5 = true → s.blk.cells ≤ 32 → i < s.blk.cells →
    s.blk.gov.ch.length = 32 → (s.blk.chan s.blk.cells).on = false → 0 < s.blk.get Ob.band → GivesBlock (.governorTick t .onTime meter delays) s fun b =>
      ((b.chan i).on = true → (b.chan i).owner = .balancing →
        (b.chan i).openSession = true ∧ s.blk.frozen i = false ∧ b.bit (chKey Ob.channelState i) 9 = false ∧ b.heldNear i = false ∧
        b.gov.quietWindow = false ∧ b.gov.quietCapture = false ∧
        ((b.chan i).state = 2 → 0 < (b.chan i).error32) ∧
        ((b.chan i).state = 1 → -(s.blk.get Ob.band * errorUc) < (b.chan i).error32 ∧
          ((s.blk.chan i).on = false → s.blk.get Ob.band * errorUc ≤ (b.chan i).error32))) ∧
      ((b.chan i).on = false → (b.chan i).openSession = true → s.blk.frozen i = false → b.bit (chKey Ob.channelState i) 9 = false →
        b.heldNear i = false → b.gov.quietWindow = false → b.gov.quietCapture = false →
        (if (b.chan i).state = 2 then 0 < (b.chan i).error32 else s.blk.get Ob.band * errorUc ≤ (b.chan i).error32) →
        b.bit (chKey Ob.channelState i) 10 = true ∨
          ((b.chan (i + 1)).on = true ∨ b.bit (chKey Ob.channelState (i + 1)) 10 = true) ∧
            (b.chan i).error32 < (b.chan (i + 1)).error32 ∨
          1 ≤ i ∧ ((b.chan (i - 1)).on = true ∨ b.bit (chKey Ob.channelState (i - 1)) 10 = true) ∧
            (b.chan i).error32 ≤ (b.chan (i - 1)).error32) ∧
      ((∀ c ∈ b.gov.ch, c.owner = .balancing) → b.gov.power ≤ s.blk.effectiveBudget))) ∧
  ((∀ s i, s.blk.measuring = true → s.blk.noCells = false → s.blk.engineRuns 5 = true → i < s.blk.cells → GivesBlock .pathLearn s fun b =>
    (b.chan i).settled = 0 ∧ b.power = s.blk.power) ∧
  (∀ s ch u meter q, s.blk.measuring = true → s.blk.noCells = false → s.blk.engineRuns 5 = true → s.blk.safeHold = 0 →
    s.blk.slotBusy = false → s.blk.shadowRotates = true → (s.blk.chan ch.val).suspicion = some q →
    s.blk.confirmResult ch.val (q != .strayCurrent) meter
      (if s.blk.nat Ob.bleedResistor = 0 then 0 else (roundDiv (u * 10) (s.blk.nat Ob.bleedResistor)).toNat) = none →
    GivesBlock (.bleedConfirmation ch u meter) s fun b =>
      (b.chan ch.val).on = false ∧ (b.chan ch.val).suspicion = none ∧ b.flint = s.blk.flint) ∧
  (∀ s ch u meter q, s.blk.measuring = true → s.blk.noCells = false → s.blk.engineRuns 5 = true → s.blk.safeHold = 0 →
    s.blk.slotBusy = false → s.blk.shadowRotates = true → ch.val < s.blk.cells → (s.blk.chan ch.val).suspicion = some q →
    s.blk.confirmResult ch.val (q != .strayCurrent) meter
      (if s.blk.nat Ob.bleedResistor = 0 then 0 else (roundDiv (u * 10) (s.blk.nat Ob.bleedResistor)).toNat) = some 0x41 →
    GivesBlock (.bleedConfirmation ch u meter) s fun b =>
      (b.chan ch.val).disabled = true ∧ (b.chan ch.val).on = false ∧ b.hasReason .balanceChannel = true ∧
      b.flint.detections = s.blk.flint.detections ++ [⟨0x41, ch.val + 1, 0, none⟩]) ∧
  (∀ s ch, (s.blk.chan ch.val).on = true → GivesBlock (.freshnessTimeout ch) s fun b =>
    (b.chan ch.val).on = false ∧ (b.chan ch.val).owner = (s.blk.chan ch.val).owner ∧ b.bit Ob.governorFlags 2 = true ∧
    b.flint.detections = s.blk.flint.detections ++ [⟨0x46, ch.val + 1, 0, none⟩]) ∧
  (∀ s ch, GivesBlock (.interlockRefusal ch) s fun b =>
    (b.chan ch.val).on = false ∧ (b.chan ch.val).owner = (s.blk.chan ch.val).owner ∧ b.nat Ob.interlockRefusals = min (s.blk.nat Ob.interlockRefusals + 1) (2 ^ 32 - 1) ∧
    b.bit Ob.governorFlags 5 = true) ∧
  (∀ s ch, s.blk.awake = true → (s.blk.chan ch.val).openSession = true → 1 < s.blk.nat (chKey Ob.sessionTimer ch.val) →
    GivesBlock (.sessionTimerSecond ch) s fun b =>
      b.get (chKey Ob.sessionTimer ch.val) = (s.blk.nat (chKey Ob.sessionTimer ch.val) - 1 : Nat) ∧
      (b.chan ch.val).state = (s.blk.chan ch.val).state) ∧
  (∀ s ch, s.blk.awake = true → (s.blk.chan ch.val).openSession = true → s.blk.nat (chKey Ob.sessionTimer ch.val) = 1 →
    GivesBlock (.sessionTimerSecond ch) s fun b =>
      b.get (chKey Ob.sessionTimer ch.val) = 0 ∧ (b.chan ch.val).state = 4) ∧
  (∀ s t period high, s.blk.pulseThrottle = true → 5000 ≤ period → period ≤ 1000000 → s.blk.get Ob.throttleSourceState = 1 →
    GivesBlock (.thrPulseEdge t period high) s fun b =>
      b.get Ob.throttleSourceState = 2 ∧ b.gov.validRun = s.blk.gov.validRun + 1 ∧ b.gov.invalidRun = 0 ∧
      (t % t48, period, high) ∈ b.gov.pulses) ∧
  (∀ s t period high, s.blk.pulseThrottle = true → (period < 5000 ∨ 1000000 < period) → 2 ≤ s.blk.gov.invalidRun →
    GivesBlock (.thrPulseEdge t period high) s fun b =>
      b.get Ob.throttleSourceState = 1 ∧ b.hasReason .throttleInput = true ∧ b.gov.theta = s.blk.gov.theta) ∧
  (∀ s, s.blk.pulseThrottle = true → GivesBlock .throttleInputLost s fun b =>
    b.get Ob.throttleSourceState = 1 ∧ b.bit Ob.governorFlags 4 = true ∧ b.hasReason .throttleInput = true))

/-- Analysis intervals (R241, R243–R245, R251, R253, R254): an interval that ended and counts waits with its phasors behind those that wait already,
one that does not makes the earlier results STALE; it is published at once or with the keeper's record of it, where the entry is the chain set's,
and is dropped when that record does not come. -/
def Obligations.AnalysisIntervals : Prop :=
  (∀ s entry t code x q, s.blk.e6Works = true → s.blk.noCells = false → s.blk.instantMode = false →
    (s.blk.ownEntries[entry.val]?).getD (0, 0) = (code, 1) → code ≠ 0 → entry.val < s.blk.imp.entries.length →
    (s.blk.impEntry entry.val).sequence.ended code (64 * (t % t48))
      (fun f => s.blk.ambientPeriods f (s.blk.nat Ob.impedanceConfigIntegrationTime)) = (some x, q) →
    GivesBlock (.analysisIntervalEnd entry t) s fun b =>
      (b.impEntry entry.val).sequence = q ∧
      (s.blk.ambientCounts entry.val x.2.2.2.1 x.2.2.2.2 = true →
        ∃ iv, (b.impEntry entry.val).waiting = (s.blk.impEntry entry.val).waiting ++ [iv] ∧ iv.number = x.1 ∧ iv.frequency = x.2.1 ∧
          iv.start = x.2.2.2.1 ∧ iv.stop = x.2.2.2.2 ∧ iv.excited = none ∧ iv.cells.length = s.blk.cells) ∧
      (s.blk.ambientCounts entry.val x.2.2.2.1 x.2.2.2.2 = false →
        (b.impEntry entry.val).waiting = (s.blk.impEntry entry.val).waiting ∧
        ∀ c ∈ (b.impEntry entry.val).cells, bitOf c.flags 7 = true)) ∧
  (∀ s entry iv l, s.blk.e6Works = true → (s.blk.impEntry entry.val).ready = some iv → iv.excited = some l →
    GivesBlock (.impedancePublish entry) s fun b =>
      (b.impEntry entry.val).waiting = (s.blk.impEntry entry.val).waiting.erase iv ∧ (b.impEntry entry.val).number = iv.number ∧
      (b.impEntry entry.val).frequency = iv.frequency ∧ (b.impEntry entry.val).stop = iv.stop ∧
      (b.impEntry entry.val).cells.length = s.blk.cells) ∧
  (∀ s entry iv p, s.blk.e6Works = true → s.blk.instantMode = false → (s.blk.impEntry entry.val).ready = some iv → iv.excited = none →
    (s.blk.ownEntries[entry.val]?).getD (0, 0) = (s.blk.chainSet[entry.val]?).getD (0, 0) →
    (s.blk.impEntry entry.val).itemFor iv = some p → GivesBlock (.impedancePublish entry) s fun b =>
      (b.impEntry entry.val).waiting = (s.blk.impEntry entry.val).waiting.erase iv ∧ p ∉ (b.impEntry entry.val).items ∧
      (b.impEntry entry.val).paired = some p ∧ (b.impEntry entry.val).number = iv.number ∧ (b.impEntry entry.val).noReference = false) ∧
  (∀ s entry iv, s.blk.e6Works = true → (s.blk.impEntry entry.val).ready = some iv → iv.excited = none →
    (s.blk.ownEntries[entry.val]?).getD (0, 0) ≠ (s.blk.chainSet[entry.val]?).getD (0, 0) →
    GivesBlock (.impedancePublish entry) s fun b => b = s.blk) ∧
  (∀ s entry iv, s.blk.e6Works = true → ((s.blk.impEntry entry.val).waiting.find? fun iv => iv.excited.isNone &&
    ((s.blk.impEntry entry.val).itemFor iv).isNone) = some iv → GivesBlock (.ambientPairingTimeout entry) s fun b =>
      (b.impEntry entry.val).waiting = (s.blk.impEntry entry.val).waiting.erase iv ∧ (b.impEntry entry.val).noReference = true ∧
      (∀ c ∈ (b.impEntry entry.val).cells, bitOf c.flags 7 = true) ∧
      (s.blk.curveEntry ≠ some entry.val → b.dict = s.blk.dict))

/-- ACTIVE excitation and AutoBalance (R188, R206, R238, R248, R249, R265): a sequence starts with its entries, an edge sets the switches it excites
but where excitation is stopped, or a QUIET pause or a neighbour's conduction holds them off, a discard releases them, and a period writes the
targets of managed channels. What the head reads of its chain (R241, R264, R331): ANALYSIS_SET_READ gives the chain's entries, with their integration
time and step current, and MEDIAN_RS_READ the median of the values read that are not 0. The model's choices: log 36, that the median of an even
number is the mean of the two middle ones; log 45, that it goes with the head's own WindowSequence. -/
def Obligations.ExcitationAndAutoBalance : Prop :=
  (∀ s t, s.blk.e6Works = true → s.blk.noCells = false → s.blk.activeStopped = false → s.blk.imp.active = none →
    (s.blk.at t).activeTodo ≠ [] → t % t48 % (s.blk.nat Ob.impedanceConfigActivePeriod * 1000000) = 0 →
    GivesBlock (.activeSequenceStart t) s fun b =>
      ∃ a, b.imp.active = some a ∧ a.todo = (s.blk.at t).activeTodo ∧ a.settleAt = 64 * (t % t48)) ∧
  (∀ s t a i half ideal, s.blk.imp.active = some a → a.lost = [] → i ∈ a.excited → i < s.blk.gov.ch.length → a.frequency ≠ 0 →
    half = (4 * (diff64 (64 * (t % t48) + 32) a.settleAt).toNat * a.frequency + 64 * 10 ^ 9) / (2 * 64 * 10 ^ 9) →
    ideal = (25 * a.frequency * a.settleAt + 8 * 10 ^ 11 * half + 2 * a.frequency) / (4 * a.frequency) →
    GivesBlock (.excitationEdge t) s fun b =>
      (b.chan i).owner = .excitation ∧
      (half % 2 = 1 ∨ a.stop * 400 ≤ ideal * 64 ∨ s.blk.gov.quietWindow = true ∨ (s.blk.at t).quietPause (t % t48) = true ∨ s.blk.activeStopped = true →
        (b.chan i).on = false) ∧
      (half % 2 = 0 → ideal * 64 < a.stop * 400 → s.blk.activeStopped = false → s.blk.gov.quietWindow = false →
        (s.blk.at t).quietPause (t % t48) = false → s.blk.interlocked i = false →
        (∀ j ∈ a.excited, j + 1 ≠ i ∧ j ≠ i + 1) → (b.chan i).on = true)) ∧
  (∀ s a, s.blk.activeStopped = true → s.blk.imp.active = some a → GivesBlock .activeIntervalDiscard s fun b =>
    b.imp.active = none ∧ ∀ c ∈ b.gov.ch, c.owner ≠ .excitation) ∧
  (∀ s t i mC, s.blk.autoState = 1 → s.blk.e6Works = true → s.blk.noCells = false → s.blk.capacity ≠ 0 → s.blk.cells ≤ 32 →
    t % t48 % (s.blk.nat Ob.autoBalancePeriod * 1000000) = 0 → i < s.blk.cells → s.blk.managed i = true →
    s.blk.get (chKey Ob.socUncertainty i) ≤ s.blk.get Ob.autoBalanceMaxUncertainty → s.blk.autoTarget i = some mC →
    GivesBlock (.autobalancePeriod t) s fun b => b.get (chKey Ob.balanceTarget i) = mC) ∧
  (∀ s p frequencies sources time step, s.blk.awake = true → s.blk.isHead = true → p ≠ 0 →
    GivesBlock (.analysisSetRead p frequencies sources time step) s fun b =>
      b.imp.chainTime = time ∧ b.imp.chainStep = step ∧ b.chainSet.length = 4 ∧ b.power = s.blk.power) ∧
  (∀ s values, s.blk.awake = true → s.blk.isHead = true → GivesBlock (.medianRsRead values) s fun b =>
    b.link.medianSeq = s.blk.nat Ob.windowSequence ∧ b.dict = s.blk.dict ∧ b.link.medianRs =
      (if ((values.map fun x => x.2.filter fun v => v != 0).flatten).isEmpty then noValue
       else medianOf (((values.map fun x => x.2.filter fun v => v != 0).flatten).map fun v : Nat => (v : Int))))

/-- Registration (R381, R382, R391): a source that is not live registers in the next cycle, and where its class is NOTE or above it latches; the
first to latch is the first fault. -/
def Obligations.FaultRegistration : Prop :=
  (∀ s d, s.blk.awake = true → s.blk.flint.detections = [d] → d.source < 256 → d.source ∉ eventSources → s.blk.live d.source = false →
    GivesBlock .faultRegistration s fun b => b.live d.source = true ∧ b.flint.detections = []) ∧
  (∀ s d, s.blk.awake = true → s.blk.flint.detections = [d] → d.source < 256 → d.source ∉ eventSources → s.blk.live d.source = false →
    1 ≤ s.blk.baseClass d → s.blk.anyLatched = false → s.blk.flint.regs = [] → GivesBlock .faultRegistration s fun b =>
      b.latched d.source = true ∧ b.get Ob.firstFaultSource = d.source ∧ b.get Ob.firstFaultTime = s.blk.now ∧
      b.get Ob.firstFaultBaseClass = s.blk.baseClass d ∧ (3 ≤ s.blk.baseClass d → s.blk.safeHold < s.blk.baseClass d →
        b.safeHold = s.blk.baseClass d ∧ b.flint.fltLow = true ∧ b.get Ob.balanceEnable = 0 ∧ ∀ c ∈ b.gov.ch, c.on = false))

/-- The capture FIFO and leaving safe state (R389, R393, R429): the oldest entry goes to the journal, as an entry or counted in one, and a node
without a cause left leaves SAFE and releases FLT_N. -/
def Obligations.FifoAndSafeExit : Prop :=
  (∀ s t e rest, s.blk.awake = true → s.blk.engineRuns 7 = true → s.blk.flint.fifo = e :: rest → s.blk.flint.overflow = [] →
    (s.blk.coalesce e).2 = false → GivesBlock (.captureFifoDrain t) s fun b =>
      b.flint.fifo = rest ∧ b.journal.next = (s.blk.journal.next + 1) % 2 ^ 32 ∧
      (b.journal.entries.getLast?).map (·.number) = some s.blk.journal.next) ∧
  (∀ s t e rest, s.blk.awake = true → s.blk.engineRuns 7 = true → s.blk.flint.fifo = e :: rest → s.blk.flint.overflow = [] →
    (s.blk.coalesce e).2 = true → GivesBlock (.captureFifoDrain t) s fun b =>
      b.flint.fifo = rest ∧ b.journal.next = s.blk.journal.next ∧ b.journal.entries.length = s.blk.journal.entries.length) ∧
  (∀ s t, s.blk.awake = true → s.blk.isHead = false → s.blk.safeHold = 3 → s.blk.flint.detections = [] → s.blk.classStands 3 = false →
    GivesBlock (.safeStateExit t) s fun b => b.safeHold = 0 ∧ b.flint.fltLow = false)

/-- Engines (R68, R402, R403): an expiry halts the engine and registers 0xA3, a restart sets it to work again, a self-test keeps its result, and the
measured loads are shown. Memories, the configuration signature and FLT_N's own line (R404–R406): errors register with their memory and address,
a changed object registers its index, and a line that does not fall while driven low registers 0xA6. -/
def Obligations.EnginesAndMemories : Prop :=
  ((∀ s engine t, s.blk.awake = true → s.blk.engineRuns engine.val = true → s.blk.diag.expired[engine.val]? = some none →
    GivesBlock (.engineWatchdogExpiry engine t) s fun b =>
      b.diag.halted = s.blk.diag.halted ++ [engine.val] ∧ b.engineRuns engine.val = false ∧ b.diag.stopped = s.blk.diag.stopped ∧
      b.flint.detections = s.blk.flint.detections ++ [⟨0xA3, engine.val, 0, none⟩]) ∧
  (∀ s engine t last, s.blk.awake = true → s.blk.engineRuns engine.val = true → s.blk.diag.expired[engine.val]? = some (some last) →
    chainDiff (t % t48) last ≤ 60000000 → engine.val ≠ 7 → GivesBlock (.engineWatchdogExpiry engine t) s fun b =>
      engine.val ∈ b.diag.stopped ∧ b.hasReason .engineStopped = true ∧
      b.flint.detections = s.blk.flint.detections ++ [⟨0xA3, engine.val + 512, 0, none⟩]) ∧
  (∀ s engine ok, s.blk.awake = true → engine.val ∈ s.blk.diag.halted → engine.val ∉ s.blk.diag.stopped →
    GivesBlock (.engineRestart engine ok) s fun b => b.engineRuns engine.val = true) ∧
  (∀ s engine, s.blk.awake = true → (engine.val = 5 ∨ engine.val = 7) → s.blk.engineRuns engine.val = true →
    GivesBlock (.engineSelfTest engine false) s fun b =>
      engine.val ∈ b.diag.failed ∧ b.flint.detections = s.blk.flint.detections ++ [⟨0xA3, engine.val + 256, 0, none⟩]) ∧
  (∀ s engine, s.blk.awake = true → (engine.val = 5 ∨ engine.val = 7) → s.blk.engineRuns engine.val = true →
    GivesBlock (.engineSelfTest engine true) s fun b =>
      engine.val ∉ b.diag.failed ∧ b.flint.detections = s.blk.flint.detections) ∧
  (∀ s percent k, s.blk.awake = true → k < 8 → GivesBlock (.engineLoadMeasurement percent) s fun b =>
    b.get (Ob.engineLoadMeasured + k + 1) = (min 255 ((percent[k]?).getD 0) : Nat) ∧ b.flint = s.blk.flint)) ∧
  ((∀ s memory address double, s.blk.awake = true → memory ≤ 12 → GivesBlock (.memoryError memory address double) s fun b =>
    b = s.blk.raise (if double then 0xA1 else 0xA0) (memory + 256 * (address % 2 ^ 24))) ∧
  (∀ s errors, s.blk.awake = true → (∀ e ∈ errors, e.1 ≤ 12) → GivesBlock (.memoryScrub errors) s fun b =>
    b.flint.detections = s.blk.flint.detections ++ errors.map fun e =>
      ⟨if e.2.2 then 0xA1 else 0xA0, e.1 + 256 * (e.2.1 % 2 ^ 24), 0, none⟩) ∧
  (∀ s k v, s.blk.awake = true → s.blk.engineRuns 7 = true → s.blk.nvm.corrupted = [] → s.blk.signed (k / 256) = true → s.blk.get k ≠ v →
    GivesBlock (.configSignatureCheck (some (k, v))) s fun b =>
      b.get k = v ∧ b.nvm.corrupted = [k / 256] ∧ b.flint.detections = s.blk.flint.detections ++ [⟨0xA5, k / 256, 0, none⟩]) ∧
  (∀ s, s.blk.awake = true → s.blk.nvm.corrupted = [] → GivesBlock (.configSignatureCheck none) s fun b => b = s.blk) ∧
  (∀ s us, s.blk.awake = true → s.blk.flint.fltLow = true → 5 ≤ us → GivesBlock (.fltReadback true us) s fun b =>
    b.hasReason .fltN = true ∧ b.flint.detections = s.blk.flint.detections ++ [⟨0xA6, 1, 0, none⟩]) ∧
  (∀ s us, s.blk.awake = true → s.blk.flint.fltLow = false → 100 < us → GivesBlock (.fltReadback false us) s fun b =>
    b = s.blk.putBit Ob.faultFlags 1 true))

/-- The open-wire test (R398–R400): a slot takes its three switches, one that may not start at its instant waits behind those that wait, a failed
one waits for its repeat, and a repeat that fails again registers 0x20 with the tap. How slots that wait are kept and when a repeat that had to wait
starts are the model's choices, log 32. -/
def Obligations.OpenWire : Prop :=
  (∀ s t index phaseA phaseB, s.blk.openWireRuns = true → (s.blk.at t).slotMayStart index = true → s.blk.cells ≠ 0 →
    s.blk.cells ≤ 32 → s.blk.phaseFinding (index % s.blk.cells) false phaseA = none →
    s.blk.phaseFinding (index % s.blk.cells) true phaseB = none → GivesBlock (.openWireSlot t index phaseA phaseB) s fun b =>
      b.lanes.slot = some ⟨index % s.blk.cells, t % t48, s.blk.phaseBRuns (index % s.blk.cells) && !phaseB.isEmpty, 1900⟩ ∧
      b.lanes.failedSlots = s.blk.lanes.failedSlots ∧ b.flint.detections = s.blk.flint.detections ∧ (b.chan (index % s.blk.cells)).on = false) ∧
  (∀ s t index phaseA phaseB tap, s.blk.openWireRuns = true → (s.blk.at t).slotMayStart index = true → s.blk.cells ≠ 0 →
    s.blk.phaseFinding (index % s.blk.cells) false phaseA = some tap →
    GivesBlock (.openWireSlot t index phaseA phaseB) s fun b =>
      b.lanes.failedSlots = s.blk.lanes.failedSlots ++ [⟨index % s.blk.cells, t % t48⟩] ∧ b.flint = s.blk.flint) ∧
  (∀ s t index phaseA phaseB, s.blk.openWireRuns = true → s.blk.cells ≠ 0 → (s.blk.at t).slotMayStart index = false →
    (s.blk.at t).slotDue index = true → GivesBlock (.openWireSlot t index phaseA phaseB) s fun b =>
      b.lanes.waitingSlots = s.blk.lanes.waitingSlots ++ [index] ∧ b.lanes.failedSlots = s.blk.lanes.failedSlots ∧ b.flint = s.blk.flint) ∧
  (∀ s phaseA phaseB f rest tap, s.blk.openWireRuns = true → s.blk.lanes.failedSlots = f :: rest →
    (s.blk.at (s.blk.repeatAt f)).slotFree = true → s.blk.lanes.tapOpen = none →
    s.blk.phaseFinding f.ch false phaseA = some tap → GivesBlock (.openWireRepeat phaseA phaseB) s fun b =>
      b.lanes.failedSlots = rest ∧ b.lanes.tapOpen = some (tap, false) ∧
      b.flint.detections = s.blk.flint.detections ++ [⟨0x20, tap, 0, none⟩])

/-- Storage (R423, R434, R440, R443, R346): the sectors of a program are erased, a page is programmed at its place and leaves every other byte,
a verified record or summary ends the program, and an operating hour is counted. -/
def Obligations.StorageCommands : Prop :=
  (∀ s p, s.blk.awake = true → s.blk.nvm.program = some p → p.erased = false → s.blk.pageAllowed p = true → Flash.wf s.flash = true →
    Gives .sectorEraseComplete s fun t =>
      (∃ q, t.blk.nvm.program = some q ∧ q.erased = true ∧ q.page = p.page ∧ q.image = p.image) ∧
      (∀ a, p.base ≤ a → a < p.base + (if p.kind = .summary then summaryBankSize else dictBankSize) → Flash.read a t.flash = erasedByte) ∧
      (∀ a, (a < p.base ∨ p.base + (if p.kind = .summary then summaryBankSize else dictBankSize) ≤ a) →
        Flash.read a t.flash = Flash.read a s.flash) ∧ t.pending = s.pending) ∧
  (∀ s p, s.blk.awake = true → s.blk.nvm.program = some p → p.erased = true → p.page + 1 = p.pages → Flash.wf s.flash = true →
    Gives .nvmPageProgram s fun t =>
      (∃ q, t.blk.nvm.program = some q ∧ q.page = p.page + 1) ∧
      (∀ a, (a < p.base + p.page * pageSize ∨ p.base + p.page * pageSize + pageSize ≤ a) →
        Flash.read a t.flash = Flash.read a s.flash) ∧
      (∀ i v, ((p.image.drop (p.page * pageSize)).take pageSize)[i]? = some v → p.base + p.page * pageSize + i < flashSize →
        Flash.read (p.base + p.page * pageSize + i) t.flash = v)) ∧
  (∀ s p r, s.blk.awake = true → s.blk.nvm.program = some p → p.kind ≠ .summary → p.erased = true → p.pages ≤ p.page → p.thenShip = false →
    s.blk.get Ob.powerStatePending = 0 → r.passes = true → GivesBlock (.saveComplete r) s fun b =>
      b.nvm.program = none ∧ b.nvm.dictBank = some (p.base == dictBase true) ∧ b.get Ob.nvmStatusState = 0 ∧
      b.get Ob.nvmStatusResult = 1 ∧ b.nvm.saveFailed = false) ∧
  (∀ s p r, s.blk.awake = true → s.blk.nvm.program = some p → p.kind = .summary → p.erased = true → p.pages ≤ p.page → p.thenShip = false →
    s.blk.get Ob.powerStatePending = 0 → r.passes = true → GivesBlock (.summaryWriteComplete r) s fun b =>
      b.nvm.program = none ∧ b.nvm.summaryBank = some (p.base == summaryBase true) ∧ b.nvm.summarySeq = s.blk.nvm.summarySeq + 1 ∧
      b.get Ob.nvmStatusResult = 1) ∧
  (∀ s, s.blk.measuring = true → GivesBlock .operatingHour s fun b => b = s.blk.count32 Ob.lifetimeOperatingHours)

/-- Pulses that ask for a stream response (R320, R323, R325–R327): a node with a position queues one of the class, in the place of one that
still waits. -/
def Obligations.PulseResponses : Prop :=
  (∀ s t, s.blk.awake = true → s.blk.isHead = false → s.blk.positioned = true → s.blk.voltsMustWait = false → GivesBlock (.volts t) s fun b =>
    b.link.own = (s.blk.link.own.filter fun o => o.cls != 1) ++ [⟨1, 0, s.blk.voltsPayload.2, s.blk.voltsPayload.1⟩]) ∧
  (∀ s t, s.blk.awake = true → s.blk.isHead = false → s.blk.positioned = true → s.blk.voltsMustWait = true → GivesBlock (.volts t) s fun b =>
    b.link.voltsWaits = true ∧ b.link.own = s.blk.link.own) ∧
  (∀ s t, s.blk.awake = true → s.blk.isHead = false → s.blk.positioned = true → GivesBlock (.temps t) s fun b =>
    b.link.own = (s.blk.link.own.filter fun o => o.cls != 3) ++ [⟨3, 0, false, s.blk.tempsPayload.1⟩]) ∧
  (∀ s t, s.blk.awake = true → s.blk.isHead = false → s.blk.positioned = true → GivesBlock (.imped t) s fun b =>
    b.link.own = (s.blk.link.own.filter fun o => o.cls != 4) ++ [⟨4, 0, s.blk.impedPayload.2, s.blk.impedPayload.1⟩]) ∧
  (∀ s t, s.blk.awake = true → s.blk.isHead = false → s.blk.positioned = true → GivesBlock (.status t) s fun b =>
    b.link.own = (s.blk.link.own.filter fun o => o.cls != 5) ++ [⟨5, 0, false, s.blk.statusPayload.1⟩]) ∧
  (∀ s, s.blk.awake = true → s.blk.isHead = false → s.blk.positioned = true → s.blk.link.snapWaits = true →
    GivesBlock (.streamResponseForm .snap) s fun b =>
      b.link.snapWaits = false ∧
      b.link.own = (s.blk.link.own.filter fun o => o.cls != 2) ++ [⟨2, 0, s.blk.snapPayload.2, s.blk.snapPayload.1⟩])

/-- Held states and tones on the line (R94, R280–R284, R286): a node repeats a held state of the upper direction on its other port as its class, a
pulse error of the lower one at its length, an ALARM on its head side and a tone on its other port; a head hears an ALARM. States of the ports
(R291–R295, R387): detection leads to TRAINING, training to UP with a change of the generation, a failure back to DOWN, and a fall for a fault raises
0x61. The model's choices: log 37, that held states below 6 UI, a length that R279 does not have, are repeated and counted as pulse errors (R290);
log 49, that an ALARM which could not be sent is sent when the head-side port trains. -/
def Obligations.LinesAndPorts : Prop :=
  ((∀ s p ui, s.blk.awake = true → s.blk.isHead = false → s.blk.link.headSide = p → s.blk.transmits p = true → s.blk.transmits p.other = true →
    6 ≤ ui → ui ≤ 362 → GivesBlock (.pulseRepeat p ui) s fun b =>
      b.out = s.blk.out ++ [.pulse p.other (upperClass ui), .idle p.other] ∧ b.dict = s.blk.dict) ∧
  (∀ s p ui, s.blk.awake = true → s.blk.isHead = false → s.blk.link.headSide = p → s.blk.transmits p = true → s.blk.transmits p.other = true →
    (0 < ui ∧ ui < 6 ∨ 362 < ui) → GivesBlock (.pulseRepeat p ui) s fun b =>
      b.nat (pulseErrorsKey p) = min (s.blk.nat (pulseErrorsKey p) + 1) (2 ^ 32 - 1) ∧
      b.out = s.blk.out ++ [.held p.other 400, .idle p.other]) ∧
  (∀ s p ui, s.blk.awake = true → s.blk.isHead = false → s.blk.link.headSide = p → s.blk.transmits p = true → s.blk.transmits p.other = true →
    (0 < ui ∧ ui < 23 ∨ 27 < ui ∧ ui < 363) → s.blk.phys.alarmBusy = false → s.blk.sending p = none →
    GivesBlock (.pulseRepeat p.other ui) s fun b =>
      b.nat (pulseErrorsKey p.other) = min (s.blk.nat (pulseErrorsKey p.other) + 1) (2 ^ 32 - 1) ∧
      b.out = s.blk.out ++ [.held p ui, .idle p]) ∧
  (∀ s p t, s.blk.awake = true → s.blk.isHead = false → s.blk.link.headSide = p → s.blk.transmits p = true →
    s.blk.transmits p.other = true → s.blk.phys.alarmBusy = false → GivesBlock (.alarm p.other t) s fun b =>
      b.out = s.blk.out ++ [.pulse p .alarm, .idle p] ∧ b.phys.alarmBusy = true) ∧
  (∀ s p t, s.blk.awake = true → s.blk.isHead = true → s.blk.transmits p = true → GivesBlock (.alarm p t) s fun b =>
    b.flint.fltLow = true ∧ b.link.clear = false ∧ b.bit Ob.attention 0 = true) ∧
  (∀ s p t slept, s.blk.power.mode = .sleep → s.blk.power.stage = .idle → s.blk.isHead = false →
    s.blk.wakesFrom (toneSource p) = true → GivesBlock (.wakeTone p false t slept) s fun b =>
      b.out = s.blk.out ++ [.tone p.other 20] ∧ b.power.stage = .awaitVin5 ∧ b.power.cause = wakeCause (toneSource p))) ∧
  ((∀ s p, s.blk.awake = true → s.blk.get (stateKey p) = 2 → GivesBlock (.portSignalDetect p) s fun b => b = s.blk.put (stateKey p) 3) ∧
  (∀ s p t, s.blk.awake = true → s.blk.get (stateKey p) = 3 → GivesBlock (.portTrained p t) s fun b =>
    b.get (stateKey p) = 4 ∧ b.get Ob.generation = ((s.blk.nat Ob.generation + 1) % 256 : Nat) ∧
    b.get Ob.portStatusLastChange = (t % t48 : Nat) ∧
    (s.blk.isHead = false → s.blk.link.headSide = p → s.blk.flint.alarmWhenUp = true → s.blk.phys.alarmBusy = false →
      s.blk.sending p = none → b.out = s.blk.out ++ [.pulse p .alarm, .idle p] ∧ b.flint.alarmWhenUp = false)) ∧
  (∀ s p, s.blk.awake = true → s.blk.get (stateKey p) = 3 → GivesBlock (.trainingFail p) s fun b =>
    b = (s.blk.put (stateKey p) 2).put (causeKey p) 5) ∧
  (∀ s p cause t, s.blk.awake = true → s.blk.get (stateKey p) = 4 → cause ≠ .closed → GivesBlock (.portDown p cause t) s fun b =>
    b.get (stateKey p) = 2 ∧ b.get (causeKey p) = downCode cause ∧ b.nat (fallsKey p) = min (s.blk.nat (fallsKey p) + 1) (2 ^ 32 - 1) ∧
    b.flint.detections = s.blk.flint.detections ++ [⟨0x61, portNumber p + 256 * downCode cause, 0, none⟩]) ∧
  (∀ s p t, s.blk.awake = true → s.blk.get (stateKey p) = 4 → GivesBlock (.portDown p .closed t) s fun b =>
    b.get (stateKey p) = 2 ∧ b.flint = s.blk.flint))

/-- Frames at a node (R56, R298, R299, R305, R348): a valid upper frame is counted and repeated on the other port, a command of no known operation
is answered 0x060F, a frame broken off counts as a format failure, a lower one is forwarded at once or queued, the transmitter takes the next by
precedence, and a second with few CRC failures clears 0x60. That a lower frame is queued while an own frame waits too (idleSide), where R299
forwards at once with the transmitter idle and the queue empty, is the model's choice, log 53. -/
def Obligations.NodeFrames : Prop :=
  (∀ s p stray f, s.blk.awake = true → s.blk.isHead = false → s.blk.portUp p = true → s.blk.link.headSide = p → s.blk.transmits p.other = true →
    frameFault true false f = none → hdrType (headerIn f) ≠ 5 → GivesBlock (.frameReceive p (stray, 0) (.whole, f)) s fun b =>
      b.nat Ob.linkCountersFramesReceived = min (s.blk.nat Ob.linkCountersFramesReceived + 1) (2 ^ 32 - 1) ∧
      b.nat (codeErrorsKey p) = min (s.blk.nat (codeErrorsKey p) + stray) (2 ^ 32 - 1) ∧
      b.out = s.blk.out ++ [.frame p.other f] ∧ b.power.commAt = s.blk.now) ∧
  (∀ s p stray f, Listens s.blk (hdrSeq (headerIn f)) → s.blk.portUp p = true → s.blk.link.headSide = p → frameFault true false f = none →
    hdrType (headerIn f) = 2 → hdrPos (headerIn f) = s.blk.nat Ob.position → (field (payloadIn f) 0 1 = 0 ∨ 8 < field (payloadIn f) 0 1) →
    GivesBlock (.frameReceive p (stray, 0) (.whole, f)) s fun b =>
      Responds s.blk b (hdrSeq (headerIn f)) (responsePayload (field (payloadIn f) 0 1) (field (payloadIn f) 2 2) (field (payloadIn f) 1 1)
        (.refuse 0x060F (field (payloadIn f) 4 2) (field (payloadIn f) 6 1)))) ∧
  (∀ s p stray inside f, s.blk.awake = true → s.blk.portUp p = true → (s.blk.isHead = true → p = .du ∨ s.blk.splitOn = true) →
    GivesBlock (.frameReceive p (stray, inside) (.cut, f)) s fun b =>
      b.nat Ob.linkCountersFormatErrors = min (s.blk.nat Ob.linkCountersFormatErrors + 1) (2 ^ 32 - 1) ∧
      b.nat (codeErrorsKey p) = min (s.blk.nat (codeErrorsKey p) + (stray + inside)) (2 ^ 32 - 1) ∧ b.power = s.blk.power) ∧
  (∀ s f, s.blk.awake = true → s.blk.isHead = false → s.blk.transmits s.blk.link.headSide = true → s.blk.idleSide = true →
    GivesBlock (.frameForward f) s fun b =>
      b.sending s.blk.link.headSide = some f ∧ b.out = s.blk.out ++ [.frame s.blk.link.headSide f] ∧ b.dict = s.blk.dict) ∧
  (∀ s f, s.blk.awake = true → s.blk.isHead = false → s.blk.transmits s.blk.link.headSide = true → s.blk.idleSide = false →
    s.blk.link.queue.length < queueDepth → GivesBlock (.frameForward f) s fun b =>
      b = s.blk.withLink { s.blk.link with queue := s.blk.link.queue ++ [f] }) ∧
  (∀ s f, s.blk.awake = true → s.blk.isHead = false → s.blk.transmits s.blk.link.headSide = true → s.blk.idleSide = false →
    queueDepth ≤ s.blk.link.queue.length → GivesBlock (.frameForward f) s fun b => b = s.blk.count32 Ob.linkCountersQueueDrops) ∧
  (∀ s t f rest, s.blk.awake = true → s.blk.isHead = false → s.blk.transmits s.blk.link.headSide = true → s.blk.phys.alarmWaiting = false →
    s.blk.phys.toneWaitingDl = false → s.blk.phys.toneWaitingDu = false → s.blk.link.census = f :: rest →
    GivesBlock (.frameTransmit t) s fun b =>
      b.out = s.blk.out ++ [.frame s.blk.link.headSide f] ∧ b.link.census = rest ∧ b.sending s.blk.link.headSide = some f ∧
      b.phys.alarmBusy = false) ∧
  (∀ s, s.blk.awake = true → (s.blk.link.dlSecond : Int) ≤ s.blk.get Ob.crcRateLimit → (s.blk.link.duSecond : Int) ≤ s.blk.get Ob.crcRateLimit →
    GivesBlock .linkCrcRate s fun b => b.live 0x60 = false ∧ b.link.dlSecond = 0 ∧ b.link.duSecond = 0) ∧
  (∀ s, s.blk.awake = true → s.blk.get Ob.crcRateLimit < (s.blk.link.dlSecond : Int) →
    (s.blk.link.duSecond : Int) ≤ s.blk.get Ob.crcRateLimit → GivesBlock .linkCrcRate s fun b =>
      b.flint.detections = s.blk.flint.detections ++ [⟨0x60, 65536 * min s.blk.link.dlSecond 65535, 0, none⟩])

/-- The census at a node (R307–R312): it takes the position offered and answers with an echo, closes as top without an echo from above, adds
its own generation to a reply, and COMMIT makes the position its own. That a node holds COMMIT's flags in CensusResult, by R331's layout, is the
model's choice, log 42: R312's list of what COMMIT does leaves them out. -/
def Obligations.CensusAtNode : Prop :=
  (∀ s number payload, s.blk.awake = true → s.blk.isHead = false → s.blk.portUp .dl = true → s.blk.portUp .du = true → payload.length = 4 →
    field payload 0 1 < 128 → GivesBlock (.census .dl number payload) s fun b =>
      b.link.headSide = .dl ∧ b.link.tentative = some (field payload 0 1, number) ∧ echoFrame number false ∈ b.link.census ∧
      ∃ x, b.link.taken = some x ∧ x.number = number ∧ x.position = field payload 0 1 ∧
        x.sum = (field payload 2 1 + s.blk.nat Ob.generation) % 256) ∧
  (∀ s number x, s.blk.link.taken = some x → x.number = number → x.echoed = false → x.overflowed = false →
    GivesBlock (.censusEcho number false) s fun b =>
      b = s.blk.withLink { s.blk.link with taken := some { x with echoed := true } }) ∧
  (∀ s x, s.blk.link.taken = some x → x.echoed = false → GivesBlock .censusEchoTimeout s fun b =>
    b.link.taken = none ∧ b.link.census = s.blk.link.census ++
      [replyFrame x.number x.position (censusPayload x.position false x.maxGeneration x.sum 0)]) ∧
  (∀ s number payload x, s.blk.link.taken = some x → x.number = number → x.echoed = true → payload.length = 4 →
    GivesBlock (.censusReply number payload) s fun b =>
      b.link.taken = none ∧ b.link.census = s.blk.link.census ++ [replyFrame number (field payload 0 1 % 128)
        (censusPayload (field payload 0 1 % 128) (decide (128 ≤ field payload 0 1)) (max (field payload 1 1) (s.blk.nat Ob.generation))
          (field payload 2 1 + (s.blk.nat Ob.generation + 256 - x.generation) % 256) (field payload 3 1))]) ∧
  (∀ s number top flags t (p : Nat), s.blk.awake = true → s.blk.isHead = false → s.blk.link.lastCommit ≠ some number →
    s.blk.link.tentative = some (p, number) → GivesBlock (.commit number top flags t) s fun b =>
      b.get Ob.position = p ∧ b.get Ob.censusResultTop = top ∧ b.get Ob.censusResultFlags = flags ∧
      b.get Ob.censusResultLastCommit = (t % t48 : Nat) ∧ b.link.lastCommit = some number ∧ b.link.baseline = s.blk.nat Ob.generation) ∧
  (∀ s number top flags t, s.blk.awake = true → s.blk.isHead = false → s.blk.link.lastCommit ≠ some number → s.blk.link.tentative = none →
    s.blk.get Ob.position ≠ 0xFE → GivesBlock (.commit number top flags t) s fun b =>
      b.get Ob.position = 0xFF ∧ b.link.own = [])

/-- What the head broadcasts, at a node (R264, R313, R314, R330, R331, R341): sweeps and probes, delays, the configuration image, the aggregate
and the keeper's record. -/
def Obligations.BroadcastsAtNode : Prop :=
  (∀ s p sweeps count, s.blk.awake = true → s.blk.isHead = false → s.blk.positioned = true → sweeps ≠ 0 → count ≠ 0 →
    GivesBlock (.probeSweep p sweeps count) s fun b =>
      b = s.blk.withLink { s.blk.link with sweep := some ⟨p, sweeps, count, 0⟩ }) ∧
  (∀ s t sweeps count n, s.blk.awake = true → s.blk.isHead = false → s.blk.positioned = true → s.blk.link.headSide = .dl →
    s.blk.link.sweep = some ⟨.du, sweeps, count, n⟩ → s.blk.transmits .dl = true → s.blk.transmits .du = true →
    GivesBlock (.probe .dl t) s fun b =>
      b.link.sweep = (if n + 1 < sweeps * count then some ⟨.du, sweeps, count, n + 1⟩ else none) ∧ b.dict = s.blk.dict ∧
      b.out = s.blk.out ++ [.pulse .du .tone, .idle .du] ++
        (if n % count + 1 = s.blk.nat Ob.position then [.probe .dl, .idle .dl] else [])) ∧
  (∀ s table (d : Nat), s.blk.awake = true → s.blk.isHead = false → s.blk.positioned = true → s.blk.nat Ob.position ≠ 0 →
    table[s.blk.nat Ob.position - 1]? = some d → GivesBlock (.delays false table) s fun b =>
      b.get Ob.hopDelayArrivalDelay = d ∧ b.link.delays = table ∧ b.link.heldDelays = true) ∧
  (∀ s table (d : Nat), s.blk.awake = true → s.blk.isHead = false → s.blk.positioned = true → s.blk.nat Ob.position ≠ 0 →
    table[s.blk.nat Ob.position - 1]? = some d → GivesBlock (.delays true table) s fun b =>
      b.get Ob.hopDelaySplitDelay = d ∧ b.link.delays = s.blk.link.delays) ∧
  (∀ s image, s.blk.awake = true → s.blk.isHead = false → s.blk.positioned = true → image.length = 56 →
    GivesBlock (.chainConfig image) s fun b =>
      b.get Ob.ringMode = field image 1 1 ∧ b.get Ob.currentKeeper = field image 2 1 ∧ b.chainSet = imageSet image ∧
      b.imp.chainTime = field image 48 4 ∧ b.power = s.blk.power ∧ (field image 1 1 = 0 → b.link.headSide = .dl)) ∧
  (∀ s payload, s.blk.awake = true → s.blk.isHead = false → s.blk.positioned = true → payload.length = 36 →
    bitOf (field payload 1 1) 0 = true → GivesBlock (.chainAggregate payload) s fun b =>
      b.get Ob.chainSocMinimumValue = field payload 8 2 ∧ b.get Ob.chainSocMinimumPosition = field payload 2 1 ∧
      b.get Ob.chainSocMinimumSequence = field payload 4 4) ∧
  (∀ s payload t k, s.blk.awake = true → s.blk.isHead = false → s.blk.positioned = true → s.blk.isKeeper = false →
    s.blk.get Ob.currentKeeper ≤ 63 → payload.length = 112 → field payload 0 1 = 2 → field payload 1 1 = k + 1 → k < 4 →
    k < s.blk.imp.entries.length → GivesBlock (.keeperRecord payload t) s fun b =>
      ∃ x, (b.impEntry k).items.getLast? = some x ∧ x.interval = field payload 8 4 ∧ x.frequency = field payload 12 4) ∧
  (∀ s payload t, s.blk.awake = true → s.blk.isHead = false → s.blk.positioned = true → s.blk.isKeeper = false →
    s.blk.get Ob.currentKeeper ≤ 63 → payload.length = 112 → field payload 0 1 = 1 → s.blk.e6Works = false →
    GivesBlock (.keeperRecord payload t) s fun b =>
      b.get Ob.keeperStatusStatus = 1 ∧ b.get Ob.keeperStatusSequence = field payload 4 4 ∧
      b.get Ob.currentMean = signedField payload 16 4 ∧ b.get Ob.chargeIncrement = signedField payload 8 8 ∧
      b.get Ob.mainsFrequency = field payload 28 4)

/-- Commands at their destination (R46, R47, R48, R49, R50, R52, R317, R318): each is executed and answered as an own response; a refusal carries
its abort. -/
def Obligations.ChainCommands : Prop :=
  (∀ s seq ix sub l, Listens s.blk seq → s.blk.commanded.expeditedRead s.flash ix sub = .ok l → GivesBlock (.read seq ix sub) s fun b =>
    Responds s.blk b seq (responsePayload 1 ix sub ⟨none, l.length, 0, l⟩) ∧ b.dict = s.blk.dict) ∧
  (∀ s seq ix sub a, Listens s.blk seq → s.blk.commanded.expeditedRead s.flash ix sub = .error a →
    GivesBlock (.read seq ix sub) s fun b => Responds s.blk b seq (responsePayload 1 ix sub (.refuse a 0 0)) ∧ b.dict = s.blk.dict) ∧
  (∀ s seq ix sub data o sl v, Listens s.blk seq → ix ∈ plainObjects → s.blk.commanded.disarm.checkWrite ix sub data 4 = .ok (o, sl) →
    decodeSlices ix sl = [(keyOf ix sub, v)] → GivesBlock (.write seq ix sub data) s fun b =>
      Responds s.blk b seq (responsePayload 2 ix sub ⟨none, data.length, 0, []⟩) ∧ b.get (keyOf ix sub) = v) ∧
  (∀ s seq ix sub data a, Listens s.blk seq → ix ≠ 0x1F00 → ix ≠ 0x1001 → s.blk.commanded.disarm.checkWrite ix sub data 4 = .error a →
    GivesBlock (.write seq ix sub data) s fun b =>
      Responds s.blk b seq (responsePayload 2 ix sub (.refuse a data.length 0)) ∧ b.dict = s.blk.disarm.dict) ∧
  (∀ s seq ix sub length bytes, Listens s.blk seq → s.blk.commanded.initiated.readBytes s.flash ix sub = .ok bytes → ix ≠ 0x7000 →
    bytes.length ≤ length → 0 < length → length ≤ 4096 → s.blk.initiated.access.transfer = none →
    GivesBlock (.segInitRead seq ix sub length) s fun b =>
      Responds s.blk b seq (responsePayload 3 ix sub ⟨none, bytes.length, 0, []⟩) ∧
      b.access.transfer = some ⟨.chain, ix, sub, false, bytes, bytes.length, 0, none, 0, none⟩ ∧ b.dict = s.blk.dict) ∧
  (∀ s seq ix sub length o, Listens s.blk seq → ix ≠ 0x1F00 → s.blk.commanded.disarm.initiated.writeTarget ix sub = .ok o →
    s.blk.commanded.disarm.initiated.lengthAbort o sub length longest = none → s.blk.initiated.access.transfer = none →
    GivesBlock (.segInitWrite seq ix sub length) s fun b =>
      Responds s.blk b seq (responsePayload 4 ix sub ⟨none, length, 0, []⟩) ∧
      b.access.transfer = some ⟨.chain, ix, sub, true, [], length, 0, none, 0, none⟩ ∧ b.dict = s.blk.disarm.dict) ∧
  (∀ s seq ix sub x, Listens s.blk seq → s.blk.access.transfer = some x → x.requester = .chain → x.writing = false →
    (∀ y, x.last = some y → y.1 ≠ x.next) → x.delivered < x.data.length → GivesBlock (.segRead seq ix sub x.next) s fun b =>
      Responds s.blk b seq (responsePayload 5 ix sub
        ⟨none, min 128 (x.data.length - x.delivered), x.next, (x.data.drop x.delivered).take 128⟩) ∧
      b.access.transfer = some { x with
        next := (x.next + 1) % 256, last := some (x.next, (x.data.drop x.delivered).take 128)
        delivered := x.delivered + min 128 (x.data.length - x.delivered) } ∧ b.dict = s.blk.dict) ∧
  (∀ s seq ix sub data x, Listens s.blk seq → s.blk.access.transfer = some x → x.requester = .chain → x.writing = true →
    (∀ y, x.last = some y → y.1 ≠ x.next) → data ≠ [] → data.length ≤ 128 → x.data.length + data.length ≤ x.length →
    GivesBlock (.segWrite seq ix sub x.next data) s fun b =>
      Responds s.blk b seq (responsePayload 6 ix sub ⟨none, data.length, x.next, []⟩) ∧
      b.access.transfer = some { x with next := (x.next + 1) % 256, last := some (x.next, []), data := x.data ++ data } ∧
      b.dict = s.blk.dict) ∧
  (∀ s seq ix sub x, Listens s.blk seq → s.blk.access.transfer = some x → x.requester = .chain → x.writing = false →
    x.delivered = x.data.length → GivesBlock (.segEnd seq ix sub x.data.length) s fun b =>
      Responds s.blk b seq (responsePayload 7 ix sub ⟨none, x.data.length, 0, []⟩) ∧ b.access.transfer = none) ∧
  (∀ s seq ix sub x o sl v, Listens s.blk seq → s.blk.access.transfer = some x → x.requester = .chain → x.writing = true →
    x.data.length = x.length → x.ix ∈ plainObjects →
    s.blk.commanded.closeTransfer.disarm.checkWrite x.ix x.sub x.data longest = .ok (o, sl) → decodeSlices x.ix sl = [(keyOf x.ix x.sub, v)] →
    GivesBlock (.segEnd seq ix sub x.length) s fun b =>
      Responds s.blk b seq (responsePayload 7 ix sub ⟨none, x.length, 0, []⟩) ∧ b.access.transfer = none ∧ b.get (keyOf x.ix x.sub) = v) ∧
  (∀ s seq ix sub total x, Listens s.blk seq → s.blk.access.transfer = some x → x.requester = .chain → x.writing = true →
    (total ≠ x.length ∨ x.data.length ≠ x.length) → GivesBlock (.segEnd seq ix sub total) s fun b =>
      Responds s.blk b seq (responsePayload 7 ix sub (.refuse 0x0606 total 0)) ∧ b.access.transfer = none ∧
      b.dict = (s.blk.refusedWrite x.ix).dict) ∧
  (∀ s seq image, Listens s.blk seq → image.length = 56 → GivesBlock (.checkConfig seq image) s fun b =>
    Responds s.blk b seq (responsePayload 8 0 0
      (if s.blk.commanded.imageFits image then ⟨none, 56, 0, []⟩ else .refuse 0x0608 56 0)) ∧ b.dict = s.blk.dict)

/-- A command that carries the SEQ, or from a host the TAG and all else, of the one executed last from that requester is not executed again: its
response goes out once more (R53, R354). -/
def Obligations.RepeatedSequence : Prop :=
  (∀ s seq payload c, s.blk.awake = true → s.blk.isHead = false → s.blk.positioned = true → s.blk.access.lastSeq = some (seq, payload) →
    ((∃ ix sub, c = .read seq ix sub) ∨ (∃ ix sub data, c = .write seq ix sub data) ∨ (∃ ix sub l, c = .segInitRead seq ix sub l) ∨
      (∃ ix sub l, c = .segInitWrite seq ix sub l) ∨ (∃ ix sub n, c = .segRead seq ix sub n) ∨
      (∃ ix sub n data, c = .segWrite seq ix sub n data) ∨ (∃ ix sub n, c = .segEnd seq ix sub n) ∨ (∃ image, c = .checkConfig seq image)) →
    GivesBlock c s fun b => b = s.blk.commanded.queueResponse seq payload) ∧
  (∀ s header data message, s.blk.carrierOpen .spi = true → s.blk.host.spi.executing = none → header.length = 5 → field header 0 1 ≠ 0x3F →
    data.length < 256 → s.blk.host.spi.last = some (header ++ data, message) → GivesBlock (.spiCommand (novezMessage header data)) s fun b =>
      b.host.spi.slot = some message ∧ b.host.spi.last = s.blk.host.spi.last ∧ b.link = s.blk.link ∧ b.flint = s.blk.flint ∧
      b.nvm = s.blk.nvm) ∧
  (∀ s header data message, s.blk.carrierOpen .can = true → s.blk.host.can.executing = none → header.length = 5 → data.length < 256 →
    novezFits .can (headerOp header) data.length = true → s.blk.host.can.last = some (header ++ data, message) →
    GivesBlock (.canRequest (novezMessage header data)) s fun b =>
      (∃ f, .canFrame f ∈ b.out ∧ f.id = s.blk.canId 1 ∧ f.bytes = canPadded message) ∧
      b.host.can.last = s.blk.host.can.last ∧ b.link = s.blk.link ∧ b.flint = s.blk.flint ∧ b.nvm = s.blk.nvm)

/-- The time limit of a transfer (R51, R357) and the stream read of the journal (R432): the read returns whole entries from the cursor on and
moves the cursor past the last one. -/
def Obligations.TransfersAndJournal : Prop :=
  (∀ s x, s.blk.awake = true → s.blk.isHead = false → s.blk.access.transfer = some x → GivesBlock (.segmentTimeout .chain) s fun b =>
    b.access.transfer = none ∧ x.requester ∈ b.access.timedOut ∧ b.dict = s.blk.dict ∧ b.link = s.blk.link) ∧
  (∀ s (c : Carrier) x, s.blk.awake = true → s.blk.isHead = true → (s.blk.hostPort c).transfer = some x →
    GivesBlock (.segmentTimeout c.requester) s fun b =>
      (b.hostPort c).transfer = none ∧ (b.hostPort c).timedOut = true ∧ b.dict = s.blk.dict ∧ b.link = s.blk.link) ∧
  (∀ s length e es, s.blk.awake = true → 16 ≤ length → length ≤ 4096 → s.blk.initiated.access.transfer = none →
    (s.blk.journalRun length).1 = es ++ [e] → GivesBlock (.journalRead .chain length) s fun b =>
      b.out = s.blk.out ++ [.returned ((es ++ [e]).map s.blk.journal.encode).flatten, .answer none] ∧
      b.journal.cursor = (e.number + 1) % 2 ^ 32 ∧ b.journal.entries = s.blk.journal.entries ∧ b.access.transfer = none) ∧
  (∀ s length, s.blk.awake = true → 16 ≤ length → length ≤ 4096 → s.blk.initiated.access.transfer = none →
    (s.blk.journalRun length).1 = [] → GivesBlock (.journalRead .chain length) s fun b =>
      b.out = s.blk.out ++ [.returned [], .answer none] ∧ b.journal.cursor = s.blk.journal.cursor) ∧
  (∀ s length, s.blk.awake = true → length < 16 → GivesBlock (.journalRead .chain length) s fun b =>
    b.out = s.blk.out ++ [.answer (some 0x0606)] ∧ b.journal = s.blk.journal)

/-- The head and its commands (R116, R318, R319, R331): a response ends a command, a silence sends it again up to three times, now or behind a SYNC
that is near, and a write that waits for its positions is refused, fails or is applied when every check has ended. That a write which one position
refuses is answered 0x0608 even where another's check failed (clause 5 leaves failed open) is the model's choice, log 46. -/
def Obligations.HeadCommands : Prop :=
  (∀ s p seq payload c w, s.blk.awake = true → s.blk.isHead = true → s.blk.link.commands = [c] → c.position = p → c.seq = some seq →
    c.waiter = .configCheck → responseOk c payload = true → s.blk.link.headWrite = some w → GivesBlock (.response p seq payload) s fun b =>
      b.link.commands = [] ∧ b.dict = s.blk.dict ∧ b.link.headWrite = some { w with
        waiting := w.waiting.filter (· != p), refused := w.refused || decide (field payload 7 1 ≠ 0) }) ∧
  (∀ s p seq payload c r, s.blk.awake = true → s.blk.isHead = true → s.blk.link.commands = [c] → c.position = p → c.seq = some seq →
    c.waiter = .host .spi → responseOk c payload = true → field payload 7 1 = 0 → s.blk.host.spi.executing = some r → r.job = .single →
    GivesBlock (.response p seq payload) s fun b =>
      b.link.commands = [] ∧ Answered b .spi r.header r.data (.done (payload.drop 8))) ∧
  (∀ s p seq c, s.blk.awake = true → s.blk.isHead = true → s.blk.link.commands = [c] → c.position = p → c.seq = some seq → c.attempts < 4 →
    s.blk.transmits (s.blk.portFor p) = true → GivesBlock (.commandTimeout p) s fun b =>
      b.nat Ob.linkCountersCommandRetries = min (s.blk.nat Ob.linkCountersCommandRetries + 1) (2 ^ 32 - 1) ∧
      b.link.commands = [{ c with attempts := c.attempts + 1, held := !s.blk.syncRoom (frameTime c.payload) }] ∧
      b.out = s.blk.out ++ (if s.blk.syncRoom (frameTime c.payload) then
        [.frame (s.blk.portFor p) (frameOf (headerOf 2 p 0 0 seq) c.payload)] else [])) ∧
  (∀ s p seq c w, s.blk.awake = true → s.blk.isHead = true → s.blk.link.commands = [c] → c.position = p → c.seq = some seq → 4 ≤ c.attempts →
    c.waiter = .configCheck → s.blk.link.headWrite = some w → GivesBlock (.commandTimeout p) s fun b =>
      b.nat Ob.linkCountersCommandFailures = min (s.blk.nat Ob.linkCountersCommandFailures + 1) (2 ^ 32 - 1) ∧ b.link.commands = [] ∧
      b.link.headWrite = some { w with waiting := w.waiting.filter (· != p), failed := true }) ∧
  (∀ s w, s.blk.awake = true → s.blk.link.headWrite = some w → w.waiting = [] → w.requester = none → w.refused = true →
    GivesBlock .headConfigChecksDone s fun b =>
      b.link.headWrite = none ∧ b.dict = s.blk.dict ∧ b.out = s.blk.out ++ [.answer (some 0x0608)]) ∧
  (∀ s w, s.blk.awake = true → s.blk.link.headWrite = some w → w.waiting = [] → w.requester = none → w.refused = false → w.failed = true →
    GivesBlock .headConfigChecksDone s fun b =>
      b.link.headWrite = none ∧ b.dict = s.blk.dict ∧ b.out = s.blk.out ++ [.chainFail]) ∧
  (∀ s w o sl v, s.blk.awake = true → s.blk.link.headWrite = some w → w.waiting = [] → w.requester = none → w.refused = false →
    w.failed = false → w.ix = 0x2032 →
    (s.blk.withLink { s.blk.link with headWrite := none }).checkWrite w.ix w.sub w.data longest = .ok (o, sl) →
    decodeSlices 0x2032 sl = [(Ob.currentKeeper, v)] → GivesBlock .headConfigChecksDone s fun b =>
      b.link.headWrite = none ∧ b.get Ob.currentKeeper = v)

/-- Trains at the head (R116, R193, R306, R321, R330, R332, R333, R335, R342, R343): a scheduled trigger starts one, or waits for a SYNC that is
near; a frame of a committed position joins it, its close counts it and delivers its records; a STATUS frame shows a break; a KEEPER frame is
forwarded; a split begins and ends. -/
def Obligations.HeadTrains : Prop :=
  (∀ s c t, s.blk.awake = true → s.blk.isHead = true → c ∈ [.volts, .temps, .imped, .status] → s.blk.link.round = none →
    (s.blk.at t).due (codeOf c) = true → s.blk.resumes = true → s.blk.inTrain (codeOf c) = false → s.blk.link.statusDue = false →
    (s.blk.at t).syncRoom (triggerTime (codeOf c)) = true → (s.blk.at t).tooLate (codeOf c) (s.blk.perWindow (codeOf c)) = false →
    s.blk.transmits .du = true → GivesBlock (.scheduledTrigger c t) s fun b =>
      (∃ x, b.link.trains = s.blk.link.trains ++ [x] ∧ x.cls = codeOf c) ∧ .pulse .du (pulseOf c) ∈ b.out) ∧
  (∀ s c t, s.blk.awake = true → s.blk.isHead = true → c ≠ .keeper → s.blk.link.round = none → (s.blk.at t).due (codeOf c) = true →
    s.blk.resumes = true → (s.blk.at t).syncRoom (triggerTime (codeOf c)) = false → GivesBlock (.scheduledTrigger c t) s fun b =>
      b.link = { s.blk.link with waiting := addClass s.blk.link.waiting (codeOf c) } ∧ b.out = s.blk.out) ∧
  (∀ s t r, s.blk.awake = true → s.blk.isHead = true → s.blk.link.round = some r → (s.blk.at t).due 2 = true →
    GivesBlock (.scheduledTrigger .snap t) s fun b =>
      b.nat Ob.triggerDropsDropped = min (s.blk.nat Ob.triggerDropsDropped + 1) (2 ^ 32 - 1) ∧ b.link = s.blk.link) ∧
  (∀ s header payload x, s.blk.awake = true → s.blk.isHead = true → s.blk.link.trains = [x] → x.cls = hdrClass header → x.cls ≠ 6 →
    classLength x.cls = some payload.length → hdrPos header ∈ s.blk.committed → (∀ r ∈ x.frames, r.position ≠ hdrPos header) →
    GivesBlock (.streamFrame header payload) s fun b =>
      b.link.trains = [{ x with frames := x.frames ++ [⟨x.cls, hdrPos header, header, payload, 0⟩] }]) ∧
  (∀ s c t x, s.blk.awake = true → s.blk.isHead = true → s.blk.link.trains = [x] → x.cls = codeOf c → (s.blk.at t).trainOver x = true →
    s.blk.link.hostTriggers = [] → s.blk.link.waiting = [] → s.blk.link.behind = [] → s.blk.link.statusDue = false →
    codeOf c < s.blk.link.closedTrains.length → GivesBlock (.trainClose c t) s fun b =>
      b.link.trains = [] ∧ b.closedCount (codeOf c) = (s.blk.closedCount (codeOf c) + 1) % 65536 ∧
      b.nat Ob.linkCountersStaleSlots = min (s.blk.nat Ob.linkCountersStaleSlots +
        (s.blk.committed.filter fun p => !x.frames.any fun r => r.position == p).length) (2 ^ 32 - 1) ∧
      ∀ r, x.frames = [r] → { r with train := (s.blk.closedCount (codeOf c) + 1) % 65536 } ∈ b.link.records) ∧
  (∀ s header payload t, s.blk.awake = true → s.blk.isHead = true → payload.length = 112 → 6 < s.blk.link.closedTrains.length →
    s.blk.link.round = none → s.blk.transmits .du = true → GivesBlock (.keeperForward header payload t) s fun b =>
      b.closedCount 6 = (s.blk.closedCount 6 + 1) % 65536 ∧
      .frame .du (frameOf (headerOf 4 0 6 0 s.blk.link.broadcasts) payload) ∈ b.out ∧
      ⟨6, hdrPos header, header, payload, (s.blk.closedCount 6 + 1) % 65536⟩ ∈ b.link.records) ∧
  (∀ s header payload t r, s.blk.awake = true → s.blk.isHead = true → payload.length = 112 → s.blk.link.round = some r →
    GivesBlock (.keeperForward header payload t) s fun b => b.link.forwards = s.blk.link.forwards ++ [payload]) ∧
  (∀ s header payload, s.blk.awake = true → s.blk.isHead = true → hdrClass header = 5 → payload.length = 80 →
    hdrPos header ∈ s.blk.committed → s.blk.link.split = none → bitOf (field payload 7 1) 1 = false →
    GivesBlock (.streamFrame header payload) s fun b => b.link.breakAt = some (hdrPos header)) ∧
  (∀ s below t, s.blk.awake = true → s.blk.isHead = true → s.blk.get Ob.ringMode = 1 → s.blk.portUp .dl = true → s.blk.link.split = none →
    s.blk.link.round = none → s.blk.link.breakAt = some below → below < s.blk.committed.length → GivesBlock (.splitEntry below t) s fun b =>
      b.link.split = some below ∧ b.bit Ob.censusResultFlags 3 = true ∧
      Sweeps b .dl (s.blk.committed.length - below) false) ∧
  (∀ s t x, s.blk.awake = true → s.blk.isHead = true → s.blk.link.split = some x → s.blk.link.breakAt = none → GivesBlock (.splitEnd t) s fun b =>
    b = (s.blk.at t).withLink { s.blk.link with splitEnds := true, roundWanted := true })

/-- Census rounds at the head (R83, R306, R307, R311, R312, R315): a round that is wanted, or due after a tone, begins with a CENSUS frame, or waits
for a SYNC that is near; passes go on until two agree, an agreement is committed, and the eighth pass without one ends the round. The model's
choices, log 42: a head whose DU is not UP commits Top 0 (clause 2; R306–R315 do not state it), two passes agree by their passResult, and a round
that fails ends at once after its eighth pass. -/
def Obligations.CensusAtHead : Prop :=
  (∀ s t, s.blk.roundFree = true → s.blk.link.roundWanted = true → s.blk.portUp .du = true → (s.blk.at t).censusRoom = true →
    GivesBlock (.censusRoundStart t) s fun b =>
    b.link.round = some ⟨s.blk.link.nextNumber, 1, none, false, false, s.blk.link.idRound⟩ ∧ b.link.roundWanted = false ∧
    b.link.nextNumber = (s.blk.link.nextNumber + 1) % 65536 ∧
    b.out = s.blk.out ++ [.frame .du (frameOf (headerOf 5 0 0 0 s.blk.link.nextNumber)
      (censusPayload 1 false (s.blk.nat Ob.generation) (s.blk.nat Ob.generation) (s.blk.nat Ob.ringMode)))]) ∧
  (∀ s t, s.blk.roundFree = true → s.blk.link.roundWanted = true → s.blk.portUp .du = true → (s.blk.at t).censusRoom = false →
    GivesBlock (.censusRoundStart t) s fun b =>
      b.link.round = some ⟨s.blk.link.nextNumber, 1, none, false, true, s.blk.link.idRound⟩ ∧ b.link.roundWanted = false ∧ b.out = s.blk.out) ∧
  (∀ s t x, s.blk.roundFree = true → s.blk.link.roundWanted = false → s.blk.link.wakeCensus = [x] → s.blk.portUp .du = true →
    GivesBlock (.censusRoundStart t) s fun b =>
      (reached (t % t48) x = true → b.link.wakeCensus = [] ∧
        b.link.round = some ⟨s.blk.link.nextNumber, 1, none, false, !(s.blk.at t).censusRoom, s.blk.link.idRound⟩) ∧
      (reached (t % t48) x = false → b = s.blk.at t)) ∧
  (∀ s t, s.blk.roundFree = true → s.blk.link.roundWanted = true → s.blk.portUp .du = false → s.blk.host.spi.executing = none →
    s.blk.host.can.executing = none → GivesBlock (.censusRoundStart t) s fun b =>
      b.link.round = none ∧ b.get Ob.censusResultTop = 0 ∧ b.get Ob.censusResultLastCommit = (t % t48 : Nat)) ∧
  (∀ s number payload t r, s.blk.link.round = some r → r.number = number → r.settled = false → r.held = false → payload.length = 4 →
    r.last ≠ some (passResult payload) → r.pass < 8 → GivesBlock (.censusPassResult number payload t) s fun b =>
      b.link.round = some { r with pass := r.pass + 1, last := some (passResult payload), held := !(s.blk.at t).censusRoom } ∧
      b.dict = s.blk.dict) ∧
  (∀ s number payload t r, s.blk.link.round = some r → r.number = number → r.settled = false → r.held = false → payload.length = 4 →
    r.last = some (passResult payload) → field payload 0 1 % 128 ≠ 0 → GivesBlock (.censusPassResult number payload t) s fun b =>
      b.get Ob.censusResultTop = (field payload 0 1 % 128 : Nat) ∧ b.get Ob.censusResultPasses = r.pass ∧
      b.get Ob.censusResultCensusNumber = number ∧ b.get Ob.censusResultLastCommit = (t % t48 : Nat) ∧
      b.link.round = some { r with settled := true } ∧ Sweeps b .du (field payload 0 1 % 128) false) ∧
  (∀ s t r, s.blk.link.round = some r → r.settled = false → r.held = false → r.pass < 8 → GivesBlock (.censusPassTimeout t) s fun b =>
    b.link.round = some { r with pass := r.pass + 1, last := none, held := !(s.blk.at t).censusRoom } ∧ b.dict = s.blk.dict) ∧
  (∀ s t r, s.blk.link.round = some r → r.settled = false → r.held = false → 8 ≤ r.pass → s.blk.host.spi.executing = none →
    s.blk.host.can.executing = none → GivesBlock (.censusPassTimeout t) s fun b =>
      b.link.round = none ∧ b.bit Ob.censusResultFlags 4 = true ∧ b.link.retryAt = some ((t % t48 + 100000) % t48) ∧
      ⟨0x62, 1, 0, none⟩ ∈ b.flint.detections) ∧
  (∀ s t r, s.blk.roundFree = true → s.blk.link.retryAt = some r → reached (t % t48) r = true → s.blk.portUp .du = true →
    GivesBlock (.censusRetry t) s fun b =>
      b.link.round = some ⟨s.blk.link.nextNumber, 1, none, false, !(s.blk.at t).censusRoom, s.blk.link.idRound⟩ ∧ b.link.retryAt = none)

/-- Delays at the head (R313–R315): once no sweep is left to send, three valid sweeps give the delays and send them, too few run once more, and
then set DELAY_FAILED. -/
def Obligations.DelaysAtHead : Prop :=
  (∀ s sweeps t n again announced, s.blk.link.round = none → s.blk.link.probing = some ⟨.du, n, again, 0, announced⟩ → 3 ≤ (sweeps.filter (sweepOk n)).length →
    GivesBlock (.probeSweepsComplete sweeps t) s fun b =>
      b.link.delays = s.blk.measuredDelays (sweeps.filter (sweepOk n)) n ∧ b.link.probing = none ∧
      b.bit Ob.censusResultFlags 5 = false ∧ b.link.splitDelays = s.blk.link.splitDelays) ∧
  (∀ s sweeps t n again announced, s.blk.link.round = none → s.blk.link.probing = some ⟨.dl, n, again, 0, announced⟩ → 3 ≤ (sweeps.filter (sweepOk n)).length →
    GivesBlock (.probeSweepsComplete sweeps t) s fun b =>
      b.link.splitDelays = splitTable (sweeps.filter (sweepOk n)) n (s.blk.nat Ob.censusResultTop) ∧ b.link.probing = none ∧
      b.link.delays = s.blk.link.delays) ∧
  (∀ s sweeps t p n announced, s.blk.link.probing = some ⟨p, n, false, 0, announced⟩ → (sweeps.filter (sweepOk n)).length < 3 →
    GivesBlock (.probeSweepsComplete sweeps t) s fun b => Sweeps b p n true ∧ b.dict = s.blk.dict) ∧
  (∀ s sweeps t p n announced, s.blk.link.round = none → s.blk.link.probing = some ⟨p, n, true, 0, announced⟩ → (sweeps.filter (sweepOk n)).length < 3 →
    GivesBlock (.probeSweepsComplete sweeps t) s fun b =>
      b.link.probing = none ∧ b.bit Ob.censusResultFlags 5 = true ∧ b.link.delays = s.blk.link.delays ∧
      ⟨0x62, 4, 0, none⟩ ∈ b.flint.detections) ∧
  (∀ s t, s.blk.awake = true → s.blk.isHead = true → s.blk.link.round = none → s.blk.link.trains = [] → s.blk.link.probing = none →
    s.blk.link.split = none → s.blk.committed ≠ [] → GivesBlock (.delayRefresh t) s fun b =>
      Sweeps b .du s.blk.committed.length false ∧ b.dict = s.blk.dict)

/-- The host reads and writes (R352, R353, R355, R356): the head's own dictionary answers at once, a command to a position goes out over the
chain, and a position beyond the committed top does not exist. -/
def Obligations.HostAccess : Prop :=
  (∀ s c ix sub l, Ready s.blk c → ix < 65536 → sub < 256 → (s.blk.begun c (s.blk.nextHeader c 1 0 ix sub) []).expeditedRead s.flash ix sub = .ok l →
    GivesBlock (.novezRead c 0 ix sub) s fun b => Answered b c (s.blk.nextHeader c 1 0 ix sub) [] (.done l)) ∧
  (∀ s c ix sub a, Ready s.blk c → ix < 65536 → sub < 256 → (s.blk.begun c (s.blk.nextHeader c 1 0 ix sub) []).expeditedRead s.flash ix sub = .error a →
    GivesBlock (.novezRead c 0 ix sub) s fun b => Answered b c (s.blk.nextHeader c 1 0 ix sub) [] (.abort a)) ∧
  (∀ s c (p : Nat) ix sub, Ready s.blk c → p ≠ 0 → (p : Int) ≤ s.blk.get Ob.censusResultTop → ix < 65536 → sub < 256 →
    GivesBlock (.novezRead c p ix sub) s fun b => Asks b p (commandPayload 1 ix sub 0 0 []) (.host c) ∧
      (b.hostPort c).executing = some ⟨s.blk.nextHeader c 1 p ix sub, [], .single, false⟩) ∧
  (∀ s c (p : Nat) ix sub, Ready s.blk c → s.blk.get Ob.censusResultTop < (p : Int) → p < 256 → GivesBlock (.novezRead c p ix sub) s fun b =>
    Answered b c (s.blk.nextHeader c 1 p ix sub) [] .noPosition) ∧
  (∀ s c ix sub data o sl v, Ready s.blk c → ix ∈ plainObjects → sub < 256 → 1 ≤ data.length → data.length ≤ 4 →
    (s.blk.begun c (s.blk.nextHeader c 2 0 ix sub) data).disarm.checkWrite ix sub data 4 = .ok (o, sl) →
    decodeSlices ix sl = [(keyOf ix sub, v)] → GivesBlock (.novezWrite c 0 ix sub data) s fun b =>
      Answered b c (s.blk.nextHeader c 2 0 ix sub) data (.done []) ∧ b.get (keyOf ix sub) = v) ∧
  (∀ s c ix sub data a, Ready s.blk c → ix ≠ 0x1F00 → ix ≠ 0x1001 → ix < 65536 → sub < 256 → 1 ≤ data.length → data.length ≤ 4 →
    (s.blk.begun c (s.blk.nextHeader c 2 0 ix sub) data).disarm.checkWrite ix sub data 4 = .error a →
    GivesBlock (.novezWrite c 0 ix sub data) s fun b => Answered b c (s.blk.nextHeader c 2 0 ix sub) data (.abort a)) ∧
  (∀ s c (p : Nat) ix sub data, Ready s.blk c → p ≠ 0 → (p : Int) ≤ s.blk.get Ob.censusResultTop → ix < 65536 → sub < 256 → 1 ≤ data.length →
    data.length ≤ 4 → GivesBlock (.novezWrite c p ix sub data) s fun b =>
      Asks b p (commandPayload 2 ix sub data.length 0 data) (.host c) ∧
      (b.hostPort c).executing = some ⟨s.blk.nextHeader c 2 p ix sub, data, .single, false⟩) ∧
  (∀ s c ix sub data o sl v, Ready s.blk c → s.blk.get Ob.censusResultTop = 0 → ix ∈ plainObjects → sub < 256 → 1 ≤ data.length →
    data.length ≤ 4 → (((s.blk.begun c (s.blk.nextHeader c 2 0x80 ix sub) data).setJob c (.all [0] 0 (0, 0, 0))).disarm).checkWrite
      ix sub data 4 = .ok (o, sl) → decodeSlices ix sl = [(keyOf ix sub, v)] → GivesBlock (.novezWrite c 0x80 ix sub data) s fun b =>
      Answered b c (s.blk.nextHeader c 2 0x80 ix sub) data (.done []) ∧ b.get (keyOf ix sub) = v)

/-- Segmented transfers of the host through the head's buffer (R48–R52, R357): a read of the head's own dictionary fills it, a write to it is
opened, fed and sent on, and segments are answered from it. -/
def Obligations.HostTransfers : Prop :=
  (∀ s c ix sub length bytes, Ready s.blk c → ix < 65536 → sub < 256 → ix ≠ 0x7000 → bytes.length ≤ length → 0 < length → length ≤ 4096 →
    (let b := s.blk.begun c (s.blk.nextHeader c 3 0 ix sub) (bytesOf 2 length)
     let b := b.setHostPort c { b.hostPort c with transfer := none }
     let b := b.withAccess (b.access.restart c.requester)
     b.readBytes s.flash ix sub = .ok bytes ∧ b.access.transfer = none) →
    GivesBlock (.novezSegInitRead c 0 ix sub length) s fun b =>
      Answered b c (s.blk.nextHeader c 3 0 ix sub) (bytesOf 2 length) (.done (bytesOf 2 bytes.length)) ∧
      ∃ x, (b.hostPort c).transfer = some x ∧ x.data = bytes ∧ x.writing = false ∧ x.delivered = 0 ∧ x.next = 0 ∧ x.position = 0) ∧
  (∀ s c (p : Nat) ix sub length, Ready s.blk c → p ≠ 0 → (p : Int) ≤ s.blk.get Ob.censusResultTop → ix < 65536 → sub < 256 → length < 65536 →
    GivesBlock (.novezSegInitRead c p ix sub length) s fun b => Asks b p (commandPayload 3 ix sub length 0 []) (.host c)) ∧
  (∀ s c (p : Nat) ix sub length, Ready s.blk c → (p : Int) ≤ s.blk.get Ob.censusResultTop → ix < 65536 → sub < 256 → 0 < length → length ≤ 4096 →
    GivesBlock (.novezSegInitWrite c p ix sub length) s fun b =>
      (b.hostPort c).transfer = some ⟨p, ix, sub, true, [], length, 0, none, 0, 0⟩ ∧
      Answered b c (s.blk.nextHeader c 4 p ix sub) (bytesOf 2 length) (.done [])) ∧
  (∀ s c (p : Nat) ix sub, Ready s.blk c → (p : Int) ≤ s.blk.get Ob.censusResultTop → ix < 65536 → sub < 256 →
    GivesBlock (.novezSegInitWrite c p ix sub 0) s fun b =>
      (b.hostPort c).transfer = none ∧ Answered b c (s.blk.nextHeader c 4 p ix sub) (bytesOf 2 0) (.abort 0x0606)) ∧
  (∀ s c (p : Nat) ix sub x, Ready s.blk c → (p : Int) ≤ s.blk.get Ob.censusResultTop → (s.blk.hostPort c).transfer = some x → x.writing = false →
    x.next < 256 → (∀ y, x.last = some y → y.1 ≠ x.next) → x.delivered < x.data.length →
    GivesBlock (.novezSegRead c p ix sub x.next) s fun b =>
      Answered b c (s.blk.nextHeader c 5 p ix sub) (bytesOf 1 x.next)
        (.done (bytesOf 1 x.next ++ (x.data.drop x.delivered).take (hostSegment c))) ∧
      (b.hostPort c).transfer = some { x with
        next := (x.next + 1) % 256, last := some (x.next, (x.data.drop x.delivered).take (hostSegment c))
        delivered := x.delivered + min (hostSegment c) (x.data.length - x.delivered) }) ∧
  (∀ s c (p : Nat) ix sub seg, Ready s.blk c → (p : Int) ≤ s.blk.get Ob.censusResultTop → (s.blk.hostPort c).transfer = none → seg < 256 →
    GivesBlock (.novezSegRead c p ix sub seg) s fun b =>
      Answered b c (s.blk.nextHeader c 5 p ix sub) (bytesOf 1 seg) (.abort (if (s.blk.hostPort c).timedOut then 0x060E else 0x060D)) ∧
      (b.hostPort c).timedOut = false) ∧
  (∀ s c (p : Nat) ix sub data x, Ready s.blk c → (p : Int) ≤ s.blk.get Ob.censusResultTop → (s.blk.hostPort c).transfer = some x →
    x.writing = true → x.next < 256 → (∀ y, x.last = some y → y.1 ≠ x.next) → data ≠ [] → data.length ≤ hostSegment c →
    x.data.length + data.length ≤ x.length → GivesBlock (.novezSegWrite c p ix sub x.next data) s fun b =>
      Answered b c (s.blk.nextHeader c 6 p ix sub) (bytesOf 1 x.next ++ data) (.done (bytesOf 1 x.next)) ∧
      (b.hostPort c).transfer = some { x with next := (x.next + 1) % 256, last := some (x.next, []), data := x.data ++ data }) ∧
  (∀ s c (p : Nat) ix sub x y, Ready s.blk c → (p : Int) ≤ s.blk.get Ob.censusResultTop → (s.blk.hostPort c).transfer = some x →
    x.writing = false → x.position = 0 → x.delivered = x.data.length → x.data.length < 65536 → s.blk.access.transfer = some y →
    y.requester = c.requester → y.writing = false → y.data.length = x.data.length → y.delivered = y.data.length →
    GivesBlock (.novezSegEnd c p ix sub x.data.length) s fun b =>
      Answered b c (s.blk.nextHeader c 7 p ix sub) (bytesOf 2 x.data.length) (.done []) ∧ (b.hostPort c).transfer = none ∧
      b.access.transfer = none) ∧
  (∀ s c (p : Nat) ix sub x, Ready s.blk c → (p : Int) ≤ s.blk.get Ob.censusResultTop → (s.blk.hostPort c).transfer = some x →
    x.writing = true → x.position ≠ 0 → x.data.length = x.length → x.length < 65536 →
    GivesBlock (.novezSegEnd c p ix sub x.length) s fun b =>
      Asks b x.position (commandPayload 4 x.ix x.sub x.length 0 []) (.host c) ∧ (b.hostPort c).transfer = none) ∧
  (∀ s c (p : Nat) ix sub total x, Ready s.blk c → (p : Int) ≤ s.blk.get Ob.censusResultTop → (s.blk.hostPort c).transfer = some x →
    x.writing = true → total < 65536 → (total ≠ x.length ∨ x.data.length ≠ x.length) →
    GivesBlock (.novezSegEnd c p ix sub total) s fun b =>
      Answered b c (s.blk.nextHeader c 7 p ix sub) (bytesOf 2 total) (.abort 0x0606) ∧ (b.hostPort c).transfer = none) ∧
  (∀ s c x, s.blk.awake = true → s.blk.isHead = true → (s.blk.hostPort c).transfer = some x → x.writing = false → x.position ≠ 0 →
    x.chainSegment ≠ 0 → GivesBlock (.segmentRepeatKeepalive c) s fun b =>
      Asks b x.position (commandPayload 5 x.ix x.sub 0 ((x.chainSegment - 1) % 256) []) .keepalive ∧ b.host = s.blk.host)

/-- TRIGGER, READ_STREAM and READ_ATTENTION (R116, R306, R352, R359, R360, R365): a class that is free starts its train, one in progress or a SYNC
that is near makes the host wait, a census round drops and counts; records are read in parts; the attention bits are returned and cleared. -/
def Obligations.HostStreams : Prop :=
  (∀ s c cls, Ready s.blk c → cls ∈ [1, 3, 4, 5] → s.blk.inTrain cls = false → s.blk.syncRoom (triggerTime cls) = true →
    (∀ x ∈ s.blk.link.hostTriggers, x.2 ≠ cls) → GivesBlock (.trigger c cls) s fun b =>
      Answered b c (s.blk.nextHeader c 0x10 0 0 0) (bytesOf 1 cls) (.done []) ∧
      ∃ x, b.link.trains = s.blk.link.trains ++ [x] ∧ x.cls = cls) ∧
  (∀ s c cls, Ready s.blk c → cls ∈ [1, 3, 4, 5] → (s.blk.inTrain cls = true ∨ s.blk.syncRoom (triggerTime cls) = false) → (∀ x ∈ s.blk.link.hostTriggers, x.2 ≠ cls) →
    GivesBlock (.trigger c cls) s fun b =>
      b.link.hostTriggers = s.blk.link.hostTriggers ++ [(c, cls)] ∧ b.link.trains = s.blk.link.trains ∧
      (b.hostPort c).executing = some ⟨s.blk.nextHeader c 0x10 0 0 0, bytesOf 1 cls, .trigger, false⟩) ∧
  (∀ s c cls r, s.blk.carrierOpen c = true → (s.blk.hostPort c).executing = none → s.blk.link.round = some r → 1 ≤ cls → cls ≤ 5 →
    GivesBlock (.trigger c cls) s fun b =>
      Answered b c (s.blk.nextHeader c 0x10 0 0 0) (bytesOf 1 cls) (.done []) ∧ b.link.trains = s.blk.link.trains ∧
      b.nat Ob.triggerDropsDropped = min (s.blk.nat Ob.triggerDropsDropped + 1) (2 ^ 32 - 1)) ∧
  (∀ s c cls, Ready s.blk c → cls < 256 → (cls = 0 ∨ 5 < cls) → GivesBlock (.trigger c cls) s fun b =>
    Answered b c (s.blk.nextHeader c 0x10 0 0 0) (bytesOf 1 cls) (.abort 0x0605)) ∧
  (∀ s c (p : Nat) cls offset count, Ready s.blk c → p < 256 → cls < 256 → offset < 65536 → count < 256 →
    GivesBlock (.readStream c p cls offset count) s fun b =>
      Answered b c (s.blk.nextHeader c 0x11 p offset cls) (bytesOf 1 count) (s.blk.hostStreamRead c p cls offset count) ∧
      b.link = s.blk.link) ∧
  (∀ s c, Ready s.blk c → GivesBlock (.readAttention c) s fun b =>
    Answered b c (s.blk.nextHeader c 0x12 0 0 0) [] (.done (bytesOf 2 (s.blk.nat Ob.attention))) ∧ b.nat Ob.attention = 0 ∧
    b.link = s.blk.link)

/-- SPI (R351, R354, R361, R363, R364): a sound command is executed and its response waits in the slot, its repeat gives the same response, a
damaged one is rejected and counted, and a read clears the slot. -/
def Obligations.SpiCarrier : Prop :=
  (∀ s header, Ready s.blk .spi → header.length = 5 → field header 0 1 ≠ 0x3F → headerOp header = 0x12 →
    (∀ x, s.blk.host.spi.last = some x → x.1 ≠ header) → GivesBlock (.spiCommand (novezMessage header [])) s fun b =>
      Answered b .spi header [] (.done (bytesOf 2 (s.blk.nat Ob.attention))) ∧ b.nat Ob.attention = 0) ∧
  (∀ s header message, Ready s.blk .spi → header.length = 5 → field header 0 1 ≠ 0x3F → s.blk.host.spi.last = some (header, message) →
    GivesBlock (.spiCommand (novezMessage header [])) s fun b =>
      b.host.spi.slot = some message ∧ b.host.spi.last = some (header, message) ∧ b.link = s.blk.link) ∧
  (∀ s l, s.blk.carrierOpen .spi = true → l ≠ [] → field l 0 1 ≠ 0x3F →
    ((checkMessage true l).whole && (checkMessage true l).headerOk && (checkMessage true l).dataOk) = false →
    GivesBlock (.spiCommand l) s fun b =>
      b.nat Ob.hostCountersSpiRejected = min (s.blk.nat Ob.hostCountersSpiRejected + 1) (2 ^ 32 - 1) ∧ b.host.spi.rejected = true ∧
      b.host.spi.last = s.blk.host.spi.last ∧ b.link = s.blk.link) ∧
  (∀ s message clocked, s.blk.carrierOpen .spi = true → s.blk.host.spi.slot = some message → 1 + message.length ≤ clocked →
    GivesBlock (.spiRead clocked) s fun b =>
      b.host.spi.slot = none ∧ b.dict = s.blk.dict ∧
      b.out = s.blk.out ++ [.spi (bytesOf 1 s.blk.spiStatus ++ message ++ bytesOf (clocked - (1 + message.length)) 0)]) ∧
  (∀ s message clocked, s.blk.carrierOpen .spi = true → s.blk.host.spi.slot = some message → 0 < clocked → clocked < 1 + message.length →
    GivesBlock (.spiRead clocked) s fun b => b.host.spi.slot = some message) ∧
  (∀ s, s.blk.awake = true → s.blk.isHead = true → (s.blk.host.spi.crcSecond : Int) ≤ s.blk.get Ob.hostCrcLimit →
    (s.blk.host.can.crcSecond : Int) ≤ s.blk.get Ob.hostCrcLimit → GivesBlock .hostCrcRate s fun b =>
      b.live 0x65 = false ∧ b.host.spi.crcSecond = 0 ∧ b.host.can.crcSecond = 0) ∧
  (∀ s, s.blk.awake = true → s.blk.isHead = true → s.blk.get Ob.hostCrcLimit < (s.blk.host.spi.crcSecond : Int) →
    (s.blk.host.can.crcSecond : Int) ≤ s.blk.get Ob.hostCrcLimit → GivesBlock .hostCrcRate s fun b =>
      b.flint.detections = s.blk.flint.detections ++ [⟨0x65, 65536 * min s.blk.host.spi.crcSecond 65535, 0, none⟩] ∧
      b.host.spi.crcSecond = 0)

/-- CAN FD (R366, R368–R372, R375): requests, alarm frames, streams behind the alarm frames that wait, error counters, bus-off and the settings in
force, SILENT among them. The steps of the error counters (1 for an error in receiving, 8 for one in sending and bus-off above 255, 1 down for
each frame received, an ignored one too) and the bounds of ErrorState are those of ISO 11898-1, which R366 does not give: the model's choice, log
48 (PRESUMED), as is what settings applied in bus-off or SILENT do. -/
def Obligations.CanCarrier : Prop :=
  (∀ s header, Ready s.blk .can → header.length = 5 → headerOp header = 0x12 → (∀ x, s.blk.host.can.last = some x → x.1 ≠ header) →
    GivesBlock (.canRequest (novezMessage header [])) s fun b =>
      Answered b .can header [] (.done (bytesOf 2 (s.blk.nat Ob.attention))) ∧ b.nat Ob.attention = 0) ∧
  (∀ s l, s.blk.canSends = true → ((checkMessage false l).whole && (checkMessage false l).headerOk && (checkMessage false l).dataOk) = false →
    GivesBlock (.canRequest l) s fun b =>
      b.nat Ob.hostCountersCanRejected = min (s.blk.nat Ob.hostCountersCanRejected + 1) (2 ^ 32 - 1) ∧
      b.host.can.last = s.blk.host.can.last ∧ b.link = s.blk.link) ∧
  (∀ s l rest, s.blk.canSends = true → s.blk.host.alarms = l :: rest → GivesBlock .canAlarmFrame s fun b =>
    b.host.alarms = rest ∧ ∃ f, b.out = s.blk.out ++ [.canFrame f] ∧ f.id = s.blk.canId 0 ∧ f.bytes = canPadded l ∧
      f.long = decide (s.blk.canForce 8 = 2) ∧ f.esi = decide (s.blk.get Ob.canStatusErrorState = canPassive) ∧
      f.brs = decide (s.blk.canForce 3 ≠ 0 ∧ dataRate (s.blk.canForce 3) (s.blk.canForce 2) ≠ nominalRate (s.blk.canForce 2))) ∧
  (∀ s c x, s.blk.canSends = true → s.blk.host.fragments.find? (fun y => y.1 == codeOf c) = some x → GivesBlock (.canTrainStream c) s fun b =>
    b.host.fragments = (s.blk.host.fragments.filter fun y => y.1 != codeOf c) ∧ b.host.alarms = [] ∧
    ∃ fs : List CanFrame, b.out = s.blk.out ++ fs.map .canFrame ∧ (fs.map fun f => (f.id, f.bytes)) =
      (s.blk.host.alarms.map fun l => (s.blk.canId 0, canPadded l)) ++ x.2.map fun l => (s.blk.canId (codeOf c + 2), canPadded l)) ∧
  (∀ s, s.blk.awake = true → s.blk.isHead = true → s.blk.get Ob.canStatusErrorState = canBusOff → s.blk.mustBeSilent = false →
    GivesBlock .canBusOffRecovery s fun b =>
    b.get Ob.canStatusErrorState = canActive ∧ b.nat Ob.canStatusTxErrors = 0 ∧ b.nat Ob.canStatusRxErrors = 0 ∧
    b.host.alarms = [] ∧ b.host.responses = []) ∧
  (∀ s, s.blk.awake = true → s.blk.isHead = true → s.blk.get Ob.canStatusErrorState = canBusOff → s.blk.mustBeSilent = true →
    GivesBlock .canBusOffRecovery s fun b =>
    b.get Ob.canStatusErrorState = canSilent ∧ b.nat Ob.canStatusTxErrors = 0 ∧ b.nat Ob.canStatusRxErrors = 0 ∧
    b.host = s.blk.host ∧ b.out = s.blk.out) ∧
  (∀ s, s.blk.awake = true → s.blk.isHead = true → s.blk.host.canPending = true → GivesBlock .canConfigApply s fun b =>
    b.host.canPending = false ∧ b.host.canInForce = s.blk.canSettings ∧
    (s.blk.on Ob.canConfigEnable = false → b.get Ob.canStatusErrorState = canOff) ∧
    (s.blk.on Ob.canConfigEnable = true → s.blk.get Ob.canStatusErrorState ≠ canBusOff → s.blk.get Ob.canConfigSilentUntilRequest ≠ 0 →
      s.blk.host.spoken = false → b.get Ob.canStatusErrorState = canSilent) ∧
    (s.blk.on Ob.canConfigEnable = true → (s.blk.get Ob.canConfigSilentUntilRequest = 0 ∨ s.blk.host.spoken = true) →
      s.blk.get Ob.canStatusErrorState ∈ [canOff, canActive, canPassive, canSilent] → b.canSends = true)) ∧
  (∀ s, s.blk.canHears = true → GivesBlock (.canBusError false) s fun b =>
    b.nat Ob.canStatusRxErrors = min (s.blk.nat Ob.canStatusRxErrors + 1) 255 ∧ b.host = s.blk.host) ∧
  (∀ s, s.blk.canHears = true → 247 < s.blk.nat Ob.canStatusTxErrors → GivesBlock (.canBusError true) s fun b =>
    b.get Ob.canStatusErrorState = canBusOff ∧ b.host.fragments = [] ∧
    b.nat Ob.canStatusBusOffCount = min (s.blk.nat Ob.canStatusBusOffCount + 1) 65535) ∧
  (∀ s, s.blk.canHears = true → GivesBlock .ignoredFrame s fun b =>
    b.nat Ob.canStatusIgnoredFrames = min (s.blk.nat Ob.canStatusIgnoredFrames + 1) (2 ^ 32 - 1) ∧
    b.nat Ob.canStatusRxErrors = (if 127 < s.blk.nat Ob.canStatusRxErrors then 127 else s.blk.nat Ob.canStatusRxErrors - 1) ∧
    b.get Ob.canStatusErrorState = (if s.blk.canSends = true then
      (if 127 < s.blk.get Ob.canStatusTxErrors then canPassive else canActive) else s.blk.get Ob.canStatusErrorState) ∧
    b = s.blk.withDict b.dict ∧ ∀ k, k ≠ Ob.canStatusIgnoredFrames → k ≠ Ob.canStatusRxErrors → k ≠ Ob.canStatusErrorState →
      b.get k = s.blk.get k)

/-- An expedited read (R46): an object of 1 to 4 bytes comes in the response, a longer one is refused, over the chain and from a host. The length of
an expedited write (R47), where the checks before it pass: none is 0x0606, more than 4 bytes 0x0607, and 1 to 4 bytes that are not the object's
size are 0x0606 when too few and 0x0607 when too many; an armed unlock apart, no object changes. -/
def Obligations.ExpeditedTransfers : Prop :=
  ((∀ s seq ix sub l, Listens s.blk seq → s.blk.commanded.readBytes s.flash ix sub = .ok l → ix ≠ 0x7000 → l.length ≤ 4 →
    GivesBlock (.read seq ix sub) s fun b => Responds s.blk b seq (responsePayload 1 ix sub ⟨none, l.length, 0, l⟩)) ∧
  (∀ s seq ix sub l, Listens s.blk seq → s.blk.commanded.readBytes s.flash ix sub = .ok l → (ix = 0x7000 ∨ 4 < l.length) →
    GivesBlock (.read seq ix sub) s fun b => Responds s.blk b seq (responsePayload 1 ix sub (.refuse 0x0606 0 0))) ∧
  (∀ s c ix sub l, Ready s.blk c → ix < 65536 → sub < 256 →
    (s.blk.begun c (s.blk.nextHeader c 1 0 ix sub) []).readBytes s.flash ix sub = .ok l → ix ≠ 0x7000 → l.length ≤ 4 →
    GivesBlock (.novezRead c 0 ix sub) s fun b => Answered b c (s.blk.nextHeader c 1 0 ix sub) [] (.done l)) ∧
  (∀ s c ix sub l, Ready s.blk c → ix < 65536 → sub < 256 →
    (s.blk.begun c (s.blk.nextHeader c 1 0 ix sub) []).readBytes s.flash ix sub = .ok l → (ix = 0x7000 ∨ 4 < l.length) →
    GivesBlock (.novezRead c 0 ix sub) s fun b => Answered b c (s.blk.nextHeader c 1 0 ix sub) [] (.abort 0x0606))) ∧
  ((∀ s seq ix sub data o, Listens s.blk seq → ix ≠ 0x1F00 → s.blk.commanded.disarm.writeTarget ix sub = .ok o →
    data.length ≠ s.blk.commanded.disarm.writeSize o sub →
    GivesBlock (.write seq ix sub data) s fun b => b.dict = s.blk.disarm.dict ∧
      Responds s.blk b seq (responsePayload 2 ix sub (.refuse
        (if data.length = 0 then 0x0606 else if 4 < data.length then 0x0607
          else if data.length < s.blk.commanded.disarm.writeSize o sub then 0x0606 else 0x0607) data.length 0))) ∧
  (∀ s seq ix sub data o, Listens s.blk seq → ix ≠ 0x1F00 → s.blk.commanded.disarm.writeTarget ix sub = .ok o → 4 < data.length →
    GivesBlock (.write seq ix sub data) s fun b => b.dict = s.blk.disarm.dict ∧
      Responds s.blk b seq (responsePayload 2 ix sub (.refuse 0x0607 data.length 0))) ∧
  (∀ s seq sub data o, Listens s.blk seq → s.blk.commanded.writeTarget 0x1F00 sub = .ok o → data.length ≠ 2 →
    GivesBlock (.write seq 0x1F00 sub data) s fun b => b.dict = s.blk.dict ∧
      Responds s.blk b seq (responsePayload 2 0x1F00 sub (.refuse
        (if data.length < 2 then 0x0606 else 0x0607) data.length 0))) ∧
  (∀ s c ix sub data o, Ready s.blk c → ix ≠ 0x1F00 → ix < 65536 → sub < 256 → 1 ≤ data.length → data.length ≤ 4 →
    (let b := (s.blk.begun c (s.blk.nextHeader c 2 0 ix sub) data).disarm
     b.writeTarget ix sub = .ok o ∧ data.length ≠ b.writeSize o sub) →
    GivesBlock (.novezWrite c 0 ix sub data) s fun b => Answered b c (s.blk.nextHeader c 2 0 ix sub) data
      (.abort (if data.length < (s.blk.begun c (s.blk.nextHeader c 2 0 ix sub) data).disarm.writeSize o sub then 0x0606 else 0x0607))))

/-- An object of a feature that the variant lacks answers 0x060C to a read and to a write (R2, R237): on an -S part those are the objects
0x4000 to 0x402F. -/
def Obligations.AbsentFeature : Prop :=
  (∀ s seq ix sub, Listens s.blk seq → s.blk.fuses.variantX = false → 0x4000 ≤ ix → ix ≤ 0x402F →
    GivesBlock (.read seq ix sub) s fun b => Responds s.blk b seq (responsePayload 1 ix sub (.refuse 0x060C 0 0)) ∧ b.dict = s.blk.dict) ∧
  (∀ s seq ix sub data, Listens s.blk seq → s.blk.fuses.variantX = false → 0x4000 ≤ ix → ix ≤ 0x402F →
    GivesBlock (.write seq ix sub data) s fun b =>
      Responds s.blk b seq (responsePayload 2 ix sub (.refuse 0x060C data.length 0)) ∧ b.dict = s.blk.disarm.dict) ∧
  (∀ s seq ix sub length, Listens s.blk seq → s.blk.fuses.variantX = false → 0x4000 ≤ ix → ix ≤ 0x402F →
    GivesBlock (.segInitRead seq ix sub length) s fun b =>
      Responds s.blk b seq (responsePayload 3 ix sub (.refuse 0x060C length 0)) ∧ b.dict = s.blk.dict) ∧
  (∀ s seq ix sub length, Listens s.blk seq → s.blk.fuses.variantX = false → 0x4000 ≤ ix → ix ≤ 0x402F →
    GivesBlock (.segInitWrite seq ix sub length) s fun b =>
      Responds s.blk b seq (responsePayload 4 ix sub (.refuse 0x060C length 0)) ∧ b.dict = s.blk.disarm.dict) ∧
  (∀ s ix sub data, s.blk.awake = true → s.blk.fuses.variantX = false → 0x4000 ≤ ix → ix ≤ 0x402F →
    GivesBlock (.dictionaryWrite ix sub data) s fun b => b = s.blk.disarm.emit (.answer (some 0x060C))) ∧
  (∀ s c ix sub, Ready s.blk c → s.blk.fuses.variantX = false → 0x4000 ≤ ix → ix ≤ 0x402F → sub < 256 →
    GivesBlock (.novezRead c 0 ix sub) s fun b => Answered b c (s.blk.nextHeader c 1 0 ix sub) [] (.abort 0x060C)) ∧
  (∀ s c ix sub data, Ready s.blk c → s.blk.fuses.variantX = false → 0x4000 ≤ ix → ix ≤ 0x402F → sub < 256 → 1 ≤ data.length →
    data.length ≤ 4 → GivesBlock (.novezWrite c 0 ix sub data) s fun b =>
      Answered b c (s.blk.nextHeader c 2 0 ix sub) data (.abort 0x060C) ∧ ∀ k, k / 256 = ix → b.get k = s.blk.get k) ∧
  (∀ s c ix sub length, Ready s.blk c → s.blk.fuses.variantX = false → 0x4000 ≤ ix → ix ≤ 0x402F → sub < 256 → length < 65536 →
    GivesBlock (.novezSegInitRead c 0 ix sub length) s fun b =>
      Answered b c (s.blk.nextHeader c 3 0 ix sub) (bytesOf 2 length) (.abort 0x060C)) ∧
  (∀ s c ix sub x, Ready s.blk c → s.blk.fuses.variantX = false → (s.blk.hostPort c).transfer = some x → x.writing = true →
    x.position = 0 → x.data.length = x.length → x.length < 65536 → 0x4000 ≤ x.ix → x.ix ≤ 0x402F → ix < 65536 → sub < 256 →
    GivesBlock (.novezSegEnd c 0 ix sub x.length) s fun b =>
      Answered b c (s.blk.nextHeader c 7 0 ix sub) (bytesOf 2 x.length) (.abort 0x060C) ∧ (b.hostPort c).transfer = none)

/-- The ties of BedrockThresholds (R82): a write that would leave CellUnder at or above CellOver, or ThermCold at or above ThermHot, is refused
with 0x0605 and leaves the entries, on every way in: a write of the dictionary, one over the chain, the end of a segmented one, and a host's at
the head. A write of all entries is judged by its own values. -/
def Obligations.ThresholdTies : Prop :=
  (∀ s sub data, s.blk.awake = true → BreaksTies s.blk.disarm sub data longest →
    GivesBlock (.dictionaryWrite 0x1004 sub data) s fun b => b = s.blk.disarm.emit (.answer (some 0x0605)) ∧ KeepsThresholds s.blk b) ∧
  (∀ s seq sub data, Listens s.blk seq → BreaksTies s.blk.disarm sub data 4 → GivesBlock (.write seq 0x1004 sub data) s fun b =>
    Responds s.blk b seq (responsePayload 2 0x1004 sub (.refuse 0x0605 data.length 0)) ∧ KeepsThresholds s.blk b) ∧
  (∀ s seq ix sub x, Listens s.blk seq → s.blk.access.transfer = some x → x.requester = .chain → x.writing = true →
    x.data.length = x.length → x.ix = 0x1004 → BreaksTies s.blk.disarm x.sub x.data longest →
    GivesBlock (.segEnd seq ix sub x.length) s fun b =>
      Responds s.blk b seq (responsePayload 7 ix sub (.refuse 0x0605 x.length 0)) ∧ b.access.transfer = none ∧ KeepsThresholds s.blk b) ∧
  (∀ s c sub data, Ready s.blk c → sub < 256 → 1 ≤ data.length → data.length ≤ 4 → BreaksTies s.blk.disarm sub data 4 →
    GivesBlock (.novezWrite c 0 0x1004 sub data) s fun b =>
      Answered b c (s.blk.nextHeader c 2 0 0x1004 sub) data (.abort 0x0605) ∧ KeepsThresholds s.blk b) ∧
  (∀ s c ix sub x, Ready s.blk c → ix < 65536 → sub < 256 → (s.blk.hostPort c).transfer = some x → x.writing = true → x.position = 0 →
    x.data.length = x.length → x.ix = 0x1004 → (s.blk.access.restart c.requester).transfer = none →
    BreaksTies s.blk.disarm x.sub x.data longest → GivesBlock (.novezSegEnd c 0 ix sub x.length) s fun b =>
      Answered b c (s.blk.nextHeader c 7 0 ix sub) (bytesOf 2 x.length) (.abort 0x0605) ∧ (b.hostPort c).transfer = none ∧
      b.access.transfer = none ∧ KeepsThresholds s.blk b)

/-- A READ on SPI (R363): the status byte, the response in the slot, zeros beyond it; the slot is consumed only when the host clocks through the
data CRC, and a PENDING or NONE response consumes nothing. -/
def Obligations.SpiReads : Prop :=
  (∀ s message clocked, s.blk.carrierOpen .spi = true → s.blk.host.spi.slot = some message → 0 < clocked →
    GivesBlock (.spiRead clocked) s fun b =>
      b.out = s.blk.out ++ [.spi ((bytesOf 1 s.blk.spiStatus ++ message ++ bytesOf (clocked - (1 + message.length)) 0).take clocked)] ∧
      b.host.spi.slot = (if 1 + message.length ≤ clocked then none else some message) ∧ b.dict = s.blk.dict) ∧
  (∀ s clocked, s.blk.carrierOpen .spi = true → s.blk.host.spi.slot = none → 0 < clocked → GivesBlock (.spiRead clocked) s fun b =>
    b.out = s.blk.out ++ [.spi ((bytesOf 1 s.blk.spiStatus ++
      novezMessage (bytesOf 5 0) (bytesOf 1 (if s.blk.host.spi.executing.isSome then 0xFE else 0xFF)) ++ bytesOf (clocked - 12) 0).take clocked)] ∧
    b.host.spi = s.blk.host.spi ∧ b.dict = s.blk.dict) ∧
  (∀ s message clocked, s.blk.carrierOpen .spi = true → s.blk.host.spi.slot = some message → 0 < clocked → s.blk.isHead = true →
    GivesBlock (.spiCommand (bytesOf 1 0x3F ++ bytesOf (clocked - 1) 0)) s fun b =>
      b.out = s.blk.out ++ [.spi ((bytesOf 1 s.blk.spiStatus ++ message ++ bytesOf (clocked - (1 + message.length)) 0).take clocked)] ∧
      b.host.spi.slot = (if 1 + message.length ≤ clocked then none else some message))

/-- The block takes its commands from the front of its queue: a step is the front command on the state with the queue's rest. -/
def Obligations.StepRunsFront : Prop :=
  ∀ (c : Instr) (s : State), step { s with pending := c :: s.pending } = exec c s

/-- With an empty queue a step is one cycle of the timebase, the model's choice (log entry 2): 2.5 ns of chain time in Standby and above, nothing
below. No step stops, the model's choice too (log entry 1): whatever the command, there is a next state, in which the queue has lost its front and
nothing else. Only the erase of a sector and the program of a page touch the flash (R438, R440), and thermal shutdown, whose page under way completes
(R420; how, is the model's choice, log entries 9 and 15). -/
def Obligations.StepsGoOn : Prop :=
  ((∀ s : State, s.pending = [] → s.blk.awake = false → step s = .next s) ∧
  (∀ s : State, s.pending = [] → s.blk.awake = true → s.blk.tb.us < 2 ^ 48 → s.blk.tb.sub < 399 →
    step s = .next { s with blk := s.blk.withTb { s.blk.tb with sub := s.blk.tb.sub + 1 } }) ∧
  (∀ s : State, s.pending = [] → s.blk.awake = true → s.blk.tb.us < 2 ^ 48 → s.blk.tb.sub = 399 →
    step s = .next { s with blk := s.blk.withTb { s.blk.tb with us := (s.blk.tb.us + 1) % 2 ^ 48, sub := 0 } })) ∧
  (∀ s : State, ∃ t, step s = .next t ∧ t.pending = s.pending.tail) ∧
  (∀ c s t, c ≠ .sectorEraseComplete → c ≠ .nvmPageProgram → c ≠ .thermalShutdown → exec c s = .next t → t.flash = s.flash)

/-- The state after reset: what POR leaves by the spec (R75, R88, R98, R103), and the model's choices of log entries 2 to 6. What the invariants
above ask for holds after reset. -/
def Obligations.ResetState : Prop :=
  (State.reset.pending = [] ∧ State.reset.flash = [] ∧ State.reset.blk.power.mode = .sleep ∧ State.reset.blk.awake = false ∧
    State.reset.blk.journal.entries = [] ∧ State.reset.blk.flint.regs = [] ∧ State.reset.blk.dict = [] ∧ State.reset.blk.out = [] ∧
    State.reset.blk.bedrock = Bedrock.fresh ∧ Bedrock.fresh.period = 60 ∧ Bedrock.fresh.overMv = 3650 ∧ Bedrock.fresh.underMv = 2500 ∧
    Bedrock.fresh.hotLimit = 600 ∧ Bedrock.fresh.coldLimit = -300 ∧ Bedrock.fresh.enable = 15 ∧ Bedrock.fresh.cellCount = 32) ∧
  (Flash.wf State.reset.flash = true ∧ Dict.wf State.reset.blk.dict = true ∧ State.reset.blk.tb.us < 2 ^ 48 ∧ State.reset.blk.tb.sub < 400 ∧
    State.reset.blk.get Ob.unlockState = 0 ∧ State.reset.blk.NeighboursOff)

/-- The flash keeps its canonical form: addresses rising inside the flash, none listed at the erased value. -/
def Obligations.FlashCanonical : Prop :=
  ∀ s t : State, Flash.wf s.flash = true → step s = .next t → Flash.wf t.flash = true

/-- The dictionary keeps its canonical form: keys rising, none listed at its default. -/
def Obligations.DictionaryCanonical : Prop :=
  ∀ s t : State, Dict.wf s.blk.dict = true → step s = .next t → Dict.wf t.blk.dict = true

/-- The sub-tick count stays within 0 to 399 and the count of microseconds within 48 bits (R13, R113). -/
def Obligations.TimebaseInRange : Prop :=
  ∀ s t : State, s.blk.tb.us < 2 ^ 48 ∧ s.blk.tb.sub < 400 → step s = .next t → t.blk.tb.us < 2 ^ 48 ∧ t.blk.tb.sub < 400

/-- Nobody writes what is fused or in the factory record (R43, class F). -/
def Obligations.FactoryRecordKept : Prop :=
  ∀ s t : State, step s = .next t → t.blk.fuses = s.blk.fuses

/-- The unlock belongs to Standby (R41, R42): no step leaves a node armed or unlocked in another state. -/
def Obligations.UnlockOnlyInStandby : Prop :=
  ∀ s t : State, (s.blk.get Ob.unlockState ≠ 0 → s.blk.power.mode = .standby) → step s = .next t →
    (t.blk.get Ob.unlockState ≠ 0 → t.blk.power.mode = .standby)

/-- The interlock (R206): whatever runs, no step leaves two neighbouring switches conducting. -/
def Obligations.InterlockKept : Prop :=
  ∀ s t : State, s.blk.NeighboursOff → step s = .next t → t.blk.NeighboursOff

/-- What a command of the measuring side: its lanes, slots, samples and captures leaves alone: fuses, power, bedrock, journal, nvm, phys, access,
host, diag but for the sticky saturation flags (R13), chainSet, socTable, tempCurve, out, the flash and the queue. What a command of the charge
governor and the throttle leaves alone: fuses, power, bedrock, journal, nvm, phys, win but for the windows that its meter readings go into (R223,
R234), cap, keeper, aux, access, host, diag but for those flags, chainSet, socTable, tempCurve, out, the flash and the queue. What a command of
the analysis of E6 leaves alone: fuses, power, bedrock, journal, nvm, phys but for the time until which a head has started on DU (R116), win, cap,
keeper, aux, access, host, diag but for those flags, thermal, socTable, tempCurve, the flash and the queue. -/
def Obligations.FrameOfMeasurement : Prop :=
  (∀ c s t, inMeasuring c = true → exec c s = .next t → t.flash = s.flash ∧ t.pending = s.pending ∧
    t.blk.fuses = s.blk.fuses ∧ t.blk.power = s.blk.power ∧ t.blk.bedrock = s.blk.bedrock ∧ t.blk.journal = s.blk.journal ∧
    t.blk.nvm = s.blk.nvm ∧ t.blk.phys = s.blk.phys ∧ t.blk.access = s.blk.access ∧ t.blk.host = s.blk.host ∧
    t.blk.diag = { s.blk.diag with saturated := t.blk.diag.saturated } ∧
    t.blk.chainSet = s.blk.chainSet ∧ t.blk.socTable = s.blk.socTable ∧ t.blk.tempCurve = s.blk.tempCurve ∧ t.blk.out = s.blk.out) ∧
  (∀ c s t, inGoverning c = true → exec c s = .next t → t.flash = s.flash ∧ t.pending = s.pending ∧
    t.blk.fuses = s.blk.fuses ∧ t.blk.power = s.blk.power ∧ t.blk.bedrock = s.blk.bedrock ∧ t.blk.journal = s.blk.journal ∧
    t.blk.nvm = s.blk.nvm ∧ t.blk.phys = s.blk.phys ∧
    t.blk.win = { s.blk.win with opened := t.blk.win.opened, closing := t.blk.win.closing } ∧ t.blk.cap = s.blk.cap ∧ t.blk.keeper = s.blk.keeper ∧
    t.blk.aux = s.blk.aux ∧ t.blk.access = s.blk.access ∧ t.blk.host = s.blk.host ∧
    t.blk.diag = { s.blk.diag with saturated := t.blk.diag.saturated } ∧ t.blk.chainSet = s.blk.chainSet ∧
    t.blk.socTable = s.blk.socTable ∧ t.blk.tempCurve = s.blk.tempCurve ∧ t.blk.out = s.blk.out) ∧
  (∀ c s t, inAnalysing c = true → exec c s = .next t → t.flash = s.flash ∧ t.pending = s.pending ∧
    t.blk.fuses = s.blk.fuses ∧ t.blk.power = s.blk.power ∧ t.blk.bedrock = s.blk.bedrock ∧ t.blk.journal = s.blk.journal ∧
    t.blk.nvm = s.blk.nvm ∧ t.blk.phys = { s.blk.phys with duUntil := t.blk.phys.duUntil } ∧ t.blk.win = s.blk.win ∧
    t.blk.cap = s.blk.cap ∧ t.blk.keeper = s.blk.keeper ∧ t.blk.aux = s.blk.aux ∧ t.blk.access = s.blk.access ∧ t.blk.host = s.blk.host ∧
    t.blk.diag = { s.blk.diag with saturated := t.blk.diag.saturated } ∧ t.blk.thermal = s.blk.thermal ∧
    t.blk.socTable = s.blk.socTable ∧ t.blk.tempCurve = s.blk.tempCurve)

/-- What a command of the clocks, the chain time and the ports leaves alone: fuses, power, bedrock, journal, nvm, gov, lanes, cap, keeper while
the node stays, or stays not, the current keeper, aux, imp, access, host, diag, thermal, chainSet, socTable, tempCurve, free, the flash and the
queue. What a command of the frames and censuses at a node leaves alone: the same. What a command of the answers to pulses and the triggers leaves
alone: fuses, bedrock, journal, flint, nvm, phys but for the polarity of the next held state (R279) and the time until which a head has started on
DU (R116), win, keeper, aux, access, host, diag but for the engines that saturated (R13), thermal, chainSet, socTable, tempCurve, free, the flash
and the queue. What a command of the chain commands at their destination leaves alone: fuses, bedrock, flint and nvm but where IncidentSummary is
read from flash (R438), tb, phys, gov, lanes, win, cap, keeper, aux, imp, diag, thermal, socTable, tempCurve, free, the flash and the queue. -/
def Obligations.FrameOfLink : Prop :=
  (∀ c s t, inTiming c = true → exec c s = .next t → t.flash = s.flash ∧ t.pending = s.pending ∧
    t.blk.fuses = s.blk.fuses ∧ t.blk.power = s.blk.power ∧ t.blk.bedrock = s.blk.bedrock ∧ t.blk.journal = s.blk.journal ∧
    t.blk.nvm = s.blk.nvm ∧ t.blk.gov = s.blk.gov ∧ t.blk.lanes = s.blk.lanes ∧ t.blk.cap = s.blk.cap ∧
    (t.blk.isKeeper = s.blk.isKeeper → t.blk.keeper = s.blk.keeper) ∧
    t.blk.aux = s.blk.aux ∧ t.blk.imp = s.blk.imp ∧ t.blk.access = s.blk.access ∧ t.blk.host = s.blk.host ∧ t.blk.diag = s.blk.diag ∧
    t.blk.thermal = s.blk.thermal ∧ t.blk.chainSet = s.blk.chainSet ∧ t.blk.socTable = s.blk.socTable ∧ t.blk.tempCurve = s.blk.tempCurve ∧
    t.blk.free = s.blk.free) ∧
  (∀ c s t, inRelaying c = true → exec c s = .next t → t.flash = s.flash ∧ t.pending = s.pending ∧
    t.blk.fuses = s.blk.fuses ∧ t.blk.power = s.blk.power ∧ t.blk.bedrock = s.blk.bedrock ∧ t.blk.journal = s.blk.journal ∧
    t.blk.nvm = s.blk.nvm ∧ t.blk.gov = s.blk.gov ∧ t.blk.lanes = s.blk.lanes ∧ t.blk.cap = s.blk.cap ∧
    (t.blk.isKeeper = s.blk.isKeeper → t.blk.keeper = s.blk.keeper) ∧
    t.blk.aux = s.blk.aux ∧ t.blk.imp = s.blk.imp ∧ t.blk.access = s.blk.access ∧ t.blk.host = s.blk.host ∧ t.blk.diag = s.blk.diag ∧
    t.blk.thermal = s.blk.thermal ∧ t.blk.chainSet = s.blk.chainSet ∧ t.blk.socTable = s.blk.socTable ∧ t.blk.tempCurve = s.blk.tempCurve ∧
    t.blk.free = s.blk.free) ∧
  (∀ c s t, inStreaming c = true → exec c s = .next t → t.flash = s.flash ∧ t.pending = s.pending ∧
    t.blk.fuses = s.blk.fuses ∧ t.blk.bedrock = s.blk.bedrock ∧ t.blk.journal = s.blk.journal ∧ t.blk.flint = s.blk.flint ∧
    t.blk.nvm = s.blk.nvm ∧ t.blk.phys = { s.blk.phys with
      dlPositive := t.blk.phys.dlPositive, duPositive := t.blk.phys.duPositive, duUntil := t.blk.phys.duUntil } ∧
    t.blk.win = s.blk.win ∧ t.blk.keeper = s.blk.keeper ∧ t.blk.aux = s.blk.aux ∧
    t.blk.access = s.blk.access ∧ t.blk.host = s.blk.host ∧ t.blk.diag = { s.blk.diag with saturated := t.blk.diag.saturated } ∧
    t.blk.thermal = s.blk.thermal ∧
    t.blk.chainSet = s.blk.chainSet ∧ t.blk.socTable = s.blk.socTable ∧ t.blk.tempCurve = s.blk.tempCurve ∧ t.blk.free = s.blk.free) ∧
  (∀ c s t, inServing c = true → exec c s = .next t → t.flash = s.flash ∧ t.pending = s.pending ∧
    t.blk.fuses = s.blk.fuses ∧ t.blk.bedrock = s.blk.bedrock ∧
    ((∀ seq sub l, c ≠ .segInitRead seq 0x7004 sub l) → t.blk.flint = s.blk.flint ∧ t.blk.nvm = s.blk.nvm) ∧ t.blk.tb = s.blk.tb ∧
    t.blk.phys = s.blk.phys ∧ t.blk.gov = s.blk.gov ∧ t.blk.lanes = s.blk.lanes ∧ t.blk.win = s.blk.win ∧ t.blk.cap = s.blk.cap ∧
    t.blk.keeper = s.blk.keeper ∧ t.blk.aux = s.blk.aux ∧ t.blk.imp = s.blk.imp ∧ t.blk.diag = s.blk.diag ∧ t.blk.thermal = s.blk.thermal ∧
    t.blk.socTable = s.blk.socTable ∧ t.blk.tempCurve = s.blk.tempCurve ∧ t.blk.free = s.blk.free)

/-- What a command of the host side of a head leaves alone: fuses, bedrock, journal, nvm, phys but for the time until which the head has started
on DU (R116), gov, lanes, win, cap, keeper, aux, imp, access, diag, thermal, chainSet, socTable, tempCurve, the flash and the queue. What a
command of the monitors and tests leaves alone: fuses, bedrock but for what its scrub in Sleep meets (R404), journal, phys, gov, lanes, win, cap,
keeper, aux, imp, link, access, host, thermal, chainSet, socTable, tempCurve, out, free, the flash and the queue. What a command of the wake
events and Bedrock in Sleep leaves alone: fuses, journal, flint, nvm, lanes, win, cap, keeper and link but for the frames that a tone pre-empts
(R94), aux, imp, access, diag, thermal, chainSet, socTable, tempCurve, free, the flash and the queue. Commands that change no entry of the
dictionary: what they work on are queues, counters and records beside it. A tone changes the count of replaced responses and, at a head, Attention
alone there (R94, R365), a pairing timeout the status of temperature estimates alone, and a segment UnlockState alone, where its refusal ends the
transfer of a write (R42; that such a refusal locks is the model's choice, log 39). -/
def Obligations.FrameOfSurroundings : Prop :=
  (∀ c s t, inHosting c = true → exec c s = .next t → t.flash = s.flash ∧ t.pending = s.pending ∧
    t.blk.fuses = s.blk.fuses ∧ t.blk.bedrock = s.blk.bedrock ∧ t.blk.journal = s.blk.journal ∧ t.blk.nvm = s.blk.nvm ∧
    t.blk.phys = { s.blk.phys with duUntil := t.blk.phys.duUntil } ∧ t.blk.gov = s.blk.gov ∧ t.blk.lanes = s.blk.lanes ∧ t.blk.win = s.blk.win ∧
    t.blk.cap = s.blk.cap ∧ t.blk.keeper = s.blk.keeper ∧ t.blk.aux = s.blk.aux ∧ t.blk.imp = s.blk.imp ∧ t.blk.access = s.blk.access ∧
    t.blk.diag = s.blk.diag ∧ t.blk.thermal = s.blk.thermal ∧
    t.blk.chainSet = s.blk.chainSet ∧ t.blk.socTable = s.blk.socTable ∧ t.blk.tempCurve = s.blk.tempCurve) ∧
  (∀ c s t, inGuarding c = true → exec c s = .next t → t.flash = s.flash ∧ t.pending = s.pending ∧
    t.blk.fuses = s.blk.fuses ∧ t.blk.bedrock = { s.blk.bedrock with scrubbed := t.blk.bedrock.scrubbed } ∧
    t.blk.journal = s.blk.journal ∧ t.blk.phys = s.blk.phys ∧ t.blk.gov = s.blk.gov ∧
    t.blk.lanes = s.blk.lanes ∧ t.blk.win = s.blk.win ∧ t.blk.cap = s.blk.cap ∧ t.blk.keeper = s.blk.keeper ∧ t.blk.aux = s.blk.aux ∧
    t.blk.imp = s.blk.imp ∧ t.blk.link = s.blk.link ∧ t.blk.access = s.blk.access ∧ t.blk.host = s.blk.host ∧ t.blk.thermal = s.blk.thermal ∧
    t.blk.chainSet = s.blk.chainSet ∧ t.blk.socTable = s.blk.socTable ∧ t.blk.tempCurve = s.blk.tempCurve ∧ t.blk.out = s.blk.out ∧
    t.blk.free = s.blk.free) ∧
  (∀ c s t, inWaking c = true → exec c s = .next t → t.flash = s.flash ∧ t.pending = s.pending ∧
    t.blk.fuses = s.blk.fuses ∧ t.blk.journal = s.blk.journal ∧ t.blk.flint = s.blk.flint ∧ t.blk.nvm = s.blk.nvm ∧ t.blk.lanes = s.blk.lanes ∧
    t.blk.win = s.blk.win ∧ t.blk.cap = s.blk.cap ∧ t.blk.keeper = { s.blk.keeper with outgoing := t.blk.keeper.outgoing } ∧ t.blk.aux = s.blk.aux ∧
    t.blk.imp = s.blk.imp ∧ t.blk.link = { s.blk.link with
      census := t.blk.link.census, own := t.blk.link.own, queue := t.blk.link.queue } ∧
    t.blk.access = s.blk.access ∧ t.blk.diag = s.blk.diag ∧ t.blk.thermal = s.blk.thermal ∧
    t.blk.chainSet = s.blk.chainSet ∧ t.blk.socTable = s.blk.socTable ∧ t.blk.tempCurve = s.blk.tempCurve ∧ t.blk.free = s.blk.free) ∧
  (∀ c s t, leavesDict c = true → exec c s = .next t → t.blk.dict = s.blk.dict) ∧
  (∀ port extended at' slept s t, exec (.wakeTone port extended at' slept) s = .next t →
    ∀ k ≠ Ob.triggerDropsReplaced, (s.blk.isHead = true → k ≠ Ob.attention) → t.blk.get k = s.blk.get k) ∧
  (∀ entry s t, exec (.ambientPairingTimeout entry) s = .next t → ∀ k, (∀ i, k ≠ chKey Ob.tempEstimateStatus i) → t.blk.get k = s.blk.get k) ∧
  (∀ seq ix sub n s t, exec (.segRead seq ix sub n) s = .next t → ∀ k ≠ Ob.unlockState, t.blk.get k = s.blk.get k) ∧
  (∀ seq ix sub n data s t, exec (.segWrite seq ix sub n data) s = .next t → ∀ k ≠ Ob.unlockState, t.blk.get k = s.blk.get k)

end
end

