-- ==== Sys2Proof/Laws/State.lean ====
section
/-! SUPPORT. One lemma per part of the package and update of a part, so that no proof unfolds an update; and what the updates do to the
values that are read through the dictionary. -/

namespace Sys2Proof.Machine

/-! #### withFuses -/

@[simp] theorem Block.withFuses_fuses (b : Block) (v) : (b.withFuses v).fuses = v := rfl
@[simp] theorem Block.withFuses_power (b : Block) (v) : (b.withFuses v).power = b.power := rfl
@[simp] theorem Block.withFuses_bedrock (b : Block) (v) : (b.withFuses v).bedrock = b.bedrock := rfl
@[simp] theorem Block.withFuses_journal (b : Block) (v) : (b.withFuses v).journal = b.journal := rfl
@[simp] theorem Block.withFuses_flint (b : Block) (v) : (b.withFuses v).flint = b.flint := rfl
@[simp] theorem Block.withFuses_nvm (b : Block) (v) : (b.withFuses v).nvm = b.nvm := rfl
@[simp] theorem Block.withFuses_tb (b : Block) (v) : (b.withFuses v).tb = b.tb := rfl
@[simp] theorem Block.withFuses_phys (b : Block) (v) : (b.withFuses v).phys = b.phys := rfl
@[simp] theorem Block.withFuses_gov (b : Block) (v) : (b.withFuses v).gov = b.gov := rfl
@[simp] theorem Block.withFuses_lanes (b : Block) (v) : (b.withFuses v).lanes = b.lanes := rfl
@[simp] theorem Block.withFuses_win (b : Block) (v) : (b.withFuses v).win = b.win := rfl
@[simp] theorem Block.withFuses_cap (b : Block) (v) : (b.withFuses v).cap = b.cap := rfl
@[simp] theorem Block.withFuses_keeper (b : Block) (v) : (b.withFuses v).keeper = b.keeper := rfl
@[simp] theorem Block.withFuses_aux (b : Block) (v) : (b.withFuses v).aux = b.aux := rfl
@[simp] theorem Block.withFuses_imp (b : Block) (v) : (b.withFuses v).imp = b.imp := rfl
@[simp] theorem Block.withFuses_link (b : Block) (v) : (b.withFuses v).link = b.link := rfl
@[simp] theorem Block.withFuses_access (b : Block) (v) : (b.withFuses v).access = b.access := rfl
@[simp] theorem Block.withFuses_host (b : Block) (v) : (b.withFuses v).host = b.host := rfl
@[simp] theorem Block.withFuses_diag (b : Block) (v) : (b.withFuses v).diag = b.diag := rfl
@[simp] theorem Block.withFuses_thermal (b : Block) (v) : (b.withFuses v).thermal = b.thermal := rfl
@[simp] theorem Block.withFuses_chainSet (b : Block) (v) : (b.withFuses v).chainSet = b.chainSet := rfl
@[simp] theorem Block.withFuses_socTable (b : Block) (v) : (b.withFuses v).socTable = b.socTable := rfl
@[simp] theorem Block.withFuses_tempCurve (b : Block) (v) : (b.withFuses v).tempCurve = b.tempCurve := rfl
@[simp] theorem Block.withFuses_dict (b : Block) (v) : (b.withFuses v).dict = b.dict := rfl
@[simp] theorem Block.withFuses_out (b : Block) (v) : (b.withFuses v).out = b.out := rfl
@[simp] theorem Block.withFuses_free (b : Block) (v) : (b.withFuses v).free = b.free := rfl
@[simp] theorem Block.withFuses_get (b : Block) (v) (k : Nat) : (b.withFuses v).get k = b.get k := rfl
@[simp] theorem Block.withFuses_nat (b : Block) (v) (k : Nat) : (b.withFuses v).nat k = b.nat k := rfl
@[simp] theorem Block.withFuses_on (b : Block) (v) (k : Nat) : (b.withFuses v).on k = b.on k := rfl
@[simp] theorem Block.withFuses_bit (b : Block) (v) (k i : Nat) : (b.withFuses v).bit k i = b.bit k i := rfl
@[simp] theorem Block.withFuses_isHead (b : Block) (v) : (b.withFuses v).isHead = b.isHead := rfl
@[simp] theorem Block.withFuses_cells (b : Block) (v) : (b.withFuses v).cells = b.cells := rfl
@[simp] theorem Block.withFuses_noCells (b : Block) (v) : (b.withFuses v).noCells = b.noCells := rfl
@[simp] theorem Block.withFuses_live (b : Block) (v) (s : Nat) : (b.withFuses v).live s = b.live s := rfl
@[simp] theorem Block.withFuses_latched (b : Block) (v) (s : Nat) : (b.withFuses v).latched s = b.latched s := rfl
@[simp] theorem Block.withFuses_anyLatched (b : Block) (v) : (b.withFuses v).anyLatched = b.anyLatched := rfl
@[simp] theorem Block.withFuses_awake (b : Block) (v) : (b.withFuses v).awake = b.awake := rfl
@[simp] theorem Block.withFuses_measuring (b : Block) (v) : (b.withFuses v).measuring = b.measuring := rfl
@[simp] theorem Block.withFuses_inFull (b : Block) (v) : (b.withFuses v).inFull = b.inFull := rfl
@[simp] theorem Block.withFuses_now (b : Block) (v) : (b.withFuses v).now = b.now := rfl
@[simp] theorem Block.withFuses_engineRuns (b : Block) (v) (k : Nat) : (b.withFuses v).engineRuns k = b.engineRuns k := rfl

/-! #### withPower -/

@[simp] theorem Block.withPower_fuses (b : Block) (v) : (b.withPower v).fuses = b.fuses := rfl
@[simp] theorem Block.withPower_power (b : Block) (v) : (b.withPower v).power = v := rfl
@[simp] theorem Block.withPower_bedrock (b : Block) (v) : (b.withPower v).bedrock = b.bedrock := rfl
@[simp] theorem Block.withPower_journal (b : Block) (v) : (b.withPower v).journal = b.journal := rfl
@[simp] theorem Block.withPower_flint (b : Block) (v) : (b.withPower v).flint = b.flint := rfl
@[simp] theorem Block.withPower_nvm (b : Block) (v) : (b.withPower v).nvm = b.nvm := rfl
@[simp] theorem Block.withPower_tb (b : Block) (v) : (b.withPower v).tb = b.tb := rfl
@[simp] theorem Block.withPower_phys (b : Block) (v) : (b.withPower v).phys = b.phys := rfl
@[simp] theorem Block.withPower_gov (b : Block) (v) : (b.withPower v).gov = b.gov := rfl
@[simp] theorem Block.withPower_lanes (b : Block) (v) : (b.withPower v).lanes = b.lanes := rfl
@[simp] theorem Block.withPower_win (b : Block) (v) : (b.withPower v).win = b.win := rfl
@[simp] theorem Block.withPower_cap (b : Block) (v) : (b.withPower v).cap = b.cap := rfl
@[simp] theorem Block.withPower_keeper (b : Block) (v) : (b.withPower v).keeper = b.keeper := rfl
@[simp] theorem Block.withPower_aux (b : Block) (v) : (b.withPower v).aux = b.aux := rfl
@[simp] theorem Block.withPower_imp (b : Block) (v) : (b.withPower v).imp = b.imp := rfl
@[simp] theorem Block.withPower_link (b : Block) (v) : (b.withPower v).link = b.link := rfl
@[simp] theorem Block.withPower_access (b : Block) (v) : (b.withPower v).access = b.access := rfl
@[simp] theorem Block.withPower_host (b : Block) (v) : (b.withPower v).host = b.host := rfl
@[simp] theorem Block.withPower_diag (b : Block) (v) : (b.withPower v).diag = b.diag := rfl
@[simp] theorem Block.withPower_thermal (b : Block) (v) : (b.withPower v).thermal = b.thermal := rfl
@[simp] theorem Block.withPower_chainSet (b : Block) (v) : (b.withPower v).chainSet = b.chainSet := rfl
@[simp] theorem Block.withPower_socTable (b : Block) (v) : (b.withPower v).socTable = b.socTable := rfl
@[simp] theorem Block.withPower_tempCurve (b : Block) (v) : (b.withPower v).tempCurve = b.tempCurve := rfl
@[simp] theorem Block.withPower_dict (b : Block) (v) : (b.withPower v).dict = b.dict := rfl
@[simp] theorem Block.withPower_out (b : Block) (v) : (b.withPower v).out = b.out := rfl
@[simp] theorem Block.withPower_free (b : Block) (v) : (b.withPower v).free = b.free := rfl
@[simp] theorem Block.withPower_get (b : Block) (v) (k : Nat) : (b.withPower v).get k = b.get k := rfl
@[simp] theorem Block.withPower_nat (b : Block) (v) (k : Nat) : (b.withPower v).nat k = b.nat k := rfl
@[simp] theorem Block.withPower_on (b : Block) (v) (k : Nat) : (b.withPower v).on k = b.on k := rfl
@[simp] theorem Block.withPower_bit (b : Block) (v) (k i : Nat) : (b.withPower v).bit k i = b.bit k i := rfl
@[simp] theorem Block.withPower_isHead (b : Block) (v) : (b.withPower v).isHead = b.isHead := rfl
@[simp] theorem Block.withPower_cells (b : Block) (v) : (b.withPower v).cells = b.cells := rfl
@[simp] theorem Block.withPower_noCells (b : Block) (v) : (b.withPower v).noCells = b.noCells := rfl
@[simp] theorem Block.withPower_live (b : Block) (v) (s : Nat) : (b.withPower v).live s = b.live s := rfl
@[simp] theorem Block.withPower_latched (b : Block) (v) (s : Nat) : (b.withPower v).latched s = b.latched s := rfl
@[simp] theorem Block.withPower_anyLatched (b : Block) (v) : (b.withPower v).anyLatched = b.anyLatched := rfl
@[simp] theorem Block.withPower_now (b : Block) (v) : (b.withPower v).now = b.now := rfl
@[simp] theorem Block.withPower_engineRuns (b : Block) (v) (k : Nat) : (b.withPower v).engineRuns k = b.engineRuns k := rfl

/-! #### withBedrock -/

@[simp] theorem Block.withBedrock_fuses (b : Block) (v) : (b.withBedrock v).fuses = b.fuses := rfl
@[simp] theorem Block.withBedrock_power (b : Block) (v) : (b.withBedrock v).power = b.power := rfl
@[simp] theorem Block.withBedrock_bedrock (b : Block) (v) : (b.withBedrock v).bedrock = v := rfl
@[simp] theorem Block.withBedrock_journal (b : Block) (v) : (b.withBedrock v).journal = b.journal := rfl
@[simp] theorem Block.withBedrock_flint (b : Block) (v) : (b.withBedrock v).flint = b.flint := rfl
@[simp] theorem Block.withBedrock_nvm (b : Block) (v) : (b.withBedrock v).nvm = b.nvm := rfl
@[simp] theorem Block.withBedrock_tb (b : Block) (v) : (b.withBedrock v).tb = b.tb := rfl
@[simp] theorem Block.withBedrock_phys (b : Block) (v) : (b.withBedrock v).phys = b.phys := rfl
@[simp] theorem Block.withBedrock_gov (b : Block) (v) : (b.withBedrock v).gov = b.gov := rfl
@[simp] theorem Block.withBedrock_lanes (b : Block) (v) : (b.withBedrock v).lanes = b.lanes := rfl
@[simp] theorem Block.withBedrock_win (b : Block) (v) : (b.withBedrock v).win = b.win := rfl
@[simp] theorem Block.withBedrock_cap (b : Block) (v) : (b.withBedrock v).cap = b.cap := rfl
@[simp] theorem Block.withBedrock_keeper (b : Block) (v) : (b.withBedrock v).keeper = b.keeper := rfl
@[simp] theorem Block.withBedrock_aux (b : Block) (v) : (b.withBedrock v).aux = b.aux := rfl
@[simp] theorem Block.withBedrock_imp (b : Block) (v) : (b.withBedrock v).imp = b.imp := rfl
@[simp] theorem Block.withBedrock_link (b : Block) (v) : (b.withBedrock v).link = b.link := rfl
@[simp] theorem Block.withBedrock_access (b : Block) (v) : (b.withBedrock v).access = b.access := rfl
@[simp] theorem Block.withBedrock_host (b : Block) (v) : (b.withBedrock v).host = b.host := rfl
@[simp] theorem Block.withBedrock_diag (b : Block) (v) : (b.withBedrock v).diag = b.diag := rfl
@[simp] theorem Block.withBedrock_thermal (b : Block) (v) : (b.withBedrock v).thermal = b.thermal := rfl
@[simp] theorem Block.withBedrock_chainSet (b : Block) (v) : (b.withBedrock v).chainSet = b.chainSet := rfl
@[simp] theorem Block.withBedrock_socTable (b : Block) (v) : (b.withBedrock v).socTable = b.socTable := rfl
@[simp] theorem Block.withBedrock_tempCurve (b : Block) (v) : (b.withBedrock v).tempCurve = b.tempCurve := rfl
@[simp] theorem Block.withBedrock_dict (b : Block) (v) : (b.withBedrock v).dict = b.dict := rfl
@[simp] theorem Block.withBedrock_out (b : Block) (v) : (b.withBedrock v).out = b.out := rfl
@[simp] theorem Block.withBedrock_free (b : Block) (v) : (b.withBedrock v).free = b.free := rfl
@[simp] theorem Block.withBedrock_get (b : Block) (v) (k : Nat) : (b.withBedrock v).get k = b.get k := rfl
@[simp] theorem Block.withBedrock_nat (b : Block) (v) (k : Nat) : (b.withBedrock v).nat k = b.nat k := rfl
@[simp] theorem Block.withBedrock_on (b : Block) (v) (k : Nat) : (b.withBedrock v).on k = b.on k := rfl
@[simp] theorem Block.withBedrock_bit (b : Block) (v) (k i : Nat) : (b.withBedrock v).bit k i = b.bit k i := rfl
@[simp] theorem Block.withBedrock_isHead (b : Block) (v) : (b.withBedrock v).isHead = b.isHead := rfl
@[simp] theorem Block.withBedrock_cells (b : Block) (v) : (b.withBedrock v).cells = b.cells := rfl
@[simp] theorem Block.withBedrock_noCells (b : Block) (v) : (b.withBedrock v).noCells = b.noCells := rfl
@[simp] theorem Block.withBedrock_live (b : Block) (v) (s : Nat) : (b.withBedrock v).live s = b.live s := rfl
@[simp] theorem Block.withBedrock_latched (b : Block) (v) (s : Nat) : (b.withBedrock v).latched s = b.latched s := rfl
@[simp] theorem Block.withBedrock_anyLatched (b : Block) (v) : (b.withBedrock v).anyLatched = b.anyLatched := rfl
@[simp] theorem Block.withBedrock_awake (b : Block) (v) : (b.withBedrock v).awake = b.awake := rfl
@[simp] theorem Block.withBedrock_measuring (b : Block) (v) : (b.withBedrock v).measuring = b.measuring := rfl
@[simp] theorem Block.withBedrock_inFull (b : Block) (v) : (b.withBedrock v).inFull = b.inFull := rfl
@[simp] theorem Block.withBedrock_now (b : Block) (v) : (b.withBedrock v).now = b.now := rfl
@[simp] theorem Block.withBedrock_engineRuns (b : Block) (v) (k : Nat) : (b.withBedrock v).engineRuns k = b.engineRuns k := rfl

/-! #### withJournal -/

@[simp] theorem Block.withJournal_fuses (b : Block) (v) : (b.withJournal v).fuses = b.fuses := rfl
@[simp] theorem Block.withJournal_power (b : Block) (v) : (b.withJournal v).power = b.power := rfl
@[simp] theorem Block.withJournal_bedrock (b : Block) (v) : (b.withJournal v).bedrock = b.bedrock := rfl
@[simp] theorem Block.withJournal_journal (b : Block) (v) : (b.withJournal v).journal = v := rfl
@[simp] theorem Block.withJournal_flint (b : Block) (v) : (b.withJournal v).flint = b.flint := rfl
@[simp] theorem Block.withJournal_nvm (b : Block) (v) : (b.withJournal v).nvm = b.nvm := rfl
@[simp] theorem Block.withJournal_tb (b : Block) (v) : (b.withJournal v).tb = b.tb := rfl
@[simp] theorem Block.withJournal_phys (b : Block) (v) : (b.withJournal v).phys = b.phys := rfl
@[simp] theorem Block.withJournal_gov (b : Block) (v) : (b.withJournal v).gov = b.gov := rfl
@[simp] theorem Block.withJournal_lanes (b : Block) (v) : (b.withJournal v).lanes = b.lanes := rfl
@[simp] theorem Block.withJournal_win (b : Block) (v) : (b.withJournal v).win = b.win := rfl
@[simp] theorem Block.withJournal_cap (b : Block) (v) : (b.withJournal v).cap = b.cap := rfl
@[simp] theorem Block.withJournal_keeper (b : Block) (v) : (b.withJournal v).keeper = b.keeper := rfl
@[simp] theorem Block.withJournal_aux (b : Block) (v) : (b.withJournal v).aux = b.aux := rfl
@[simp] theorem Block.withJournal_imp (b : Block) (v) : (b.withJournal v).imp = b.imp := rfl
@[simp] theorem Block.withJournal_link (b : Block) (v) : (b.withJournal v).link = b.link := rfl
@[simp] theorem Block.withJournal_access (b : Block) (v) : (b.withJournal v).access = b.access := rfl
@[simp] theorem Block.withJournal_host (b : Block) (v) : (b.withJournal v).host = b.host := rfl
@[simp] theorem Block.withJournal_diag (b : Block) (v) : (b.withJournal v).diag = b.diag := rfl
@[simp] theorem Block.withJournal_thermal (b : Block) (v) : (b.withJournal v).thermal = b.thermal := rfl
@[simp] theorem Block.withJournal_chainSet (b : Block) (v) : (b.withJournal v).chainSet = b.chainSet := rfl
@[simp] theorem Block.withJournal_socTable (b : Block) (v) : (b.withJournal v).socTable = b.socTable := rfl
@[simp] theorem Block.withJournal_tempCurve (b : Block) (v) : (b.withJournal v).tempCurve = b.tempCurve := rfl
@[simp] theorem Block.withJournal_dict (b : Block) (v) : (b.withJournal v).dict = b.dict := rfl
@[simp] theorem Block.withJournal_out (b : Block) (v) : (b.withJournal v).out = b.out := rfl
@[simp] theorem Block.withJournal_free (b : Block) (v) : (b.withJournal v).free = b.free := rfl
@[simp] theorem Block.withJournal_get (b : Block) (v) (k : Nat) : (b.withJournal v).get k = b.get k := rfl
@[simp] theorem Block.withJournal_nat (b : Block) (v) (k : Nat) : (b.withJournal v).nat k = b.nat k := rfl
@[simp] theorem Block.withJournal_on (b : Block) (v) (k : Nat) : (b.withJournal v).on k = b.on k := rfl
@[simp] theorem Block.withJournal_bit (b : Block) (v) (k i : Nat) : (b.withJournal v).bit k i = b.bit k i := rfl
@[simp] theorem Block.withJournal_isHead (b : Block) (v) : (b.withJournal v).isHead = b.isHead := rfl
@[simp] theorem Block.withJournal_cells (b : Block) (v) : (b.withJournal v).cells = b.cells := rfl
@[simp] theorem Block.withJournal_noCells (b : Block) (v) : (b.withJournal v).noCells = b.noCells := rfl
@[simp] theorem Block.withJournal_live (b : Block) (v) (s : Nat) : (b.withJournal v).live s = b.live s := rfl
@[simp] theorem Block.withJournal_latched (b : Block) (v) (s : Nat) : (b.withJournal v).latched s = b.latched s := rfl
@[simp] theorem Block.withJournal_anyLatched (b : Block) (v) : (b.withJournal v).anyLatched = b.anyLatched := rfl
@[simp] theorem Block.withJournal_awake (b : Block) (v) : (b.withJournal v).awake = b.awake := rfl
@[simp] theorem Block.withJournal_measuring (b : Block) (v) : (b.withJournal v).measuring = b.measuring := rfl
@[simp] theorem Block.withJournal_inFull (b : Block) (v) : (b.withJournal v).inFull = b.inFull := rfl
@[simp] theorem Block.withJournal_now (b : Block) (v) : (b.withJournal v).now = b.now := rfl
@[simp] theorem Block.withJournal_engineRuns (b : Block) (v) (k : Nat) : (b.withJournal v).engineRuns k = b.engineRuns k := rfl

/-! #### withFlint -/

@[simp] theorem Block.withFlint_fuses (b : Block) (v) : (b.withFlint v).fuses = b.fuses := rfl
@[simp] theorem Block.withFlint_power (b : Block) (v) : (b.withFlint v).power = b.power := rfl
@[simp] theorem Block.withFlint_bedrock (b : Block) (v) : (b.withFlint v).bedrock = b.bedrock := rfl
@[simp] theorem Block.withFlint_journal (b : Block) (v) : (b.withFlint v).journal = b.journal := rfl
@[simp] theorem Block.withFlint_flint (b : Block) (v) : (b.withFlint v).flint = v := rfl
@[simp] theorem Block.withFlint_nvm (b : Block) (v) : (b.withFlint v).nvm = b.nvm := rfl
@[simp] theorem Block.withFlint_tb (b : Block) (v) : (b.withFlint v).tb = b.tb := rfl
@[simp] theorem Block.withFlint_phys (b : Block) (v) : (b.withFlint v).phys = b.phys := rfl
@[simp] theorem Block.withFlint_gov (b : Block) (v) : (b.withFlint v).gov = b.gov := rfl
@[simp] theorem Block.withFlint_lanes (b : Block) (v) : (b.withFlint v).lanes = b.lanes := rfl
@[simp] theorem Block.withFlint_win (b : Block) (v) : (b.withFlint v).win = b.win := rfl
@[simp] theorem Block.withFlint_cap (b : Block) (v) : (b.withFlint v).cap = b.cap := rfl
@[simp] theorem Block.withFlint_keeper (b : Block) (v) : (b.withFlint v).keeper = b.keeper := rfl
@[simp] theorem Block.withFlint_aux (b : Block) (v) : (b.withFlint v).aux = b.aux := rfl
@[simp] theorem Block.withFlint_imp (b : Block) (v) : (b.withFlint v).imp = b.imp := rfl
@[simp] theorem Block.withFlint_link (b : Block) (v) : (b.withFlint v).link = b.link := rfl
@[simp] theorem Block.withFlint_access (b : Block) (v) : (b.withFlint v).access = b.access := rfl
@[simp] theorem Block.withFlint_host (b : Block) (v) : (b.withFlint v).host = b.host := rfl
@[simp] theorem Block.withFlint_diag (b : Block) (v) : (b.withFlint v).diag = b.diag := rfl
@[simp] theorem Block.withFlint_thermal (b : Block) (v) : (b.withFlint v).thermal = b.thermal := rfl
@[simp] theorem Block.withFlint_chainSet (b : Block) (v) : (b.withFlint v).chainSet = b.chainSet := rfl
@[simp] theorem Block.withFlint_socTable (b : Block) (v) : (b.withFlint v).socTable = b.socTable := rfl
@[simp] theorem Block.withFlint_tempCurve (b : Block) (v) : (b.withFlint v).tempCurve = b.tempCurve := rfl
@[simp] theorem Block.withFlint_dict (b : Block) (v) : (b.withFlint v).dict = b.dict := rfl
@[simp] theorem Block.withFlint_out (b : Block) (v) : (b.withFlint v).out = b.out := rfl
@[simp] theorem Block.withFlint_free (b : Block) (v) : (b.withFlint v).free = b.free := rfl
@[simp] theorem Block.withFlint_get (b : Block) (v) (k : Nat) : (b.withFlint v).get k = b.get k := rfl
@[simp] theorem Block.withFlint_nat (b : Block) (v) (k : Nat) : (b.withFlint v).nat k = b.nat k := rfl
@[simp] theorem Block.withFlint_on (b : Block) (v) (k : Nat) : (b.withFlint v).on k = b.on k := rfl
@[simp] theorem Block.withFlint_bit (b : Block) (v) (k i : Nat) : (b.withFlint v).bit k i = b.bit k i := rfl
@[simp] theorem Block.withFlint_isHead (b : Block) (v) : (b.withFlint v).isHead = b.isHead := rfl
@[simp] theorem Block.withFlint_cells (b : Block) (v) : (b.withFlint v).cells = b.cells := rfl
@[simp] theorem Block.withFlint_noCells (b : Block) (v) : (b.withFlint v).noCells = b.noCells := rfl
@[simp] theorem Block.withFlint_live (b : Block) (v) (s : Nat) : (b.withFlint v).live s = b.live s := rfl
@[simp] theorem Block.withFlint_latched (b : Block) (v) (s : Nat) : (b.withFlint v).latched s = b.latched s := rfl
@[simp] theorem Block.withFlint_anyLatched (b : Block) (v) : (b.withFlint v).anyLatched = b.anyLatched := rfl
@[simp] theorem Block.withFlint_awake (b : Block) (v) : (b.withFlint v).awake = b.awake := rfl
@[simp] theorem Block.withFlint_measuring (b : Block) (v) : (b.withFlint v).measuring = b.measuring := rfl
@[simp] theorem Block.withFlint_inFull (b : Block) (v) : (b.withFlint v).inFull = b.inFull := rfl
@[simp] theorem Block.withFlint_now (b : Block) (v) : (b.withFlint v).now = b.now := rfl
@[simp] theorem Block.withFlint_engineRuns (b : Block) (v) (k : Nat) : (b.withFlint v).engineRuns k = b.engineRuns k := rfl

/-! #### withNvm -/

@[simp] theorem Block.withNvm_fuses (b : Block) (v) : (b.withNvm v).fuses = b.fuses := rfl
@[simp] theorem Block.withNvm_power (b : Block) (v) : (b.withNvm v).power = b.power := rfl
@[simp] theorem Block.withNvm_bedrock (b : Block) (v) : (b.withNvm v).bedrock = b.bedrock := rfl
@[simp] theorem Block.withNvm_journal (b : Block) (v) : (b.withNvm v).journal = b.journal := rfl
@[simp] theorem Block.withNvm_flint (b : Block) (v) : (b.withNvm v).flint = b.flint := rfl
@[simp] theorem Block.withNvm_nvm (b : Block) (v) : (b.withNvm v).nvm = v := rfl
@[simp] theorem Block.withNvm_tb (b : Block) (v) : (b.withNvm v).tb = b.tb := rfl
@[simp] theorem Block.withNvm_phys (b : Block) (v) : (b.withNvm v).phys = b.phys := rfl
@[simp] theorem Block.withNvm_gov (b : Block) (v) : (b.withNvm v).gov = b.gov := rfl
@[simp] theorem Block.withNvm_lanes (b : Block) (v) : (b.withNvm v).lanes = b.lanes := rfl
@[simp] theorem Block.withNvm_win (b : Block) (v) : (b.withNvm v).win = b.win := rfl
@[simp] theorem Block.withNvm_cap (b : Block) (v) : (b.withNvm v).cap = b.cap := rfl
@[simp] theorem Block.withNvm_keeper (b : Block) (v) : (b.withNvm v).keeper = b.keeper := rfl
@[simp] theorem Block.withNvm_aux (b : Block) (v) : (b.withNvm v).aux = b.aux := rfl
@[simp] theorem Block.withNvm_imp (b : Block) (v) : (b.withNvm v).imp = b.imp := rfl
@[simp] theorem Block.withNvm_link (b : Block) (v) : (b.withNvm v).link = b.link := rfl
@[simp] theorem Block.withNvm_access (b : Block) (v) : (b.withNvm v).access = b.access := rfl
@[simp] theorem Block.withNvm_host (b : Block) (v) : (b.withNvm v).host = b.host := rfl
@[simp] theorem Block.withNvm_diag (b : Block) (v) : (b.withNvm v).diag = b.diag := rfl
@[simp] theorem Block.withNvm_thermal (b : Block) (v) : (b.withNvm v).thermal = b.thermal := rfl
@[simp] theorem Block.withNvm_chainSet (b : Block) (v) : (b.withNvm v).chainSet = b.chainSet := rfl
@[simp] theorem Block.withNvm_socTable (b : Block) (v) : (b.withNvm v).socTable = b.socTable := rfl
@[simp] theorem Block.withNvm_tempCurve (b : Block) (v) : (b.withNvm v).tempCurve = b.tempCurve := rfl
@[simp] theorem Block.withNvm_dict (b : Block) (v) : (b.withNvm v).dict = b.dict := rfl
@[simp] theorem Block.withNvm_out (b : Block) (v) : (b.withNvm v).out = b.out := rfl
@[simp] theorem Block.withNvm_free (b : Block) (v) : (b.withNvm v).free = b.free := rfl
@[simp] theorem Block.withNvm_get (b : Block) (v) (k : Nat) : (b.withNvm v).get k = b.get k := rfl
@[simp] theorem Block.withNvm_nat (b : Block) (v) (k : Nat) : (b.withNvm v).nat k = b.nat k := rfl
@[simp] theorem Block.withNvm_on (b : Block) (v) (k : Nat) : (b.withNvm v).on k = b.on k := rfl
@[simp] theorem Block.withNvm_bit (b : Block) (v) (k i : Nat) : (b.withNvm v).bit k i = b.bit k i := rfl
@[simp] theorem Block.withNvm_isHead (b : Block) (v) : (b.withNvm v).isHead = b.isHead := rfl
@[simp] theorem Block.withNvm_cells (b : Block) (v) : (b.withNvm v).cells = b.cells := rfl
@[simp] theorem Block.withNvm_noCells (b : Block) (v) : (b.withNvm v).noCells = b.noCells := rfl
@[simp] theorem Block.withNvm_live (b : Block) (v) (s : Nat) : (b.withNvm v).live s = b.live s := rfl
@[simp] theorem Block.withNvm_latched (b : Block) (v) (s : Nat) : (b.withNvm v).latched s = b.latched s := rfl
@[simp] theorem Block.withNvm_anyLatched (b : Block) (v) : (b.withNvm v).anyLatched = b.anyLatched := rfl
@[simp] theorem Block.withNvm_awake (b : Block) (v) : (b.withNvm v).awake = b.awake := rfl
@[simp] theorem Block.withNvm_measuring (b : Block) (v) : (b.withNvm v).measuring = b.measuring := rfl
@[simp] theorem Block.withNvm_inFull (b : Block) (v) : (b.withNvm v).inFull = b.inFull := rfl
@[simp] theorem Block.withNvm_now (b : Block) (v) : (b.withNvm v).now = b.now := rfl
@[simp] theorem Block.withNvm_engineRuns (b : Block) (v) (k : Nat) : (b.withNvm v).engineRuns k = b.engineRuns k := rfl

/-! #### withTb -/

@[simp] theorem Block.withTb_fuses (b : Block) (v) : (b.withTb v).fuses = b.fuses := rfl
@[simp] theorem Block.withTb_power (b : Block) (v) : (b.withTb v).power = b.power := rfl
@[simp] theorem Block.withTb_bedrock (b : Block) (v) : (b.withTb v).bedrock = b.bedrock := rfl
@[simp] theorem Block.withTb_journal (b : Block) (v) : (b.withTb v).journal = b.journal := rfl
@[simp] theorem Block.withTb_flint (b : Block) (v) : (b.withTb v).flint = b.flint := rfl
@[simp] theorem Block.withTb_nvm (b : Block) (v) : (b.withTb v).nvm = b.nvm := rfl
@[simp] theorem Block.withTb_tb (b : Block) (v) : (b.withTb v).tb = v := rfl
@[simp] theorem Block.withTb_phys (b : Block) (v) : (b.withTb v).phys = b.phys := rfl
@[simp] theorem Block.withTb_gov (b : Block) (v) : (b.withTb v).gov = b.gov := rfl
@[simp] theorem Block.withTb_lanes (b : Block) (v) : (b.withTb v).lanes = b.lanes := rfl
@[simp] theorem Block.withTb_win (b : Block) (v) : (b.withTb v).win = b.win := rfl
@[simp] theorem Block.withTb_cap (b : Block) (v) : (b.withTb v).cap = b.cap := rfl
@[simp] theorem Block.withTb_keeper (b : Block) (v) : (b.withTb v).keeper = b.keeper := rfl
@[simp] theorem Block.withTb_aux (b : Block) (v) : (b.withTb v).aux = b.aux := rfl
@[simp] theorem Block.withTb_imp (b : Block) (v) : (b.withTb v).imp = b.imp := rfl
@[simp] theorem Block.withTb_link (b : Block) (v) : (b.withTb v).link = b.link := rfl
@[simp] theorem Block.withTb_access (b : Block) (v) : (b.withTb v).access = b.access := rfl
@[simp] theorem Block.withTb_host (b : Block) (v) : (b.withTb v).host = b.host := rfl
@[simp] theorem Block.withTb_diag (b : Block) (v) : (b.withTb v).diag = b.diag := rfl
@[simp] theorem Block.withTb_thermal (b : Block) (v) : (b.withTb v).thermal = b.thermal := rfl
@[simp] theorem Block.withTb_chainSet (b : Block) (v) : (b.withTb v).chainSet = b.chainSet := rfl
@[simp] theorem Block.withTb_socTable (b : Block) (v) : (b.withTb v).socTable = b.socTable := rfl
@[simp] theorem Block.withTb_tempCurve (b : Block) (v) : (b.withTb v).tempCurve = b.tempCurve := rfl
@[simp] theorem Block.withTb_dict (b : Block) (v) : (b.withTb v).dict = b.dict := rfl
@[simp] theorem Block.withTb_out (b : Block) (v) : (b.withTb v).out = b.out := rfl
@[simp] theorem Block.withTb_free (b : Block) (v) : (b.withTb v).free = b.free := rfl
@[simp] theorem Block.withTb_get (b : Block) (v) (k : Nat) : (b.withTb v).get k = b.get k := rfl
@[simp] theorem Block.withTb_nat (b : Block) (v) (k : Nat) : (b.withTb v).nat k = b.nat k := rfl
@[simp] theorem Block.withTb_on (b : Block) (v) (k : Nat) : (b.withTb v).on k = b.on k := rfl
@[simp] theorem Block.withTb_bit (b : Block) (v) (k i : Nat) : (b.withTb v).bit k i = b.bit k i := rfl
@[simp] theorem Block.withTb_isHead (b : Block) (v) : (b.withTb v).isHead = b.isHead := rfl
@[simp] theorem Block.withTb_cells (b : Block) (v) : (b.withTb v).cells = b.cells := rfl
@[simp] theorem Block.withTb_noCells (b : Block) (v) : (b.withTb v).noCells = b.noCells := rfl
@[simp] theorem Block.withTb_live (b : Block) (v) (s : Nat) : (b.withTb v).live s = b.live s := rfl
@[simp] theorem Block.withTb_latched (b : Block) (v) (s : Nat) : (b.withTb v).latched s = b.latched s := rfl
@[simp] theorem Block.withTb_anyLatched (b : Block) (v) : (b.withTb v).anyLatched = b.anyLatched := rfl
@[simp] theorem Block.withTb_awake (b : Block) (v) : (b.withTb v).awake = b.awake := rfl
@[simp] theorem Block.withTb_measuring (b : Block) (v) : (b.withTb v).measuring = b.measuring := rfl
@[simp] theorem Block.withTb_inFull (b : Block) (v) : (b.withTb v).inFull = b.inFull := rfl
@[simp] theorem Block.withTb_engineRuns (b : Block) (v) (k : Nat) : (b.withTb v).engineRuns k = b.engineRuns k := rfl

/-! #### withPhys -/

@[simp] theorem Block.withPhys_fuses (b : Block) (v) : (b.withPhys v).fuses = b.fuses := rfl
@[simp] theorem Block.withPhys_power (b : Block) (v) : (b.withPhys v).power = b.power := rfl
@[simp] theorem Block.withPhys_bedrock (b : Block) (v) : (b.withPhys v).bedrock = b.bedrock := rfl
@[simp] theorem Block.withPhys_journal (b : Block) (v) : (b.withPhys v).journal = b.journal := rfl
@[simp] theorem Block.withPhys_flint (b : Block) (v) : (b.withPhys v).flint = b.flint := rfl
@[simp] theorem Block.withPhys_nvm (b : Block) (v) : (b.withPhys v).nvm = b.nvm := rfl
@[simp] theorem Block.withPhys_tb (b : Block) (v) : (b.withPhys v).tb = b.tb := rfl
@[simp] theorem Block.withPhys_phys (b : Block) (v) : (b.withPhys v).phys = v := rfl
@[simp] theorem Block.withPhys_gov (b : Block) (v) : (b.withPhys v).gov = b.gov := rfl
@[simp] theorem Block.withPhys_lanes (b : Block) (v) : (b.withPhys v).lanes = b.lanes := rfl
@[simp] theorem Block.withPhys_win (b : Block) (v) : (b.withPhys v).win = b.win := rfl
@[simp] theorem Block.withPhys_cap (b : Block) (v) : (b.withPhys v).cap = b.cap := rfl
@[simp] theorem Block.withPhys_keeper (b : Block) (v) : (b.withPhys v).keeper = b.keeper := rfl
@[simp] theorem Block.withPhys_aux (b : Block) (v) : (b.withPhys v).aux = b.aux := rfl
@[simp] theorem Block.withPhys_imp (b : Block) (v) : (b.withPhys v).imp = b.imp := rfl
@[simp] theorem Block.withPhys_link (b : Block) (v) : (b.withPhys v).link = b.link := rfl
@[simp] theorem Block.withPhys_access (b : Block) (v) : (b.withPhys v).access = b.access := rfl
@[simp] theorem Block.withPhys_host (b : Block) (v) : (b.withPhys v).host = b.host := rfl
@[simp] theorem Block.withPhys_diag (b : Block) (v) : (b.withPhys v).diag = b.diag := rfl
@[simp] theorem Block.withPhys_thermal (b : Block) (v) : (b.withPhys v).thermal = b.thermal := rfl
@[simp] theorem Block.withPhys_chainSet (b : Block) (v) : (b.withPhys v).chainSet = b.chainSet := rfl
@[simp] theorem Block.withPhys_socTable (b : Block) (v) : (b.withPhys v).socTable = b.socTable := rfl
@[simp] theorem Block.withPhys_tempCurve (b : Block) (v) : (b.withPhys v).tempCurve = b.tempCurve := rfl
@[simp] theorem Block.withPhys_dict (b : Block) (v) : (b.withPhys v).dict = b.dict := rfl
@[simp] theorem Block.withPhys_out (b : Block) (v) : (b.withPhys v).out = b.out := rfl
@[simp] theorem Block.withPhys_free (b : Block) (v) : (b.withPhys v).free = b.free := rfl
@[simp] theorem Block.withPhys_get (b : Block) (v) (k : Nat) : (b.withPhys v).get k = b.get k := rfl
@[simp] theorem Block.withPhys_nat (b : Block) (v) (k : Nat) : (b.withPhys v).nat k = b.nat k := rfl
@[simp] theorem Block.withPhys_on (b : Block) (v) (k : Nat) : (b.withPhys v).on k = b.on k := rfl
@[simp] theorem Block.withPhys_bit (b : Block) (v) (k i : Nat) : (b.withPhys v).bit k i = b.bit k i := rfl
@[simp] theorem Block.withPhys_isHead (b : Block) (v) : (b.withPhys v).isHead = b.isHead := rfl
@[simp] theorem Block.withPhys_cells (b : Block) (v) : (b.withPhys v).cells = b.cells := rfl
@[simp] theorem Block.withPhys_noCells (b : Block) (v) : (b.withPhys v).noCells = b.noCells := rfl
@[simp] theorem Block.withPhys_live (b : Block) (v) (s : Nat) : (b.withPhys v).live s = b.live s := rfl
@[simp] theorem Block.withPhys_latched (b : Block) (v) (s : Nat) : (b.withPhys v).latched s = b.latched s := rfl
@[simp] theorem Block.withPhys_anyLatched (b : Block) (v) : (b.withPhys v).anyLatched = b.anyLatched := rfl
@[simp] theorem Block.withPhys_awake (b : Block) (v) : (b.withPhys v).awake = b.awake := rfl
@[simp] theorem Block.withPhys_measuring (b : Block) (v) : (b.withPhys v).measuring = b.measuring := rfl
@[simp] theorem Block.withPhys_inFull (b : Block) (v) : (b.withPhys v).inFull = b.inFull := rfl
@[simp] theorem Block.withPhys_now (b : Block) (v) : (b.withPhys v).now = b.now := rfl
@[simp] theorem Block.withPhys_engineRuns (b : Block) (v) (k : Nat) : (b.withPhys v).engineRuns k = b.engineRuns k := rfl

/-! #### withGov -/

@[simp] theorem Block.withGov_fuses (b : Block) (v) : (b.withGov v).fuses = b.fuses := rfl
@[simp] theorem Block.withGov_power (b : Block) (v) : (b.withGov v).power = b.power := rfl
@[simp] theorem Block.withGov_bedrock (b : Block) (v) : (b.withGov v).bedrock = b.bedrock := rfl
@[simp] theorem Block.withGov_journal (b : Block) (v) : (b.withGov v).journal = b.journal := rfl
@[simp] theorem Block.withGov_flint (b : Block) (v) : (b.withGov v).flint = b.flint := rfl
@[simp] theorem Block.withGov_nvm (b : Block) (v) : (b.withGov v).nvm = b.nvm := rfl
@[simp] theorem Block.withGov_tb (b : Block) (v) : (b.withGov v).tb = b.tb := rfl
@[simp] theorem Block.withGov_phys (b : Block) (v) : (b.withGov v).phys = b.phys := rfl
@[simp] theorem Block.withGov_gov (b : Block) (v) : (b.withGov v).gov = v := rfl
@[simp] theorem Block.withGov_lanes (b : Block) (v) : (b.withGov v).lanes = b.lanes := rfl
@[simp] theorem Block.withGov_win (b : Block) (v) : (b.withGov v).win = b.win := rfl
@[simp] theorem Block.withGov_cap (b : Block) (v) : (b.withGov v).cap = b.cap := rfl
@[simp] theorem Block.withGov_keeper (b : Block) (v) : (b.withGov v).keeper = b.keeper := rfl
@[simp] theorem Block.withGov_aux (b : Block) (v) : (b.withGov v).aux = b.aux := rfl
@[simp] theorem Block.withGov_imp (b : Block) (v) : (b.withGov v).imp = b.imp := rfl
@[simp] theorem Block.withGov_link (b : Block) (v) : (b.withGov v).link = b.link := rfl
@[simp] theorem Block.withGov_access (b : Block) (v) : (b.withGov v).access = b.access := rfl
@[simp] theorem Block.withGov_host (b : Block) (v) : (b.withGov v).host = b.host := rfl
@[simp] theorem Block.withGov_diag (b : Block) (v) : (b.withGov v).diag = b.diag := rfl
@[simp] theorem Block.withGov_thermal (b : Block) (v) : (b.withGov v).thermal = b.thermal := rfl
@[simp] theorem Block.withGov_chainSet (b : Block) (v) : (b.withGov v).chainSet = b.chainSet := rfl
@[simp] theorem Block.withGov_socTable (b : Block) (v) : (b.withGov v).socTable = b.socTable := rfl
@[simp] theorem Block.withGov_tempCurve (b : Block) (v) : (b.withGov v).tempCurve = b.tempCurve := rfl
@[simp] theorem Block.withGov_dict (b : Block) (v) : (b.withGov v).dict = b.dict := rfl
@[simp] theorem Block.withGov_out (b : Block) (v) : (b.withGov v).out = b.out := rfl
@[simp] theorem Block.withGov_free (b : Block) (v) : (b.withGov v).free = b.free := rfl
@[simp] theorem Block.withGov_get (b : Block) (v) (k : Nat) : (b.withGov v).get k = b.get k := rfl
@[simp] theorem Block.withGov_nat (b : Block) (v) (k : Nat) : (b.withGov v).nat k = b.nat k := rfl
@[simp] theorem Block.withGov_on (b : Block) (v) (k : Nat) : (b.withGov v).on k = b.on k := rfl
@[simp] theorem Block.withGov_bit (b : Block) (v) (k i : Nat) : (b.withGov v).bit k i = b.bit k i := rfl
@[simp] theorem Block.withGov_isHead (b : Block) (v) : (b.withGov v).isHead = b.isHead := rfl
@[simp] theorem Block.withGov_cells (b : Block) (v) : (b.withGov v).cells = b.cells := rfl
@[simp] theorem Block.withGov_noCells (b : Block) (v) : (b.withGov v).noCells = b.noCells := rfl
@[simp] theorem Block.withGov_live (b : Block) (v) (s : Nat) : (b.withGov v).live s = b.live s := rfl
@[simp] theorem Block.withGov_latched (b : Block) (v) (s : Nat) : (b.withGov v).latched s = b.latched s := rfl
@[simp] theorem Block.withGov_anyLatched (b : Block) (v) : (b.withGov v).anyLatched = b.anyLatched := rfl
@[simp] theorem Block.withGov_awake (b : Block) (v) : (b.withGov v).awake = b.awake := rfl
@[simp] theorem Block.withGov_measuring (b : Block) (v) : (b.withGov v).measuring = b.measuring := rfl
@[simp] theorem Block.withGov_inFull (b : Block) (v) : (b.withGov v).inFull = b.inFull := rfl
@[simp] theorem Block.withGov_now (b : Block) (v) : (b.withGov v).now = b.now := rfl
@[simp] theorem Block.withGov_engineRuns (b : Block) (v) (k : Nat) : (b.withGov v).engineRuns k = b.engineRuns k := rfl

/-! #### withLanes -/

@[simp] theorem Block.withLanes_fuses (b : Block) (v) : (b.withLanes v).fuses = b.fuses := rfl
@[simp] theorem Block.withLanes_power (b : Block) (v) : (b.withLanes v).power = b.power := rfl
@[simp] theorem Block.withLanes_bedrock (b : Block) (v) : (b.withLanes v).bedrock = b.bedrock := rfl
@[simp] theorem Block.withLanes_journal (b : Block) (v) : (b.withLanes v).journal = b.journal := rfl
@[simp] theorem Block.withLanes_flint (b : Block) (v) : (b.withLanes v).flint = b.flint := rfl
@[simp] theorem Block.withLanes_nvm (b : Block) (v) : (b.withLanes v).nvm = b.nvm := rfl
@[simp] theorem Block.withLanes_tb (b : Block) (v) : (b.withLanes v).tb = b.tb := rfl
@[simp] theorem Block.withLanes_phys (b : Block) (v) : (b.withLanes v).phys = b.phys := rfl
@[simp] theorem Block.withLanes_gov (b : Block) (v) : (b.withLanes v).gov = b.gov := rfl
@[simp] theorem Block.withLanes_lanes (b : Block) (v) : (b.withLanes v).lanes = v := rfl
@[simp] theorem Block.withLanes_win (b : Block) (v) : (b.withLanes v).win = b.win := rfl
@[simp] theorem Block.withLanes_cap (b : Block) (v) : (b.withLanes v).cap = b.cap := rfl
@[simp] theorem Block.withLanes_keeper (b : Block) (v) : (b.withLanes v).keeper = b.keeper := rfl
@[simp] theorem Block.withLanes_aux (b : Block) (v) : (b.withLanes v).aux = b.aux := rfl
@[simp] theorem Block.withLanes_imp (b : Block) (v) : (b.withLanes v).imp = b.imp := rfl
@[simp] theorem Block.withLanes_link (b : Block) (v) : (b.withLanes v).link = b.link := rfl
@[simp] theorem Block.withLanes_access (b : Block) (v) : (b.withLanes v).access = b.access := rfl
@[simp] theorem Block.withLanes_host (b : Block) (v) : (b.withLanes v).host = b.host := rfl
@[simp] theorem Block.withLanes_diag (b : Block) (v) : (b.withLanes v).diag = b.diag := rfl
@[simp] theorem Block.withLanes_thermal (b : Block) (v) : (b.withLanes v).thermal = b.thermal := rfl
@[simp] theorem Block.withLanes_chainSet (b : Block) (v) : (b.withLanes v).chainSet = b.chainSet := rfl
@[simp] theorem Block.withLanes_socTable (b : Block) (v) : (b.withLanes v).socTable = b.socTable := rfl
@[simp] theorem Block.withLanes_tempCurve (b : Block) (v) : (b.withLanes v).tempCurve = b.tempCurve := rfl
@[simp] theorem Block.withLanes_dict (b : Block) (v) : (b.withLanes v).dict = b.dict := rfl
@[simp] theorem Block.withLanes_out (b : Block) (v) : (b.withLanes v).out = b.out := rfl
@[simp] theorem Block.withLanes_free (b : Block) (v) : (b.withLanes v).free = b.free := rfl
@[simp] theorem Block.withLanes_get (b : Block) (v) (k : Nat) : (b.withLanes v).get k = b.get k := rfl
@[simp] theorem Block.withLanes_nat (b : Block) (v) (k : Nat) : (b.withLanes v).nat k = b.nat k := rfl
@[simp] theorem Block.withLanes_on (b : Block) (v) (k : Nat) : (b.withLanes v).on k = b.on k := rfl
@[simp] theorem Block.withLanes_bit (b : Block) (v) (k i : Nat) : (b.withLanes v).bit k i = b.bit k i := rfl
@[simp] theorem Block.withLanes_isHead (b : Block) (v) : (b.withLanes v).isHead = b.isHead := rfl
@[simp] theorem Block.withLanes_cells (b : Block) (v) : (b.withLanes v).cells = b.cells := rfl
@[simp] theorem Block.withLanes_noCells (b : Block) (v) : (b.withLanes v).noCells = b.noCells := rfl
@[simp] theorem Block.withLanes_live (b : Block) (v) (s : Nat) : (b.withLanes v).live s = b.live s := rfl
@[simp] theorem Block.withLanes_latched (b : Block) (v) (s : Nat) : (b.withLanes v).latched s = b.latched s := rfl
@[simp] theorem Block.withLanes_anyLatched (b : Block) (v) : (b.withLanes v).anyLatched = b.anyLatched := rfl
@[simp] theorem Block.withLanes_awake (b : Block) (v) : (b.withLanes v).awake = b.awake := rfl
@[simp] theorem Block.withLanes_measuring (b : Block) (v) : (b.withLanes v).measuring = b.measuring := rfl
@[simp] theorem Block.withLanes_inFull (b : Block) (v) : (b.withLanes v).inFull = b.inFull := rfl
@[simp] theorem Block.withLanes_now (b : Block) (v) : (b.withLanes v).now = b.now := rfl
@[simp] theorem Block.withLanes_engineRuns (b : Block) (v) (k : Nat) : (b.withLanes v).engineRuns k = b.engineRuns k := rfl

/-! #### withWin -/

@[simp] theorem Block.withWin_fuses (b : Block) (v) : (b.withWin v).fuses = b.fuses := rfl
@[simp] theorem Block.withWin_power (b : Block) (v) : (b.withWin v).power = b.power := rfl
@[simp] theorem Block.withWin_bedrock (b : Block) (v) : (b.withWin v).bedrock = b.bedrock := rfl
@[simp] theorem Block.withWin_journal (b : Block) (v) : (b.withWin v).journal = b.journal := rfl
@[simp] theorem Block.withWin_flint (b : Block) (v) : (b.withWin v).flint = b.flint := rfl
@[simp] theorem Block.withWin_nvm (b : Block) (v) : (b.withWin v).nvm = b.nvm := rfl
@[simp] theorem Block.withWin_tb (b : Block) (v) : (b.withWin v).tb = b.tb := rfl
@[simp] theorem Block.withWin_phys (b : Block) (v) : (b.withWin v).phys = b.phys := rfl
@[simp] theorem Block.withWin_gov (b : Block) (v) : (b.withWin v).gov = b.gov := rfl
@[simp] theorem Block.withWin_lanes (b : Block) (v) : (b.withWin v).lanes = b.lanes := rfl
@[simp] theorem Block.withWin_win (b : Block) (v) : (b.withWin v).win = v := rfl
@[simp] theorem Block.withWin_cap (b : Block) (v) : (b.withWin v).cap = b.cap := rfl
@[simp] theorem Block.withWin_keeper (b : Block) (v) : (b.withWin v).keeper = b.keeper := rfl
@[simp] theorem Block.withWin_aux (b : Block) (v) : (b.withWin v).aux = b.aux := rfl
@[simp] theorem Block.withWin_imp (b : Block) (v) : (b.withWin v).imp = b.imp := rfl
@[simp] theorem Block.withWin_link (b : Block) (v) : (b.withWin v).link = b.link := rfl
@[simp] theorem Block.withWin_access (b : Block) (v) : (b.withWin v).access = b.access := rfl
@[simp] theorem Block.withWin_host (b : Block) (v) : (b.withWin v).host = b.host := rfl
@[simp] theorem Block.withWin_diag (b : Block) (v) : (b.withWin v).diag = b.diag := rfl
@[simp] theorem Block.withWin_thermal (b : Block) (v) : (b.withWin v).thermal = b.thermal := rfl
@[simp] theorem Block.withWin_chainSet (b : Block) (v) : (b.withWin v).chainSet = b.chainSet := rfl
@[simp] theorem Block.withWin_socTable (b : Block) (v) : (b.withWin v).socTable = b.socTable := rfl
@[simp] theorem Block.withWin_tempCurve (b : Block) (v) : (b.withWin v).tempCurve = b.tempCurve := rfl
@[simp] theorem Block.withWin_dict (b : Block) (v) : (b.withWin v).dict = b.dict := rfl
@[simp] theorem Block.withWin_out (b : Block) (v) : (b.withWin v).out = b.out := rfl
@[simp] theorem Block.withWin_free (b : Block) (v) : (b.withWin v).free = b.free := rfl
@[simp] theorem Block.withWin_get (b : Block) (v) (k : Nat) : (b.withWin v).get k = b.get k := rfl
@[simp] theorem Block.withWin_nat (b : Block) (v) (k : Nat) : (b.withWin v).nat k = b.nat k := rfl
@[simp] theorem Block.withWin_on (b : Block) (v) (k : Nat) : (b.withWin v).on k = b.on k := rfl
@[simp] theorem Block.withWin_bit (b : Block) (v) (k i : Nat) : (b.withWin v).bit k i = b.bit k i := rfl
@[simp] theorem Block.withWin_isHead (b : Block) (v) : (b.withWin v).isHead = b.isHead := rfl
@[simp] theorem Block.withWin_cells (b : Block) (v) : (b.withWin v).cells = b.cells := rfl
@[simp] theorem Block.withWin_noCells (b : Block) (v) : (b.withWin v).noCells = b.noCells := rfl
@[simp] theorem Block.withWin_live (b : Block) (v) (s : Nat) : (b.withWin v).live s = b.live s := rfl
@[simp] theorem Block.withWin_latched (b : Block) (v) (s : Nat) : (b.withWin v).latched s = b.latched s := rfl
@[simp] theorem Block.withWin_anyLatched (b : Block) (v) : (b.withWin v).anyLatched = b.anyLatched := rfl
@[simp] theorem Block.withWin_awake (b : Block) (v) : (b.withWin v).awake = b.awake := rfl
@[simp] theorem Block.withWin_measuring (b : Block) (v) : (b.withWin v).measuring = b.measuring := rfl
@[simp] theorem Block.withWin_inFull (b : Block) (v) : (b.withWin v).inFull = b.inFull := rfl
@[simp] theorem Block.withWin_now (b : Block) (v) : (b.withWin v).now = b.now := rfl
@[simp] theorem Block.withWin_engineRuns (b : Block) (v) (k : Nat) : (b.withWin v).engineRuns k = b.engineRuns k := rfl

/-! #### withCap -/

@[simp] theorem Block.withCap_fuses (b : Block) (v) : (b.withCap v).fuses = b.fuses := rfl
@[simp] theorem Block.withCap_power (b : Block) (v) : (b.withCap v).power = b.power := rfl
@[simp] theorem Block.withCap_bedrock (b : Block) (v) : (b.withCap v).bedrock = b.bedrock := rfl
@[simp] theorem Block.withCap_journal (b : Block) (v) : (b.withCap v).journal = b.journal := rfl
@[simp] theorem Block.withCap_flint (b : Block) (v) : (b.withCap v).flint = b.flint := rfl
@[simp] theorem Block.withCap_nvm (b : Block) (v) : (b.withCap v).nvm = b.nvm := rfl
@[simp] theorem Block.withCap_tb (b : Block) (v) : (b.withCap v).tb = b.tb := rfl
@[simp] theorem Block.withCap_phys (b : Block) (v) : (b.withCap v).phys = b.phys := rfl
@[simp] theorem Block.withCap_gov (b : Block) (v) : (b.withCap v).gov = b.gov := rfl
@[simp] theorem Block.withCap_lanes (b : Block) (v) : (b.withCap v).lanes = b.lanes := rfl
@[simp] theorem Block.withCap_win (b : Block) (v) : (b.withCap v).win = b.win := rfl
@[simp] theorem Block.withCap_cap (b : Block) (v) : (b.withCap v).cap = v := rfl
@[simp] theorem Block.withCap_keeper (b : Block) (v) : (b.withCap v).keeper = b.keeper := rfl
@[simp] theorem Block.withCap_aux (b : Block) (v) : (b.withCap v).aux = b.aux := rfl
@[simp] theorem Block.withCap_imp (b : Block) (v) : (b.withCap v).imp = b.imp := rfl
@[simp] theorem Block.withCap_link (b : Block) (v) : (b.withCap v).link = b.link := rfl
@[simp] theorem Block.withCap_access (b : Block) (v) : (b.withCap v).access = b.access := rfl
@[simp] theorem Block.withCap_host (b : Block) (v) : (b.withCap v).host = b.host := rfl
@[simp] theorem Block.withCap_diag (b : Block) (v) : (b.withCap v).diag = b.diag := rfl
@[simp] theorem Block.withCap_thermal (b : Block) (v) : (b.withCap v).thermal = b.thermal := rfl
@[simp] theorem Block.withCap_chainSet (b : Block) (v) : (b.withCap v).chainSet = b.chainSet := rfl
@[simp] theorem Block.withCap_socTable (b : Block) (v) : (b.withCap v).socTable = b.socTable := rfl
@[simp] theorem Block.withCap_tempCurve (b : Block) (v) : (b.withCap v).tempCurve = b.tempCurve := rfl
@[simp] theorem Block.withCap_dict (b : Block) (v) : (b.withCap v).dict = b.dict := rfl
@[simp] theorem Block.withCap_out (b : Block) (v) : (b.withCap v).out = b.out := rfl
@[simp] theorem Block.withCap_free (b : Block) (v) : (b.withCap v).free = b.free := rfl
@[simp] theorem Block.withCap_get (b : Block) (v) (k : Nat) : (b.withCap v).get k = b.get k := rfl
@[simp] theorem Block.withCap_nat (b : Block) (v) (k : Nat) : (b.withCap v).nat k = b.nat k := rfl
@[simp] theorem Block.withCap_on (b : Block) (v) (k : Nat) : (b.withCap v).on k = b.on k := rfl
@[simp] theorem Block.withCap_bit (b : Block) (v) (k i : Nat) : (b.withCap v).bit k i = b.bit k i := rfl
@[simp] theorem Block.withCap_isHead (b : Block) (v) : (b.withCap v).isHead = b.isHead := rfl
@[simp] theorem Block.withCap_cells (b : Block) (v) : (b.withCap v).cells = b.cells := rfl
@[simp] theorem Block.withCap_noCells (b : Block) (v) : (b.withCap v).noCells = b.noCells := rfl
@[simp] theorem Block.withCap_live (b : Block) (v) (s : Nat) : (b.withCap v).live s = b.live s := rfl
@[simp] theorem Block.withCap_latched (b : Block) (v) (s : Nat) : (b.withCap v).latched s = b.latched s := rfl
@[simp] theorem Block.withCap_anyLatched (b : Block) (v) : (b.withCap v).anyLatched = b.anyLatched := rfl
@[simp] theorem Block.withCap_awake (b : Block) (v) : (b.withCap v).awake = b.awake := rfl
@[simp] theorem Block.withCap_measuring (b : Block) (v) : (b.withCap v).measuring = b.measuring := rfl
@[simp] theorem Block.withCap_inFull (b : Block) (v) : (b.withCap v).inFull = b.inFull := rfl
@[simp] theorem Block.withCap_now (b : Block) (v) : (b.withCap v).now = b.now := rfl
@[simp] theorem Block.withCap_engineRuns (b : Block) (v) (k : Nat) : (b.withCap v).engineRuns k = b.engineRuns k := rfl

/-! #### withKeeper -/

@[simp] theorem Block.withKeeper_fuses (b : Block) (v) : (b.withKeeper v).fuses = b.fuses := rfl
@[simp] theorem Block.withKeeper_power (b : Block) (v) : (b.withKeeper v).power = b.power := rfl
@[simp] theorem Block.withKeeper_bedrock (b : Block) (v) : (b.withKeeper v).bedrock = b.bedrock := rfl
@[simp] theorem Block.withKeeper_journal (b : Block) (v) : (b.withKeeper v).journal = b.journal := rfl
@[simp] theorem Block.withKeeper_flint (b : Block) (v) : (b.withKeeper v).flint = b.flint := rfl
@[simp] theorem Block.withKeeper_nvm (b : Block) (v) : (b.withKeeper v).nvm = b.nvm := rfl
@[simp] theorem Block.withKeeper_tb (b : Block) (v) : (b.withKeeper v).tb = b.tb := rfl
@[simp] theorem Block.withKeeper_phys (b : Block) (v) : (b.withKeeper v).phys = b.phys := rfl
@[simp] theorem Block.withKeeper_gov (b : Block) (v) : (b.withKeeper v).gov = b.gov := rfl
@[simp] theorem Block.withKeeper_lanes (b : Block) (v) : (b.withKeeper v).lanes = b.lanes := rfl
@[simp] theorem Block.withKeeper_win (b : Block) (v) : (b.withKeeper v).win = b.win := rfl
@[simp] theorem Block.withKeeper_cap (b : Block) (v) : (b.withKeeper v).cap = b.cap := rfl
@[simp] theorem Block.withKeeper_keeper (b : Block) (v) : (b.withKeeper v).keeper = v := rfl
@[simp] theorem Block.withKeeper_aux (b : Block) (v) : (b.withKeeper v).aux = b.aux := rfl
@[simp] theorem Block.withKeeper_imp (b : Block) (v) : (b.withKeeper v).imp = b.imp := rfl
@[simp] theorem Block.withKeeper_link (b : Block) (v) : (b.withKeeper v).link = b.link := rfl
@[simp] theorem Block.withKeeper_access (b : Block) (v) : (b.withKeeper v).access = b.access := rfl
@[simp] theorem Block.withKeeper_host (b : Block) (v) : (b.withKeeper v).host = b.host := rfl
@[simp] theorem Block.withKeeper_diag (b : Block) (v) : (b.withKeeper v).diag = b.diag := rfl
@[simp] theorem Block.withKeeper_thermal (b : Block) (v) : (b.withKeeper v).thermal = b.thermal := rfl
@[simp] theorem Block.withKeeper_chainSet (b : Block) (v) : (b.withKeeper v).chainSet = b.chainSet := rfl
@[simp] theorem Block.withKeeper_socTable (b : Block) (v) : (b.withKeeper v).socTable = b.socTable := rfl
@[simp] theorem Block.withKeeper_tempCurve (b : Block) (v) : (b.withKeeper v).tempCurve = b.tempCurve := rfl
@[simp] theorem Block.withKeeper_dict (b : Block) (v) : (b.withKeeper v).dict = b.dict := rfl
@[simp] theorem Block.withKeeper_out (b : Block) (v) : (b.withKeeper v).out = b.out := rfl
@[simp] theorem Block.withKeeper_free (b : Block) (v) : (b.withKeeper v).free = b.free := rfl
@[simp] theorem Block.withKeeper_get (b : Block) (v) (k : Nat) : (b.withKeeper v).get k = b.get k := rfl
@[simp] theorem Block.withKeeper_nat (b : Block) (v) (k : Nat) : (b.withKeeper v).nat k = b.nat k := rfl
@[simp] theorem Block.withKeeper_on (b : Block) (v) (k : Nat) : (b.withKeeper v).on k = b.on k := rfl
@[simp] theorem Block.withKeeper_bit (b : Block) (v) (k i : Nat) : (b.withKeeper v).bit k i = b.bit k i := rfl
@[simp] theorem Block.withKeeper_isHead (b : Block) (v) : (b.withKeeper v).isHead = b.isHead := rfl
@[simp] theorem Block.withKeeper_cells (b : Block) (v) : (b.withKeeper v).cells = b.cells := rfl
@[simp] theorem Block.withKeeper_noCells (b : Block) (v) : (b.withKeeper v).noCells = b.noCells := rfl
@[simp] theorem Block.withKeeper_live (b : Block) (v) (s : Nat) : (b.withKeeper v).live s = b.live s := rfl
@[simp] theorem Block.withKeeper_latched (b : Block) (v) (s : Nat) : (b.withKeeper v).latched s = b.latched s := rfl
@[simp] theorem Block.withKeeper_anyLatched (b : Block) (v) : (b.withKeeper v).anyLatched = b.anyLatched := rfl
@[simp] theorem Block.withKeeper_awake (b : Block) (v) : (b.withKeeper v).awake = b.awake := rfl
@[simp] theorem Block.withKeeper_measuring (b : Block) (v) : (b.withKeeper v).measuring = b.measuring := rfl
@[simp] theorem Block.withKeeper_inFull (b : Block) (v) : (b.withKeeper v).inFull = b.inFull := rfl
@[simp] theorem Block.withKeeper_now (b : Block) (v) : (b.withKeeper v).now = b.now := rfl
@[simp] theorem Block.withKeeper_engineRuns (b : Block) (v) (k : Nat) : (b.withKeeper v).engineRuns k = b.engineRuns k := rfl

/-! #### withAux -/

@[simp] theorem Block.withAux_fuses (b : Block) (v) : (b.withAux v).fuses = b.fuses := rfl
@[simp] theorem Block.withAux_power (b : Block) (v) : (b.withAux v).power = b.power := rfl
@[simp] theorem Block.withAux_bedrock (b : Block) (v) : (b.withAux v).bedrock = b.bedrock := rfl
@[simp] theorem Block.withAux_journal (b : Block) (v) : (b.withAux v).journal = b.journal := rfl
@[simp] theorem Block.withAux_flint (b : Block) (v) : (b.withAux v).flint = b.flint := rfl
@[simp] theorem Block.withAux_nvm (b : Block) (v) : (b.withAux v).nvm = b.nvm := rfl
@[simp] theorem Block.withAux_tb (b : Block) (v) : (b.withAux v).tb = b.tb := rfl
@[simp] theorem Block.withAux_phys (b : Block) (v) : (b.withAux v).phys = b.phys := rfl
@[simp] theorem Block.withAux_gov (b : Block) (v) : (b.withAux v).gov = b.gov := rfl
@[simp] theorem Block.withAux_lanes (b : Block) (v) : (b.withAux v).lanes = b.lanes := rfl
@[simp] theorem Block.withAux_win (b : Block) (v) : (b.withAux v).win = b.win := rfl
@[simp] theorem Block.withAux_cap (b : Block) (v) : (b.withAux v).cap = b.cap := rfl
@[simp] theorem Block.withAux_keeper (b : Block) (v) : (b.withAux v).keeper = b.keeper := rfl
@[simp] theorem Block.withAux_aux (b : Block) (v) : (b.withAux v).aux = v := rfl
@[simp] theorem Block.withAux_imp (b : Block) (v) : (b.withAux v).imp = b.imp := rfl
@[simp] theorem Block.withAux_link (b : Block) (v) : (b.withAux v).link = b.link := rfl
@[simp] theorem Block.withAux_access (b : Block) (v) : (b.withAux v).access = b.access := rfl
@[simp] theorem Block.withAux_host (b : Block) (v) : (b.withAux v).host = b.host := rfl
@[simp] theorem Block.withAux_diag (b : Block) (v) : (b.withAux v).diag = b.diag := rfl
@[simp] theorem Block.withAux_thermal (b : Block) (v) : (b.withAux v).thermal = b.thermal := rfl
@[simp] theorem Block.withAux_chainSet (b : Block) (v) : (b.withAux v).chainSet = b.chainSet := rfl
@[simp] theorem Block.withAux_socTable (b : Block) (v) : (b.withAux v).socTable = b.socTable := rfl
@[simp] theorem Block.withAux_tempCurve (b : Block) (v) : (b.withAux v).tempCurve = b.tempCurve := rfl
@[simp] theorem Block.withAux_dict (b : Block) (v) : (b.withAux v).dict = b.dict := rfl
@[simp] theorem Block.withAux_out (b : Block) (v) : (b.withAux v).out = b.out := rfl
@[simp] theorem Block.withAux_free (b : Block) (v) : (b.withAux v).free = b.free := rfl
@[simp] theorem Block.withAux_get (b : Block) (v) (k : Nat) : (b.withAux v).get k = b.get k := rfl
@[simp] theorem Block.withAux_nat (b : Block) (v) (k : Nat) : (b.withAux v).nat k = b.nat k := rfl
@[simp] theorem Block.withAux_on (b : Block) (v) (k : Nat) : (b.withAux v).on k = b.on k := rfl
@[simp] theorem Block.withAux_bit (b : Block) (v) (k i : Nat) : (b.withAux v).bit k i = b.bit k i := rfl
@[simp] theorem Block.withAux_isHead (b : Block) (v) : (b.withAux v).isHead = b.isHead := rfl
@[simp] theorem Block.withAux_cells (b : Block) (v) : (b.withAux v).cells = b.cells := rfl
@[simp] theorem Block.withAux_noCells (b : Block) (v) : (b.withAux v).noCells = b.noCells := rfl
@[simp] theorem Block.withAux_live (b : Block) (v) (s : Nat) : (b.withAux v).live s = b.live s := rfl
@[simp] theorem Block.withAux_latched (b : Block) (v) (s : Nat) : (b.withAux v).latched s = b.latched s := rfl
@[simp] theorem Block.withAux_anyLatched (b : Block) (v) : (b.withAux v).anyLatched = b.anyLatched := rfl
@[simp] theorem Block.withAux_awake (b : Block) (v) : (b.withAux v).awake = b.awake := rfl
@[simp] theorem Block.withAux_measuring (b : Block) (v) : (b.withAux v).measuring = b.measuring := rfl
@[simp] theorem Block.withAux_inFull (b : Block) (v) : (b.withAux v).inFull = b.inFull := rfl
@[simp] theorem Block.withAux_now (b : Block) (v) : (b.withAux v).now = b.now := rfl
@[simp] theorem Block.withAux_engineRuns (b : Block) (v) (k : Nat) : (b.withAux v).engineRuns k = b.engineRuns k := rfl

/-! #### withImp -/

@[simp] theorem Block.withImp_fuses (b : Block) (v) : (b.withImp v).fuses = b.fuses := rfl
@[simp] theorem Block.withImp_power (b : Block) (v) : (b.withImp v).power = b.power := rfl
@[simp] theorem Block.withImp_bedrock (b : Block) (v) : (b.withImp v).bedrock = b.bedrock := rfl
@[simp] theorem Block.withImp_journal (b : Block) (v) : (b.withImp v).journal = b.journal := rfl
@[simp] theorem Block.withImp_flint (b : Block) (v) : (b.withImp v).flint = b.flint := rfl
@[simp] theorem Block.withImp_nvm (b : Block) (v) : (b.withImp v).nvm = b.nvm := rfl
@[simp] theorem Block.withImp_tb (b : Block) (v) : (b.withImp v).tb = b.tb := rfl
@[simp] theorem Block.withImp_phys (b : Block) (v) : (b.withImp v).phys = b.phys := rfl
@[simp] theorem Block.withImp_gov (b : Block) (v) : (b.withImp v).gov = b.gov := rfl
@[simp] theorem Block.withImp_lanes (b : Block) (v) : (b.withImp v).lanes = b.lanes := rfl
@[simp] theorem Block.withImp_win (b : Block) (v) : (b.withImp v).win = b.win := rfl
@[simp] theorem Block.withImp_cap (b : Block) (v) : (b.withImp v).cap = b.cap := rfl
@[simp] theorem Block.withImp_keeper (b : Block) (v) : (b.withImp v).keeper = b.keeper := rfl
@[simp] theorem Block.withImp_aux (b : Block) (v) : (b.withImp v).aux = b.aux := rfl
@[simp] theorem Block.withImp_imp (b : Block) (v) : (b.withImp v).imp = v := rfl
@[simp] theorem Block.withImp_link (b : Block) (v) : (b.withImp v).link = b.link := rfl
@[simp] theorem Block.withImp_access (b : Block) (v) : (b.withImp v).access = b.access := rfl
@[simp] theorem Block.withImp_host (b : Block) (v) : (b.withImp v).host = b.host := rfl
@[simp] theorem Block.withImp_diag (b : Block) (v) : (b.withImp v).diag = b.diag := rfl
@[simp] theorem Block.withImp_thermal (b : Block) (v) : (b.withImp v).thermal = b.thermal := rfl
@[simp] theorem Block.withImp_chainSet (b : Block) (v) : (b.withImp v).chainSet = b.chainSet := rfl
@[simp] theorem Block.withImp_socTable (b : Block) (v) : (b.withImp v).socTable = b.socTable := rfl
@[simp] theorem Block.withImp_tempCurve (b : Block) (v) : (b.withImp v).tempCurve = b.tempCurve := rfl
@[simp] theorem Block.withImp_dict (b : Block) (v) : (b.withImp v).dict = b.dict := rfl
@[simp] theorem Block.withImp_out (b : Block) (v) : (b.withImp v).out = b.out := rfl
@[simp] theorem Block.withImp_free (b : Block) (v) : (b.withImp v).free = b.free := rfl
@[simp] theorem Block.withImp_get (b : Block) (v) (k : Nat) : (b.withImp v).get k = b.get k := rfl
@[simp] theorem Block.withImp_nat (b : Block) (v) (k : Nat) : (b.withImp v).nat k = b.nat k := rfl
@[simp] theorem Block.withImp_on (b : Block) (v) (k : Nat) : (b.withImp v).on k = b.on k := rfl
@[simp] theorem Block.withImp_bit (b : Block) (v) (k i : Nat) : (b.withImp v).bit k i = b.bit k i := rfl
@[simp] theorem Block.withImp_isHead (b : Block) (v) : (b.withImp v).isHead = b.isHead := rfl
@[simp] theorem Block.withImp_cells (b : Block) (v) : (b.withImp v).cells = b.cells := rfl
@[simp] theorem Block.withImp_noCells (b : Block) (v) : (b.withImp v).noCells = b.noCells := rfl
@[simp] theorem Block.withImp_live (b : Block) (v) (s : Nat) : (b.withImp v).live s = b.live s := rfl
@[simp] theorem Block.withImp_latched (b : Block) (v) (s : Nat) : (b.withImp v).latched s = b.latched s := rfl
@[simp] theorem Block.withImp_anyLatched (b : Block) (v) : (b.withImp v).anyLatched = b.anyLatched := rfl
@[simp] theorem Block.withImp_awake (b : Block) (v) : (b.withImp v).awake = b.awake := rfl
@[simp] theorem Block.withImp_measuring (b : Block) (v) : (b.withImp v).measuring = b.measuring := rfl
@[simp] theorem Block.withImp_inFull (b : Block) (v) : (b.withImp v).inFull = b.inFull := rfl
@[simp] theorem Block.withImp_now (b : Block) (v) : (b.withImp v).now = b.now := rfl
@[simp] theorem Block.withImp_engineRuns (b : Block) (v) (k : Nat) : (b.withImp v).engineRuns k = b.engineRuns k := rfl

/-! #### withLink -/

@[simp] theorem Block.withLink_fuses (b : Block) (v) : (b.withLink v).fuses = b.fuses := rfl
@[simp] theorem Block.withLink_power (b : Block) (v) : (b.withLink v).power = b.power := rfl
@[simp] theorem Block.withLink_bedrock (b : Block) (v) : (b.withLink v).bedrock = b.bedrock := rfl
@[simp] theorem Block.withLink_journal (b : Block) (v) : (b.withLink v).journal = b.journal := rfl
@[simp] theorem Block.withLink_flint (b : Block) (v) : (b.withLink v).flint = b.flint := rfl
@[simp] theorem Block.withLink_nvm (b : Block) (v) : (b.withLink v).nvm = b.nvm := rfl
@[simp] theorem Block.withLink_tb (b : Block) (v) : (b.withLink v).tb = b.tb := rfl
@[simp] theorem Block.withLink_phys (b : Block) (v) : (b.withLink v).phys = b.phys := rfl
@[simp] theorem Block.withLink_gov (b : Block) (v) : (b.withLink v).gov = b.gov := rfl
@[simp] theorem Block.withLink_lanes (b : Block) (v) : (b.withLink v).lanes = b.lanes := rfl
@[simp] theorem Block.withLink_win (b : Block) (v) : (b.withLink v).win = b.win := rfl
@[simp] theorem Block.withLink_cap (b : Block) (v) : (b.withLink v).cap = b.cap := rfl
@[simp] theorem Block.withLink_keeper (b : Block) (v) : (b.withLink v).keeper = b.keeper := rfl
@[simp] theorem Block.withLink_aux (b : Block) (v) : (b.withLink v).aux = b.aux := rfl
@[simp] theorem Block.withLink_imp (b : Block) (v) : (b.withLink v).imp = b.imp := rfl
@[simp] theorem Block.withLink_link (b : Block) (v) : (b.withLink v).link = v := rfl
@[simp] theorem Block.withLink_access (b : Block) (v) : (b.withLink v).access = b.access := rfl
@[simp] theorem Block.withLink_host (b : Block) (v) : (b.withLink v).host = b.host := rfl
@[simp] theorem Block.withLink_diag (b : Block) (v) : (b.withLink v).diag = b.diag := rfl
@[simp] theorem Block.withLink_thermal (b : Block) (v) : (b.withLink v).thermal = b.thermal := rfl
@[simp] theorem Block.withLink_chainSet (b : Block) (v) : (b.withLink v).chainSet = b.chainSet := rfl
@[simp] theorem Block.withLink_socTable (b : Block) (v) : (b.withLink v).socTable = b.socTable := rfl
@[simp] theorem Block.withLink_tempCurve (b : Block) (v) : (b.withLink v).tempCurve = b.tempCurve := rfl
@[simp] theorem Block.withLink_dict (b : Block) (v) : (b.withLink v).dict = b.dict := rfl
@[simp] theorem Block.withLink_out (b : Block) (v) : (b.withLink v).out = b.out := rfl
@[simp] theorem Block.withLink_free (b : Block) (v) : (b.withLink v).free = b.free := rfl
@[simp] theorem Block.withLink_get (b : Block) (v) (k : Nat) : (b.withLink v).get k = b.get k := rfl
@[simp] theorem Block.withLink_nat (b : Block) (v) (k : Nat) : (b.withLink v).nat k = b.nat k := rfl
@[simp] theorem Block.withLink_on (b : Block) (v) (k : Nat) : (b.withLink v).on k = b.on k := rfl
@[simp] theorem Block.withLink_bit (b : Block) (v) (k i : Nat) : (b.withLink v).bit k i = b.bit k i := rfl
@[simp] theorem Block.withLink_isHead (b : Block) (v) : (b.withLink v).isHead = b.isHead := rfl
@[simp] theorem Block.withLink_cells (b : Block) (v) : (b.withLink v).cells = b.cells := rfl
@[simp] theorem Block.withLink_noCells (b : Block) (v) : (b.withLink v).noCells = b.noCells := rfl
@[simp] theorem Block.withLink_live (b : Block) (v) (s : Nat) : (b.withLink v).live s = b.live s := rfl
@[simp] theorem Block.withLink_latched (b : Block) (v) (s : Nat) : (b.withLink v).latched s = b.latched s := rfl
@[simp] theorem Block.withLink_anyLatched (b : Block) (v) : (b.withLink v).anyLatched = b.anyLatched := rfl
@[simp] theorem Block.withLink_awake (b : Block) (v) : (b.withLink v).awake = b.awake := rfl
@[simp] theorem Block.withLink_measuring (b : Block) (v) : (b.withLink v).measuring = b.measuring := rfl
@[simp] theorem Block.withLink_inFull (b : Block) (v) : (b.withLink v).inFull = b.inFull := rfl
@[simp] theorem Block.withLink_now (b : Block) (v) : (b.withLink v).now = b.now := rfl
@[simp] theorem Block.withLink_engineRuns (b : Block) (v) (k : Nat) : (b.withLink v).engineRuns k = b.engineRuns k := rfl

/-! #### withAccess -/

@[simp] theorem Block.withAccess_fuses (b : Block) (v) : (b.withAccess v).fuses = b.fuses := rfl
@[simp] theorem Block.withAccess_power (b : Block) (v) : (b.withAccess v).power = b.power := rfl
@[simp] theorem Block.withAccess_bedrock (b : Block) (v) : (b.withAccess v).bedrock = b.bedrock := rfl
@[simp] theorem Block.withAccess_journal (b : Block) (v) : (b.withAccess v).journal = b.journal := rfl
@[simp] theorem Block.withAccess_flint (b : Block) (v) : (b.withAccess v).flint = b.flint := rfl
@[simp] theorem Block.withAccess_nvm (b : Block) (v) : (b.withAccess v).nvm = b.nvm := rfl
@[simp] theorem Block.withAccess_tb (b : Block) (v) : (b.withAccess v).tb = b.tb := rfl
@[simp] theorem Block.withAccess_phys (b : Block) (v) : (b.withAccess v).phys = b.phys := rfl
@[simp] theorem Block.withAccess_gov (b : Block) (v) : (b.withAccess v).gov = b.gov := rfl
@[simp] theorem Block.withAccess_lanes (b : Block) (v) : (b.withAccess v).lanes = b.lanes := rfl
@[simp] theorem Block.withAccess_win (b : Block) (v) : (b.withAccess v).win = b.win := rfl
@[simp] theorem Block.withAccess_cap (b : Block) (v) : (b.withAccess v).cap = b.cap := rfl
@[simp] theorem Block.withAccess_keeper (b : Block) (v) : (b.withAccess v).keeper = b.keeper := rfl
@[simp] theorem Block.withAccess_aux (b : Block) (v) : (b.withAccess v).aux = b.aux := rfl
@[simp] theorem Block.withAccess_imp (b : Block) (v) : (b.withAccess v).imp = b.imp := rfl
@[simp] theorem Block.withAccess_link (b : Block) (v) : (b.withAccess v).link = b.link := rfl
@[simp] theorem Block.withAccess_access (b : Block) (v) : (b.withAccess v).access = v := rfl
@[simp] theorem Block.withAccess_host (b : Block) (v) : (b.withAccess v).host = b.host := rfl
@[simp] theorem Block.withAccess_diag (b : Block) (v) : (b.withAccess v).diag = b.diag := rfl
@[simp] theorem Block.withAccess_thermal (b : Block) (v) : (b.withAccess v).thermal = b.thermal := rfl
@[simp] theorem Block.withAccess_chainSet (b : Block) (v) : (b.withAccess v).chainSet = b.chainSet := rfl
@[simp] theorem Block.withAccess_socTable (b : Block) (v) : (b.withAccess v).socTable = b.socTable := rfl
@[simp] theorem Block.withAccess_tempCurve (b : Block) (v) : (b.withAccess v).tempCurve = b.tempCurve := rfl
@[simp] theorem Block.withAccess_dict (b : Block) (v) : (b.withAccess v).dict = b.dict := rfl
@[simp] theorem Block.withAccess_out (b : Block) (v) : (b.withAccess v).out = b.out := rfl
@[simp] theorem Block.withAccess_free (b : Block) (v) : (b.withAccess v).free = b.free := rfl
@[simp] theorem Block.withAccess_get (b : Block) (v) (k : Nat) : (b.withAccess v).get k = b.get k := rfl
@[simp] theorem Block.withAccess_nat (b : Block) (v) (k : Nat) : (b.withAccess v).nat k = b.nat k := rfl
@[simp] theorem Block.withAccess_on (b : Block) (v) (k : Nat) : (b.withAccess v).on k = b.on k := rfl
@[simp] theorem Block.withAccess_bit (b : Block) (v) (k i : Nat) : (b.withAccess v).bit k i = b.bit k i := rfl
@[simp] theorem Block.withAccess_isHead (b : Block) (v) : (b.withAccess v).isHead = b.isHead := rfl
@[simp] theorem Block.withAccess_cells (b : Block) (v) : (b.withAccess v).cells = b.cells := rfl
@[simp] theorem Block.withAccess_noCells (b : Block) (v) : (b.withAccess v).noCells = b.noCells := rfl
@[simp] theorem Block.withAccess_live (b : Block) (v) (s : Nat) : (b.withAccess v).live s = b.live s := rfl
@[simp] theorem Block.withAccess_latched (b : Block) (v) (s : Nat) : (b.withAccess v).latched s = b.latched s := rfl
@[simp] theorem Block.withAccess_anyLatched (b : Block) (v) : (b.withAccess v).anyLatched = b.anyLatched := rfl
@[simp] theorem Block.withAccess_awake (b : Block) (v) : (b.withAccess v).awake = b.awake := rfl
@[simp] theorem Block.withAccess_measuring (b : Block) (v) : (b.withAccess v).measuring = b.measuring := rfl
@[simp] theorem Block.withAccess_inFull (b : Block) (v) : (b.withAccess v).inFull = b.inFull := rfl
@[simp] theorem Block.withAccess_now (b : Block) (v) : (b.withAccess v).now = b.now := rfl
@[simp] theorem Block.withAccess_engineRuns (b : Block) (v) (k : Nat) : (b.withAccess v).engineRuns k = b.engineRuns k := rfl

/-! #### withHost -/

@[simp] theorem Block.withHost_fuses (b : Block) (v) : (b.withHost v).fuses = b.fuses := rfl
@[simp] theorem Block.withHost_power (b : Block) (v) : (b.withHost v).power = b.power := rfl
@[simp] theorem Block.withHost_bedrock (b : Block) (v) : (b.withHost v).bedrock = b.bedrock := rfl
@[simp] theorem Block.withHost_journal (b : Block) (v) : (b.withHost v).journal = b.journal := rfl
@[simp] theorem Block.withHost_flint (b : Block) (v) : (b.withHost v).flint = b.flint := rfl
@[simp] theorem Block.withHost_nvm (b : Block) (v) : (b.withHost v).nvm = b.nvm := rfl
@[simp] theorem Block.withHost_tb (b : Block) (v) : (b.withHost v).tb = b.tb := rfl
@[simp] theorem Block.withHost_phys (b : Block) (v) : (b.withHost v).phys = b.phys := rfl
@[simp] theorem Block.withHost_gov (b : Block) (v) : (b.withHost v).gov = b.gov := rfl
@[simp] theorem Block.withHost_lanes (b : Block) (v) : (b.withHost v).lanes = b.lanes := rfl
@[simp] theorem Block.withHost_win (b : Block) (v) : (b.withHost v).win = b.win := rfl
@[simp] theorem Block.withHost_cap (b : Block) (v) : (b.withHost v).cap = b.cap := rfl
@[simp] theorem Block.withHost_keeper (b : Block) (v) : (b.withHost v).keeper = b.keeper := rfl
@[simp] theorem Block.withHost_aux (b : Block) (v) : (b.withHost v).aux = b.aux := rfl
@[simp] theorem Block.withHost_imp (b : Block) (v) : (b.withHost v).imp = b.imp := rfl
@[simp] theorem Block.withHost_link (b : Block) (v) : (b.withHost v).link = b.link := rfl
@[simp] theorem Block.withHost_access (b : Block) (v) : (b.withHost v).access = b.access := rfl
@[simp] theorem Block.withHost_host (b : Block) (v) : (b.withHost v).host = v := rfl
@[simp] theorem Block.withHost_diag (b : Block) (v) : (b.withHost v).diag = b.diag := rfl
@[simp] theorem Block.withHost_thermal (b : Block) (v) : (b.withHost v).thermal = b.thermal := rfl
@[simp] theorem Block.withHost_chainSet (b : Block) (v) : (b.withHost v).chainSet = b.chainSet := rfl
@[simp] theorem Block.withHost_socTable (b : Block) (v) : (b.withHost v).socTable = b.socTable := rfl
@[simp] theorem Block.withHost_tempCurve (b : Block) (v) : (b.withHost v).tempCurve = b.tempCurve := rfl
@[simp] theorem Block.withHost_dict (b : Block) (v) : (b.withHost v).dict = b.dict := rfl
@[simp] theorem Block.withHost_out (b : Block) (v) : (b.withHost v).out = b.out := rfl
@[simp] theorem Block.withHost_free (b : Block) (v) : (b.withHost v).free = b.free := rfl
@[simp] theorem Block.withHost_get (b : Block) (v) (k : Nat) : (b.withHost v).get k = b.get k := rfl
@[simp] theorem Block.withHost_nat (b : Block) (v) (k : Nat) : (b.withHost v).nat k = b.nat k := rfl
@[simp] theorem Block.withHost_on (b : Block) (v) (k : Nat) : (b.withHost v).on k = b.on k := rfl
@[simp] theorem Block.withHost_bit (b : Block) (v) (k i : Nat) : (b.withHost v).bit k i = b.bit k i := rfl
@[simp] theorem Block.withHost_isHead (b : Block) (v) : (b.withHost v).isHead = b.isHead := rfl
@[simp] theorem Block.withHost_cells (b : Block) (v) : (b.withHost v).cells = b.cells := rfl
@[simp] theorem Block.withHost_noCells (b : Block) (v) : (b.withHost v).noCells = b.noCells := rfl
@[simp] theorem Block.withHost_live (b : Block) (v) (s : Nat) : (b.withHost v).live s = b.live s := rfl
@[simp] theorem Block.withHost_latched (b : Block) (v) (s : Nat) : (b.withHost v).latched s = b.latched s := rfl
@[simp] theorem Block.withHost_anyLatched (b : Block) (v) : (b.withHost v).anyLatched = b.anyLatched := rfl
@[simp] theorem Block.withHost_awake (b : Block) (v) : (b.withHost v).awake = b.awake := rfl
@[simp] theorem Block.withHost_measuring (b : Block) (v) : (b.withHost v).measuring = b.measuring := rfl
@[simp] theorem Block.withHost_inFull (b : Block) (v) : (b.withHost v).inFull = b.inFull := rfl
@[simp] theorem Block.withHost_now (b : Block) (v) : (b.withHost v).now = b.now := rfl
@[simp] theorem Block.withHost_engineRuns (b : Block) (v) (k : Nat) : (b.withHost v).engineRuns k = b.engineRuns k := rfl

/-! #### withDiag -/

@[simp] theorem Block.withDiag_fuses (b : Block) (v) : (b.withDiag v).fuses = b.fuses := rfl
@[simp] theorem Block.withDiag_power (b : Block) (v) : (b.withDiag v).power = b.power := rfl
@[simp] theorem Block.withDiag_bedrock (b : Block) (v) : (b.withDiag v).bedrock = b.bedrock := rfl
@[simp] theorem Block.withDiag_journal (b : Block) (v) : (b.withDiag v).journal = b.journal := rfl
@[simp] theorem Block.withDiag_flint (b : Block) (v) : (b.withDiag v).flint = b.flint := rfl
@[simp] theorem Block.withDiag_nvm (b : Block) (v) : (b.withDiag v).nvm = b.nvm := rfl
@[simp] theorem Block.withDiag_tb (b : Block) (v) : (b.withDiag v).tb = b.tb := rfl
@[simp] theorem Block.withDiag_phys (b : Block) (v) : (b.withDiag v).phys = b.phys := rfl
@[simp] theorem Block.withDiag_gov (b : Block) (v) : (b.withDiag v).gov = b.gov := rfl
@[simp] theorem Block.withDiag_lanes (b : Block) (v) : (b.withDiag v).lanes = b.lanes := rfl
@[simp] theorem Block.withDiag_win (b : Block) (v) : (b.withDiag v).win = b.win := rfl
@[simp] theorem Block.withDiag_cap (b : Block) (v) : (b.withDiag v).cap = b.cap := rfl
@[simp] theorem Block.withDiag_keeper (b : Block) (v) : (b.withDiag v).keeper = b.keeper := rfl
@[simp] theorem Block.withDiag_aux (b : Block) (v) : (b.withDiag v).aux = b.aux := rfl
@[simp] theorem Block.withDiag_imp (b : Block) (v) : (b.withDiag v).imp = b.imp := rfl
@[simp] theorem Block.withDiag_link (b : Block) (v) : (b.withDiag v).link = b.link := rfl
@[simp] theorem Block.withDiag_access (b : Block) (v) : (b.withDiag v).access = b.access := rfl
@[simp] theorem Block.withDiag_host (b : Block) (v) : (b.withDiag v).host = b.host := rfl
@[simp] theorem Block.withDiag_diag (b : Block) (v) : (b.withDiag v).diag = v := rfl
@[simp] theorem Block.withDiag_thermal (b : Block) (v) : (b.withDiag v).thermal = b.thermal := rfl
@[simp] theorem Block.withDiag_chainSet (b : Block) (v) : (b.withDiag v).chainSet = b.chainSet := rfl
@[simp] theorem Block.withDiag_socTable (b : Block) (v) : (b.withDiag v).socTable = b.socTable := rfl
@[simp] theorem Block.withDiag_tempCurve (b : Block) (v) : (b.withDiag v).tempCurve = b.tempCurve := rfl
@[simp] theorem Block.withDiag_dict (b : Block) (v) : (b.withDiag v).dict = b.dict := rfl
@[simp] theorem Block.withDiag_out (b : Block) (v) : (b.withDiag v).out = b.out := rfl
@[simp] theorem Block.withDiag_free (b : Block) (v) : (b.withDiag v).free = b.free := rfl
@[simp] theorem Block.withDiag_get (b : Block) (v) (k : Nat) : (b.withDiag v).get k = b.get k := rfl
@[simp] theorem Block.withDiag_nat (b : Block) (v) (k : Nat) : (b.withDiag v).nat k = b.nat k := rfl
@[simp] theorem Block.withDiag_on (b : Block) (v) (k : Nat) : (b.withDiag v).on k = b.on k := rfl
@[simp] theorem Block.withDiag_bit (b : Block) (v) (k i : Nat) : (b.withDiag v).bit k i = b.bit k i := rfl
@[simp] theorem Block.withDiag_isHead (b : Block) (v) : (b.withDiag v).isHead = b.isHead := rfl
@[simp] theorem Block.withDiag_cells (b : Block) (v) : (b.withDiag v).cells = b.cells := rfl
@[simp] theorem Block.withDiag_noCells (b : Block) (v) : (b.withDiag v).noCells = b.noCells := rfl
@[simp] theorem Block.withDiag_live (b : Block) (v) (s : Nat) : (b.withDiag v).live s = b.live s := rfl
@[simp] theorem Block.withDiag_latched (b : Block) (v) (s : Nat) : (b.withDiag v).latched s = b.latched s := rfl
@[simp] theorem Block.withDiag_anyLatched (b : Block) (v) : (b.withDiag v).anyLatched = b.anyLatched := rfl
@[simp] theorem Block.withDiag_awake (b : Block) (v) : (b.withDiag v).awake = b.awake := rfl
@[simp] theorem Block.withDiag_measuring (b : Block) (v) : (b.withDiag v).measuring = b.measuring := rfl
@[simp] theorem Block.withDiag_inFull (b : Block) (v) : (b.withDiag v).inFull = b.inFull := rfl
@[simp] theorem Block.withDiag_now (b : Block) (v) : (b.withDiag v).now = b.now := rfl

/-! #### withThermal -/

@[simp] theorem Block.withThermal_fuses (b : Block) (v) : (b.withThermal v).fuses = b.fuses := rfl
@[simp] theorem Block.withThermal_power (b : Block) (v) : (b.withThermal v).power = b.power := rfl
@[simp] theorem Block.withThermal_bedrock (b : Block) (v) : (b.withThermal v).bedrock = b.bedrock := rfl
@[simp] theorem Block.withThermal_journal (b : Block) (v) : (b.withThermal v).journal = b.journal := rfl
@[simp] theorem Block.withThermal_flint (b : Block) (v) : (b.withThermal v).flint = b.flint := rfl
@[simp] theorem Block.withThermal_nvm (b : Block) (v) : (b.withThermal v).nvm = b.nvm := rfl
@[simp] theorem Block.withThermal_tb (b : Block) (v) : (b.withThermal v).tb = b.tb := rfl
@[simp] theorem Block.withThermal_phys (b : Block) (v) : (b.withThermal v).phys = b.phys := rfl
@[simp] theorem Block.withThermal_gov (b : Block) (v) : (b.withThermal v).gov = b.gov := rfl
@[simp] theorem Block.withThermal_lanes (b : Block) (v) : (b.withThermal v).lanes = b.lanes := rfl
@[simp] theorem Block.withThermal_win (b : Block) (v) : (b.withThermal v).win = b.win := rfl
@[simp] theorem Block.withThermal_cap (b : Block) (v) : (b.withThermal v).cap = b.cap := rfl
@[simp] theorem Block.withThermal_keeper (b : Block) (v) : (b.withThermal v).keeper = b.keeper := rfl
@[simp] theorem Block.withThermal_aux (b : Block) (v) : (b.withThermal v).aux = b.aux := rfl
@[simp] theorem Block.withThermal_imp (b : Block) (v) : (b.withThermal v).imp = b.imp := rfl
@[simp] theorem Block.withThermal_link (b : Block) (v) : (b.withThermal v).link = b.link := rfl
@[simp] theorem Block.withThermal_access (b : Block) (v) : (b.withThermal v).access = b.access := rfl
@[simp] theorem Block.withThermal_host (b : Block) (v) : (b.withThermal v).host = b.host := rfl
@[simp] theorem Block.withThermal_diag (b : Block) (v) : (b.withThermal v).diag = b.diag := rfl
@[simp] theorem Block.withThermal_thermal (b : Block) (v) : (b.withThermal v).thermal = v := rfl
@[simp] theorem Block.withThermal_chainSet (b : Block) (v) : (b.withThermal v).chainSet = b.chainSet := rfl
@[simp] theorem Block.withThermal_socTable (b : Block) (v) : (b.withThermal v).socTable = b.socTable := rfl
@[simp] theorem Block.withThermal_tempCurve (b : Block) (v) : (b.withThermal v).tempCurve = b.tempCurve := rfl
@[simp] theorem Block.withThermal_dict (b : Block) (v) : (b.withThermal v).dict = b.dict := rfl
@[simp] theorem Block.withThermal_out (b : Block) (v) : (b.withThermal v).out = b.out := rfl
@[simp] theorem Block.withThermal_free (b : Block) (v) : (b.withThermal v).free = b.free := rfl
@[simp] theorem Block.withThermal_get (b : Block) (v) (k : Nat) : (b.withThermal v).get k = b.get k := rfl
@[simp] theorem Block.withThermal_nat (b : Block) (v) (k : Nat) : (b.withThermal v).nat k = b.nat k := rfl
@[simp] theorem Block.withThermal_on (b : Block) (v) (k : Nat) : (b.withThermal v).on k = b.on k := rfl
@[simp] theorem Block.withThermal_bit (b : Block) (v) (k i : Nat) : (b.withThermal v).bit k i = b.bit k i := rfl
@[simp] theorem Block.withThermal_isHead (b : Block) (v) : (b.withThermal v).isHead = b.isHead := rfl
@[simp] theorem Block.withThermal_cells (b : Block) (v) : (b.withThermal v).cells = b.cells := rfl
@[simp] theorem Block.withThermal_noCells (b : Block) (v) : (b.withThermal v).noCells = b.noCells := rfl
@[simp] theorem Block.withThermal_live (b : Block) (v) (s : Nat) : (b.withThermal v).live s = b.live s := rfl
@[simp] theorem Block.withThermal_latched (b : Block) (v) (s : Nat) : (b.withThermal v).latched s = b.latched s := rfl
@[simp] theorem Block.withThermal_anyLatched (b : Block) (v) : (b.withThermal v).anyLatched = b.anyLatched := rfl
@[simp] theorem Block.withThermal_awake (b : Block) (v) : (b.withThermal v).awake = b.awake := rfl
@[simp] theorem Block.withThermal_measuring (b : Block) (v) : (b.withThermal v).measuring = b.measuring := rfl
@[simp] theorem Block.withThermal_inFull (b : Block) (v) : (b.withThermal v).inFull = b.inFull := rfl
@[simp] theorem Block.withThermal_now (b : Block) (v) : (b.withThermal v).now = b.now := rfl
@[simp] theorem Block.withThermal_engineRuns (b : Block) (v) (k : Nat) : (b.withThermal v).engineRuns k = b.engineRuns k := rfl

/-! #### withChainSet -/

@[simp] theorem Block.withChainSet_fuses (b : Block) (v) : (b.withChainSet v).fuses = b.fuses := rfl
@[simp] theorem Block.withChainSet_power (b : Block) (v) : (b.withChainSet v).power = b.power := rfl
@[simp] theorem Block.withChainSet_bedrock (b : Block) (v) : (b.withChainSet v).bedrock = b.bedrock := rfl
@[simp] theorem Block.withChainSet_journal (b : Block) (v) : (b.withChainSet v).journal = b.journal := rfl
@[simp] theorem Block.withChainSet_flint (b : Block) (v) : (b.withChainSet v).flint = b.flint := rfl
@[simp] theorem Block.withChainSet_nvm (b : Block) (v) : (b.withChainSet v).nvm = b.nvm := rfl
@[simp] theorem Block.withChainSet_tb (b : Block) (v) : (b.withChainSet v).tb = b.tb := rfl
@[simp] theorem Block.withChainSet_phys (b : Block) (v) : (b.withChainSet v).phys = b.phys := rfl
@[simp] theorem Block.withChainSet_gov (b : Block) (v) : (b.withChainSet v).gov = b.gov := rfl
@[simp] theorem Block.withChainSet_lanes (b : Block) (v) : (b.withChainSet v).lanes = b.lanes := rfl
@[simp] theorem Block.withChainSet_win (b : Block) (v) : (b.withChainSet v).win = b.win := rfl
@[simp] theorem Block.withChainSet_cap (b : Block) (v) : (b.withChainSet v).cap = b.cap := rfl
@[simp] theorem Block.withChainSet_keeper (b : Block) (v) : (b.withChainSet v).keeper = b.keeper := rfl
@[simp] theorem Block.withChainSet_aux (b : Block) (v) : (b.withChainSet v).aux = b.aux := rfl
@[simp] theorem Block.withChainSet_imp (b : Block) (v) : (b.withChainSet v).imp = b.imp := rfl
@[simp] theorem Block.withChainSet_link (b : Block) (v) : (b.withChainSet v).link = b.link := rfl
@[simp] theorem Block.withChainSet_access (b : Block) (v) : (b.withChainSet v).access = b.access := rfl
@[simp] theorem Block.withChainSet_host (b : Block) (v) : (b.withChainSet v).host = b.host := rfl
@[simp] theorem Block.withChainSet_diag (b : Block) (v) : (b.withChainSet v).diag = b.diag := rfl
@[simp] theorem Block.withChainSet_thermal (b : Block) (v) : (b.withChainSet v).thermal = b.thermal := rfl
@[simp] theorem Block.withChainSet_chainSet (b : Block) (v) : (b.withChainSet v).chainSet = v := rfl
@[simp] theorem Block.withChainSet_socTable (b : Block) (v) : (b.withChainSet v).socTable = b.socTable := rfl
@[simp] theorem Block.withChainSet_tempCurve (b : Block) (v) : (b.withChainSet v).tempCurve = b.tempCurve := rfl
@[simp] theorem Block.withChainSet_dict (b : Block) (v) : (b.withChainSet v).dict = b.dict := rfl
@[simp] theorem Block.withChainSet_out (b : Block) (v) : (b.withChainSet v).out = b.out := rfl
@[simp] theorem Block.withChainSet_free (b : Block) (v) : (b.withChainSet v).free = b.free := rfl
@[simp] theorem Block.withChainSet_get (b : Block) (v) (k : Nat) : (b.withChainSet v).get k = b.get k := rfl
@[simp] theorem Block.withChainSet_nat (b : Block) (v) (k : Nat) : (b.withChainSet v).nat k = b.nat k := rfl
@[simp] theorem Block.withChainSet_on (b : Block) (v) (k : Nat) : (b.withChainSet v).on k = b.on k := rfl
@[simp] theorem Block.withChainSet_bit (b : Block) (v) (k i : Nat) : (b.withChainSet v).bit k i = b.bit k i := rfl
@[simp] theorem Block.withChainSet_isHead (b : Block) (v) : (b.withChainSet v).isHead = b.isHead := rfl
@[simp] theorem Block.withChainSet_cells (b : Block) (v) : (b.withChainSet v).cells = b.cells := rfl
@[simp] theorem Block.withChainSet_noCells (b : Block) (v) : (b.withChainSet v).noCells = b.noCells := rfl
@[simp] theorem Block.withChainSet_live (b : Block) (v) (s : Nat) : (b.withChainSet v).live s = b.live s := rfl
@[simp] theorem Block.withChainSet_latched (b : Block) (v) (s : Nat) : (b.withChainSet v).latched s = b.latched s := rfl
@[simp] theorem Block.withChainSet_anyLatched (b : Block) (v) : (b.withChainSet v).anyLatched = b.anyLatched := rfl
@[simp] theorem Block.withChainSet_awake (b : Block) (v) : (b.withChainSet v).awake = b.awake := rfl
@[simp] theorem Block.withChainSet_measuring (b : Block) (v) : (b.withChainSet v).measuring = b.measuring := rfl
@[simp] theorem Block.withChainSet_inFull (b : Block) (v) : (b.withChainSet v).inFull = b.inFull := rfl
@[simp] theorem Block.withChainSet_now (b : Block) (v) : (b.withChainSet v).now = b.now := rfl
@[simp] theorem Block.withChainSet_engineRuns (b : Block) (v) (k : Nat) : (b.withChainSet v).engineRuns k = b.engineRuns k := rfl

/-! #### withSocTable -/

@[simp] theorem Block.withSocTable_fuses (b : Block) (v) : (b.withSocTable v).fuses = b.fuses := rfl
@[simp] theorem Block.withSocTable_power (b : Block) (v) : (b.withSocTable v).power = b.power := rfl
@[simp] theorem Block.withSocTable_bedrock (b : Block) (v) : (b.withSocTable v).bedrock = b.bedrock := rfl
@[simp] theorem Block.withSocTable_journal (b : Block) (v) : (b.withSocTable v).journal = b.journal := rfl
@[simp] theorem Block.withSocTable_flint (b : Block) (v) : (b.withSocTable v).flint = b.flint := rfl
@[simp] theorem Block.withSocTable_nvm (b : Block) (v) : (b.withSocTable v).nvm = b.nvm := rfl
@[simp] theorem Block.withSocTable_tb (b : Block) (v) : (b.withSocTable v).tb = b.tb := rfl
@[simp] theorem Block.withSocTable_phys (b : Block) (v) : (b.withSocTable v).phys = b.phys := rfl
@[simp] theorem Block.withSocTable_gov (b : Block) (v) : (b.withSocTable v).gov = b.gov := rfl
@[simp] theorem Block.withSocTable_lanes (b : Block) (v) : (b.withSocTable v).lanes = b.lanes := rfl
@[simp] theorem Block.withSocTable_win (b : Block) (v) : (b.withSocTable v).win = b.win := rfl
@[simp] theorem Block.withSocTable_cap (b : Block) (v) : (b.withSocTable v).cap = b.cap := rfl
@[simp] theorem Block.withSocTable_keeper (b : Block) (v) : (b.withSocTable v).keeper = b.keeper := rfl
@[simp] theorem Block.withSocTable_aux (b : Block) (v) : (b.withSocTable v).aux = b.aux := rfl
@[simp] theorem Block.withSocTable_imp (b : Block) (v) : (b.withSocTable v).imp = b.imp := rfl
@[simp] theorem Block.withSocTable_link (b : Block) (v) : (b.withSocTable v).link = b.link := rfl
@[simp] theorem Block.withSocTable_access (b : Block) (v) : (b.withSocTable v).access = b.access := rfl
@[simp] theorem Block.withSocTable_host (b : Block) (v) : (b.withSocTable v).host = b.host := rfl
@[simp] theorem Block.withSocTable_diag (b : Block) (v) : (b.withSocTable v).diag = b.diag := rfl
@[simp] theorem Block.withSocTable_thermal (b : Block) (v) : (b.withSocTable v).thermal = b.thermal := rfl
@[simp] theorem Block.withSocTable_chainSet (b : Block) (v) : (b.withSocTable v).chainSet = b.chainSet := rfl
@[simp] theorem Block.withSocTable_socTable (b : Block) (v) : (b.withSocTable v).socTable = v := rfl
@[simp] theorem Block.withSocTable_tempCurve (b : Block) (v) : (b.withSocTable v).tempCurve = b.tempCurve := rfl
@[simp] theorem Block.withSocTable_dict (b : Block) (v) : (b.withSocTable v).dict = b.dict := rfl
@[simp] theorem Block.withSocTable_out (b : Block) (v) : (b.withSocTable v).out = b.out := rfl
@[simp] theorem Block.withSocTable_free (b : Block) (v) : (b.withSocTable v).free = b.free := rfl
@[simp] theorem Block.withSocTable_get (b : Block) (v) (k : Nat) : (b.withSocTable v).get k = b.get k := rfl
@[simp] theorem Block.withSocTable_nat (b : Block) (v) (k : Nat) : (b.withSocTable v).nat k = b.nat k := rfl
@[simp] theorem Block.withSocTable_on (b : Block) (v) (k : Nat) : (b.withSocTable v).on k = b.on k := rfl
@[simp] theorem Block.withSocTable_bit (b : Block) (v) (k i : Nat) : (b.withSocTable v).bit k i = b.bit k i := rfl
@[simp] theorem Block.withSocTable_isHead (b : Block) (v) : (b.withSocTable v).isHead = b.isHead := rfl
@[simp] theorem Block.withSocTable_cells (b : Block) (v) : (b.withSocTable v).cells = b.cells := rfl
@[simp] theorem Block.withSocTable_noCells (b : Block) (v) : (b.withSocTable v).noCells = b.noCells := rfl
@[simp] theorem Block.withSocTable_live (b : Block) (v) (s : Nat) : (b.withSocTable v).live s = b.live s := rfl
@[simp] theorem Block.withSocTable_latched (b : Block) (v) (s : Nat) : (b.withSocTable v).latched s = b.latched s := rfl
@[simp] theorem Block.withSocTable_anyLatched (b : Block) (v) : (b.withSocTable v).anyLatched = b.anyLatched := rfl
@[simp] theorem Block.withSocTable_awake (b : Block) (v) : (b.withSocTable v).awake = b.awake := rfl
@[simp] theorem Block.withSocTable_measuring (b : Block) (v) : (b.withSocTable v).measuring = b.measuring := rfl
@[simp] theorem Block.withSocTable_inFull (b : Block) (v) : (b.withSocTable v).inFull = b.inFull := rfl
@[simp] theorem Block.withSocTable_now (b : Block) (v) : (b.withSocTable v).now = b.now := rfl
@[simp] theorem Block.withSocTable_engineRuns (b : Block) (v) (k : Nat) : (b.withSocTable v).engineRuns k = b.engineRuns k := rfl

/-! #### withTempCurve -/

@[simp] theorem Block.withTempCurve_fuses (b : Block) (v) : (b.withTempCurve v).fuses = b.fuses := rfl
@[simp] theorem Block.withTempCurve_power (b : Block) (v) : (b.withTempCurve v).power = b.power := rfl
@[simp] theorem Block.withTempCurve_bedrock (b : Block) (v) : (b.withTempCurve v).bedrock = b.bedrock := rfl
@[simp] theorem Block.withTempCurve_journal (b : Block) (v) : (b.withTempCurve v).journal = b.journal := rfl
@[simp] theorem Block.withTempCurve_flint (b : Block) (v) : (b.withTempCurve v).flint = b.flint := rfl
@[simp] theorem Block.withTempCurve_nvm (b : Block) (v) : (b.withTempCurve v).nvm = b.nvm := rfl
@[simp] theorem Block.withTempCurve_tb (b : Block) (v) : (b.withTempCurve v).tb = b.tb := rfl
@[simp] theorem Block.withTempCurve_phys (b : Block) (v) : (b.withTempCurve v).phys = b.phys := rfl
@[simp] theorem Block.withTempCurve_gov (b : Block) (v) : (b.withTempCurve v).gov = b.gov := rfl
@[simp] theorem Block.withTempCurve_lanes (b : Block) (v) : (b.withTempCurve v).lanes = b.lanes := rfl
@[simp] theorem Block.withTempCurve_win (b : Block) (v) : (b.withTempCurve v).win = b.win := rfl
@[simp] theorem Block.withTempCurve_cap (b : Block) (v) : (b.withTempCurve v).cap = b.cap := rfl
@[simp] theorem Block.withTempCurve_keeper (b : Block) (v) : (b.withTempCurve v).keeper = b.keeper := rfl
@[simp] theorem Block.withTempCurve_aux (b : Block) (v) : (b.withTempCurve v).aux = b.aux := rfl
@[simp] theorem Block.withTempCurve_imp (b : Block) (v) : (b.withTempCurve v).imp = b.imp := rfl
@[simp] theorem Block.withTempCurve_link (b : Block) (v) : (b.withTempCurve v).link = b.link := rfl
@[simp] theorem Block.withTempCurve_access (b : Block) (v) : (b.withTempCurve v).access = b.access := rfl
@[simp] theorem Block.withTempCurve_host (b : Block) (v) : (b.withTempCurve v).host = b.host := rfl
@[simp] theorem Block.withTempCurve_diag (b : Block) (v) : (b.withTempCurve v).diag = b.diag := rfl
@[simp] theorem Block.withTempCurve_thermal (b : Block) (v) : (b.withTempCurve v).thermal = b.thermal := rfl
@[simp] theorem Block.withTempCurve_chainSet (b : Block) (v) : (b.withTempCurve v).chainSet = b.chainSet := rfl
@[simp] theorem Block.withTempCurve_socTable (b : Block) (v) : (b.withTempCurve v).socTable = b.socTable := rfl
@[simp] theorem Block.withTempCurve_tempCurve (b : Block) (v) : (b.withTempCurve v).tempCurve = v := rfl
@[simp] theorem Block.withTempCurve_dict (b : Block) (v) : (b.withTempCurve v).dict = b.dict := rfl
@[simp] theorem Block.withTempCurve_out (b : Block) (v) : (b.withTempCurve v).out = b.out := rfl
@[simp] theorem Block.withTempCurve_free (b : Block) (v) : (b.withTempCurve v).free = b.free := rfl
@[simp] theorem Block.withTempCurve_get (b : Block) (v) (k : Nat) : (b.withTempCurve v).get k = b.get k := rfl
@[simp] theorem Block.withTempCurve_nat (b : Block) (v) (k : Nat) : (b.withTempCurve v).nat k = b.nat k := rfl
@[simp] theorem Block.withTempCurve_on (b : Block) (v) (k : Nat) : (b.withTempCurve v).on k = b.on k := rfl
@[simp] theorem Block.withTempCurve_bit (b : Block) (v) (k i : Nat) : (b.withTempCurve v).bit k i = b.bit k i := rfl
@[simp] theorem Block.withTempCurve_isHead (b : Block) (v) : (b.withTempCurve v).isHead = b.isHead := rfl
@[simp] theorem Block.withTempCurve_cells (b : Block) (v) : (b.withTempCurve v).cells = b.cells := rfl
@[simp] theorem Block.withTempCurve_noCells (b : Block) (v) : (b.withTempCurve v).noCells = b.noCells := rfl
@[simp] theorem Block.withTempCurve_live (b : Block) (v) (s : Nat) : (b.withTempCurve v).live s = b.live s := rfl
@[simp] theorem Block.withTempCurve_latched (b : Block) (v) (s : Nat) : (b.withTempCurve v).latched s = b.latched s := rfl
@[simp] theorem Block.withTempCurve_anyLatched (b : Block) (v) : (b.withTempCurve v).anyLatched = b.anyLatched := rfl
@[simp] theorem Block.withTempCurve_awake (b : Block) (v) : (b.withTempCurve v).awake = b.awake := rfl
@[simp] theorem Block.withTempCurve_measuring (b : Block) (v) : (b.withTempCurve v).measuring = b.measuring := rfl
@[simp] theorem Block.withTempCurve_inFull (b : Block) (v) : (b.withTempCurve v).inFull = b.inFull := rfl
@[simp] theorem Block.withTempCurve_now (b : Block) (v) : (b.withTempCurve v).now = b.now := rfl
@[simp] theorem Block.withTempCurve_engineRuns (b : Block) (v) (k : Nat) : (b.withTempCurve v).engineRuns k = b.engineRuns k := rfl

/-! #### withDict -/

@[simp] theorem Block.withDict_fuses (b : Block) (v) : (b.withDict v).fuses = b.fuses := rfl
@[simp] theorem Block.withDict_power (b : Block) (v) : (b.withDict v).power = b.power := rfl
@[simp] theorem Block.withDict_bedrock (b : Block) (v) : (b.withDict v).bedrock = b.bedrock := rfl
@[simp] theorem Block.withDict_journal (b : Block) (v) : (b.withDict v).journal = b.journal := rfl
@[simp] theorem Block.withDict_flint (b : Block) (v) : (b.withDict v).flint = b.flint := rfl
@[simp] theorem Block.withDict_nvm (b : Block) (v) : (b.withDict v).nvm = b.nvm := rfl
@[simp] theorem Block.withDict_tb (b : Block) (v) : (b.withDict v).tb = b.tb := rfl
@[simp] theorem Block.withDict_phys (b : Block) (v) : (b.withDict v).phys = b.phys := rfl
@[simp] theorem Block.withDict_gov (b : Block) (v) : (b.withDict v).gov = b.gov := rfl
@[simp] theorem Block.withDict_lanes (b : Block) (v) : (b.withDict v).lanes = b.lanes := rfl
@[simp] theorem Block.withDict_win (b : Block) (v) : (b.withDict v).win = b.win := rfl
@[simp] theorem Block.withDict_cap (b : Block) (v) : (b.withDict v).cap = b.cap := rfl
@[simp] theorem Block.withDict_keeper (b : Block) (v) : (b.withDict v).keeper = b.keeper := rfl
@[simp] theorem Block.withDict_aux (b : Block) (v) : (b.withDict v).aux = b.aux := rfl
@[simp] theorem Block.withDict_imp (b : Block) (v) : (b.withDict v).imp = b.imp := rfl
@[simp] theorem Block.withDict_link (b : Block) (v) : (b.withDict v).link = b.link := rfl
@[simp] theorem Block.withDict_access (b : Block) (v) : (b.withDict v).access = b.access := rfl
@[simp] theorem Block.withDict_host (b : Block) (v) : (b.withDict v).host = b.host := rfl
@[simp] theorem Block.withDict_diag (b : Block) (v) : (b.withDict v).diag = b.diag := rfl
@[simp] theorem Block.withDict_thermal (b : Block) (v) : (b.withDict v).thermal = b.thermal := rfl
@[simp] theorem Block.withDict_chainSet (b : Block) (v) : (b.withDict v).chainSet = b.chainSet := rfl
@[simp] theorem Block.withDict_socTable (b : Block) (v) : (b.withDict v).socTable = b.socTable := rfl
@[simp] theorem Block.withDict_tempCurve (b : Block) (v) : (b.withDict v).tempCurve = b.tempCurve := rfl
@[simp] theorem Block.withDict_dict (b : Block) (v) : (b.withDict v).dict = v := rfl
@[simp] theorem Block.withDict_out (b : Block) (v) : (b.withDict v).out = b.out := rfl
@[simp] theorem Block.withDict_free (b : Block) (v) : (b.withDict v).free = b.free := rfl
@[simp] theorem Block.withDict_awake (b : Block) (v) : (b.withDict v).awake = b.awake := rfl
@[simp] theorem Block.withDict_measuring (b : Block) (v) : (b.withDict v).measuring = b.measuring := rfl
@[simp] theorem Block.withDict_inFull (b : Block) (v) : (b.withDict v).inFull = b.inFull := rfl
@[simp] theorem Block.withDict_now (b : Block) (v) : (b.withDict v).now = b.now := rfl
@[simp] theorem Block.withDict_engineRuns (b : Block) (v) (k : Nat) : (b.withDict v).engineRuns k = b.engineRuns k := rfl

/-! #### withOut -/

@[simp] theorem Block.withOut_fuses (b : Block) (v) : (b.withOut v).fuses = b.fuses := rfl
@[simp] theorem Block.withOut_power (b : Block) (v) : (b.withOut v).power = b.power := rfl
@[simp] theorem Block.withOut_bedrock (b : Block) (v) : (b.withOut v).bedrock = b.bedrock := rfl
@[simp] theorem Block.withOut_journal (b : Block) (v) : (b.withOut v).journal = b.journal := rfl
@[simp] theorem Block.withOut_flint (b : Block) (v) : (b.withOut v).flint = b.flint := rfl
@[simp] theorem Block.withOut_nvm (b : Block) (v) : (b.withOut v).nvm = b.nvm := rfl
@[simp] theorem Block.withOut_tb (b : Block) (v) : (b.withOut v).tb = b.tb := rfl
@[simp] theorem Block.withOut_phys (b : Block) (v) : (b.withOut v).phys = b.phys := rfl
@[simp] theorem Block.withOut_gov (b : Block) (v) : (b.withOut v).gov = b.gov := rfl
@[simp] theorem Block.withOut_lanes (b : Block) (v) : (b.withOut v).lanes = b.lanes := rfl
@[simp] theorem Block.withOut_win (b : Block) (v) : (b.withOut v).win = b.win := rfl
@[simp] theorem Block.withOut_cap (b : Block) (v) : (b.withOut v).cap = b.cap := rfl
@[simp] theorem Block.withOut_keeper (b : Block) (v) : (b.withOut v).keeper = b.keeper := rfl
@[simp] theorem Block.withOut_aux (b : Block) (v) : (b.withOut v).aux = b.aux := rfl
@[simp] theorem Block.withOut_imp (b : Block) (v) : (b.withOut v).imp = b.imp := rfl
@[simp] theorem Block.withOut_link (b : Block) (v) : (b.withOut v).link = b.link := rfl
@[simp] theorem Block.withOut_access (b : Block) (v) : (b.withOut v).access = b.access := rfl
@[simp] theorem Block.withOut_host (b : Block) (v) : (b.withOut v).host = b.host := rfl
@[simp] theorem Block.withOut_diag (b : Block) (v) : (b.withOut v).diag = b.diag := rfl
@[simp] theorem Block.withOut_thermal (b : Block) (v) : (b.withOut v).thermal = b.thermal := rfl
@[simp] theorem Block.withOut_chainSet (b : Block) (v) : (b.withOut v).chainSet = b.chainSet := rfl
@[simp] theorem Block.withOut_socTable (b : Block) (v) : (b.withOut v).socTable = b.socTable := rfl
@[simp] theorem Block.withOut_tempCurve (b : Block) (v) : (b.withOut v).tempCurve = b.tempCurve := rfl
@[simp] theorem Block.withOut_dict (b : Block) (v) : (b.withOut v).dict = b.dict := rfl
@[simp] theorem Block.withOut_out (b : Block) (v) : (b.withOut v).out = v := rfl
@[simp] theorem Block.withOut_free (b : Block) (v) : (b.withOut v).free = b.free := rfl
@[simp] theorem Block.withOut_get (b : Block) (v) (k : Nat) : (b.withOut v).get k = b.get k := rfl
@[simp] theorem Block.withOut_nat (b : Block) (v) (k : Nat) : (b.withOut v).nat k = b.nat k := rfl
@[simp] theorem Block.withOut_on (b : Block) (v) (k : Nat) : (b.withOut v).on k = b.on k := rfl
@[simp] theorem Block.withOut_bit (b : Block) (v) (k i : Nat) : (b.withOut v).bit k i = b.bit k i := rfl
@[simp] theorem Block.withOut_isHead (b : Block) (v) : (b.withOut v).isHead = b.isHead := rfl
@[simp] theorem Block.withOut_cells (b : Block) (v) : (b.withOut v).cells = b.cells := rfl
@[simp] theorem Block.withOut_noCells (b : Block) (v) : (b.withOut v).noCells = b.noCells := rfl
@[simp] theorem Block.withOut_live (b : Block) (v) (s : Nat) : (b.withOut v).live s = b.live s := rfl
@[simp] theorem Block.withOut_latched (b : Block) (v) (s : Nat) : (b.withOut v).latched s = b.latched s := rfl
@[simp] theorem Block.withOut_anyLatched (b : Block) (v) : (b.withOut v).anyLatched = b.anyLatched := rfl
@[simp] theorem Block.withOut_awake (b : Block) (v) : (b.withOut v).awake = b.awake := rfl
@[simp] theorem Block.withOut_measuring (b : Block) (v) : (b.withOut v).measuring = b.measuring := rfl
@[simp] theorem Block.withOut_inFull (b : Block) (v) : (b.withOut v).inFull = b.inFull := rfl
@[simp] theorem Block.withOut_now (b : Block) (v) : (b.withOut v).now = b.now := rfl
@[simp] theorem Block.withOut_engineRuns (b : Block) (v) (k : Nat) : (b.withOut v).engineRuns k = b.engineRuns k := rfl

/-! #### withFree -/

@[simp] theorem Block.withFree_fuses (b : Block) (v) : (b.withFree v).fuses = b.fuses := rfl
@[simp] theorem Block.withFree_power (b : Block) (v) : (b.withFree v).power = b.power := rfl
@[simp] theorem Block.withFree_bedrock (b : Block) (v) : (b.withFree v).bedrock = b.bedrock := rfl
@[simp] theorem Block.withFree_journal (b : Block) (v) : (b.withFree v).journal = b.journal := rfl
@[simp] theorem Block.withFree_flint (b : Block) (v) : (b.withFree v).flint = b.flint := rfl
@[simp] theorem Block.withFree_nvm (b : Block) (v) : (b.withFree v).nvm = b.nvm := rfl
@[simp] theorem Block.withFree_tb (b : Block) (v) : (b.withFree v).tb = b.tb := rfl
@[simp] theorem Block.withFree_phys (b : Block) (v) : (b.withFree v).phys = b.phys := rfl
@[simp] theorem Block.withFree_gov (b : Block) (v) : (b.withFree v).gov = b.gov := rfl
@[simp] theorem Block.withFree_lanes (b : Block) (v) : (b.withFree v).lanes = b.lanes := rfl
@[simp] theorem Block.withFree_win (b : Block) (v) : (b.withFree v).win = b.win := rfl
@[simp] theorem Block.withFree_cap (b : Block) (v) : (b.withFree v).cap = b.cap := rfl
@[simp] theorem Block.withFree_keeper (b : Block) (v) : (b.withFree v).keeper = b.keeper := rfl
@[simp] theorem Block.withFree_aux (b : Block) (v) : (b.withFree v).aux = b.aux := rfl
@[simp] theorem Block.withFree_imp (b : Block) (v) : (b.withFree v).imp = b.imp := rfl
@[simp] theorem Block.withFree_link (b : Block) (v) : (b.withFree v).link = b.link := rfl
@[simp] theorem Block.withFree_access (b : Block) (v) : (b.withFree v).access = b.access := rfl
@[simp] theorem Block.withFree_host (b : Block) (v) : (b.withFree v).host = b.host := rfl
@[simp] theorem Block.withFree_diag (b : Block) (v) : (b.withFree v).diag = b.diag := rfl
@[simp] theorem Block.withFree_thermal (b : Block) (v) : (b.withFree v).thermal = b.thermal := rfl
@[simp] theorem Block.withFree_chainSet (b : Block) (v) : (b.withFree v).chainSet = b.chainSet := rfl
@[simp] theorem Block.withFree_socTable (b : Block) (v) : (b.withFree v).socTable = b.socTable := rfl
@[simp] theorem Block.withFree_tempCurve (b : Block) (v) : (b.withFree v).tempCurve = b.tempCurve := rfl
@[simp] theorem Block.withFree_dict (b : Block) (v) : (b.withFree v).dict = b.dict := rfl
@[simp] theorem Block.withFree_out (b : Block) (v) : (b.withFree v).out = b.out := rfl
@[simp] theorem Block.withFree_free (b : Block) (v) : (b.withFree v).free = v := rfl
@[simp] theorem Block.withFree_get (b : Block) (v) (k : Nat) : (b.withFree v).get k = b.get k := rfl
@[simp] theorem Block.withFree_nat (b : Block) (v) (k : Nat) : (b.withFree v).nat k = b.nat k := rfl
@[simp] theorem Block.withFree_on (b : Block) (v) (k : Nat) : (b.withFree v).on k = b.on k := rfl
@[simp] theorem Block.withFree_bit (b : Block) (v) (k i : Nat) : (b.withFree v).bit k i = b.bit k i := rfl
@[simp] theorem Block.withFree_isHead (b : Block) (v) : (b.withFree v).isHead = b.isHead := rfl
@[simp] theorem Block.withFree_cells (b : Block) (v) : (b.withFree v).cells = b.cells := rfl
@[simp] theorem Block.withFree_noCells (b : Block) (v) : (b.withFree v).noCells = b.noCells := rfl
@[simp] theorem Block.withFree_live (b : Block) (v) (s : Nat) : (b.withFree v).live s = b.live s := rfl
@[simp] theorem Block.withFree_latched (b : Block) (v) (s : Nat) : (b.withFree v).latched s = b.latched s := rfl
@[simp] theorem Block.withFree_anyLatched (b : Block) (v) : (b.withFree v).anyLatched = b.anyLatched := rfl
@[simp] theorem Block.withFree_awake (b : Block) (v) : (b.withFree v).awake = b.awake := rfl
@[simp] theorem Block.withFree_measuring (b : Block) (v) : (b.withFree v).measuring = b.measuring := rfl
@[simp] theorem Block.withFree_inFull (b : Block) (v) : (b.withFree v).inFull = b.inFull := rfl
@[simp] theorem Block.withFree_now (b : Block) (v) : (b.withFree v).now = b.now := rfl
@[simp] theorem Block.withFree_engineRuns (b : Block) (v) (k : Nat) : (b.withFree v).engineRuns k = b.engineRuns k := rfl

/-! #### The queue and the flash -/

@[simp] theorem onBlock_next (f : Block → Block) (s : State) : onBlock f s = .next { s with blk := f s.blk } := rfl
@[simp] theorem onBlockReading_next (f : List Host.Cell → Block → Block) (s : State) :
    onBlockReading f s = .next { s with blk := f s.flash s.blk } := rfl
@[simp] theorem onBoth_next (f : List Host.Cell → Block → List Host.Cell × Block) (s : State) :
    onBoth f s = .next { s with flash := (f s.flash s.blk).1, blk := (f s.flash s.blk).2 } := rfl

end Sys2Proof.Machine
end

