-- ==== Sys2Proof/Laws/Ops.lean ====
section
/-! SUPPORT. What each shared operation does, said once: bitmaps, the dictionary, the flash, and per operation on the package the parts it
leaves alone. -/

set_option linter.unusedTactic false
set_option linter.unnecessarySeqFocus false
set_option linter.unusedSimpArgs false

namespace Sys2Proof.Machine

/-! ### Bitmaps -/

@[simp] theorem bitOf_setBitTo_self (v i : Nat) (on : Bool) : bitOf (setBitTo v i on) i = on := by
  unfold bitOf setBitTo
  split
  · assumption
  · next h => rw [Nat.testBit_xor, Nat.testBit_two_pow_self]; revert h; cases v.testBit i <;> cases on <;> simp

theorem bitOf_setBitTo_other (v i j : Nat) (on : Bool) (h : i ≠ j) : bitOf (setBitTo v i on) j = bitOf v j := by
  unfold bitOf setBitTo
  split
  · rfl
  · rw [Nat.testBit_xor, Nat.testBit_two_pow_of_ne h, Bool.xor_false]

/-! ### The dictionary -/

namespace Dict

theorem find_erase_self (k : Nat) : ∀ d, find k (erase k d) = none
  | [] => rfl
  | (j, w) :: t => by
    by_cases h : j = k
    · simp [erase, h, find_erase_self k t]
    · simp [erase, find, h, find_erase_self k t]

theorem find_erase_other {k l : Nat} (h : l ≠ k) : ∀ d, find l (erase k d) = find l d
  | [] => rfl
  | (j, w) :: t => by
    by_cases e : j = k
    · have : j ≠ l := fun x => h (x.symm.trans e)
      simp [erase, e, find, find_erase_other h t, Ne.symm h]
    · by_cases f : j = l
      · simp [erase, find, f, h]
      · simp [erase, find, e, f, find_erase_other h t]

theorem find_insert_self (k : Nat) (v : Int) : ∀ d, find k (insert k v d) = some v
  | [] => by simp [insert, find]
  | (j, w) :: t => by
    by_cases e : j = k
    · simp [insert, find, e]
    · by_cases f : k < j
      · simp [insert, find, e, f]
      · simp [insert, find, e, f, find_insert_self k v t]

theorem find_insert_other {k l : Nat} (v : Int) (h : l ≠ k) : ∀ d, find l (insert k v d) = find l d
  | [] => by simp [insert, find, Ne.symm h]
  | (j, w) :: t => by
    by_cases e : j = k
    · simp [insert, find, e, Ne.symm h]
    · by_cases f : k < j
      · simp [insert, find, e, f, Ne.symm h]
      · by_cases g : j = l
        · simp [insert, find, g, h, show ¬ k < l from g ▸ f]
        · simp [insert, find, e, f, g, find_insert_other v h t]

/-- A value put is read back. -/
@[simp] theorem get_put_self (k : Nat) (v : Int) (d) : get k (put k v d) = v := by
  unfold get put
  split
  · next h => simp [find_erase_self, h]
  · simp [find_insert_self]

/-- Putting a value leaves every other key alone. -/
theorem get_put_other {k l : Nat} (v : Int) (h : l ≠ k) (d) : get l (put k v d) = get l d := by
  unfold get put
  split
  · simp [find_erase_other h]
  · simp [find_insert_other v h]

/-- Every key listed from k on. -/
def above (k : Nat) (d : List (Nat × Int)) : Prop := ∀ e ∈ d, k < e.1

theorem wf_cons {k : Nat} {v : Int} {t : List (Nat × Int)} :
    wf ((k, v) :: t) = true ↔ v ≠ defaultOf k ∧ above k t ∧ wf t = true := by
  induction t generalizing k v with
  | nil => simp [wf, above]
  | cons a t ih =>
    obtain ⟨j, w⟩ := a
    constructor
    · intro h
      simp only [wf, Bool.and_eq_true, decide_eq_true_eq] at h
      refine ⟨h.1.1, ?_, h.2⟩
      intro e he
      rcases List.mem_cons.1 he with rfl | he
      · exact h.1.2
      · exact h.1.2.trans ((ih.1 h.2).2.1 e he)
    · rintro ⟨a, b, c⟩
      simp only [wf, Bool.and_eq_true, decide_eq_true_eq]
      exact ⟨⟨a, b (j, w) (by simp)⟩, c⟩

theorem mem_erase {k : Nat} {e} : ∀ {d}, e ∈ erase k d → e ∈ d
  | [], h => h
  | (j, w) :: t, h => by
    by_cases g : j = k
    · simp only [erase, g, if_true] at h; exact List.mem_cons_of_mem _ (mem_erase h)
    · simp only [erase, g, if_false, List.mem_cons] at h ⊢
      exact h.imp id mem_erase

theorem erase_wf (k : Nat) : ∀ {d}, wf d = true → wf (erase k d) = true
  | [], h => h
  | (j, w) :: t, h => by
    obtain ⟨a, b, c⟩ := wf_cons.1 h
    by_cases g : j = k
    · simp only [erase, g, if_true]; exact erase_wf k c
    · simp only [erase, g, if_false]
      exact wf_cons.2 ⟨a, fun e he => b e (mem_erase he), erase_wf k c⟩

theorem mem_insert {k : Nat} {v : Int} {e} : ∀ {d}, e ∈ insert k v d → e = (k, v) ∨ e ∈ d
  | [], h => by simpa [insert] using h
  | (j, w) :: t, h => by
    unfold insert at h
    split at h
    · rcases List.mem_cons.1 h with h | h
      · exact .inl h
      · exact .inr (List.mem_cons_of_mem _ h)
    · split at h
      · exact List.mem_cons.1 h
      · rcases List.mem_cons.1 h with h | h
        · exact .inr (h ▸ List.mem_cons_self)
        · exact (mem_insert h).imp id (List.mem_cons_of_mem _)

theorem insert_wf {k : Nat} {v : Int} (n : v ≠ defaultOf k) : ∀ {d}, wf d = true → wf (insert k v d) = true
  | [], _ => by simp [insert, wf, n]
  | (j, w) :: t, h => by
    obtain ⟨a, b, c⟩ := wf_cons.1 h
    unfold insert
    split
    · next e => exact wf_cons.2 ⟨n, e ▸ b, c⟩
    · next e =>
      split
      · next f =>
        refine wf_cons.2 ⟨n, ?_, h⟩
        intro x hx
        rcases List.mem_cons.1 hx with rfl | hx
        · exact f
        · exact f.trans (b x hx)
      · next f =>
        refine wf_cons.2 ⟨a, ?_, insert_wf n c⟩
        intro x hx
        rcases mem_insert hx with rfl | hx
        · exact lt_of_le_of_ne (not_lt.1 f) e
        · exact b x hx

/-- The canonical form survives every put. -/
theorem put_wf (k : Nat) (v : Int) {d} (h : wf d = true) : wf (put k v d) = true := by
  unfold put
  split
  · exact erase_wf k h
  · next n => exact insert_wf n h

/-- The canonical form survives leaving entries out. -/
theorem filter_wf (p : Nat × Int → Bool) : ∀ {d}, wf d = true → wf (d.filter p) = true
  | [], h => h
  | (j, w) :: t, h => by
    obtain ⟨a, b, c⟩ := wf_cons.1 h
    rw [List.filter_cons]
    split
    · exact wf_cons.2 ⟨a, fun e he => b e (List.mem_filter.1 he).1, filter_wf p c⟩
    · exact filter_wf p c

end Dict

/-! ### The flash -/

namespace Flash

theorem wf_cons {k : Nat} {v : Byte} {t : List Host.Cell} :
    wf ((k, v) :: t) = true ↔ k < flashSize ∧ v ≠ erasedByte ∧ (∀ e ∈ t, k < e.1) ∧ wf t = true := by
  induction t generalizing k v with
  | nil => simp [wf]
  | cons a t ih =>
    obtain ⟨j, w⟩ := a
    constructor
    · intro h
      simp only [wf, Bool.and_eq_true, decide_eq_true_eq] at h
      refine ⟨h.1.1.1, h.1.1.2, ?_, h.2⟩
      intro e he
      rcases List.mem_cons.1 he with rfl | he
      · exact h.1.2
      · exact h.1.2.trans ((ih.1 h.2).2.2.1 e he)
    · rintro ⟨a, b, c, d⟩
      simp only [wf, Bool.and_eq_true, decide_eq_true_eq]
      exact ⟨⟨⟨a, b⟩, c (j, w) (by simp)⟩, d⟩

theorem read_below {a : Nat} : ∀ {m : List Host.Cell}, (∀ e ∈ m, a < e.1) → read a m = erasedByte
  | [], _ => rfl
  | (k, v) :: t, h => by
    have := h (k, v) (by simp)
    simp [read, show k ≠ a by simp at this; omega, this]

theorem read_cons_of_lt {a k : Nat} {v : Byte} {t : List Host.Cell} (h : a < k) : read a ((k, v) :: t) = erasedByte := by
  simp [read, h, show k ≠ a by omega]

theorem read_cons_of_gt {a k : Nat} {v : Byte} {t : List Host.Cell} (h : k < a) : read a ((k, v) :: t) = read a t := by
  simp [read, show ¬ a < k by omega, show k ≠ a by omega]

/-- A byte written is read back. -/
theorem read_write_self (a : Nat) (v : Byte) : ∀ {m}, wf m = true → read a (write a v m) = v
  | [], _ => by
    unfold write
    split
    · next h => exact h.symm ▸ rfl
    · simp [read]
  | (k, w) :: t, h => by
    obtain ⟨_, _, c, d⟩ := wf_cons.1 h
    unfold write
    split
    · next e =>
      split
      · next f => exact (read_below (e ▸ c)).trans f.symm
      · simp [read]
    · next e =>
      split
      · next g =>
        split
        · next f => exact (read_cons_of_lt g).trans f.symm
        · simp [read]
      · next g => rw [read_cons_of_gt (by omega)]; exact read_write_self a v d

/-- A write leaves every other byte alone. -/
theorem read_write_other {a b : Nat} (v : Byte) (n : b ≠ a) : ∀ {m}, wf m = true → read b (write a v m) = read b m
  | [], _ => by
    unfold write
    split
    · rfl
    · simp [read, Ne.symm n]
  | (k, w) :: t, h => by
    obtain ⟨_, _, c, d⟩ := wf_cons.1 h
    unfold write
    split
    · next e =>
      subst e
      rcases Nat.lt_or_ge b k with g | g
      · split
        · rw [read_cons_of_lt g, read_below fun e he => g.trans (c e he)]
        · rw [read_cons_of_lt g, read_cons_of_lt g]
      · have : k < b := by omega
        split
        · rw [read_cons_of_gt this]
        · rw [read_cons_of_gt this, read_cons_of_gt this]
    · next e =>
      split
      · next g =>
        split
        · rfl
        · rcases Nat.lt_or_ge b a with f | f
          · rw [read_cons_of_lt f, read_cons_of_lt (f.trans g)]
          · rw [read_cons_of_gt (by omega)]
      · next g =>
        rcases Nat.lt_trichotomy b k with f | f | f
        · rw [read_cons_of_lt f, read_cons_of_lt f]
        · subst f; simp [read]
        · rw [read_cons_of_gt f, read_cons_of_gt f]; exact read_write_other v n d

theorem mem_write {a : Nat} {v : Byte} {e} : ∀ {m}, e ∈ write a v m → e.1 = a ∨ e ∈ m
  | [], h => by
    unfold write at h
    split at h
    · exact absurd h List.not_mem_nil
    · exact .inl (by simp [List.mem_singleton.1 h])
  | (k, w) :: t, h => by
    unfold write at h
    split at h
    · split at h
      · exact .inr (List.mem_cons_of_mem _ h)
      · rcases List.mem_cons.1 h with rfl | h
        · exact .inl rfl
        · exact .inr (List.mem_cons_of_mem _ h)
    · split at h
      · split at h
        · exact .inr h
        · rcases List.mem_cons.1 h with rfl | h
          · exact .inl rfl
          · exact .inr h
      · rcases List.mem_cons.1 h with rfl | h
        · exact .inr List.mem_cons_self
        · exact (mem_write h).imp id (List.mem_cons_of_mem _)

/-- The canonical form survives a write inside the flash. -/
theorem write_wf {a : Nat} (v : Byte) (n : a < flashSize) : ∀ {m}, wf m = true → wf (write a v m) = true
  | [], _ => by
    unfold write
    split
    · rfl
    · next h => simp [wf, h]; exact n
  | (k, w) :: t, h => by
    obtain ⟨x, y, c, d⟩ := wf_cons.1 h
    unfold write
    split
    · next e =>
      split
      · exact d
      · next f => exact wf_cons.2 ⟨n, f, e ▸ c, d⟩
    · next e =>
      split
      · next g =>
        split
        · exact h
        · next f =>
          refine wf_cons.2 ⟨n, f, ?_, h⟩
          intro z hz
          rcases List.mem_cons.1 hz with rfl | hz
          · exact g
          · exact g.trans (c z hz)
      · next g =>
        refine wf_cons.2 ⟨x, y, ?_, write_wf v n d⟩
        intro z hz
        rcases mem_write hz with hz | hz
        · omega
        · exact c z hz

/-- The canonical form survives a run of programmed bytes. -/
theorem program_wf : ∀ (l : List Byte) (a : Nat) {m}, wf m = true → wf (program a l m) = true
  | [], _, _, h => h
  | x :: t, a, m, h => by
    unfold program
    refine program_wf t (a + 1) ?_
    split
    · next n => exact write_wf x n h
    · exact h

/-- Programming bytes leaves every byte outside their addresses alone. -/
theorem read_program_outside {b : Nat} : ∀ (l : List Byte) (a : Nat) {m}, wf m = true → (b < a ∨ a + l.length ≤ b) →
    read b (program a l m) = read b m
  | [], _, _, _, _ => rfl
  | x :: t, a, m, h, o => by
    unfold program
    have l : (x :: t).length = t.length + 1 := rfl
    rw [l] at o
    have n : b ≠ a := by omega
    by_cases g : a < flashSize
    · rw [if_pos g, read_program_outside t (a + 1) (write_wf x g h) (by omega), read_write_other x n h]
    · rw [if_neg g, read_program_outside t (a + 1) h (by omega)]

/-- The canonical form survives erasing. -/
theorem erase_wf (lo n : Nat) : ∀ {m}, wf m = true → wf (erase lo n m) = true
  | [], h => h
  | (k, v) :: t, h => by
    obtain ⟨x, y, c, d⟩ := wf_cons.1 h
    have ih := erase_wf lo n d
    unfold erase at ih ⊢
    rw [List.filter_cons]
    split
    · exact wf_cons.2 ⟨x, y, fun e he => c e (List.mem_filter.1 he).1, ih⟩
    · exact ih

/-- Erasing leaves every byte outside the range alone. -/
theorem read_erase_outside {b lo n : Nat} (o : b < lo ∨ lo + n ≤ b) : ∀ {m}, wf m = true → read b (erase lo n m) = read b m
  | [], _ => rfl
  | (k, v) :: t, h => by
    obtain ⟨x, y, c, d⟩ := wf_cons.1 h
    have ih := read_erase_outside (n := n) o d
    have kept : ∀ e ∈ t.filter (fun c => decide (c.1 < lo) || decide (lo + n ≤ c.1)), k < e.1 :=
      fun e he => c e (List.mem_filter.1 he).1
    unfold erase at ih ⊢
    rw [List.filter_cons]
    rcases Nat.lt_trichotomy b k with f | f | f
    · split
      · rw [read_cons_of_lt f, read_cons_of_lt f]
      · rw [read_cons_of_lt f, read_below fun e he => f.trans (kept e he)]
    · subst f
      rw [if_pos (by simpa using o)]; simp [read]
    · split
      · rw [read_cons_of_gt f, read_cons_of_gt f]; exact ih
      · rw [read_cons_of_gt f]; exact ih

/-- A range erased reads as erased. -/
theorem read_erase_inside {b lo n : Nat} (i : lo ≤ b) (j : b < lo + n) : ∀ {m}, wf m = true → read b (erase lo n m) = erasedByte
  | [], _ => rfl
  | (k, v) :: t, h => by
    obtain ⟨x, y, c, d⟩ := wf_cons.1 h
    have ih := read_erase_inside i j d
    unfold erase at ih ⊢
    rw [List.filter_cons]
    split
    · next g =>
      have : k ≠ b := by
        simp only [Bool.or_eq_true, decide_eq_true_eq] at g; omega
      rcases Nat.lt_or_ge b k with f | f
      · exact read_cons_of_lt f
      · rw [read_cons_of_gt (by omega)]; exact ih
    · exact ih

end Flash

/-! ### Entries of the package's dictionary -/

/-- An entry put is read back. -/
@[simp] theorem Block.get_put_self (b : Block) (k : Nat) (v : Int) : (b.put k v).get k = v := Dict.get_put_self k v b.dict

/-- Putting an entry leaves every other entry alone. -/
theorem Block.get_put_other (b : Block) {k l : Nat} (v : Int) (h : l ≠ k) : (b.put k v).get l = b.get l :=
  Dict.get_put_other v h b.dict

/-- What an entry reads as after a put. -/
theorem Block.get_put (b : Block) (k l : Nat) (v : Int) : (b.put k v).get l = if l = k then v else b.get l := by
  by_cases h : l = k
  · simp [h]
  · simp [h, b.get_put_other v h]

theorem Block.nat_put (b : Block) (k l : Nat) (v : Int) : (b.put k v).nat l = if l = k then v.toNat else b.nat l := by
  unfold Block.nat; rw [b.get_put]; split <;> rfl

theorem Block.bit_put (b : Block) (k l i : Nat) (v : Int) : (b.put k v).bit l i = if l = k then bitOf v.toNat i else b.bit l i := by
  unfold Block.bit; rw [b.nat_put]; split <;> rfl

/-- What an entry reads as after one of its bits was set or cleared. -/
theorem Block.get_putBit (b : Block) (k i l : Nat) (on : Bool) :
    (b.putBit k i on).get l = if l = k then ((setBitTo (b.nat k) i on : Nat) : Int) else b.get l := b.get_put _ _ _

theorem Block.nat_putBit (b : Block) (k i l : Nat) (on : Bool) :
    (b.putBit k i on).nat l = if l = k then setBitTo (b.nat k) i on else b.nat l := by
  unfold Block.nat; rw [b.get_putBit]; split <;> simp [Block.nat]

/-- A bit set or cleared reads so. -/
@[simp] theorem Block.bit_putBit_self (b : Block) (k i : Nat) (on : Bool) : (b.putBit k i on).bit k i = on := by
  unfold Block.bit; rw [b.nat_putBit, if_pos rfl]; exact bitOf_setBitTo_self _ _ _

/-- Every other bit stays. -/
theorem Block.bit_putBit_other (b : Block) {k i l j : Nat} (on : Bool) (h : ¬(l = k ∧ j = i)) :
    (b.putBit k i on).bit l j = b.bit l j := by
  unfold Block.bit; rw [b.nat_putBit]
  split
  · next e => rw [bitOf_setBitTo_other _ _ _ _ fun x => h ⟨e, x.symm⟩, e]
  · rfl

/-- An entry that none of several puts names stays. -/
theorem Block.get_putAll_other {k : Nat} : ∀ (l : List (Nat × Int)) (b : Block), (∀ p ∈ l, k ≠ p.1) → (b.putAll l).get k = b.get k
  | [], _, _ => rfl
  | p :: t, b, h => by
    have e : b.putAll (p :: t) = (b.put p.1 p.2).putAll t := rfl
    rw [e, Block.get_putAll_other t _ fun q hq => h q (List.mem_cons_of_mem _ hq), b.get_put_other _ (h p List.mem_cons_self)]

/-- A reason touches the two words of the service request only. -/
theorem Block.get_reason_other (b : Block) (r : Reason) (on : Bool) {k : Nat} (h : k ≠ Ob.serviceRequestReason)
    (g : k ≠ Ob.serviceRequestSince) : (b.reason r on).get k = b.get k := by
  unfold Block.reason
  split
  · rfl
  · rw [Block.get_put_other _ _ g, Block.get_putBit, if_neg h]

/-- A reason set or cleared reads so. -/
@[simp] theorem Block.hasReason_reason (b : Block) (r : Reason) (on : Bool) : (b.reason r on).hasReason r = on := by
  unfold Block.hasReason Block.reason
  split
  · assumption
  · rw [Block.bit_put, if_neg (by decide)]; simp

theorem Block.get_followReasons_other (b : Block) {k : Nat} (h : k ≠ Ob.serviceRequestReason) (g : k ≠ Ob.serviceRequestSince) :
    b.followReasons.get k = b.get k := by
  simp [Block.followReasons, Block.get_reason_other _ _ _ h g]

/-- A detection goes to the end of the queue of the next fault-island cycle. -/
@[simp] theorem Block.raise_detections (b : Block) (s d : Nat) :
    (b.raise s d).flint.detections = b.flint.detections ++ [⟨s, d, 0, none⟩] := rfl

@[simp] theorem Block.raiseAtLeast_detections (b : Block) (s d c : Nat) :
    (b.raiseAtLeast s d c).flint.detections = b.flint.detections ++ [⟨s, d, c, none⟩] := rfl

@[simp] theorem Block.raiseExactly_detections (b : Block) (s d c : Nat) :
    (b.raiseExactly s d c).flint.detections = b.flint.detections ++ [⟨s, d, 0, some c⟩] := rfl

/-- What a port or pin carried goes to the end of the record. -/
@[simp] theorem Block.emit_out (b : Block) (e : Emission) : (b.emit e).out = b.out ++ [e] := rfl

/-- Every switch is off after switchesOff. -/
theorem Block.switchesOff_off (b : Block) : b.switchesOff.gov.ch.all (fun c => !c.on) = true := by
  simp [Block.switchesOff, GovCh.off, GovCh.dark, List.all_map, Function.comp_def]

@[simp] theorem Block.setFlt_fltLow (b : Block) (l : Bool) : (b.setFlt l).flint.fltLow = l := rfl

@[simp] theorem Block.at_us (b : Block) (t : Nat) : (b.at t).tb.us = t % t48 := rfl

@[simp] theorem Block.at_now (b : Block) (t : Nat) : (b.at t).now = t % t48 := rfl

/-! ### The parts that each shared operation leaves alone -/

/-- A property that every step of a fold keeps is kept by the fold. -/
theorem foldl_keeps {α β : Type} (p : Block → β) {f : Block → α → Block} (h : ∀ b x, p (f b x) = p b) :
    ∀ (l : List α) (b : Block), p (l.foldl f b) = p b
  | [], _ => rfl
  | x :: t, b => (foldl_keeps p h t (f b x)).trans (h b x)
@[simp] theorem Block.put_fuses (b : Block) (k : Nat) (v : Int) : (b.put k v).fuses = b.fuses := rfl
@[simp] theorem Block.put_power (b : Block) (k : Nat) (v : Int) : (b.put k v).power = b.power := rfl
@[simp] theorem Block.put_bedrock (b : Block) (k : Nat) (v : Int) : (b.put k v).bedrock = b.bedrock := rfl
@[simp] theorem Block.put_journal (b : Block) (k : Nat) (v : Int) : (b.put k v).journal = b.journal := rfl
@[simp] theorem Block.put_flint (b : Block) (k : Nat) (v : Int) : (b.put k v).flint = b.flint := rfl
@[simp] theorem Block.put_nvm (b : Block) (k : Nat) (v : Int) : (b.put k v).nvm = b.nvm := rfl
@[simp] theorem Block.put_tb (b : Block) (k : Nat) (v : Int) : (b.put k v).tb = b.tb := rfl
@[simp] theorem Block.put_phys (b : Block) (k : Nat) (v : Int) : (b.put k v).phys = b.phys := rfl
@[simp] theorem Block.put_gov (b : Block) (k : Nat) (v : Int) : (b.put k v).gov = b.gov := rfl
@[simp] theorem Block.put_lanes (b : Block) (k : Nat) (v : Int) : (b.put k v).lanes = b.lanes := rfl
@[simp] theorem Block.put_win (b : Block) (k : Nat) (v : Int) : (b.put k v).win = b.win := rfl
@[simp] theorem Block.put_cap (b : Block) (k : Nat) (v : Int) : (b.put k v).cap = b.cap := rfl
@[simp] theorem Block.put_keeper (b : Block) (k : Nat) (v : Int) : (b.put k v).keeper = b.keeper := rfl
@[simp] theorem Block.put_aux (b : Block) (k : Nat) (v : Int) : (b.put k v).aux = b.aux := rfl
@[simp] theorem Block.put_imp (b : Block) (k : Nat) (v : Int) : (b.put k v).imp = b.imp := rfl
@[simp] theorem Block.put_link (b : Block) (k : Nat) (v : Int) : (b.put k v).link = b.link := rfl
@[simp] theorem Block.put_access (b : Block) (k : Nat) (v : Int) : (b.put k v).access = b.access := rfl
@[simp] theorem Block.put_host (b : Block) (k : Nat) (v : Int) : (b.put k v).host = b.host := rfl
@[simp] theorem Block.put_diag (b : Block) (k : Nat) (v : Int) : (b.put k v).diag = b.diag := rfl
@[simp] theorem Block.put_thermal (b : Block) (k : Nat) (v : Int) : (b.put k v).thermal = b.thermal := rfl
@[simp] theorem Block.put_chainSet (b : Block) (k : Nat) (v : Int) : (b.put k v).chainSet = b.chainSet := rfl
@[simp] theorem Block.put_socTable (b : Block) (k : Nat) (v : Int) : (b.put k v).socTable = b.socTable := rfl
@[simp] theorem Block.put_tempCurve (b : Block) (k : Nat) (v : Int) : (b.put k v).tempCurve = b.tempCurve := rfl
@[simp] theorem Block.put_out (b : Block) (k : Nat) (v : Int) : (b.put k v).out = b.out := rfl
@[simp] theorem Block.put_free (b : Block) (k : Nat) (v : Int) : (b.put k v).free = b.free := rfl
@[simp] theorem Block.countUp_fuses (b : Block) (k n m : Nat) : (b.countUp k n m).fuses = b.fuses := rfl
@[simp] theorem Block.countUp_power (b : Block) (k n m : Nat) : (b.countUp k n m).power = b.power := rfl
@[simp] theorem Block.countUp_bedrock (b : Block) (k n m : Nat) : (b.countUp k n m).bedrock = b.bedrock := rfl
@[simp] theorem Block.countUp_journal (b : Block) (k n m : Nat) : (b.countUp k n m).journal = b.journal := rfl
@[simp] theorem Block.countUp_flint (b : Block) (k n m : Nat) : (b.countUp k n m).flint = b.flint := rfl
@[simp] theorem Block.countUp_nvm (b : Block) (k n m : Nat) : (b.countUp k n m).nvm = b.nvm := rfl
@[simp] theorem Block.countUp_tb (b : Block) (k n m : Nat) : (b.countUp k n m).tb = b.tb := rfl
@[simp] theorem Block.countUp_phys (b : Block) (k n m : Nat) : (b.countUp k n m).phys = b.phys := rfl
@[simp] theorem Block.countUp_gov (b : Block) (k n m : Nat) : (b.countUp k n m).gov = b.gov := rfl
@[simp] theorem Block.countUp_lanes (b : Block) (k n m : Nat) : (b.countUp k n m).lanes = b.lanes := rfl
@[simp] theorem Block.countUp_win (b : Block) (k n m : Nat) : (b.countUp k n m).win = b.win := rfl
@[simp] theorem Block.countUp_cap (b : Block) (k n m : Nat) : (b.countUp k n m).cap = b.cap := rfl
@[simp] theorem Block.countUp_keeper (b : Block) (k n m : Nat) : (b.countUp k n m).keeper = b.keeper := rfl
@[simp] theorem Block.countUp_aux (b : Block) (k n m : Nat) : (b.countUp k n m).aux = b.aux := rfl
@[simp] theorem Block.countUp_imp (b : Block) (k n m : Nat) : (b.countUp k n m).imp = b.imp := rfl
@[simp] theorem Block.countUp_link (b : Block) (k n m : Nat) : (b.countUp k n m).link = b.link := rfl
@[simp] theorem Block.countUp_access (b : Block) (k n m : Nat) : (b.countUp k n m).access = b.access := rfl
@[simp] theorem Block.countUp_host (b : Block) (k n m : Nat) : (b.countUp k n m).host = b.host := rfl
@[simp] theorem Block.countUp_diag (b : Block) (k n m : Nat) : (b.countUp k n m).diag = b.diag := rfl
@[simp] theorem Block.countUp_thermal (b : Block) (k n m : Nat) : (b.countUp k n m).thermal = b.thermal := rfl
@[simp] theorem Block.countUp_chainSet (b : Block) (k n m : Nat) : (b.countUp k n m).chainSet = b.chainSet := rfl
@[simp] theorem Block.countUp_socTable (b : Block) (k n m : Nat) : (b.countUp k n m).socTable = b.socTable := rfl
@[simp] theorem Block.countUp_tempCurve (b : Block) (k n m : Nat) : (b.countUp k n m).tempCurve = b.tempCurve := rfl
@[simp] theorem Block.countUp_out (b : Block) (k n m : Nat) : (b.countUp k n m).out = b.out := rfl
@[simp] theorem Block.countUp_free (b : Block) (k n m : Nat) : (b.countUp k n m).free = b.free := rfl
@[simp] theorem Block.count32_fuses (b : Block) (k : Nat) : (b.count32 k).fuses = b.fuses := Block.countUp_fuses b k 1 _
@[simp] theorem Block.count32_power (b : Block) (k : Nat) : (b.count32 k).power = b.power := Block.countUp_power b k 1 _
@[simp] theorem Block.count32_bedrock (b : Block) (k : Nat) : (b.count32 k).bedrock = b.bedrock := Block.countUp_bedrock b k 1 _
@[simp] theorem Block.count32_journal (b : Block) (k : Nat) : (b.count32 k).journal = b.journal := Block.countUp_journal b k 1 _
@[simp] theorem Block.count32_flint (b : Block) (k : Nat) : (b.count32 k).flint = b.flint := Block.countUp_flint b k 1 _
@[simp] theorem Block.count32_nvm (b : Block) (k : Nat) : (b.count32 k).nvm = b.nvm := Block.countUp_nvm b k 1 _
@[simp] theorem Block.count32_tb (b : Block) (k : Nat) : (b.count32 k).tb = b.tb := Block.countUp_tb b k 1 _
@[simp] theorem Block.count32_phys (b : Block) (k : Nat) : (b.count32 k).phys = b.phys := Block.countUp_phys b k 1 _
@[simp] theorem Block.count32_gov (b : Block) (k : Nat) : (b.count32 k).gov = b.gov := Block.countUp_gov b k 1 _
@[simp] theorem Block.count32_lanes (b : Block) (k : Nat) : (b.count32 k).lanes = b.lanes := Block.countUp_lanes b k 1 _
@[simp] theorem Block.count32_win (b : Block) (k : Nat) : (b.count32 k).win = b.win := Block.countUp_win b k 1 _
@[simp] theorem Block.count32_cap (b : Block) (k : Nat) : (b.count32 k).cap = b.cap := Block.countUp_cap b k 1 _
@[simp] theorem Block.count32_keeper (b : Block) (k : Nat) : (b.count32 k).keeper = b.keeper := Block.countUp_keeper b k 1 _
@[simp] theorem Block.count32_aux (b : Block) (k : Nat) : (b.count32 k).aux = b.aux := Block.countUp_aux b k 1 _
@[simp] theorem Block.count32_imp (b : Block) (k : Nat) : (b.count32 k).imp = b.imp := Block.countUp_imp b k 1 _
@[simp] theorem Block.count32_link (b : Block) (k : Nat) : (b.count32 k).link = b.link := Block.countUp_link b k 1 _
@[simp] theorem Block.count32_access (b : Block) (k : Nat) : (b.count32 k).access = b.access := Block.countUp_access b k 1 _
@[simp] theorem Block.count32_host (b : Block) (k : Nat) : (b.count32 k).host = b.host := Block.countUp_host b k 1 _
@[simp] theorem Block.count32_diag (b : Block) (k : Nat) : (b.count32 k).diag = b.diag := Block.countUp_diag b k 1 _
@[simp] theorem Block.count32_thermal (b : Block) (k : Nat) : (b.count32 k).thermal = b.thermal := Block.countUp_thermal b k 1 _
@[simp] theorem Block.count32_chainSet (b : Block) (k : Nat) : (b.count32 k).chainSet = b.chainSet := Block.countUp_chainSet b k 1 _
@[simp] theorem Block.count32_socTable (b : Block) (k : Nat) : (b.count32 k).socTable = b.socTable := Block.countUp_socTable b k 1 _
@[simp] theorem Block.count32_tempCurve (b : Block) (k : Nat) : (b.count32 k).tempCurve = b.tempCurve := Block.countUp_tempCurve b k 1 _
@[simp] theorem Block.count32_out (b : Block) (k : Nat) : (b.count32 k).out = b.out := Block.countUp_out b k 1 _
@[simp] theorem Block.count32_free (b : Block) (k : Nat) : (b.count32 k).free = b.free := Block.countUp_free b k 1 _
@[simp] theorem Block.putBit_fuses (b : Block) (k i : Nat) (o : Bool) : (b.putBit k i o).fuses = b.fuses := rfl
@[simp] theorem Block.putBit_power (b : Block) (k i : Nat) (o : Bool) : (b.putBit k i o).power = b.power := rfl
@[simp] theorem Block.putBit_bedrock (b : Block) (k i : Nat) (o : Bool) : (b.putBit k i o).bedrock = b.bedrock := rfl
@[simp] theorem Block.putBit_journal (b : Block) (k i : Nat) (o : Bool) : (b.putBit k i o).journal = b.journal := rfl
@[simp] theorem Block.putBit_flint (b : Block) (k i : Nat) (o : Bool) : (b.putBit k i o).flint = b.flint := rfl
@[simp] theorem Block.putBit_nvm (b : Block) (k i : Nat) (o : Bool) : (b.putBit k i o).nvm = b.nvm := rfl
@[simp] theorem Block.putBit_tb (b : Block) (k i : Nat) (o : Bool) : (b.putBit k i o).tb = b.tb := rfl
@[simp] theorem Block.putBit_phys (b : Block) (k i : Nat) (o : Bool) : (b.putBit k i o).phys = b.phys := rfl
@[simp] theorem Block.putBit_gov (b : Block) (k i : Nat) (o : Bool) : (b.putBit k i o).gov = b.gov := rfl
@[simp] theorem Block.putBit_lanes (b : Block) (k i : Nat) (o : Bool) : (b.putBit k i o).lanes = b.lanes := rfl
@[simp] theorem Block.putBit_win (b : Block) (k i : Nat) (o : Bool) : (b.putBit k i o).win = b.win := rfl
@[simp] theorem Block.putBit_cap (b : Block) (k i : Nat) (o : Bool) : (b.putBit k i o).cap = b.cap := rfl
@[simp] theorem Block.putBit_keeper (b : Block) (k i : Nat) (o : Bool) : (b.putBit k i o).keeper = b.keeper := rfl
@[simp] theorem Block.putBit_aux (b : Block) (k i : Nat) (o : Bool) : (b.putBit k i o).aux = b.aux := rfl
@[simp] theorem Block.putBit_imp (b : Block) (k i : Nat) (o : Bool) : (b.putBit k i o).imp = b.imp := rfl
@[simp] theorem Block.putBit_link (b : Block) (k i : Nat) (o : Bool) : (b.putBit k i o).link = b.link := rfl
@[simp] theorem Block.putBit_access (b : Block) (k i : Nat) (o : Bool) : (b.putBit k i o).access = b.access := rfl
@[simp] theorem Block.putBit_host (b : Block) (k i : Nat) (o : Bool) : (b.putBit k i o).host = b.host := rfl
@[simp] theorem Block.putBit_diag (b : Block) (k i : Nat) (o : Bool) : (b.putBit k i o).diag = b.diag := rfl
@[simp] theorem Block.putBit_thermal (b : Block) (k i : Nat) (o : Bool) : (b.putBit k i o).thermal = b.thermal := rfl
@[simp] theorem Block.putBit_chainSet (b : Block) (k i : Nat) (o : Bool) : (b.putBit k i o).chainSet = b.chainSet := rfl
@[simp] theorem Block.putBit_socTable (b : Block) (k i : Nat) (o : Bool) : (b.putBit k i o).socTable = b.socTable := rfl
@[simp] theorem Block.putBit_tempCurve (b : Block) (k i : Nat) (o : Bool) : (b.putBit k i o).tempCurve = b.tempCurve := rfl
@[simp] theorem Block.putBit_out (b : Block) (k i : Nat) (o : Bool) : (b.putBit k i o).out = b.out := rfl
@[simp] theorem Block.putBit_free (b : Block) (k i : Nat) (o : Bool) : (b.putBit k i o).free = b.free := rfl
@[simp] theorem Block.putAll_fuses (b : Block) (l : List (Nat × Int)) : (b.putAll l).fuses = b.fuses := by
  unfold Block.putAll; exact foldl_keeps (fun b : Block => b.fuses) (fun b x => Block.put_fuses b x.1 x.2) l b
@[simp] theorem Block.putAll_power (b : Block) (l : List (Nat × Int)) : (b.putAll l).power = b.power := by
  unfold Block.putAll; exact foldl_keeps (fun b : Block => b.power) (fun b x => Block.put_power b x.1 x.2) l b
@[simp] theorem Block.putAll_bedrock (b : Block) (l : List (Nat × Int)) : (b.putAll l).bedrock = b.bedrock := by
  unfold Block.putAll; exact foldl_keeps (fun b : Block => b.bedrock) (fun b x => Block.put_bedrock b x.1 x.2) l b
@[simp] theorem Block.putAll_journal (b : Block) (l : List (Nat × Int)) : (b.putAll l).journal = b.journal := by
  unfold Block.putAll; exact foldl_keeps (fun b : Block => b.journal) (fun b x => Block.put_journal b x.1 x.2) l b
@[simp] theorem Block.putAll_flint (b : Block) (l : List (Nat × Int)) : (b.putAll l).flint = b.flint := by
  unfold Block.putAll; exact foldl_keeps (fun b : Block => b.flint) (fun b x => Block.put_flint b x.1 x.2) l b
@[simp] theorem Block.putAll_nvm (b : Block) (l : List (Nat × Int)) : (b.putAll l).nvm = b.nvm := by
  unfold Block.putAll; exact foldl_keeps (fun b : Block => b.nvm) (fun b x => Block.put_nvm b x.1 x.2) l b
@[simp] theorem Block.putAll_tb (b : Block) (l : List (Nat × Int)) : (b.putAll l).tb = b.tb := by
  unfold Block.putAll; exact foldl_keeps (fun b : Block => b.tb) (fun b x => Block.put_tb b x.1 x.2) l b
@[simp] theorem Block.putAll_phys (b : Block) (l : List (Nat × Int)) : (b.putAll l).phys = b.phys := by
  unfold Block.putAll; exact foldl_keeps (fun b : Block => b.phys) (fun b x => Block.put_phys b x.1 x.2) l b
@[simp] theorem Block.putAll_gov (b : Block) (l : List (Nat × Int)) : (b.putAll l).gov = b.gov := by
  unfold Block.putAll; exact foldl_keeps (fun b : Block => b.gov) (fun b x => Block.put_gov b x.1 x.2) l b
@[simp] theorem Block.putAll_lanes (b : Block) (l : List (Nat × Int)) : (b.putAll l).lanes = b.lanes := by
  unfold Block.putAll; exact foldl_keeps (fun b : Block => b.lanes) (fun b x => Block.put_lanes b x.1 x.2) l b
@[simp] theorem Block.putAll_win (b : Block) (l : List (Nat × Int)) : (b.putAll l).win = b.win := by
  unfold Block.putAll; exact foldl_keeps (fun b : Block => b.win) (fun b x => Block.put_win b x.1 x.2) l b
@[simp] theorem Block.putAll_cap (b : Block) (l : List (Nat × Int)) : (b.putAll l).cap = b.cap := by
  unfold Block.putAll; exact foldl_keeps (fun b : Block => b.cap) (fun b x => Block.put_cap b x.1 x.2) l b
@[simp] theorem Block.putAll_keeper (b : Block) (l : List (Nat × Int)) : (b.putAll l).keeper = b.keeper := by
  unfold Block.putAll; exact foldl_keeps (fun b : Block => b.keeper) (fun b x => Block.put_keeper b x.1 x.2) l b
@[simp] theorem Block.putAll_aux (b : Block) (l : List (Nat × Int)) : (b.putAll l).aux = b.aux := by
  unfold Block.putAll; exact foldl_keeps (fun b : Block => b.aux) (fun b x => Block.put_aux b x.1 x.2) l b
@[simp] theorem Block.putAll_imp (b : Block) (l : List (Nat × Int)) : (b.putAll l).imp = b.imp := by
  unfold Block.putAll; exact foldl_keeps (fun b : Block => b.imp) (fun b x => Block.put_imp b x.1 x.2) l b
@[simp] theorem Block.putAll_link (b : Block) (l : List (Nat × Int)) : (b.putAll l).link = b.link := by
  unfold Block.putAll; exact foldl_keeps (fun b : Block => b.link) (fun b x => Block.put_link b x.1 x.2) l b
@[simp] theorem Block.putAll_access (b : Block) (l : List (Nat × Int)) : (b.putAll l).access = b.access := by
  unfold Block.putAll; exact foldl_keeps (fun b : Block => b.access) (fun b x => Block.put_access b x.1 x.2) l b
@[simp] theorem Block.putAll_host (b : Block) (l : List (Nat × Int)) : (b.putAll l).host = b.host := by
  unfold Block.putAll; exact foldl_keeps (fun b : Block => b.host) (fun b x => Block.put_host b x.1 x.2) l b
@[simp] theorem Block.putAll_diag (b : Block) (l : List (Nat × Int)) : (b.putAll l).diag = b.diag := by
  unfold Block.putAll; exact foldl_keeps (fun b : Block => b.diag) (fun b x => Block.put_diag b x.1 x.2) l b
@[simp] theorem Block.putAll_thermal (b : Block) (l : List (Nat × Int)) : (b.putAll l).thermal = b.thermal := by
  unfold Block.putAll; exact foldl_keeps (fun b : Block => b.thermal) (fun b x => Block.put_thermal b x.1 x.2) l b
@[simp] theorem Block.putAll_chainSet (b : Block) (l : List (Nat × Int)) : (b.putAll l).chainSet = b.chainSet := by
  unfold Block.putAll; exact foldl_keeps (fun b : Block => b.chainSet) (fun b x => Block.put_chainSet b x.1 x.2) l b
@[simp] theorem Block.putAll_socTable (b : Block) (l : List (Nat × Int)) : (b.putAll l).socTable = b.socTable := by
  unfold Block.putAll; exact foldl_keeps (fun b : Block => b.socTable) (fun b x => Block.put_socTable b x.1 x.2) l b
@[simp] theorem Block.putAll_tempCurve (b : Block) (l : List (Nat × Int)) : (b.putAll l).tempCurve = b.tempCurve := by
  unfold Block.putAll; exact foldl_keeps (fun b : Block => b.tempCurve) (fun b x => Block.put_tempCurve b x.1 x.2) l b
@[simp] theorem Block.putAll_out (b : Block) (l : List (Nat × Int)) : (b.putAll l).out = b.out := by
  unfold Block.putAll; exact foldl_keeps (fun b : Block => b.out) (fun b x => Block.put_out b x.1 x.2) l b
@[simp] theorem Block.putAll_free (b : Block) (l : List (Nat × Int)) : (b.putAll l).free = b.free := by
  unfold Block.putAll; exact foldl_keeps (fun b : Block => b.free) (fun b x => Block.put_free b x.1 x.2) l b
@[simp] theorem Block.at_fuses (b : Block) (t : Nat) : (b.at t).fuses = b.fuses := rfl
@[simp] theorem Block.at_power (b : Block) (t : Nat) : (b.at t).power = b.power := rfl
@[simp] theorem Block.at_bedrock (b : Block) (t : Nat) : (b.at t).bedrock = b.bedrock := rfl
@[simp] theorem Block.at_journal (b : Block) (t : Nat) : (b.at t).journal = b.journal := rfl
@[simp] theorem Block.at_flint (b : Block) (t : Nat) : (b.at t).flint = b.flint := rfl
@[simp] theorem Block.at_nvm (b : Block) (t : Nat) : (b.at t).nvm = b.nvm := rfl
@[simp] theorem Block.at_phys (b : Block) (t : Nat) : (b.at t).phys = b.phys := rfl
@[simp] theorem Block.at_gov (b : Block) (t : Nat) : (b.at t).gov = b.gov := rfl
@[simp] theorem Block.at_lanes (b : Block) (t : Nat) : (b.at t).lanes = b.lanes := rfl
@[simp] theorem Block.at_win (b : Block) (t : Nat) : (b.at t).win = b.win := rfl
@[simp] theorem Block.at_cap (b : Block) (t : Nat) : (b.at t).cap = b.cap := rfl
@[simp] theorem Block.at_keeper (b : Block) (t : Nat) : (b.at t).keeper = b.keeper := rfl
@[simp] theorem Block.at_aux (b : Block) (t : Nat) : (b.at t).aux = b.aux := rfl
@[simp] theorem Block.at_imp (b : Block) (t : Nat) : (b.at t).imp = b.imp := rfl
@[simp] theorem Block.at_link (b : Block) (t : Nat) : (b.at t).link = b.link := rfl
@[simp] theorem Block.at_access (b : Block) (t : Nat) : (b.at t).access = b.access := rfl
@[simp] theorem Block.at_host (b : Block) (t : Nat) : (b.at t).host = b.host := rfl
@[simp] theorem Block.at_diag (b : Block) (t : Nat) : (b.at t).diag = b.diag := rfl
@[simp] theorem Block.at_thermal (b : Block) (t : Nat) : (b.at t).thermal = b.thermal := rfl
@[simp] theorem Block.at_chainSet (b : Block) (t : Nat) : (b.at t).chainSet = b.chainSet := rfl
@[simp] theorem Block.at_socTable (b : Block) (t : Nat) : (b.at t).socTable = b.socTable := rfl
@[simp] theorem Block.at_tempCurve (b : Block) (t : Nat) : (b.at t).tempCurve = b.tempCurve := rfl
@[simp] theorem Block.at_dict (b : Block) (t : Nat) : (b.at t).dict = b.dict := rfl
@[simp] theorem Block.at_out (b : Block) (t : Nat) : (b.at t).out = b.out := rfl
@[simp] theorem Block.at_free (b : Block) (t : Nat) : (b.at t).free = b.free := rfl
@[simp] theorem Block.emit_fuses (b : Block) (e : Emission) : (b.emit e).fuses = b.fuses := rfl
@[simp] theorem Block.emit_power (b : Block) (e : Emission) : (b.emit e).power = b.power := rfl
@[simp] theorem Block.emit_bedrock (b : Block) (e : Emission) : (b.emit e).bedrock = b.bedrock := rfl
@[simp] theorem Block.emit_journal (b : Block) (e : Emission) : (b.emit e).journal = b.journal := rfl
@[simp] theorem Block.emit_flint (b : Block) (e : Emission) : (b.emit e).flint = b.flint := rfl
@[simp] theorem Block.emit_nvm (b : Block) (e : Emission) : (b.emit e).nvm = b.nvm := rfl
@[simp] theorem Block.emit_tb (b : Block) (e : Emission) : (b.emit e).tb = b.tb := rfl
@[simp] theorem Block.emit_phys (b : Block) (e : Emission) : (b.emit e).phys = b.phys := rfl
@[simp] theorem Block.emit_gov (b : Block) (e : Emission) : (b.emit e).gov = b.gov := rfl
@[simp] theorem Block.emit_lanes (b : Block) (e : Emission) : (b.emit e).lanes = b.lanes := rfl
@[simp] theorem Block.emit_win (b : Block) (e : Emission) : (b.emit e).win = b.win := rfl
@[simp] theorem Block.emit_cap (b : Block) (e : Emission) : (b.emit e).cap = b.cap := rfl
@[simp] theorem Block.emit_keeper (b : Block) (e : Emission) : (b.emit e).keeper = b.keeper := rfl
@[simp] theorem Block.emit_aux (b : Block) (e : Emission) : (b.emit e).aux = b.aux := rfl
@[simp] theorem Block.emit_imp (b : Block) (e : Emission) : (b.emit e).imp = b.imp := rfl
@[simp] theorem Block.emit_link (b : Block) (e : Emission) : (b.emit e).link = b.link := rfl
@[simp] theorem Block.emit_access (b : Block) (e : Emission) : (b.emit e).access = b.access := rfl
@[simp] theorem Block.emit_host (b : Block) (e : Emission) : (b.emit e).host = b.host := rfl
@[simp] theorem Block.emit_diag (b : Block) (e : Emission) : (b.emit e).diag = b.diag := rfl
@[simp] theorem Block.emit_thermal (b : Block) (e : Emission) : (b.emit e).thermal = b.thermal := rfl
@[simp] theorem Block.emit_chainSet (b : Block) (e : Emission) : (b.emit e).chainSet = b.chainSet := rfl
@[simp] theorem Block.emit_socTable (b : Block) (e : Emission) : (b.emit e).socTable = b.socTable := rfl
@[simp] theorem Block.emit_tempCurve (b : Block) (e : Emission) : (b.emit e).tempCurve = b.tempCurve := rfl
@[simp] theorem Block.emit_dict (b : Block) (e : Emission) : (b.emit e).dict = b.dict := rfl
@[simp] theorem Block.emit_free (b : Block) (e : Emission) : (b.emit e).free = b.free := rfl
@[simp] theorem Block.raise_fuses (b : Block) (s d : Nat) : (b.raise s d).fuses = b.fuses := rfl
@[simp] theorem Block.raise_power (b : Block) (s d : Nat) : (b.raise s d).power = b.power := rfl
@[simp] theorem Block.raise_bedrock (b : Block) (s d : Nat) : (b.raise s d).bedrock = b.bedrock := rfl
@[simp] theorem Block.raise_journal (b : Block) (s d : Nat) : (b.raise s d).journal = b.journal := rfl
@[simp] theorem Block.raise_nvm (b : Block) (s d : Nat) : (b.raise s d).nvm = b.nvm := rfl
@[simp] theorem Block.raise_tb (b : Block) (s d : Nat) : (b.raise s d).tb = b.tb := rfl
@[simp] theorem Block.raise_phys (b : Block) (s d : Nat) : (b.raise s d).phys = b.phys := rfl
@[simp] theorem Block.raise_gov (b : Block) (s d : Nat) : (b.raise s d).gov = b.gov := rfl
@[simp] theorem Block.raise_lanes (b : Block) (s d : Nat) : (b.raise s d).lanes = b.lanes := rfl
@[simp] theorem Block.raise_win (b : Block) (s d : Nat) : (b.raise s d).win = b.win := rfl
@[simp] theorem Block.raise_cap (b : Block) (s d : Nat) : (b.raise s d).cap = b.cap := rfl
@[simp] theorem Block.raise_keeper (b : Block) (s d : Nat) : (b.raise s d).keeper = b.keeper := rfl
@[simp] theorem Block.raise_aux (b : Block) (s d : Nat) : (b.raise s d).aux = b.aux := rfl
@[simp] theorem Block.raise_imp (b : Block) (s d : Nat) : (b.raise s d).imp = b.imp := rfl
@[simp] theorem Block.raise_link (b : Block) (s d : Nat) : (b.raise s d).link = b.link := rfl
@[simp] theorem Block.raise_access (b : Block) (s d : Nat) : (b.raise s d).access = b.access := rfl
@[simp] theorem Block.raise_host (b : Block) (s d : Nat) : (b.raise s d).host = b.host := rfl
@[simp] theorem Block.raise_diag (b : Block) (s d : Nat) : (b.raise s d).diag = b.diag := rfl
@[simp] theorem Block.raise_thermal (b : Block) (s d : Nat) : (b.raise s d).thermal = b.thermal := rfl
@[simp] theorem Block.raise_chainSet (b : Block) (s d : Nat) : (b.raise s d).chainSet = b.chainSet := rfl
@[simp] theorem Block.raise_socTable (b : Block) (s d : Nat) : (b.raise s d).socTable = b.socTable := rfl
@[simp] theorem Block.raise_tempCurve (b : Block) (s d : Nat) : (b.raise s d).tempCurve = b.tempCurve := rfl
@[simp] theorem Block.raise_dict (b : Block) (s d : Nat) : (b.raise s d).dict = b.dict := rfl
@[simp] theorem Block.raise_out (b : Block) (s d : Nat) : (b.raise s d).out = b.out := rfl
@[simp] theorem Block.raise_free (b : Block) (s d : Nat) : (b.raise s d).free = b.free := rfl
@[simp] theorem Block.raiseAtLeast_fuses (b : Block) (s d c : Nat) : (b.raiseAtLeast s d c).fuses = b.fuses := rfl
@[simp] theorem Block.raiseAtLeast_power (b : Block) (s d c : Nat) : (b.raiseAtLeast s d c).power = b.power := rfl
@[simp] theorem Block.raiseAtLeast_bedrock (b : Block) (s d c : Nat) : (b.raiseAtLeast s d c).bedrock = b.bedrock := rfl
@[simp] theorem Block.raiseAtLeast_journal (b : Block) (s d c : Nat) : (b.raiseAtLeast s d c).journal = b.journal := rfl
@[simp] theorem Block.raiseAtLeast_nvm (b : Block) (s d c : Nat) : (b.raiseAtLeast s d c).nvm = b.nvm := rfl
@[simp] theorem Block.raiseAtLeast_tb (b : Block) (s d c : Nat) : (b.raiseAtLeast s d c).tb = b.tb := rfl
@[simp] theorem Block.raiseAtLeast_phys (b : Block) (s d c : Nat) : (b.raiseAtLeast s d c).phys = b.phys := rfl
@[simp] theorem Block.raiseAtLeast_gov (b : Block) (s d c : Nat) : (b.raiseAtLeast s d c).gov = b.gov := rfl
@[simp] theorem Block.raiseAtLeast_lanes (b : Block) (s d c : Nat) : (b.raiseAtLeast s d c).lanes = b.lanes := rfl
@[simp] theorem Block.raiseAtLeast_win (b : Block) (s d c : Nat) : (b.raiseAtLeast s d c).win = b.win := rfl
@[simp] theorem Block.raiseAtLeast_cap (b : Block) (s d c : Nat) : (b.raiseAtLeast s d c).cap = b.cap := rfl
@[simp] theorem Block.raiseAtLeast_keeper (b : Block) (s d c : Nat) : (b.raiseAtLeast s d c).keeper = b.keeper := rfl
@[simp] theorem Block.raiseAtLeast_aux (b : Block) (s d c : Nat) : (b.raiseAtLeast s d c).aux = b.aux := rfl
@[simp] theorem Block.raiseAtLeast_imp (b : Block) (s d c : Nat) : (b.raiseAtLeast s d c).imp = b.imp := rfl
@[simp] theorem Block.raiseAtLeast_link (b : Block) (s d c : Nat) : (b.raiseAtLeast s d c).link = b.link := rfl
@[simp] theorem Block.raiseAtLeast_access (b : Block) (s d c : Nat) : (b.raiseAtLeast s d c).access = b.access := rfl
@[simp] theorem Block.raiseAtLeast_host (b : Block) (s d c : Nat) : (b.raiseAtLeast s d c).host = b.host := rfl
@[simp] theorem Block.raiseAtLeast_diag (b : Block) (s d c : Nat) : (b.raiseAtLeast s d c).diag = b.diag := rfl
@[simp] theorem Block.raiseAtLeast_thermal (b : Block) (s d c : Nat) : (b.raiseAtLeast s d c).thermal = b.thermal := rfl
@[simp] theorem Block.raiseAtLeast_chainSet (b : Block) (s d c : Nat) : (b.raiseAtLeast s d c).chainSet = b.chainSet := rfl
@[simp] theorem Block.raiseAtLeast_socTable (b : Block) (s d c : Nat) : (b.raiseAtLeast s d c).socTable = b.socTable := rfl
@[simp] theorem Block.raiseAtLeast_tempCurve (b : Block) (s d c : Nat) : (b.raiseAtLeast s d c).tempCurve = b.tempCurve := rfl
@[simp] theorem Block.raiseAtLeast_dict (b : Block) (s d c : Nat) : (b.raiseAtLeast s d c).dict = b.dict := rfl
@[simp] theorem Block.raiseAtLeast_out (b : Block) (s d c : Nat) : (b.raiseAtLeast s d c).out = b.out := rfl
@[simp] theorem Block.raiseAtLeast_free (b : Block) (s d c : Nat) : (b.raiseAtLeast s d c).free = b.free := rfl
@[simp] theorem Block.raiseExactly_fuses (b : Block) (s d c : Nat) : (b.raiseExactly s d c).fuses = b.fuses := rfl
@[simp] theorem Block.raiseExactly_power (b : Block) (s d c : Nat) : (b.raiseExactly s d c).power = b.power := rfl
@[simp] theorem Block.raiseExactly_bedrock (b : Block) (s d c : Nat) : (b.raiseExactly s d c).bedrock = b.bedrock := rfl
@[simp] theorem Block.raiseExactly_journal (b : Block) (s d c : Nat) : (b.raiseExactly s d c).journal = b.journal := rfl
@[simp] theorem Block.raiseExactly_nvm (b : Block) (s d c : Nat) : (b.raiseExactly s d c).nvm = b.nvm := rfl
@[simp] theorem Block.raiseExactly_tb (b : Block) (s d c : Nat) : (b.raiseExactly s d c).tb = b.tb := rfl
@[simp] theorem Block.raiseExactly_phys (b : Block) (s d c : Nat) : (b.raiseExactly s d c).phys = b.phys := rfl
@[simp] theorem Block.raiseExactly_gov (b : Block) (s d c : Nat) : (b.raiseExactly s d c).gov = b.gov := rfl
@[simp] theorem Block.raiseExactly_lanes (b : Block) (s d c : Nat) : (b.raiseExactly s d c).lanes = b.lanes := rfl
@[simp] theorem Block.raiseExactly_win (b : Block) (s d c : Nat) : (b.raiseExactly s d c).win = b.win := rfl
@[simp] theorem Block.raiseExactly_cap (b : Block) (s d c : Nat) : (b.raiseExactly s d c).cap = b.cap := rfl
@[simp] theorem Block.raiseExactly_keeper (b : Block) (s d c : Nat) : (b.raiseExactly s d c).keeper = b.keeper := rfl
@[simp] theorem Block.raiseExactly_aux (b : Block) (s d c : Nat) : (b.raiseExactly s d c).aux = b.aux := rfl
@[simp] theorem Block.raiseExactly_imp (b : Block) (s d c : Nat) : (b.raiseExactly s d c).imp = b.imp := rfl
@[simp] theorem Block.raiseExactly_link (b : Block) (s d c : Nat) : (b.raiseExactly s d c).link = b.link := rfl
@[simp] theorem Block.raiseExactly_access (b : Block) (s d c : Nat) : (b.raiseExactly s d c).access = b.access := rfl
@[simp] theorem Block.raiseExactly_host (b : Block) (s d c : Nat) : (b.raiseExactly s d c).host = b.host := rfl
@[simp] theorem Block.raiseExactly_diag (b : Block) (s d c : Nat) : (b.raiseExactly s d c).diag = b.diag := rfl
@[simp] theorem Block.raiseExactly_thermal (b : Block) (s d c : Nat) : (b.raiseExactly s d c).thermal = b.thermal := rfl
@[simp] theorem Block.raiseExactly_chainSet (b : Block) (s d c : Nat) : (b.raiseExactly s d c).chainSet = b.chainSet := rfl
@[simp] theorem Block.raiseExactly_socTable (b : Block) (s d c : Nat) : (b.raiseExactly s d c).socTable = b.socTable := rfl
@[simp] theorem Block.raiseExactly_tempCurve (b : Block) (s d c : Nat) : (b.raiseExactly s d c).tempCurve = b.tempCurve := rfl
@[simp] theorem Block.raiseExactly_dict (b : Block) (s d c : Nat) : (b.raiseExactly s d c).dict = b.dict := rfl
@[simp] theorem Block.raiseExactly_out (b : Block) (s d c : Nat) : (b.raiseExactly s d c).out = b.out := rfl
@[simp] theorem Block.raiseExactly_free (b : Block) (s d c : Nat) : (b.raiseExactly s d c).free = b.free := rfl
@[simp] theorem Block.reason_fuses (b : Block) (r : Reason) (o : Bool) : (b.reason r o).fuses = b.fuses := by
  simp only [Block.reason]; (repeat' split) <;> simp
@[simp] theorem Block.reason_power (b : Block) (r : Reason) (o : Bool) : (b.reason r o).power = b.power := by
  simp only [Block.reason]; (repeat' split) <;> simp
@[simp] theorem Block.reason_bedrock (b : Block) (r : Reason) (o : Bool) : (b.reason r o).bedrock = b.bedrock := by
  simp only [Block.reason]; (repeat' split) <;> simp
@[simp] theorem Block.reason_journal (b : Block) (r : Reason) (o : Bool) : (b.reason r o).journal = b.journal := by
  simp only [Block.reason]; (repeat' split) <;> simp
@[simp] theorem Block.reason_flint (b : Block) (r : Reason) (o : Bool) : (b.reason r o).flint = b.flint := by
  simp only [Block.reason]; (repeat' split) <;> simp
@[simp] theorem Block.reason_nvm (b : Block) (r : Reason) (o : Bool) : (b.reason r o).nvm = b.nvm := by
  simp only [Block.reason]; (repeat' split) <;> simp
@[simp] theorem Block.reason_tb (b : Block) (r : Reason) (o : Bool) : (b.reason r o).tb = b.tb := by
  simp only [Block.reason]; (repeat' split) <;> simp
@[simp] theorem Block.reason_phys (b : Block) (r : Reason) (o : Bool) : (b.reason r o).phys = b.phys := by
  simp only [Block.reason]; (repeat' split) <;> simp
@[simp] theorem Block.reason_gov (b : Block) (r : Reason) (o : Bool) : (b.reason r o).gov = b.gov := by
  simp only [Block.reason]; (repeat' split) <;> simp
@[simp] theorem Block.reason_lanes (b : Block) (r : Reason) (o : Bool) : (b.reason r o).lanes = b.lanes := by
  simp only [Block.reason]; (repeat' split) <;> simp
@[simp] theorem Block.reason_win (b : Block) (r : Reason) (o : Bool) : (b.reason r o).win = b.win := by
  simp only [Block.reason]; (repeat' split) <;> simp
@[simp] theorem Block.reason_cap (b : Block) (r : Reason) (o : Bool) : (b.reason r o).cap = b.cap := by
  simp only [Block.reason]; (repeat' split) <;> simp
@[simp] theorem Block.reason_keeper (b : Block) (r : Reason) (o : Bool) : (b.reason r o).keeper = b.keeper := by
  simp only [Block.reason]; (repeat' split) <;> simp
@[simp] theorem Block.reason_aux (b : Block) (r : Reason) (o : Bool) : (b.reason r o).aux = b.aux := by
  simp only [Block.reason]; (repeat' split) <;> simp
@[simp] theorem Block.reason_imp (b : Block) (r : Reason) (o : Bool) : (b.reason r o).imp = b.imp := by
  simp only [Block.reason]; (repeat' split) <;> simp
@[simp] theorem Block.reason_link (b : Block) (r : Reason) (o : Bool) : (b.reason r o).link = b.link := by
  simp only [Block.reason]; (repeat' split) <;> simp
@[simp] theorem Block.reason_access (b : Block) (r : Reason) (o : Bool) : (b.reason r o).access = b.access := by
  simp only [Block.reason]; (repeat' split) <;> simp
@[simp] theorem Block.reason_host (b : Block) (r : Reason) (o : Bool) : (b.reason r o).host = b.host := by
  simp only [Block.reason]; (repeat' split) <;> simp
@[simp] theorem Block.reason_diag (b : Block) (r : Reason) (o : Bool) : (b.reason r o).diag = b.diag := by
  simp only [Block.reason]; (repeat' split) <;> simp
@[simp] theorem Block.reason_thermal (b : Block) (r : Reason) (o : Bool) : (b.reason r o).thermal = b.thermal := by
  simp only [Block.reason]; (repeat' split) <;> simp
@[simp] theorem Block.reason_chainSet (b : Block) (r : Reason) (o : Bool) : (b.reason r o).chainSet = b.chainSet := by
  simp only [Block.reason]; (repeat' split) <;> simp
@[simp] theorem Block.reason_socTable (b : Block) (r : Reason) (o : Bool) : (b.reason r o).socTable = b.socTable := by
  simp only [Block.reason]; (repeat' split) <;> simp
@[simp] theorem Block.reason_tempCurve (b : Block) (r : Reason) (o : Bool) : (b.reason r o).tempCurve = b.tempCurve := by
  simp only [Block.reason]; (repeat' split) <;> simp
@[simp] theorem Block.reason_out (b : Block) (r : Reason) (o : Bool) : (b.reason r o).out = b.out := by
  simp only [Block.reason]; (repeat' split) <;> simp
@[simp] theorem Block.reason_free (b : Block) (r : Reason) (o : Bool) : (b.reason r o).free = b.free := by
  simp only [Block.reason]; (repeat' split) <;> simp
@[simp] theorem Block.followReasons_fuses (b : Block)  : (b.followReasons).fuses = b.fuses := by
  simp only [Block.followReasons]; (repeat' split) <;> simp
@[simp] theorem Block.followReasons_power (b : Block)  : (b.followReasons).power = b.power := by
  simp only [Block.followReasons]; (repeat' split) <;> simp
@[simp] theorem Block.followReasons_bedrock (b : Block)  : (b.followReasons).bedrock = b.bedrock := by
  simp only [Block.followReasons]; (repeat' split) <;> simp
@[simp] theorem Block.followReasons_journal (b : Block)  : (b.followReasons).journal = b.journal := by
  simp only [Block.followReasons]; (repeat' split) <;> simp
@[simp] theorem Block.followReasons_flint (b : Block)  : (b.followReasons).flint = b.flint := by
  simp only [Block.followReasons]; (repeat' split) <;> simp
@[simp] theorem Block.followReasons_nvm (b : Block)  : (b.followReasons).nvm = b.nvm := by
  simp only [Block.followReasons]; (repeat' split) <;> simp
@[simp] theorem Block.followReasons_tb (b : Block)  : (b.followReasons).tb = b.tb := by
  simp only [Block.followReasons]; (repeat' split) <;> simp
@[simp] theorem Block.followReasons_phys (b : Block)  : (b.followReasons).phys = b.phys := by
  simp only [Block.followReasons]; (repeat' split) <;> simp
@[simp] theorem Block.followReasons_gov (b : Block)  : (b.followReasons).gov = b.gov := by
  simp only [Block.followReasons]; (repeat' split) <;> simp
@[simp] theorem Block.followReasons_lanes (b : Block)  : (b.followReasons).lanes = b.lanes := by
  simp only [Block.followReasons]; (repeat' split) <;> simp
@[simp] theorem Block.followReasons_win (b : Block)  : (b.followReasons).win = b.win := by
  simp only [Block.followReasons]; (repeat' split) <;> simp
@[simp] theorem Block.followReasons_cap (b : Block)  : (b.followReasons).cap = b.cap := by
  simp only [Block.followReasons]; (repeat' split) <;> simp
@[simp] theorem Block.followReasons_keeper (b : Block)  : (b.followReasons).keeper = b.keeper := by
  simp only [Block.followReasons]; (repeat' split) <;> simp
@[simp] theorem Block.followReasons_aux (b : Block)  : (b.followReasons).aux = b.aux := by
  simp only [Block.followReasons]; (repeat' split) <;> simp
@[simp] theorem Block.followReasons_imp (b : Block)  : (b.followReasons).imp = b.imp := by
  simp only [Block.followReasons]; (repeat' split) <;> simp
@[simp] theorem Block.followReasons_link (b : Block)  : (b.followReasons).link = b.link := by
  simp only [Block.followReasons]; (repeat' split) <;> simp
@[simp] theorem Block.followReasons_access (b : Block)  : (b.followReasons).access = b.access := by
  simp only [Block.followReasons]; (repeat' split) <;> simp
@[simp] theorem Block.followReasons_host (b : Block)  : (b.followReasons).host = b.host := by
  simp only [Block.followReasons]; (repeat' split) <;> simp
@[simp] theorem Block.followReasons_diag (b : Block)  : (b.followReasons).diag = b.diag := by
  simp only [Block.followReasons]; (repeat' split) <;> simp
@[simp] theorem Block.followReasons_thermal (b : Block)  : (b.followReasons).thermal = b.thermal := by
  simp only [Block.followReasons]; (repeat' split) <;> simp
@[simp] theorem Block.followReasons_chainSet (b : Block)  : (b.followReasons).chainSet = b.chainSet := by
  simp only [Block.followReasons]; (repeat' split) <;> simp
@[simp] theorem Block.followReasons_socTable (b : Block)  : (b.followReasons).socTable = b.socTable := by
  simp only [Block.followReasons]; (repeat' split) <;> simp
@[simp] theorem Block.followReasons_tempCurve (b : Block)  : (b.followReasons).tempCurve = b.tempCurve := by
  simp only [Block.followReasons]; (repeat' split) <;> simp
@[simp] theorem Block.followReasons_out (b : Block)  : (b.followReasons).out = b.out := by
  simp only [Block.followReasons]; (repeat' split) <;> simp
@[simp] theorem Block.followReasons_free (b : Block)  : (b.followReasons).free = b.free := by
  simp only [Block.followReasons]; (repeat' split) <;> simp
@[simp] theorem Block.dropLatch_fuses (b : Block) (s : Nat) : (b.dropLatch s).fuses = b.fuses := by
  simp only [Block.dropLatch]; (repeat' split) <;> simp
@[simp] theorem Block.dropLatch_power (b : Block) (s : Nat) : (b.dropLatch s).power = b.power := by
  simp only [Block.dropLatch]; (repeat' split) <;> simp
@[simp] theorem Block.dropLatch_bedrock (b : Block) (s : Nat) : (b.dropLatch s).bedrock = b.bedrock := by
  simp only [Block.dropLatch]; (repeat' split) <;> simp
@[simp] theorem Block.dropLatch_journal (b : Block) (s : Nat) : (b.dropLatch s).journal = b.journal := by
  simp only [Block.dropLatch]; (repeat' split) <;> simp
@[simp] theorem Block.dropLatch_nvm (b : Block) (s : Nat) : (b.dropLatch s).nvm = b.nvm := by
  simp only [Block.dropLatch]; (repeat' split) <;> simp
@[simp] theorem Block.dropLatch_tb (b : Block) (s : Nat) : (b.dropLatch s).tb = b.tb := by
  simp only [Block.dropLatch]; (repeat' split) <;> simp
@[simp] theorem Block.dropLatch_phys (b : Block) (s : Nat) : (b.dropLatch s).phys = b.phys := by
  simp only [Block.dropLatch]; (repeat' split) <;> simp
@[simp] theorem Block.dropLatch_gov (b : Block) (s : Nat) : (b.dropLatch s).gov = b.gov := by
  simp only [Block.dropLatch]; (repeat' split) <;> simp
@[simp] theorem Block.dropLatch_lanes (b : Block) (s : Nat) : (b.dropLatch s).lanes = b.lanes := by
  simp only [Block.dropLatch]; (repeat' split) <;> simp
@[simp] theorem Block.dropLatch_win (b : Block) (s : Nat) : (b.dropLatch s).win = b.win := by
  simp only [Block.dropLatch]; (repeat' split) <;> simp
@[simp] theorem Block.dropLatch_cap (b : Block) (s : Nat) : (b.dropLatch s).cap = b.cap := by
  simp only [Block.dropLatch]; (repeat' split) <;> simp
@[simp] theorem Block.dropLatch_keeper (b : Block) (s : Nat) : (b.dropLatch s).keeper = b.keeper := by
  simp only [Block.dropLatch]; (repeat' split) <;> simp
@[simp] theorem Block.dropLatch_aux (b : Block) (s : Nat) : (b.dropLatch s).aux = b.aux := by
  simp only [Block.dropLatch]; (repeat' split) <;> simp
@[simp] theorem Block.dropLatch_imp (b : Block) (s : Nat) : (b.dropLatch s).imp = b.imp := by
  simp only [Block.dropLatch]; (repeat' split) <;> simp
@[simp] theorem Block.dropLatch_link (b : Block) (s : Nat) : (b.dropLatch s).link = b.link := by
  simp only [Block.dropLatch]; (repeat' split) <;> simp
@[simp] theorem Block.dropLatch_access (b : Block) (s : Nat) : (b.dropLatch s).access = b.access := by
  simp only [Block.dropLatch]; (repeat' split) <;> simp
@[simp] theorem Block.dropLatch_host (b : Block) (s : Nat) : (b.dropLatch s).host = b.host := by
  simp only [Block.dropLatch]; (repeat' split) <;> simp
@[simp] theorem Block.dropLatch_diag (b : Block) (s : Nat) : (b.dropLatch s).diag = b.diag := by
  simp only [Block.dropLatch]; (repeat' split) <;> simp
@[simp] theorem Block.dropLatch_thermal (b : Block) (s : Nat) : (b.dropLatch s).thermal = b.thermal := by
  simp only [Block.dropLatch]; (repeat' split) <;> simp
@[simp] theorem Block.dropLatch_chainSet (b : Block) (s : Nat) : (b.dropLatch s).chainSet = b.chainSet := by
  simp only [Block.dropLatch]; (repeat' split) <;> simp
@[simp] theorem Block.dropLatch_socTable (b : Block) (s : Nat) : (b.dropLatch s).socTable = b.socTable := by
  simp only [Block.dropLatch]; (repeat' split) <;> simp
@[simp] theorem Block.dropLatch_tempCurve (b : Block) (s : Nat) : (b.dropLatch s).tempCurve = b.tempCurve := by
  simp only [Block.dropLatch]; (repeat' split) <;> simp
@[simp] theorem Block.dropLatch_out (b : Block) (s : Nat) : (b.dropLatch s).out = b.out := by
  simp only [Block.dropLatch]; (repeat' split) <;> simp
@[simp] theorem Block.dropLatch_free (b : Block) (s : Nat) : (b.dropLatch s).free = b.free := by
  simp only [Block.dropLatch]; (repeat' split) <;> simp
@[simp] theorem Block.clearLive_fuses (b : Block) (s : Nat) : (b.clearLive s).fuses = b.fuses := by
  simp only [Block.clearLive]; (repeat' split) <;> simp [apply_ite Block.fuses]
@[simp] theorem Block.clearLive_power (b : Block) (s : Nat) : (b.clearLive s).power = b.power := by
  simp only [Block.clearLive]; (repeat' split) <;> simp [apply_ite Block.power]
@[simp] theorem Block.clearLive_bedrock (b : Block) (s : Nat) : (b.clearLive s).bedrock = b.bedrock := by
  simp only [Block.clearLive]; (repeat' split) <;> simp [apply_ite Block.bedrock]
@[simp] theorem Block.clearLive_journal (b : Block) (s : Nat) : (b.clearLive s).journal = b.journal := by
  simp only [Block.clearLive]; (repeat' split) <;> simp [apply_ite Block.journal]
@[simp] theorem Block.clearLive_nvm (b : Block) (s : Nat) : (b.clearLive s).nvm = b.nvm := by
  simp only [Block.clearLive]; (repeat' split) <;> simp [apply_ite Block.nvm]
@[simp] theorem Block.clearLive_tb (b : Block) (s : Nat) : (b.clearLive s).tb = b.tb := by
  simp only [Block.clearLive]; (repeat' split) <;> simp [apply_ite Block.tb]
@[simp] theorem Block.clearLive_phys (b : Block) (s : Nat) : (b.clearLive s).phys = b.phys := by
  simp only [Block.clearLive]; (repeat' split) <;> simp [apply_ite Block.phys]
@[simp] theorem Block.clearLive_gov (b : Block) (s : Nat) : (b.clearLive s).gov = b.gov := by
  simp only [Block.clearLive]; (repeat' split) <;> simp [apply_ite Block.gov]
@[simp] theorem Block.clearLive_lanes (b : Block) (s : Nat) : (b.clearLive s).lanes = b.lanes := by
  simp only [Block.clearLive]; (repeat' split) <;> simp [apply_ite Block.lanes]
@[simp] theorem Block.clearLive_win (b : Block) (s : Nat) : (b.clearLive s).win = b.win := by
  simp only [Block.clearLive]; (repeat' split) <;> simp [apply_ite Block.win]
@[simp] theorem Block.clearLive_cap (b : Block) (s : Nat) : (b.clearLive s).cap = b.cap := by
  simp only [Block.clearLive]; (repeat' split) <;> simp [apply_ite Block.cap]
@[simp] theorem Block.clearLive_keeper (b : Block) (s : Nat) : (b.clearLive s).keeper = b.keeper := by
  simp only [Block.clearLive]; (repeat' split) <;> simp [apply_ite Block.keeper]
@[simp] theorem Block.clearLive_aux (b : Block) (s : Nat) : (b.clearLive s).aux = b.aux := by
  simp only [Block.clearLive]; (repeat' split) <;> simp [apply_ite Block.aux]
@[simp] theorem Block.clearLive_imp (b : Block) (s : Nat) : (b.clearLive s).imp = b.imp := by
  simp only [Block.clearLive]; (repeat' split) <;> simp [apply_ite Block.imp]
@[simp] theorem Block.clearLive_link (b : Block) (s : Nat) : (b.clearLive s).link = b.link := by
  simp only [Block.clearLive]; (repeat' split) <;> simp [apply_ite Block.link]
@[simp] theorem Block.clearLive_access (b : Block) (s : Nat) : (b.clearLive s).access = b.access := by
  simp only [Block.clearLive]; (repeat' split) <;> simp [apply_ite Block.access]
@[simp] theorem Block.clearLive_host (b : Block) (s : Nat) : (b.clearLive s).host = b.host := by
  simp only [Block.clearLive]; (repeat' split) <;> simp [apply_ite Block.host]
@[simp] theorem Block.clearLive_diag (b : Block) (s : Nat) : (b.clearLive s).diag = b.diag := by
  simp only [Block.clearLive]; (repeat' split) <;> simp [apply_ite Block.diag]
@[simp] theorem Block.clearLive_thermal (b : Block) (s : Nat) : (b.clearLive s).thermal = b.thermal := by
  simp only [Block.clearLive]; (repeat' split) <;> simp [apply_ite Block.thermal]
@[simp] theorem Block.clearLive_chainSet (b : Block) (s : Nat) : (b.clearLive s).chainSet = b.chainSet := by
  simp only [Block.clearLive]; (repeat' split) <;> simp [apply_ite Block.chainSet]
@[simp] theorem Block.clearLive_socTable (b : Block) (s : Nat) : (b.clearLive s).socTable = b.socTable := by
  simp only [Block.clearLive]; (repeat' split) <;> simp [apply_ite Block.socTable]
@[simp] theorem Block.clearLive_tempCurve (b : Block) (s : Nat) : (b.clearLive s).tempCurve = b.tempCurve := by
  simp only [Block.clearLive]; (repeat' split) <;> simp [apply_ite Block.tempCurve]
@[simp] theorem Block.clearLive_out (b : Block) (s : Nat) : (b.clearLive s).out = b.out := by
  simp only [Block.clearLive]; (repeat' split) <;> simp [apply_ite Block.out]
@[simp] theorem Block.clearLive_free (b : Block) (s : Nat) : (b.clearLive s).free = b.free := by
  simp only [Block.clearLive]; (repeat' split) <;> simp [apply_ite Block.free]
@[simp] theorem Block.follow_fuses (b : Block) (s d : Nat) (o : Bool) : (b.follow s d o).fuses = b.fuses := by
  simp only [Block.follow]; (repeat' split) <;> simp
@[simp] theorem Block.follow_power (b : Block) (s d : Nat) (o : Bool) : (b.follow s d o).power = b.power := by
  simp only [Block.follow]; (repeat' split) <;> simp
@[simp] theorem Block.follow_bedrock (b : Block) (s d : Nat) (o : Bool) : (b.follow s d o).bedrock = b.bedrock := by
  simp only [Block.follow]; (repeat' split) <;> simp
@[simp] theorem Block.follow_journal (b : Block) (s d : Nat) (o : Bool) : (b.follow s d o).journal = b.journal := by
  simp only [Block.follow]; (repeat' split) <;> simp
@[simp] theorem Block.follow_nvm (b : Block) (s d : Nat) (o : Bool) : (b.follow s d o).nvm = b.nvm := by
  simp only [Block.follow]; (repeat' split) <;> simp
@[simp] theorem Block.follow_tb (b : Block) (s d : Nat) (o : Bool) : (b.follow s d o).tb = b.tb := by
  simp only [Block.follow]; (repeat' split) <;> simp
@[simp] theorem Block.follow_phys (b : Block) (s d : Nat) (o : Bool) : (b.follow s d o).phys = b.phys := by
  simp only [Block.follow]; (repeat' split) <;> simp
@[simp] theorem Block.follow_gov (b : Block) (s d : Nat) (o : Bool) : (b.follow s d o).gov = b.gov := by
  simp only [Block.follow]; (repeat' split) <;> simp
@[simp] theorem Block.follow_lanes (b : Block) (s d : Nat) (o : Bool) : (b.follow s d o).lanes = b.lanes := by
  simp only [Block.follow]; (repeat' split) <;> simp
@[simp] theorem Block.follow_win (b : Block) (s d : Nat) (o : Bool) : (b.follow s d o).win = b.win := by
  simp only [Block.follow]; (repeat' split) <;> simp
@[simp] theorem Block.follow_cap (b : Block) (s d : Nat) (o : Bool) : (b.follow s d o).cap = b.cap := by
  simp only [Block.follow]; (repeat' split) <;> simp
@[simp] theorem Block.follow_keeper (b : Block) (s d : Nat) (o : Bool) : (b.follow s d o).keeper = b.keeper := by
  simp only [Block.follow]; (repeat' split) <;> simp
@[simp] theorem Block.follow_aux (b : Block) (s d : Nat) (o : Bool) : (b.follow s d o).aux = b.aux := by
  simp only [Block.follow]; (repeat' split) <;> simp
@[simp] theorem Block.follow_imp (b : Block) (s d : Nat) (o : Bool) : (b.follow s d o).imp = b.imp := by
  simp only [Block.follow]; (repeat' split) <;> simp
@[simp] theorem Block.follow_link (b : Block) (s d : Nat) (o : Bool) : (b.follow s d o).link = b.link := by
  simp only [Block.follow]; (repeat' split) <;> simp
@[simp] theorem Block.follow_access (b : Block) (s d : Nat) (o : Bool) : (b.follow s d o).access = b.access := by
  simp only [Block.follow]; (repeat' split) <;> simp
@[simp] theorem Block.follow_host (b : Block) (s d : Nat) (o : Bool) : (b.follow s d o).host = b.host := by
  simp only [Block.follow]; (repeat' split) <;> simp
@[simp] theorem Block.follow_diag (b : Block) (s d : Nat) (o : Bool) : (b.follow s d o).diag = b.diag := by
  simp only [Block.follow]; (repeat' split) <;> simp
@[simp] theorem Block.follow_thermal (b : Block) (s d : Nat) (o : Bool) : (b.follow s d o).thermal = b.thermal := by
  simp only [Block.follow]; (repeat' split) <;> simp
@[simp] theorem Block.follow_chainSet (b : Block) (s d : Nat) (o : Bool) : (b.follow s d o).chainSet = b.chainSet := by
  simp only [Block.follow]; (repeat' split) <;> simp
@[simp] theorem Block.follow_socTable (b : Block) (s d : Nat) (o : Bool) : (b.follow s d o).socTable = b.socTable := by
  simp only [Block.follow]; (repeat' split) <;> simp
@[simp] theorem Block.follow_tempCurve (b : Block) (s d : Nat) (o : Bool) : (b.follow s d o).tempCurve = b.tempCurve := by
  simp only [Block.follow]; (repeat' split) <;> simp
@[simp] theorem Block.follow_out (b : Block) (s d : Nat) (o : Bool) : (b.follow s d o).out = b.out := by
  simp only [Block.follow]; (repeat' split) <;> simp
@[simp] theorem Block.follow_free (b : Block) (s d : Nat) (o : Bool) : (b.follow s d o).free = b.free := by
  simp only [Block.follow]; (repeat' split) <;> simp
@[simp] theorem Block.attend_fuses (b : Block) (i : Nat) : (b.attend i).fuses = b.fuses := by
  simp only [Block.attend]; (repeat' split) <;> simp
@[simp] theorem Block.attend_power (b : Block) (i : Nat) : (b.attend i).power = b.power := by
  simp only [Block.attend]; (repeat' split) <;> simp
@[simp] theorem Block.attend_bedrock (b : Block) (i : Nat) : (b.attend i).bedrock = b.bedrock := by
  simp only [Block.attend]; (repeat' split) <;> simp
@[simp] theorem Block.attend_journal (b : Block) (i : Nat) : (b.attend i).journal = b.journal := by
  simp only [Block.attend]; (repeat' split) <;> simp
@[simp] theorem Block.attend_flint (b : Block) (i : Nat) : (b.attend i).flint = b.flint := by
  simp only [Block.attend]; (repeat' split) <;> simp
@[simp] theorem Block.attend_nvm (b : Block) (i : Nat) : (b.attend i).nvm = b.nvm := by
  simp only [Block.attend]; (repeat' split) <;> simp
@[simp] theorem Block.attend_tb (b : Block) (i : Nat) : (b.attend i).tb = b.tb := by
  simp only [Block.attend]; (repeat' split) <;> simp
@[simp] theorem Block.attend_phys (b : Block) (i : Nat) : (b.attend i).phys = b.phys := by
  simp only [Block.attend]; (repeat' split) <;> simp
@[simp] theorem Block.attend_gov (b : Block) (i : Nat) : (b.attend i).gov = b.gov := by
  simp only [Block.attend]; (repeat' split) <;> simp
@[simp] theorem Block.attend_lanes (b : Block) (i : Nat) : (b.attend i).lanes = b.lanes := by
  simp only [Block.attend]; (repeat' split) <;> simp
@[simp] theorem Block.attend_win (b : Block) (i : Nat) : (b.attend i).win = b.win := by
  simp only [Block.attend]; (repeat' split) <;> simp
@[simp] theorem Block.attend_cap (b : Block) (i : Nat) : (b.attend i).cap = b.cap := by
  simp only [Block.attend]; (repeat' split) <;> simp
@[simp] theorem Block.attend_keeper (b : Block) (i : Nat) : (b.attend i).keeper = b.keeper := by
  simp only [Block.attend]; (repeat' split) <;> simp
@[simp] theorem Block.attend_aux (b : Block) (i : Nat) : (b.attend i).aux = b.aux := by
  simp only [Block.attend]; (repeat' split) <;> simp
@[simp] theorem Block.attend_imp (b : Block) (i : Nat) : (b.attend i).imp = b.imp := by
  simp only [Block.attend]; (repeat' split) <;> simp
@[simp] theorem Block.attend_link (b : Block) (i : Nat) : (b.attend i).link = b.link := by
  simp only [Block.attend]; (repeat' split) <;> simp
@[simp] theorem Block.attend_access (b : Block) (i : Nat) : (b.attend i).access = b.access := by
  simp only [Block.attend]; (repeat' split) <;> simp
@[simp] theorem Block.attend_host (b : Block) (i : Nat) : (b.attend i).host = b.host := by
  simp only [Block.attend]; (repeat' split) <;> simp
@[simp] theorem Block.attend_diag (b : Block) (i : Nat) : (b.attend i).diag = b.diag := by
  simp only [Block.attend]; (repeat' split) <;> simp
@[simp] theorem Block.attend_thermal (b : Block) (i : Nat) : (b.attend i).thermal = b.thermal := by
  simp only [Block.attend]; (repeat' split) <;> simp
@[simp] theorem Block.attend_chainSet (b : Block) (i : Nat) : (b.attend i).chainSet = b.chainSet := by
  simp only [Block.attend]; (repeat' split) <;> simp
@[simp] theorem Block.attend_socTable (b : Block) (i : Nat) : (b.attend i).socTable = b.socTable := by
  simp only [Block.attend]; (repeat' split) <;> simp
@[simp] theorem Block.attend_tempCurve (b : Block) (i : Nat) : (b.attend i).tempCurve = b.tempCurve := by
  simp only [Block.attend]; (repeat' split) <;> simp
@[simp] theorem Block.attend_out (b : Block) (i : Nat) : (b.attend i).out = b.out := by
  simp only [Block.attend]; (repeat' split) <;> simp
@[simp] theorem Block.attend_free (b : Block) (i : Nat) : (b.attend i).free = b.free := by
  simp only [Block.attend]; (repeat' split) <;> simp
@[simp] theorem Block.journalWrite_fuses (b : Block) (e : JEntry) (l : List Nat) : (b.journalWrite e l).fuses = b.fuses := by
  simp only [Block.journalWrite]; (repeat' split) <;> simp [apply_ite Block.fuses]
@[simp] theorem Block.journalWrite_power (b : Block) (e : JEntry) (l : List Nat) : (b.journalWrite e l).power = b.power := by
  simp only [Block.journalWrite]; (repeat' split) <;> simp [apply_ite Block.power]
@[simp] theorem Block.journalWrite_bedrock (b : Block) (e : JEntry) (l : List Nat) : (b.journalWrite e l).bedrock = b.bedrock := by
  simp only [Block.journalWrite]; (repeat' split) <;> simp [apply_ite Block.bedrock]
@[simp] theorem Block.journalWrite_flint (b : Block) (e : JEntry) (l : List Nat) : (b.journalWrite e l).flint = b.flint := by
  simp only [Block.journalWrite]; (repeat' split) <;> simp [apply_ite Block.flint]
@[simp] theorem Block.journalWrite_nvm (b : Block) (e : JEntry) (l : List Nat) : (b.journalWrite e l).nvm = b.nvm := by
  simp only [Block.journalWrite]; (repeat' split) <;> simp [apply_ite Block.nvm]
@[simp] theorem Block.journalWrite_tb (b : Block) (e : JEntry) (l : List Nat) : (b.journalWrite e l).tb = b.tb := by
  simp only [Block.journalWrite]; (repeat' split) <;> simp [apply_ite Block.tb]
@[simp] theorem Block.journalWrite_phys (b : Block) (e : JEntry) (l : List Nat) : (b.journalWrite e l).phys = b.phys := by
  simp only [Block.journalWrite]; (repeat' split) <;> simp [apply_ite Block.phys]
@[simp] theorem Block.journalWrite_gov (b : Block) (e : JEntry) (l : List Nat) : (b.journalWrite e l).gov = b.gov := by
  simp only [Block.journalWrite]; (repeat' split) <;> simp [apply_ite Block.gov]
@[simp] theorem Block.journalWrite_lanes (b : Block) (e : JEntry) (l : List Nat) : (b.journalWrite e l).lanes = b.lanes := by
  simp only [Block.journalWrite]; (repeat' split) <;> simp [apply_ite Block.lanes]
@[simp] theorem Block.journalWrite_win (b : Block) (e : JEntry) (l : List Nat) : (b.journalWrite e l).win = b.win := by
  simp only [Block.journalWrite]; (repeat' split) <;> simp [apply_ite Block.win]
@[simp] theorem Block.journalWrite_cap (b : Block) (e : JEntry) (l : List Nat) : (b.journalWrite e l).cap = b.cap := by
  simp only [Block.journalWrite]; (repeat' split) <;> simp [apply_ite Block.cap]
@[simp] theorem Block.journalWrite_keeper (b : Block) (e : JEntry) (l : List Nat) : (b.journalWrite e l).keeper = b.keeper := by
  simp only [Block.journalWrite]; (repeat' split) <;> simp [apply_ite Block.keeper]
@[simp] theorem Block.journalWrite_aux (b : Block) (e : JEntry) (l : List Nat) : (b.journalWrite e l).aux = b.aux := by
  simp only [Block.journalWrite]; (repeat' split) <;> simp [apply_ite Block.aux]
@[simp] theorem Block.journalWrite_imp (b : Block) (e : JEntry) (l : List Nat) : (b.journalWrite e l).imp = b.imp := by
  simp only [Block.journalWrite]; (repeat' split) <;> simp [apply_ite Block.imp]
@[simp] theorem Block.journalWrite_link (b : Block) (e : JEntry) (l : List Nat) : (b.journalWrite e l).link = b.link := by
  simp only [Block.journalWrite]; (repeat' split) <;> simp [apply_ite Block.link]
@[simp] theorem Block.journalWrite_access (b : Block) (e : JEntry) (l : List Nat) : (b.journalWrite e l).access = b.access := by
  simp only [Block.journalWrite]; (repeat' split) <;> simp [apply_ite Block.access]
@[simp] theorem Block.journalWrite_host (b : Block) (e : JEntry) (l : List Nat) : (b.journalWrite e l).host = b.host := by
  simp only [Block.journalWrite]; (repeat' split) <;> simp [apply_ite Block.host]
@[simp] theorem Block.journalWrite_diag (b : Block) (e : JEntry) (l : List Nat) : (b.journalWrite e l).diag = b.diag := by
  simp only [Block.journalWrite]; (repeat' split) <;> simp [apply_ite Block.diag]
@[simp] theorem Block.journalWrite_thermal (b : Block) (e : JEntry) (l : List Nat) : (b.journalWrite e l).thermal = b.thermal := by
  simp only [Block.journalWrite]; (repeat' split) <;> simp [apply_ite Block.thermal]
@[simp] theorem Block.journalWrite_chainSet (b : Block) (e : JEntry) (l : List Nat) : (b.journalWrite e l).chainSet = b.chainSet := by
  simp only [Block.journalWrite]; (repeat' split) <;> simp [apply_ite Block.chainSet]
@[simp] theorem Block.journalWrite_socTable (b : Block) (e : JEntry) (l : List Nat) : (b.journalWrite e l).socTable = b.socTable := by
  simp only [Block.journalWrite]; (repeat' split) <;> simp [apply_ite Block.socTable]
@[simp] theorem Block.journalWrite_tempCurve (b : Block) (e : JEntry) (l : List Nat) : (b.journalWrite e l).tempCurve = b.tempCurve := by
  simp only [Block.journalWrite]; (repeat' split) <;> simp [apply_ite Block.tempCurve]
@[simp] theorem Block.journalWrite_out (b : Block) (e : JEntry) (l : List Nat) : (b.journalWrite e l).out = b.out := by
  simp only [Block.journalWrite]; (repeat' split) <;> simp [apply_ite Block.out]
@[simp] theorem Block.journalWrite_free (b : Block) (e : JEntry) (l : List Nat) : (b.journalWrite e l).free = b.free := by
  simp only [Block.journalWrite]; (repeat' split) <;> simp [apply_ite Block.free]
@[simp] theorem Block.event_fuses (b : Block) (c d : Nat) : (b.event c d).fuses = b.fuses := by
  simp only [Block.event]; (repeat' split) <;> simp
@[simp] theorem Block.event_power (b : Block) (c d : Nat) : (b.event c d).power = b.power := by
  simp only [Block.event]; (repeat' split) <;> simp
@[simp] theorem Block.event_bedrock (b : Block) (c d : Nat) : (b.event c d).bedrock = b.bedrock := by
  simp only [Block.event]; (repeat' split) <;> simp
@[simp] theorem Block.event_flint (b : Block) (c d : Nat) : (b.event c d).flint = b.flint := by
  simp only [Block.event]; (repeat' split) <;> simp
@[simp] theorem Block.event_nvm (b : Block) (c d : Nat) : (b.event c d).nvm = b.nvm := by
  simp only [Block.event]; (repeat' split) <;> simp
@[simp] theorem Block.event_tb (b : Block) (c d : Nat) : (b.event c d).tb = b.tb := by
  simp only [Block.event]; (repeat' split) <;> simp
@[simp] theorem Block.event_phys (b : Block) (c d : Nat) : (b.event c d).phys = b.phys := by
  simp only [Block.event]; (repeat' split) <;> simp
@[simp] theorem Block.event_gov (b : Block) (c d : Nat) : (b.event c d).gov = b.gov := by
  simp only [Block.event]; (repeat' split) <;> simp
@[simp] theorem Block.event_lanes (b : Block) (c d : Nat) : (b.event c d).lanes = b.lanes := by
  simp only [Block.event]; (repeat' split) <;> simp
@[simp] theorem Block.event_win (b : Block) (c d : Nat) : (b.event c d).win = b.win := by
  simp only [Block.event]; (repeat' split) <;> simp
@[simp] theorem Block.event_cap (b : Block) (c d : Nat) : (b.event c d).cap = b.cap := by
  simp only [Block.event]; (repeat' split) <;> simp
@[simp] theorem Block.event_keeper (b : Block) (c d : Nat) : (b.event c d).keeper = b.keeper := by
  simp only [Block.event]; (repeat' split) <;> simp
@[simp] theorem Block.event_aux (b : Block) (c d : Nat) : (b.event c d).aux = b.aux := by
  simp only [Block.event]; (repeat' split) <;> simp
@[simp] theorem Block.event_imp (b : Block) (c d : Nat) : (b.event c d).imp = b.imp := by
  simp only [Block.event]; (repeat' split) <;> simp
@[simp] theorem Block.event_link (b : Block) (c d : Nat) : (b.event c d).link = b.link := by
  simp only [Block.event]; (repeat' split) <;> simp
@[simp] theorem Block.event_access (b : Block) (c d : Nat) : (b.event c d).access = b.access := by
  simp only [Block.event]; (repeat' split) <;> simp
@[simp] theorem Block.event_host (b : Block) (c d : Nat) : (b.event c d).host = b.host := by
  simp only [Block.event]; (repeat' split) <;> simp
@[simp] theorem Block.event_diag (b : Block) (c d : Nat) : (b.event c d).diag = b.diag := by
  simp only [Block.event]; (repeat' split) <;> simp
@[simp] theorem Block.event_thermal (b : Block) (c d : Nat) : (b.event c d).thermal = b.thermal := by
  simp only [Block.event]; (repeat' split) <;> simp
@[simp] theorem Block.event_chainSet (b : Block) (c d : Nat) : (b.event c d).chainSet = b.chainSet := by
  simp only [Block.event]; (repeat' split) <;> simp
@[simp] theorem Block.event_socTable (b : Block) (c d : Nat) : (b.event c d).socTable = b.socTable := by
  simp only [Block.event]; (repeat' split) <;> simp
@[simp] theorem Block.event_tempCurve (b : Block) (c d : Nat) : (b.event c d).tempCurve = b.tempCurve := by
  simp only [Block.event]; (repeat' split) <;> simp
@[simp] theorem Block.event_out (b : Block) (c d : Nat) : (b.event c d).out = b.out := by
  simp only [Block.event]; (repeat' split) <;> simp
@[simp] theorem Block.event_free (b : Block) (c d : Nat) : (b.event c d).free = b.free := by
  simp only [Block.event]; (repeat' split) <;> simp
@[simp] theorem Block.editCh_fuses (b : Block) (i : Nat) (f : GovCh → GovCh) : (b.editCh i f).fuses = b.fuses := rfl
@[simp] theorem Block.editCh_power (b : Block) (i : Nat) (f : GovCh → GovCh) : (b.editCh i f).power = b.power := rfl
@[simp] theorem Block.editCh_bedrock (b : Block) (i : Nat) (f : GovCh → GovCh) : (b.editCh i f).bedrock = b.bedrock := rfl
@[simp] theorem Block.editCh_journal (b : Block) (i : Nat) (f : GovCh → GovCh) : (b.editCh i f).journal = b.journal := rfl
@[simp] theorem Block.editCh_flint (b : Block) (i : Nat) (f : GovCh → GovCh) : (b.editCh i f).flint = b.flint := rfl
@[simp] theorem Block.editCh_nvm (b : Block) (i : Nat) (f : GovCh → GovCh) : (b.editCh i f).nvm = b.nvm := rfl
@[simp] theorem Block.editCh_tb (b : Block) (i : Nat) (f : GovCh → GovCh) : (b.editCh i f).tb = b.tb := rfl
@[simp] theorem Block.editCh_phys (b : Block) (i : Nat) (f : GovCh → GovCh) : (b.editCh i f).phys = b.phys := rfl
@[simp] theorem Block.editCh_lanes (b : Block) (i : Nat) (f : GovCh → GovCh) : (b.editCh i f).lanes = b.lanes := rfl
@[simp] theorem Block.editCh_win (b : Block) (i : Nat) (f : GovCh → GovCh) : (b.editCh i f).win = b.win := rfl
@[simp] theorem Block.editCh_cap (b : Block) (i : Nat) (f : GovCh → GovCh) : (b.editCh i f).cap = b.cap := rfl
@[simp] theorem Block.editCh_keeper (b : Block) (i : Nat) (f : GovCh → GovCh) : (b.editCh i f).keeper = b.keeper := rfl
@[simp] theorem Block.editCh_aux (b : Block) (i : Nat) (f : GovCh → GovCh) : (b.editCh i f).aux = b.aux := rfl
@[simp] theorem Block.editCh_imp (b : Block) (i : Nat) (f : GovCh → GovCh) : (b.editCh i f).imp = b.imp := rfl
@[simp] theorem Block.editCh_link (b : Block) (i : Nat) (f : GovCh → GovCh) : (b.editCh i f).link = b.link := rfl
@[simp] theorem Block.editCh_access (b : Block) (i : Nat) (f : GovCh → GovCh) : (b.editCh i f).access = b.access := rfl
@[simp] theorem Block.editCh_host (b : Block) (i : Nat) (f : GovCh → GovCh) : (b.editCh i f).host = b.host := rfl
@[simp] theorem Block.editCh_diag (b : Block) (i : Nat) (f : GovCh → GovCh) : (b.editCh i f).diag = b.diag := rfl
@[simp] theorem Block.editCh_thermal (b : Block) (i : Nat) (f : GovCh → GovCh) : (b.editCh i f).thermal = b.thermal := rfl
@[simp] theorem Block.editCh_chainSet (b : Block) (i : Nat) (f : GovCh → GovCh) : (b.editCh i f).chainSet = b.chainSet := rfl
@[simp] theorem Block.editCh_socTable (b : Block) (i : Nat) (f : GovCh → GovCh) : (b.editCh i f).socTable = b.socTable := rfl
@[simp] theorem Block.editCh_tempCurve (b : Block) (i : Nat) (f : GovCh → GovCh) : (b.editCh i f).tempCurve = b.tempCurve := rfl
@[simp] theorem Block.editCh_dict (b : Block) (i : Nat) (f : GovCh → GovCh) : (b.editCh i f).dict = b.dict := rfl
@[simp] theorem Block.editCh_out (b : Block) (i : Nat) (f : GovCh → GovCh) : (b.editCh i f).out = b.out := rfl
@[simp] theorem Block.editCh_free (b : Block) (i : Nat) (f : GovCh → GovCh) : (b.editCh i f).free = b.free := rfl
@[simp] theorem Block.switchesOff_fuses (b : Block)  : (b.switchesOff).fuses = b.fuses := rfl
@[simp] theorem Block.switchesOff_power (b : Block)  : (b.switchesOff).power = b.power := rfl
@[simp] theorem Block.switchesOff_bedrock (b : Block)  : (b.switchesOff).bedrock = b.bedrock := rfl
@[simp] theorem Block.switchesOff_journal (b : Block)  : (b.switchesOff).journal = b.journal := rfl
@[simp] theorem Block.switchesOff_flint (b : Block)  : (b.switchesOff).flint = b.flint := rfl
@[simp] theorem Block.switchesOff_nvm (b : Block)  : (b.switchesOff).nvm = b.nvm := rfl
@[simp] theorem Block.switchesOff_tb (b : Block)  : (b.switchesOff).tb = b.tb := rfl
@[simp] theorem Block.switchesOff_phys (b : Block)  : (b.switchesOff).phys = b.phys := rfl
@[simp] theorem Block.switchesOff_lanes (b : Block)  : (b.switchesOff).lanes = b.lanes := rfl
@[simp] theorem Block.switchesOff_win (b : Block)  : (b.switchesOff).win = b.win := rfl
@[simp] theorem Block.switchesOff_cap (b : Block)  : (b.switchesOff).cap = b.cap := rfl
@[simp] theorem Block.switchesOff_keeper (b : Block)  : (b.switchesOff).keeper = b.keeper := rfl
@[simp] theorem Block.switchesOff_aux (b : Block)  : (b.switchesOff).aux = b.aux := rfl
@[simp] theorem Block.switchesOff_imp (b : Block)  : (b.switchesOff).imp = b.imp := rfl
@[simp] theorem Block.switchesOff_link (b : Block)  : (b.switchesOff).link = b.link := rfl
@[simp] theorem Block.switchesOff_access (b : Block)  : (b.switchesOff).access = b.access := rfl
@[simp] theorem Block.switchesOff_host (b : Block)  : (b.switchesOff).host = b.host := rfl
@[simp] theorem Block.switchesOff_diag (b : Block)  : (b.switchesOff).diag = b.diag := rfl
@[simp] theorem Block.switchesOff_thermal (b : Block)  : (b.switchesOff).thermal = b.thermal := rfl
@[simp] theorem Block.switchesOff_chainSet (b : Block)  : (b.switchesOff).chainSet = b.chainSet := rfl
@[simp] theorem Block.switchesOff_socTable (b : Block)  : (b.switchesOff).socTable = b.socTable := rfl
@[simp] theorem Block.switchesOff_tempCurve (b : Block)  : (b.switchesOff).tempCurve = b.tempCurve := rfl
@[simp] theorem Block.switchesOff_dict (b : Block)  : (b.switchesOff).dict = b.dict := rfl
@[simp] theorem Block.switchesOff_out (b : Block)  : (b.switchesOff).out = b.out := rfl
@[simp] theorem Block.switchesOff_free (b : Block)  : (b.switchesOff).free = b.free := rfl
@[simp] theorem Block.turnOn_fuses (b : Block) (i : Nat) (o : Owner) : (b.turnOn i o).fuses = b.fuses := rfl
@[simp] theorem Block.turnOn_power (b : Block) (i : Nat) (o : Owner) : (b.turnOn i o).power = b.power := rfl
@[simp] theorem Block.turnOn_bedrock (b : Block) (i : Nat) (o : Owner) : (b.turnOn i o).bedrock = b.bedrock := rfl
@[simp] theorem Block.turnOn_journal (b : Block) (i : Nat) (o : Owner) : (b.turnOn i o).journal = b.journal := rfl
@[simp] theorem Block.turnOn_flint (b : Block) (i : Nat) (o : Owner) : (b.turnOn i o).flint = b.flint := rfl
@[simp] theorem Block.turnOn_nvm (b : Block) (i : Nat) (o : Owner) : (b.turnOn i o).nvm = b.nvm := rfl
@[simp] theorem Block.turnOn_tb (b : Block) (i : Nat) (o : Owner) : (b.turnOn i o).tb = b.tb := rfl
@[simp] theorem Block.turnOn_phys (b : Block) (i : Nat) (o : Owner) : (b.turnOn i o).phys = b.phys := rfl
@[simp] theorem Block.turnOn_lanes (b : Block) (i : Nat) (o : Owner) : (b.turnOn i o).lanes = b.lanes := rfl
@[simp] theorem Block.turnOn_win (b : Block) (i : Nat) (o : Owner) : (b.turnOn i o).win = b.win := rfl
@[simp] theorem Block.turnOn_cap (b : Block) (i : Nat) (o : Owner) : (b.turnOn i o).cap = b.cap := rfl
@[simp] theorem Block.turnOn_keeper (b : Block) (i : Nat) (o : Owner) : (b.turnOn i o).keeper = b.keeper := rfl
@[simp] theorem Block.turnOn_aux (b : Block) (i : Nat) (o : Owner) : (b.turnOn i o).aux = b.aux := rfl
@[simp] theorem Block.turnOn_imp (b : Block) (i : Nat) (o : Owner) : (b.turnOn i o).imp = b.imp := rfl
@[simp] theorem Block.turnOn_link (b : Block) (i : Nat) (o : Owner) : (b.turnOn i o).link = b.link := rfl
@[simp] theorem Block.turnOn_access (b : Block) (i : Nat) (o : Owner) : (b.turnOn i o).access = b.access := rfl
@[simp] theorem Block.turnOn_host (b : Block) (i : Nat) (o : Owner) : (b.turnOn i o).host = b.host := rfl
@[simp] theorem Block.turnOn_diag (b : Block) (i : Nat) (o : Owner) : (b.turnOn i o).diag = b.diag := rfl
@[simp] theorem Block.turnOn_thermal (b : Block) (i : Nat) (o : Owner) : (b.turnOn i o).thermal = b.thermal := rfl
@[simp] theorem Block.turnOn_chainSet (b : Block) (i : Nat) (o : Owner) : (b.turnOn i o).chainSet = b.chainSet := rfl
@[simp] theorem Block.turnOn_socTable (b : Block) (i : Nat) (o : Owner) : (b.turnOn i o).socTable = b.socTable := rfl
@[simp] theorem Block.turnOn_tempCurve (b : Block) (i : Nat) (o : Owner) : (b.turnOn i o).tempCurve = b.tempCurve := rfl
@[simp] theorem Block.turnOn_dict (b : Block) (i : Nat) (o : Owner) : (b.turnOn i o).dict = b.dict := rfl
@[simp] theorem Block.turnOn_out (b : Block) (i : Nat) (o : Owner) : (b.turnOn i o).out = b.out := rfl
@[simp] theorem Block.turnOn_free (b : Block) (i : Nat) (o : Owner) : (b.turnOn i o).free = b.free := rfl
@[simp] theorem Block.noteSat_fuses (b : Block) (k : Nat) (h : Bool) : (b.noteSat k h).fuses = b.fuses := by
  simp only [Block.noteSat]; (repeat' split) <;> simp
@[simp] theorem Block.noteSat_power (b : Block) (k : Nat) (h : Bool) : (b.noteSat k h).power = b.power := by
  simp only [Block.noteSat]; (repeat' split) <;> simp
@[simp] theorem Block.noteSat_bedrock (b : Block) (k : Nat) (h : Bool) : (b.noteSat k h).bedrock = b.bedrock := by
  simp only [Block.noteSat]; (repeat' split) <;> simp
@[simp] theorem Block.noteSat_journal (b : Block) (k : Nat) (h : Bool) : (b.noteSat k h).journal = b.journal := by
  simp only [Block.noteSat]; (repeat' split) <;> simp
@[simp] theorem Block.noteSat_flint (b : Block) (k : Nat) (h : Bool) : (b.noteSat k h).flint = b.flint := by
  simp only [Block.noteSat]; (repeat' split) <;> simp
@[simp] theorem Block.noteSat_nvm (b : Block) (k : Nat) (h : Bool) : (b.noteSat k h).nvm = b.nvm := by
  simp only [Block.noteSat]; (repeat' split) <;> simp
@[simp] theorem Block.noteSat_tb (b : Block) (k : Nat) (h : Bool) : (b.noteSat k h).tb = b.tb := by
  simp only [Block.noteSat]; (repeat' split) <;> simp
@[simp] theorem Block.noteSat_phys (b : Block) (k : Nat) (h : Bool) : (b.noteSat k h).phys = b.phys := by
  simp only [Block.noteSat]; (repeat' split) <;> simp
@[simp] theorem Block.noteSat_gov (b : Block) (k : Nat) (h : Bool) : (b.noteSat k h).gov = b.gov := by
  simp only [Block.noteSat]; (repeat' split) <;> simp
@[simp] theorem Block.noteSat_lanes (b : Block) (k : Nat) (h : Bool) : (b.noteSat k h).lanes = b.lanes := by
  simp only [Block.noteSat]; (repeat' split) <;> simp
@[simp] theorem Block.noteSat_win (b : Block) (k : Nat) (h : Bool) : (b.noteSat k h).win = b.win := by
  simp only [Block.noteSat]; (repeat' split) <;> simp
@[simp] theorem Block.noteSat_cap (b : Block) (k : Nat) (h : Bool) : (b.noteSat k h).cap = b.cap := by
  simp only [Block.noteSat]; (repeat' split) <;> simp
@[simp] theorem Block.noteSat_keeper (b : Block) (k : Nat) (h : Bool) : (b.noteSat k h).keeper = b.keeper := by
  simp only [Block.noteSat]; (repeat' split) <;> simp
@[simp] theorem Block.noteSat_aux (b : Block) (k : Nat) (h : Bool) : (b.noteSat k h).aux = b.aux := by
  simp only [Block.noteSat]; (repeat' split) <;> simp
@[simp] theorem Block.noteSat_imp (b : Block) (k : Nat) (h : Bool) : (b.noteSat k h).imp = b.imp := by
  simp only [Block.noteSat]; (repeat' split) <;> simp
@[simp] theorem Block.noteSat_link (b : Block) (k : Nat) (h : Bool) : (b.noteSat k h).link = b.link := by
  simp only [Block.noteSat]; (repeat' split) <;> simp
@[simp] theorem Block.noteSat_access (b : Block) (k : Nat) (h : Bool) : (b.noteSat k h).access = b.access := by
  simp only [Block.noteSat]; (repeat' split) <;> simp
@[simp] theorem Block.noteSat_host (b : Block) (k : Nat) (h : Bool) : (b.noteSat k h).host = b.host := by
  simp only [Block.noteSat]; (repeat' split) <;> simp
@[simp] theorem Block.noteSat_thermal (b : Block) (k : Nat) (h : Bool) : (b.noteSat k h).thermal = b.thermal := by
  simp only [Block.noteSat]; (repeat' split) <;> simp
@[simp] theorem Block.noteSat_chainSet (b : Block) (k : Nat) (h : Bool) : (b.noteSat k h).chainSet = b.chainSet := by
  simp only [Block.noteSat]; (repeat' split) <;> simp
@[simp] theorem Block.noteSat_socTable (b : Block) (k : Nat) (h : Bool) : (b.noteSat k h).socTable = b.socTable := by
  simp only [Block.noteSat]; (repeat' split) <;> simp
@[simp] theorem Block.noteSat_tempCurve (b : Block) (k : Nat) (h : Bool) : (b.noteSat k h).tempCurve = b.tempCurve := by
  simp only [Block.noteSat]; (repeat' split) <;> simp
@[simp] theorem Block.noteSat_dict (b : Block) (k : Nat) (h : Bool) : (b.noteSat k h).dict = b.dict := by
  simp only [Block.noteSat]; (repeat' split) <;> simp
@[simp] theorem Block.noteSat_out (b : Block) (k : Nat) (h : Bool) : (b.noteSat k h).out = b.out := by
  simp only [Block.noteSat]; (repeat' split) <;> simp
@[simp] theorem Block.noteSat_free (b : Block) (k : Nat) (h : Bool) : (b.noteSat k h).free = b.free := by
  simp only [Block.noteSat]; (repeat' split) <;> simp
@[simp] theorem Block.setSending_fuses (b : Block) (p : Port) (f : Option (List Byte)) : (b.setSending p f).fuses = b.fuses := by cases p <;> rfl
@[simp] theorem Block.setSending_power (b : Block) (p : Port) (f : Option (List Byte)) : (b.setSending p f).power = b.power := by cases p <;> rfl
@[simp] theorem Block.setSending_bedrock (b : Block) (p : Port) (f : Option (List Byte)) : (b.setSending p f).bedrock = b.bedrock := by cases p <;> rfl
@[simp] theorem Block.setSending_journal (b : Block) (p : Port) (f : Option (List Byte)) : (b.setSending p f).journal = b.journal := by cases p <;> rfl
@[simp] theorem Block.setSending_flint (b : Block) (p : Port) (f : Option (List Byte)) : (b.setSending p f).flint = b.flint := by cases p <;> rfl
@[simp] theorem Block.setSending_nvm (b : Block) (p : Port) (f : Option (List Byte)) : (b.setSending p f).nvm = b.nvm := by cases p <;> rfl
@[simp] theorem Block.setSending_tb (b : Block) (p : Port) (f : Option (List Byte)) : (b.setSending p f).tb = b.tb := by cases p <;> rfl
@[simp] theorem Block.setSending_gov (b : Block) (p : Port) (f : Option (List Byte)) : (b.setSending p f).gov = b.gov := by cases p <;> rfl
@[simp] theorem Block.setSending_lanes (b : Block) (p : Port) (f : Option (List Byte)) : (b.setSending p f).lanes = b.lanes := by cases p <;> rfl
@[simp] theorem Block.setSending_win (b : Block) (p : Port) (f : Option (List Byte)) : (b.setSending p f).win = b.win := by cases p <;> rfl
@[simp] theorem Block.setSending_cap (b : Block) (p : Port) (f : Option (List Byte)) : (b.setSending p f).cap = b.cap := by cases p <;> rfl
@[simp] theorem Block.setSending_keeper (b : Block) (p : Port) (f : Option (List Byte)) : (b.setSending p f).keeper = b.keeper := by cases p <;> rfl
@[simp] theorem Block.setSending_aux (b : Block) (p : Port) (f : Option (List Byte)) : (b.setSending p f).aux = b.aux := by cases p <;> rfl
@[simp] theorem Block.setSending_imp (b : Block) (p : Port) (f : Option (List Byte)) : (b.setSending p f).imp = b.imp := by cases p <;> rfl
@[simp] theorem Block.setSending_link (b : Block) (p : Port) (f : Option (List Byte)) : (b.setSending p f).link = b.link := by cases p <;> rfl
@[simp] theorem Block.setSending_access (b : Block) (p : Port) (f : Option (List Byte)) : (b.setSending p f).access = b.access := by cases p <;> rfl
@[simp] theorem Block.setSending_host (b : Block) (p : Port) (f : Option (List Byte)) : (b.setSending p f).host = b.host := by cases p <;> rfl
@[simp] theorem Block.setSending_diag (b : Block) (p : Port) (f : Option (List Byte)) : (b.setSending p f).diag = b.diag := by cases p <;> rfl
@[simp] theorem Block.setSending_thermal (b : Block) (p : Port) (f : Option (List Byte)) : (b.setSending p f).thermal = b.thermal := by cases p <;> rfl
@[simp] theorem Block.setSending_chainSet (b : Block) (p : Port) (f : Option (List Byte)) : (b.setSending p f).chainSet = b.chainSet := by cases p <;> rfl
@[simp] theorem Block.setSending_socTable (b : Block) (p : Port) (f : Option (List Byte)) : (b.setSending p f).socTable = b.socTable := by cases p <;> rfl
@[simp] theorem Block.setSending_tempCurve (b : Block) (p : Port) (f : Option (List Byte)) : (b.setSending p f).tempCurve = b.tempCurve := by cases p <;> rfl
@[simp] theorem Block.setSending_dict (b : Block) (p : Port) (f : Option (List Byte)) : (b.setSending p f).dict = b.dict := by cases p <;> rfl
@[simp] theorem Block.setSending_out (b : Block) (p : Port) (f : Option (List Byte)) : (b.setSending p f).out = b.out := by cases p <;> rfl
@[simp] theorem Block.setSending_free (b : Block) (p : Port) (f : Option (List Byte)) : (b.setSending p f).free = b.free := by cases p <;> rfl
@[simp] theorem Block.sendHeld_fuses (b : Block) (p : Port) (e : Emission) : (b.sendHeld p e).fuses = b.fuses := by cases p <;> rfl
@[simp] theorem Block.sendHeld_power (b : Block) (p : Port) (e : Emission) : (b.sendHeld p e).power = b.power := by cases p <;> rfl
@[simp] theorem Block.sendHeld_bedrock (b : Block) (p : Port) (e : Emission) : (b.sendHeld p e).bedrock = b.bedrock := by cases p <;> rfl
@[simp] theorem Block.sendHeld_journal (b : Block) (p : Port) (e : Emission) : (b.sendHeld p e).journal = b.journal := by cases p <;> rfl
@[simp] theorem Block.sendHeld_flint (b : Block) (p : Port) (e : Emission) : (b.sendHeld p e).flint = b.flint := by cases p <;> rfl
@[simp] theorem Block.sendHeld_nvm (b : Block) (p : Port) (e : Emission) : (b.sendHeld p e).nvm = b.nvm := by cases p <;> rfl
@[simp] theorem Block.sendHeld_tb (b : Block) (p : Port) (e : Emission) : (b.sendHeld p e).tb = b.tb := by cases p <;> rfl
@[simp] theorem Block.sendHeld_gov (b : Block) (p : Port) (e : Emission) : (b.sendHeld p e).gov = b.gov := by cases p <;> rfl
@[simp] theorem Block.sendHeld_lanes (b : Block) (p : Port) (e : Emission) : (b.sendHeld p e).lanes = b.lanes := by cases p <;> rfl
@[simp] theorem Block.sendHeld_win (b : Block) (p : Port) (e : Emission) : (b.sendHeld p e).win = b.win := by cases p <;> rfl
@[simp] theorem Block.sendHeld_cap (b : Block) (p : Port) (e : Emission) : (b.sendHeld p e).cap = b.cap := by cases p <;> rfl
@[simp] theorem Block.sendHeld_keeper (b : Block) (p : Port) (e : Emission) : (b.sendHeld p e).keeper = b.keeper := by cases p <;> rfl
@[simp] theorem Block.sendHeld_aux (b : Block) (p : Port) (e : Emission) : (b.sendHeld p e).aux = b.aux := by cases p <;> rfl
@[simp] theorem Block.sendHeld_imp (b : Block) (p : Port) (e : Emission) : (b.sendHeld p e).imp = b.imp := by cases p <;> rfl
@[simp] theorem Block.sendHeld_link (b : Block) (p : Port) (e : Emission) : (b.sendHeld p e).link = b.link := by cases p <;> rfl
@[simp] theorem Block.sendHeld_access (b : Block) (p : Port) (e : Emission) : (b.sendHeld p e).access = b.access := by cases p <;> rfl
@[simp] theorem Block.sendHeld_host (b : Block) (p : Port) (e : Emission) : (b.sendHeld p e).host = b.host := by cases p <;> rfl
@[simp] theorem Block.sendHeld_diag (b : Block) (p : Port) (e : Emission) : (b.sendHeld p e).diag = b.diag := by cases p <;> rfl
@[simp] theorem Block.sendHeld_thermal (b : Block) (p : Port) (e : Emission) : (b.sendHeld p e).thermal = b.thermal := by cases p <;> rfl
@[simp] theorem Block.sendHeld_chainSet (b : Block) (p : Port) (e : Emission) : (b.sendHeld p e).chainSet = b.chainSet := by cases p <;> rfl
@[simp] theorem Block.sendHeld_socTable (b : Block) (p : Port) (e : Emission) : (b.sendHeld p e).socTable = b.socTable := by cases p <;> rfl
@[simp] theorem Block.sendHeld_tempCurve (b : Block) (p : Port) (e : Emission) : (b.sendHeld p e).tempCurve = b.tempCurve := by cases p <;> rfl
@[simp] theorem Block.sendHeld_dict (b : Block) (p : Port) (e : Emission) : (b.sendHeld p e).dict = b.dict := by cases p <;> rfl
@[simp] theorem Block.sendHeld_free (b : Block) (p : Port) (e : Emission) : (b.sendHeld p e).free = b.free := by cases p <;> rfl
@[simp] theorem Block.sendPulse_fuses (b : Block) (p : Port) (c : PulseClass) : (b.sendPulse p c).fuses = b.fuses := Block.sendHeld_fuses b p _
@[simp] theorem Block.sendPulse_power (b : Block) (p : Port) (c : PulseClass) : (b.sendPulse p c).power = b.power := Block.sendHeld_power b p _
@[simp] theorem Block.sendPulse_bedrock (b : Block) (p : Port) (c : PulseClass) : (b.sendPulse p c).bedrock = b.bedrock := Block.sendHeld_bedrock b p _
@[simp] theorem Block.sendPulse_journal (b : Block) (p : Port) (c : PulseClass) : (b.sendPulse p c).journal = b.journal := Block.sendHeld_journal b p _
@[simp] theorem Block.sendPulse_flint (b : Block) (p : Port) (c : PulseClass) : (b.sendPulse p c).flint = b.flint := Block.sendHeld_flint b p _
@[simp] theorem Block.sendPulse_nvm (b : Block) (p : Port) (c : PulseClass) : (b.sendPulse p c).nvm = b.nvm := Block.sendHeld_nvm b p _
@[simp] theorem Block.sendPulse_tb (b : Block) (p : Port) (c : PulseClass) : (b.sendPulse p c).tb = b.tb := Block.sendHeld_tb b p _
@[simp] theorem Block.sendPulse_gov (b : Block) (p : Port) (c : PulseClass) : (b.sendPulse p c).gov = b.gov := Block.sendHeld_gov b p _
@[simp] theorem Block.sendPulse_lanes (b : Block) (p : Port) (c : PulseClass) : (b.sendPulse p c).lanes = b.lanes := Block.sendHeld_lanes b p _
@[simp] theorem Block.sendPulse_win (b : Block) (p : Port) (c : PulseClass) : (b.sendPulse p c).win = b.win := Block.sendHeld_win b p _
@[simp] theorem Block.sendPulse_cap (b : Block) (p : Port) (c : PulseClass) : (b.sendPulse p c).cap = b.cap := Block.sendHeld_cap b p _
@[simp] theorem Block.sendPulse_keeper (b : Block) (p : Port) (c : PulseClass) : (b.sendPulse p c).keeper = b.keeper := Block.sendHeld_keeper b p _
@[simp] theorem Block.sendPulse_aux (b : Block) (p : Port) (c : PulseClass) : (b.sendPulse p c).aux = b.aux := Block.sendHeld_aux b p _
@[simp] theorem Block.sendPulse_imp (b : Block) (p : Port) (c : PulseClass) : (b.sendPulse p c).imp = b.imp := Block.sendHeld_imp b p _
@[simp] theorem Block.sendPulse_link (b : Block) (p : Port) (c : PulseClass) : (b.sendPulse p c).link = b.link := Block.sendHeld_link b p _
@[simp] theorem Block.sendPulse_access (b : Block) (p : Port) (c : PulseClass) : (b.sendPulse p c).access = b.access := Block.sendHeld_access b p _
@[simp] theorem Block.sendPulse_host (b : Block) (p : Port) (c : PulseClass) : (b.sendPulse p c).host = b.host := Block.sendHeld_host b p _
@[simp] theorem Block.sendPulse_diag (b : Block) (p : Port) (c : PulseClass) : (b.sendPulse p c).diag = b.diag := Block.sendHeld_diag b p _
@[simp] theorem Block.sendPulse_thermal (b : Block) (p : Port) (c : PulseClass) : (b.sendPulse p c).thermal = b.thermal := Block.sendHeld_thermal b p _
@[simp] theorem Block.sendPulse_chainSet (b : Block) (p : Port) (c : PulseClass) : (b.sendPulse p c).chainSet = b.chainSet := Block.sendHeld_chainSet b p _
@[simp] theorem Block.sendPulse_socTable (b : Block) (p : Port) (c : PulseClass) : (b.sendPulse p c).socTable = b.socTable := Block.sendHeld_socTable b p _
@[simp] theorem Block.sendPulse_tempCurve (b : Block) (p : Port) (c : PulseClass) : (b.sendPulse p c).tempCurve = b.tempCurve := Block.sendHeld_tempCurve b p _
@[simp] theorem Block.sendPulse_dict (b : Block) (p : Port) (c : PulseClass) : (b.sendPulse p c).dict = b.dict := Block.sendHeld_dict b p _
@[simp] theorem Block.sendPulse_free (b : Block) (p : Port) (c : PulseClass) : (b.sendPulse p c).free = b.free := Block.sendHeld_free b p _
@[simp] theorem Block.sendAlarm_fuses (b : Block)  : (b.sendAlarm).fuses = b.fuses := by
  simp only [Block.sendAlarm]; (repeat' split) <;> simp
@[simp] theorem Block.sendAlarm_power (b : Block)  : (b.sendAlarm).power = b.power := by
  simp only [Block.sendAlarm]; (repeat' split) <;> simp
@[simp] theorem Block.sendAlarm_bedrock (b : Block)  : (b.sendAlarm).bedrock = b.bedrock := by
  simp only [Block.sendAlarm]; (repeat' split) <;> simp
@[simp] theorem Block.sendAlarm_journal (b : Block)  : (b.sendAlarm).journal = b.journal := by
  simp only [Block.sendAlarm]; (repeat' split) <;> simp
@[simp] theorem Block.sendAlarm_flint (b : Block)  : (b.sendAlarm).flint = b.flint := by
  simp only [Block.sendAlarm]; (repeat' split) <;> simp
@[simp] theorem Block.sendAlarm_nvm (b : Block)  : (b.sendAlarm).nvm = b.nvm := by
  simp only [Block.sendAlarm]; (repeat' split) <;> simp
@[simp] theorem Block.sendAlarm_tb (b : Block)  : (b.sendAlarm).tb = b.tb := by
  simp only [Block.sendAlarm]; (repeat' split) <;> simp
@[simp] theorem Block.sendAlarm_gov (b : Block)  : (b.sendAlarm).gov = b.gov := by
  simp only [Block.sendAlarm]; (repeat' split) <;> simp
@[simp] theorem Block.sendAlarm_lanes (b : Block)  : (b.sendAlarm).lanes = b.lanes := by
  simp only [Block.sendAlarm]; (repeat' split) <;> simp
@[simp] theorem Block.sendAlarm_win (b : Block)  : (b.sendAlarm).win = b.win := by
  simp only [Block.sendAlarm]; (repeat' split) <;> simp
@[simp] theorem Block.sendAlarm_cap (b : Block)  : (b.sendAlarm).cap = b.cap := by
  simp only [Block.sendAlarm]; (repeat' split) <;> simp
@[simp] theorem Block.sendAlarm_keeper (b : Block)  : (b.sendAlarm).keeper = b.keeper := by
  simp only [Block.sendAlarm]; (repeat' split) <;> simp
@[simp] theorem Block.sendAlarm_aux (b : Block)  : (b.sendAlarm).aux = b.aux := by
  simp only [Block.sendAlarm]; (repeat' split) <;> simp
@[simp] theorem Block.sendAlarm_imp (b : Block)  : (b.sendAlarm).imp = b.imp := by
  simp only [Block.sendAlarm]; (repeat' split) <;> simp
@[simp] theorem Block.sendAlarm_link (b : Block)  : (b.sendAlarm).link = b.link := by
  simp only [Block.sendAlarm]; (repeat' split) <;> simp
@[simp] theorem Block.sendAlarm_access (b : Block)  : (b.sendAlarm).access = b.access := by
  simp only [Block.sendAlarm]; (repeat' split) <;> simp
@[simp] theorem Block.sendAlarm_host (b : Block)  : (b.sendAlarm).host = b.host := by
  simp only [Block.sendAlarm]; (repeat' split) <;> simp
@[simp] theorem Block.sendAlarm_diag (b : Block)  : (b.sendAlarm).diag = b.diag := by
  simp only [Block.sendAlarm]; (repeat' split) <;> simp
@[simp] theorem Block.sendAlarm_thermal (b : Block)  : (b.sendAlarm).thermal = b.thermal := by
  simp only [Block.sendAlarm]; (repeat' split) <;> simp
@[simp] theorem Block.sendAlarm_chainSet (b : Block)  : (b.sendAlarm).chainSet = b.chainSet := by
  simp only [Block.sendAlarm]; (repeat' split) <;> simp
@[simp] theorem Block.sendAlarm_socTable (b : Block)  : (b.sendAlarm).socTable = b.socTable := by
  simp only [Block.sendAlarm]; (repeat' split) <;> simp
@[simp] theorem Block.sendAlarm_tempCurve (b : Block)  : (b.sendAlarm).tempCurve = b.tempCurve := by
  simp only [Block.sendAlarm]; (repeat' split) <;> simp
@[simp] theorem Block.sendAlarm_free (b : Block)  : (b.sendAlarm).free = b.free := by
  simp only [Block.sendAlarm]; (repeat' split) <;> simp
@[simp] theorem Block.setFlt_fuses (b : Block) (l : Bool) : (b.setFlt l).fuses = b.fuses := rfl
@[simp] theorem Block.setFlt_power (b : Block) (l : Bool) : (b.setFlt l).power = b.power := rfl
@[simp] theorem Block.setFlt_bedrock (b : Block) (l : Bool) : (b.setFlt l).bedrock = b.bedrock := rfl
@[simp] theorem Block.setFlt_journal (b : Block) (l : Bool) : (b.setFlt l).journal = b.journal := rfl
@[simp] theorem Block.setFlt_nvm (b : Block) (l : Bool) : (b.setFlt l).nvm = b.nvm := rfl
@[simp] theorem Block.setFlt_tb (b : Block) (l : Bool) : (b.setFlt l).tb = b.tb := rfl
@[simp] theorem Block.setFlt_phys (b : Block) (l : Bool) : (b.setFlt l).phys = b.phys := rfl
@[simp] theorem Block.setFlt_gov (b : Block) (l : Bool) : (b.setFlt l).gov = b.gov := rfl
@[simp] theorem Block.setFlt_lanes (b : Block) (l : Bool) : (b.setFlt l).lanes = b.lanes := rfl
@[simp] theorem Block.setFlt_win (b : Block) (l : Bool) : (b.setFlt l).win = b.win := rfl
@[simp] theorem Block.setFlt_cap (b : Block) (l : Bool) : (b.setFlt l).cap = b.cap := rfl
@[simp] theorem Block.setFlt_keeper (b : Block) (l : Bool) : (b.setFlt l).keeper = b.keeper := rfl
@[simp] theorem Block.setFlt_aux (b : Block) (l : Bool) : (b.setFlt l).aux = b.aux := rfl
@[simp] theorem Block.setFlt_imp (b : Block) (l : Bool) : (b.setFlt l).imp = b.imp := rfl
@[simp] theorem Block.setFlt_link (b : Block) (l : Bool) : (b.setFlt l).link = b.link := rfl
@[simp] theorem Block.setFlt_access (b : Block) (l : Bool) : (b.setFlt l).access = b.access := rfl
@[simp] theorem Block.setFlt_host (b : Block) (l : Bool) : (b.setFlt l).host = b.host := rfl
@[simp] theorem Block.setFlt_diag (b : Block) (l : Bool) : (b.setFlt l).diag = b.diag := rfl
@[simp] theorem Block.setFlt_thermal (b : Block) (l : Bool) : (b.setFlt l).thermal = b.thermal := rfl
@[simp] theorem Block.setFlt_chainSet (b : Block) (l : Bool) : (b.setFlt l).chainSet = b.chainSet := rfl
@[simp] theorem Block.setFlt_socTable (b : Block) (l : Bool) : (b.setFlt l).socTable = b.socTable := rfl
@[simp] theorem Block.setFlt_tempCurve (b : Block) (l : Bool) : (b.setFlt l).tempCurve = b.tempCurve := rfl
@[simp] theorem Block.setFlt_dict (b : Block) (l : Bool) : (b.setFlt l).dict = b.dict := rfl
@[simp] theorem Block.setFlt_out (b : Block) (l : Bool) : (b.setFlt l).out = b.out := rfl
@[simp] theorem Block.setFlt_free (b : Block) (l : Bool) : (b.setFlt l).free = b.free := rfl
@[simp] theorem Block.queueAlarm_fuses (b : Block) (k p c s : Nat) : (b.queueAlarm k p c s).fuses = b.fuses := by
  simp only [Block.queueAlarm]; (repeat' split) <;> simp
@[simp] theorem Block.queueAlarm_power (b : Block) (k p c s : Nat) : (b.queueAlarm k p c s).power = b.power := by
  simp only [Block.queueAlarm]; (repeat' split) <;> simp
@[simp] theorem Block.queueAlarm_bedrock (b : Block) (k p c s : Nat) : (b.queueAlarm k p c s).bedrock = b.bedrock := by
  simp only [Block.queueAlarm]; (repeat' split) <;> simp
@[simp] theorem Block.queueAlarm_journal (b : Block) (k p c s : Nat) : (b.queueAlarm k p c s).journal = b.journal := by
  simp only [Block.queueAlarm]; (repeat' split) <;> simp
@[simp] theorem Block.queueAlarm_flint (b : Block) (k p c s : Nat) : (b.queueAlarm k p c s).flint = b.flint := by
  simp only [Block.queueAlarm]; (repeat' split) <;> simp
@[simp] theorem Block.queueAlarm_nvm (b : Block) (k p c s : Nat) : (b.queueAlarm k p c s).nvm = b.nvm := by
  simp only [Block.queueAlarm]; (repeat' split) <;> simp
@[simp] theorem Block.queueAlarm_tb (b : Block) (k p c s : Nat) : (b.queueAlarm k p c s).tb = b.tb := by
  simp only [Block.queueAlarm]; (repeat' split) <;> simp
@[simp] theorem Block.queueAlarm_phys (b : Block) (k p c s : Nat) : (b.queueAlarm k p c s).phys = b.phys := by
  simp only [Block.queueAlarm]; (repeat' split) <;> simp
@[simp] theorem Block.queueAlarm_gov (b : Block) (k p c s : Nat) : (b.queueAlarm k p c s).gov = b.gov := by
  simp only [Block.queueAlarm]; (repeat' split) <;> simp
@[simp] theorem Block.queueAlarm_lanes (b : Block) (k p c s : Nat) : (b.queueAlarm k p c s).lanes = b.lanes := by
  simp only [Block.queueAlarm]; (repeat' split) <;> simp
@[simp] theorem Block.queueAlarm_win (b : Block) (k p c s : Nat) : (b.queueAlarm k p c s).win = b.win := by
  simp only [Block.queueAlarm]; (repeat' split) <;> simp
@[simp] theorem Block.queueAlarm_cap (b : Block) (k p c s : Nat) : (b.queueAlarm k p c s).cap = b.cap := by
  simp only [Block.queueAlarm]; (repeat' split) <;> simp
@[simp] theorem Block.queueAlarm_keeper (b : Block) (k p c s : Nat) : (b.queueAlarm k p c s).keeper = b.keeper := by
  simp only [Block.queueAlarm]; (repeat' split) <;> simp
@[simp] theorem Block.queueAlarm_aux (b : Block) (k p c s : Nat) : (b.queueAlarm k p c s).aux = b.aux := by
  simp only [Block.queueAlarm]; (repeat' split) <;> simp
@[simp] theorem Block.queueAlarm_imp (b : Block) (k p c s : Nat) : (b.queueAlarm k p c s).imp = b.imp := by
  simp only [Block.queueAlarm]; (repeat' split) <;> simp
@[simp] theorem Block.queueAlarm_link (b : Block) (k p c s : Nat) : (b.queueAlarm k p c s).link = b.link := by
  simp only [Block.queueAlarm]; (repeat' split) <;> simp
@[simp] theorem Block.queueAlarm_access (b : Block) (k p c s : Nat) : (b.queueAlarm k p c s).access = b.access := by
  simp only [Block.queueAlarm]; (repeat' split) <;> simp
@[simp] theorem Block.queueAlarm_diag (b : Block) (k p c s : Nat) : (b.queueAlarm k p c s).diag = b.diag := by
  simp only [Block.queueAlarm]; (repeat' split) <;> simp
@[simp] theorem Block.queueAlarm_thermal (b : Block) (k p c s : Nat) : (b.queueAlarm k p c s).thermal = b.thermal := by
  simp only [Block.queueAlarm]; (repeat' split) <;> simp
@[simp] theorem Block.queueAlarm_chainSet (b : Block) (k p c s : Nat) : (b.queueAlarm k p c s).chainSet = b.chainSet := by
  simp only [Block.queueAlarm]; (repeat' split) <;> simp
@[simp] theorem Block.queueAlarm_socTable (b : Block) (k p c s : Nat) : (b.queueAlarm k p c s).socTable = b.socTable := by
  simp only [Block.queueAlarm]; (repeat' split) <;> simp
@[simp] theorem Block.queueAlarm_tempCurve (b : Block) (k p c s : Nat) : (b.queueAlarm k p c s).tempCurve = b.tempCurve := by
  simp only [Block.queueAlarm]; (repeat' split) <;> simp
@[simp] theorem Block.queueAlarm_dict (b : Block) (k p c s : Nat) : (b.queueAlarm k p c s).dict = b.dict := by
  simp only [Block.queueAlarm]; (repeat' split) <;> simp
@[simp] theorem Block.queueAlarm_out (b : Block) (k p c s : Nat) : (b.queueAlarm k p c s).out = b.out := by
  simp only [Block.queueAlarm]; (repeat' split) <;> simp
@[simp] theorem Block.queueAlarm_free (b : Block) (k p c s : Nat) : (b.queueAlarm k p c s).free = b.free := by
  simp only [Block.queueAlarm]; (repeat' split) <;> simp
@[simp] theorem Block.enterSafe_fuses (b : Block) (c : Nat) : (b.enterSafe c).fuses = b.fuses := by
  simp only [Block.enterSafe]; (repeat' split) <;> simp [apply_ite Block.fuses]
@[simp] theorem Block.enterSafe_power (b : Block) (c : Nat) : (b.enterSafe c).power = b.power := by
  simp only [Block.enterSafe]; (repeat' split) <;> simp [apply_ite Block.power]
@[simp] theorem Block.enterSafe_bedrock (b : Block) (c : Nat) : (b.enterSafe c).bedrock = b.bedrock := by
  simp only [Block.enterSafe]; (repeat' split) <;> simp [apply_ite Block.bedrock]
@[simp] theorem Block.enterSafe_journal (b : Block) (c : Nat) : (b.enterSafe c).journal = b.journal := by
  simp only [Block.enterSafe]; (repeat' split) <;> simp [apply_ite Block.journal]
@[simp] theorem Block.enterSafe_nvm (b : Block) (c : Nat) : (b.enterSafe c).nvm = b.nvm := by
  simp only [Block.enterSafe]; (repeat' split) <;> simp [apply_ite Block.nvm]
@[simp] theorem Block.enterSafe_tb (b : Block) (c : Nat) : (b.enterSafe c).tb = b.tb := by
  simp only [Block.enterSafe]; (repeat' split) <;> simp [apply_ite Block.tb]
@[simp] theorem Block.enterSafe_lanes (b : Block) (c : Nat) : (b.enterSafe c).lanes = b.lanes := by
  simp only [Block.enterSafe]; (repeat' split) <;> simp [apply_ite Block.lanes]
@[simp] theorem Block.enterSafe_win (b : Block) (c : Nat) : (b.enterSafe c).win = b.win := by
  simp only [Block.enterSafe]; (repeat' split) <;> simp [apply_ite Block.win]
@[simp] theorem Block.enterSafe_cap (b : Block) (c : Nat) : (b.enterSafe c).cap = b.cap := by
  simp only [Block.enterSafe]; (repeat' split) <;> simp [apply_ite Block.cap]
@[simp] theorem Block.enterSafe_keeper (b : Block) (c : Nat) : (b.enterSafe c).keeper = b.keeper := by
  simp only [Block.enterSafe]; (repeat' split) <;> simp [apply_ite Block.keeper]
@[simp] theorem Block.enterSafe_aux (b : Block) (c : Nat) : (b.enterSafe c).aux = b.aux := by
  simp only [Block.enterSafe]; (repeat' split) <;> simp [apply_ite Block.aux]
@[simp] theorem Block.enterSafe_imp (b : Block) (c : Nat) : (b.enterSafe c).imp = b.imp := by
  simp only [Block.enterSafe]; (repeat' split) <;> simp [apply_ite Block.imp]
@[simp] theorem Block.enterSafe_link (b : Block) (c : Nat) : (b.enterSafe c).link = b.link := by
  simp only [Block.enterSafe]; (repeat' split) <;> simp [apply_ite Block.link]
@[simp] theorem Block.enterSafe_access (b : Block) (c : Nat) : (b.enterSafe c).access = b.access := by
  simp only [Block.enterSafe]; (repeat' split) <;> simp [apply_ite Block.access]
@[simp] theorem Block.enterSafe_diag (b : Block) (c : Nat) : (b.enterSafe c).diag = b.diag := by
  simp only [Block.enterSafe]; (repeat' split) <;> simp [apply_ite Block.diag]
@[simp] theorem Block.enterSafe_thermal (b : Block) (c : Nat) : (b.enterSafe c).thermal = b.thermal := by
  simp only [Block.enterSafe]; (repeat' split) <;> simp [apply_ite Block.thermal]
@[simp] theorem Block.enterSafe_chainSet (b : Block) (c : Nat) : (b.enterSafe c).chainSet = b.chainSet := by
  simp only [Block.enterSafe]; (repeat' split) <;> simp [apply_ite Block.chainSet]
@[simp] theorem Block.enterSafe_socTable (b : Block) (c : Nat) : (b.enterSafe c).socTable = b.socTable := by
  simp only [Block.enterSafe]; (repeat' split) <;> simp [apply_ite Block.socTable]
@[simp] theorem Block.enterSafe_tempCurve (b : Block) (c : Nat) : (b.enterSafe c).tempCurve = b.tempCurve := by
  simp only [Block.enterSafe]; (repeat' split) <;> simp [apply_ite Block.tempCurve]
@[simp] theorem Block.enterSafe_free (b : Block) (c : Nat) : (b.enterSafe c).free = b.free := by
  simp only [Block.enterSafe]; (repeat' split) <;> simp [apply_ite Block.free]
@[simp] theorem Block.firstFault_fuses (b : Block) (s p e d : Nat) (o : Bool) : (b.firstFault s p e d o).fuses = b.fuses := by
  simp only [Block.firstFault]; (repeat' split) <;> simp
@[simp] theorem Block.firstFault_power (b : Block) (s p e d : Nat) (o : Bool) : (b.firstFault s p e d o).power = b.power := by
  simp only [Block.firstFault]; (repeat' split) <;> simp
@[simp] theorem Block.firstFault_bedrock (b : Block) (s p e d : Nat) (o : Bool) : (b.firstFault s p e d o).bedrock = b.bedrock := by
  simp only [Block.firstFault]; (repeat' split) <;> simp
@[simp] theorem Block.firstFault_journal (b : Block) (s p e d : Nat) (o : Bool) : (b.firstFault s p e d o).journal = b.journal := by
  simp only [Block.firstFault]; (repeat' split) <;> simp
@[simp] theorem Block.firstFault_flint (b : Block) (s p e d : Nat) (o : Bool) : (b.firstFault s p e d o).flint = b.flint := by
  simp only [Block.firstFault]; (repeat' split) <;> simp
@[simp] theorem Block.firstFault_nvm (b : Block) (s p e d : Nat) (o : Bool) : (b.firstFault s p e d o).nvm = b.nvm := by
  simp only [Block.firstFault]; (repeat' split) <;> simp
@[simp] theorem Block.firstFault_tb (b : Block) (s p e d : Nat) (o : Bool) : (b.firstFault s p e d o).tb = b.tb := by
  simp only [Block.firstFault]; (repeat' split) <;> simp
@[simp] theorem Block.firstFault_phys (b : Block) (s p e d : Nat) (o : Bool) : (b.firstFault s p e d o).phys = b.phys := by
  simp only [Block.firstFault]; (repeat' split) <;> simp
@[simp] theorem Block.firstFault_gov (b : Block) (s p e d : Nat) (o : Bool) : (b.firstFault s p e d o).gov = b.gov := by
  simp only [Block.firstFault]; (repeat' split) <;> simp
@[simp] theorem Block.firstFault_lanes (b : Block) (s p e d : Nat) (o : Bool) : (b.firstFault s p e d o).lanes = b.lanes := by
  simp only [Block.firstFault]; (repeat' split) <;> simp
@[simp] theorem Block.firstFault_win (b : Block) (s p e d : Nat) (o : Bool) : (b.firstFault s p e d o).win = b.win := by
  simp only [Block.firstFault]; (repeat' split) <;> simp
@[simp] theorem Block.firstFault_cap (b : Block) (s p e d : Nat) (o : Bool) : (b.firstFault s p e d o).cap = b.cap := by
  simp only [Block.firstFault]; (repeat' split) <;> simp
@[simp] theorem Block.firstFault_keeper (b : Block) (s p e d : Nat) (o : Bool) : (b.firstFault s p e d o).keeper = b.keeper := by
  simp only [Block.firstFault]; (repeat' split) <;> simp
@[simp] theorem Block.firstFault_aux (b : Block) (s p e d : Nat) (o : Bool) : (b.firstFault s p e d o).aux = b.aux := by
  simp only [Block.firstFault]; (repeat' split) <;> simp
@[simp] theorem Block.firstFault_imp (b : Block) (s p e d : Nat) (o : Bool) : (b.firstFault s p e d o).imp = b.imp := by
  simp only [Block.firstFault]; (repeat' split) <;> simp
@[simp] theorem Block.firstFault_link (b : Block) (s p e d : Nat) (o : Bool) : (b.firstFault s p e d o).link = b.link := by
  simp only [Block.firstFault]; (repeat' split) <;> simp
@[simp] theorem Block.firstFault_access (b : Block) (s p e d : Nat) (o : Bool) : (b.firstFault s p e d o).access = b.access := by
  simp only [Block.firstFault]; (repeat' split) <;> simp
@[simp] theorem Block.firstFault_host (b : Block) (s p e d : Nat) (o : Bool) : (b.firstFault s p e d o).host = b.host := by
  simp only [Block.firstFault]; (repeat' split) <;> simp
@[simp] theorem Block.firstFault_diag (b : Block) (s p e d : Nat) (o : Bool) : (b.firstFault s p e d o).diag = b.diag := by
  simp only [Block.firstFault]; (repeat' split) <;> simp
@[simp] theorem Block.firstFault_thermal (b : Block) (s p e d : Nat) (o : Bool) : (b.firstFault s p e d o).thermal = b.thermal := by
  simp only [Block.firstFault]; (repeat' split) <;> simp
@[simp] theorem Block.firstFault_chainSet (b : Block) (s p e d : Nat) (o : Bool) : (b.firstFault s p e d o).chainSet = b.chainSet := by
  simp only [Block.firstFault]; (repeat' split) <;> simp
@[simp] theorem Block.firstFault_socTable (b : Block) (s p e d : Nat) (o : Bool) : (b.firstFault s p e d o).socTable = b.socTable := by
  simp only [Block.firstFault]; (repeat' split) <;> simp
@[simp] theorem Block.firstFault_tempCurve (b : Block) (s p e d : Nat) (o : Bool) : (b.firstFault s p e d o).tempCurve = b.tempCurve := by
  simp only [Block.firstFault]; (repeat' split) <;> simp
@[simp] theorem Block.firstFault_out (b : Block) (s p e d : Nat) (o : Bool) : (b.firstFault s p e d o).out = b.out := by
  simp only [Block.firstFault]; (repeat' split) <;> simp
@[simp] theorem Block.firstFault_free (b : Block) (s p e d : Nat) (o : Bool) : (b.firstFault s p e d o).free = b.free := by
  simp only [Block.firstFault]; (repeat' split) <;> simp
@[simp] theorem Block.latch_fuses (b : Block) (s p e d : Nat) (o : Bool) : (b.latch s p e d o).fuses = b.fuses := by
  simp only [Block.latch]; (repeat' split) <;> simp
@[simp] theorem Block.latch_power (b : Block) (s p e d : Nat) (o : Bool) : (b.latch s p e d o).power = b.power := by
  simp only [Block.latch]; (repeat' split) <;> simp
@[simp] theorem Block.latch_bedrock (b : Block) (s p e d : Nat) (o : Bool) : (b.latch s p e d o).bedrock = b.bedrock := by
  simp only [Block.latch]; (repeat' split) <;> simp
@[simp] theorem Block.latch_journal (b : Block) (s p e d : Nat) (o : Bool) : (b.latch s p e d o).journal = b.journal := by
  simp only [Block.latch]; (repeat' split) <;> simp
@[simp] theorem Block.latch_nvm (b : Block) (s p e d : Nat) (o : Bool) : (b.latch s p e d o).nvm = b.nvm := by
  simp only [Block.latch]; (repeat' split) <;> simp
@[simp] theorem Block.latch_tb (b : Block) (s p e d : Nat) (o : Bool) : (b.latch s p e d o).tb = b.tb := by
  simp only [Block.latch]; (repeat' split) <;> simp
@[simp] theorem Block.latch_phys (b : Block) (s p e d : Nat) (o : Bool) : (b.latch s p e d o).phys = b.phys := by
  simp only [Block.latch]; (repeat' split) <;> simp
@[simp] theorem Block.latch_gov (b : Block) (s p e d : Nat) (o : Bool) : (b.latch s p e d o).gov = b.gov := by
  simp only [Block.latch]; (repeat' split) <;> simp
@[simp] theorem Block.latch_lanes (b : Block) (s p e d : Nat) (o : Bool) : (b.latch s p e d o).lanes = b.lanes := by
  simp only [Block.latch]; (repeat' split) <;> simp
@[simp] theorem Block.latch_win (b : Block) (s p e d : Nat) (o : Bool) : (b.latch s p e d o).win = b.win := by
  simp only [Block.latch]; (repeat' split) <;> simp
@[simp] theorem Block.latch_cap (b : Block) (s p e d : Nat) (o : Bool) : (b.latch s p e d o).cap = b.cap := by
  simp only [Block.latch]; (repeat' split) <;> simp
@[simp] theorem Block.latch_keeper (b : Block) (s p e d : Nat) (o : Bool) : (b.latch s p e d o).keeper = b.keeper := by
  simp only [Block.latch]; (repeat' split) <;> simp
@[simp] theorem Block.latch_aux (b : Block) (s p e d : Nat) (o : Bool) : (b.latch s p e d o).aux = b.aux := by
  simp only [Block.latch]; (repeat' split) <;> simp
@[simp] theorem Block.latch_imp (b : Block) (s p e d : Nat) (o : Bool) : (b.latch s p e d o).imp = b.imp := by
  simp only [Block.latch]; (repeat' split) <;> simp
@[simp] theorem Block.latch_link (b : Block) (s p e d : Nat) (o : Bool) : (b.latch s p e d o).link = b.link := by
  simp only [Block.latch]; (repeat' split) <;> simp
@[simp] theorem Block.latch_access (b : Block) (s p e d : Nat) (o : Bool) : (b.latch s p e d o).access = b.access := by
  simp only [Block.latch]; (repeat' split) <;> simp
@[simp] theorem Block.latch_host (b : Block) (s p e d : Nat) (o : Bool) : (b.latch s p e d o).host = b.host := by
  simp only [Block.latch]; (repeat' split) <;> simp
@[simp] theorem Block.latch_diag (b : Block) (s p e d : Nat) (o : Bool) : (b.latch s p e d o).diag = b.diag := by
  simp only [Block.latch]; (repeat' split) <;> simp
@[simp] theorem Block.latch_thermal (b : Block) (s p e d : Nat) (o : Bool) : (b.latch s p e d o).thermal = b.thermal := by
  simp only [Block.latch]; (repeat' split) <;> simp
@[simp] theorem Block.latch_chainSet (b : Block) (s p e d : Nat) (o : Bool) : (b.latch s p e d o).chainSet = b.chainSet := by
  simp only [Block.latch]; (repeat' split) <;> simp
@[simp] theorem Block.latch_socTable (b : Block) (s p e d : Nat) (o : Bool) : (b.latch s p e d o).socTable = b.socTable := by
  simp only [Block.latch]; (repeat' split) <;> simp
@[simp] theorem Block.latch_tempCurve (b : Block) (s p e d : Nat) (o : Bool) : (b.latch s p e d o).tempCurve = b.tempCurve := by
  simp only [Block.latch]; (repeat' split) <;> simp
@[simp] theorem Block.latch_out (b : Block) (s p e d : Nat) (o : Bool) : (b.latch s p e d o).out = b.out := by
  simp only [Block.latch]; (repeat' split) <;> simp
@[simp] theorem Block.latch_free (b : Block) (s p e d : Nat) (o : Bool) : (b.latch s p e d o).free = b.free := by
  simp only [Block.latch]; (repeat' split) <;> simp
@[simp] theorem Block.capture_fuses (b : Block) (s p e d : Nat) (o x : Bool) : (b.capture s p e d o x).fuses = b.fuses := by
  simp only [Block.capture]; (repeat' split) <;> simp
@[simp] theorem Block.capture_power (b : Block) (s p e d : Nat) (o x : Bool) : (b.capture s p e d o x).power = b.power := by
  simp only [Block.capture]; (repeat' split) <;> simp
@[simp] theorem Block.capture_bedrock (b : Block) (s p e d : Nat) (o x : Bool) : (b.capture s p e d o x).bedrock = b.bedrock := by
  simp only [Block.capture]; (repeat' split) <;> simp
@[simp] theorem Block.capture_journal (b : Block) (s p e d : Nat) (o x : Bool) : (b.capture s p e d o x).journal = b.journal := by
  simp only [Block.capture]; (repeat' split) <;> simp
@[simp] theorem Block.capture_nvm (b : Block) (s p e d : Nat) (o x : Bool) : (b.capture s p e d o x).nvm = b.nvm := by
  simp only [Block.capture]; (repeat' split) <;> simp
@[simp] theorem Block.capture_tb (b : Block) (s p e d : Nat) (o x : Bool) : (b.capture s p e d o x).tb = b.tb := by
  simp only [Block.capture]; (repeat' split) <;> simp
@[simp] theorem Block.capture_phys (b : Block) (s p e d : Nat) (o x : Bool) : (b.capture s p e d o x).phys = b.phys := by
  simp only [Block.capture]; (repeat' split) <;> simp
@[simp] theorem Block.capture_gov (b : Block) (s p e d : Nat) (o x : Bool) : (b.capture s p e d o x).gov = b.gov := by
  simp only [Block.capture]; (repeat' split) <;> simp
@[simp] theorem Block.capture_lanes (b : Block) (s p e d : Nat) (o x : Bool) : (b.capture s p e d o x).lanes = b.lanes := by
  simp only [Block.capture]; (repeat' split) <;> simp
@[simp] theorem Block.capture_win (b : Block) (s p e d : Nat) (o x : Bool) : (b.capture s p e d o x).win = b.win := by
  simp only [Block.capture]; (repeat' split) <;> simp
@[simp] theorem Block.capture_cap (b : Block) (s p e d : Nat) (o x : Bool) : (b.capture s p e d o x).cap = b.cap := by
  simp only [Block.capture]; (repeat' split) <;> simp
@[simp] theorem Block.capture_keeper (b : Block) (s p e d : Nat) (o x : Bool) : (b.capture s p e d o x).keeper = b.keeper := by
  simp only [Block.capture]; (repeat' split) <;> simp
@[simp] theorem Block.capture_aux (b : Block) (s p e d : Nat) (o x : Bool) : (b.capture s p e d o x).aux = b.aux := by
  simp only [Block.capture]; (repeat' split) <;> simp
@[simp] theorem Block.capture_imp (b : Block) (s p e d : Nat) (o x : Bool) : (b.capture s p e d o x).imp = b.imp := by
  simp only [Block.capture]; (repeat' split) <;> simp
@[simp] theorem Block.capture_link (b : Block) (s p e d : Nat) (o x : Bool) : (b.capture s p e d o x).link = b.link := by
  simp only [Block.capture]; (repeat' split) <;> simp
@[simp] theorem Block.capture_access (b : Block) (s p e d : Nat) (o x : Bool) : (b.capture s p e d o x).access = b.access := by
  simp only [Block.capture]; (repeat' split) <;> simp
@[simp] theorem Block.capture_host (b : Block) (s p e d : Nat) (o x : Bool) : (b.capture s p e d o x).host = b.host := by
  simp only [Block.capture]; (repeat' split) <;> simp
@[simp] theorem Block.capture_diag (b : Block) (s p e d : Nat) (o x : Bool) : (b.capture s p e d o x).diag = b.diag := by
  simp only [Block.capture]; (repeat' split) <;> simp
@[simp] theorem Block.capture_thermal (b : Block) (s p e d : Nat) (o x : Bool) : (b.capture s p e d o x).thermal = b.thermal := by
  simp only [Block.capture]; (repeat' split) <;> simp
@[simp] theorem Block.capture_chainSet (b : Block) (s p e d : Nat) (o x : Bool) : (b.capture s p e d o x).chainSet = b.chainSet := by
  simp only [Block.capture]; (repeat' split) <;> simp
@[simp] theorem Block.capture_socTable (b : Block) (s p e d : Nat) (o x : Bool) : (b.capture s p e d o x).socTable = b.socTable := by
  simp only [Block.capture]; (repeat' split) <;> simp
@[simp] theorem Block.capture_tempCurve (b : Block) (s p e d : Nat) (o x : Bool) : (b.capture s p e d o x).tempCurve = b.tempCurve := by
  simp only [Block.capture]; (repeat' split) <;> simp
@[simp] theorem Block.capture_dict (b : Block) (s p e d : Nat) (o x : Bool) : (b.capture s p e d o x).dict = b.dict := by
  simp only [Block.capture]; (repeat' split) <;> simp
@[simp] theorem Block.capture_out (b : Block) (s p e d : Nat) (o x : Bool) : (b.capture s p e d o x).out = b.out := by
  simp only [Block.capture]; (repeat' split) <;> simp
@[simp] theorem Block.capture_free (b : Block) (s p e d : Nat) (o x : Bool) : (b.capture s p e d o x).free = b.free := by
  simp only [Block.capture]; (repeat' split) <;> simp
@[simp] theorem Block.register_fuses (b : Block) (l : List Reg) (o : Bool) (n : Nat) (d : Detection) : (b.register l o n d).fuses = b.fuses := by
  simp only [Block.register]; (repeat' split) <;> simp [apply_ite Block.fuses]
@[simp] theorem Block.register_power (b : Block) (l : List Reg) (o : Bool) (n : Nat) (d : Detection) : (b.register l o n d).power = b.power := by
  simp only [Block.register]; (repeat' split) <;> simp [apply_ite Block.power]
@[simp] theorem Block.register_bedrock (b : Block) (l : List Reg) (o : Bool) (n : Nat) (d : Detection) : (b.register l o n d).bedrock = b.bedrock := by
  simp only [Block.register]; (repeat' split) <;> simp [apply_ite Block.bedrock]
@[simp] theorem Block.register_journal (b : Block) (l : List Reg) (o : Bool) (n : Nat) (d : Detection) : (b.register l o n d).journal = b.journal := by
  simp only [Block.register]; (repeat' split) <;> simp [apply_ite Block.journal]
@[simp] theorem Block.register_nvm (b : Block) (l : List Reg) (o : Bool) (n : Nat) (d : Detection) :
    (b.register l o n d).nvm = if d.source = 0xA2 then { b.nvm with saveFailed := true } else b.nvm := by
  simp only [Block.register]; (repeat' split) <;> simp_all
@[simp] theorem Block.register_tb (b : Block) (l : List Reg) (o : Bool) (n : Nat) (d : Detection) : (b.register l o n d).tb = b.tb := by
  simp only [Block.register]; (repeat' split) <;> simp [apply_ite Block.tb]
@[simp] theorem Block.register_phys (b : Block) (l : List Reg) (o : Bool) (n : Nat) (d : Detection) : (b.register l o n d).phys = b.phys := by
  simp only [Block.register]; (repeat' split) <;> simp [apply_ite Block.phys]
@[simp] theorem Block.register_gov (b : Block) (l : List Reg) (o : Bool) (n : Nat) (d : Detection) : (b.register l o n d).gov = b.gov := by
  simp only [Block.register]; (repeat' split) <;> simp [apply_ite Block.gov]
@[simp] theorem Block.register_lanes (b : Block) (l : List Reg) (o : Bool) (n : Nat) (d : Detection) : (b.register l o n d).lanes = b.lanes := by
  simp only [Block.register]; (repeat' split) <;> simp [apply_ite Block.lanes]
@[simp] theorem Block.register_win (b : Block) (l : List Reg) (o : Bool) (n : Nat) (d : Detection) : (b.register l o n d).win = b.win := by
  simp only [Block.register]; (repeat' split) <;> simp [apply_ite Block.win]
@[simp] theorem Block.register_cap (b : Block) (l : List Reg) (o : Bool) (n : Nat) (d : Detection) : (b.register l o n d).cap = b.cap := by
  simp only [Block.register]; (repeat' split) <;> simp [apply_ite Block.cap]
@[simp] theorem Block.register_keeper (b : Block) (l : List Reg) (o : Bool) (n : Nat) (d : Detection) : (b.register l o n d).keeper = b.keeper := by
  simp only [Block.register]; (repeat' split) <;> simp [apply_ite Block.keeper]
@[simp] theorem Block.register_aux (b : Block) (l : List Reg) (o : Bool) (n : Nat) (d : Detection) : (b.register l o n d).aux = b.aux := by
  simp only [Block.register]; (repeat' split) <;> simp [apply_ite Block.aux]
@[simp] theorem Block.register_imp (b : Block) (l : List Reg) (o : Bool) (n : Nat) (d : Detection) : (b.register l o n d).imp = b.imp := by
  simp only [Block.register]; (repeat' split) <;> simp [apply_ite Block.imp]
@[simp] theorem Block.register_link (b : Block) (l : List Reg) (o : Bool) (n : Nat) (d : Detection) : (b.register l o n d).link = b.link := by
  simp only [Block.register]; (repeat' split) <;> simp [apply_ite Block.link]
@[simp] theorem Block.register_access (b : Block) (l : List Reg) (o : Bool) (n : Nat) (d : Detection) : (b.register l o n d).access = b.access := by
  simp only [Block.register]; (repeat' split) <;> simp [apply_ite Block.access]
@[simp] theorem Block.register_host (b : Block) (l : List Reg) (o : Bool) (n : Nat) (d : Detection) : (b.register l o n d).host = b.host := by
  simp only [Block.register]; (repeat' split) <;> simp [apply_ite Block.host]
@[simp] theorem Block.register_diag (b : Block) (l : List Reg) (o : Bool) (n : Nat) (d : Detection) : (b.register l o n d).diag = b.diag := by
  simp only [Block.register]; (repeat' split) <;> simp [apply_ite Block.diag]
@[simp] theorem Block.register_thermal (b : Block) (l : List Reg) (o : Bool) (n : Nat) (d : Detection) : (b.register l o n d).thermal = b.thermal := by
  simp only [Block.register]; (repeat' split) <;> simp [apply_ite Block.thermal]
@[simp] theorem Block.register_chainSet (b : Block) (l : List Reg) (o : Bool) (n : Nat) (d : Detection) : (b.register l o n d).chainSet = b.chainSet := by
  simp only [Block.register]; (repeat' split) <;> simp [apply_ite Block.chainSet]
@[simp] theorem Block.register_socTable (b : Block) (l : List Reg) (o : Bool) (n : Nat) (d : Detection) : (b.register l o n d).socTable = b.socTable := by
  simp only [Block.register]; (repeat' split) <;> simp [apply_ite Block.socTable]
@[simp] theorem Block.register_tempCurve (b : Block) (l : List Reg) (o : Bool) (n : Nat) (d : Detection) : (b.register l o n d).tempCurve = b.tempCurve := by
  simp only [Block.register]; (repeat' split) <;> simp [apply_ite Block.tempCurve]
@[simp] theorem Block.register_out (b : Block) (l : List Reg) (o : Bool) (n : Nat) (d : Detection) : (b.register l o n d).out = b.out := by
  simp only [Block.register]; (repeat' split) <;> simp [apply_ite Block.out]
@[simp] theorem Block.register_free (b : Block) (l : List Reg) (o : Bool) (n : Nat) (d : Detection) : (b.register l o n d).free = b.free := by
  simp only [Block.register]; (repeat' split) <;> simp [apply_ite Block.free]
@[simp] theorem Block.repeatOf_fuses (b : Block) (d : Detection) : (b.repeatOf d).fuses = b.fuses := by
  simp only [Block.repeatOf]; (repeat' split) <;> simp
@[simp] theorem Block.repeatOf_power (b : Block) (d : Detection) : (b.repeatOf d).power = b.power := by
  simp only [Block.repeatOf]; (repeat' split) <;> simp
@[simp] theorem Block.repeatOf_bedrock (b : Block) (d : Detection) : (b.repeatOf d).bedrock = b.bedrock := by
  simp only [Block.repeatOf]; (repeat' split) <;> simp
@[simp] theorem Block.repeatOf_nvm (b : Block) (d : Detection) : (b.repeatOf d).nvm = b.nvm := by
  simp only [Block.repeatOf]; (repeat' split) <;> simp
@[simp] theorem Block.repeatOf_tb (b : Block) (d : Detection) : (b.repeatOf d).tb = b.tb := by
  simp only [Block.repeatOf]; (repeat' split) <;> simp
@[simp] theorem Block.repeatOf_phys (b : Block) (d : Detection) : (b.repeatOf d).phys = b.phys := by
  simp only [Block.repeatOf]; (repeat' split) <;> simp
@[simp] theorem Block.repeatOf_gov (b : Block) (d : Detection) : (b.repeatOf d).gov = b.gov := by
  simp only [Block.repeatOf]; (repeat' split) <;> simp
@[simp] theorem Block.repeatOf_lanes (b : Block) (d : Detection) : (b.repeatOf d).lanes = b.lanes := by
  simp only [Block.repeatOf]; (repeat' split) <;> simp
@[simp] theorem Block.repeatOf_win (b : Block) (d : Detection) : (b.repeatOf d).win = b.win := by
  simp only [Block.repeatOf]; (repeat' split) <;> simp
@[simp] theorem Block.repeatOf_cap (b : Block) (d : Detection) : (b.repeatOf d).cap = b.cap := by
  simp only [Block.repeatOf]; (repeat' split) <;> simp
@[simp] theorem Block.repeatOf_keeper (b : Block) (d : Detection) : (b.repeatOf d).keeper = b.keeper := by
  simp only [Block.repeatOf]; (repeat' split) <;> simp
@[simp] theorem Block.repeatOf_aux (b : Block) (d : Detection) : (b.repeatOf d).aux = b.aux := by
  simp only [Block.repeatOf]; (repeat' split) <;> simp
@[simp] theorem Block.repeatOf_imp (b : Block) (d : Detection) : (b.repeatOf d).imp = b.imp := by
  simp only [Block.repeatOf]; (repeat' split) <;> simp
@[simp] theorem Block.repeatOf_link (b : Block) (d : Detection) : (b.repeatOf d).link = b.link := by
  simp only [Block.repeatOf]; (repeat' split) <;> simp
@[simp] theorem Block.repeatOf_access (b : Block) (d : Detection) : (b.repeatOf d).access = b.access := by
  simp only [Block.repeatOf]; (repeat' split) <;> simp
@[simp] theorem Block.repeatOf_host (b : Block) (d : Detection) : (b.repeatOf d).host = b.host := by
  simp only [Block.repeatOf]; (repeat' split) <;> simp
@[simp] theorem Block.repeatOf_diag (b : Block) (d : Detection) : (b.repeatOf d).diag = b.diag := by
  simp only [Block.repeatOf]; (repeat' split) <;> simp
@[simp] theorem Block.repeatOf_thermal (b : Block) (d : Detection) : (b.repeatOf d).thermal = b.thermal := by
  simp only [Block.repeatOf]; (repeat' split) <;> simp
@[simp] theorem Block.repeatOf_chainSet (b : Block) (d : Detection) : (b.repeatOf d).chainSet = b.chainSet := by
  simp only [Block.repeatOf]; (repeat' split) <;> simp
@[simp] theorem Block.repeatOf_socTable (b : Block) (d : Detection) : (b.repeatOf d).socTable = b.socTable := by
  simp only [Block.repeatOf]; (repeat' split) <;> simp
@[simp] theorem Block.repeatOf_tempCurve (b : Block) (d : Detection) : (b.repeatOf d).tempCurve = b.tempCurve := by
  simp only [Block.repeatOf]; (repeat' split) <;> simp
@[simp] theorem Block.repeatOf_dict (b : Block) (d : Detection) : (b.repeatOf d).dict = b.dict := by
  simp only [Block.repeatOf]; (repeat' split) <;> simp
@[simp] theorem Block.repeatOf_out (b : Block) (d : Detection) : (b.repeatOf d).out = b.out := by
  simp only [Block.repeatOf]; (repeat' split) <;> simp
@[simp] theorem Block.repeatOf_free (b : Block) (d : Detection) : (b.repeatOf d).free = b.free := by
  simp only [Block.repeatOf]; (repeat' split) <;> simp
@[simp] theorem Block.faultCycle_fuses (b : Block)  : (b.faultCycle).fuses = b.fuses := by
  simp only [Block.faultCycle, Block.followReasons_fuses]
  rw [foldl_keeps (fun b : Block => b.fuses) (by intros; split <;> rfl)]
  split
  · rw [Block.enterSafe_fuses, foldl_keeps (fun b : Block => b.fuses) (by intros; simp), foldl_keeps (fun b : Block => b.fuses) (by intros; simp)]; rfl
  · rw [foldl_keeps (fun b : Block => b.fuses) (by intros; simp), foldl_keeps (fun b : Block => b.fuses) (by intros; simp)]; rfl
@[simp] theorem Block.faultCycle_power (b : Block)  : (b.faultCycle).power = b.power := by
  simp only [Block.faultCycle, Block.followReasons_power]
  rw [foldl_keeps (fun b : Block => b.power) (by intros; split <;> rfl)]
  split
  · rw [Block.enterSafe_power, foldl_keeps (fun b : Block => b.power) (by intros; simp), foldl_keeps (fun b : Block => b.power) (by intros; simp)]; rfl
  · rw [foldl_keeps (fun b : Block => b.power) (by intros; simp), foldl_keeps (fun b : Block => b.power) (by intros; simp)]; rfl
@[simp] theorem Block.faultCycle_bedrock (b : Block)  : (b.faultCycle).bedrock = b.bedrock := by
  simp only [Block.faultCycle, Block.followReasons_bedrock]
  rw [foldl_keeps (fun b : Block => b.bedrock) (by intros; split <;> rfl)]
  split
  · rw [Block.enterSafe_bedrock, foldl_keeps (fun b : Block => b.bedrock) (by intros; simp), foldl_keeps (fun b : Block => b.bedrock) (by intros; simp)]; rfl
  · rw [foldl_keeps (fun b : Block => b.bedrock) (by intros; simp), foldl_keeps (fun b : Block => b.bedrock) (by intros; simp)]; rfl
/-- NVM control without the reason that 0xA2 gives (R395). -/
def Block.withoutFailure (b : Block) : Nvm := { b.nvm with saveFailed := false }
/-- A cycle leaves NVM control as it is but for the reason that 0xA2 gives (R381, R395). -/
theorem Block.faultCycle_nvm (b : Block) : { b.faultCycle.nvm with saveFailed := false } = { b.nvm with saveFailed := false } := by
  have h : ∀ c d : Block, c.nvm = d.nvm → Block.withoutFailure c = Block.withoutFailure d := fun c d e => by
    simp only [Block.withoutFailure, e]
  show Block.withoutFailure b.faultCycle = Block.withoutFailure b
  simp only [Block.faultCycle]
  rw [h _ _ (Block.followReasons_nvm _), foldl_keeps Block.withoutFailure (by intros; split <;> rfl)]
  have keeps : ∀ (c : Block) (l : List Reg) (o : Bool) (n : Nat) (d : Detection),
      Block.withoutFailure (c.register l o n d) = Block.withoutFailure c := by
    intros; simp only [Block.withoutFailure, Block.register_nvm]; split <;> rfl
  split
  · rw [h _ _ (Block.enterSafe_nvm _ _), foldl_keeps Block.withoutFailure (by intros; apply h; simp),
      foldl_keeps Block.withoutFailure (by intros; simp only [keeps])]; rfl
  · rw [foldl_keeps Block.withoutFailure (by intros; apply h; simp), foldl_keeps Block.withoutFailure (by intros; simp only [keeps])]; rfl
@[simp] theorem Block.faultCycle_tb (b : Block)  : (b.faultCycle).tb = b.tb := by
  simp only [Block.faultCycle, Block.followReasons_tb]
  rw [foldl_keeps (fun b : Block => b.tb) (by intros; split <;> rfl)]
  split
  · rw [Block.enterSafe_tb, foldl_keeps (fun b : Block => b.tb) (by intros; simp), foldl_keeps (fun b : Block => b.tb) (by intros; simp)]; rfl
  · rw [foldl_keeps (fun b : Block => b.tb) (by intros; simp), foldl_keeps (fun b : Block => b.tb) (by intros; simp)]; rfl
@[simp] theorem Block.faultCycle_lanes (b : Block)  : (b.faultCycle).lanes = b.lanes := by
  simp only [Block.faultCycle, Block.followReasons_lanes]
  rw [foldl_keeps (fun b : Block => b.lanes) (by intros; split <;> rfl)]
  split
  · rw [Block.enterSafe_lanes, foldl_keeps (fun b : Block => b.lanes) (by intros; simp), foldl_keeps (fun b : Block => b.lanes) (by intros; simp)]; rfl
  · rw [foldl_keeps (fun b : Block => b.lanes) (by intros; simp), foldl_keeps (fun b : Block => b.lanes) (by intros; simp)]; rfl
@[simp] theorem Block.faultCycle_win (b : Block)  : (b.faultCycle).win = b.win := by
  simp only [Block.faultCycle, Block.followReasons_win]
  rw [foldl_keeps (fun b : Block => b.win) (by intros; split <;> rfl)]
  split
  · rw [Block.enterSafe_win, foldl_keeps (fun b : Block => b.win) (by intros; simp), foldl_keeps (fun b : Block => b.win) (by intros; simp)]; rfl
  · rw [foldl_keeps (fun b : Block => b.win) (by intros; simp), foldl_keeps (fun b : Block => b.win) (by intros; simp)]; rfl
@[simp] theorem Block.faultCycle_cap (b : Block)  : (b.faultCycle).cap = b.cap := by
  simp only [Block.faultCycle, Block.followReasons_cap]
  rw [foldl_keeps (fun b : Block => b.cap) (by intros; split <;> rfl)]
  split
  · rw [Block.enterSafe_cap, foldl_keeps (fun b : Block => b.cap) (by intros; simp), foldl_keeps (fun b : Block => b.cap) (by intros; simp)]; rfl
  · rw [foldl_keeps (fun b : Block => b.cap) (by intros; simp), foldl_keeps (fun b : Block => b.cap) (by intros; simp)]; rfl
@[simp] theorem Block.faultCycle_keeper (b : Block)  : (b.faultCycle).keeper = b.keeper := by
  simp only [Block.faultCycle, Block.followReasons_keeper]
  rw [foldl_keeps (fun b : Block => b.keeper) (by intros; split <;> rfl)]
  split
  · rw [Block.enterSafe_keeper, foldl_keeps (fun b : Block => b.keeper) (by intros; simp), foldl_keeps (fun b : Block => b.keeper) (by intros; simp)]; rfl
  · rw [foldl_keeps (fun b : Block => b.keeper) (by intros; simp), foldl_keeps (fun b : Block => b.keeper) (by intros; simp)]; rfl
@[simp] theorem Block.faultCycle_aux (b : Block)  : (b.faultCycle).aux = b.aux := by
  simp only [Block.faultCycle, Block.followReasons_aux]
  rw [foldl_keeps (fun b : Block => b.aux) (by intros; split <;> rfl)]
  split
  · rw [Block.enterSafe_aux, foldl_keeps (fun b : Block => b.aux) (by intros; simp), foldl_keeps (fun b : Block => b.aux) (by intros; simp)]; rfl
  · rw [foldl_keeps (fun b : Block => b.aux) (by intros; simp), foldl_keeps (fun b : Block => b.aux) (by intros; simp)]; rfl
@[simp] theorem Block.faultCycle_imp (b : Block)  : (b.faultCycle).imp = b.imp := by
  simp only [Block.faultCycle, Block.followReasons_imp]
  rw [foldl_keeps (fun b : Block => b.imp) (by intros; split <;> rfl)]
  split
  · rw [Block.enterSafe_imp, foldl_keeps (fun b : Block => b.imp) (by intros; simp), foldl_keeps (fun b : Block => b.imp) (by intros; simp)]; rfl
  · rw [foldl_keeps (fun b : Block => b.imp) (by intros; simp), foldl_keeps (fun b : Block => b.imp) (by intros; simp)]; rfl
@[simp] theorem Block.faultCycle_link (b : Block)  : (b.faultCycle).link = b.link := by
  simp only [Block.faultCycle, Block.followReasons_link]
  rw [foldl_keeps (fun b : Block => b.link) (by intros; split <;> rfl)]
  split
  · rw [Block.enterSafe_link, foldl_keeps (fun b : Block => b.link) (by intros; simp), foldl_keeps (fun b : Block => b.link) (by intros; simp)]; rfl
  · rw [foldl_keeps (fun b : Block => b.link) (by intros; simp), foldl_keeps (fun b : Block => b.link) (by intros; simp)]; rfl
@[simp] theorem Block.faultCycle_access (b : Block)  : (b.faultCycle).access = b.access := by
  simp only [Block.faultCycle, Block.followReasons_access]
  rw [foldl_keeps (fun b : Block => b.access) (by intros; split <;> rfl)]
  split
  · rw [Block.enterSafe_access, foldl_keeps (fun b : Block => b.access) (by intros; simp), foldl_keeps (fun b : Block => b.access) (by intros; simp)]; rfl
  · rw [foldl_keeps (fun b : Block => b.access) (by intros; simp), foldl_keeps (fun b : Block => b.access) (by intros; simp)]; rfl
@[simp] theorem Block.faultCycle_diag (b : Block)  : (b.faultCycle).diag = b.diag := by
  simp only [Block.faultCycle, Block.followReasons_diag]
  rw [foldl_keeps (fun b : Block => b.diag) (by intros; split <;> rfl)]
  split
  · rw [Block.enterSafe_diag, foldl_keeps (fun b : Block => b.diag) (by intros; simp), foldl_keeps (fun b : Block => b.diag) (by intros; simp)]; rfl
  · rw [foldl_keeps (fun b : Block => b.diag) (by intros; simp), foldl_keeps (fun b : Block => b.diag) (by intros; simp)]; rfl
@[simp] theorem Block.faultCycle_thermal (b : Block)  : (b.faultCycle).thermal = b.thermal := by
  simp only [Block.faultCycle, Block.followReasons_thermal]
  rw [foldl_keeps (fun b : Block => b.thermal) (by intros; split <;> rfl)]
  split
  · rw [Block.enterSafe_thermal, foldl_keeps (fun b : Block => b.thermal) (by intros; simp), foldl_keeps (fun b : Block => b.thermal) (by intros; simp)]; rfl
  · rw [foldl_keeps (fun b : Block => b.thermal) (by intros; simp), foldl_keeps (fun b : Block => b.thermal) (by intros; simp)]; rfl
@[simp] theorem Block.faultCycle_chainSet (b : Block)  : (b.faultCycle).chainSet = b.chainSet := by
  simp only [Block.faultCycle, Block.followReasons_chainSet]
  rw [foldl_keeps (fun b : Block => b.chainSet) (by intros; split <;> rfl)]
  split
  · rw [Block.enterSafe_chainSet, foldl_keeps (fun b : Block => b.chainSet) (by intros; simp), foldl_keeps (fun b : Block => b.chainSet) (by intros; simp)]; rfl
  · rw [foldl_keeps (fun b : Block => b.chainSet) (by intros; simp), foldl_keeps (fun b : Block => b.chainSet) (by intros; simp)]; rfl
@[simp] theorem Block.faultCycle_socTable (b : Block)  : (b.faultCycle).socTable = b.socTable := by
  simp only [Block.faultCycle, Block.followReasons_socTable]
  rw [foldl_keeps (fun b : Block => b.socTable) (by intros; split <;> rfl)]
  split
  · rw [Block.enterSafe_socTable, foldl_keeps (fun b : Block => b.socTable) (by intros; simp), foldl_keeps (fun b : Block => b.socTable) (by intros; simp)]; rfl
  · rw [foldl_keeps (fun b : Block => b.socTable) (by intros; simp), foldl_keeps (fun b : Block => b.socTable) (by intros; simp)]; rfl
@[simp] theorem Block.faultCycle_tempCurve (b : Block)  : (b.faultCycle).tempCurve = b.tempCurve := by
  simp only [Block.faultCycle, Block.followReasons_tempCurve]
  rw [foldl_keeps (fun b : Block => b.tempCurve) (by intros; split <;> rfl)]
  split
  · rw [Block.enterSafe_tempCurve, foldl_keeps (fun b : Block => b.tempCurve) (by intros; simp), foldl_keeps (fun b : Block => b.tempCurve) (by intros; simp)]; rfl
  · rw [foldl_keeps (fun b : Block => b.tempCurve) (by intros; simp), foldl_keeps (fun b : Block => b.tempCurve) (by intros; simp)]; rfl
@[simp] theorem Block.faultCycle_free (b : Block)  : (b.faultCycle).free = b.free := by
  simp only [Block.faultCycle, Block.followReasons_free]
  rw [foldl_keeps (fun b : Block => b.free) (by intros; split <;> rfl)]
  split
  · rw [Block.enterSafe_free, foldl_keeps (fun b : Block => b.free) (by intros; simp), foldl_keeps (fun b : Block => b.free) (by intros; simp)]; rfl
  · rw [foldl_keeps (fun b : Block => b.free) (by intros; simp), foldl_keeps (fun b : Block => b.free) (by intros; simp)]; rfl
@[simp] theorem Block.sendClose_fuses (b : Block)  : (b.sendClose).fuses = b.fuses := by
  simp only [Block.sendClose]; (repeat' split) <;> simp
@[simp] theorem Block.sendClose_power (b : Block)  : (b.sendClose).power = b.power := by
  simp only [Block.sendClose]; (repeat' split) <;> simp
@[simp] theorem Block.sendClose_bedrock (b : Block)  : (b.sendClose).bedrock = b.bedrock := by
  simp only [Block.sendClose]; (repeat' split) <;> simp
@[simp] theorem Block.sendClose_journal (b : Block)  : (b.sendClose).journal = b.journal := by
  simp only [Block.sendClose]; (repeat' split) <;> simp
@[simp] theorem Block.sendClose_flint (b : Block)  : (b.sendClose).flint = b.flint := by
  simp only [Block.sendClose]; (repeat' split) <;> simp
@[simp] theorem Block.sendClose_nvm (b : Block)  : (b.sendClose).nvm = b.nvm := by
  simp only [Block.sendClose]; (repeat' split) <;> simp
@[simp] theorem Block.sendClose_tb (b : Block)  : (b.sendClose).tb = b.tb := by
  simp only [Block.sendClose]; (repeat' split) <;> simp
@[simp] theorem Block.sendClose_phys (b : Block)  : (b.sendClose).phys = b.phys := by
  simp only [Block.sendClose]; (repeat' split) <;> simp
@[simp] theorem Block.sendClose_gov (b : Block)  : (b.sendClose).gov = b.gov := by
  simp only [Block.sendClose]; (repeat' split) <;> simp
@[simp] theorem Block.sendClose_lanes (b : Block)  : (b.sendClose).lanes = b.lanes := by
  simp only [Block.sendClose]; (repeat' split) <;> simp
@[simp] theorem Block.sendClose_win (b : Block)  : (b.sendClose).win = b.win := by
  simp only [Block.sendClose]; (repeat' split) <;> simp
@[simp] theorem Block.sendClose_cap (b : Block)  : (b.sendClose).cap = b.cap := by
  simp only [Block.sendClose]; (repeat' split) <;> simp
@[simp] theorem Block.sendClose_keeper (b : Block)  : (b.sendClose).keeper = b.keeper := by
  simp only [Block.sendClose]; (repeat' split) <;> simp
@[simp] theorem Block.sendClose_aux (b : Block)  : (b.sendClose).aux = b.aux := by
  simp only [Block.sendClose]; (repeat' split) <;> simp
@[simp] theorem Block.sendClose_imp (b : Block)  : (b.sendClose).imp = b.imp := by
  simp only [Block.sendClose]; (repeat' split) <;> simp
@[simp] theorem Block.sendClose_link (b : Block)  : (b.sendClose).link = b.link := by
  simp only [Block.sendClose]; (repeat' split) <;> simp
@[simp] theorem Block.sendClose_access (b : Block)  : (b.sendClose).access = b.access := by
  simp only [Block.sendClose]; (repeat' split) <;> simp
@[simp] theorem Block.sendClose_host (b : Block)  : (b.sendClose).host = b.host := by
  simp only [Block.sendClose]; (repeat' split) <;> simp
@[simp] theorem Block.sendClose_diag (b : Block)  : (b.sendClose).diag = b.diag := by
  simp only [Block.sendClose]; (repeat' split) <;> simp
@[simp] theorem Block.sendClose_thermal (b : Block)  : (b.sendClose).thermal = b.thermal := by
  simp only [Block.sendClose]; (repeat' split) <;> simp
@[simp] theorem Block.sendClose_chainSet (b : Block)  : (b.sendClose).chainSet = b.chainSet := by
  simp only [Block.sendClose]; (repeat' split) <;> simp
@[simp] theorem Block.sendClose_socTable (b : Block)  : (b.sendClose).socTable = b.socTable := by
  simp only [Block.sendClose]; (repeat' split) <;> simp
@[simp] theorem Block.sendClose_tempCurve (b : Block)  : (b.sendClose).tempCurve = b.tempCurve := by
  simp only [Block.sendClose]; (repeat' split) <;> simp
@[simp] theorem Block.sendClose_dict (b : Block)  : (b.sendClose).dict = b.dict := by
  simp only [Block.sendClose]; (repeat' split) <;> simp
@[simp] theorem Block.sendClose_free (b : Block)  : (b.sendClose).free = b.free := by
  simp only [Block.sendClose]; (repeat' split) <;> simp
@[simp] theorem Block.heard_fuses (b : Block) (p : Port) : (b.heard p).fuses = b.fuses := by
  simp only [Block.heard]; (repeat' split) <;> simp
@[simp] theorem Block.heard_bedrock (b : Block) (p : Port) : (b.heard p).bedrock = b.bedrock := by
  simp only [Block.heard]; (repeat' split) <;> simp
@[simp] theorem Block.heard_journal (b : Block) (p : Port) : (b.heard p).journal = b.journal := by
  simp only [Block.heard]; (repeat' split) <;> simp
@[simp] theorem Block.heard_flint (b : Block) (p : Port) : (b.heard p).flint = b.flint := by
  simp only [Block.heard]; (repeat' split) <;> simp
@[simp] theorem Block.heard_nvm (b : Block) (p : Port) : (b.heard p).nvm = b.nvm := by
  simp only [Block.heard]; (repeat' split) <;> simp
@[simp] theorem Block.heard_tb (b : Block) (p : Port) : (b.heard p).tb = b.tb := by
  simp only [Block.heard]; (repeat' split) <;> simp
@[simp] theorem Block.heard_phys (b : Block) (p : Port) : (b.heard p).phys = b.phys := by
  simp only [Block.heard]; (repeat' split) <;> simp
@[simp] theorem Block.heard_gov (b : Block) (p : Port) : (b.heard p).gov = b.gov := by
  simp only [Block.heard]; (repeat' split) <;> simp
@[simp] theorem Block.heard_lanes (b : Block) (p : Port) : (b.heard p).lanes = b.lanes := by
  simp only [Block.heard]; (repeat' split) <;> simp
@[simp] theorem Block.heard_win (b : Block) (p : Port) : (b.heard p).win = b.win := by
  simp only [Block.heard]; (repeat' split) <;> simp
@[simp] theorem Block.heard_cap (b : Block) (p : Port) : (b.heard p).cap = b.cap := by
  simp only [Block.heard]; (repeat' split) <;> simp
@[simp] theorem Block.heard_keeper (b : Block) (p : Port) : (b.heard p).keeper = b.keeper := by
  simp only [Block.heard]; (repeat' split) <;> simp
@[simp] theorem Block.heard_aux (b : Block) (p : Port) : (b.heard p).aux = b.aux := by
  simp only [Block.heard]; (repeat' split) <;> simp
@[simp] theorem Block.heard_imp (b : Block) (p : Port) : (b.heard p).imp = b.imp := by
  simp only [Block.heard]; (repeat' split) <;> simp
@[simp] theorem Block.heard_link (b : Block) (p : Port) : (b.heard p).link = b.link := by
  simp only [Block.heard]; (repeat' split) <;> simp
@[simp] theorem Block.heard_access (b : Block) (p : Port) : (b.heard p).access = b.access := by
  simp only [Block.heard]; (repeat' split) <;> simp
@[simp] theorem Block.heard_host (b : Block) (p : Port) : (b.heard p).host = b.host := by
  simp only [Block.heard]; (repeat' split) <;> simp
@[simp] theorem Block.heard_diag (b : Block) (p : Port) : (b.heard p).diag = b.diag := by
  simp only [Block.heard]; (repeat' split) <;> simp
@[simp] theorem Block.heard_thermal (b : Block) (p : Port) : (b.heard p).thermal = b.thermal := by
  simp only [Block.heard]; (repeat' split) <;> simp
@[simp] theorem Block.heard_chainSet (b : Block) (p : Port) : (b.heard p).chainSet = b.chainSet := by
  simp only [Block.heard]; (repeat' split) <;> simp
@[simp] theorem Block.heard_socTable (b : Block) (p : Port) : (b.heard p).socTable = b.socTable := by
  simp only [Block.heard]; (repeat' split) <;> simp
@[simp] theorem Block.heard_tempCurve (b : Block) (p : Port) : (b.heard p).tempCurve = b.tempCurve := by
  simp only [Block.heard]; (repeat' split) <;> simp
@[simp] theorem Block.heard_dict (b : Block) (p : Port) : (b.heard p).dict = b.dict := by
  simp only [Block.heard]; (repeat' split) <;> simp
@[simp] theorem Block.heard_out (b : Block) (p : Port) : (b.heard p).out = b.out := by
  simp only [Block.heard]; (repeat' split) <;> simp
@[simp] theorem Block.heard_free (b : Block) (p : Port) : (b.heard p).free = b.free := by
  simp only [Block.heard]; (repeat' split) <;> simp
@[simp] theorem Block.disarm_fuses (b : Block)  : (b.disarm).fuses = b.fuses := by
  simp only [Block.disarm]; (repeat' split) <;> simp
@[simp] theorem Block.disarm_power (b : Block)  : (b.disarm).power = b.power := by
  simp only [Block.disarm]; (repeat' split) <;> simp
@[simp] theorem Block.disarm_bedrock (b : Block)  : (b.disarm).bedrock = b.bedrock := by
  simp only [Block.disarm]; (repeat' split) <;> simp
@[simp] theorem Block.disarm_journal (b : Block)  : (b.disarm).journal = b.journal := by
  simp only [Block.disarm]; (repeat' split) <;> simp
@[simp] theorem Block.disarm_flint (b : Block)  : (b.disarm).flint = b.flint := by
  simp only [Block.disarm]; (repeat' split) <;> simp
@[simp] theorem Block.disarm_nvm (b : Block)  : (b.disarm).nvm = b.nvm := by
  simp only [Block.disarm]; (repeat' split) <;> simp
@[simp] theorem Block.disarm_tb (b : Block)  : (b.disarm).tb = b.tb := by
  simp only [Block.disarm]; (repeat' split) <;> simp
@[simp] theorem Block.disarm_phys (b : Block)  : (b.disarm).phys = b.phys := by
  simp only [Block.disarm]; (repeat' split) <;> simp
@[simp] theorem Block.disarm_gov (b : Block)  : (b.disarm).gov = b.gov := by
  simp only [Block.disarm]; (repeat' split) <;> simp
@[simp] theorem Block.disarm_lanes (b : Block)  : (b.disarm).lanes = b.lanes := by
  simp only [Block.disarm]; (repeat' split) <;> simp
@[simp] theorem Block.disarm_win (b : Block)  : (b.disarm).win = b.win := by
  simp only [Block.disarm]; (repeat' split) <;> simp
@[simp] theorem Block.disarm_cap (b : Block)  : (b.disarm).cap = b.cap := by
  simp only [Block.disarm]; (repeat' split) <;> simp
@[simp] theorem Block.disarm_keeper (b : Block)  : (b.disarm).keeper = b.keeper := by
  simp only [Block.disarm]; (repeat' split) <;> simp
@[simp] theorem Block.disarm_aux (b : Block)  : (b.disarm).aux = b.aux := by
  simp only [Block.disarm]; (repeat' split) <;> simp
@[simp] theorem Block.disarm_imp (b : Block)  : (b.disarm).imp = b.imp := by
  simp only [Block.disarm]; (repeat' split) <;> simp
@[simp] theorem Block.disarm_link (b : Block)  : (b.disarm).link = b.link := by
  simp only [Block.disarm]; (repeat' split) <;> simp
@[simp] theorem Block.disarm_access (b : Block)  : (b.disarm).access = b.access := by
  simp only [Block.disarm]; (repeat' split) <;> simp
@[simp] theorem Block.disarm_host (b : Block)  : (b.disarm).host = b.host := by
  simp only [Block.disarm]; (repeat' split) <;> simp
@[simp] theorem Block.disarm_diag (b : Block)  : (b.disarm).diag = b.diag := by
  simp only [Block.disarm]; (repeat' split) <;> simp
@[simp] theorem Block.disarm_thermal (b : Block)  : (b.disarm).thermal = b.thermal := by
  simp only [Block.disarm]; (repeat' split) <;> simp
@[simp] theorem Block.disarm_chainSet (b : Block)  : (b.disarm).chainSet = b.chainSet := by
  simp only [Block.disarm]; (repeat' split) <;> simp
@[simp] theorem Block.disarm_socTable (b : Block)  : (b.disarm).socTable = b.socTable := by
  simp only [Block.disarm]; (repeat' split) <;> simp
@[simp] theorem Block.disarm_tempCurve (b : Block)  : (b.disarm).tempCurve = b.tempCurve := by
  simp only [Block.disarm]; (repeat' split) <;> simp
@[simp] theorem Block.disarm_out (b : Block)  : (b.disarm).out = b.out := by
  simp only [Block.disarm]; (repeat' split) <;> simp
@[simp] theorem Block.disarm_free (b : Block)  : (b.disarm).free = b.free := by
  simp only [Block.disarm]; (repeat' split) <;> simp
@[simp] theorem Block.closeTransfers_fuses (b : Block)  : (b.closeTransfers).fuses = b.fuses := rfl
@[simp] theorem Block.closeTransfers_power (b : Block)  : (b.closeTransfers).power = b.power := rfl
@[simp] theorem Block.closeTransfers_bedrock (b : Block)  : (b.closeTransfers).bedrock = b.bedrock := rfl
@[simp] theorem Block.closeTransfers_journal (b : Block)  : (b.closeTransfers).journal = b.journal := rfl
@[simp] theorem Block.closeTransfers_flint (b : Block)  : (b.closeTransfers).flint = b.flint := rfl
@[simp] theorem Block.closeTransfers_nvm (b : Block)  : (b.closeTransfers).nvm = b.nvm := rfl
@[simp] theorem Block.closeTransfers_tb (b : Block)  : (b.closeTransfers).tb = b.tb := rfl
@[simp] theorem Block.closeTransfers_phys (b : Block)  : (b.closeTransfers).phys = b.phys := rfl
@[simp] theorem Block.closeTransfers_gov (b : Block)  : (b.closeTransfers).gov = b.gov := rfl
@[simp] theorem Block.closeTransfers_lanes (b : Block)  : (b.closeTransfers).lanes = b.lanes := rfl
@[simp] theorem Block.closeTransfers_win (b : Block)  : (b.closeTransfers).win = b.win := rfl
@[simp] theorem Block.closeTransfers_cap (b : Block)  : (b.closeTransfers).cap = b.cap := rfl
@[simp] theorem Block.closeTransfers_keeper (b : Block)  : (b.closeTransfers).keeper = b.keeper := rfl
@[simp] theorem Block.closeTransfers_aux (b : Block)  : (b.closeTransfers).aux = b.aux := rfl
@[simp] theorem Block.closeTransfers_imp (b : Block)  : (b.closeTransfers).imp = b.imp := rfl
@[simp] theorem Block.closeTransfers_link (b : Block)  : (b.closeTransfers).link = b.link := rfl
@[simp] theorem Block.closeTransfers_diag (b : Block)  : (b.closeTransfers).diag = b.diag := rfl
@[simp] theorem Block.closeTransfers_thermal (b : Block)  : (b.closeTransfers).thermal = b.thermal := rfl
@[simp] theorem Block.closeTransfers_chainSet (b : Block)  : (b.closeTransfers).chainSet = b.chainSet := rfl
@[simp] theorem Block.closeTransfers_socTable (b : Block)  : (b.closeTransfers).socTable = b.socTable := rfl
@[simp] theorem Block.closeTransfers_tempCurve (b : Block)  : (b.closeTransfers).tempCurve = b.tempCurve := rfl
@[simp] theorem Block.closeTransfers_dict (b : Block)  : (b.closeTransfers).dict = b.dict := rfl
@[simp] theorem Block.closeTransfers_out (b : Block)  : (b.closeTransfers).out = b.out := rfl
@[simp] theorem Block.closeTransfers_free (b : Block)  : (b.closeTransfers).free = b.free := rfl

/-! ### What is read through those parts -/

@[simp] theorem Block.put_awake (b : Block) (k : Nat) (v : Int) : (b.put k v).awake = b.awake := by simp only [Block.awake, Block.put_power]
@[simp] theorem Block.put_measuring (b : Block) (k : Nat) (v : Int) : (b.put k v).measuring = b.measuring := by simp only [Block.measuring, Block.put_power]
@[simp] theorem Block.put_inFull (b : Block) (k : Nat) (v : Int) : (b.put k v).inFull = b.inFull := by simp only [Block.inFull, Block.put_power]
@[simp] theorem Block.put_now (b : Block) (k : Nat) (v : Int) : (b.put k v).now = b.now := by simp only [Block.now, Block.put_tb]
@[simp] theorem Block.put_engineRuns (b : Block) (k : Nat) (v : Int) (eng : Nat) : (b.put k v).engineRuns eng = b.engineRuns eng := by
  simp only [Block.engineRuns, Block.put_diag]
@[simp] theorem Block.countUp_awake (b : Block) (k n m : Nat) : (b.countUp k n m).awake = b.awake := by simp only [Block.awake, Block.countUp_power]
@[simp] theorem Block.countUp_measuring (b : Block) (k n m : Nat) : (b.countUp k n m).measuring = b.measuring := by simp only [Block.measuring, Block.countUp_power]
@[simp] theorem Block.countUp_inFull (b : Block) (k n m : Nat) : (b.countUp k n m).inFull = b.inFull := by simp only [Block.inFull, Block.countUp_power]
@[simp] theorem Block.countUp_now (b : Block) (k n m : Nat) : (b.countUp k n m).now = b.now := by simp only [Block.now, Block.countUp_tb]
@[simp] theorem Block.countUp_engineRuns (b : Block) (k n m : Nat) (eng : Nat) : (b.countUp k n m).engineRuns eng = b.engineRuns eng := by
  simp only [Block.engineRuns, Block.countUp_diag]
@[simp] theorem Block.count32_awake (b : Block) (k : Nat) : (b.count32 k).awake = b.awake := by simp only [Block.awake, Block.count32_power]
@[simp] theorem Block.count32_measuring (b : Block) (k : Nat) : (b.count32 k).measuring = b.measuring := by simp only [Block.measuring, Block.count32_power]
@[simp] theorem Block.count32_inFull (b : Block) (k : Nat) : (b.count32 k).inFull = b.inFull := by simp only [Block.inFull, Block.count32_power]
@[simp] theorem Block.count32_now (b : Block) (k : Nat) : (b.count32 k).now = b.now := by simp only [Block.now, Block.count32_tb]
@[simp] theorem Block.count32_engineRuns (b : Block) (k : Nat) (eng : Nat) : (b.count32 k).engineRuns eng = b.engineRuns eng := by
  simp only [Block.engineRuns, Block.count32_diag]
@[simp] theorem Block.putBit_awake (b : Block) (k i : Nat) (o : Bool) : (b.putBit k i o).awake = b.awake := by simp only [Block.awake, Block.putBit_power]
@[simp] theorem Block.putBit_measuring (b : Block) (k i : Nat) (o : Bool) : (b.putBit k i o).measuring = b.measuring := by simp only [Block.measuring, Block.putBit_power]
@[simp] theorem Block.putBit_inFull (b : Block) (k i : Nat) (o : Bool) : (b.putBit k i o).inFull = b.inFull := by simp only [Block.inFull, Block.putBit_power]
@[simp] theorem Block.putBit_now (b : Block) (k i : Nat) (o : Bool) : (b.putBit k i o).now = b.now := by simp only [Block.now, Block.putBit_tb]
@[simp] theorem Block.putBit_engineRuns (b : Block) (k i : Nat) (o : Bool) (eng : Nat) : (b.putBit k i o).engineRuns eng = b.engineRuns eng := by
  simp only [Block.engineRuns, Block.putBit_diag]
@[simp] theorem Block.putAll_awake (b : Block) (l : List (Nat × Int)) : (b.putAll l).awake = b.awake := by simp only [Block.awake, Block.putAll_power]
@[simp] theorem Block.putAll_measuring (b : Block) (l : List (Nat × Int)) : (b.putAll l).measuring = b.measuring := by simp only [Block.measuring, Block.putAll_power]
@[simp] theorem Block.putAll_inFull (b : Block) (l : List (Nat × Int)) : (b.putAll l).inFull = b.inFull := by simp only [Block.inFull, Block.putAll_power]
@[simp] theorem Block.putAll_now (b : Block) (l : List (Nat × Int)) : (b.putAll l).now = b.now := by simp only [Block.now, Block.putAll_tb]
@[simp] theorem Block.putAll_engineRuns (b : Block) (l : List (Nat × Int)) (eng : Nat) : (b.putAll l).engineRuns eng = b.engineRuns eng := by
  simp only [Block.engineRuns, Block.putAll_diag]
@[simp] theorem Block.at_awake (b : Block) (t : Nat) : (b.at t).awake = b.awake := by simp only [Block.awake, Block.at_power]
@[simp] theorem Block.at_measuring (b : Block) (t : Nat) : (b.at t).measuring = b.measuring := by simp only [Block.measuring, Block.at_power]
@[simp] theorem Block.at_inFull (b : Block) (t : Nat) : (b.at t).inFull = b.inFull := by simp only [Block.inFull, Block.at_power]
@[simp] theorem Block.at_engineRuns (b : Block) (t : Nat) (eng : Nat) : (b.at t).engineRuns eng = b.engineRuns eng := by
  simp only [Block.engineRuns, Block.at_diag]
@[simp] theorem Block.at_get (b : Block) (t : Nat) (key : Nat) : (b.at t).get key = b.get key := by
  simp only [Block.get, Block.at_dict]
@[simp] theorem Block.at_nat (b : Block) (t : Nat) (key : Nat) : (b.at t).nat key = b.nat key := by
  simp only [Block.nat, Block.at_get]
@[simp] theorem Block.at_on (b : Block) (t : Nat) (key : Nat) : (b.at t).on key = b.on key := by
  simp only [Block.on, Block.at_get]
@[simp] theorem Block.at_bit (b : Block) (t : Nat) (key i' : Nat) : (b.at t).bit key i' = b.bit key i' := by
  simp only [Block.bit, Block.at_nat]
@[simp] theorem Block.at_isHead (b : Block) (t : Nat) : (b.at t).isHead = b.isHead := by simp only [Block.isHead, Block.at_get]
@[simp] theorem Block.at_cells (b : Block) (t : Nat) : (b.at t).cells = b.cells := by simp only [Block.cells, Block.at_nat]
@[simp] theorem Block.at_noCells (b : Block) (t : Nat) : (b.at t).noCells = b.noCells := by simp only [Block.noCells, Block.at_get]
@[simp] theorem Block.at_live (b : Block) (t : Nat) (src : Nat) : (b.at t).live src = b.live src := by
  simp only [Block.live, Block.at_bit]
@[simp] theorem Block.at_latched (b : Block) (t : Nat) (src : Nat) : (b.at t).latched src = b.latched src := by
  simp only [Block.latched, Block.at_bit]
@[simp] theorem Block.emit_awake (b : Block) (e : Emission) : (b.emit e).awake = b.awake := by simp only [Block.awake, Block.emit_power]
@[simp] theorem Block.emit_measuring (b : Block) (e : Emission) : (b.emit e).measuring = b.measuring := by simp only [Block.measuring, Block.emit_power]
@[simp] theorem Block.emit_inFull (b : Block) (e : Emission) : (b.emit e).inFull = b.inFull := by simp only [Block.inFull, Block.emit_power]
@[simp] theorem Block.emit_now (b : Block) (e : Emission) : (b.emit e).now = b.now := by simp only [Block.now, Block.emit_tb]
@[simp] theorem Block.emit_engineRuns (b : Block) (e : Emission) (eng : Nat) : (b.emit e).engineRuns eng = b.engineRuns eng := by
  simp only [Block.engineRuns, Block.emit_diag]
@[simp] theorem Block.emit_get (b : Block) (e : Emission) (key : Nat) : (b.emit e).get key = b.get key := by
  simp only [Block.get, Block.emit_dict]
@[simp] theorem Block.emit_nat (b : Block) (e : Emission) (key : Nat) : (b.emit e).nat key = b.nat key := by
  simp only [Block.nat, Block.emit_get]
@[simp] theorem Block.emit_on (b : Block) (e : Emission) (key : Nat) : (b.emit e).on key = b.on key := by
  simp only [Block.on, Block.emit_get]
@[simp] theorem Block.emit_bit (b : Block) (e : Emission) (key i' : Nat) : (b.emit e).bit key i' = b.bit key i' := by
  simp only [Block.bit, Block.emit_nat]
@[simp] theorem Block.emit_isHead (b : Block) (e : Emission) : (b.emit e).isHead = b.isHead := by simp only [Block.isHead, Block.emit_get]
@[simp] theorem Block.emit_cells (b : Block) (e : Emission) : (b.emit e).cells = b.cells := by simp only [Block.cells, Block.emit_nat]
@[simp] theorem Block.emit_noCells (b : Block) (e : Emission) : (b.emit e).noCells = b.noCells := by simp only [Block.noCells, Block.emit_get]
@[simp] theorem Block.emit_live (b : Block) (e : Emission) (src : Nat) : (b.emit e).live src = b.live src := by
  simp only [Block.live, Block.emit_bit]
@[simp] theorem Block.emit_latched (b : Block) (e : Emission) (src : Nat) : (b.emit e).latched src = b.latched src := by
  simp only [Block.latched, Block.emit_bit]
@[simp] theorem Block.raise_awake (b : Block) (s d : Nat) : (b.raise s d).awake = b.awake := by simp only [Block.awake, Block.raise_power]
@[simp] theorem Block.raise_measuring (b : Block) (s d : Nat) : (b.raise s d).measuring = b.measuring := by simp only [Block.measuring, Block.raise_power]
@[simp] theorem Block.raise_inFull (b : Block) (s d : Nat) : (b.raise s d).inFull = b.inFull := by simp only [Block.inFull, Block.raise_power]
@[simp] theorem Block.raise_now (b : Block) (s d : Nat) : (b.raise s d).now = b.now := by simp only [Block.now, Block.raise_tb]
@[simp] theorem Block.raise_engineRuns (b : Block) (s d : Nat) (eng : Nat) : (b.raise s d).engineRuns eng = b.engineRuns eng := by
  simp only [Block.engineRuns, Block.raise_diag]
@[simp] theorem Block.raise_get (b : Block) (s d : Nat) (key : Nat) : (b.raise s d).get key = b.get key := by
  simp only [Block.get, Block.raise_dict]
@[simp] theorem Block.raise_nat (b : Block) (s d : Nat) (key : Nat) : (b.raise s d).nat key = b.nat key := by
  simp only [Block.nat, Block.raise_get]
@[simp] theorem Block.raise_on (b : Block) (s d : Nat) (key : Nat) : (b.raise s d).on key = b.on key := by
  simp only [Block.on, Block.raise_get]
@[simp] theorem Block.raise_bit (b : Block) (s d : Nat) (key i' : Nat) : (b.raise s d).bit key i' = b.bit key i' := by
  simp only [Block.bit, Block.raise_nat]
@[simp] theorem Block.raise_isHead (b : Block) (s d : Nat) : (b.raise s d).isHead = b.isHead := by simp only [Block.isHead, Block.raise_get]
@[simp] theorem Block.raise_cells (b : Block) (s d : Nat) : (b.raise s d).cells = b.cells := by simp only [Block.cells, Block.raise_nat]
@[simp] theorem Block.raise_noCells (b : Block) (s d : Nat) : (b.raise s d).noCells = b.noCells := by simp only [Block.noCells, Block.raise_get]
@[simp] theorem Block.raise_live (b : Block) (s d : Nat) (src : Nat) : (b.raise s d).live src = b.live src := by
  simp only [Block.live, Block.raise_bit]
@[simp] theorem Block.raise_latched (b : Block) (s d : Nat) (src : Nat) : (b.raise s d).latched src = b.latched src := by
  simp only [Block.latched, Block.raise_bit]
@[simp] theorem Block.raiseAtLeast_awake (b : Block) (s d c : Nat) : (b.raiseAtLeast s d c).awake = b.awake := by simp only [Block.awake, Block.raiseAtLeast_power]
@[simp] theorem Block.raiseAtLeast_measuring (b : Block) (s d c : Nat) : (b.raiseAtLeast s d c).measuring = b.measuring := by simp only [Block.measuring, Block.raiseAtLeast_power]
@[simp] theorem Block.raiseAtLeast_inFull (b : Block) (s d c : Nat) : (b.raiseAtLeast s d c).inFull = b.inFull := by simp only [Block.inFull, Block.raiseAtLeast_power]
@[simp] theorem Block.raiseAtLeast_now (b : Block) (s d c : Nat) : (b.raiseAtLeast s d c).now = b.now := by simp only [Block.now, Block.raiseAtLeast_tb]
@[simp] theorem Block.raiseAtLeast_engineRuns (b : Block) (s d c : Nat) (eng : Nat) : (b.raiseAtLeast s d c).engineRuns eng = b.engineRuns eng := by
  simp only [Block.engineRuns, Block.raiseAtLeast_diag]
@[simp] theorem Block.raiseAtLeast_get (b : Block) (s d c : Nat) (key : Nat) : (b.raiseAtLeast s d c).get key = b.get key := by
  simp only [Block.get, Block.raiseAtLeast_dict]
@[simp] theorem Block.raiseAtLeast_nat (b : Block) (s d c : Nat) (key : Nat) : (b.raiseAtLeast s d c).nat key = b.nat key := by
  simp only [Block.nat, Block.raiseAtLeast_get]
@[simp] theorem Block.raiseAtLeast_on (b : Block) (s d c : Nat) (key : Nat) : (b.raiseAtLeast s d c).on key = b.on key := by
  simp only [Block.on, Block.raiseAtLeast_get]
@[simp] theorem Block.raiseAtLeast_bit (b : Block) (s d c : Nat) (key i' : Nat) : (b.raiseAtLeast s d c).bit key i' = b.bit key i' := by
  simp only [Block.bit, Block.raiseAtLeast_nat]
@[simp] theorem Block.raiseAtLeast_isHead (b : Block) (s d c : Nat) : (b.raiseAtLeast s d c).isHead = b.isHead := by simp only [Block.isHead, Block.raiseAtLeast_get]
@[simp] theorem Block.raiseAtLeast_cells (b : Block) (s d c : Nat) : (b.raiseAtLeast s d c).cells = b.cells := by simp only [Block.cells, Block.raiseAtLeast_nat]
@[simp] theorem Block.raiseAtLeast_noCells (b : Block) (s d c : Nat) : (b.raiseAtLeast s d c).noCells = b.noCells := by simp only [Block.noCells, Block.raiseAtLeast_get]
@[simp] theorem Block.raiseAtLeast_live (b : Block) (s d c : Nat) (src : Nat) : (b.raiseAtLeast s d c).live src = b.live src := by
  simp only [Block.live, Block.raiseAtLeast_bit]
@[simp] theorem Block.raiseAtLeast_latched (b : Block) (s d c : Nat) (src : Nat) : (b.raiseAtLeast s d c).latched src = b.latched src := by
  simp only [Block.latched, Block.raiseAtLeast_bit]
@[simp] theorem Block.raiseExactly_awake (b : Block) (s d c : Nat) : (b.raiseExactly s d c).awake = b.awake := by simp only [Block.awake, Block.raiseExactly_power]
@[simp] theorem Block.raiseExactly_measuring (b : Block) (s d c : Nat) : (b.raiseExactly s d c).measuring = b.measuring := by simp only [Block.measuring, Block.raiseExactly_power]
@[simp] theorem Block.raiseExactly_inFull (b : Block) (s d c : Nat) : (b.raiseExactly s d c).inFull = b.inFull := by simp only [Block.inFull, Block.raiseExactly_power]
@[simp] theorem Block.raiseExactly_now (b : Block) (s d c : Nat) : (b.raiseExactly s d c).now = b.now := by simp only [Block.now, Block.raiseExactly_tb]
@[simp] theorem Block.raiseExactly_engineRuns (b : Block) (s d c : Nat) (eng : Nat) : (b.raiseExactly s d c).engineRuns eng = b.engineRuns eng := by
  simp only [Block.engineRuns, Block.raiseExactly_diag]
@[simp] theorem Block.raiseExactly_get (b : Block) (s d c : Nat) (key : Nat) : (b.raiseExactly s d c).get key = b.get key := by
  simp only [Block.get, Block.raiseExactly_dict]
@[simp] theorem Block.raiseExactly_nat (b : Block) (s d c : Nat) (key : Nat) : (b.raiseExactly s d c).nat key = b.nat key := by
  simp only [Block.nat, Block.raiseExactly_get]
@[simp] theorem Block.raiseExactly_on (b : Block) (s d c : Nat) (key : Nat) : (b.raiseExactly s d c).on key = b.on key := by
  simp only [Block.on, Block.raiseExactly_get]
@[simp] theorem Block.raiseExactly_bit (b : Block) (s d c : Nat) (key i' : Nat) : (b.raiseExactly s d c).bit key i' = b.bit key i' := by
  simp only [Block.bit, Block.raiseExactly_nat]
@[simp] theorem Block.raiseExactly_isHead (b : Block) (s d c : Nat) : (b.raiseExactly s d c).isHead = b.isHead := by simp only [Block.isHead, Block.raiseExactly_get]
@[simp] theorem Block.raiseExactly_cells (b : Block) (s d c : Nat) : (b.raiseExactly s d c).cells = b.cells := by simp only [Block.cells, Block.raiseExactly_nat]
@[simp] theorem Block.raiseExactly_noCells (b : Block) (s d c : Nat) : (b.raiseExactly s d c).noCells = b.noCells := by simp only [Block.noCells, Block.raiseExactly_get]
@[simp] theorem Block.raiseExactly_live (b : Block) (s d c : Nat) (src : Nat) : (b.raiseExactly s d c).live src = b.live src := by
  simp only [Block.live, Block.raiseExactly_bit]
@[simp] theorem Block.raiseExactly_latched (b : Block) (s d c : Nat) (src : Nat) : (b.raiseExactly s d c).latched src = b.latched src := by
  simp only [Block.latched, Block.raiseExactly_bit]
@[simp] theorem Block.reason_awake (b : Block) (r : Reason) (o : Bool) : (b.reason r o).awake = b.awake := by simp only [Block.awake, Block.reason_power]
@[simp] theorem Block.reason_measuring (b : Block) (r : Reason) (o : Bool) : (b.reason r o).measuring = b.measuring := by simp only [Block.measuring, Block.reason_power]
@[simp] theorem Block.reason_inFull (b : Block) (r : Reason) (o : Bool) : (b.reason r o).inFull = b.inFull := by simp only [Block.inFull, Block.reason_power]
@[simp] theorem Block.reason_now (b : Block) (r : Reason) (o : Bool) : (b.reason r o).now = b.now := by simp only [Block.now, Block.reason_tb]
@[simp] theorem Block.reason_engineRuns (b : Block) (r : Reason) (o : Bool) (eng : Nat) : (b.reason r o).engineRuns eng = b.engineRuns eng := by
  simp only [Block.engineRuns, Block.reason_diag]
@[simp] theorem Block.followReasons_awake (b : Block)  : (b.followReasons).awake = b.awake := by simp only [Block.awake, Block.followReasons_power]
@[simp] theorem Block.followReasons_measuring (b : Block)  : (b.followReasons).measuring = b.measuring := by simp only [Block.measuring, Block.followReasons_power]
@[simp] theorem Block.followReasons_inFull (b : Block)  : (b.followReasons).inFull = b.inFull := by simp only [Block.inFull, Block.followReasons_power]
@[simp] theorem Block.followReasons_now (b : Block)  : (b.followReasons).now = b.now := by simp only [Block.now, Block.followReasons_tb]
@[simp] theorem Block.followReasons_engineRuns (b : Block)  (eng : Nat) : (b.followReasons).engineRuns eng = b.engineRuns eng := by
  simp only [Block.engineRuns, Block.followReasons_diag]
@[simp] theorem Block.dropLatch_awake (b : Block) (s : Nat) : (b.dropLatch s).awake = b.awake := by simp only [Block.awake, Block.dropLatch_power]
@[simp] theorem Block.dropLatch_measuring (b : Block) (s : Nat) : (b.dropLatch s).measuring = b.measuring := by simp only [Block.measuring, Block.dropLatch_power]
@[simp] theorem Block.dropLatch_inFull (b : Block) (s : Nat) : (b.dropLatch s).inFull = b.inFull := by simp only [Block.inFull, Block.dropLatch_power]
@[simp] theorem Block.dropLatch_now (b : Block) (s : Nat) : (b.dropLatch s).now = b.now := by simp only [Block.now, Block.dropLatch_tb]
@[simp] theorem Block.dropLatch_engineRuns (b : Block) (s : Nat) (eng : Nat) : (b.dropLatch s).engineRuns eng = b.engineRuns eng := by
  simp only [Block.engineRuns, Block.dropLatch_diag]
@[simp] theorem Block.clearLive_awake (b : Block) (s : Nat) : (b.clearLive s).awake = b.awake := by simp only [Block.awake, Block.clearLive_power]
@[simp] theorem Block.clearLive_measuring (b : Block) (s : Nat) : (b.clearLive s).measuring = b.measuring := by simp only [Block.measuring, Block.clearLive_power]
@[simp] theorem Block.clearLive_inFull (b : Block) (s : Nat) : (b.clearLive s).inFull = b.inFull := by simp only [Block.inFull, Block.clearLive_power]
@[simp] theorem Block.clearLive_now (b : Block) (s : Nat) : (b.clearLive s).now = b.now := by simp only [Block.now, Block.clearLive_tb]
@[simp] theorem Block.clearLive_engineRuns (b : Block) (s : Nat) (eng : Nat) : (b.clearLive s).engineRuns eng = b.engineRuns eng := by
  simp only [Block.engineRuns, Block.clearLive_diag]
@[simp] theorem Block.follow_awake (b : Block) (s d : Nat) (o : Bool) : (b.follow s d o).awake = b.awake := by simp only [Block.awake, Block.follow_power]
@[simp] theorem Block.follow_measuring (b : Block) (s d : Nat) (o : Bool) : (b.follow s d o).measuring = b.measuring := by simp only [Block.measuring, Block.follow_power]
@[simp] theorem Block.follow_inFull (b : Block) (s d : Nat) (o : Bool) : (b.follow s d o).inFull = b.inFull := by simp only [Block.inFull, Block.follow_power]
@[simp] theorem Block.follow_now (b : Block) (s d : Nat) (o : Bool) : (b.follow s d o).now = b.now := by simp only [Block.now, Block.follow_tb]
@[simp] theorem Block.follow_engineRuns (b : Block) (s d : Nat) (o : Bool) (eng : Nat) : (b.follow s d o).engineRuns eng = b.engineRuns eng := by
  simp only [Block.engineRuns, Block.follow_diag]
@[simp] theorem Block.attend_awake (b : Block) (i : Nat) : (b.attend i).awake = b.awake := by simp only [Block.awake, Block.attend_power]
@[simp] theorem Block.attend_measuring (b : Block) (i : Nat) : (b.attend i).measuring = b.measuring := by simp only [Block.measuring, Block.attend_power]
@[simp] theorem Block.attend_inFull (b : Block) (i : Nat) : (b.attend i).inFull = b.inFull := by simp only [Block.inFull, Block.attend_power]
@[simp] theorem Block.attend_now (b : Block) (i : Nat) : (b.attend i).now = b.now := by simp only [Block.now, Block.attend_tb]
@[simp] theorem Block.attend_engineRuns (b : Block) (i : Nat) (eng : Nat) : (b.attend i).engineRuns eng = b.engineRuns eng := by
  simp only [Block.engineRuns, Block.attend_diag]
@[simp] theorem Block.journalWrite_awake (b : Block) (e : JEntry) (l : List Nat) : (b.journalWrite e l).awake = b.awake := by simp only [Block.awake, Block.journalWrite_power]
@[simp] theorem Block.journalWrite_measuring (b : Block) (e : JEntry) (l : List Nat) : (b.journalWrite e l).measuring = b.measuring := by simp only [Block.measuring, Block.journalWrite_power]
@[simp] theorem Block.journalWrite_inFull (b : Block) (e : JEntry) (l : List Nat) : (b.journalWrite e l).inFull = b.inFull := by simp only [Block.inFull, Block.journalWrite_power]
@[simp] theorem Block.journalWrite_now (b : Block) (e : JEntry) (l : List Nat) : (b.journalWrite e l).now = b.now := by simp only [Block.now, Block.journalWrite_tb]
@[simp] theorem Block.journalWrite_engineRuns (b : Block) (e : JEntry) (l : List Nat) (eng : Nat) : (b.journalWrite e l).engineRuns eng = b.engineRuns eng := by
  simp only [Block.engineRuns, Block.journalWrite_diag]
@[simp] theorem Block.event_awake (b : Block) (c d : Nat) : (b.event c d).awake = b.awake := by simp only [Block.awake, Block.event_power]
@[simp] theorem Block.event_measuring (b : Block) (c d : Nat) : (b.event c d).measuring = b.measuring := by simp only [Block.measuring, Block.event_power]
@[simp] theorem Block.event_inFull (b : Block) (c d : Nat) : (b.event c d).inFull = b.inFull := by simp only [Block.inFull, Block.event_power]
@[simp] theorem Block.event_now (b : Block) (c d : Nat) : (b.event c d).now = b.now := by simp only [Block.now, Block.event_tb]
@[simp] theorem Block.event_engineRuns (b : Block) (c d : Nat) (eng : Nat) : (b.event c d).engineRuns eng = b.engineRuns eng := by
  simp only [Block.engineRuns, Block.event_diag]
@[simp] theorem Block.editCh_awake (b : Block) (i : Nat) (f : GovCh → GovCh) : (b.editCh i f).awake = b.awake := by simp only [Block.awake, Block.editCh_power]
@[simp] theorem Block.editCh_measuring (b : Block) (i : Nat) (f : GovCh → GovCh) : (b.editCh i f).measuring = b.measuring := by simp only [Block.measuring, Block.editCh_power]
@[simp] theorem Block.editCh_inFull (b : Block) (i : Nat) (f : GovCh → GovCh) : (b.editCh i f).inFull = b.inFull := by simp only [Block.inFull, Block.editCh_power]
@[simp] theorem Block.editCh_now (b : Block) (i : Nat) (f : GovCh → GovCh) : (b.editCh i f).now = b.now := by simp only [Block.now, Block.editCh_tb]
@[simp] theorem Block.editCh_engineRuns (b : Block) (i : Nat) (f : GovCh → GovCh) (eng : Nat) : (b.editCh i f).engineRuns eng = b.engineRuns eng := by
  simp only [Block.engineRuns, Block.editCh_diag]
@[simp] theorem Block.editCh_get (b : Block) (i : Nat) (f : GovCh → GovCh) (key : Nat) : (b.editCh i f).get key = b.get key := by
  simp only [Block.get, Block.editCh_dict]
@[simp] theorem Block.editCh_nat (b : Block) (i : Nat) (f : GovCh → GovCh) (key : Nat) : (b.editCh i f).nat key = b.nat key := by
  simp only [Block.nat, Block.editCh_get]
@[simp] theorem Block.editCh_on (b : Block) (i : Nat) (f : GovCh → GovCh) (key : Nat) : (b.editCh i f).on key = b.on key := by
  simp only [Block.on, Block.editCh_get]
@[simp] theorem Block.editCh_bit (b : Block) (i : Nat) (f : GovCh → GovCh) (key i' : Nat) : (b.editCh i f).bit key i' = b.bit key i' := by
  simp only [Block.bit, Block.editCh_nat]
@[simp] theorem Block.editCh_isHead (b : Block) (i : Nat) (f : GovCh → GovCh) : (b.editCh i f).isHead = b.isHead := by simp only [Block.isHead, Block.editCh_get]
@[simp] theorem Block.editCh_cells (b : Block) (i : Nat) (f : GovCh → GovCh) : (b.editCh i f).cells = b.cells := by simp only [Block.cells, Block.editCh_nat]
@[simp] theorem Block.editCh_noCells (b : Block) (i : Nat) (f : GovCh → GovCh) : (b.editCh i f).noCells = b.noCells := by simp only [Block.noCells, Block.editCh_get]
@[simp] theorem Block.editCh_live (b : Block) (i : Nat) (f : GovCh → GovCh) (src : Nat) : (b.editCh i f).live src = b.live src := by
  simp only [Block.live, Block.editCh_bit]
@[simp] theorem Block.editCh_latched (b : Block) (i : Nat) (f : GovCh → GovCh) (src : Nat) : (b.editCh i f).latched src = b.latched src := by
  simp only [Block.latched, Block.editCh_bit]
@[simp] theorem Block.switchesOff_awake (b : Block)  : (b.switchesOff).awake = b.awake := by simp only [Block.awake, Block.switchesOff_power]
@[simp] theorem Block.switchesOff_measuring (b : Block)  : (b.switchesOff).measuring = b.measuring := by simp only [Block.measuring, Block.switchesOff_power]
@[simp] theorem Block.switchesOff_inFull (b : Block)  : (b.switchesOff).inFull = b.inFull := by simp only [Block.inFull, Block.switchesOff_power]
@[simp] theorem Block.switchesOff_now (b : Block)  : (b.switchesOff).now = b.now := by simp only [Block.now, Block.switchesOff_tb]
@[simp] theorem Block.switchesOff_engineRuns (b : Block)  (eng : Nat) : (b.switchesOff).engineRuns eng = b.engineRuns eng := by
  simp only [Block.engineRuns, Block.switchesOff_diag]
@[simp] theorem Block.switchesOff_get (b : Block)  (key : Nat) : (b.switchesOff).get key = b.get key := by
  simp only [Block.get, Block.switchesOff_dict]
@[simp] theorem Block.switchesOff_nat (b : Block)  (key : Nat) : (b.switchesOff).nat key = b.nat key := by
  simp only [Block.nat, Block.switchesOff_get]
@[simp] theorem Block.switchesOff_on (b : Block)  (key : Nat) : (b.switchesOff).on key = b.on key := by
  simp only [Block.on, Block.switchesOff_get]
@[simp] theorem Block.switchesOff_bit (b : Block)  (key i' : Nat) : (b.switchesOff).bit key i' = b.bit key i' := by
  simp only [Block.bit, Block.switchesOff_nat]
@[simp] theorem Block.switchesOff_isHead (b : Block)  : (b.switchesOff).isHead = b.isHead := by simp only [Block.isHead, Block.switchesOff_get]
@[simp] theorem Block.switchesOff_cells (b : Block)  : (b.switchesOff).cells = b.cells := by simp only [Block.cells, Block.switchesOff_nat]
@[simp] theorem Block.switchesOff_noCells (b : Block)  : (b.switchesOff).noCells = b.noCells := by simp only [Block.noCells, Block.switchesOff_get]
@[simp] theorem Block.switchesOff_live (b : Block)  (src : Nat) : (b.switchesOff).live src = b.live src := by
  simp only [Block.live, Block.switchesOff_bit]
@[simp] theorem Block.switchesOff_latched (b : Block)  (src : Nat) : (b.switchesOff).latched src = b.latched src := by
  simp only [Block.latched, Block.switchesOff_bit]
@[simp] theorem Block.turnOn_awake (b : Block) (i : Nat) (o : Owner) : (b.turnOn i o).awake = b.awake := by simp only [Block.awake, Block.turnOn_power]
@[simp] theorem Block.turnOn_measuring (b : Block) (i : Nat) (o : Owner) : (b.turnOn i o).measuring = b.measuring := by simp only [Block.measuring, Block.turnOn_power]
@[simp] theorem Block.turnOn_inFull (b : Block) (i : Nat) (o : Owner) : (b.turnOn i o).inFull = b.inFull := by simp only [Block.inFull, Block.turnOn_power]
@[simp] theorem Block.turnOn_now (b : Block) (i : Nat) (o : Owner) : (b.turnOn i o).now = b.now := by simp only [Block.now, Block.turnOn_tb]
@[simp] theorem Block.turnOn_engineRuns (b : Block) (i : Nat) (o : Owner) (eng : Nat) : (b.turnOn i o).engineRuns eng = b.engineRuns eng := by
  simp only [Block.engineRuns, Block.turnOn_diag]
@[simp] theorem Block.turnOn_get (b : Block) (i : Nat) (o : Owner) (key : Nat) : (b.turnOn i o).get key = b.get key := by
  simp only [Block.get, Block.turnOn_dict]
@[simp] theorem Block.turnOn_nat (b : Block) (i : Nat) (o : Owner) (key : Nat) : (b.turnOn i o).nat key = b.nat key := by
  simp only [Block.nat, Block.turnOn_get]
@[simp] theorem Block.turnOn_on (b : Block) (i : Nat) (o : Owner) (key : Nat) : (b.turnOn i o).on key = b.on key := by
  simp only [Block.on, Block.turnOn_get]
@[simp] theorem Block.turnOn_bit (b : Block) (i : Nat) (o : Owner) (key i' : Nat) : (b.turnOn i o).bit key i' = b.bit key i' := by
  simp only [Block.bit, Block.turnOn_nat]
@[simp] theorem Block.turnOn_isHead (b : Block) (i : Nat) (o : Owner) : (b.turnOn i o).isHead = b.isHead := by simp only [Block.isHead, Block.turnOn_get]
@[simp] theorem Block.turnOn_cells (b : Block) (i : Nat) (o : Owner) : (b.turnOn i o).cells = b.cells := by simp only [Block.cells, Block.turnOn_nat]
@[simp] theorem Block.turnOn_noCells (b : Block) (i : Nat) (o : Owner) : (b.turnOn i o).noCells = b.noCells := by simp only [Block.noCells, Block.turnOn_get]
@[simp] theorem Block.turnOn_live (b : Block) (i : Nat) (o : Owner) (src : Nat) : (b.turnOn i o).live src = b.live src := by
  simp only [Block.live, Block.turnOn_bit]
@[simp] theorem Block.turnOn_latched (b : Block) (i : Nat) (o : Owner) (src : Nat) : (b.turnOn i o).latched src = b.latched src := by
  simp only [Block.latched, Block.turnOn_bit]
@[simp] theorem Block.noteSat_awake (b : Block) (k : Nat) (h : Bool) : (b.noteSat k h).awake = b.awake := by simp only [Block.awake, Block.noteSat_power]
@[simp] theorem Block.noteSat_measuring (b : Block) (k : Nat) (h : Bool) : (b.noteSat k h).measuring = b.measuring := by simp only [Block.measuring, Block.noteSat_power]
@[simp] theorem Block.noteSat_inFull (b : Block) (k : Nat) (h : Bool) : (b.noteSat k h).inFull = b.inFull := by simp only [Block.inFull, Block.noteSat_power]
@[simp] theorem Block.noteSat_now (b : Block) (k : Nat) (h : Bool) : (b.noteSat k h).now = b.now := by simp only [Block.now, Block.noteSat_tb]
@[simp] theorem Block.noteSat_engineRuns (b : Block) (k : Nat) (h : Bool) (eng : Nat) : (b.noteSat k h).engineRuns eng = b.engineRuns eng := by
  unfold Block.noteSat; split <;> rfl
@[simp] theorem Block.noteSat_get (b : Block) (k : Nat) (h : Bool) (key : Nat) : (b.noteSat k h).get key = b.get key := by
  simp only [Block.get, Block.noteSat_dict]
@[simp] theorem Block.noteSat_nat (b : Block) (k : Nat) (h : Bool) (key : Nat) : (b.noteSat k h).nat key = b.nat key := by
  simp only [Block.nat, Block.noteSat_get]
@[simp] theorem Block.noteSat_on (b : Block) (k : Nat) (h : Bool) (key : Nat) : (b.noteSat k h).on key = b.on key := by
  simp only [Block.on, Block.noteSat_get]
@[simp] theorem Block.noteSat_bit (b : Block) (k : Nat) (h : Bool) (key i' : Nat) : (b.noteSat k h).bit key i' = b.bit key i' := by
  simp only [Block.bit, Block.noteSat_nat]
@[simp] theorem Block.noteSat_isHead (b : Block) (k : Nat) (h : Bool) : (b.noteSat k h).isHead = b.isHead := by simp only [Block.isHead, Block.noteSat_get]
@[simp] theorem Block.noteSat_cells (b : Block) (k : Nat) (h : Bool) : (b.noteSat k h).cells = b.cells := by simp only [Block.cells, Block.noteSat_nat]
@[simp] theorem Block.noteSat_noCells (b : Block) (k : Nat) (h : Bool) : (b.noteSat k h).noCells = b.noCells := by simp only [Block.noCells, Block.noteSat_get]
@[simp] theorem Block.noteSat_live (b : Block) (k : Nat) (h : Bool) (src : Nat) : (b.noteSat k h).live src = b.live src := by
  simp only [Block.live, Block.noteSat_bit]
@[simp] theorem Block.noteSat_latched (b : Block) (k : Nat) (h : Bool) (src : Nat) : (b.noteSat k h).latched src = b.latched src := by
  simp only [Block.latched, Block.noteSat_bit]
@[simp] theorem Block.sendHeld_awake (b : Block) (p : Port) (e : Emission) : (b.sendHeld p e).awake = b.awake := by simp only [Block.awake, Block.sendHeld_power]
@[simp] theorem Block.sendHeld_measuring (b : Block) (p : Port) (e : Emission) : (b.sendHeld p e).measuring = b.measuring := by simp only [Block.measuring, Block.sendHeld_power]
@[simp] theorem Block.sendHeld_inFull (b : Block) (p : Port) (e : Emission) : (b.sendHeld p e).inFull = b.inFull := by simp only [Block.inFull, Block.sendHeld_power]
@[simp] theorem Block.sendHeld_now (b : Block) (p : Port) (e : Emission) : (b.sendHeld p e).now = b.now := by simp only [Block.now, Block.sendHeld_tb]
@[simp] theorem Block.sendHeld_engineRuns (b : Block) (p : Port) (e : Emission) (eng : Nat) : (b.sendHeld p e).engineRuns eng = b.engineRuns eng := by
  simp only [Block.engineRuns, Block.sendHeld_diag]
@[simp] theorem Block.sendHeld_get (b : Block) (p : Port) (e : Emission) (key : Nat) : (b.sendHeld p e).get key = b.get key := by
  simp only [Block.get, Block.sendHeld_dict]
@[simp] theorem Block.sendHeld_nat (b : Block) (p : Port) (e : Emission) (key : Nat) : (b.sendHeld p e).nat key = b.nat key := by
  simp only [Block.nat, Block.sendHeld_get]
@[simp] theorem Block.sendHeld_on (b : Block) (p : Port) (e : Emission) (key : Nat) : (b.sendHeld p e).on key = b.on key := by
  simp only [Block.on, Block.sendHeld_get]
@[simp] theorem Block.sendHeld_bit (b : Block) (p : Port) (e : Emission) (key i' : Nat) : (b.sendHeld p e).bit key i' = b.bit key i' := by
  simp only [Block.bit, Block.sendHeld_nat]
@[simp] theorem Block.sendHeld_isHead (b : Block) (p : Port) (e : Emission) : (b.sendHeld p e).isHead = b.isHead := by simp only [Block.isHead, Block.sendHeld_get]
@[simp] theorem Block.sendHeld_cells (b : Block) (p : Port) (e : Emission) : (b.sendHeld p e).cells = b.cells := by simp only [Block.cells, Block.sendHeld_nat]
@[simp] theorem Block.sendHeld_noCells (b : Block) (p : Port) (e : Emission) : (b.sendHeld p e).noCells = b.noCells := by simp only [Block.noCells, Block.sendHeld_get]
@[simp] theorem Block.sendHeld_live (b : Block) (p : Port) (e : Emission) (src : Nat) : (b.sendHeld p e).live src = b.live src := by
  simp only [Block.live, Block.sendHeld_bit]
@[simp] theorem Block.sendHeld_latched (b : Block) (p : Port) (e : Emission) (src : Nat) : (b.sendHeld p e).latched src = b.latched src := by
  simp only [Block.latched, Block.sendHeld_bit]
@[simp] theorem Block.sendPulse_awake (b : Block) (p : Port) (c : PulseClass) : (b.sendPulse p c).awake = b.awake := by simp only [Block.awake, Block.sendPulse_power]
@[simp] theorem Block.sendPulse_measuring (b : Block) (p : Port) (c : PulseClass) : (b.sendPulse p c).measuring = b.measuring := by simp only [Block.measuring, Block.sendPulse_power]
@[simp] theorem Block.sendPulse_inFull (b : Block) (p : Port) (c : PulseClass) : (b.sendPulse p c).inFull = b.inFull := by simp only [Block.inFull, Block.sendPulse_power]
@[simp] theorem Block.sendPulse_now (b : Block) (p : Port) (c : PulseClass) : (b.sendPulse p c).now = b.now := by simp only [Block.now, Block.sendPulse_tb]
@[simp] theorem Block.sendPulse_engineRuns (b : Block) (p : Port) (c : PulseClass) (eng : Nat) : (b.sendPulse p c).engineRuns eng = b.engineRuns eng := by
  simp only [Block.engineRuns, Block.sendPulse_diag]
@[simp] theorem Block.sendPulse_get (b : Block) (p : Port) (c : PulseClass) (key : Nat) : (b.sendPulse p c).get key = b.get key := by
  simp only [Block.get, Block.sendPulse_dict]
@[simp] theorem Block.sendPulse_nat (b : Block) (p : Port) (c : PulseClass) (key : Nat) : (b.sendPulse p c).nat key = b.nat key := by
  simp only [Block.nat, Block.sendPulse_get]
@[simp] theorem Block.sendPulse_on (b : Block) (p : Port) (c : PulseClass) (key : Nat) : (b.sendPulse p c).on key = b.on key := by
  simp only [Block.on, Block.sendPulse_get]
@[simp] theorem Block.sendPulse_bit (b : Block) (p : Port) (c : PulseClass) (key i' : Nat) : (b.sendPulse p c).bit key i' = b.bit key i' := by
  simp only [Block.bit, Block.sendPulse_nat]
@[simp] theorem Block.sendPulse_isHead (b : Block) (p : Port) (c : PulseClass) : (b.sendPulse p c).isHead = b.isHead := by simp only [Block.isHead, Block.sendPulse_get]
@[simp] theorem Block.sendPulse_cells (b : Block) (p : Port) (c : PulseClass) : (b.sendPulse p c).cells = b.cells := by simp only [Block.cells, Block.sendPulse_nat]
@[simp] theorem Block.sendPulse_noCells (b : Block) (p : Port) (c : PulseClass) : (b.sendPulse p c).noCells = b.noCells := by simp only [Block.noCells, Block.sendPulse_get]
@[simp] theorem Block.sendPulse_live (b : Block) (p : Port) (c : PulseClass) (src : Nat) : (b.sendPulse p c).live src = b.live src := by
  simp only [Block.live, Block.sendPulse_bit]
@[simp] theorem Block.sendPulse_latched (b : Block) (p : Port) (c : PulseClass) (src : Nat) : (b.sendPulse p c).latched src = b.latched src := by
  simp only [Block.latched, Block.sendPulse_bit]
@[simp] theorem Block.setSending_awake (b : Block) (p : Port) (f : Option (List Byte)) : (b.setSending p f).awake = b.awake := by simp only [Block.awake, Block.setSending_power]
@[simp] theorem Block.setSending_measuring (b : Block) (p : Port) (f : Option (List Byte)) : (b.setSending p f).measuring = b.measuring := by simp only [Block.measuring, Block.setSending_power]
@[simp] theorem Block.setSending_inFull (b : Block) (p : Port) (f : Option (List Byte)) : (b.setSending p f).inFull = b.inFull := by simp only [Block.inFull, Block.setSending_power]
@[simp] theorem Block.setSending_now (b : Block) (p : Port) (f : Option (List Byte)) : (b.setSending p f).now = b.now := by simp only [Block.now, Block.setSending_tb]
@[simp] theorem Block.setSending_engineRuns (b : Block) (p : Port) (f : Option (List Byte)) (eng : Nat) : (b.setSending p f).engineRuns eng = b.engineRuns eng := by
  simp only [Block.engineRuns, Block.setSending_diag]
@[simp] theorem Block.setSending_get (b : Block) (p : Port) (f : Option (List Byte)) (key : Nat) : (b.setSending p f).get key = b.get key := by
  simp only [Block.get, Block.setSending_dict]
@[simp] theorem Block.setSending_nat (b : Block) (p : Port) (f : Option (List Byte)) (key : Nat) : (b.setSending p f).nat key = b.nat key := by
  simp only [Block.nat, Block.setSending_get]
@[simp] theorem Block.setSending_on (b : Block) (p : Port) (f : Option (List Byte)) (key : Nat) : (b.setSending p f).on key = b.on key := by
  simp only [Block.on, Block.setSending_get]
@[simp] theorem Block.setSending_bit (b : Block) (p : Port) (f : Option (List Byte)) (key i' : Nat) : (b.setSending p f).bit key i' = b.bit key i' := by
  simp only [Block.bit, Block.setSending_nat]
@[simp] theorem Block.setSending_isHead (b : Block) (p : Port) (f : Option (List Byte)) : (b.setSending p f).isHead = b.isHead := by simp only [Block.isHead, Block.setSending_get]
@[simp] theorem Block.setSending_cells (b : Block) (p : Port) (f : Option (List Byte)) : (b.setSending p f).cells = b.cells := by simp only [Block.cells, Block.setSending_nat]
@[simp] theorem Block.setSending_noCells (b : Block) (p : Port) (f : Option (List Byte)) : (b.setSending p f).noCells = b.noCells := by simp only [Block.noCells, Block.setSending_get]
@[simp] theorem Block.setSending_live (b : Block) (p : Port) (f : Option (List Byte)) (src : Nat) : (b.setSending p f).live src = b.live src := by
  simp only [Block.live, Block.setSending_bit]
@[simp] theorem Block.setSending_latched (b : Block) (p : Port) (f : Option (List Byte)) (src : Nat) : (b.setSending p f).latched src = b.latched src := by
  simp only [Block.latched, Block.setSending_bit]
@[simp] theorem Block.sendAlarm_awake (b : Block)  : (b.sendAlarm).awake = b.awake := by simp only [Block.awake, Block.sendAlarm_power]
@[simp] theorem Block.sendAlarm_measuring (b : Block)  : (b.sendAlarm).measuring = b.measuring := by simp only [Block.measuring, Block.sendAlarm_power]
@[simp] theorem Block.sendAlarm_inFull (b : Block)  : (b.sendAlarm).inFull = b.inFull := by simp only [Block.inFull, Block.sendAlarm_power]
@[simp] theorem Block.sendAlarm_now (b : Block)  : (b.sendAlarm).now = b.now := by simp only [Block.now, Block.sendAlarm_tb]
@[simp] theorem Block.sendAlarm_engineRuns (b : Block)  (eng : Nat) : (b.sendAlarm).engineRuns eng = b.engineRuns eng := by
  simp only [Block.engineRuns, Block.sendAlarm_diag]
@[simp] theorem Block.setFlt_awake (b : Block) (l : Bool) : (b.setFlt l).awake = b.awake := by simp only [Block.awake, Block.setFlt_power]
@[simp] theorem Block.setFlt_measuring (b : Block) (l : Bool) : (b.setFlt l).measuring = b.measuring := by simp only [Block.measuring, Block.setFlt_power]
@[simp] theorem Block.setFlt_inFull (b : Block) (l : Bool) : (b.setFlt l).inFull = b.inFull := by simp only [Block.inFull, Block.setFlt_power]
@[simp] theorem Block.setFlt_now (b : Block) (l : Bool) : (b.setFlt l).now = b.now := by simp only [Block.now, Block.setFlt_tb]
@[simp] theorem Block.setFlt_engineRuns (b : Block) (l : Bool) (eng : Nat) : (b.setFlt l).engineRuns eng = b.engineRuns eng := by
  simp only [Block.engineRuns, Block.setFlt_diag]
@[simp] theorem Block.setFlt_get (b : Block) (l : Bool) (key : Nat) : (b.setFlt l).get key = b.get key := by
  simp only [Block.get, Block.setFlt_dict]
@[simp] theorem Block.setFlt_nat (b : Block) (l : Bool) (key : Nat) : (b.setFlt l).nat key = b.nat key := by
  simp only [Block.nat, Block.setFlt_get]
@[simp] theorem Block.setFlt_on (b : Block) (l : Bool) (key : Nat) : (b.setFlt l).on key = b.on key := by
  simp only [Block.on, Block.setFlt_get]
@[simp] theorem Block.setFlt_bit (b : Block) (l : Bool) (key i' : Nat) : (b.setFlt l).bit key i' = b.bit key i' := by
  simp only [Block.bit, Block.setFlt_nat]
@[simp] theorem Block.setFlt_isHead (b : Block) (l : Bool) : (b.setFlt l).isHead = b.isHead := by simp only [Block.isHead, Block.setFlt_get]
@[simp] theorem Block.setFlt_cells (b : Block) (l : Bool) : (b.setFlt l).cells = b.cells := by simp only [Block.cells, Block.setFlt_nat]
@[simp] theorem Block.setFlt_noCells (b : Block) (l : Bool) : (b.setFlt l).noCells = b.noCells := by simp only [Block.noCells, Block.setFlt_get]
@[simp] theorem Block.setFlt_live (b : Block) (l : Bool) (src : Nat) : (b.setFlt l).live src = b.live src := by
  simp only [Block.live, Block.setFlt_bit]
@[simp] theorem Block.setFlt_latched (b : Block) (l : Bool) (src : Nat) : (b.setFlt l).latched src = b.latched src := by
  simp only [Block.latched, Block.setFlt_bit]
@[simp] theorem Block.queueAlarm_awake (b : Block) (k p c s : Nat) : (b.queueAlarm k p c s).awake = b.awake := by simp only [Block.awake, Block.queueAlarm_power]
@[simp] theorem Block.queueAlarm_measuring (b : Block) (k p c s : Nat) : (b.queueAlarm k p c s).measuring = b.measuring := by simp only [Block.measuring, Block.queueAlarm_power]
@[simp] theorem Block.queueAlarm_inFull (b : Block) (k p c s : Nat) : (b.queueAlarm k p c s).inFull = b.inFull := by simp only [Block.inFull, Block.queueAlarm_power]
@[simp] theorem Block.queueAlarm_now (b : Block) (k p c s : Nat) : (b.queueAlarm k p c s).now = b.now := by simp only [Block.now, Block.queueAlarm_tb]
@[simp] theorem Block.queueAlarm_engineRuns (b : Block) (k p c s : Nat) (eng : Nat) : (b.queueAlarm k p c s).engineRuns eng = b.engineRuns eng := by
  simp only [Block.engineRuns, Block.queueAlarm_diag]
@[simp] theorem Block.queueAlarm_get (b : Block) (k p c s : Nat) (key : Nat) : (b.queueAlarm k p c s).get key = b.get key := by
  simp only [Block.get, Block.queueAlarm_dict]
@[simp] theorem Block.queueAlarm_nat (b : Block) (k p c s : Nat) (key : Nat) : (b.queueAlarm k p c s).nat key = b.nat key := by
  simp only [Block.nat, Block.queueAlarm_get]
@[simp] theorem Block.queueAlarm_on (b : Block) (k p c s : Nat) (key : Nat) : (b.queueAlarm k p c s).on key = b.on key := by
  simp only [Block.on, Block.queueAlarm_get]
@[simp] theorem Block.queueAlarm_bit (b : Block) (k p c s : Nat) (key i' : Nat) : (b.queueAlarm k p c s).bit key i' = b.bit key i' := by
  simp only [Block.bit, Block.queueAlarm_nat]
@[simp] theorem Block.queueAlarm_isHead (b : Block) (k p c s : Nat) : (b.queueAlarm k p c s).isHead = b.isHead := by simp only [Block.isHead, Block.queueAlarm_get]
@[simp] theorem Block.queueAlarm_cells (b : Block) (k p c s : Nat) : (b.queueAlarm k p c s).cells = b.cells := by simp only [Block.cells, Block.queueAlarm_nat]
@[simp] theorem Block.queueAlarm_noCells (b : Block) (k p c s : Nat) : (b.queueAlarm k p c s).noCells = b.noCells := by simp only [Block.noCells, Block.queueAlarm_get]
@[simp] theorem Block.queueAlarm_live (b : Block) (k p c s : Nat) (src : Nat) : (b.queueAlarm k p c s).live src = b.live src := by
  simp only [Block.live, Block.queueAlarm_bit]
@[simp] theorem Block.queueAlarm_latched (b : Block) (k p c s : Nat) (src : Nat) : (b.queueAlarm k p c s).latched src = b.latched src := by
  simp only [Block.latched, Block.queueAlarm_bit]
@[simp] theorem Block.enterSafe_awake (b : Block) (c : Nat) : (b.enterSafe c).awake = b.awake := by simp only [Block.awake, Block.enterSafe_power]
@[simp] theorem Block.enterSafe_measuring (b : Block) (c : Nat) : (b.enterSafe c).measuring = b.measuring := by simp only [Block.measuring, Block.enterSafe_power]
@[simp] theorem Block.enterSafe_inFull (b : Block) (c : Nat) : (b.enterSafe c).inFull = b.inFull := by simp only [Block.inFull, Block.enterSafe_power]
@[simp] theorem Block.enterSafe_now (b : Block) (c : Nat) : (b.enterSafe c).now = b.now := by simp only [Block.now, Block.enterSafe_tb]
@[simp] theorem Block.enterSafe_engineRuns (b : Block) (c : Nat) (eng : Nat) : (b.enterSafe c).engineRuns eng = b.engineRuns eng := by
  simp only [Block.engineRuns, Block.enterSafe_diag]
@[simp] theorem Block.register_awake (b : Block) (l : List Reg) (o : Bool) (n : Nat) (d : Detection) : (b.register l o n d).awake = b.awake := by simp only [Block.awake, Block.register_power]
@[simp] theorem Block.register_measuring (b : Block) (l : List Reg) (o : Bool) (n : Nat) (d : Detection) : (b.register l o n d).measuring = b.measuring := by simp only [Block.measuring, Block.register_power]
@[simp] theorem Block.register_inFull (b : Block) (l : List Reg) (o : Bool) (n : Nat) (d : Detection) : (b.register l o n d).inFull = b.inFull := by simp only [Block.inFull, Block.register_power]
@[simp] theorem Block.register_now (b : Block) (l : List Reg) (o : Bool) (n : Nat) (d : Detection) : (b.register l o n d).now = b.now := by simp only [Block.now, Block.register_tb]
@[simp] theorem Block.register_engineRuns (b : Block) (l : List Reg) (o : Bool) (n : Nat) (d : Detection) (eng : Nat) : (b.register l o n d).engineRuns eng = b.engineRuns eng := by
  simp only [Block.engineRuns, Block.register_diag]
@[simp] theorem Block.repeatOf_awake (b : Block) (d : Detection) : (b.repeatOf d).awake = b.awake := by simp only [Block.awake, Block.repeatOf_power]
@[simp] theorem Block.repeatOf_measuring (b : Block) (d : Detection) : (b.repeatOf d).measuring = b.measuring := by simp only [Block.measuring, Block.repeatOf_power]
@[simp] theorem Block.repeatOf_inFull (b : Block) (d : Detection) : (b.repeatOf d).inFull = b.inFull := by simp only [Block.inFull, Block.repeatOf_power]
@[simp] theorem Block.repeatOf_now (b : Block) (d : Detection) : (b.repeatOf d).now = b.now := by simp only [Block.now, Block.repeatOf_tb]
@[simp] theorem Block.repeatOf_engineRuns (b : Block) (d : Detection) (eng : Nat) : (b.repeatOf d).engineRuns eng = b.engineRuns eng := by
  simp only [Block.engineRuns, Block.repeatOf_diag]
@[simp] theorem Block.repeatOf_get (b : Block) (d : Detection) (key : Nat) : (b.repeatOf d).get key = b.get key := by
  simp only [Block.get, Block.repeatOf_dict]
@[simp] theorem Block.repeatOf_nat (b : Block) (d : Detection) (key : Nat) : (b.repeatOf d).nat key = b.nat key := by
  simp only [Block.nat, Block.repeatOf_get]
@[simp] theorem Block.repeatOf_on (b : Block) (d : Detection) (key : Nat) : (b.repeatOf d).on key = b.on key := by
  simp only [Block.on, Block.repeatOf_get]
@[simp] theorem Block.repeatOf_bit (b : Block) (d : Detection) (key i' : Nat) : (b.repeatOf d).bit key i' = b.bit key i' := by
  simp only [Block.bit, Block.repeatOf_nat]
@[simp] theorem Block.repeatOf_isHead (b : Block) (d : Detection) : (b.repeatOf d).isHead = b.isHead := by simp only [Block.isHead, Block.repeatOf_get]
@[simp] theorem Block.repeatOf_cells (b : Block) (d : Detection) : (b.repeatOf d).cells = b.cells := by simp only [Block.cells, Block.repeatOf_nat]
@[simp] theorem Block.repeatOf_noCells (b : Block) (d : Detection) : (b.repeatOf d).noCells = b.noCells := by simp only [Block.noCells, Block.repeatOf_get]
@[simp] theorem Block.repeatOf_live (b : Block) (d : Detection) (src : Nat) : (b.repeatOf d).live src = b.live src := by
  simp only [Block.live, Block.repeatOf_bit]
@[simp] theorem Block.repeatOf_latched (b : Block) (d : Detection) (src : Nat) : (b.repeatOf d).latched src = b.latched src := by
  simp only [Block.latched, Block.repeatOf_bit]
@[simp] theorem Block.faultCycle_awake (b : Block)  : (b.faultCycle).awake = b.awake := by simp only [Block.awake, Block.faultCycle_power]
@[simp] theorem Block.faultCycle_measuring (b : Block)  : (b.faultCycle).measuring = b.measuring := by simp only [Block.measuring, Block.faultCycle_power]
@[simp] theorem Block.faultCycle_inFull (b : Block)  : (b.faultCycle).inFull = b.inFull := by simp only [Block.inFull, Block.faultCycle_power]
@[simp] theorem Block.faultCycle_now (b : Block)  : (b.faultCycle).now = b.now := by simp only [Block.now, Block.faultCycle_tb]
@[simp] theorem Block.faultCycle_engineRuns (b : Block)  (eng : Nat) : (b.faultCycle).engineRuns eng = b.engineRuns eng := by
  simp only [Block.engineRuns, Block.faultCycle_diag]
@[simp] theorem Block.sendClose_awake (b : Block)  : (b.sendClose).awake = b.awake := by simp only [Block.awake, Block.sendClose_power]
@[simp] theorem Block.sendClose_measuring (b : Block)  : (b.sendClose).measuring = b.measuring := by simp only [Block.measuring, Block.sendClose_power]
@[simp] theorem Block.sendClose_inFull (b : Block)  : (b.sendClose).inFull = b.inFull := by simp only [Block.inFull, Block.sendClose_power]
@[simp] theorem Block.sendClose_now (b : Block)  : (b.sendClose).now = b.now := by simp only [Block.now, Block.sendClose_tb]
@[simp] theorem Block.sendClose_engineRuns (b : Block)  (eng : Nat) : (b.sendClose).engineRuns eng = b.engineRuns eng := by
  simp only [Block.engineRuns, Block.sendClose_diag]
@[simp] theorem Block.sendClose_get (b : Block)  (key : Nat) : (b.sendClose).get key = b.get key := by
  simp only [Block.get, Block.sendClose_dict]
@[simp] theorem Block.sendClose_nat (b : Block)  (key : Nat) : (b.sendClose).nat key = b.nat key := by
  simp only [Block.nat, Block.sendClose_get]
@[simp] theorem Block.sendClose_on (b : Block)  (key : Nat) : (b.sendClose).on key = b.on key := by
  simp only [Block.on, Block.sendClose_get]
@[simp] theorem Block.sendClose_bit (b : Block)  (key i' : Nat) : (b.sendClose).bit key i' = b.bit key i' := by
  simp only [Block.bit, Block.sendClose_nat]
@[simp] theorem Block.sendClose_isHead (b : Block)  : (b.sendClose).isHead = b.isHead := by simp only [Block.isHead, Block.sendClose_get]
@[simp] theorem Block.sendClose_cells (b : Block)  : (b.sendClose).cells = b.cells := by simp only [Block.cells, Block.sendClose_nat]
@[simp] theorem Block.sendClose_noCells (b : Block)  : (b.sendClose).noCells = b.noCells := by simp only [Block.noCells, Block.sendClose_get]
@[simp] theorem Block.sendClose_live (b : Block)  (src : Nat) : (b.sendClose).live src = b.live src := by
  simp only [Block.live, Block.sendClose_bit]
@[simp] theorem Block.sendClose_latched (b : Block)  (src : Nat) : (b.sendClose).latched src = b.latched src := by
  simp only [Block.latched, Block.sendClose_bit]
@[simp] theorem Block.disarm_awake (b : Block)  : (b.disarm).awake = b.awake := by simp only [Block.awake, Block.disarm_power]
@[simp] theorem Block.disarm_measuring (b : Block)  : (b.disarm).measuring = b.measuring := by simp only [Block.measuring, Block.disarm_power]
@[simp] theorem Block.disarm_inFull (b : Block)  : (b.disarm).inFull = b.inFull := by simp only [Block.inFull, Block.disarm_power]
@[simp] theorem Block.disarm_now (b : Block)  : (b.disarm).now = b.now := by simp only [Block.now, Block.disarm_tb]
@[simp] theorem Block.disarm_engineRuns (b : Block)  (eng : Nat) : (b.disarm).engineRuns eng = b.engineRuns eng := by
  simp only [Block.engineRuns, Block.disarm_diag]
@[simp] theorem Block.closeTransfers_awake (b : Block)  : (b.closeTransfers).awake = b.awake := by simp only [Block.awake, Block.closeTransfers_power]
@[simp] theorem Block.closeTransfers_measuring (b : Block)  : (b.closeTransfers).measuring = b.measuring := by simp only [Block.measuring, Block.closeTransfers_power]
@[simp] theorem Block.closeTransfers_inFull (b : Block)  : (b.closeTransfers).inFull = b.inFull := by simp only [Block.inFull, Block.closeTransfers_power]
@[simp] theorem Block.closeTransfers_now (b : Block)  : (b.closeTransfers).now = b.now := by simp only [Block.now, Block.closeTransfers_tb]
@[simp] theorem Block.closeTransfers_engineRuns (b : Block)  (eng : Nat) : (b.closeTransfers).engineRuns eng = b.engineRuns eng := by
  simp only [Block.engineRuns, Block.closeTransfers_diag]
@[simp] theorem Block.closeTransfers_get (b : Block)  (key : Nat) : (b.closeTransfers).get key = b.get key := by
  simp only [Block.get, Block.closeTransfers_dict]
@[simp] theorem Block.closeTransfers_nat (b : Block)  (key : Nat) : (b.closeTransfers).nat key = b.nat key := by
  simp only [Block.nat, Block.closeTransfers_get]
@[simp] theorem Block.closeTransfers_on (b : Block)  (key : Nat) : (b.closeTransfers).on key = b.on key := by
  simp only [Block.on, Block.closeTransfers_get]
@[simp] theorem Block.closeTransfers_bit (b : Block)  (key i' : Nat) : (b.closeTransfers).bit key i' = b.bit key i' := by
  simp only [Block.bit, Block.closeTransfers_nat]
@[simp] theorem Block.closeTransfers_isHead (b : Block)  : (b.closeTransfers).isHead = b.isHead := by simp only [Block.isHead, Block.closeTransfers_get]
@[simp] theorem Block.closeTransfers_cells (b : Block)  : (b.closeTransfers).cells = b.cells := by simp only [Block.cells, Block.closeTransfers_nat]
@[simp] theorem Block.closeTransfers_noCells (b : Block)  : (b.closeTransfers).noCells = b.noCells := by simp only [Block.noCells, Block.closeTransfers_get]
@[simp] theorem Block.closeTransfers_live (b : Block)  (src : Nat) : (b.closeTransfers).live src = b.live src := by
  simp only [Block.live, Block.closeTransfers_bit]
@[simp] theorem Block.closeTransfers_latched (b : Block)  (src : Nat) : (b.closeTransfers).latched src = b.latched src := by
  simp only [Block.latched, Block.closeTransfers_bit]

/-! ### Live and latched bits -/

/-- Dropping a latch touches the latched words and the first fault only. -/
theorem Block.get_dropLatch_other (b : Block) (s : Nat) {k : Nat} (h : k ≠ latchedKey s)
    (g : k < Ob.firstFaultSource ∨ Ob.firstFaultSameCycle < k) : (b.dropLatch s).get k = b.get k := by
  simp only [Block.dropLatch]
  have e : ((b.putBit (latchedKey s) (s % 32) false).withFlint { (b.putBit (latchedKey s) (s % 32) false).flint with
      regs := (b.putBit (latchedKey s) (s % 32) false).flint.regs.filter fun r => r.source != s }).get k = b.get k := by
    rw [Block.withFlint_get, Block.get_putBit, if_neg h]
  split
  · exact e
  · rw [Block.get_putAll_other, e]
    intro p hp
    simp only [Ob.firstFaultSource, Ob.firstFaultSameCycle] at g
    simp only [List.mem_cons, List.not_mem_nil, or_false] at hp
    rcases hp with rfl | rfl | rfl | rfl | rfl | rfl <;>
      simp only [Ob.firstFaultSource, Ob.firstFaultBaseClass, Ob.firstFaultEffectiveClass, Ob.firstFaultTime, Ob.firstFaultData,
        Ob.firstFaultSameCycle] <;> omega

/-- Clearing a live bit touches the live and latched words, the first fault and the service request only. -/
theorem Block.get_clearLive_other (b : Block) (s : Nat) {k : Nat} (l : k ≠ liveKey s) (h : k ≠ latchedKey s)
    (g : k < Ob.firstFaultSource ∨ Ob.firstFaultSameCycle < k) (i : k ≠ Ob.serviceRequestReason) (j : k ≠ Ob.serviceRequestSince) :
    (b.clearLive s).get k = b.get k := by
  simp only [Block.clearLive]
  split
  · rw [Block.get_followReasons_other _ i j]
    split
    · rw [Block.get_dropLatch_other _ _ h g, Block.get_putBit, if_neg l]
    · rw [Block.get_putBit, if_neg l]
  · rfl

/-- A live bit cleared reads as clear. -/
theorem Block.live_clearLive (b : Block) {s : Nat} (h : s < 256) : (b.clearLive s).live s = false := by
  have key : liveKey s ≠ latchedKey s ∧ (liveKey s < Ob.firstFaultSource) ∧ liveKey s ≠ Ob.serviceRequestReason ∧
      liveKey s ≠ Ob.serviceRequestSince := by
    simp only [liveKey, latchedKey, Ob.faultLive, Ob.faultLatched, Ob.firstFaultSource, Ob.serviceRequestReason, Ob.serviceRequestSince]
    omega
  simp only [Block.clearLive]
  split
  · simp only [Block.live, Block.bit, Block.nat]
    rw [Block.get_followReasons_other _ key.2.2.1 key.2.2.2]
    have e : bitOf ((b.putBit (liveKey s) (s % 32) false).get (liveKey s)).toNat (s % 32) = false :=
      b.bit_putBit_self (liveKey s) (s % 32) false
    split
    · rw [Block.get_dropLatch_other _ _ key.1 (.inl key.2.1)]; exact e
    · exact e
  · next h => exact Bool.eq_false_iff.2 h

/-- The live bit of another source stays when one is cleared. -/
theorem Block.live_clearLive_other (b : Block) {s r : Nat} (hr : r < 256) (n : r ≠ s) : (b.clearLive s).live r = b.live r := by
  have key : (liveKey r < Ob.firstFaultSource) ∧ liveKey r ≠ Ob.serviceRequestReason ∧
      liveKey r ≠ Ob.serviceRequestSince ∧ ¬(liveKey r = liveKey s ∧ r % 32 = s % 32) := by
    simp only [liveKey, latchedKey, Ob.faultLive, Ob.faultLatched, Ob.firstFaultSource, Ob.serviceRequestReason, Ob.serviceRequestSince]
    omega
  have far : liveKey r ≠ latchedKey s := by
    simp only [liveKey, latchedKey, Ob.faultLive, Ob.faultLatched]; omega
  have e : (b.putBit (liveKey s) (s % 32) false).bit (liveKey r) (r % 32) = b.bit (liveKey r) (r % 32) :=
    b.bit_putBit_other false key.2.2.2
  simp only [Block.bit, Block.nat] at e
  simp only [Block.clearLive]
  split
  · simp only [Block.live, Block.bit, Block.nat]
    rw [Block.get_followReasons_other _ key.2.1 key.2.2.1]
    split
    · rw [Block.get_dropLatch_other _ _ far (.inl key.1)]; exact e
    · exact e
  · rfl

/-! ### Flash words and banks -/

@[simp] theorem Block.correctAgain_nvm (b : Block) (base len : Nat) : (b.correctAgain base len).nvm = b.nvm := rfl
@[simp] theorem Block.correctAgain_flint (b : Block) (base len : Nat) : (b.correctAgain base len).flint = b.flint := rfl

/-- A read of flash whose range holds no uncorrectable word only counts corrections. -/
theorem Block.readFlash_of_sound (b : Block) (base len record : Nat) (h : b.nvm.spoils base len = false) :
    b.readFlash base len record = b.correctAgain base len := by
  simp only [Block.readFlash, Block.correctAgain_nvm, h, Bool.false_eq_true, if_false]

/-- A bank in which an erase or a page was cut off is neither valid nor blank (R441). -/
theorem Nvm.cutOff_invalid (n : Nvm) (m : List Host.Cell) (bank : Bool) (len : Nat) (h : n.cutOff (dictBase bank) = true) :
    n.dictValid m bank = false ∧ n.blank m (dictBase bank) len = false := by
  simp only [Nvm.dictValid, Nvm.blank, h, Bool.not_true, Bool.and_false, Bool.false_and, and_self]

/-- From its start a dictionary program holds its bank as cut off (R440, R441). -/
theorem Block.startRecord_cutOff (b : Block) (kind : ProgramKind) :
    (b.startRecord kind).nvm.cutOff (dictBase b.nvm.nextDictBank) = true := by
  simp [Block.startRecord, Nvm.cutOff, Nvm.begin]

end Sys2Proof.Machine
end

