-- ==== Sys2Proof/WellFormed.lean ====
section
/-! DEFINITION. What a command must be to be well formed: its operands lie in the ranges the spec gives them. A meaning is defined for every
command, well formed or not. -/

namespace Sys2Proof

/-- An instant of chain time, T48 in us (R113). -/
def isTime (t : Nat) : Bool := decide (t < 2 ^ 48)

/-- An instant in ps of chain time (R113, R118). -/
def isStamp (ps : Nat) : Bool := decide (ps < 2 ^ 48 * 1000000)

/-- A duration in s as WakeRecord holds it (R80). -/
def isDuration (n : Nat) : Bool := decide (n < 2 ^ 32)

/-- A byte, and a 16-bit word, of a header or an object's address (R33, R316, R351). -/
def isByte (n : Nat) : Bool := decide (n < 2 ^ 8)

@[inherit_doc isByte] def isWord (n : Nat) : Bool := decide (n < 2 ^ 16)

/-- Index and sub-index of an object (R33). -/
def isObject (ix sub : Nat) : Bool := isWord ix && isByte sub

/-- The bytes of a transfer (R48). -/
def isData (l : List Byte) : Bool := decide (l.length ≤ 4096)

/-- A position (R5). -/
def isPosition (p : Nat) : Bool := decide (p ≤ 63)

/-- One value per lane thermometer (R412), per slice thermometer (R413), and per engine (R68). -/
def areLanes {α : Type} (l : List α) : Bool := decide (l.length = 37)

@[inherit_doc areLanes] def areSlices {α : Type} (l : List α) : Bool := decide (l.length = 74)

@[inherit_doc areLanes] def areEngines {α : Type} (l : List α) : Bool := decide (l.length = 8)

/-- Values for cell channels (R7), for AX pins (R23) and for positions beyond the head's own (R5). -/
def areCells {α : Type} (l : List α) : Bool := decide (l.length ≤ 32)

@[inherit_doc areCells] def arePins {α : Type} (l : List α) : Bool := decide (l.length ≤ 8)

@[inherit_doc areCells] def arePositions {α : Type} (l : List α) : Bool := decide (l.length ≤ 63)

/-- A CHAIN_CONFIG image (R331), and the payload of a KEEPER frame (R328). -/
def isImage (l : List Byte) : Bool := decide (l.length = 56)

@[inherit_doc isImage] def isKeeper (l : List Byte) : Bool := decide (l.length = 112)

/-- Is a command well formed? -/
def wellFormed : Instr → Bool
  | .porRelease => true
  | .porAssert => true
  | .vstkRangeCheck _ => true
  | .vinLow => true
  | .supplyFail => true
  | .railWindowFault _ => true
  | .pwrEnComparison _ => true
  | .ship => true
  | .sleep => true
  | .standby => true
  | .measure _ => true
  | .full _ => true
  | .reset => true
  | .wakeChain => true
  | .transitionComplete => true
  | .commLoss t => isTime t
  | .wakeEvent _ slept => isDuration slept
  | .extendedWakeEvent _ slept => isDuration slept
  | .deferredWakeStart slept => isDuration slept
  | .supplyAttemptTimeout => true
  | .vin5Good => true
  | .coreResetRelease _ _ => true
  | .engineBootComplete _ t => isTime t
  | .periodicCheck cells therm lanes bedTime => isTime bedTime && areLanes lanes && areCells cells && arePins therm
  | .crossingConfirmation cells therm bedTime => isTime bedTime && areCells cells && arePins therm
  | .sleepBalancePhase _ _ => true
  | .sleepBalanceSecond lanes => areLanes lanes
  | .sleepPlanRefresh t => isTime t
  | .thermalShutdown => true
  | .shutdownTemperatureCheck lanes slept => isDuration slept && areLanes lanes
  | .preShutdown => true
  | .preShutdownEnd t => isTime t
  | .laneThermometerInterval t lanes => isTime t && areLanes lanes
  | .housekeepingRound t slices => isTime t && areSlices slices
  | .throttleEvaluation t => isTime t
  | .pllReferenceSwitch _ => true
  | .symbolLockLoss _ => true
  | .clockMonitorGate _ _ => true
  | .faultRcCheck _ => true
  | .syncSend t => isTime t
  | .sync t stampPs => isTime t && isStamp stampPs
  | .syncMissing t => isTime t
  | .slewStep => true
  | .chainReferenceSend t => isTime t
  | .chainReference _ _ census nextSync => isTime nextSync && isWord census
  | .chainTimeWrite data => isData data
  | .referenceCompare conversion => isTime conversion.1
  | .correctionUpdate _ _ _ _ _ _ _ _ => true
  | .laneBlock _ start _ _ => isTime start
  | .cellLimitRefresh => true
  | .laneAveragingChange t => isTime t
  | .shadowFrame t _ _ _ _ _ _ => isTime t
  | .currentLaneCompare start stop => isTime start && isTime stop
  | .currentSample t _ _ => isTime t
  | .mainsTrackerUpdate t _ _ => isTime t
  | .auxSlot t _ _ _ _ => isTime t
  | .windowBoundary t => isTime t
  | .windowPublish t => isTime t
  | .keeperRecordMissing t => isTime t
  | .windowModeWrite ix sub data => isObject ix sub && isData data
  | .snap t stampPs => isTime t && isStamp stampPs
  | .captureStart t seq cells => isTime t && decide (seq < 2 ^ 32) && areCells cells
  | .capturePublish t => isTime t
  | .instantTrigger t => isTime t
  | .auxOutputWrite data => isData data
  | .auxFunctionWrite sub data => isByte sub && isData data
  | .chargeCounterPreset data => isData data
  | .currentKeeperWrite data => isData data
  | .governorTick t _ meter delays => isTime t && areCells meter && areCells delays
  | .pathLearn => true
  | .bleedConfirmation _ _ _ => true
  | .freshnessTimeout _ => true
  | .interlockRefusal _ => true
  | .sessionTimerSecond _ => true
  | .balanceTargetWrite sub data => isByte sub && isData data
  | .sessionTimerWrite sub data => isByte sub && isData data
  | .balanceEnableWrite data => isData data
  | .stickyFlagClear ix sub data => isObject ix sub && isData data
  | .bleedResistorWrite data => isData data
  | .thrPulseEdge t _ _ => isTime t
  | .throttleInputLost => true
  | .analysisIntervalEnd _ t => isTime t
  | .impedancePublish _ => true
  | .ambientPairingTimeout _ => true
  | .activeSequenceStart t => isTime t
  | .excitationEdge t => isTime t
  | .activeIntervalDiscard => true
  | .autobalancePeriod t => isTime t
  | .socTableWrite data => isData data
  | .tempCurveWrite data => isData data
  | .analysisSetRead position _ _ _ _ => isPosition position
  | .volts t => isTime t
  | .temps t => isTime t
  | .imped t => isTime t
  | .status t => isTime t
  | .alarm _ t => isTime t
  | .pulseRepeat _ _ => true
  | .wakeTone _ _ t slept => isTime t && isDuration slept
  | .portSignalDetect _ => true
  | .portTrained _ t => isTime t
  | .trainingFail _ => true
  | .portDown _ _ t => isTime t
  | .ringModeWrite data => isData data
  | .frameReceive _ _ frame => isData frame.2
  | .frameForward bytes => isData bytes
  | .frameTransmit t => isTime t
  | .linkCrcRate => true
  | .censusRoundStart t => isTime t
  | .censusRun data => isData data
  | .census _ _ payload => isData payload
  | .censusEcho _ _ => true
  | .censusEchoTimeout => true
  | .censusReply _ payload => isData payload
  | .censusPassResult _ payload t => isTime t && isData payload
  | .censusPassTimeout t => isTime t
  | .censusRetry t => isTime t
  | .commit _ _ _ t => isTime t
  | .probeSweep _ _ _ => true
  | .probe _ t => isTime t
  | .probeSweepsComplete _ t => isTime t
  | .delays _ table => arePositions table
  | .delayRefresh t => isTime t
  | .chainConfig image => isImage image
  | .chainAggregate payload => isData payload
  | .keeperForward _ payload t => isTime t && isKeeper payload
  | .keeperRecord payload t => isTime t && isKeeper payload
  | .read seq ix sub => isObject ix sub && isWord seq
  | .write seq ix sub data => isObject ix sub && isData data && isWord seq
  | .segInitRead seq ix sub length => isObject ix sub && isWord seq && isWord length
  | .segInitWrite seq ix sub length => isObject ix sub && isWord seq && isWord length
  | .segRead seq ix sub segment => isObject ix sub && isWord seq && isByte segment
  | .segWrite seq ix sub segment data => isObject ix sub && isData data && isWord seq && isByte segment
  | .segEnd seq ix sub total => isObject ix sub && isWord seq && isWord total
  | .checkConfig seq image => isImage image && isWord seq
  | .segmentTimeout _ => true
  | .response position seq payload => isData payload && isWord seq && isPosition position
  | .commandTimeout position => isPosition position
  | .headConfigChecksDone => true
  | .scheduledTrigger _ t => isTime t
  | .streamResponseForm _ => true
  | .streamFrame _ payload => isData payload
  | .trainClose _ t => isTime t
  | .splitEntry _ t => isTime t
  | .splitEnd t => isTime t
  | .spiCommand bytes => isData bytes
  | .spiRead _ => true
  | .canRequest bytes => isData bytes
  | .novezRead _ position ix sub => isObject ix sub && isByte position
  | .novezWrite _ position ix sub data => isObject ix sub && isData data && isByte position
  | .novezSegInitRead _ position ix sub length => isObject ix sub && isWord length && isByte position
  | .novezSegInitWrite _ position ix sub length => isObject ix sub && isWord length && isByte position
  | .novezSegRead _ position ix sub segment => isObject ix sub && isByte segment && isByte position
  | .novezSegWrite _ position ix sub segment data => isObject ix sub && isData data && isByte segment && isByte position
  | .novezSegEnd _ position ix sub total => isObject ix sub && isWord total && isByte position
  | .segmentRepeatKeepalive _ => true
  | .trigger _ cls => isByte cls
  | .readStream _ position cls offset count => isWord offset && isByte cls && isByte count && isByte position
  | .readAttention _ => true
  | .hostCrcRate => true
  | .canAlarmFrame => true
  | .canTrainStream _ => true
  | .canBusOffRecovery => true
  | .canConfigApply => true
  | .faultRegistration => true
  | .captureFifoDrain t => isTime t
  | .acknowledgeSource source => isByte source
  | .acknowledgeAll => true
  | .safeStateExit t => isTime t
  | .faultSeverityWrite sub data => isByte sub && isData data
  | .faultFlagsWrite data => isData data
  | .engineWatchdogExpiry _ t => isTime t
  | .engineRestart _ _ => true
  | .engineSelfTest _ _ => true
  | .engineLoadMeasurement percent => areEngines percent
  | .memoryError _ _ _ => true
  | .memoryScrub _ => true
  | .configSignatureCheck _ => true
  | .fltReadback _ _ => true
  | .openWireSlot t _ phaseA phaseB => isTime t && areCells phaseA && areCells phaseB
  | .openWireRepeat phaseA phaseB => areCells phaseA && areCells phaseB
  | .unlockArm => true
  | .unlockConfirm => true
  | .unlockClear value => isWord value
  | .unlockExpiry => true
  | .dictionaryWrite ix sub data => isObject ix sub && isData data
  | .journalRead _ length => isWord length
  | .readCursorWrite data => isData data
  | .checkUnitWrite ix data => isWord ix && isData data
  | .save data => isData data
  | .nvmPageProgram => true
  | .saveComplete _ => true
  | .restoreConfig => true
  | .restoreAll => true
  | .summaryWrite => true
  | .summaryWriteComplete _ => true
  | .supplyAttemptRetry => true
  | .railGood _ => true
  | .vstkInRange => true
  | .sectorEraseComplete => true
  | .operatingHour => true
  | .medianRsRead _ => true
  | .ignoredFrame => true
  | .canBusError _ => true

/-- The instant a command carries. -/
def Instr.instant : Instr → Option Nat
  | .commLoss t => some t
  | .engineBootComplete _ t => some t
  | .sleepPlanRefresh t => some t
  | .preShutdownEnd t => some t
  | .laneThermometerInterval t _ => some t
  | .housekeepingRound t _ => some t
  | .throttleEvaluation t => some t
  | .syncSend t => some t
  | .sync t _ => some t
  | .syncMissing t => some t
  | .chainReferenceSend t => some t
  | .laneAveragingChange t => some t
  | .referenceCompare conversion => some conversion.1
  | .shadowFrame t _ _ _ _ _ _ => some t
  | .currentLaneCompare _ stop => some stop
  | .currentSample t _ _ => some t
  | .mainsTrackerUpdate t _ _ => some t
  | .auxSlot t _ _ _ _ => some t
  | .windowBoundary t => some t
  | .windowPublish t => some t
  | .keeperRecordMissing t => some t
  | .snap t _ => some t
  | .captureStart t _ _ => some t
  | .capturePublish t => some t
  | .instantTrigger t => some t
  | .governorTick t _ _ _ => some t
  | .thrPulseEdge t _ _ => some t
  | .analysisIntervalEnd _ t => some t
  | .activeSequenceStart t => some t
  | .excitationEdge t => some t
  | .autobalancePeriod t => some t
  | .volts t => some t
  | .temps t => some t
  | .imped t => some t
  | .status t => some t
  | .alarm _ t => some t
  | .wakeTone _ _ t _ => some t
  | .portTrained _ t => some t
  | .portDown _ _ t => some t
  | .frameTransmit t => some t
  | .censusRoundStart t => some t
  | .censusPassResult _ _ t => some t
  | .censusPassTimeout t => some t
  | .censusRetry t => some t
  | .commit _ _ _ t => some t
  | .probe _ t => some t
  | .probeSweepsComplete _ t => some t
  | .delayRefresh t => some t
  | .keeperForward _ _ t => some t
  | .keeperRecord _ t => some t
  | .scheduledTrigger _ t => some t
  | .trainClose _ t => some t
  | .splitEntry _ t => some t
  | .splitEnd t => some t
  | .captureFifoDrain t => some t
  | .safeStateExit t => some t
  | .engineWatchdogExpiry _ t => some t
  | .openWireSlot t _ _ _ => some t
  | _ => none

/-- The object a command names, by index and sub-index. -/
def Instr.object : Instr → Option (Nat × Nat)
  | .windowModeWrite ix sub _ => some (ix, sub)
  | .stickyFlagClear ix sub _ => some (ix, sub)
  | .read _ ix sub => some (ix, sub)
  | .write _ ix sub _ => some (ix, sub)
  | .segInitRead _ ix sub _ => some (ix, sub)
  | .segInitWrite _ ix sub _ => some (ix, sub)
  | .segRead _ ix sub _ => some (ix, sub)
  | .segWrite _ ix sub _ _ => some (ix, sub)
  | .segEnd _ ix sub _ => some (ix, sub)
  | .novezRead _ _ ix sub => some (ix, sub)
  | .novezWrite _ _ ix sub _ => some (ix, sub)
  | .novezSegInitRead _ _ ix sub _ => some (ix, sub)
  | .novezSegInitWrite _ _ ix sub _ => some (ix, sub)
  | .novezSegRead _ _ ix sub _ => some (ix, sub)
  | .novezSegWrite _ _ ix sub _ _ => some (ix, sub)
  | .novezSegEnd _ _ ix sub _ => some (ix, sub)
  | .dictionaryWrite ix sub _ => some (ix, sub)
  | _ => none

/-- The bytes a command brings for an object. -/
def Instr.data : Instr → Option (List Byte)
  | .chainTimeWrite data => some data
  | .windowModeWrite _ _ data => some data
  | .auxOutputWrite data => some data
  | .auxFunctionWrite _ data => some data
  | .chargeCounterPreset data => some data
  | .currentKeeperWrite data => some data
  | .balanceTargetWrite _ data => some data
  | .sessionTimerWrite _ data => some data
  | .balanceEnableWrite data => some data
  | .stickyFlagClear _ _ data => some data
  | .bleedResistorWrite data => some data
  | .socTableWrite data => some data
  | .tempCurveWrite data => some data
  | .ringModeWrite data => some data
  | .censusRun data => some data
  | .write _ _ _ data => some data
  | .segWrite _ _ _ _ data => some data
  | .novezWrite _ _ _ _ data => some data
  | .novezSegWrite _ _ _ _ _ data => some data
  | .faultSeverityWrite _ data => some data
  | .faultFlagsWrite data => some data
  | .dictionaryWrite _ _ data => some data
  | .readCursorWrite data => some data
  | .checkUnitWrite _ data => some data
  | .save data => some data
  | _ => none

end Sys2Proof
end

