-- ==== Sys2Proof/Laws/PerInstr.lean ====
section
/-! SUPPORT. The family Bounds, per command: a well-formed command names its instant within chain time, its object by 16 and 8 bits, and brings
at most 4,096 bytes for it. -/

section

set_option Elab.async false

namespace Sys2Proof.Laws.Bounds

/-- What well-formedness gives of a command's instant, object and bytes (R33, R48, R113). -/
def Statement (i : Instr) : Prop :=
  wellFormed i = true → (∀ t, i.instant = some t → t < 2 ^ 48) ∧ (∀ x, i.object = some x → x.1 < 65536 ∧ x.2 < 256) ∧
    (∀ d, i.data = some d → d.length ≤ 4096)

/-- What the checks give, said once. -/
theorem of_checks {i : Instr} {t x d}
    (ht : i.instant = t) (hx : i.object = x) (hd : i.data = d)
    (h : wellFormed i = true → (∀ a, t = some a → isTime a = true) ∧ (∀ a, x = some a → isObject a.1 a.2 = true) ∧
      (∀ a, d = some a → isData a = true)) : Statement i := by
  intro w
  obtain ⟨a, b, c⟩ := h w
  refine ⟨fun s e => ?_, fun s e => ?_, fun s e => ?_⟩
  · simpa [isTime] using a s (ht.symm.trans e)
  · simpa [isObject, isWord, isByte] using b s (hx.symm.trans e)
  · simpa [isData] using c s (hd.symm.trans e)

theorem porRelease : Statement (.porRelease) := by
  refine of_checks rfl rfl rfl ?_
  simp +contextual [wellFormed, Instr.instant, Instr.object, Instr.data]

theorem porAssert : Statement (.porAssert) := by
  refine of_checks rfl rfl rfl ?_
  simp +contextual [wellFormed, Instr.instant, Instr.object, Instr.data]

theorem vstkRangeCheck (x0 : Nat) : Statement (.vstkRangeCheck x0) := by
  refine of_checks rfl rfl rfl ?_
  simp +contextual [wellFormed, Instr.instant, Instr.object, Instr.data]

theorem vinLow : Statement (.vinLow) := by
  refine of_checks rfl rfl rfl ?_
  simp +contextual [wellFormed, Instr.instant, Instr.object, Instr.data]

theorem supplyFail : Statement (.supplyFail) := by
  refine of_checks rfl rfl rfl ?_
  simp +contextual [wellFormed, Instr.instant, Instr.object, Instr.data]

theorem railWindowFault (x0 : Rail) : Statement (.railWindowFault x0) := by
  refine of_checks rfl rfl rfl ?_
  simp +contextual [wellFormed, Instr.instant, Instr.object, Instr.data]

theorem pwrEnComparison (x0 : Bool) : Statement (.pwrEnComparison x0) := by
  refine of_checks rfl rfl rfl ?_
  simp +contextual [wellFormed, Instr.instant, Instr.object, Instr.data]

theorem ship : Statement (.ship) := by
  refine of_checks rfl rfl rfl ?_
  simp +contextual [wellFormed, Instr.instant, Instr.object, Instr.data]

theorem sleep : Statement (.sleep) := by
  refine of_checks rfl rfl rfl ?_
  simp +contextual [wellFormed, Instr.instant, Instr.object, Instr.data]

theorem standby : Statement (.standby) := by
  refine of_checks rfl rfl rfl ?_
  simp +contextual [wellFormed, Instr.instant, Instr.object, Instr.data]

theorem measure (x0 : Nat) : Statement (.measure x0) := by
  refine of_checks rfl rfl rfl ?_
  simp +contextual [wellFormed, Instr.instant, Instr.object, Instr.data]

theorem full (x0 : Nat) : Statement (.full x0) := by
  refine of_checks rfl rfl rfl ?_
  simp +contextual [wellFormed, Instr.instant, Instr.object, Instr.data]

theorem reset : Statement (.reset) := by
  refine of_checks rfl rfl rfl ?_
  simp +contextual [wellFormed, Instr.instant, Instr.object, Instr.data]

theorem wakeChain : Statement (.wakeChain) := by
  refine of_checks rfl rfl rfl ?_
  simp +contextual [wellFormed, Instr.instant, Instr.object, Instr.data]

theorem transitionComplete : Statement (.transitionComplete) := by
  refine of_checks rfl rfl rfl ?_
  simp +contextual [wellFormed, Instr.instant, Instr.object, Instr.data]

theorem commLoss (x0 : Nat) : Statement (.commLoss x0) := by
  refine of_checks rfl rfl rfl ?_
  simp +contextual [wellFormed, Instr.instant, Instr.object, Instr.data]

theorem wakeEvent (x0 : WakeSource) (x1 : Nat) : Statement (.wakeEvent x0 x1) := by
  refine of_checks rfl rfl rfl ?_
  simp +contextual [wellFormed, Instr.instant, Instr.object, Instr.data]

theorem extendedWakeEvent (x0 : WakeSource) (x1 : Nat) : Statement (.extendedWakeEvent x0 x1) := by
  refine of_checks rfl rfl rfl ?_
  simp +contextual [wellFormed, Instr.instant, Instr.object, Instr.data]

theorem deferredWakeStart (x0 : Nat) : Statement (.deferredWakeStart x0) := by
  refine of_checks rfl rfl rfl ?_
  simp +contextual [wellFormed, Instr.instant, Instr.object, Instr.data]

theorem supplyAttemptTimeout : Statement (.supplyAttemptTimeout) := by
  refine of_checks rfl rfl rfl ?_
  simp +contextual [wellFormed, Instr.instant, Instr.object, Instr.data]

theorem vin5Good : Statement (.vin5Good) := by
  refine of_checks rfl rfl rfl ?_
  simp +contextual [wellFormed, Instr.instant, Instr.object, Instr.data]

theorem coreResetRelease (x0 : Bool) (x1 : Int) : Statement (.coreResetRelease x0 x1) := by
  refine of_checks rfl rfl rfl ?_
  simp +contextual [wellFormed, Instr.instant, Instr.object, Instr.data]

theorem engineBootComplete (x0 : BootReport) (x1 : Nat) : Statement (.engineBootComplete x0 x1) := by
  refine of_checks rfl rfl rfl ?_
  simp +contextual [wellFormed, Instr.instant, Instr.object, Instr.data]

theorem periodicCheck (x0 : List Int) (x1 : List Int) (x2 : List Int) (x3 : Nat) : Statement (.periodicCheck x0 x1 x2 x3) := by
  refine of_checks rfl rfl rfl ?_
  simp +contextual [wellFormed, Instr.instant, Instr.object, Instr.data]

theorem crossingConfirmation (x0 : List Int) (x1 : List Int) (x2 : Nat) : Statement (.crossingConfirmation x0 x1 x2) := by
  refine of_checks rfl rfl rfl ?_
  simp +contextual [wellFormed, Instr.instant, Instr.object, Instr.data]

theorem sleepBalancePhase (x0 : Option Bool) (x1 : Nat) : Statement (.sleepBalancePhase x0 x1) := by
  refine of_checks rfl rfl rfl ?_
  simp +contextual [wellFormed, Instr.instant, Instr.object, Instr.data]

theorem sleepBalanceSecond (x0 : List Int) : Statement (.sleepBalanceSecond x0) := by
  refine of_checks rfl rfl rfl ?_
  simp +contextual [wellFormed, Instr.instant, Instr.object, Instr.data]

theorem sleepPlanRefresh (x0 : Nat) : Statement (.sleepPlanRefresh x0) := by
  refine of_checks rfl rfl rfl ?_
  simp +contextual [wellFormed, Instr.instant, Instr.object, Instr.data]

theorem thermalShutdown : Statement (.thermalShutdown) := by
  refine of_checks rfl rfl rfl ?_
  simp +contextual [wellFormed, Instr.instant, Instr.object, Instr.data]

theorem shutdownTemperatureCheck (x0 : List Int) (x1 : Nat) : Statement (.shutdownTemperatureCheck x0 x1) := by
  refine of_checks rfl rfl rfl ?_
  simp +contextual [wellFormed, Instr.instant, Instr.object, Instr.data]

theorem preShutdown : Statement (.preShutdown) := by
  refine of_checks rfl rfl rfl ?_
  simp +contextual [wellFormed, Instr.instant, Instr.object, Instr.data]

theorem preShutdownEnd (x0 : Nat) : Statement (.preShutdownEnd x0) := by
  refine of_checks rfl rfl rfl ?_
  simp +contextual [wellFormed, Instr.instant, Instr.object, Instr.data]

theorem laneThermometerInterval (x0 : Nat) (x1 : List Int) : Statement (.laneThermometerInterval x0 x1) := by
  refine of_checks rfl rfl rfl ?_
  simp +contextual [wellFormed, Instr.instant, Instr.object, Instr.data]

theorem housekeepingRound (x0 : Nat) (x1 : List Int) : Statement (.housekeepingRound x0 x1) := by
  refine of_checks rfl rfl rfl ?_
  simp +contextual [wellFormed, Instr.instant, Instr.object, Instr.data]

theorem throttleEvaluation (x0 : Nat) : Statement (.throttleEvaluation x0) := by
  refine of_checks rfl rfl rfl ?_
  simp +contextual [wellFormed, Instr.instant, Instr.object, Instr.data]

theorem pllReferenceSwitch (x0 : Port) : Statement (.pllReferenceSwitch x0) := by
  refine of_checks rfl rfl rfl ?_
  simp +contextual [wellFormed, Instr.instant, Instr.object, Instr.data]

theorem symbolLockLoss (x0 : Port) : Statement (.symbolLockLoss x0) := by
  refine of_checks rfl rfl rfl ?_
  simp +contextual [wellFormed, Instr.instant, Instr.object, Instr.data]

theorem clockMonitorGate (x0 : Nat) (x1 : Nat) : Statement (.clockMonitorGate x0 x1) := by
  refine of_checks rfl rfl rfl ?_
  simp +contextual [wellFormed, Instr.instant, Instr.object, Instr.data]

theorem faultRcCheck (x0 : Nat) : Statement (.faultRcCheck x0) := by
  refine of_checks rfl rfl rfl ?_
  simp +contextual [wellFormed, Instr.instant, Instr.object, Instr.data]

theorem syncSend (x0 : Nat) : Statement (.syncSend x0) := by
  refine of_checks rfl rfl rfl ?_
  simp +contextual [wellFormed, Instr.instant, Instr.object, Instr.data]

theorem sync (x0 : Nat) (x1 : Nat) : Statement (.sync x0 x1) := by
  refine of_checks rfl rfl rfl ?_
  simp +contextual [wellFormed, Instr.instant, Instr.object, Instr.data]

theorem syncMissing (x0 : Nat) : Statement (.syncMissing x0) := by
  refine of_checks rfl rfl rfl ?_
  simp +contextual [wellFormed, Instr.instant, Instr.object, Instr.data]

theorem slewStep : Statement (.slewStep) := by
  refine of_checks rfl rfl rfl ?_
  simp +contextual [wellFormed, Instr.instant, Instr.object, Instr.data]

theorem chainReferenceSend (x0 : Nat) : Statement (.chainReferenceSend x0) := by
  refine of_checks rfl rfl rfl ?_
  simp +contextual [wellFormed, Instr.instant, Instr.object, Instr.data]

theorem chainReference (x0 : Port) (x1 : Bool) (x2 : Nat) (x3 : Nat) : Statement (.chainReference x0 x1 x2 x3) := by
  refine of_checks rfl rfl rfl ?_
  simp +contextual [wellFormed, Instr.instant, Instr.object, Instr.data]

theorem chainTimeWrite (x0 : List Byte) : Statement (.chainTimeWrite x0) := by
  refine of_checks rfl rfl rfl ?_
  simp +contextual [wellFormed, Instr.instant, Instr.object, Instr.data]

theorem referenceCompare (x0 : Nat × List Int) : Statement (.referenceCompare x0) := by
  refine of_checks rfl rfl rfl ?_
  simp +contextual [wellFormed, Instr.instant, Instr.object, Instr.data]

theorem correctionUpdate (x0 : Fin 37) (x1 : Int) (x2 : Int) (x3 : Int) (x4 : Option Int) (x5 : Bool) (x6 : Bool) (x7 : Int)
    : Statement (.correctionUpdate x0 x1 x2 x3 x4 x5 x6 x7) := by
  refine of_checks rfl rfl rfl ?_
  simp +contextual [wellFormed, Instr.instant, Instr.object, Instr.data]

theorem laneBlock (x0 : Fin 32) (x1 : Nat) (x2 : List Int) (x3 : List Int) : Statement (.laneBlock x0 x1 x2 x3) := by
  refine of_checks rfl rfl rfl ?_
  simp +contextual [wellFormed, Instr.instant, Instr.object, Instr.data]

theorem cellLimitRefresh : Statement (.cellLimitRefresh) := by
  refine of_checks rfl rfl rfl ?_
  simp +contextual [wellFormed, Instr.instant, Instr.object, Instr.data]

theorem laneAveragingChange (x0 : Nat) : Statement (.laneAveragingChange x0) := by
  refine of_checks rfl rfl rfl ?_
  simp +contextual [wellFormed, Instr.instant, Instr.object, Instr.data]

theorem shadowFrame (x0 : Nat) (x1 : List Int) (x2 : List Int) (x3 : List Int) (x4 : List Int) (x5 x6 : Int)
    : Statement (.shadowFrame x0 x1 x2 x3 x4 x5 x6) := by
  refine of_checks rfl rfl rfl ?_
  simp +contextual [wellFormed, Instr.instant, Instr.object, Instr.data]

theorem currentLaneCompare (x0 x1 : Nat) : Statement (.currentLaneCompare x0 x1) := by
  refine of_checks rfl rfl rfl ?_
  simp +contextual [wellFormed, Instr.instant, Instr.object, Instr.data]

theorem currentSample (x0 : Nat) (x1 : List Int × List Int) (x2 : Bool) : Statement (.currentSample x0 x1 x2) := by
  refine of_checks rfl rfl rfl ?_
  simp +contextual [wellFormed, Instr.instant, Instr.object, Instr.data]

theorem mainsTrackerUpdate (x0 : Nat) (x1 : Nat) (x2 : Nat) : Statement (.mainsTrackerUpdate x0 x1 x2) := by
  refine of_checks rfl rfl rfl ?_
  simp +contextual [wellFormed, Instr.instant, Instr.object, Instr.data]

theorem auxSlot (x0 : Nat) (x1 : Fin 2) (x2 x3 : List Int) (x4 : Bool) : Statement (.auxSlot x0 x1 x2 x3 x4) := by
  refine of_checks rfl rfl rfl ?_
  simp +contextual [wellFormed, Instr.instant, Instr.object, Instr.data]

theorem windowBoundary (x0 : Nat) : Statement (.windowBoundary x0) := by
  refine of_checks rfl rfl rfl ?_
  simp +contextual [wellFormed, Instr.instant, Instr.object, Instr.data]

theorem windowPublish (x0 : Nat) : Statement (.windowPublish x0) := by
  refine of_checks rfl rfl rfl ?_
  simp +contextual [wellFormed, Instr.instant, Instr.object, Instr.data]

theorem keeperRecordMissing (x0 : Nat) : Statement (.keeperRecordMissing x0) := by
  refine of_checks rfl rfl rfl ?_
  simp +contextual [wellFormed, Instr.instant, Instr.object, Instr.data]

theorem windowModeWrite (x0 : Nat) (x1 : Nat) (x2 : List Byte) : Statement (.windowModeWrite x0 x1 x2) := by
  refine of_checks rfl rfl rfl ?_
  simp +contextual [wellFormed, Instr.instant, Instr.object, Instr.data]

theorem snap (x0 : Nat) (x1 : Nat) : Statement (.snap x0 x1) := by
  refine of_checks rfl rfl rfl ?_
  simp +contextual [wellFormed, Instr.instant, Instr.object, Instr.data]

theorem captureStart (x0 x1 : Nat) (x2 : List (List Int)) : Statement (.captureStart x0 x1 x2) := by
  refine of_checks rfl rfl rfl ?_
  simp +contextual [wellFormed, Instr.instant, Instr.object, Instr.data]

theorem capturePublish (x0 : Nat) : Statement (.capturePublish x0) := by
  refine of_checks rfl rfl rfl ?_
  simp +contextual [wellFormed, Instr.instant, Instr.object, Instr.data]

theorem instantTrigger (x0 : Nat) : Statement (.instantTrigger x0) := by
  refine of_checks rfl rfl rfl ?_
  simp +contextual [wellFormed, Instr.instant, Instr.object, Instr.data]

theorem auxOutputWrite (x0 : List Byte) : Statement (.auxOutputWrite x0) := by
  refine of_checks rfl rfl rfl ?_
  simp +contextual [wellFormed, Instr.instant, Instr.object, Instr.data]

theorem auxFunctionWrite (x0 : Nat) (x1 : List Byte) : Statement (.auxFunctionWrite x0 x1) := by
  refine of_checks rfl rfl rfl ?_
  simp +contextual [wellFormed, Instr.instant, Instr.object, Instr.data]

theorem chargeCounterPreset (x0 : List Byte) : Statement (.chargeCounterPreset x0) := by
  refine of_checks rfl rfl rfl ?_
  simp +contextual [wellFormed, Instr.instant, Instr.object, Instr.data]

theorem currentKeeperWrite (x0 : List Byte) : Statement (.currentKeeperWrite x0) := by
  refine of_checks rfl rfl rfl ?_
  simp +contextual [wellFormed, Instr.instant, Instr.object, Instr.data]

theorem governorTick (x0 : Nat) (x1 : TickTiming) (x2 : List Nat) (x3 : List Nat) : Statement (.governorTick x0 x1 x2 x3) := by
  refine of_checks rfl rfl rfl ?_
  simp +contextual [wellFormed, Instr.instant, Instr.object, Instr.data]

theorem pathLearn : Statement (.pathLearn) := by
  refine of_checks rfl rfl rfl ?_
  simp +contextual [wellFormed, Instr.instant, Instr.object, Instr.data]

theorem bleedConfirmation (x0 : Fin 32) (x1 : Int) (x2 : Nat) : Statement (.bleedConfirmation x0 x1 x2) := by
  refine of_checks rfl rfl rfl ?_
  simp +contextual [wellFormed, Instr.instant, Instr.object, Instr.data]

theorem freshnessTimeout (x0 : Fin 32) : Statement (.freshnessTimeout x0) := by
  refine of_checks rfl rfl rfl ?_
  simp +contextual [wellFormed, Instr.instant, Instr.object, Instr.data]

theorem interlockRefusal (x0 : Fin 32) : Statement (.interlockRefusal x0) := by
  refine of_checks rfl rfl rfl ?_
  simp +contextual [wellFormed, Instr.instant, Instr.object, Instr.data]

theorem sessionTimerSecond (x0 : Fin 32) : Statement (.sessionTimerSecond x0) := by
  refine of_checks rfl rfl rfl ?_
  simp +contextual [wellFormed, Instr.instant, Instr.object, Instr.data]

theorem balanceTargetWrite (x0 : Nat) (x1 : List Byte) : Statement (.balanceTargetWrite x0 x1) := by
  refine of_checks rfl rfl rfl ?_
  simp +contextual [wellFormed, Instr.instant, Instr.object, Instr.data]

theorem sessionTimerWrite (x0 : Nat) (x1 : List Byte) : Statement (.sessionTimerWrite x0 x1) := by
  refine of_checks rfl rfl rfl ?_
  simp +contextual [wellFormed, Instr.instant, Instr.object, Instr.data]

theorem balanceEnableWrite (x0 : List Byte) : Statement (.balanceEnableWrite x0) := by
  refine of_checks rfl rfl rfl ?_
  simp +contextual [wellFormed, Instr.instant, Instr.object, Instr.data]

theorem stickyFlagClear (x0 : Nat) (x1 : Nat) (x2 : List Byte) : Statement (.stickyFlagClear x0 x1 x2) := by
  refine of_checks rfl rfl rfl ?_
  simp +contextual [wellFormed, Instr.instant, Instr.object, Instr.data]

theorem bleedResistorWrite (x0 : List Byte) : Statement (.bleedResistorWrite x0) := by
  refine of_checks rfl rfl rfl ?_
  simp +contextual [wellFormed, Instr.instant, Instr.object, Instr.data]

theorem thrPulseEdge (x0 : Nat) (x1 : Nat) (x2 : Nat) : Statement (.thrPulseEdge x0 x1 x2) := by
  refine of_checks rfl rfl rfl ?_
  simp +contextual [wellFormed, Instr.instant, Instr.object, Instr.data]

theorem throttleInputLost : Statement (.throttleInputLost) := by
  refine of_checks rfl rfl rfl ?_
  simp +contextual [wellFormed, Instr.instant, Instr.object, Instr.data]

theorem analysisIntervalEnd (x0 : Fin 4) (x1 : Nat) : Statement (.analysisIntervalEnd x0 x1) := by
  refine of_checks rfl rfl rfl ?_
  simp +contextual [wellFormed, Instr.instant, Instr.object, Instr.data]

theorem impedancePublish (x0 : Fin 4) : Statement (.impedancePublish x0) := by
  refine of_checks rfl rfl rfl ?_
  simp +contextual [wellFormed, Instr.instant, Instr.object, Instr.data]

theorem ambientPairingTimeout (x0 : Fin 4) : Statement (.ambientPairingTimeout x0) := by
  refine of_checks rfl rfl rfl ?_
  simp +contextual [wellFormed, Instr.instant, Instr.object, Instr.data]

theorem activeSequenceStart (x0 : Nat) : Statement (.activeSequenceStart x0) := by
  refine of_checks rfl rfl rfl ?_
  simp +contextual [wellFormed, Instr.instant, Instr.object, Instr.data]

theorem excitationEdge (x0 : Nat) : Statement (.excitationEdge x0) := by
  refine of_checks rfl rfl rfl ?_
  simp +contextual [wellFormed, Instr.instant, Instr.object, Instr.data]

theorem activeIntervalDiscard : Statement (.activeIntervalDiscard) := by
  refine of_checks rfl rfl rfl ?_
  simp +contextual [wellFormed, Instr.instant, Instr.object, Instr.data]

theorem autobalancePeriod (x0 : Nat) : Statement (.autobalancePeriod x0) := by
  refine of_checks rfl rfl rfl ?_
  simp +contextual [wellFormed, Instr.instant, Instr.object, Instr.data]

theorem socTableWrite (x0 : List Byte) : Statement (.socTableWrite x0) := by
  refine of_checks rfl rfl rfl ?_
  simp +contextual [wellFormed, Instr.instant, Instr.object, Instr.data]

theorem tempCurveWrite (x0 : List Byte) : Statement (.tempCurveWrite x0) := by
  refine of_checks rfl rfl rfl ?_
  simp +contextual [wellFormed, Instr.instant, Instr.object, Instr.data]

theorem analysisSetRead (x0 : Nat) (x1 : List Nat) (x2 : List Nat) (x3 : Nat) (x4 : Int) : Statement (.analysisSetRead x0 x1 x2 x3 x4) := by
  refine of_checks rfl rfl rfl ?_
  simp +contextual [wellFormed, Instr.instant, Instr.object, Instr.data]

theorem volts (x0 : Nat) : Statement (.volts x0) := by
  refine of_checks rfl rfl rfl ?_
  simp +contextual [wellFormed, Instr.instant, Instr.object, Instr.data]

theorem temps (x0 : Nat) : Statement (.temps x0) := by
  refine of_checks rfl rfl rfl ?_
  simp +contextual [wellFormed, Instr.instant, Instr.object, Instr.data]

theorem imped (x0 : Nat) : Statement (.imped x0) := by
  refine of_checks rfl rfl rfl ?_
  simp +contextual [wellFormed, Instr.instant, Instr.object, Instr.data]

theorem status (x0 : Nat) : Statement (.status x0) := by
  refine of_checks rfl rfl rfl ?_
  simp +contextual [wellFormed, Instr.instant, Instr.object, Instr.data]

theorem alarm (x0 : Port) (x1 : Nat) : Statement (.alarm x0 x1) := by
  refine of_checks rfl rfl rfl ?_
  simp +contextual [wellFormed, Instr.instant, Instr.object, Instr.data]

theorem pulseRepeat (x0 : Port) (x1 : Nat) : Statement (.pulseRepeat x0 x1) := by
  refine of_checks rfl rfl rfl ?_
  simp +contextual [wellFormed, Instr.instant, Instr.object, Instr.data]

theorem wakeTone (x0 : Port) (x1 : Bool) (x2 : Nat) (x3 : Nat) : Statement (.wakeTone x0 x1 x2 x3) := by
  refine of_checks rfl rfl rfl ?_
  simp +contextual [wellFormed, Instr.instant, Instr.object, Instr.data]

theorem portSignalDetect (x0 : Port) : Statement (.portSignalDetect x0) := by
  refine of_checks rfl rfl rfl ?_
  simp +contextual [wellFormed, Instr.instant, Instr.object, Instr.data]

theorem portTrained (x0 : Port) (x1 : Nat) : Statement (.portTrained x0 x1) := by
  refine of_checks rfl rfl rfl ?_
  simp +contextual [wellFormed, Instr.instant, Instr.object, Instr.data]

theorem trainingFail (x0 : Port) : Statement (.trainingFail x0) := by
  refine of_checks rfl rfl rfl ?_
  simp +contextual [wellFormed, Instr.instant, Instr.object, Instr.data]

theorem portDown (x0 : Port) (x1 : DownCause) (x2 : Nat) : Statement (.portDown x0 x1 x2) := by
  refine of_checks rfl rfl rfl ?_
  simp +contextual [wellFormed, Instr.instant, Instr.object, Instr.data]

theorem ringModeWrite (x0 : List Byte) : Statement (.ringModeWrite x0) := by
  refine of_checks rfl rfl rfl ?_
  simp +contextual [wellFormed, Instr.instant, Instr.object, Instr.data]

theorem frameReceive (x0 : Port) (x1 : Nat × Nat) (x2 : FrameEnd × List Byte) : Statement (.frameReceive x0 x1 x2) := by
  refine of_checks rfl rfl rfl ?_
  simp +contextual [wellFormed, Instr.instant, Instr.object, Instr.data]

theorem frameForward (x0 : List Byte) : Statement (.frameForward x0) := by
  refine of_checks rfl rfl rfl ?_
  simp +contextual [wellFormed, Instr.instant, Instr.object, Instr.data]

theorem frameTransmit (x0 : Nat) : Statement (.frameTransmit x0) := by
  refine of_checks rfl rfl rfl ?_
  simp +contextual [wellFormed, Instr.instant, Instr.object, Instr.data]

theorem linkCrcRate : Statement (.linkCrcRate) := by
  refine of_checks rfl rfl rfl ?_
  simp +contextual [wellFormed, Instr.instant, Instr.object, Instr.data]

theorem censusRoundStart (x0 : Nat) : Statement (.censusRoundStart x0) := by
  refine of_checks rfl rfl rfl ?_
  simp +contextual [wellFormed, Instr.instant, Instr.object, Instr.data]

theorem censusRun (x0 : List Byte) : Statement (.censusRun x0) := by
  refine of_checks rfl rfl rfl ?_
  simp +contextual [wellFormed, Instr.instant, Instr.object, Instr.data]

theorem census (x0 : Port) (x1 : Nat) (x2 : List Byte) : Statement (.census x0 x1 x2) := by
  refine of_checks rfl rfl rfl ?_
  simp +contextual [wellFormed, Instr.instant, Instr.object, Instr.data]

theorem censusEcho (x0 : Nat) (x1 : Bool) : Statement (.censusEcho x0 x1) := by
  refine of_checks rfl rfl rfl ?_
  simp +contextual [wellFormed, Instr.instant, Instr.object, Instr.data]

theorem censusEchoTimeout : Statement (.censusEchoTimeout) := by
  refine of_checks rfl rfl rfl ?_
  simp +contextual [wellFormed, Instr.instant, Instr.object, Instr.data]

theorem censusReply (x0 : Nat) (x1 : List Byte) : Statement (.censusReply x0 x1) := by
  refine of_checks rfl rfl rfl ?_
  simp +contextual [wellFormed, Instr.instant, Instr.object, Instr.data]

theorem censusPassResult (x0 : Nat) (x1 : List Byte) (x2 : Nat) : Statement (.censusPassResult x0 x1 x2) := by
  refine of_checks rfl rfl rfl ?_
  simp +contextual [wellFormed, Instr.instant, Instr.object, Instr.data]

theorem censusPassTimeout (x0 : Nat) : Statement (.censusPassTimeout x0) := by
  refine of_checks rfl rfl rfl ?_
  simp +contextual [wellFormed, Instr.instant, Instr.object, Instr.data]

theorem censusRetry (x0 : Nat) : Statement (.censusRetry x0) := by
  refine of_checks rfl rfl rfl ?_
  simp +contextual [wellFormed, Instr.instant, Instr.object, Instr.data]

theorem commit (x0 : Nat) (x1 : Nat) (x2 : Nat) (x3 : Nat) : Statement (.commit x0 x1 x2 x3) := by
  refine of_checks rfl rfl rfl ?_
  simp +contextual [wellFormed, Instr.instant, Instr.object, Instr.data]

theorem probeSweep (x0 : Port) (x1 : Nat) (x2 : Nat) : Statement (.probeSweep x0 x1 x2) := by
  refine of_checks rfl rfl rfl ?_
  simp +contextual [wellFormed, Instr.instant, Instr.object, Instr.data]

theorem probe (x0 : Port) (x1 : Nat) : Statement (.probe x0 x1) := by
  refine of_checks rfl rfl rfl ?_
  simp +contextual [wellFormed, Instr.instant, Instr.object, Instr.data]

theorem probeSweepsComplete (x0 : List (List Nat)) (x1 : Nat) : Statement (.probeSweepsComplete x0 x1) := by
  refine of_checks rfl rfl rfl ?_
  simp +contextual [wellFormed, Instr.instant, Instr.object, Instr.data]

theorem delays (x0 : Bool) (x1 : List Nat) : Statement (.delays x0 x1) := by
  refine of_checks rfl rfl rfl ?_
  simp +contextual [wellFormed, Instr.instant, Instr.object, Instr.data]

theorem delayRefresh (x0 : Nat) : Statement (.delayRefresh x0) := by
  refine of_checks rfl rfl rfl ?_
  simp +contextual [wellFormed, Instr.instant, Instr.object, Instr.data]

theorem chainConfig (x0 : List Byte) : Statement (.chainConfig x0) := by
  refine of_checks rfl rfl rfl ?_
  simp +contextual [wellFormed, Instr.instant, Instr.object, Instr.data]

theorem chainAggregate (x0 : List Byte) : Statement (.chainAggregate x0) := by
  refine of_checks rfl rfl rfl ?_
  simp +contextual [wellFormed, Instr.instant, Instr.object, Instr.data]

theorem keeperForward (x0 : Nat) (x1 : List Byte) (x2 : Nat) : Statement (.keeperForward x0 x1 x2) := by
  refine of_checks rfl rfl rfl ?_
  simp +contextual [wellFormed, Instr.instant, Instr.object, Instr.data]

theorem keeperRecord (x0 : List Byte) (x1 : Nat) : Statement (.keeperRecord x0 x1) := by
  refine of_checks rfl rfl rfl ?_
  simp +contextual [wellFormed, Instr.instant, Instr.object, Instr.data]

theorem read (x0 : Nat) (x1 : Nat) (x2 : Nat) : Statement (.read x0 x1 x2) := by
  refine of_checks rfl rfl rfl ?_
  simp +contextual [wellFormed, Instr.instant, Instr.object, Instr.data]

theorem write (x0 : Nat) (x1 : Nat) (x2 : Nat) (x3 : List Byte) : Statement (.write x0 x1 x2 x3) := by
  refine of_checks rfl rfl rfl ?_
  simp +contextual [wellFormed, Instr.instant, Instr.object, Instr.data]

theorem segInitRead (x0 : Nat) (x1 : Nat) (x2 : Nat) (x3 : Nat) : Statement (.segInitRead x0 x1 x2 x3) := by
  refine of_checks rfl rfl rfl ?_
  simp +contextual [wellFormed, Instr.instant, Instr.object, Instr.data]

theorem segInitWrite (x0 : Nat) (x1 : Nat) (x2 : Nat) (x3 : Nat) : Statement (.segInitWrite x0 x1 x2 x3) := by
  refine of_checks rfl rfl rfl ?_
  simp +contextual [wellFormed, Instr.instant, Instr.object, Instr.data]

theorem segRead (x0 : Nat) (x1 : Nat) (x2 : Nat) (x3 : Nat) : Statement (.segRead x0 x1 x2 x3) := by
  refine of_checks rfl rfl rfl ?_
  simp +contextual [wellFormed, Instr.instant, Instr.object, Instr.data]

theorem segWrite (x0 : Nat) (x1 : Nat) (x2 : Nat) (x3 : Nat) (x4 : List Byte) : Statement (.segWrite x0 x1 x2 x3 x4) := by
  refine of_checks rfl rfl rfl ?_
  simp +contextual [wellFormed, Instr.instant, Instr.object, Instr.data]

theorem segEnd (x0 : Nat) (x1 : Nat) (x2 : Nat) (x3 : Nat) : Statement (.segEnd x0 x1 x2 x3) := by
  refine of_checks rfl rfl rfl ?_
  simp +contextual [wellFormed, Instr.instant, Instr.object, Instr.data]

theorem checkConfig (x0 : Nat) (x1 : List Byte) : Statement (.checkConfig x0 x1) := by
  refine of_checks rfl rfl rfl ?_
  simp +contextual [wellFormed, Instr.instant, Instr.object, Instr.data]

theorem segmentTimeout (x0 : Requester) : Statement (.segmentTimeout x0) := by
  refine of_checks rfl rfl rfl ?_
  simp +contextual [wellFormed, Instr.instant, Instr.object, Instr.data]

theorem response (x0 : Nat) (x1 : Nat) (x2 : List Byte) : Statement (.response x0 x1 x2) := by
  refine of_checks rfl rfl rfl ?_
  simp +contextual [wellFormed, Instr.instant, Instr.object, Instr.data]

theorem commandTimeout (x0 : Nat) : Statement (.commandTimeout x0) := by
  refine of_checks rfl rfl rfl ?_
  simp +contextual [wellFormed, Instr.instant, Instr.object, Instr.data]

theorem headConfigChecksDone : Statement (.headConfigChecksDone) := by
  refine of_checks rfl rfl rfl ?_
  simp +contextual [wellFormed, Instr.instant, Instr.object, Instr.data]

theorem scheduledTrigger (x0 : StreamClass) (x1 : Nat) : Statement (.scheduledTrigger x0 x1) := by
  refine of_checks rfl rfl rfl ?_
  simp +contextual [wellFormed, Instr.instant, Instr.object, Instr.data]

theorem streamResponseForm (x0 : StreamClass) : Statement (.streamResponseForm x0) := by
  refine of_checks rfl rfl rfl ?_
  simp +contextual [wellFormed, Instr.instant, Instr.object, Instr.data]

theorem streamFrame (x0 : Nat) (x1 : List Byte) : Statement (.streamFrame x0 x1) := by
  refine of_checks rfl rfl rfl ?_
  simp +contextual [wellFormed, Instr.instant, Instr.object, Instr.data]

theorem trainClose (x0 : StreamClass) (x1 : Nat) : Statement (.trainClose x0 x1) := by
  refine of_checks rfl rfl rfl ?_
  simp +contextual [wellFormed, Instr.instant, Instr.object, Instr.data]

theorem splitEntry (x0 : Nat) (x1 : Nat) : Statement (.splitEntry x0 x1) := by
  refine of_checks rfl rfl rfl ?_
  simp +contextual [wellFormed, Instr.instant, Instr.object, Instr.data]

theorem splitEnd (x0 : Nat) : Statement (.splitEnd x0) := by
  refine of_checks rfl rfl rfl ?_
  simp +contextual [wellFormed, Instr.instant, Instr.object, Instr.data]

theorem spiCommand (x0 : List Byte) : Statement (.spiCommand x0) := by
  refine of_checks rfl rfl rfl ?_
  simp +contextual [wellFormed, Instr.instant, Instr.object, Instr.data]

theorem spiRead (x0 : Nat) : Statement (.spiRead x0) := by
  refine of_checks rfl rfl rfl ?_
  simp +contextual [wellFormed, Instr.instant, Instr.object, Instr.data]

theorem canRequest (x0 : List Byte) : Statement (.canRequest x0) := by
  refine of_checks rfl rfl rfl ?_
  simp +contextual [wellFormed, Instr.instant, Instr.object, Instr.data]

theorem novezRead (x0 : Carrier) (x1 : Nat) (x2 : Nat) (x3 : Nat) : Statement (.novezRead x0 x1 x2 x3) := by
  refine of_checks rfl rfl rfl ?_
  simp +contextual [wellFormed, Instr.instant, Instr.object, Instr.data]

theorem novezWrite (x0 : Carrier) (x1 : Nat) (x2 : Nat) (x3 : Nat) (x4 : List Byte) : Statement (.novezWrite x0 x1 x2 x3 x4) := by
  refine of_checks rfl rfl rfl ?_
  simp +contextual [wellFormed, Instr.instant, Instr.object, Instr.data]

theorem novezSegInitRead (x0 : Carrier) (x1 : Nat) (x2 : Nat) (x3 : Nat) (x4 : Nat) : Statement (.novezSegInitRead x0 x1 x2 x3 x4) := by
  refine of_checks rfl rfl rfl ?_
  simp +contextual [wellFormed, Instr.instant, Instr.object, Instr.data]

theorem novezSegInitWrite (x0 : Carrier) (x1 : Nat) (x2 : Nat) (x3 : Nat) (x4 : Nat) : Statement (.novezSegInitWrite x0 x1 x2 x3 x4) := by
  refine of_checks rfl rfl rfl ?_
  simp +contextual [wellFormed, Instr.instant, Instr.object, Instr.data]

theorem novezSegRead (x0 : Carrier) (x1 : Nat) (x2 : Nat) (x3 : Nat) (x4 : Nat) : Statement (.novezSegRead x0 x1 x2 x3 x4) := by
  refine of_checks rfl rfl rfl ?_
  simp +contextual [wellFormed, Instr.instant, Instr.object, Instr.data]

theorem novezSegWrite (x0 : Carrier) (x1 : Nat) (x2 : Nat) (x3 : Nat) (x4 : Nat) (x5 : List Byte)
    : Statement (.novezSegWrite x0 x1 x2 x3 x4 x5) := by
  refine of_checks rfl rfl rfl ?_
  simp +contextual [wellFormed, Instr.instant, Instr.object, Instr.data]

theorem novezSegEnd (x0 : Carrier) (x1 : Nat) (x2 : Nat) (x3 : Nat) (x4 : Nat) : Statement (.novezSegEnd x0 x1 x2 x3 x4) := by
  refine of_checks rfl rfl rfl ?_
  simp +contextual [wellFormed, Instr.instant, Instr.object, Instr.data]

theorem segmentRepeatKeepalive (x0 : Carrier) : Statement (.segmentRepeatKeepalive x0) := by
  refine of_checks rfl rfl rfl ?_
  simp +contextual [wellFormed, Instr.instant, Instr.object, Instr.data]

theorem trigger (x0 : Carrier) (x1 : Nat) : Statement (.trigger x0 x1) := by
  refine of_checks rfl rfl rfl ?_
  simp +contextual [wellFormed, Instr.instant, Instr.object, Instr.data]

theorem readStream (x0 : Carrier) (x1 : Nat) (x2 : Nat) (x3 : Nat) (x4 : Nat) : Statement (.readStream x0 x1 x2 x3 x4) := by
  refine of_checks rfl rfl rfl ?_
  simp +contextual [wellFormed, Instr.instant, Instr.object, Instr.data]

theorem readAttention (x0 : Carrier) : Statement (.readAttention x0) := by
  refine of_checks rfl rfl rfl ?_
  simp +contextual [wellFormed, Instr.instant, Instr.object, Instr.data]

theorem hostCrcRate : Statement (.hostCrcRate) := by
  refine of_checks rfl rfl rfl ?_
  simp +contextual [wellFormed, Instr.instant, Instr.object, Instr.data]

theorem canAlarmFrame : Statement (.canAlarmFrame) := by
  refine of_checks rfl rfl rfl ?_
  simp +contextual [wellFormed, Instr.instant, Instr.object, Instr.data]

theorem canTrainStream (x0 : StreamClass) : Statement (.canTrainStream x0) := by
  refine of_checks rfl rfl rfl ?_
  simp +contextual [wellFormed, Instr.instant, Instr.object, Instr.data]

theorem canBusOffRecovery : Statement (.canBusOffRecovery) := by
  refine of_checks rfl rfl rfl ?_
  simp +contextual [wellFormed, Instr.instant, Instr.object, Instr.data]

theorem canConfigApply : Statement (.canConfigApply) := by
  refine of_checks rfl rfl rfl ?_
  simp +contextual [wellFormed, Instr.instant, Instr.object, Instr.data]

theorem faultRegistration : Statement (.faultRegistration) := by
  refine of_checks rfl rfl rfl ?_
  simp +contextual [wellFormed, Instr.instant, Instr.object, Instr.data]

theorem captureFifoDrain (x0 : Nat) : Statement (.captureFifoDrain x0) := by
  refine of_checks rfl rfl rfl ?_
  simp +contextual [wellFormed, Instr.instant, Instr.object, Instr.data]

theorem acknowledgeSource (x0 : Nat) : Statement (.acknowledgeSource x0) := by
  refine of_checks rfl rfl rfl ?_
  simp +contextual [wellFormed, Instr.instant, Instr.object, Instr.data]

theorem acknowledgeAll : Statement (.acknowledgeAll) := by
  refine of_checks rfl rfl rfl ?_
  simp +contextual [wellFormed, Instr.instant, Instr.object, Instr.data]

theorem safeStateExit (x0 : Nat) : Statement (.safeStateExit x0) := by
  refine of_checks rfl rfl rfl ?_
  simp +contextual [wellFormed, Instr.instant, Instr.object, Instr.data]

theorem faultSeverityWrite (x0 : Nat) (x1 : List Byte) : Statement (.faultSeverityWrite x0 x1) := by
  refine of_checks rfl rfl rfl ?_
  simp +contextual [wellFormed, Instr.instant, Instr.object, Instr.data]

theorem faultFlagsWrite (x0 : List Byte) : Statement (.faultFlagsWrite x0) := by
  refine of_checks rfl rfl rfl ?_
  simp +contextual [wellFormed, Instr.instant, Instr.object, Instr.data]

theorem engineWatchdogExpiry (x0 : Fin 8) (x1 : Nat) : Statement (.engineWatchdogExpiry x0 x1) := by
  refine of_checks rfl rfl rfl ?_
  simp +contextual [wellFormed, Instr.instant, Instr.object, Instr.data]

theorem engineRestart (x0 : Fin 8) (x1 : Bool) : Statement (.engineRestart x0 x1) := by
  refine of_checks rfl rfl rfl ?_
  simp +contextual [wellFormed, Instr.instant, Instr.object, Instr.data]

theorem engineSelfTest (x0 : Fin 8) (x1 : Bool) : Statement (.engineSelfTest x0 x1) := by
  refine of_checks rfl rfl rfl ?_
  simp +contextual [wellFormed, Instr.instant, Instr.object, Instr.data]

theorem engineLoadMeasurement (x0 : List Nat) : Statement (.engineLoadMeasurement x0) := by
  refine of_checks rfl rfl rfl ?_
  simp +contextual [wellFormed, Instr.instant, Instr.object, Instr.data]

theorem memoryError (x0 : Nat) (x1 : Nat) (x2 : Bool) : Statement (.memoryError x0 x1 x2) := by
  refine of_checks rfl rfl rfl ?_
  simp +contextual [wellFormed, Instr.instant, Instr.object, Instr.data]

theorem memoryScrub (x0 : List (Nat × Nat × Bool)) : Statement (.memoryScrub x0) := by
  refine of_checks rfl rfl rfl ?_
  simp +contextual [wellFormed, Instr.instant, Instr.object, Instr.data]

theorem configSignatureCheck (x0 : Option (Nat × Int)) : Statement (.configSignatureCheck x0) := by
  refine of_checks rfl rfl rfl ?_
  simp +contextual [wellFormed, Instr.instant, Instr.object, Instr.data]

theorem fltReadback (x0 : Bool) (x1 : Nat) : Statement (.fltReadback x0 x1) := by
  refine of_checks rfl rfl rfl ?_
  simp +contextual [wellFormed, Instr.instant, Instr.object, Instr.data]

theorem openWireSlot (x0 : Nat) (x1 : Nat) (x2 : List Int) (x3 : List Int) : Statement (.openWireSlot x0 x1 x2 x3) := by
  refine of_checks rfl rfl rfl ?_
  simp +contextual [wellFormed, Instr.instant, Instr.object, Instr.data]

theorem openWireRepeat (x0 : List Int) (x1 : List Int) : Statement (.openWireRepeat x0 x1) := by
  refine of_checks rfl rfl rfl ?_
  simp +contextual [wellFormed, Instr.instant, Instr.object, Instr.data]

theorem unlockArm : Statement (.unlockArm) := by
  refine of_checks rfl rfl rfl ?_
  simp +contextual [wellFormed, Instr.instant, Instr.object, Instr.data]

theorem unlockConfirm : Statement (.unlockConfirm) := by
  refine of_checks rfl rfl rfl ?_
  simp +contextual [wellFormed, Instr.instant, Instr.object, Instr.data]

theorem unlockClear (x0 : Nat) : Statement (.unlockClear x0) := by
  refine of_checks rfl rfl rfl ?_
  simp +contextual [wellFormed, Instr.instant, Instr.object, Instr.data]

theorem unlockExpiry : Statement (.unlockExpiry) := by
  refine of_checks rfl rfl rfl ?_
  simp +contextual [wellFormed, Instr.instant, Instr.object, Instr.data]

theorem dictionaryWrite (x0 : Nat) (x1 : Nat) (x2 : List Byte) : Statement (.dictionaryWrite x0 x1 x2) := by
  refine of_checks rfl rfl rfl ?_
  simp +contextual [wellFormed, Instr.instant, Instr.object, Instr.data]

theorem journalRead (x0 : Requester) (x1 : Nat) : Statement (.journalRead x0 x1) := by
  refine of_checks rfl rfl rfl ?_
  simp +contextual [wellFormed, Instr.instant, Instr.object, Instr.data]

theorem readCursorWrite (x0 : List Byte) : Statement (.readCursorWrite x0) := by
  refine of_checks rfl rfl rfl ?_
  simp +contextual [wellFormed, Instr.instant, Instr.object, Instr.data]

theorem checkUnitWrite (x0 : Nat) (x1 : List Byte) : Statement (.checkUnitWrite x0 x1) := by
  refine of_checks rfl rfl rfl ?_
  simp +contextual [wellFormed, Instr.instant, Instr.object, Instr.data]

theorem save (x0 : List Byte) : Statement (.save x0) := by
  refine of_checks rfl rfl rfl ?_
  simp +contextual [wellFormed, Instr.instant, Instr.object, Instr.data]

theorem nvmPageProgram : Statement (.nvmPageProgram) := by
  refine of_checks rfl rfl rfl ?_
  simp +contextual [wellFormed, Instr.instant, Instr.object, Instr.data]

theorem saveComplete (x0 : ReadBack) : Statement (.saveComplete x0) := by
  refine of_checks rfl rfl rfl ?_
  simp +contextual [wellFormed, Instr.instant, Instr.object, Instr.data]

theorem restoreConfig : Statement (.restoreConfig) := by
  refine of_checks rfl rfl rfl ?_
  simp +contextual [wellFormed, Instr.instant, Instr.object, Instr.data]

theorem restoreAll : Statement (.restoreAll) := by
  refine of_checks rfl rfl rfl ?_
  simp +contextual [wellFormed, Instr.instant, Instr.object, Instr.data]

theorem summaryWrite : Statement (.summaryWrite) := by
  refine of_checks rfl rfl rfl ?_
  simp +contextual [wellFormed, Instr.instant, Instr.object, Instr.data]

theorem summaryWriteComplete (x0 : ReadBack) : Statement (.summaryWriteComplete x0) := by
  refine of_checks rfl rfl rfl ?_
  simp +contextual [wellFormed, Instr.instant, Instr.object, Instr.data]

theorem supplyAttemptRetry : Statement (.supplyAttemptRetry) := by
  refine of_checks rfl rfl rfl ?_
  simp +contextual [wellFormed, Instr.instant, Instr.object, Instr.data]

theorem railGood (x0 : Rail) : Statement (.railGood x0) := by
  refine of_checks rfl rfl rfl ?_
  simp +contextual [wellFormed, Instr.instant, Instr.object, Instr.data]

theorem vstkInRange : Statement (.vstkInRange) := by
  refine of_checks rfl rfl rfl ?_
  simp +contextual [wellFormed, Instr.instant, Instr.object, Instr.data]

theorem sectorEraseComplete : Statement (.sectorEraseComplete) := by
  refine of_checks rfl rfl rfl ?_
  simp +contextual [wellFormed, Instr.instant, Instr.object, Instr.data]

theorem operatingHour : Statement (.operatingHour) := by
  refine of_checks rfl rfl rfl ?_
  simp +contextual [wellFormed, Instr.instant, Instr.object, Instr.data]

theorem medianRsRead (x0 : List (Nat × List Nat)) : Statement (.medianRsRead x0) := by
  refine of_checks rfl rfl rfl ?_
  simp +contextual [wellFormed, Instr.instant, Instr.object, Instr.data]

theorem ignoredFrame : Statement (.ignoredFrame) := by
  refine of_checks rfl rfl rfl ?_
  simp +contextual [wellFormed, Instr.instant, Instr.object, Instr.data]

theorem canBusError (x0 : Bool) : Statement (.canBusError x0) := by
  refine of_checks rfl rfl rfl ?_
  simp +contextual [wellFormed, Instr.instant, Instr.object, Instr.data]

end Sys2Proof.Laws.Bounds

end
end

