-- ==== Sys2Proof/Laws/Switches.lean ====
section
/-! SUPPORT. The balance switches: which operations keep two neighbours from conducting together (R206). -/

namespace Sys2Proof.Machine

/-- Channel j after channel i has been rewritten. -/
theorem Block.chan_editCh (b : Block) (i j : Nat) (f : GovCh → GovCh) :
    (b.editCh i f).chan j = if i = j ∧ j < b.gov.ch.length then f (b.chan j) else b.chan j := by
  simp only [Block.chan, Block.editCh, Block.withGov, editAt]
  cases hc : b.gov.ch[i]? with
  | none => by_cases h : i = j <;> simp_all
  | some c =>
    by_cases h : i = j
    · subst h
      obtain ⟨hl, rfl⟩ := List.getElem?_eq_some_iff.mp hc
      simp [hl]
    · simp [h]

/-- An absent channel does not conduct. -/
@[simp] theorem GovCh.idle_on : GovCh.idle.on = false := rfl

/-- Switches that conduct no more often than before keep the interlock. -/
theorem Block.NeighboursOff.mono {b b' : Block} (h : b.NeighboursOff) (m : ∀ i, (b'.chan i).on = true → (b.chan i).on = true) :
    b'.NeighboursOff := fun i hi => by
  have := h i (m i hi)
  cases hn : (b'.chan (i + 1)).on with
  | false => rfl
  | true => simp [m _ hn] at this

/-- A block with the same switches keeps the interlock. -/
theorem Block.NeighboursOff.same {b b' : Block} (h : b.NeighboursOff) (e : b'.gov.ch = b.gov.ch) : b'.NeighboursOff :=
  h.mono fun i hi => by simpa [Block.chan, e] using hi

/-- One channel rewritten without turning its switch on. -/
theorem Block.NeighboursOff.editCh {b : Block} (h : b.NeighboursOff) (i : Nat) {f : GovCh → GovCh}
    (k : ∀ c, (f c).on = true → c.on = true) : (b.editCh i f).NeighboursOff :=
  h.mono fun j hj => by
    rw [Block.chan_editCh] at hj
    split at hj
    · exact k _ hj
    · exact hj

/-- Every channel rewritten without turning a switch on. -/
theorem Block.NeighboursOff.mapCh {b b' : Block} (h : b.NeighboursOff) {f : GovCh → GovCh} (e : b'.gov.ch = b.gov.ch.map f)
    (k : ∀ c, (f c).on = true → c.on = true) : b'.NeighboursOff :=
  h.mono fun j hj => by
    simp only [Block.chan, e, List.getElem?_map] at hj ⊢
    cases hc : b.gov.ch[j]? with
    | none => simp [hc] at hj
    | some c => exact k c (by simpa [hc] using hj)

/-- With every switch off no two neighbours conduct. -/
theorem Block.switchesOff_neighboursOff (b : Block) : b.switchesOff.NeighboursOff := fun i hi => by
  simp only [Block.chan, Block.switchesOff, Block.withGov, List.getElem?_map] at hi
  cases hc : b.gov.ch[i]? <;> simp [hc, GovCh.off, GovCh.dark] at hi

/-- An on command keeps the interlock: it runs only while no neighbour conducts. -/
theorem Block.NeighboursOff.turnOn {b : Block} (h : b.NeighboursOff) (i : Nat) (o : Owner) : (b.turnOn i o).NeighboursOff := by
  by_cases hk : (b.chan i).on = false ∧ b.interlocked i = false
  · obtain ⟨h1, h2⟩ := hk
    simp only [Block.interlocked, Bool.or_eq_false_iff] at h2
    have up : ∀ j, ((b.turnOn i o).chan j).on = true → j = i ∨ (b.chan j).on = true := fun j hj => by
      unfold Block.turnOn at hj
      rw [Block.chan_editCh] at hj
      split at hj
      · next q => exact .inl q.1.symm
      · exact .inr hj
    intro j hj
    cases hn : ((b.turnOn i o).chan (j + 1)).on with
    | false => rfl
    | true =>
      rcases up j hj with rfl | hj' <;> rcases up (j + 1) hn with hn' | hn'
      · omega
      · simp [h2.1] at hn'
      · subst hn'; simp [hj'] at h2
      · simp [h j hj'] at hn'
  · refine h.mono fun j hj => ?_
    unfold Block.turnOn at hj
    rw [Block.chan_editCh] at hj
    split at hj
    · next q =>
      obtain ⟨rfl, -⟩ := q
      cases hc : (b.chan i).on with
      | true => rfl
      | false =>
        have hl : b.interlocked i = true := by simpa [hc] using hk
        simp [hc, hl] at hj
    · exact hj

end Sys2Proof.Machine
end

