-- ==== Sys2Proof/Tests/Slice0.lean ====
section
/-! SUPPORT. The model's own tests: an ill-formed term for each check of WellFormed, worked examples of the spec, and for every statement's
hypotheses states and operands that meet them together. -/

namespace Sys2Proof.Tests

open Sys2Proof.Machine

/-! ### States and checks -/

/-- A node of no reset value but the model's, in a mode. -/
def node (m : Mode) : State := ⟨[], Block.fresh Fuses.model m, []⟩

/-- A head, likewise. -/
def head (m : Mode) : State := ⟨[], (Block.fresh Fuses.model m).put Ob.role 2, []⟩

/-- A state with its block changed. -/
def up (s : State) (f : Block → Block) : State := { s with blk := f s.blk }

/-- The block a command leaves. -/
def run (c : Instr) (s : State) : Block := match exec c s with
  | .next t => t.blk
  | _ => s.blk

/-- The state a command leaves. -/
def after (c : Instr) (s : State) : State := match exec c s with
  | .next t => t
  | _ => s

/-- The state a step leaves. -/
def stepped (s : State) : State := match step s with
  | .next t => t
  | _ => s

/-- The command goes on. -/
def goes (c : Instr) (s : State) : Bool := match exec c s with
  | .next _ => true
  | _ => false

/-- The step goes on. -/
def stepGoes (s : State) : Bool := match step s with
  | .next _ => true
  | _ => false

theorem goes_next {c : Instr} {s : State} (h : goes c s = true) : exec c s = .next (after c s) := by
  unfold goes at h
  unfold after
  split at h <;> simp_all

theorem stepGoes_next {s : State} (h : stepGoes s = true) : step s = .next (stepped s) := by
  unfold stepGoes at h
  unfold stepped
  split at h <;> simp_all

/-- The values a write carries, where its checks pass. -/
def valsOf (b : Block) (ix sub : Nat) (data : List Byte) : List (Nat × Int) :=
  match b.disarm.checkWrite ix sub data longest with
  | .ok l => decodeSlices ix l.2
  | .error _ => []

theorem none_of {α : Type} {o : Option α} {P : α → Prop} (h : o.isNone = true) : ∀ y, o = some y → P y := by
  intro y hy
  simp [hy] at h

/-- A check passes with what holds of its result. -/
def ifOk {α : Type} (x : Except Nat α) (p : α → Bool) : Bool := match x with
  | .ok l => p l
  | .error _ => false

theorem ok_of {α : Type} {x : Except Nat α} {P : α → Prop} [DecidablePred P] (h : ifOk x (fun l => decide (P l)) = true) :
    ∃ l, x = .ok l ∧ P l := by
  cases x with
  | ok l => exact ⟨l, rfl, by simpa [ifOk] using h⟩
  | error a => cases h

theorem ok_pair_of {α β : Type} {x : Except Nat (α × β)} {P : β → Prop} [DecidablePred P]
    (h : ifOk x (fun l => decide (P l.2)) = true) : ∃ o sl, x = .ok (o, sl) ∧ P sl := by
  cases x with
  | ok l => exact ⟨l.1, l.2, rfl, by simpa [ifOk] using h⟩
  | error a => cases h

/-- The checks of Accepts, computed. -/
def accepts (b : Block) (ix sub : Nat) (data : List Byte) (vals : List (Nat × Int)) : Bool :=
  b.awake && (!b.isHead || decide (b.concerned ix vals = [])) &&
    ifOk (b.disarm.checkWrite ix sub data longest) fun l => decide (decodeSlices ix l.2 = vals)

theorem accepts_sound {b : Block} {ix sub : Nat} {data : List Byte} {vals : List (Nat × Int)}
    (h : accepts b ix sub data vals = true) : Accepts b ix sub data vals := by
  simp only [accepts, Bool.and_eq_true, Bool.or_eq_true, decide_eq_true_eq, Bool.not_eq_true'] at h
  exact ⟨h.1.1, h.1.2, ok_pair_of (P := fun sl => decodeSlices ix sl = vals) h.2⟩

/-- The checks of Refuses, computed. -/
theorem refuses_sound {b : Block} {ix sub : Nat} {data : List Byte} {a : Nat}
    (h : (b.awake && match b.disarm.checkWrite ix sub data longest with
      | .ok _ => false
      | .error x => x == a) = true) : Refuses b ix sub data a := by
  simp only [Bool.and_eq_true] at h
  refine ⟨h.1, ?_⟩
  have h2 := h.2
  split at h2
  · cases h2
  · next e => rw [e]; simpa using h2

theorem listens_sound {b : Block} {seq : Nat}
    (h : (b.awake && !b.isHead && b.positioned && b.access.lastSeq.isNone) = true) : Listens b seq := by
  simp only [Bool.and_eq_true, Bool.not_eq_true'] at h
  exact ⟨h.1.1.1, h.1.1.2, h.1.2, none_of h.2⟩

theorem ready_sound {b : Block} {c : Carrier}
    (h : (b.carrierOpen c && decide ((b.hostPort c).executing = none) && decide (b.link.round = none) &&
      decide (0 ≤ b.get Ob.censusResultTop) && decide (b.get Ob.censusResultTop ≤ 63)) = true) : Ready b c := by
  simp only [Bool.and_eq_true, decide_eq_true_eq] at h
  exact ⟨h.1.1.1.1, h.1.1.1.2, h.1.1.2, h.1.2, h.2⟩

theorem ties_sound {b : Block} {sub : Nat} {data : List Byte} {most : Nat}
    (h : ifOk (b.writeTarget 0x1004 sub) (fun o => decide (b.lengthAbort o sub data.length most = none ∧
      let after := b.putAll (decodeSlices 0x1004 (b.slices o (b.addressed o sub) data))
      (after.get Ob.bedrockThresholdsCellOver ≤ after.get Ob.bedrockThresholdsCellUnder ∨
        after.get Ob.bedrockThresholdsThermHot ≤ after.get Ob.bedrockThresholdsThermCold))) = true) : BreaksTies b sub data most :=
  ok_of h

/-- A power sequencing stage of a block in Sleep. -/
def stage (x : Stage) (n : Nat) : State := up (node .sleep) fun b => b.withPower { b.power with stage := x, attempts := n }

/-- A hottest lane known to be cool. -/
def cool (b : Block) : Block := b.putAll [(Ob.hottestLaneHottest, 250), (Ob.hottestLaneCoolest, 250)]

/-- The report of a boot that finds nothing wrong. -/
def rep : BootReport := ⟨true, true, [], [], [], []⟩

/-- Every lane thermometer at one reading. -/
def lanesAt (x : Int) : List Int := List.replicate 37 x

def N := node .standby
def M := node .measure
def F := node .full
def H := head .standby

/-- The lanes above both thresholds twice. -/
def hot : State := up M fun b => (b.withThermal { b.thermal with over150 := List.replicate 37 2, over145 := List.replicate 37 2 }).putAll
  ((List.range 37).map fun k => (Ob.laneTemperature + k + 1, 1510))

/-- A balancing node in Sleep. -/
def asleep : State := up (node .sleep) fun b => b.withBedrock { b.bedrock with balancing := true, planned := List.replicate 32 3 }

/-- An aligned timebase. -/
def aligned (b : Block) : Block := b.putAll [(Ob.clockSourceTimebaseState, 2), (Ob.clockSourceSource, 2), (Ob.portStatusDuState, 4)]

/-- A node whose lane thermometers have all been read. -/
def warm : State := up M fun b => b.putAll ((List.range 37).map fun k => (Ob.laneTemperature + k + 1, 250))

/-- The current keeper. -/
def K : State := up warm fun b => (b.put Ob.currentKeeper 1).put Ob.position 1

/-- A window with every cell covered. -/
def W : Window := ⟨64000, 128000, 5, 0, List.replicate 32 ⟨0, 1000, 0, 0, 0, 0, 0, 0⟩, (0, 0)⟩

/-- A node whose window is open. -/
def WO : State := up M fun b => (b.putAll [(Ob.clockSourceTimebaseState, 2), (Ob.windowMode, 1)]).withWin { b.win with opened := some W }

/-- A node whose window closes. -/
def WC (w : Window) : State := up M fun b => b.withWin { b.win with closing := some w }

/-- A node that takes the throttle input from a pulse input. -/
def P : State := up M fun b => b.putAll [(Ob.throttleSourceSource, 3), (Ob.auxFunction + 6, 7), (Ob.throttleSourceState, 1)]

/-- A node with an ambient analysis entry. -/
def E : State := up F fun b => ((b.putAll [(Ob.analysisFrequencies + 1, 1000000), (Ob.excitationSource + 1, 1)]).put Ob.currentKeeper 5).withWin
  { b.win with mode := 1 }

/-- An interval that has ended and waits for its keeper record. -/
def iv : Interval := ⟨3, 1000000, 1000, 0, 64000000, List.replicate 32 none, [], false, none, [], []⟩

/-- The keeper record of that interval. -/
def kp : KeeperPhasor := ⟨1, 3, 1000000, 0, (0, 0), []⟩

/-- A node with an active analysis entry. -/
def X : State := up F fun b => b.putAll
  [(Ob.analysisFrequencies + 1, 1000000), (Ob.excitationSource + 1, 2), (Ob.impedanceConfigActiveMask, 0xFFFFFFFF)]

/-- An active interval that excites channel 3. -/
def act : ActiveSeq := ⟨[(0, false)], 1000000, 8, 0, 64000, 128000, [3], [], [], none, none⟩

/-- That node during the interval. -/
def XA : State := up X fun b => b.withImp { b.imp with active := some act }

/-- A node with automatic balancing at work. -/
def A : State := up F fun b => (b.putAll [(Ob.autoBalanceEnable, 1), (Ob.chainSocMinimumValue, 100), (Ob.chainSocMinimumSequence, 0),
  (chKey Ob.cellSoc 5, 5000), (chKey Ob.socUncertainty 5, 10)]).withSocTable (bytesOf 4 0 ++ bytesOf 4 1000 ++ bytesOf 396 0)

/-- A node with a detection to register. -/
def D : State := up M fun b => b.raise 0x01 5

/-- A journal entry. -/
def entry : JEntry := ⟨0, 0, 1, 3, 3, 1, 0, false, false, false, true, false, 0⟩

/-- A node that holds a position, with both ports up. -/
def NL : State := up M fun b => b.putAll [(Ob.portStatusDlState, 4), (Ob.portStatusDuState, 4), (Ob.position, 3), (Ob.censusResultTop, 5)]

/-- A head whose CAN takes part, with the committed census of a chain. -/
def HC (top : Int) : State := up H fun b => b.putAll [(Ob.portStatusDlState, 4), (Ob.portStatusDuState, 4), (Ob.position, 0),
  (Ob.censusResultTop, top), (Ob.canStatusErrorState, 1), (Ob.attention, 5)]

/-- A port in a state. -/
def port (p : Port) (v : Int) (s : State) : State := up s fun b => b.put (stateKey p) v

/-- A frame. -/
def fr : List Byte := frameOf (headerOf 4 0 0 0 0) (bytesOf 1 1 ++ bytesOf 15 0)

/-- A census number taken. -/
def tk (echoed : Bool) : CensusTaken := ⟨7, 3, 2, 9, 2, false, echoed⟩

/-- A node with a census number taken. -/
def NT (echoed : Bool) : State := up NL fun b => b.withLink { b.link with taken := some (tk echoed) }

/-- A node with a segmented transfer. -/
def T (t : Transfer) : State := up NL fun b => b.withAccess { b.access with transfer := some t }

/-- A transfer of the chain over object 0x1003. -/
def tr (w : Bool) (d : List Byte) (l n del : Nat) : Transfer := ⟨.chain, 0x1003, 0, w, d, l, n, none, del, none⟩

/-- A transfer of a carrier over object 0x1003. -/
def ht (w : Bool) (p : Nat) (d : List Byte) (l n del k : Nat) : HostTransfer := ⟨p, 0x1003, 0, w, d, l, n, none, del, k⟩

/-- A head with a transfer of a carrier. -/
def HT (c : Carrier) (t : HostTransfer) : State := up (HC 3) fun b => b.setHostPort c { b.hostPort c with transfer := some t }

/-- A command under way to position 2. -/
def cmd (w : Waiter) (a : Nat) : Outstanding := ⟨2, some 9, commandPayload 1 0x1003 0 0 0 [], a, w, false⟩

/-- A write at the head that waits for its positions. -/
def hw (wait : List Nat) (r f : Bool) : HeadWrite := ⟨none, 0x2032, 0, [1#8], wait, r, f⟩

/-- A head with a command under way and a write that waits. -/
def HO (w : Waiter) (a : Nat) (x : Option HeadWrite) : State :=
  up (HC 3) fun b => b.withLink { b.link with commands := [cmd w a], headWrite := x }

/-- A head with a write that waits for nobody. -/
def HW (r f : Bool) : State := up (HC 3) fun b => b.withLink { b.link with headWrite := some (hw [] r f) }

/-- A response to the command under way. -/
def resp : List Byte := bytesOf 1 1 ++ bytesOf 1 0 ++ bytesOf 2 0x1003 ++ bytesOf 2 2 ++ bytesOf 1 0 ++ bytesOf 1 0 ++ bytesOf 2 30

/-- A train. -/
def tn (cls : Nat) (fs : List StreamRecord) : Train := ⟨cls, 5000, 0, fs, true, false⟩

/-- A head with its link changed. -/
def HL (f : Link → Link) : State := up (HC 3) fun b => b.withLink (f b.link)

/-- A head with the SPI port changed. -/
def HS (f : HostPort → HostPort) : State := up (HC 3) fun b => b.setHostPort .spi (f b.host.spi)

/-- A probe sweep of three positions. -/
def sweep : List Nat := [400000, 800000, 1200000]

/-- A census payload. -/
def census3 : List Byte := bytesOf 1 3 ++ bytesOf 3 0

/-- The SPI or CAN header of READ_ATTENTION. -/
def attn : List Byte := bytesOf 1 0x12 ++ bytesOf 4 0

/-- A table of the state of charge that the checks accept (R259). -/
def socData : List Byte :=
  let l := bytesOf 2 1 ++ bytesOf 2 404 ++ bytesOf 4 5000 ++ bytesOf 8 0 ++
    (List.range 64).flatMap fun i => bytesOf 4 (3000000 + i) ++ bytesOf 2 (if i = 63 then 10000 else 150 * i)
  l ++ bytesOf 4 (crc32c l)

/-- A temperature curve that the checks accept (R257). -/
def curveData : List Byte :=
  let l := bytesOf 2 1 ++ bytesOf 2 148 ++ bytesOf 1 1 ++ bytesOf 1 0 ++ bytesOf 2 10 ++ bytesOf 2 20 ++ bytesOf 6 0 ++
    (List.range 16).flatMap fun i => bytesOf 4 (100 * i) ++ bytesOf 2 (10 * i) ++ bytesOf 2 0
  l ++ bytesOf 4 (crc32c l)

/-- A program of the NVM. -/
def prog (erased : Bool) (page : Nat) (k : ProgramKind) : Program := ⟨k, dictBase true, List.replicate 300 5#8, erased, page, 0, false⟩

/-- A node at work on that program. -/
def written (erased : Bool) (page : Nat) (k : ProgramKind) : State :=
  { up M (fun b => (cool b).withNvm { b.nvm with program := some (prog erased page k) }) with flash := [(0x6001, 3#8), (0x8000, 7#8)] }

/-- A node in a window mode that uses the lanes' blocks, with engines halted. -/
def ML (halted : List Nat) : State := up warm fun b =>
  ((b.put Ob.tapCompensationMode 2).withWin { b.win with mode := 1 }).withDiag { b.diag with halted := halted }

/-- 200 bytes. -/
def block200 : List Byte := bytesOf 200 77

/-- Three bytes. -/
def block3 : List Byte := bytesOf 3 1

/-- Sixty bytes. -/
def block60 : List Byte := bytesOf 60 7

/-- A node with a detection that its journal has within a millisecond. -/
def again : State := up M fun b => (b.withFlint { b.flint with fifo := [entry] }).withJournal
  { b.journal with entries := [{ entry with start := false }], next := 1 }

/-- A node and a head without E6's feature, the head with the write of an object of it in a carrier's buffer. -/
def NS : State := up NL fun b => b.withFuses { b.fuses with variantX := false }

@[inherit_doc NS] def HX (c : Carrier) : State := up (HT c ⟨0, 0x4000, 0, true, [1#8, 2#8], 2, 1, none, 0, 0⟩) fun b =>
  b.withFuses { b.fuses with variantX := false }

/-- Values of BedrockThresholds with CellUnder at CellOver. -/
def tied : List Byte := bytesOf 2 3000 ++ bytesOf 2 3000 ++ bytesOf 2 600 ++ bytesOf 2 0 ++ bytesOf 1 15

/-- A segmented write of those values. -/
def tieWrite : Transfer := ⟨.chain, 0x1004, 255, true, tied, 9, 1, none, 0, none⟩

@[inherit_doc tieWrite] def hostTieWrite : HostTransfer := ⟨0, 0x1004, 255, true, tied, 9, 1, none, 0, 0⟩

/-- A node whose current lanes have given a mean of their codes: lane A's sum is x, lane B's 100. -/
def LS (x : Int) : State := up M fun b => b.withKeeper { b.keeper with laneSums := (x, 100, 1) }

/-- A head whose TEMPS train is due a microsecond before a SYNC. -/
def TD : State := up (head .measure) fun b =>
  (b.putAll [(Ob.streamSchedule + 3, 2 ^ 24), (Ob.streamScheduleTriggerDelay, 0)]).withWin
    { b.win with mode := 2, opened := some { W with start := 64 * 9999 } }

/-- The last window of FIXED before chain time wraps, and a node in it. -/
def WW : Window := { W with start := wrap64 - 64000, stop := wrap64 }

@[inherit_doc WW] def WV : State := up M fun b =>
  (b.putAll [(Ob.clockSourceTimebaseState, 2), (Ob.windowMode, 1)]).withWin { b.win with mode := 1, opened := some WW }

/-- The keeper with a window to publish. -/
def WK : State := up K fun b => b.withWin { b.win with closing := some W }

theorem neighbours_sound {b : Block} (h : ((List.range b.gov.ch.length).all fun i => !(b.chan i).on || !(b.chan (i + 1)).on) = true) :
    b.NeighboursOff := by
  intro i hi
  by_cases hl : i < b.gov.ch.length
  · have := List.all_eq_true.mp h i (List.mem_range.mpr hl)
    simpa [hi] using this
  · simp [Block.chan, List.getElem?_eq_none (Nat.le_of_not_lt hl), GovCh.idle] at hi

section

set_option Elab.async false

theorem test_met_PorKeepsNothing :
    (∃ (s : State), s.blk.power.mode = .off) ∧
    (∃ (s : State), s.blk.power.mode ≠ .off) :=
  ⟨⟨node .off, by decide +kernel⟩,
   ⟨M, by decide +kernel⟩⟩

theorem test_met_SupplyMonitors :
    (∃ (s : State) (d : Nat), s.blk.awake = true ∧ (d < 90 ∨ 1700 < d)) ∧
    (∃ (s : State) (d : Nat), 90 ≤ d ∧ d ≤ 1700) ∧
    (∃ (s : State), s.blk.awake = true) ∧
    (∃ (s : State), s.blk.awake = true ∧ s.blk.power.vin5Good = true) ∧
    (∃ (s : State) (r : Rail), s.blk.awake = true ∧ r ≠ .vin5) ∧
    (∃ (s : State) (r : Rail), s.blk.awake = true ∧ (∀ x ∈ s.blk.power.railsBad, x = r)) ∧
    (∃ (s : State) (level : Bool), s.blk.awake = true ∧ level ≠ s.blk.power.pwrEn ∧ 2 ≤ s.blk.power.pwrEnMisses) ∧
    (∃ (s : State), s.blk.awake = true) ∧
    (∃ (s : State), (s.blk.power.mode = .standby ∨ s.blk.measuring = true)) :=
  ⟨⟨M, 89, by decide +kernel⟩,
   ⟨M, 90, by decide +kernel⟩,
   ⟨M, by decide +kernel⟩,
   ⟨up M fun b => b.withPower { b.power with vin5Good := true }, by decide +kernel⟩,
   ⟨M, .vdda, by decide +kernel⟩,
   ⟨M, .vin5, by decide +kernel⟩,
   ⟨up M fun b => b.withPower { b.power with pwrEnMisses := 2 }, true, by decide +kernel⟩,
   ⟨M, by decide +kernel⟩,
   ⟨N, by decide +kernel⟩⟩

theorem test_met_WakeSequence :
    (∃ (s : State) (src : WakeSource), s.blk.power.mode = .sleep ∧ s.blk.power.stage = .idle ∧ s.blk.wakesFrom src = true) ∧
    (∃ (s : State), s.blk.power.mode = .ship ∧ s.blk.power.stage = .idle ∧ s.blk.isHead = false) ∧
    (∃ (s : State), s.blk.power.mode = .ship ∧ s.blk.power.stage = .idle ∧ s.blk.isHead = false) ∧
    (∃ (s : State), s.blk.power.mode = .ship ∧ s.blk.power.stage = .idle ∧ s.blk.isHead = true) ∧
    (∃ (s : State) (src : WakeSource), s.blk.power.mode = .sleep ∧ s.blk.power.stage = .idle ∧ s.blk.wakesFrom src = true) ∧
    (∃ (s : State) (c : Nat), s.blk.power.deferred = some c ∧ (s.blk.power.mode = .sleep ∨ s.blk.power.mode = .ship) ∧ s.blk.power.stage =
      .idle) ∧
    (∃ (s : State), s.blk.power.stage = .awaitVin5) ∧
    (∃ (s : State), s.blk.power.stage = .awaitVin5 ∧ s.blk.power.attempts < 4) ∧
    (∃ (s : State), s.blk.power.stage = .awaitVin5 ∧ 4 ≤ s.blk.power.attempts) ∧
    (∃ (s : State), s.blk.power.stage = .retryWait) ∧
    (∃ (s : State), s.blk.power.stage = .rails) ∧
    (∃ (s : State), s.blk.power.stage = .booting) :=
  ⟨⟨node .sleep, .toneDl, by decide +kernel⟩,
   ⟨node .ship, by decide +kernel⟩,
   ⟨node .ship, by decide +kernel⟩,
   ⟨head .ship, by decide +kernel⟩,
   ⟨head .sleep, .hostActivity, by decide +kernel⟩,
   ⟨up (node .sleep) fun b => b.withPower { b.power with deferred := some 3 }, 3, by decide +kernel⟩,
   ⟨stage .awaitVin5 0, by decide +kernel⟩,
   ⟨stage .awaitVin5 3, by decide +kernel⟩,
   ⟨stage .awaitVin5 4, by decide +kernel⟩,
   ⟨stage .retryWait 0, by decide +kernel⟩,
   ⟨stage .rails 0, by decide +kernel⟩,
   ⟨stage .booting 0, by decide +kernel⟩⟩

theorem test_met_PowerCommandsAccepted :
    (∃ (s : State), s.blk.measuring = true ∧ s.blk.get Ob.powerStatePending = 0) ∧
    (∃ (s : State), s.blk.awake = true ∧ (s.blk.power.mode = .standby ∨ s.blk.power.mode = .full) ∧ s.blk.get Ob.powerStatePending = 0) ∧
    (∃ (s : State), s.blk.awake = true ∧ (s.blk.power.mode = .standby ∨ s.blk.power.mode = .measure) ∧ s.blk.fuses.variantX = true ∧
      s.blk.get Ob.powerStatePending = 0) ∧
    (∃ (s : State), s.blk.awake = true ∧ s.blk.power.mode = .standby ∧ s.blk.fuses.variantX = false ∧ s.blk.get Ob.powerStatePending = 0) ∧
    (∃ (s : State), s.blk.awake = true ∧ s.blk.power.mode = .measure ∧ s.blk.fuses.variantX = false ∧ s.blk.get Ob.powerStatePending = 0) ∧
    (∃ (s : State), s.blk.awake = true ∧ s.blk.get Ob.powerStatePending = 0 ∧ s.blk.nvm.program = none) ∧
    (∃ (s : State), s.blk.awake = true ∧ s.blk.power.mode = .standby ∧ s.blk.get Ob.powerStatePending = 0 ∧ s.blk.safeHold < 4 ∧
      s.blk.live 0x82 = false ∧ s.blk.inWindow = true ∧ s.blk.nvm.program = none ∧ s.blk.nvm.summaryBank = none ∧ s.blk.journal.incidents =
      [] ∧ s.blk.flint.fifo = [] ∧ s.blk.flint.overflow = []) ∧
    (∃ (s : State), s.blk.awake = true ∧ s.blk.get Ob.powerStatePending = 0 ∧ s.blk.nvm.program = none) ∧
    (∃ (s : State), s.blk.awake = true ∧ s.blk.isHead = true ∧ s.blk.get Ob.powerStatePending = 0) ∧
    (∃ (s : State), s.blk.awake = true ∧ (s.blk.get Ob.powerStatePending = 4 ∨ s.blk.get Ob.powerStatePending = 5 ∨ s.blk.get
      Ob.powerStatePending = 6)) ∧
    (∃ (s : State) (t : Nat), s.blk.awake = true ∧ s.blk.nvm.program = none ∧ s.blk.get Ob.commLossTimeout ≤ chainDiff (t % t48)
      s.blk.power.commAt) :=
  ⟨⟨M, by decide +kernel⟩,
   ⟨N, by decide +kernel⟩,
   ⟨N, by decide +kernel⟩,
   ⟨up N fun b => b.withFuses { b.fuses with variantX := false }, by decide +kernel⟩,
   ⟨up M fun b => b.withFuses { b.fuses with variantX := false }, by decide +kernel⟩,
   ⟨F, by decide +kernel⟩,
   ⟨up N cool, by decide +kernel⟩,
   ⟨F, by decide +kernel⟩,
   ⟨head .full, by decide +kernel⟩,
   ⟨up N fun b => b.put Ob.powerStatePending 5, by decide +kernel⟩,
   ⟨F, 2000000, by decide +kernel⟩⟩

theorem test_met_BedrockWatch :
    (∃ (s : State) (lanes : List Int), s.blk.bedrockWatches = true ∧ s.blk.hottestOf lanes < 1450) ∧
    (∃ (s : State) (cells : List Int) (therm : List Int), s.blk.bedrockWatches = true ∧ ((s.blk.bedrock.find cells therm).filter fun c =>
      s.blk.bedrock.firstCrossings.any c.same && !s.blk.bedrock.crossings.any c.same) ≠ []) ∧
    (∃ (s : State) (i : Nat), s.blk.bedrockWatches = true ∧ s.blk.bedrock.balancing = true ∧ i < 32 ∧ i < s.blk.gov.ch.length) ∧
    (∃ (s : State) (lanes : List Int), s.blk.bedrockWatches = true ∧ s.blk.bedrock.balancing = true ∧ s.blk.hottestOf lanes < 1450) ∧
    (∃ (s : State), s.blk.measuring = true) :=
  ⟨⟨asleep, lanesAt 1449, by decide +kernel⟩,
   ⟨up asleep fun b => b.withBedrock { b.bedrock with firstCrossings := [⟨1, 3, 4000⟩] }, List.replicate 32 5000, [], by decide +kernel⟩,
   ⟨asleep, 31, by decide +kernel⟩,
   ⟨asleep, lanesAt 1449, by decide +kernel⟩,
   ⟨M, by decide +kernel⟩⟩

theorem test_met_ThermalWatch :
    (∃ (s : State), s.blk.awake = true ∧ s.blk.hotTwice s.blk.thermal.over150 = true) ∧
    (∃ (s : State) (lanes : List Int), s.blk.power.mode = .shutdown ∧ s.blk.power.stage = .idle ∧ s.blk.hottestOf lanes < 1300) ∧
    (∃ (s : State) (lanes : List Int), s.blk.power.mode = .shutdown ∧ s.blk.power.stage = .idle ∧ 1300 ≤ s.blk.hottestOf lanes) ∧
    (∃ (s : State) (lanes : List Int) (k : Nat) (v : Int), s.blk.awake = true ∧ k < 37 ∧ lanes[k]? = some v) ∧
    (∃ (s : State) (slices : List Int) (k : Nat) (v : Int), s.blk.awake = true ∧ s.blk.engineRuns 7 = true ∧ k < 74 ∧ slices[k]? = some v) ∧
    (∃ (s : State) (k : Nat), s.blk.awake = true ∧ s.blk.engineRuns 7 = true ∧ k < 37 ∧ s.blk.lane k ≠ noReading) ∧
    (∃ (s : State), s.blk.awake = true ∧ s.blk.live 0x82 = false ∧ s.blk.hotTwice s.blk.thermal.over145 = true) ∧
    (∃ (s : State) (t : Nat) (c : Nat), s.blk.awake = true ∧ s.blk.live 0x82 = true ∧ s.blk.thermal.coolSince = some c ∧ s.blk.get
      Ob.graceTime * 1000000 ≤ chainDiff (t % t48) c) ∧
    (∃ (s : State), s.blk.awake = true ∧ s.blk.nvm.summaryWanted = true ∧ s.blk.engineRuns 7 = false) ∧
    (∃ (s : State), s.blk.awake = true ∧ s.blk.nvm.summaryWanted = true ∧ s.blk.nvm.program = none ∧ s.blk.engineRuns 7 = true ∧
      s.blk.settleJournal.summaryNeeded s.flash = true) :=
  ⟨⟨hot, by decide +kernel⟩,
   ⟨node .shutdown, lanesAt 1299, by decide +kernel⟩,
   ⟨node .shutdown, lanesAt 1300, by decide +kernel⟩,
   ⟨N, lanesAt 250, 36, 250, by decide +kernel⟩,
   ⟨N, List.replicate 74 300, 73, 300, by decide +kernel⟩,
   ⟨hot, 36, by decide +kernel⟩,
   ⟨hot, by decide +kernel⟩,
   ⟨up hot fun b => (b.putBit (liveKey 0x82) 2 true).withThermal { b.thermal with coolSince := some 0 }, 10000000, 0, by decide +kernel⟩,
   ⟨up M fun b => (b.withNvm { b.nvm with summaryWanted := true }).withDiag { b.diag with halted := [7] }, by decide +kernel⟩,
   ⟨up N fun b => (b.withNvm { b.nvm with summaryWanted := true }).withJournal { b.journal with incidents := [⟨1, 0, 0, 0, false⟩], entries
    := [entry] }, by decide +kernel⟩⟩

theorem test_met_ChainClock :
    (∃ (s : State) (p : Port), s.blk.awake = true ∧ s.blk.isHead = false ∧ s.blk.link.headSide = p ∧ s.blk.get Ob.clockSourceSource ≠
      sourceOf p ∧ s.blk.awaitsSplit = false) ∧
    (∃ (s : State) (p : Port), s.blk.awake = true ∧ s.blk.isHead = false ∧ s.blk.link.headSide = p ∧ s.blk.get Ob.clockSourceSource ≠
      sourceOf p ∧ s.blk.turned = true ∧ (s.blk.link.splitDelays = [] ∨ s.blk.tb.referenced = false)) ∧
    (∃ (s : State) (p : Port), s.blk.awake = true ∧ s.blk.isHead = false ∧ s.blk.link.headSide = p ∧ s.blk.get Ob.clockSourceSource =
      sourceOf p) ∧
    (∃ (s : State) (p : Port), s.blk.awake = true ∧ s.blk.isHead = false ∧ s.blk.link.headSide = p ∧ s.blk.get Ob.clockSourceSource =
      sourceOf p ∧ s.blk.tbState = tbAligned) ∧
    (∃ (s : State) (k : Nat) (count : Nat), s.blk.monitored k = true ∧ k ≠ 42 ∧ outOfBand k count = true ∧ s.blk.tb.gatesBad[k]? = some 1) ∧
    (∃ (s : State) (count : Nat), s.blk.awake = true ∧ s.blk.engineRuns 7 = true ∧ outOfBand 44 count = true ∧ s.blk.tb.gatesBad[44]? =
      some 0) ∧
    (∃ (s : State) (stamp : Nat) (a : Nat) (r : Nat), s.blk.awake = true ∧ s.blk.isHead = false ∧ s.blk.tbState = tbAligned ∧
      s.blk.syncDelay = some a ∧ s.blk.tb.reference = some r ∧ (psDiff ((r : Int) * 1000000 + a) (onGrid stamp)).natAbs ≤ 20000) ∧
    (∃ (s : State) (r : Nat), s.blk.awake = true ∧ s.blk.isHead = false ∧ s.blk.tbState ≠ tbFree ∧ s.blk.turned = true ∧
      (s.blk.link.splitDelays = [] ∨ s.blk.tb.referenced = false) ∧ s.blk.tb.reference = some r) ∧
    (∃ (s : State), s.blk.awake = true ∧ s.blk.isHead = false ∧ s.blk.tbState = tbAligned) ∧
    (∃ (s : State), s.blk.awake = true ∧ 0 < s.blk.tb.slewLeft) ∧
    (∃ (s : State), s.blk.awake = true ∧ s.blk.tb.slewLeft < 0) ∧
    (∃ (s : State) (t : Nat), s.blk.awake = true ∧ s.blk.isHead = true ∧ t % t48 % 10000 = 0 ∧ s.blk.transmits .du = true ∧ s.blk.splitOn
      = false) ∧
    (∃ (s : State) (t : Nat), s.blk.awake = true ∧ s.blk.isHead = true ∧ t % t48 % 10000 = 0 ∧ s.blk.transmits .du = true ∧ s.blk.splitOn
      = true ∧ s.blk.transmits .dl = true) ∧
    (∃ (s : State) (t : Nat), t % t48 % 10000 ≠ 0) ∧
    (∃ (s : State), s.blk.awake = true ∧ s.blk.isHead = true ∧ s.blk.link.round = none ∧ s.blk.transmits .du = true ∧ s.blk.splitOn =
      false) ∧
    (∃ (s : State) (p : Port), s.blk.awake = true ∧ s.blk.isHead = false ∧ s.blk.positioned = true ∧ s.blk.link.headSide = p) ∧
    (∃ (s : State) (p : Port), s.blk.awake = true ∧ s.blk.isHead = false ∧ s.blk.positioned = true ∧ s.blk.on Ob.ringMode = true ∧
      s.blk.link.headSide ≠ p) ∧
    (∃ (s : State) (p : Port), s.blk.on Ob.ringMode = false ∧ s.blk.link.headSide ≠ p) :=
  ⟨⟨N, .dl, by decide +kernel⟩,
   ⟨up NL fun b => (b.withLink { b.link with headSide := .du }).put Ob.clockSourceSource 5, .du, by decide +kernel⟩,
   ⟨up NL fun b => (b.withLink { b.link with headSide := .du }).put Ob.clockSourceSource 3, .du, by decide +kernel⟩,
   ⟨up M aligned, .dl, by decide +kernel⟩,
   ⟨up M fun b => b.withTb { b.tb with gatesBad := b.tb.gatesBad.set 2 1 }, 2, 0, by decide +kernel⟩,
   ⟨M, 0, by decide +kernel⟩,
   ⟨up M fun b => (((aligned b).withTb { b.tb with reference := some 10000 }).withLink { b.link with heldDelays := true }).put
    Ob.hopDelayArrivalDelay 3000000, 10003020000, 3000000, 10000, by decide +kernel⟩,
   ⟨up NL fun b => (((aligned b).withLink { b.link with headSide := .du }).withTb { b.tb with reference := some 40000, referenced := false
    }), 40000, by decide +kernel⟩,
   ⟨up M aligned, by decide +kernel⟩,
   ⟨up M fun b => b.withTb { b.tb with slewLeft := 1 }, by decide +kernel⟩,
   ⟨up M fun b => b.withTb { b.tb with slewLeft := -1 }, by decide +kernel⟩,
   ⟨up (HC 3) aligned, 20000, by decide +kernel⟩,
   ⟨up (HL fun l => { l with split := some 2 }) aligned, 20000, by decide +kernel⟩,
   ⟨HC 3, 20001, by decide +kernel⟩,
   ⟨up (HC 3) aligned, by decide +kernel⟩,
   ⟨up NL aligned, .dl, by decide +kernel⟩,
   ⟨up NL fun b => (aligned b).put Ob.ringMode 1, .du, by decide +kernel⟩,
   ⟨up NL aligned, .du, by decide +kernel⟩⟩

set_option maxRecDepth 100000 in
theorem test_met_MeasuringWrites :
    (∃ (s : State) (data : List Byte) (v : Int), s.blk.isHead = true ∧ Accepts s.blk 0x1021 0 data [(Ob.chainTime, v)]) ∧
    (∃ (s : State) (ix : Nat) (sub : Nat) (data : List Byte) (v : Int), (ix = 0x2001 ∨ ix = 0x2002 ∨ ix = 0x2003 ∨ ix = 0x2005) ∧ Accepts
      s.blk ix sub data [(keyOf ix sub, v)]) ∧
    (∃ (s : State) (data : List Byte) (v : Int), Accepts s.blk 0x2044 0 data [(Ob.auxOutput, v)]) ∧
    (∃ (s : State) (sub : Nat) (data : List Byte) (v : Int), (1 ≤ sub ∧ sub ≤ 8) ∧ Accepts s.blk 0x2040 sub data [(keyOf 0x2040 sub, v)]) ∧
    (∃ (s : State) (data : List Byte) (v : Int), Accepts s.blk 0x2035 0 data [(Ob.chargeCounter, v)]) ∧
    (∃ (s : State) (data : List Byte) (v : Int), Accepts s.blk 0x2032 0 data [(Ob.currentKeeper, v)]) ∧
    (∃ (s : State) (data : List Byte) (vals : List (Nat × Int)), Accepts s.blk 0x4010 0 data vals) ∧
    (∃ (s : State) (data : List Byte) (vals : List (Nat × Int)), Accepts s.blk 0x4012 0 data vals) :=
  ⟨⟨H, bytesOf 8 1000, 1000, by decide +kernel, accepts_sound (by decide +kernel)⟩,
   ⟨M, 0x2001, 0, bytesOf 1 2, 2, by decide +kernel, accepts_sound (by decide +kernel)⟩,
   ⟨N, bytesOf 1 3, 3, accepts_sound (by decide +kernel)⟩,
   ⟨N, 8, bytesOf 1 4, 4, by decide +kernel, accepts_sound (by decide +kernel)⟩,
   ⟨M, bytesOf 8 5000, 5000, accepts_sound (by decide +kernel)⟩,
   ⟨H, bytesOf 1 0, 0, accepts_sound (by decide +kernel)⟩,
   ⟨N, socData, valsOf N.blk 0x4010 0 socData, accepts_sound (by decide +kernel)⟩,
   ⟨N, curveData, valsOf N.blk 0x4012 0 curveData, accepts_sound (by decide +kernel)⟩⟩

theorem test_met_GovernorWrites :
    (∃ (s : State) (i : Nat) (data : List Byte) (v : Int), i < 32 ∧ Accepts s.blk 0x3001 (i + 1) data [(chKey Ob.balanceTarget i, v)]) ∧
    (∃ (s : State) (i : Nat) (data : List Byte) (v : Int), i < 32 ∧ Accepts s.blk 0x3005 (i + 1) data [(chKey Ob.sessionTimer i, v)]) ∧
    (∃ (s : State) (data : List Byte) (v : Int) (i : Nat), i < 32 ∧ Accepts s.blk 0x3000 0 data [(Ob.balanceEnable, v)]) ∧
    (∃ (s : State) (data : List Byte) (v : Int), Accepts s.blk 0x300B 0 data [(Ob.governorFlags, v)]) ∧
    (∃ (s : State) (data : List Byte) (v : Int) (i : Nat), (i < s.blk.cells ∧ i < 32) ∧ Accepts s.blk 0x3011 0 data [(Ob.bleedResistor,
      v)]) :=
  ⟨⟨M, 31, bytesOf 4 5000, 5000, by decide +kernel, accepts_sound (by decide +kernel)⟩,
   ⟨M, 31, bytesOf 4 500, 500, by decide +kernel, accepts_sound (by decide +kernel)⟩,
   ⟨up M fun b => (b.put Ob.balanceEnable 3).editCh 1 fun c => { c with on := true, state := 2 }, bytesOf 4 1, 1, 31, by decide +kernel,
    accepts_sound (by decide +kernel)⟩,
   ⟨up M fun b => b.put Ob.governorFlags 0xFFFF, bytesOf 2 governorSticky, governorSticky, accepts_sound (by decide +kernel)⟩,
   ⟨N, bytesOf 4 8000, 8000, 31, by decide +kernel, accepts_sound (by decide +kernel)⟩⟩

theorem test_met_SystemWrites :
    (∃ (s : State) (data : List Byte) (v : Int), s.blk.isHead = true ∧ Accepts s.blk 0x1105 0 data [(Ob.ringMode, v)]) ∧
    (∃ (s : State) (data : List Byte) (vals : List (Nat × Int)), s.blk.isHead = true ∧ Accepts s.blk 0x1102 1 data vals) ∧
    (∃ (s : State) (src : Nat) (v : Int), (1 ≤ src ∧ src < 256 ∧ v = src ∧ s.blk.live src = false) ∧ Accepts s.blk 0x6004 0 (bytesOf 2
      src) [(Ob.acknowledge, v)]) ∧
    (∃ (s : State) (src : Nat), (src < 256 ∧ s.blk.live src = false) ∧ Accepts s.blk 0x6004 0 (bytesOf 2 0x0100) [(Ob.acknowledge,
      0x0100)]) ∧
    (∃ (s : State) (sub : Nat) (data : List Byte) (v : Int), (1 ≤ sub ∧ sub < 256) ∧ Accepts s.blk 0x6000 sub data [(keyOf 0x6000 sub,
      v)]) ∧
    (∃ (s : State) (data : List Byte), Accepts s.blk 0x6009 0 data [(Ob.faultFlags, 1)]) ∧
    (∃ (s : State) (data : List Byte) (v : Int), Accepts s.blk 0x7001 3 data [(keyOf 0x7001 3, v)]) ∧
    (∃ (s : State) (ix : Nat) (data : List Byte) (v : Int), (ix = 0x7010 ∨ ix = 0x7011 ∨ ix = 0x7012) ∧ Accepts s.blk ix 0 data [(keyOf ix
      0, v)]) ∧
    (∃ (s : State) (data : List Byte) (v : Int), Accepts s.blk 0x8000 0 data [(Ob.save, v)]) ∧
    (∃ (s : State), Accepts s.blk 0x8001 0 [1#8] [(Ob.restoreDefaults, 1)]) ∧
    (∃ (s : State), Accepts s.blk 0x8001 0 [2#8] [(Ob.restoreDefaults, 2)]) :=
  ⟨⟨H, bytesOf 1 1, 1, by decide +kernel, accepts_sound (by decide +kernel)⟩,
   ⟨H, bytesOf 1 1, valsOf H.blk 0x1102 1 (bytesOf 1 1), by decide +kernel, accepts_sound (by decide +kernel)⟩,
   ⟨up N fun b => b.putBit (latchedKey 0x85) 5 true, 0x85, 0x85, by decide +kernel, accepts_sound (by decide +kernel)⟩,
   ⟨up N fun b => b.putBit (latchedKey 0x85) 5 true, 0x85, by decide +kernel, accepts_sound (by decide +kernel)⟩,
   ⟨N, 0x41, bytesOf 1 2, 2, by decide +kernel, accepts_sound (by decide +kernel)⟩,
   ⟨up N fun b => b.put Ob.faultFlags 1, bytesOf 2 1, accepts_sound (by decide +kernel)⟩,
   ⟨N, bytesOf 4 0, 0, accepts_sound (by decide +kernel)⟩,
   ⟨N, 0x7011, bytesOf 4 7, 7, by decide +kernel, accepts_sound (by decide +kernel)⟩,
   ⟨up N cool, bytesOf 4 0x53415645, 0x53415645, accepts_sound (by decide +kernel)⟩,
   ⟨up N cool, accepts_sound (by decide +kernel)⟩,
   ⟨up N fun b => (cool b).put Ob.unlockState 2, accepts_sound (by decide +kernel)⟩⟩

theorem test_met_UnlockSequence :
    (∃ (s : State), s.blk.awake = true ∧ s.blk.power.mode = .standby) ∧
    (∃ (s : State), s.blk.awake = true ∧ s.blk.power.mode = .standby ∧ s.blk.get Ob.unlockState = 1 ∧ s.blk.access.armed = true) ∧
    (∃ (s : State), s.blk.awake = true ∧ s.blk.power.mode = .standby ∧ (s.blk.get Ob.unlockState ≠ 1 ∨ s.blk.access.armed = false)) ∧
    (∃ (s : State) (v : Nat), s.blk.awake = true ∧ s.blk.power.mode = .standby ∧ v < 65536 ∧ v ≠ 0x5A3C ∧ v ≠ 0xC3A5) ∧
    (∃ (s : State) (data : List Byte), s.blk.awake = true ∧ s.blk.power.mode = .standby ∧ data.length ≠ 2) :=
  ⟨⟨N, by decide +kernel⟩,
   ⟨up N fun b => (b.put Ob.unlockState 1).armedLast true, by decide +kernel⟩,
   ⟨up N fun b => b.put Ob.unlockState 1, by decide +kernel⟩,
   ⟨N, 0x5A3D, by decide +kernel⟩,
   ⟨N, [1#8], by decide +kernel⟩⟩

theorem test_met_DictionaryWrites :
    (∃ (s : State) (ix : Nat) (sub : Nat) (data : List Byte) (v : Int), ix ∈ [0x1002, 0x1003, 0x1004, 0x2060, 0x3004, 0x5003, 0x5004,
      0x5010, 0x6005] ∧ Accepts s.blk ix sub data [(keyOf ix sub, v)]) ∧
    (∃ (s : State) (ix : Nat) (sub : Nat) (data : List Byte) (a : Nat), (ix ≠ 0x1F00 ∧ ix ≠ 0x1001) ∧ Refuses s.blk ix sub data a) :=
  ⟨⟨N, 0x1003, 0, bytesOf 2 30, 30, by decide +kernel, accepts_sound (by decide +kernel)⟩,
   ⟨N, 0x1003, 9, bytesOf 2 30, 0x602, by decide +kernel, refuses_sound (by decide +kernel)⟩⟩

theorem test_met_ReferenceAndCorrection :
    (∃ (s : State) (t : Nat) (codes : List Int), s.blk.shadowRotates = true ∧ t % 10000 = 0 ∧ codes.length = subSlotCodes ∧
      ((s.blk.subSlotVolts t codes - s.blk.basaltCal) * 24).natAbs ≤ 5000000 ∧ s.blk.get Ob.referenceSource ≠ 2) ∧
    (∃ (s : State) (t : Nat) (codes : List Int), s.blk.shadowRotates = true ∧ t % 10000 = 0 ∧ codes.length = subSlotCodes ∧ 5000000 <
      ((s.blk.subSlotVolts t codes - s.blk.basaltCal) * 24).natAbs ∧ s.blk.nat Ob.referenceCompareConsecutive = 2 ∧ s.blk.get
      Ob.referenceSource ≠ 2) ∧
    (∃ (s : State) (lane : Fin 37), s.blk.measuring = true ∧ (s.blk.noCells = false ∨ 32 ≤ lane.val) ∧ lane.val <
      s.blk.lanes.terms.length) :=
  ⟨⟨warm, 20000, List.replicate 257 26214, by decide +kernel⟩,
   ⟨up warm fun b => b.put Ob.referenceCompareConsecutive 2, 20000, List.replicate 257 26300, by decide +kernel⟩,
   ⟨M, 36, by decide +kernel⟩⟩

theorem test_met_LaneBlocks :
    (∃ (s : State) (ch : Fin 32) (start : Nat) (own : List Int) (set : Nat × Nat) (c : Block) (e : LaneEntry) (term : Int), set =
      s.blk.settingAt start ∧ c = (s.blk.at (start + 2 ^ set.1)).dropGone ∧ e = c.formEntry ch.val ch.val start set own false false ∧ term =
      (if c.get Ob.tapCompensationMode = 1 then roundDiv (c.filterRun ch.val (2 ^ set.1) start (c.lagAt ch.val start)).2 (65536 * 2 ^ set.1)
      else 0) ∧ s.blk.measuring = true ∧ s.blk.noCells = false ∧ ch.val < s.blk.cells ∧ start % 2 ^ set.1 = 0 ∧ own.length = 2 ^ set.1 + 1 ∧
      c.healthBit ch.val 3 = false ∧ c.healthBit ch.val 4 = false ∧ c.inBurst start (2 ^ set.1) = false ∧ c.testSpan ch.val start (2 ^
      set.1) = 0 ∧ s.blk.lanes.slot = none ∧ s.blk.engineRuns (engineOf ch.val) = true ∧ c.fifo ch.val = [] ∧ c.entryReady ch.val e = true ∧
      ch.val < s.blk.lanes.blocks.length) ∧
    (∃ (s : State) (ch : Fin 32) (start : Nat) (own : List Int) (set : Nat × Nat) (c : Block) (e : LaneEntry), set = s.blk.settingAt start
      ∧ c = (s.blk.at (start + 2 ^ set.1)).dropGone ∧ e = c.formEntry ch.val ch.val start set own false false ∧ s.blk.measuring = true ∧
      s.blk.noCells = false ∧ ch.val < s.blk.cells ∧ start % 2 ^ set.1 = 0 ∧ own.length = 2 ^ set.1 + 1 ∧ c.healthBit ch.val 3 = false ∧
      c.healthBit ch.val 4 = false ∧ c.inBurst start (2 ^ set.1) = false ∧ c.testSpan ch.val start (2 ^ set.1) = 0 ∧ s.blk.engineRuns
      (engineOf ch.val) = true ∧ s.blk.lanes.fifos[ch.val]? = some [] ∧ c.entryReady ch.val e = false) ∧
    (∃ (s : State) (ch : Fin 32) (start : Nat) (shadow : List Int) (set : Nat × Nat) (c : Block) (q : List LaneEntry), set =
      s.blk.settingAt start ∧ c = (s.blk.at (start + 2 ^ set.1)).dropGone ∧ s.blk.measuring = true ∧ s.blk.noCells = false ∧ ch.val <
      s.blk.cells ∧ start % 2 ^ set.1 = 0 ∧ shadow.length = 2 ^ set.1 + 1 ∧ c.healthBit ch.val 3 = true ∧ c.healthBit ch.val 4 = false ∧
      c.inBurst start (2 ^ set.1) = false ∧ s.blk.engineRuns (engineOf ch.val) = false ∧ s.blk.lanes.fifos[ch.val]? = some q ∧ q.length <
      laneFifoDepth) ∧
    (∃ (s : State) (ch : Fin 32) (start : Nat) (set : Nat × Nat) (c : Block), set = s.blk.settingAt start ∧ c = (s.blk.at (start + 2 ^
      set.1)).dropGone ∧ s.blk.measuring = true ∧ c.healthBit ch.val 3 = false ∧ c.testSpan ch.val start (2 ^ set.1) ≠ 0 ∧ c.testSpan ch.val
      start (2 ^ set.1) ≠ 2 ^ set.1) ∧
    (∃ (s : State), s.blk.measuring = true) ∧
    (∃ (s : State) (t : Nat) (w : Nat × Nat), s.blk.lanes.averagingNext = some w ∧ t % max s.blk.blockLength (2 ^ w.1) = 0) :=
  ⟨⟨ML [], 31, 256, List.replicate 17 9000, (4, 0), ((ML []).blk.at 272).dropGone, (((ML []).blk.at 272).dropGone).formEntry 31 31 256 (4,
    0) (List.replicate 17 9000) false false, 0, by decide +kernel⟩,
   ⟨up (ML []) fun b => b.editCh 31 fun c => { c with on := true }, 31, 256, List.replicate 17 9000, (4, 0), (((up (ML []) fun b =>
    b.editCh 31 fun c => { c with on := true }).blk.at 272).dropGone), ((((up (ML []) fun b => b.editCh 31 fun c => { c with on := true
    }).blk.at 272).dropGone).formEntry 31 31 256 (4, 0) (List.replicate 17 9000) false false), by decide +kernel⟩,
   ⟨up (ML [0]) fun b => b.setHealth 3 3 true, 3, 256, List.replicate 17 9000, (4, 0), (((ML [0]).blk.setHealth 3 3 true).at 272).dropGone,
    [], by decide +kernel⟩,
   ⟨up warm fun b => b.put Ob.laneAveragingCodeInForce 7, 0, 256, (7, 0), ((warm.blk.put Ob.laneAveragingCodeInForce 7).at 384).dropGone,
    by decide +kernel⟩,
   ⟨M, by decide +kernel⟩,
   ⟨up M fun b => b.withLanes { b.lanes with averagingNext := some (9, 2) }, 1024, (9, 2), by decide +kernel⟩⟩

theorem test_met_ShadowAndCurrentLanes :
    (∃ (s : State) (t : Nat) (lane : List Int) (shadow : List Int) (test : List Int) (subB : List Int) (ch : Nat) (c : Block), c =
      (s.blk.at (if test.isEmpty && subB.isEmpty then t + 320 else t + 1000)).dropGone ∧ ch = s.blk.visited (t / 1000) ∧ s.blk.shadowRotates
      = true ∧ s.blk.noCells = false ∧ t % 1000 = 0 ∧ s.blk.lanes.slot = none ∧ s.blk.cells ≤ 32 ∧ lane.length = 257 ∧ shadow.length = 257) ∧
    (∃ (s : State) (t : Nat) (x : Int) (y : Int) (n : Nat) (m1 : Int) (m2 : Int), t % 1000 = 0 ∧ s.blk.keeper.laneSums = (x, y, n) ∧ n ≠ 0
      ∧ m1 = s.blk.atInput (roundDiv (x * stepPv) (2 ^ 20 * 1000 * n)) ∧ m2 = s.blk.atInput (roundDiv (y * stepPv) (2 ^ 20 * 1000 * n)) ∧
      s.blk.measuring = true ∧ s.blk.engineRuns 4 = true ∧ s.blk.lanes.currentKept = 0 ∧ s.blk.bit Ob.frontEndHealth 1 = false ∧ (4000 * (m1
      - m2)).natAbs ≤ 4000 * (if s.blk.get Ob.currentRange = 2 then 50000 else 5000) + (m1 + m2).natAbs) ∧
    (∃ (s : State) (t : Nat) (x : Int) (y : Int) (n : Nat) (m1 : Int) (m2 : Int), t % 1000 = 0 ∧ s.blk.keeper.laneSums = (x, y, n) ∧ n ≠ 0
      ∧ m1 = s.blk.atInput (roundDiv (x * stepPv) (2 ^ 20 * 1000 * n)) ∧ m2 = s.blk.atInput (roundDiv (y * stepPv) (2 ^ 20 * 1000 * n)) ∧
      s.blk.measuring = true ∧ s.blk.engineRuns 4 = true ∧ s.blk.lanes.currentKept = 0 ∧ s.blk.bit Ob.frontEndHealth 1 = false ∧ 4000 * (if
      s.blk.get Ob.currentRange = 2 then 50000 else 5000) + (m1 + m2).natAbs < (4000 * (m1 - m2)).natAbs ∧ 2 ≤ s.blk.lanes.currentDiverge ∧
      s.blk.lanes.currentPending = false) :=
  ⟨⟨warm, 99000, List.replicate 257 9000, List.replicate 257 9010, [], [], 3, (warm.blk.at 99320).dropGone, by decide +kernel⟩,
   ⟨LS 100, 2000, 100, 100, 1, M.blk.atInput (roundDiv (100 * stepPv) (2 ^ 20 * 1000)), M.blk.atInput (roundDiv (100 * stepPv) (2 ^ 20 *
    1000)), by decide +kernel⟩,
   ⟨up (LS 90000) fun b => b.withLanes { b.lanes with currentDiverge := 2 }, 2000, 90000, 100, 1, M.blk.atInput (roundDiv (90000 * stepPv)
    (2 ^ 20 * 1000)), M.blk.atInput (roundDiv (100 * stepPv) (2 ^ 20 * 1000)), by decide +kernel⟩⟩

theorem test_met_CurrentAndMains :
    (∃ (s : State) (t : Nat) (first : List Int) (second : List Int) (beyond : Bool) (w : Window) (c : Block) (v : Int), c = (s.blk.at (t +
      32)).dropGone ∧ v = c.chopSample ⟨t, if s.blk.lanes.currentKept = 2 then [] else (c.corrected 32 t first).map (·.1), if
      s.blk.lanes.currentKept = 1 then [] else (c.corrected 33 t second).map (·.1), beyond⟩ ∧ s.blk.measuring = true ∧ s.blk.isKeeper = true
      ∧ s.blk.engineRuns 4 = true ∧ s.blk.lanes.currentKept ≤ 2 ∧ t % 32 = 0 ∧ first.length = 33 ∧ second.length = 33 ∧ s.blk.win.opened =
      some w ∧ s.blk.win.closing = none) ∧
    (∃ (s : State) (t : Nat) (amplitude : Nat) (f : Nat) (q : Nat), s.blk.measuring = true ∧ s.blk.isKeeper = true ∧ s.blk.engineRuns 4 =
      true ∧ 90000 ≤ f ∧ f ≤ 130000 ∧ s.blk.win.threshold ≤ (amplitude : Int) ∧ s.blk.get Ob.mainsTrackerState = 1 ∧
      s.blk.keeper.qualifiedSince = some q ∧ 500000 ≤ chainDiff (t % t48) q) ∧
    (∃ (s : State) (f : Nat), s.blk.measuring = true ∧ s.blk.isKeeper = true ∧ s.blk.engineRuns 4 = true ∧ (f < 90000 ∨ 130000 < f) ∧
      s.blk.get Ob.mainsTrackerState = 2) :=
  ⟨⟨up K fun b => b.withWin { b.win with opened := some W }, 992, List.replicate 33 900, List.replicate 33 (-900), false, W, ((up K fun b
    => b.withWin { b.win with opened := some W }).blk.at 1024).dropGone, (((up K fun b => b.withWin { b.win with opened := some W }).blk.at
    1024).dropGone).chopSample ⟨992, ((((up K fun b => b.withWin { b.win with opened := some W }).blk.at 1024).dropGone).corrected 32 992
    (List.replicate 33 900)).map (·.1), ((((up K fun b => b.withWin { b.win with opened := some W }).blk.at 1024).dropGone).corrected 33 992
    (List.replicate 33 (-900))).map (·.1), false⟩, by decide +kernel⟩,
   ⟨up K fun b => (b.put Ob.mainsTrackerState 1).withKeeper { b.keeper with qualifiedSince := some 4 }, 500004, 2000000, 90000, 4,
    by decide +kernel⟩,
   ⟨up K fun b => b.put Ob.mainsTrackerState 2, 89999, by decide +kernel⟩⟩

theorem test_met_AuxSlots :
    (∃ (s : State) (t : Nat) (lane : Fin 2) (codes : List Int) (c : Block) (out : Int) (k : Nat), c = (s.blk.at (t + 192)).dropGone ∧ out
      = averagerOut (sumOf (((c.corrected (34 + lane.val) t codes).drop 64).map (·.1))) 3 ∧ s.blk.measuring = true ∧ s.blk.engineRuns 4 =
      true ∧ t % 192 = 0 ∧ codes.length = 193 ∧ k < 8 ∧ s.blk.auxInput lane.val (t / 192 % s.blk.auxSlots) (t / 192 / s.blk.auxSlots) = some
      (.inl k)) ∧
    (∃ (s : State) (t : Nat) (lane : Fin 2) (codes : List Int) (c : Block) (out : Int) (r : Nat), c = (s.blk.at (t + 192)).dropGone ∧ out
      = averagerOut (sumOf (((c.corrected (34 + lane.val) t codes).drop 64).map (·.1))) 3 ∧ s.blk.measuring = true ∧ s.blk.engineRuns 4 =
      true ∧ t % 192 = 0 ∧ codes.length = 193 ∧ s.blk.auxInput lane.val (t / 192 % s.blk.auxSlots) (t / 192 / s.blk.auxSlots) = some (.inr
      r)) :=
  ⟨⟨up warm fun b => b.put (Ob.auxFunction + 5) 2, 0, 1, List.replicate 193 900, ((warm.blk.put (Ob.auxFunction + 5) 2).at 192).dropGone,
    averagerOut (sumOf ((((((warm.blk.put (Ob.auxFunction + 5) 2).at 192).dropGone).corrected 35 0 (List.replicate 193 900)).drop 64).map
    (·.1))) 3, 4, by decide +kernel⟩,
   ⟨warm, 768, 1, List.replicate 193 900, (warm.blk.at 960).dropGone, averagerOut (sumOf (((((warm.blk.at 960).dropGone).corrected 35 768
    (List.replicate 193 900)).drop 64).map (·.1))) 3, 3, by decide +kernel⟩⟩

theorem test_met_WindowLife :
    (∃ (s : State) (t : Nat) (w : Window), s.blk.measuring = true ∧ s.blk.win.opened = some w ∧ s.blk.win.closing = none ∧ 0 ≤ diff64 (64
      * (t % t48)) w.start ∧ ((w.stop - w.start : Nat) : Int) ≤ diff64 (64 * (t % t48)) w.start ∧ (s.blk.win.mode ≠ 1 ∨ w.stop ≠ wrap64) ∧
      s.blk.tbState = tbAligned) ∧
    (∃ (s : State) (t : Nat) (w : Window), s.blk.measuring = true ∧ s.blk.win.opened = some w ∧ s.blk.win.closing = none ∧ 0 ≤ diff64 (64
      * (t % t48)) w.start ∧ ((w.stop - w.start : Nat) : Int) ≤ diff64 (64 * (t % t48)) w.start ∧ s.blk.win.mode = 1 ∧ w.stop = wrap64 ∧
      s.blk.tbState = tbAligned) ∧
    (∃ (s : State) (w : Window), s.blk.measuring = true ∧ s.blk.win.closing = some w ∧ 500 ≤ s.blk.coverage w ∧ s.blk.isKeeper = false) ∧
    (∃ (s : State) (w : Window), s.blk.measuring = true ∧ s.blk.win.closing = some w ∧ s.blk.coverage w < 500 ∧ s.blk.isKeeper = false) ∧
    (∃ (s : State) (w : Window) (q : Int), s.blk.measuring = true ∧ s.blk.win.closing = some w ∧ 500 ≤ s.blk.coverage w ∧ s.blk.isKeeper =
      true ∧ q = s.blk.charge16 s.blk.keeper.charge s.blk.keeper.weight + s.blk.keeper.remainder) ∧
    (∃ (s : State) (w : Window), s.blk.measuring = true ∧ s.blk.win.held = false ∧ s.blk.win.keeperSchedule = true ∧ s.blk.win.opened =
      some w) :=
  ⟨⟨WO, 2000, W, by decide +kernel⟩,
   ⟨WV, 0, WW, by decide +kernel⟩,
   ⟨WC { W with sums := List.replicate 32 ⟨0, 500, 0, 0, 0, 0, 0, 0⟩ }, { W with sums := List.replicate 32 ⟨0, 500, 0, 0, 0, 0, 0, 0⟩ },
    by decide +kernel⟩,
   ⟨WC { W with sums := List.replicate 32 ⟨0, 499, 0, 0, 0, 0, 0, 0⟩ }, { W with sums := List.replicate 32 ⟨0, 499, 0, 0, 0, 0, 0, 0⟩ },
    by decide +kernel⟩,
   ⟨WK, W, WK.blk.charge16 WK.blk.keeper.charge WK.blk.keeper.weight + WK.blk.keeper.remainder, by decide +kernel⟩,
   ⟨up M fun b => b.withWin { b.win with opened := some W, held := false, keeperSchedule := true }, W, by decide +kernel⟩⟩

theorem test_met_Captures :
    (∃ (s : State), s.blk.measuring = true ∧ s.blk.cap.running = none) ∧
    (∃ (s : State), s.blk.power.mode = .standby ∧ s.blk.awake = true ∧ s.blk.cells ≤ 32) ∧
    (∃ (s : State) (r : Capture), s.blk.measuring = true ∧ s.blk.cap.running = some r ∧ r.values = none ∧ (∀ x ∈ s.blk.cap.done, x.values
      ≠ none)) ∧
    (∃ (s : State) (r : Capture), s.blk.measuring = true ∧ s.blk.cap.running = none ∧ s.blk.cap.done = [r] ∧ r.values = none) ∧
    (∃ (s : State) (r : Capture) (l : List Int), s.blk.cap.done = [] ∧ s.blk.cap.running = some r ∧ r.values = some l ∧ s.blk.cells ≤ 32) ∧
    (∃ (s : State) (r : Capture) (rest : List Capture) (l : List Int), s.blk.cap.done = r :: rest ∧ r.values = some l ∧ s.blk.cells ≤ 32) ∧
    (∃ (s : State) (t : Nat), s.blk.awake = true ∧ s.blk.isHead = true ∧ s.blk.link.round = none ∧ (s.blk.at t).syncRoom (triggerTime 2) =
      true) :=
  ⟨⟨M, by decide +kernel⟩,
   ⟨N, by decide +kernel⟩,
   ⟨up M fun b => b.withCap { b.cap with running := some ⟨0, 0, 7, none, 256000000⟩ }, ⟨0, 0, 7, none, 256000000⟩, by decide +kernel⟩,
   ⟨up M fun b => b.withCap { b.cap with done := [⟨0, 0, 7, none, 256000000⟩] }, ⟨0, 0, 7, none, 256000000⟩, by decide +kernel⟩,
   ⟨up M fun b => b.withCap { b.cap with running := some ⟨0, 0, 7, some [], 256000000⟩ }, ⟨0, 0, 7, some [], 256000000⟩, [],
    by decide +kernel⟩,
   ⟨up M fun b => b.withCap { b.cap with done := [⟨0, 0, 7, some [], 256000000⟩] }, ⟨0, 0, 7, some [], 256000000⟩, [], [],
    by decide +kernel⟩,
   ⟨head .measure, 300, by decide +kernel⟩⟩

theorem test_met_GovernorLaw :
    (∃ (s : State) (i : Nat), s.blk.measuring = true ∧ s.blk.noCells = false ∧ s.blk.engineRuns 5 = true ∧ i < s.blk.cells ∧ i <
      s.blk.gov.ch.length) ∧
    (∃ (s : State) (i : Nat), s.blk.measuring = true ∧ s.blk.noCells = false ∧ s.blk.engineRuns 5 = false ∧ i < s.blk.cells ∧ i <
      s.blk.gov.ch.length) ∧
    (∃ (s : State) (i : Nat), s.blk.power.mode = .standby ∧ s.blk.awake = true ∧ s.blk.noCells = false ∧ i < s.blk.cells ∧ i <
      s.blk.gov.ch.length) ∧
    (∃ (s : State), s.blk.measuring = true ∧ s.blk.noCells = false ∧ s.blk.engineRuns 5 = true) ∧
    (∃ (s : State) (meter : List Nat) (i : Nat) (q : Int), s.blk.measuring = true ∧ s.blk.noCells = false ∧ s.blk.engineRuns 5 = true ∧
      s.blk.cells ≤ 32 ∧ i < s.blk.cells ∧ i < s.blk.gov.ch.length ∧ q = (s.blk.chan i).acc + ((meter[i]?).getD 0 : Nat)) ∧
    (∃ (s : State) (i : Nat), s.blk.measuring = true ∧ s.blk.noCells = false ∧ s.blk.engineRuns 5 = true ∧ s.blk.cells ≤ 32 ∧ i <
      s.blk.cells ∧ s.blk.gov.ch.length = 32 ∧ (s.blk.chan s.blk.cells).on = false ∧ 0 < s.blk.get Ob.band) ∧
    (∃ (s : State) (i : Nat), s.blk.measuring = true ∧ s.blk.noCells = false ∧ s.blk.engineRuns 5 = true ∧ i < s.blk.cells) ∧
    (∃ (s : State) (ch : Fin 32) (u : Int) (meter : Nat) (q : Suspicion), s.blk.measuring = true ∧ s.blk.noCells = false ∧
      s.blk.engineRuns 5 = true ∧ s.blk.safeHold = 0 ∧ s.blk.slotBusy = false ∧ s.blk.shadowRotates = true ∧ (s.blk.chan ch.val).suspicion =
      some q ∧ s.blk.confirmResult ch.val (q != .strayCurrent) meter (if s.blk.nat Ob.bleedResistor = 0 then 0 else (roundDiv (u * 10)
      (s.blk.nat Ob.bleedResistor)).toNat) = none) ∧
    (∃ (s : State) (ch : Fin 32) (u : Int) (meter : Nat) (q : Suspicion), s.blk.measuring = true ∧ s.blk.noCells = false ∧
      s.blk.engineRuns 5 = true ∧ s.blk.safeHold = 0 ∧ s.blk.slotBusy = false ∧ s.blk.shadowRotates = true ∧ ch.val < s.blk.cells ∧
      (s.blk.chan ch.val).suspicion = some q ∧ s.blk.confirmResult ch.val (q != .strayCurrent) meter (if s.blk.nat Ob.bleedResistor = 0 then
      0 else (roundDiv (u * 10) (s.blk.nat Ob.bleedResistor)).toNat) = some 0x41) ∧
    (∃ (s : State) (ch : Fin 32), (s.blk.chan ch.val).on = true) ∧
    (∃ (s : State) (ch : Fin 32), s.blk.awake = true ∧ (s.blk.chan ch.val).openSession = true ∧ 1 < s.blk.nat (chKey Ob.sessionTimer
      ch.val)) ∧
    (∃ (s : State) (ch : Fin 32), s.blk.awake = true ∧ (s.blk.chan ch.val).openSession = true ∧ s.blk.nat (chKey Ob.sessionTimer ch.val) =
      1) ∧
    (∃ (s : State) (period : Nat), s.blk.pulseThrottle = true ∧ 5000 ≤ period ∧ period ≤ 1000000 ∧ s.blk.get Ob.throttleSourceState = 1) ∧
    (∃ (s : State) (period : Nat), s.blk.pulseThrottle = true ∧ (period < 5000 ∨ 1000000 < period) ∧ 2 ≤ s.blk.gov.invalidRun) ∧
    (∃ (s : State), s.blk.pulseThrottle = true) :=
  ⟨⟨M, 31, by decide +kernel⟩,
   ⟨up M fun b => b.withDiag { b.diag with halted := [5] }, 31, by decide +kernel⟩,
   ⟨N, 31, by decide +kernel⟩,
   ⟨M, by decide +kernel⟩,
   ⟨up M fun b => b.editCh 4 fun c => { c with acc := 7, state := 1 }, [], 4, 7, by decide +kernel⟩,
   ⟨M, 31, by decide +kernel⟩,
   ⟨M, 31, by decide +kernel⟩,
   ⟨up M fun b => b.editCh 4 fun c => { c with suspicion := some .lowMeter, on := true }, 4, 0, 60, .lowMeter, by decide +kernel⟩,
   ⟨up M fun b => b.editCh 4 fun c => { c with suspicion := some .lowMeter, on := true }, 4, 1000000, 10, .lowMeter, by decide +kernel⟩,
   ⟨up M fun b => b.editCh 4 fun c => { c with on := true }, 4, by decide +kernel⟩,
   ⟨up M fun b => (b.put (chKey Ob.sessionTimer 4) 2).editCh 4 fun c => { c with state := 1 }, 4, by decide +kernel⟩,
   ⟨up M fun b => (b.put (chKey Ob.sessionTimer 4) 1).editCh 4 fun c => { c with state := 1 }, 4, by decide +kernel⟩,
   ⟨P, 5000, by decide +kernel⟩,
   ⟨up P fun b => b.withGov { b.gov with invalidRun := 2 }, 4999, by decide +kernel⟩,
   ⟨P, by decide +kernel⟩⟩

theorem test_met_AnalysisIntervals :
    (∃ (s : State) (entry : Fin 4) (t : Nat) (code : Nat) (x : Ended) (q : Sequence), s.blk.e6Works = true ∧ s.blk.noCells = false ∧
      s.blk.instantMode = false ∧ (s.blk.ownEntries[entry.val]?).getD (0, 0) = (code, 1) ∧ code ≠ 0 ∧ entry.val < s.blk.imp.entries.length ∧
      (s.blk.impEntry entry.val).sequence.ended code (64 * (t % t48)) (fun f => s.blk.ambientPeriods f (s.blk.nat
      Ob.impedanceConfigIntegrationTime)) = (some x, q)) ∧
    (∃ (s : State) (entry : Fin 4) (iv : Machine.Interval) (l : List Nat), s.blk.e6Works = true ∧ (s.blk.impEntry entry.val).ready = some
      iv ∧ iv.excited = some l) ∧
    (∃ (s : State) (entry : Fin 4) (iv : Machine.Interval) (p : KeeperPhasor), s.blk.e6Works = true ∧ s.blk.instantMode = false ∧
      (s.blk.impEntry entry.val).ready = some iv ∧ iv.excited = none ∧ (s.blk.ownEntries[entry.val]?).getD (0, 0) =
      (s.blk.chainSet[entry.val]?).getD (0, 0) ∧ (s.blk.impEntry entry.val).itemFor iv = some p) ∧
    (∃ (s : State) (entry : Fin 4) (iv : Machine.Interval), s.blk.e6Works = true ∧ (s.blk.impEntry entry.val).ready = some iv ∧ iv.excited
      = none ∧ (s.blk.ownEntries[entry.val]?).getD (0, 0) ≠ (s.blk.chainSet[entry.val]?).getD (0, 0)) ∧
    (∃ (s : State) (entry : Fin 4) (iv : Machine.Interval), s.blk.e6Works = true ∧ ((s.blk.impEntry entry.val).waiting.find? fun iv =>
      iv.excited.isNone && ((s.blk.impEntry entry.val).itemFor iv).isNone) = some iv) :=
  ⟨⟨E, 0, 2500000, 1000000, (1, 1000000, 1000, 64000000, 128000000), ((E.blk.impEntry 0).sequence.ended 1000000 (64 * 2500000) fun f =>
    E.blk.ambientPeriods f (E.blk.nat Ob.impedanceConfigIntegrationTime)).2, by decide +kernel⟩,
   ⟨up E fun b => b.editEntry 0 fun e => { e with waiting := [{ iv with excited := some [1] }] }, 0, { iv with excited := some [1] }, [1],
    by decide +kernel⟩,
   ⟨up E fun b => (b.editEntry 0 fun e => { e with waiting := [iv], items := [kp] }).withChainSet [(1000000, 1)], 0, iv, kp,
    by decide +kernel⟩,
   ⟨up E fun b => b.editEntry 0 fun e => { e with waiting := [iv], items := [kp] }, 0, iv, by decide +kernel⟩,
   ⟨up E fun b => b.editEntry 0 fun e => { e with waiting := [iv] }, 0, iv, by decide +kernel⟩⟩

theorem test_met_ExcitationAndAutoBalance :
    (∃ (s : State) (t : Nat), s.blk.e6Works = true ∧ s.blk.noCells = false ∧ s.blk.activeStopped = false ∧ s.blk.imp.active = none ∧
      (s.blk.at t).activeTodo ≠ [] ∧ t % t48 % (s.blk.nat Ob.impedanceConfigActivePeriod * 1000000) = 0) ∧
    (∃ (s : State) (t : Nat) (a : ActiveSeq) (i : Nat) (half : Nat) (ideal : Nat), s.blk.imp.active = some a ∧ a.lost = [] ∧ i ∈ a.excited
      ∧ i < s.blk.gov.ch.length ∧ a.frequency ≠ 0 ∧ half = (4 * (diff64 (64 * (t % t48) + 32) a.settleAt).toNat * a.frequency + 64 * 10 ^ 9)
      / (2 * 64 * 10 ^ 9) ∧ ideal = (25 * a.frequency * a.settleAt + 8 * 10 ^ 11 * half + 2 * a.frequency) / (4 * a.frequency)) ∧
    (∃ (s : State) (a : ActiveSeq), s.blk.activeStopped = true ∧ s.blk.imp.active = some a) ∧
    (∃ (s : State) (t : Nat) (i : Nat) (mC : Int), s.blk.autoState = 1 ∧ s.blk.e6Works = true ∧ s.blk.noCells = false ∧ s.blk.capacity ≠ 0
      ∧ s.blk.cells ≤ 32 ∧ t % t48 % (s.blk.nat Ob.autoBalancePeriod * 1000000) = 0 ∧ i < s.blk.cells ∧ s.blk.managed i = true ∧ s.blk.get
      (chKey Ob.socUncertainty i) ≤ s.blk.get Ob.autoBalanceMaxUncertainty ∧ s.blk.autoTarget i = some mC) ∧
    (∃ (s : State) (p : Nat), s.blk.awake = true ∧ s.blk.isHead = true ∧ p ≠ 0) ∧
    (∃ (s : State), s.blk.awake = true ∧ s.blk.isHead = true) :=
  ⟨⟨X, 600000000, by decide +kernel⟩,
   ⟨XA, 1000, act, 3, 2, 400000, by decide +kernel⟩,
   ⟨up XA fun b => b.put Ob.throttleLevelLevel 2, act, by decide +kernel⟩,
   ⟨A, 0, 5, 485000, by decide +kernel⟩,
   ⟨head .full, 3, by decide +kernel⟩,
   ⟨head .full, by decide +kernel⟩⟩

theorem test_met_FaultRegistration :
    (∃ (s : State) (d : Detection), s.blk.awake = true ∧ s.blk.flint.detections = [d] ∧ d.source < 256 ∧ d.source ∉ eventSources ∧
      s.blk.live d.source = false) ∧
    (∃ (s : State) (d : Detection), s.blk.awake = true ∧ s.blk.flint.detections = [d] ∧ d.source < 256 ∧ d.source ∉ eventSources ∧
      s.blk.live d.source = false ∧ 1 ≤ s.blk.baseClass d ∧ s.blk.anyLatched = false ∧ s.blk.flint.regs = []) :=
  ⟨⟨D, ⟨1, 5, 0, none⟩, by decide +kernel⟩,
   ⟨D, ⟨1, 5, 0, none⟩, by decide +kernel⟩⟩

theorem test_met_FifoAndSafeExit :
    (∃ (s : State) (e : JEntry) (rest : List JEntry), s.blk.awake = true ∧ s.blk.engineRuns 7 = true ∧ s.blk.flint.fifo = e :: rest ∧
      s.blk.flint.overflow = [] ∧ (s.blk.coalesce e).2 = false) ∧
    (∃ (s : State) (e : JEntry) (rest : List JEntry), s.blk.awake = true ∧ s.blk.engineRuns 7 = true ∧ s.blk.flint.fifo = e :: rest ∧
      s.blk.flint.overflow = [] ∧ (s.blk.coalesce e).2 = true) ∧
    (∃ (s : State), s.blk.awake = true ∧ s.blk.isHead = false ∧ s.blk.safeHold = 3 ∧ s.blk.flint.detections = [] ∧ s.blk.classStands 3 =
      false) :=
  ⟨⟨up M fun b => b.withFlint { b.flint with fifo := [entry] }, entry, [], by decide +kernel⟩,
   ⟨again, entry, [], by decide +kernel⟩,
   ⟨up M fun b => (b.put Ob.powerStateSafeHold 3).setFlt true, by decide +kernel⟩⟩

theorem test_met_EnginesAndMemories :
    (∃ (s : State) (engine : Fin 8), s.blk.awake = true ∧ s.blk.engineRuns engine.val = true ∧ s.blk.diag.expired[engine.val]? = some
      none) ∧
    (∃ (s : State) (engine : Fin 8) (t : Nat) (last : Nat), s.blk.awake = true ∧ s.blk.engineRuns engine.val = true ∧
      s.blk.diag.expired[engine.val]? = some (some last) ∧ chainDiff (t % t48) last ≤ 60000000 ∧ engine.val ≠ 7) ∧
    (∃ (s : State) (engine : Fin 8), s.blk.awake = true ∧ engine.val ∈ s.blk.diag.halted ∧ engine.val ∉ s.blk.diag.stopped) ∧
    (∃ (s : State) (engine : Fin 8), s.blk.awake = true ∧ (engine.val = 5 ∨ engine.val = 7) ∧ s.blk.engineRuns engine.val = true) ∧
    (∃ (s : State) (engine : Fin 8), s.blk.awake = true ∧ (engine.val = 5 ∨ engine.val = 7) ∧ s.blk.engineRuns engine.val = true) ∧
    (∃ (s : State) (k : Nat), s.blk.awake = true ∧ k < 8) ∧
    (∃ (s : State) (memory : Nat), s.blk.awake = true ∧ memory ≤ 12) ∧
    (∃ (s : State) (errors : List (Nat × Nat × Bool)), s.blk.awake = true ∧ (∀ e ∈ errors, e.1 ≤ 12)) ∧
    (∃ (s : State) (k : Nat) (v : Int), s.blk.awake = true ∧ s.blk.engineRuns 7 = true ∧ s.blk.nvm.corrupted = [] ∧ s.blk.signed (k / 256)
      = true ∧ s.blk.get k ≠ v) ∧
    (∃ (s : State), s.blk.awake = true ∧ s.blk.nvm.corrupted = []) ∧
    (∃ (s : State) (us : Nat), s.blk.awake = true ∧ s.blk.flint.fltLow = true ∧ 5 ≤ us) ∧
    (∃ (s : State) (us : Nat), s.blk.awake = true ∧ s.blk.flint.fltLow = false ∧ 100 < us) :=
  ⟨⟨M, 3, by decide +kernel⟩,
   ⟨up M fun b => b.withDiag { b.diag with expired := b.diag.expired.set 3 (some 1) }, 3, 60000001, 1, by decide +kernel⟩,
   ⟨up M fun b => b.withDiag { b.diag with halted := [7] }, 7, by decide +kernel⟩,
   ⟨M, 5, by decide +kernel⟩,
   ⟨M, 7, by decide +kernel⟩,
   ⟨M, 7, by decide +kernel⟩,
   ⟨M, 12, by decide +kernel⟩,
   ⟨M, [(12, 9, true), (4, 9, false)], by decide +kernel⟩,
   ⟨M, Ob.bleedResistor, 7, by decide +kernel⟩,
   ⟨M, by decide +kernel⟩,
   ⟨up M fun b => b.setFlt true, 5, by decide +kernel⟩,
   ⟨M, 101, by decide +kernel⟩⟩

theorem test_met_OpenWire :
    (∃ (s : State) (t : Nat) (index : Nat) (phaseA : List Int) (phaseB : List Int), s.blk.openWireRuns = true ∧ (s.blk.at t).slotMayStart
      index = true ∧ s.blk.cells ≠ 0 ∧ s.blk.cells ≤ 32 ∧ s.blk.phaseFinding (index % s.blk.cells) false phaseA = none ∧ s.blk.phaseFinding
      (index % s.blk.cells) true phaseB = none) ∧
    (∃ (s : State) (t : Nat) (index : Nat) (phaseA : List Int) (tap : Nat), s.blk.openWireRuns = true ∧ (s.blk.at t).slotMayStart index =
      true ∧ s.blk.cells ≠ 0 ∧ s.blk.phaseFinding (index % s.blk.cells) false phaseA = some tap) ∧
    (∃ (s : State) (t : Nat) (index : Nat), s.blk.openWireRuns = true ∧ s.blk.cells ≠ 0 ∧ (s.blk.at t).slotMayStart index = false ∧
      (s.blk.at t).slotDue index = true) ∧
    (∃ (s : State) (phaseA : List Int) (f : FailedSlot) (rest : List FailedSlot) (tap : Nat), s.blk.openWireRuns = true ∧
      s.blk.lanes.failedSlots = f :: rest ∧ (s.blk.at (s.blk.repeatAt f)).slotFree = true ∧ s.blk.lanes.tapOpen = none ∧ s.blk.phaseFinding
      f.ch false phaseA = some tap) :=
  ⟨⟨up M fun b => b.put Ob.diagnosticScheduleOpenWireEnable 1, 10937500, 35, [0, 0, 0], [], by decide +kernel⟩,
   ⟨up M fun b => b.put Ob.diagnosticScheduleOpenWireEnable 1, 10937500, 35, [0, -300000, 0], 3, by decide +kernel⟩,
   ⟨up M fun b => (b.put Ob.diagnosticScheduleOpenWireEnable 1).withLanes { b.lanes with slot := some ⟨3, 10937000, false, 1900⟩ },
    10937500, 35, by decide +kernel⟩,
   ⟨up M fun b => (b.put Ob.diagnosticScheduleOpenWireEnable 1).withLanes { b.lanes with failedSlots := [⟨3, 7⟩] }, [0, -300000, 0], ⟨3,
    7⟩, [], 3, by decide +kernel⟩⟩

theorem test_met_StorageCommands :
    (∃ (s : State) (p : Program), s.blk.awake = true ∧ s.blk.nvm.program = some p ∧ p.erased = false ∧ s.blk.pageAllowed p = true ∧
      Flash.wf s.flash = true) ∧
    (∃ (s : State) (p : Program), s.blk.awake = true ∧ s.blk.nvm.program = some p ∧ p.erased = true ∧ p.page + 1 = p.pages ∧ Flash.wf
      s.flash = true) ∧
    (∃ (s : State) (p : Program) (r : ReadBack), s.blk.awake = true ∧ s.blk.nvm.program = some p ∧ p.kind ≠ .summary ∧ p.erased = true ∧
      p.pages ≤ p.page ∧ p.thenShip = false ∧ s.blk.get Ob.powerStatePending = 0 ∧ r.passes = true) ∧
    (∃ (s : State) (p : Program) (r : ReadBack), s.blk.awake = true ∧ s.blk.nvm.program = some p ∧ p.kind = .summary ∧ p.erased = true ∧
      p.pages ≤ p.page ∧ p.thenShip = false ∧ s.blk.get Ob.powerStatePending = 0 ∧ r.passes = true) ∧
    (∃ (s : State), s.blk.measuring = true) :=
  ⟨⟨written false 0 .save, prog false 0 .save, by decide +kernel⟩,
   ⟨written true 1 .save, prog true 1 .save, by decide +kernel⟩,
   ⟨written true 2 .save, prog true 2 .save, ⟨true, [], []⟩, by decide +kernel⟩,
   ⟨written true 2 .summary, prog true 2 .summary, ⟨true, [], []⟩, by decide +kernel⟩,
   ⟨M, by decide +kernel⟩⟩

theorem test_met_PulseResponses :
    (∃ (s : State), s.blk.awake = true ∧ s.blk.isHead = false ∧ s.blk.positioned = true ∧ s.blk.voltsMustWait = false) ∧
    (∃ (s : State), s.blk.awake = true ∧ s.blk.isHead = false ∧ s.blk.positioned = true ∧ s.blk.voltsMustWait = true) ∧
    (∃ (s : State), s.blk.awake = true ∧ s.blk.isHead = false ∧ s.blk.positioned = true) ∧
    (∃ (s : State), s.blk.awake = true ∧ s.blk.isHead = false ∧ s.blk.positioned = true) ∧
    (∃ (s : State), s.blk.awake = true ∧ s.blk.isHead = false ∧ s.blk.positioned = true) ∧
    (∃ (s : State), s.blk.awake = true ∧ s.blk.isHead = false ∧ s.blk.positioned = true ∧ s.blk.link.snapWaits = true) :=
  ⟨⟨NL, by decide +kernel⟩,
   ⟨up NL fun b => (b.put (Ob.streamSchedule + 1) (2 ^ 24)).withWin { b.win with mode := 1, closing := some W }, by decide +kernel⟩,
   ⟨NL, by decide +kernel⟩,
   ⟨NL, by decide +kernel⟩,
   ⟨NL, by decide +kernel⟩,
   ⟨up NL fun b => b.withLink { b.link with snapWaits := true }, by decide +kernel⟩⟩

theorem test_met_LinesAndPorts :
    (∃ (s : State) (p : Port) (ui : Nat), s.blk.awake = true ∧ s.blk.isHead = false ∧ s.blk.link.headSide = p ∧ s.blk.transmits p = true ∧
      s.blk.transmits p.other = true ∧ 6 ≤ ui ∧ ui ≤ 362) ∧
    (∃ (s : State) (p : Port) (ui : Nat), s.blk.awake = true ∧ s.blk.isHead = false ∧ s.blk.link.headSide = p ∧ s.blk.transmits p = true ∧
      s.blk.transmits p.other = true ∧ (0 < ui ∧ ui < 6 ∨ 362 < ui)) ∧
    (∃ (s : State) (p : Port) (ui : Nat), s.blk.awake = true ∧ s.blk.isHead = false ∧ s.blk.link.headSide = p ∧ s.blk.transmits p = true ∧
      s.blk.transmits p.other = true ∧ (0 < ui ∧ ui < 23 ∨ 27 < ui ∧ ui < 363) ∧ s.blk.phys.alarmBusy = false ∧ s.blk.sending p = none) ∧
    (∃ (s : State) (p : Port), s.blk.awake = true ∧ s.blk.isHead = false ∧ s.blk.link.headSide = p ∧ s.blk.transmits p = true ∧
      s.blk.transmits p.other = true ∧ s.blk.phys.alarmBusy = false) ∧
    (∃ (s : State) (p : Port), s.blk.awake = true ∧ s.blk.isHead = true ∧ s.blk.transmits p = true) ∧
    (∃ (s : State) (p : Port), s.blk.power.mode = .sleep ∧ s.blk.power.stage = .idle ∧ s.blk.isHead = false ∧ s.blk.wakesFrom (toneSource
      p) = true) ∧
    (∃ (s : State) (p : Port), s.blk.awake = true ∧ s.blk.get (stateKey p) = 2) ∧
    (∃ (s : State) (p : Port), s.blk.awake = true ∧ s.blk.get (stateKey p) = 3) ∧
    (∃ (s : State) (p : Port), s.blk.awake = true ∧ s.blk.get (stateKey p) = 3) ∧
    (∃ (s : State) (p : Port) (cause : DownCause), s.blk.awake = true ∧ s.blk.get (stateKey p) = 4 ∧ cause ≠ .closed) ∧
    (∃ (s : State) (p : Port), s.blk.awake = true ∧ s.blk.get (stateKey p) = 4) :=
  ⟨⟨NL, .dl, 6, by decide +kernel⟩,
   ⟨NL, .dl, 363, by decide +kernel⟩,
   ⟨NL, .dl, 9, by decide +kernel⟩,
   ⟨NL, .dl, by decide +kernel⟩,
   ⟨HC 3, .du, by decide +kernel⟩,
   ⟨node .sleep, .dl, by decide +kernel⟩,
   ⟨port .du 2 NL, .du, by decide +kernel⟩,
   ⟨port .dl 3 NL, .dl, by decide +kernel⟩,
   ⟨port .dl 3 NL, .dl, by decide +kernel⟩,
   ⟨NL, .du, .stuck, by decide +kernel⟩,
   ⟨NL, .du, by decide +kernel⟩⟩

theorem test_met_NodeFrames :
    (∃ (s : State) (p : Port) (f : List Byte), s.blk.awake = true ∧ s.blk.isHead = false ∧ s.blk.portUp p = true ∧ s.blk.link.headSide = p
      ∧ s.blk.transmits p.other = true ∧ frameFault true false f = none ∧ hdrType (headerIn f) ≠ 5) ∧
    (∃ (s : State) (p : Port) (f : List Byte), (s.blk.portUp p = true ∧ s.blk.link.headSide = p ∧ frameFault true false f = none ∧ hdrType
      (headerIn f) = 2 ∧ hdrPos (headerIn f) = s.blk.nat Ob.position ∧ (field (payloadIn f) 0 1 = 0 ∨ 8 < field (payloadIn f) 0 1)) ∧
      Listens s.blk (hdrSeq (headerIn f))) ∧
    (∃ (s : State) (p : Port), s.blk.awake = true ∧ s.blk.portUp p = true ∧ (s.blk.isHead = true → p = .du ∨ s.blk.splitOn = true)) ∧
    (∃ (s : State), s.blk.awake = true ∧ s.blk.isHead = false ∧ s.blk.transmits s.blk.link.headSide = true ∧ s.blk.idleSide = true) ∧
    (∃ (s : State), s.blk.awake = true ∧ s.blk.isHead = false ∧ s.blk.transmits s.blk.link.headSide = true ∧ s.blk.idleSide = false ∧
      s.blk.link.queue.length < queueDepth) ∧
    (∃ (s : State), s.blk.awake = true ∧ s.blk.isHead = false ∧ s.blk.transmits s.blk.link.headSide = true ∧ s.blk.idleSide = false ∧
      queueDepth ≤ s.blk.link.queue.length) ∧
    (∃ (s : State) (f : List Byte) (rest : List (List Byte)), s.blk.awake = true ∧ s.blk.isHead = false ∧ s.blk.transmits
      s.blk.link.headSide = true ∧ s.blk.phys.alarmWaiting = false ∧ s.blk.phys.toneWaitingDl = false ∧ s.blk.phys.toneWaitingDu = false ∧
      s.blk.link.census = f :: rest) ∧
    (∃ (s : State), s.blk.awake = true ∧ (s.blk.link.dlSecond : Int) ≤ s.blk.get Ob.crcRateLimit ∧ (s.blk.link.duSecond : Int) ≤ s.blk.get
      Ob.crcRateLimit) ∧
    (∃ (s : State), s.blk.awake = true ∧ s.blk.get Ob.crcRateLimit < (s.blk.link.dlSecond : Int) ∧ (s.blk.link.duSecond : Int) ≤ s.blk.get
      Ob.crcRateLimit) :=
  ⟨⟨NL, .dl, fr, by decide +kernel⟩,
   ⟨NL, .dl, frameOf (headerOf 2 3 0 0 7) (commandPayload 9 0x1003 0 0 0 []), by decide +kernel, listens_sound (by decide +kernel)⟩,
   ⟨NL, .dl, by decide +kernel⟩,
   ⟨NL, by decide +kernel⟩,
   ⟨up NL fun b => (b.withPhys { b.phys with alarmBusy := true }).withLink { b.link with queue := List.replicate 7 fr }, by decide +kernel⟩,
   ⟨up NL fun b => (b.withPhys { b.phys with alarmBusy := true }).withLink { b.link with queue := List.replicate 8 fr }, by decide +kernel⟩,
   ⟨up NL fun b => b.withLink { b.link with census := [fr, fr] }, fr, [fr], by decide +kernel⟩,
   ⟨NL, by decide +kernel⟩,
   ⟨up NL fun b => b.withLink { b.link with dlSecond := 5000 }, by decide +kernel⟩⟩

theorem test_met_CensusAtNode :
    (∃ (s : State) (payload : List Byte), s.blk.awake = true ∧ s.blk.isHead = false ∧ s.blk.portUp .dl = true ∧ s.blk.portUp .du = true ∧
      payload.length = 4 ∧ field payload 0 1 < 128) ∧
    (∃ (s : State) (number : Nat) (x : CensusTaken), s.blk.link.taken = some x ∧ x.number = number ∧ x.echoed = false ∧ x.overflowed =
      false) ∧
    (∃ (s : State) (x : CensusTaken), s.blk.link.taken = some x ∧ x.echoed = false) ∧
    (∃ (s : State) (number : Nat) (payload : List Byte) (x : CensusTaken), s.blk.link.taken = some x ∧ x.number = number ∧ x.echoed = true
      ∧ payload.length = 4) ∧
    (∃ (s : State) (number : Nat) (p : Nat), s.blk.awake = true ∧ s.blk.isHead = false ∧ s.blk.link.lastCommit ≠ some number ∧
      s.blk.link.tentative = some (p, number)) ∧
    (∃ (s : State) (number : Nat), s.blk.awake = true ∧ s.blk.isHead = false ∧ s.blk.link.lastCommit ≠ some number ∧ s.blk.link.tentative
      = none ∧ s.blk.get Ob.position ≠ 0xFE) :=
  ⟨⟨NL, census3, by decide +kernel⟩,
   ⟨NT false, 7, tk false, by decide +kernel⟩,
   ⟨NT false, tk false, by decide +kernel⟩,
   ⟨NT true, 7, census3, tk true, by decide +kernel⟩,
   ⟨up NL fun b => b.withLink { b.link with tentative := some (4, 7) }, 7, 4, by decide +kernel⟩,
   ⟨NL, 7, by decide +kernel⟩⟩

theorem test_met_BroadcastsAtNode :
    (∃ (s : State) (sweeps : Nat) (count : Nat), s.blk.awake = true ∧ s.blk.isHead = false ∧ s.blk.positioned = true ∧ sweeps ≠ 0 ∧ count
      ≠ 0) ∧
    (∃ (s : State) (sweeps : Nat) (count : Nat) (n : Nat), s.blk.awake = true ∧ s.blk.isHead = false ∧ s.blk.positioned = true ∧
      s.blk.link.headSide = .dl ∧ s.blk.link.sweep = some ⟨.du, sweeps, count, n⟩ ∧ s.blk.transmits .dl = true ∧ s.blk.transmits .du = true) ∧
    (∃ (s : State) (table : List Nat) (d : Nat), s.blk.awake = true ∧ s.blk.isHead = false ∧ s.blk.positioned = true ∧ s.blk.nat
      Ob.position ≠ 0 ∧ table[s.blk.nat Ob.position - 1]? = some d) ∧
    (∃ (s : State) (table : List Nat) (d : Nat), s.blk.awake = true ∧ s.blk.isHead = false ∧ s.blk.positioned = true ∧ s.blk.nat
      Ob.position ≠ 0 ∧ table[s.blk.nat Ob.position - 1]? = some d) ∧
    (∃ (s : State) (image : List Byte), s.blk.awake = true ∧ s.blk.isHead = false ∧ s.blk.positioned = true ∧ image.length = 56) ∧
    (∃ (s : State) (payload : List Byte), s.blk.awake = true ∧ s.blk.isHead = false ∧ s.blk.positioned = true ∧ payload.length = 36 ∧
      bitOf (field payload 1 1) 0 = true) ∧
    (∃ (s : State) (payload : List Byte) (k : Nat), s.blk.awake = true ∧ s.blk.isHead = false ∧ s.blk.positioned = true ∧ s.blk.isKeeper =
      false ∧ s.blk.get Ob.currentKeeper ≤ 63 ∧ payload.length = 112 ∧ field payload 0 1 = 2 ∧ field payload 1 1 = k + 1 ∧ k < 4 ∧ k <
      s.blk.imp.entries.length) ∧
    (∃ (s : State) (payload : List Byte), s.blk.awake = true ∧ s.blk.isHead = false ∧ s.blk.positioned = true ∧ s.blk.isKeeper = false ∧
      s.blk.get Ob.currentKeeper ≤ 63 ∧ payload.length = 112 ∧ field payload 0 1 = 1 ∧ s.blk.e6Works = false) :=
  ⟨⟨NL, 4, 5, by decide +kernel⟩,
   ⟨up NL fun b => b.withLink { b.link with sweep := some ⟨.du, 4, 5, 2⟩ }, 4, 5, 2, by decide +kernel⟩,
   ⟨NL, [1, 2, 3], 3, by decide +kernel⟩,
   ⟨NL, [1, 2, 3], 3, by decide +kernel⟩,
   ⟨NL, bytesOf 1 6 ++ bytesOf 1 1 ++ bytesOf 1 4 ++ bytesOf 53 0, by decide +kernel⟩,
   ⟨NL, bytesOf 1 5 ++ bytesOf 1 1 ++ bytesOf 1 9 ++ bytesOf 33 0, by decide +kernel⟩,
   ⟨up NL fun b => b.put Ob.currentKeeper 1, bytesOf 1 2 ++ bytesOf 1 4 ++ bytesOf 110 0, 3, by decide +kernel⟩,
   ⟨up NL fun b => b.put Ob.currentKeeper 63, bytesOf 1 1 ++ bytesOf 3 0 ++ bytesOf 4 77 ++ bytesOf 104 0, by decide +kernel⟩⟩

theorem test_met_ChainCommands :
    (∃ (s : State) (seq : Nat) (ix : Nat) (sub : Nat), Listens s.blk seq ∧ ∃ l, s.blk.commanded.expeditedRead s.flash ix sub = .ok l ∧
      True) ∧
    (∃ (s : State) (seq : Nat) (ix : Nat) (sub : Nat) (a : Nat), s.blk.commanded.expeditedRead s.flash ix sub = .error a ∧ Listens s.blk
      seq) ∧
    (∃ (s : State) (seq : Nat) (ix : Nat) (sub : Nat) (data : List Byte) (v : Int), ix ∈ plainObjects ∧ Listens s.blk seq ∧ ∃ o sl,
      s.blk.commanded.disarm.checkWrite ix sub data 4 = .ok (o, sl) ∧ decodeSlices ix sl = [(keyOf ix sub, v)]) ∧
    (∃ (s : State) (seq : Nat) (ix : Nat) (sub : Nat) (data : List Byte) (a : Nat), (ix ≠ 0x1F00 ∧ ix ≠ 0x1001 ∧
      s.blk.commanded.disarm.checkWrite ix sub data 4 = .error a) ∧ Listens s.blk seq) ∧
    (∃ (s : State) (seq : Nat) (ix : Nat) (sub : Nat) (length : Nat), (ix ≠ 0x7000 ∧ 0 < length ∧ length ≤ 4096 ∧
      s.blk.initiated.access.transfer = none) ∧ Listens s.blk seq ∧ ∃ bytes, s.blk.commanded.initiated.readBytes s.flash ix sub = .ok bytes
      ∧ bytes.length ≤ length) ∧
    (∃ (s : State) (seq : Nat) (ix : Nat) (sub : Nat) (length : Nat), (ix ≠ 0x1F00 ∧ s.blk.initiated.access.transfer = none) ∧ Listens
      s.blk seq ∧ ∃ o, s.blk.commanded.disarm.initiated.writeTarget ix sub = .ok o ∧ s.blk.commanded.disarm.initiated.lengthAbort o sub
      length longest = none) ∧
    (∃ (s : State) (seq : Nat) (x : Transfer), (s.blk.access.transfer = some x ∧ x.requester = .chain ∧ x.writing = false ∧ x.delivered <
      x.data.length) ∧ Listens s.blk seq ∧ (∀ y, x.last = some y → y.1 ≠ x.next)) ∧
    (∃ (s : State) (seq : Nat) (data : List Byte) (x : Transfer), (s.blk.access.transfer = some x ∧ x.requester = .chain ∧ x.writing =
      true ∧ data ≠ [] ∧ data.length ≤ 128 ∧ x.data.length + data.length ≤ x.length) ∧ Listens s.blk seq ∧ (∀ y, x.last = some y → y.1 ≠
      x.next)) ∧
    (∃ (s : State) (seq : Nat) (x : Transfer), (s.blk.access.transfer = some x ∧ x.requester = .chain ∧ x.writing = false ∧ x.delivered =
      x.data.length) ∧ Listens s.blk seq) ∧
    (∃ (s : State) (seq : Nat) (x : Transfer) (v : Int), (s.blk.access.transfer = some x ∧ x.requester = .chain ∧ x.writing = true ∧
      x.data.length = x.length ∧ x.ix ∈ plainObjects) ∧ Listens s.blk seq ∧ ∃ o sl, s.blk.commanded.closeTransfer.disarm.checkWrite x.ix
      x.sub x.data longest = .ok (o, sl) ∧ decodeSlices x.ix sl = [(keyOf x.ix x.sub, v)]) ∧
    (∃ (s : State) (seq : Nat) (total : Nat) (x : Transfer), (s.blk.access.transfer = some x ∧ x.requester = .chain ∧ x.writing = true ∧
      (total ≠ x.length ∨ x.data.length ≠ x.length)) ∧ Listens s.blk seq) ∧
    (∃ (s : State) (seq : Nat) (image : List Byte), image.length = 56 ∧ Listens s.blk seq) :=
  ⟨⟨NL, 7, 0x1003, 0, listens_sound (by decide +kernel), ok_of (by decide +kernel)⟩,
   ⟨NL, 7, 0x1003, 9, 0x602, by decide +kernel, listens_sound (by decide +kernel)⟩,
   ⟨NL, 7, 0x1003, 0, bytesOf 2 30, 30, by decide +kernel, listens_sound (by decide +kernel), ok_pair_of (by decide +kernel)⟩,
   ⟨NL, 7, 0x1003, 0, bytesOf 1 30, 0x606, by decide +kernel, listens_sound (by decide +kernel)⟩,
   ⟨NL, 7, 0x3009, 0xFF, 4096, by decide +kernel, listens_sound (by decide +kernel), ok_of (by decide +kernel)⟩,
   ⟨NL, 7, 0x1003, 0, 2, by decide +kernel, listens_sound (by decide +kernel), ok_of (by decide +kernel)⟩,
   ⟨T (tr false block200 200 1 128), 7, tr false block200 200 1 128, by decide +kernel, listens_sound (by decide +kernel), none_of
    (by decide +kernel)⟩,
   ⟨T (tr true [7#8] 2 1 0), 7, [5#8], tr true [7#8] 2 1 0, by decide +kernel, listens_sound (by decide +kernel), none_of
    (by decide +kernel)⟩,
   ⟨T (tr false block200 200 2 200), 7, tr false block200 200 2 200, by decide +kernel, listens_sound (by decide +kernel)⟩,
   ⟨T (tr true (bytesOf 2 30) 2 1 0), 7, tr true (bytesOf 2 30) 2 1 0, 30, by decide +kernel, listens_sound (by decide +kernel), ok_pair_of
    (by decide +kernel)⟩,
   ⟨T (tr true (bytesOf 2 30) 2 1 0), 7, 3, tr true (bytesOf 2 30) 2 1 0, by decide +kernel, listens_sound (by decide +kernel)⟩,
   ⟨NL, 7, NL.blk.chainImage, by decide +kernel, listens_sound (by decide +kernel)⟩⟩

theorem test_met_RepeatedSequence :
    (∃ (s : State) (seq : Nat) (payload : List Byte) (c : Instr), (s.blk.awake = true ∧ s.blk.isHead = false ∧ s.blk.positioned = true ∧
      s.blk.access.lastSeq = some (seq, payload)) ∧ ((∃ ix sub, c = .read seq ix sub) ∨ (∃ ix sub data, c = .write seq ix sub data) ∨ (∃ ix
      sub l, c = .segInitRead seq ix sub l) ∨ (∃ ix sub l, c = .segInitWrite seq ix sub l) ∨ (∃ ix sub n, c = .segRead seq ix sub n) ∨ (∃ ix
      sub n data, c = .segWrite seq ix sub n data) ∨ (∃ ix sub n, c = .segEnd seq ix sub n) ∨ (∃ image, c = .checkConfig seq image))) ∧
    (∃ (s : State) (header : List Byte) (data : List Byte) (message : List Byte), s.blk.carrierOpen .spi = true ∧ s.blk.host.spi.executing
      = none ∧ header.length = 5 ∧ field header 0 1 ≠ 0x3F ∧ data.length < 256 ∧ s.blk.host.spi.last = some (header ++ data, message)) ∧
    (∃ (s : State) (header : List Byte) (data : List Byte) (message : List Byte), s.blk.carrierOpen .can = true ∧ s.blk.host.can.executing
      = none ∧ header.length = 5 ∧ data.length < 256 ∧ novezFits .can (headerOp header) data.length = true ∧ s.blk.host.can.last = some
      (header ++ data, message)) :=
  ⟨⟨up NL fun b => b.withAccess { b.access with lastSeq := some (7, [1#8]) }, 7, [1#8], .read 7 0x1003 0, by decide +kernel, .inl ⟨_, _,
    rfl⟩⟩,
   ⟨HS (fun p => { p with last := some (attn ++ [1#8], [9#8]) }), attn, [1#8], [9#8], by decide +kernel⟩,
   ⟨up (HC 3) fun b => b.setHostPort .can { b.host.can with last := some (bytesOf 1 2 ++ bytesOf 4 0 ++ [1#8], [9#8]) }, bytesOf 1 2 ++
    bytesOf 4 0, [1#8], [9#8], by decide +kernel⟩⟩

theorem test_met_TransfersAndJournal :
    (∃ (s : State) (x : Transfer), s.blk.awake = true ∧ s.blk.isHead = false ∧ s.blk.access.transfer = some x) ∧
    (∃ (s : State) (c : Carrier) (x : HostTransfer), s.blk.awake = true ∧ s.blk.isHead = true ∧ (s.blk.hostPort c).transfer = some x) ∧
    (∃ (s : State) (length : Nat) (e : JEntry) (es : List JEntry), s.blk.awake = true ∧ 16 ≤ length ∧ length ≤ 4096 ∧
      s.blk.initiated.access.transfer = none ∧ (s.blk.journalRun length).1 = es ++ [e]) ∧
    (∃ (s : State) (length : Nat), s.blk.awake = true ∧ 16 ≤ length ∧ length ≤ 4096 ∧ s.blk.initiated.access.transfer = none ∧
      (s.blk.journalRun length).1 = []) ∧
    (∃ (s : State) (length : Nat), s.blk.awake = true ∧ length < 16) :=
  ⟨⟨T (tr true [] 2 1 0), tr true [] 2 1 0, by decide +kernel⟩,
   ⟨HT .can (ht true 0 [] 2 0 0 0), .can, ht true 0 [] 2 0 0 0, by decide +kernel⟩,
   ⟨up NL fun b => (b.withJournal { b.journal with entries := [⟨4, 10, 3, 1, 1, 1, 0, false, false, false, false, false, 0⟩], next := 5
    }).withTb { b.tb with us := 5000 }, 16, ⟨4, 10, 3, 1, 1, 1, 0, false, false, false, false, false, 0⟩, [], by decide +kernel⟩,
   ⟨NL, 4096, by decide +kernel⟩,
   ⟨NL, 15, by decide +kernel⟩⟩

theorem test_met_HeadCommands :
    (∃ (s : State) (p : Nat) (seq : Nat) (payload : List Byte) (c : Outstanding) (w : HeadWrite), s.blk.awake = true ∧ s.blk.isHead = true
      ∧ s.blk.link.commands = [c] ∧ c.position = p ∧ c.seq = some seq ∧ c.waiter = .configCheck ∧ responseOk c payload = true ∧
      s.blk.link.headWrite = some w) ∧
    (∃ (s : State) (p : Nat) (seq : Nat) (payload : List Byte) (c : Outstanding) (r : Running), s.blk.awake = true ∧ s.blk.isHead = true ∧
      s.blk.link.commands = [c] ∧ c.position = p ∧ c.seq = some seq ∧ c.waiter = .host .spi ∧ responseOk c payload = true ∧ field payload 7
      1 = 0 ∧ s.blk.host.spi.executing = some r ∧ r.job = .single) ∧
    (∃ (s : State) (p : Nat) (seq : Nat) (c : Outstanding), s.blk.awake = true ∧ s.blk.isHead = true ∧ s.blk.link.commands = [c] ∧
      c.position = p ∧ c.seq = some seq ∧ c.attempts < 4 ∧ s.blk.transmits (s.blk.portFor p) = true) ∧
    (∃ (s : State) (p : Nat) (seq : Nat) (c : Outstanding) (w : HeadWrite), s.blk.awake = true ∧ s.blk.isHead = true ∧ s.blk.link.commands
      = [c] ∧ c.position = p ∧ c.seq = some seq ∧ 4 ≤ c.attempts ∧ c.waiter = .configCheck ∧ s.blk.link.headWrite = some w) ∧
    (∃ (s : State) (w : HeadWrite), s.blk.awake = true ∧ s.blk.link.headWrite = some w ∧ w.waiting = [] ∧ w.requester = none ∧ w.refused =
      true) ∧
    (∃ (s : State) (w : HeadWrite), s.blk.awake = true ∧ s.blk.link.headWrite = some w ∧ w.waiting = [] ∧ w.requester = none ∧ w.refused =
      false ∧ w.failed = true) ∧
    (∃ (s : State) (w : HeadWrite) (v : Int), (s.blk.awake = true ∧ s.blk.link.headWrite = some w ∧ w.waiting = [] ∧ w.requester = none ∧
      w.refused = false ∧ w.failed = false ∧ w.ix = 0x2032) ∧ ∃ o sl, (s.blk.withLink { s.blk.link with headWrite := none }).checkWrite w.ix
      w.sub w.data longest = .ok (o, sl) ∧ decodeSlices 0x2032 sl = [(Ob.currentKeeper, v)]) :=
  ⟨⟨HO .configCheck 1 (some (hw [2, 3] false false)), 2, 9, resp, cmd .configCheck 1, hw [2, 3] false false, by decide +kernel⟩,
   ⟨up (HO (.host .spi) 1 none) fun b => b.setHostPort .spi { b.hostPort .spi with executing := some ⟨[1#8], [], .single, false⟩ }, 2, 9,
    resp, cmd (.host .spi) 1, ⟨[1#8], [], .single, false⟩, by decide +kernel⟩,
   ⟨HO .configCheck 3 none, 2, 9, cmd .configCheck 3, by decide +kernel⟩,
   ⟨HO .configCheck 4 (some (hw [2, 3] false false)), 2, 9, cmd .configCheck 4, hw [2, 3] false false, by decide +kernel⟩,
   ⟨HW true false, hw [] true false, by decide +kernel⟩,
   ⟨HW false true, hw [] false true, by decide +kernel⟩,
   ⟨HW false false, hw [] false false, 1, by decide +kernel, ok_pair_of (by decide +kernel)⟩⟩

theorem test_met_HeadTrains :
    (∃ (s : State) (c : StreamClass) (t : Nat), s.blk.awake = true ∧ s.blk.isHead = true ∧ c ∈ [.volts, .temps, .imped, .status] ∧
      s.blk.link.round = none ∧ (s.blk.at t).due (codeOf c) = true ∧ s.blk.resumes = true ∧ s.blk.inTrain (codeOf c) = false ∧
      s.blk.link.statusDue = false ∧ (s.blk.at t).syncRoom (triggerTime (codeOf c)) = true ∧ (s.blk.at t).tooLate (codeOf c)
      (s.blk.perWindow (codeOf c)) = false ∧ s.blk.transmits .du = true) ∧
    (∃ (s : State) (c : StreamClass) (t : Nat), s.blk.awake = true ∧ s.blk.isHead = true ∧ c ≠ .keeper ∧ s.blk.link.round = none ∧
      (s.blk.at t).due (codeOf c) = true ∧ s.blk.resumes = true ∧ (s.blk.at t).syncRoom (triggerTime (codeOf c)) = false) ∧
    (∃ (s : State) (t : Nat) (r : Round), s.blk.awake = true ∧ s.blk.isHead = true ∧ s.blk.link.round = some r ∧ (s.blk.at t).due 2 =
      true) ∧
    (∃ (s : State) (header : Nat) (payload : List Byte) (x : Train), s.blk.awake = true ∧ s.blk.isHead = true ∧ s.blk.link.trains = [x] ∧
      x.cls = hdrClass header ∧ x.cls ≠ 6 ∧ classLength x.cls = some payload.length ∧ hdrPos header ∈ s.blk.committed ∧ (∀ r ∈ x.frames,
      r.position ≠ hdrPos header)) ∧
    (∃ (s : State) (c : StreamClass) (t : Nat) (x : Train), s.blk.awake = true ∧ s.blk.isHead = true ∧ s.blk.link.trains = [x] ∧ x.cls =
      codeOf c ∧ (s.blk.at t).trainOver x = true ∧ s.blk.link.hostTriggers = [] ∧ s.blk.link.waiting = [] ∧ s.blk.link.behind = [] ∧
      s.blk.link.statusDue = false ∧ codeOf c < s.blk.link.closedTrains.length) ∧
    (∃ (s : State) (payload : List Byte), s.blk.awake = true ∧ s.blk.isHead = true ∧ payload.length = 112 ∧ 6 <
      s.blk.link.closedTrains.length ∧ s.blk.link.round = none ∧ s.blk.transmits .du = true) ∧
    (∃ (s : State) (payload : List Byte) (r : Round), s.blk.awake = true ∧ s.blk.isHead = true ∧ payload.length = 112 ∧ s.blk.link.round =
      some r) ∧
    (∃ (s : State) (header : Nat) (payload : List Byte), s.blk.awake = true ∧ s.blk.isHead = true ∧ hdrClass header = 5 ∧ payload.length =
      80 ∧ hdrPos header ∈ s.blk.committed ∧ s.blk.link.split = none ∧ bitOf (field payload 7 1) 1 = false) ∧
    (∃ (s : State) (below : Nat), s.blk.awake = true ∧ s.blk.isHead = true ∧ s.blk.get Ob.ringMode = 1 ∧ s.blk.portUp .dl = true ∧
      s.blk.link.split = none ∧ s.blk.link.round = none ∧ s.blk.link.breakAt = some below ∧ below < s.blk.committed.length) ∧
    (∃ (s : State) (x : Nat), s.blk.awake = true ∧ s.blk.isHead = true ∧ s.blk.link.split = some x ∧ s.blk.link.breakAt = none) :=
  ⟨⟨up (HC 3) fun b => b.put (Ob.streamSchedule + 3) (2 * 2 ^ 24 + 11), .temps, 11000, by decide +kernel⟩,
   ⟨TD, .temps, 9999, by decide +kernel⟩,
   ⟨up (HL fun l => { l with round := some ⟨1, 1, none, false, false, false⟩ }) fun b => b.put (Ob.streamSchedule + 2) (2 * 2 ^ 24 + 10),
    10000, ⟨1, 1, none, false, false, false⟩, by decide +kernel⟩,
   ⟨HL (fun l => { l with trains := [tn 3 []] }), headerOf 1 2 3 0 0, bytesOf 56 0, tn 3 [], by decide +kernel⟩,
   ⟨HL (fun l => { l with trains := [tn 3 []] }), .temps, 6000, tn 3 [], by decide +kernel⟩,
   ⟨HC 3, bytesOf 112 0, by decide +kernel⟩,
   ⟨HL (fun l => { l with round := some ⟨1, 1, none, false, false, false⟩ }), bytesOf 112 0, ⟨1, 1, none, false, false, false⟩,
    by decide +kernel⟩,
   ⟨HC 3, headerOf 1 2 5 0 0, bytesOf 80 0, by decide +kernel⟩,
   ⟨up (HC 3) fun b => (b.put Ob.ringMode 1).withLink { b.link with breakAt := some 2 }, 2, by decide +kernel⟩,
   ⟨HL (fun l => { l with split := some 1 }), 1, by decide +kernel⟩⟩

theorem test_met_CensusAtHead :
    (∃ (s : State) (t : Nat), s.blk.roundFree = true ∧ s.blk.link.roundWanted = true ∧ s.blk.portUp .du = true ∧ (s.blk.at t).censusRoom =
      true) ∧
    (∃ (s : State) (t : Nat), s.blk.roundFree = true ∧ s.blk.link.roundWanted = true ∧ s.blk.portUp .du = true ∧ (s.blk.at t).censusRoom =
      false) ∧
    (∃ (s : State) (x : Nat), s.blk.roundFree = true ∧ s.blk.link.roundWanted = false ∧ s.blk.link.wakeCensus = [x] ∧ s.blk.portUp .du =
      true) ∧
    (∃ (s : State), s.blk.roundFree = true ∧ s.blk.link.roundWanted = true ∧ s.blk.portUp .du = false ∧ s.blk.host.spi.executing = none ∧
      s.blk.host.can.executing = none) ∧
    (∃ (s : State) (number : Nat) (payload : List Byte) (r : Round), s.blk.link.round = some r ∧ r.number = number ∧ r.settled = false ∧
      r.held = false ∧ payload.length = 4 ∧ r.last ≠ some (passResult payload) ∧ r.pass < 8) ∧
    (∃ (s : State) (number : Nat) (payload : List Byte) (r : Round), s.blk.link.round = some r ∧ r.number = number ∧ r.settled = false ∧
      r.held = false ∧ payload.length = 4 ∧ r.last = some (passResult payload) ∧ field payload 0 1 % 128 ≠ 0) ∧
    (∃ (s : State) (r : Round), s.blk.link.round = some r ∧ r.settled = false ∧ r.held = false ∧ r.pass < 8) ∧
    (∃ (s : State) (r : Round), s.blk.link.round = some r ∧ r.settled = false ∧ r.held = false ∧ 8 ≤ r.pass ∧ s.blk.host.spi.executing =
      none ∧ s.blk.host.can.executing = none) ∧
    (∃ (s : State) (t : Nat) (r : Nat), s.blk.roundFree = true ∧ s.blk.link.retryAt = some r ∧ reached (t % t48) r = true ∧ s.blk.portUp
      .du = true) :=
  ⟨⟨HL (fun l => { l with roundWanted := true }), 9, by decide +kernel⟩,
   ⟨HL (fun l => { l with roundWanted := true }), 9999, by decide +kernel⟩,
   ⟨HL (fun l => { l with wakeCensus := [20020] }), 20020, by decide +kernel⟩,
   ⟨up (HL (fun l => { l with roundWanted := true })) fun b => b.put Ob.portStatusDuState 2, by decide +kernel⟩,
   ⟨HL (fun l => { l with round := some ⟨4, 7, none, false, false, false⟩ }), 4, bytesOf 4 0x03000000, ⟨4, 7, none, false, false, false⟩,
    by decide +kernel⟩,
   ⟨HL (fun l => { l with round := some ⟨4, 2, (some (passResult (bytesOf 1 3 ++ bytesOf 3 0))), false, false, false⟩ }), 4, bytesOf 1 3 ++
    bytesOf 3 0, ⟨4, 2, (some (passResult (bytesOf 1 3 ++ bytesOf 3 0))), false, false, false⟩, by decide +kernel⟩,
   ⟨HL (fun l => { l with round := some ⟨4, 7, none, false, false, true⟩ }), ⟨4, 7, none, false, false, true⟩, by decide +kernel⟩,
   ⟨HL (fun l => { l with round := some ⟨4, 8, none, false, false, true⟩ }), ⟨4, 8, none, false, false, true⟩, by decide +kernel⟩,
   ⟨HL (fun l => { l with retryAt := some 9 }), 9, 9, by decide +kernel⟩⟩

theorem test_met_DelaysAtHead :
    (∃ (s : State) (sweeps : List (List Nat)) (n : Nat) (again : Bool) (announced : Bool), s.blk.link.round = none ∧ s.blk.link.probing =
      some ⟨.du, n, again, 0, announced⟩ ∧ 3 ≤ (sweeps.filter (sweepOk n)).length) ∧
    (∃ (s : State) (sweeps : List (List Nat)) (n : Nat) (again : Bool) (announced : Bool), s.blk.link.round = none ∧ s.blk.link.probing =
      some ⟨.dl, n, again, 0, announced⟩ ∧ 3 ≤ (sweeps.filter (sweepOk n)).length) ∧
    (∃ (s : State) (sweeps : List (List Nat)) (p : Port) (n : Nat) (announced : Bool), s.blk.link.probing = some ⟨p, n, false, 0,
      announced⟩ ∧ (sweeps.filter (sweepOk n)).length < 3) ∧
    (∃ (s : State) (sweeps : List (List Nat)) (p : Port) (n : Nat) (announced : Bool), s.blk.link.round = none ∧ s.blk.link.probing = some
      ⟨p, n, true, 0, announced⟩ ∧ (sweeps.filter (sweepOk n)).length < 3) ∧
    (∃ (s : State), s.blk.awake = true ∧ s.blk.isHead = true ∧ s.blk.link.round = none ∧ s.blk.link.trains = [] ∧ s.blk.link.probing =
      none ∧ s.blk.link.split = none ∧ s.blk.committed ≠ []) :=
  ⟨⟨HL (fun l => { l with probing := some ⟨.du, 3, false, 0, true⟩ }), List.replicate 3 sweep, 3, false, true, by decide +kernel⟩,
   ⟨HL (fun l => { l with probing := some ⟨.dl, 3, true, 0, true⟩ }), List.replicate 3 sweep, 3, true, true, by decide +kernel⟩,
   ⟨HL (fun l => { l with probing := some ⟨.dl, 3, false, 0, true⟩ }), List.replicate 2 sweep, .dl, 3, true, by decide +kernel⟩,
   ⟨HL (fun l => { l with probing := some ⟨.dl, 3, true, 0, true⟩ }), List.replicate 2 sweep, .dl, 3, true, by decide +kernel⟩,
   ⟨HC 3, by decide +kernel⟩⟩

theorem test_met_HostAccess :
    (∃ (s : State) (c : Carrier) (ix : Nat) (sub : Nat), (ix < 65536 ∧ sub < 256) ∧ Ready s.blk c ∧ ∃ l, (s.blk.begun c (s.blk.nextHeader
      c 1 0 ix sub) []).expeditedRead s.flash ix sub = .ok l ∧ True) ∧
    (∃ (s : State) (c : Carrier) (ix : Nat) (sub : Nat) (a : Nat), (ix < 65536 ∧ sub < 256 ∧ (s.blk.begun c (s.blk.nextHeader c 1 0 ix
      sub) []).expeditedRead s.flash ix sub = .error a) ∧ Ready s.blk c) ∧
    (∃ (s : State) (c : Carrier) (p : Nat) (ix : Nat) (sub : Nat), (p ≠ 0 ∧ (p : Int) ≤ s.blk.get Ob.censusResultTop ∧ ix < 65536 ∧ sub <
      256) ∧ Ready s.blk c) ∧
    (∃ (s : State) (c : Carrier) (p : Nat), (s.blk.get Ob.censusResultTop < (p : Int) ∧ p < 256) ∧ Ready s.blk c) ∧
    (∃ (s : State) (c : Carrier) (ix : Nat) (sub : Nat) (data : List Byte) (v : Int), (ix ∈ plainObjects ∧ sub < 256 ∧ 1 ≤ data.length ∧
      data.length ≤ 4) ∧ Ready s.blk c ∧ ∃ o sl, (s.blk.begun c (s.blk.nextHeader c 2 0 ix sub) data).disarm.checkWrite ix sub data 4 = .ok
      (o, sl) ∧ decodeSlices ix sl = [(keyOf ix sub, v)]) ∧
    (∃ (s : State) (c : Carrier) (ix : Nat) (sub : Nat) (data : List Byte) (a : Nat), (ix ≠ 0x1F00 ∧ ix ≠ 0x1001 ∧ ix < 65536 ∧ sub < 256
      ∧ 1 ≤ data.length ∧ data.length ≤ 4 ∧ (s.blk.begun c (s.blk.nextHeader c 2 0 ix sub) data).disarm.checkWrite ix sub data 4 = .error a)
      ∧ Ready s.blk c) ∧
    (∃ (s : State) (c : Carrier) (p : Nat) (ix : Nat) (sub : Nat) (data : List Byte), (p ≠ 0 ∧ (p : Int) ≤ s.blk.get Ob.censusResultTop ∧
      ix < 65536 ∧ sub < 256 ∧ 1 ≤ data.length ∧ data.length ≤ 4) ∧ Ready s.blk c) ∧
    (∃ (s : State) (c : Carrier) (ix : Nat) (sub : Nat) (data : List Byte) (v : Int), (s.blk.get Ob.censusResultTop = 0 ∧ ix ∈
      plainObjects ∧ sub < 256 ∧ 1 ≤ data.length ∧ data.length ≤ 4) ∧ Ready s.blk c ∧ ∃ o sl, (((s.blk.begun c (s.blk.nextHeader c 2 0x80 ix
      sub) data).setJob c (.all [0] 0 (0, 0, 0))).disarm).checkWrite ix sub data 4 = .ok (o, sl) ∧ decodeSlices ix sl = [(keyOf ix sub, v)]) :=
  ⟨⟨HC 3, .spi, 0x1003, 0, by decide +kernel, ready_sound (by decide +kernel), ok_of (by decide +kernel)⟩,
   ⟨HC 3, .can, 0x1003, 9, 0x602, by decide +kernel, ready_sound (by decide +kernel)⟩,
   ⟨HC 3, .spi, 3, 0x1003, 0, by decide +kernel, ready_sound (by decide +kernel)⟩,
   ⟨HC 3, .can, 4, by decide +kernel, ready_sound (by decide +kernel)⟩,
   ⟨HC 3, .spi, 0x1003, 0, bytesOf 2 30, 30, by decide +kernel, ready_sound (by decide +kernel), ok_pair_of (by decide +kernel)⟩,
   ⟨HC 3, .can, 0x1003, 0, bytesOf 1 30, 0x606, by decide +kernel, ready_sound (by decide +kernel)⟩,
   ⟨HC 3, .spi, 3, 0x1003, 0, bytesOf 2 30, by decide +kernel, ready_sound (by decide +kernel)⟩,
   ⟨HC 0, .can, 0x1003, 0, bytesOf 2 30, 30, by decide +kernel, ready_sound (by decide +kernel), ok_pair_of (by decide +kernel)⟩⟩

theorem test_met_HostTransfers :
    (∃ (s : State) (c : Carrier) (ix : Nat) (sub : Nat) (length : Nat), (ix < 65536 ∧ sub < 256 ∧ ix ≠ 0x7000 ∧ 0 < length ∧ length ≤
      4096) ∧ Ready s.blk c ∧ ∃ bytes, (let b := s.blk.begun c (s.blk.nextHeader c 3 0 ix sub) (bytesOf 2 length);
      let b := b.setHostPort c { b.hostPort c with transfer := none }; let b := b.withAccess (b.access.restart c.requester);
      b.readBytes s.flash ix sub = .ok bytes ∧ b.access.transfer = none) ∧ bytes.length ≤ length) ∧
    (∃ (s : State) (c : Carrier) (p : Nat) (ix : Nat) (sub : Nat) (length : Nat), (p ≠ 0 ∧ (p : Int) ≤ s.blk.get Ob.censusResultTop ∧ ix <
      65536 ∧ sub < 256 ∧ length < 65536) ∧ Ready s.blk c) ∧
    (∃ (s : State) (c : Carrier) (p : Nat) (ix : Nat) (sub : Nat) (length : Nat), ((p : Int) ≤ s.blk.get Ob.censusResultTop ∧ ix < 65536 ∧
      sub < 256 ∧ 0 < length ∧ length ≤ 4096) ∧ Ready s.blk c) ∧
    (∃ (s : State) (c : Carrier) (p : Nat) (ix : Nat) (sub : Nat), ((p : Int) ≤ s.blk.get Ob.censusResultTop ∧ ix < 65536 ∧ sub < 256) ∧
      Ready s.blk c) ∧
    (∃ (s : State) (c : Carrier) (p : Nat) (x : HostTransfer), ((p : Int) ≤ s.blk.get Ob.censusResultTop ∧ (s.blk.hostPort c).transfer =
      some x ∧ x.writing = false ∧ x.next < 256 ∧ x.delivered < x.data.length) ∧ Ready s.blk c ∧ (∀ y, x.last = some y → y.1 ≠ x.next)) ∧
    (∃ (s : State) (c : Carrier) (p : Nat) (seg : Nat), ((p : Int) ≤ s.blk.get Ob.censusResultTop ∧ (s.blk.hostPort c).transfer = none ∧
      seg < 256) ∧ Ready s.blk c) ∧
    (∃ (s : State) (c : Carrier) (p : Nat) (data : List Byte) (x : HostTransfer), ((p : Int) ≤ s.blk.get Ob.censusResultTop ∧
      (s.blk.hostPort c).transfer = some x ∧ x.writing = true ∧ x.next < 256 ∧ data ≠ [] ∧ data.length ≤ hostSegment c ∧ x.data.length +
      data.length ≤ x.length) ∧ Ready s.blk c ∧ (∀ y, x.last = some y → y.1 ≠ x.next)) ∧
    (∃ (s : State) (c : Carrier) (p : Nat) (x : HostTransfer) (y : Transfer), ((p : Int) ≤ s.blk.get Ob.censusResultTop ∧ (s.blk.hostPort
      c).transfer = some x ∧ x.writing = false ∧ x.position = 0 ∧ x.delivered = x.data.length ∧ x.data.length < 65536 ∧
      s.blk.access.transfer = some y ∧ y.requester = c.requester ∧ y.writing = false ∧ y.data.length = x.data.length ∧ y.delivered =
      y.data.length) ∧ Ready s.blk c) ∧
    (∃ (s : State) (c : Carrier) (p : Nat) (x : HostTransfer), ((p : Int) ≤ s.blk.get Ob.censusResultTop ∧ (s.blk.hostPort c).transfer =
      some x ∧ x.writing = true ∧ x.position ≠ 0 ∧ x.data.length = x.length ∧ x.length < 65536) ∧ Ready s.blk c) ∧
    (∃ (s : State) (c : Carrier) (p : Nat) (total : Nat) (x : HostTransfer), ((p : Int) ≤ s.blk.get Ob.censusResultTop ∧ (s.blk.hostPort
      c).transfer = some x ∧ x.writing = true ∧ total < 65536 ∧ (total ≠ x.length ∨ x.data.length ≠ x.length)) ∧ Ready s.blk c) ∧
    (∃ (s : State) (c : Carrier) (x : HostTransfer), s.blk.awake = true ∧ s.blk.isHead = true ∧ (s.blk.hostPort c).transfer = some x ∧
      x.writing = false ∧ x.position ≠ 0 ∧ x.chainSegment ≠ 0) :=
  ⟨⟨HC 3, .spi, 0x3009, 0xFF, 4096, by decide +kernel, ready_sound (by decide +kernel), (List.replicate 32 [0#8, 0#8, 0x3C#8,
    0x5A#8]).flatten, by decide +kernel⟩,
   ⟨HC 3, .can, 3, 0x3009, 0xFF, 4096, by decide +kernel, ready_sound (by decide +kernel)⟩,
   ⟨HC 3, .spi, 3, 0x1003, 0, 4096, by decide +kernel, ready_sound (by decide +kernel)⟩,
   ⟨HC 3, .can, 3, 0x1003, 0, by decide +kernel, ready_sound (by decide +kernel)⟩,
   ⟨HT .spi (ht false 0 block60 60 0 0 0), .spi, 0, ht false 0 block60 60 0 0 0, by decide +kernel, ready_sound (by decide +kernel),
    none_of (by decide +kernel)⟩,
   ⟨HC 3, .can, 0, 0, by decide +kernel, ready_sound (by decide +kernel)⟩,
   ⟨HT .can (ht true 0 [] 2 0 0 0), .can, 0, [3#8, 4#8], ht true 0 [] 2 0 0 0, by decide +kernel, ready_sound (by decide +kernel), none_of
    (by decide +kernel)⟩,
   ⟨up (HT .spi (ht false 0 block3 3 1 3 0)) fun b => b.withAccess { b.access with transfer := some ⟨.spi, 0x1003, 0, false, block3, 3, 1,
    none, 3, none⟩ }, .spi, 0, ht false 0 block3 3 1 3 0, ⟨.spi, 0x1003, 0, false, block3, 3, 1, none, 3, none⟩, by decide +kernel,
    ready_sound (by decide +kernel)⟩,
   ⟨HT .can (ht true 2 block3 3 1 3 0), .can, 3, ht true 2 block3 3 1 3 0, by decide +kernel, ready_sound (by decide +kernel)⟩,
   ⟨HT .spi (ht true 2 block3 3 1 3 0), .spi, 3, 2, ht true 2 block3 3 1 3 0, by decide +kernel, ready_sound (by decide +kernel)⟩,
   ⟨HT .can (ht false 2 [] 3 1 3 4), .can, ht false 2 [] 3 1 3 4, by decide +kernel⟩⟩

theorem test_met_HostStreams :
    (∃ (s : State) (c : Carrier) (cls : Nat), (cls ∈ [1, 3, 4, 5] ∧ s.blk.inTrain cls = false ∧ s.blk.syncRoom (triggerTime cls) = true ∧
      (∀ x ∈ s.blk.link.hostTriggers, x.2 ≠ cls)) ∧ Ready s.blk c) ∧
    (∃ (s : State) (c : Carrier) (cls : Nat), (cls ∈ [1, 3, 4, 5] ∧ (s.blk.inTrain cls = true ∨ s.blk.syncRoom (triggerTime cls) = false)
      ∧ (∀ x ∈ s.blk.link.hostTriggers, x.2 ≠ cls)) ∧ Ready s.blk c) ∧
    (∃ (s : State) (c : Carrier) (cls : Nat) (r : Round), s.blk.carrierOpen c = true ∧ (s.blk.hostPort c).executing = none ∧
      s.blk.link.round = some r ∧ 1 ≤ cls ∧ cls ≤ 5) ∧
    (∃ (s : State) (c : Carrier) (cls : Nat), (cls < 256 ∧ (cls = 0 ∨ 5 < cls)) ∧ Ready s.blk c) ∧
    (∃ (s : State) (c : Carrier) (p : Nat) (cls : Nat) (offset : Nat) (count : Nat), (p < 256 ∧ cls < 256 ∧ offset < 65536 ∧ count < 256)
      ∧ Ready s.blk c) ∧
    (∃ (s : State) (c : Carrier), Ready s.blk c) :=
  ⟨⟨HC 3, .spi, 5, by decide +kernel, ready_sound (by decide +kernel)⟩,
   ⟨HL (fun l => { l with trains := [tn 3 []] }), .can, 3, by decide +kernel, ready_sound (by decide +kernel)⟩,
   ⟨HL (fun l => { l with round := some ⟨1, 1, none, false, false, false⟩ }), .spi, 5, ⟨1, 1, none, false, false, false⟩,
    by decide +kernel⟩,
   ⟨HC 3, .can, 6, by decide +kernel, ready_sound (by decide +kernel)⟩,
   ⟨HC 3, .spi, 2, 3, 0, 8, by decide +kernel, ready_sound (by decide +kernel)⟩,
   ⟨HC 3, .can, ready_sound (by decide +kernel)⟩⟩

theorem test_met_SpiCarrier :
    (∃ (s : State) (header : List Byte), (header.length = 5 ∧ field header 0 1 ≠ 0x3F ∧ headerOp header = 0x12) ∧ Ready s.blk .spi ∧ (∀ x,
      s.blk.host.spi.last = some x → x.1 ≠ header)) ∧
    (∃ (s : State) (header : List Byte) (message : List Byte), (header.length = 5 ∧ field header 0 1 ≠ 0x3F ∧ s.blk.host.spi.last = some
      (header, message)) ∧ Ready s.blk .spi) ∧
    (∃ (s : State) (l : List Byte), s.blk.carrierOpen .spi = true ∧ l ≠ [] ∧ field l 0 1 ≠ 0x3F ∧ ((checkMessage true l).whole &&
      (checkMessage true l).headerOk && (checkMessage true l).dataOk) = false) ∧
    (∃ (s : State) (message : List Byte) (clocked : Nat), s.blk.carrierOpen .spi = true ∧ s.blk.host.spi.slot = some message ∧ 1 +
      message.length ≤ clocked) ∧
    (∃ (s : State) (message : List Byte) (clocked : Nat), s.blk.carrierOpen .spi = true ∧ s.blk.host.spi.slot = some message ∧ 0 < clocked
      ∧ clocked < 1 + message.length) ∧
    (∃ (s : State), s.blk.awake = true ∧ s.blk.isHead = true ∧ (s.blk.host.spi.crcSecond : Int) ≤ s.blk.get Ob.hostCrcLimit ∧
      (s.blk.host.can.crcSecond : Int) ≤ s.blk.get Ob.hostCrcLimit) ∧
    (∃ (s : State), s.blk.awake = true ∧ s.blk.isHead = true ∧ s.blk.get Ob.hostCrcLimit < (s.blk.host.spi.crcSecond : Int) ∧
      (s.blk.host.can.crcSecond : Int) ≤ s.blk.get Ob.hostCrcLimit) :=
  ⟨⟨HC 3, attn, by decide +kernel, ready_sound (by decide +kernel), none_of (by decide +kernel)⟩,
   ⟨HS (fun p => { p with last := some (attn, [9#8]) }), attn, [9#8], by decide +kernel, ready_sound (by decide +kernel)⟩,
   ⟨HC 3, [1#8], by decide +kernel⟩,
   ⟨HS (fun p => { p with slot := some [9#8] }), [9#8], 2, by decide +kernel⟩,
   ⟨HS (fun p => { p with slot := some [9#8] }), [9#8], 1, by decide +kernel⟩,
   ⟨HC 3, by decide +kernel⟩,
   ⟨HS (fun p => { p with crcSecond := 1000 }), by decide +kernel⟩⟩

theorem test_met_CanCarrier :
    (∃ (s : State) (header : List Byte), (header.length = 5 ∧ headerOp header = 0x12) ∧ Ready s.blk .can ∧ (∀ x, s.blk.host.can.last =
      some x → x.1 ≠ header)) ∧
    (∃ (s : State) (l : List Byte), s.blk.canSends = true ∧ ((checkMessage false l).whole && (checkMessage false l).headerOk &&
      (checkMessage false l).dataOk) = false) ∧
    (∃ (s : State) (l : List Byte) (rest : List (List Byte)), s.blk.canSends = true ∧ s.blk.host.alarms = l :: rest) ∧
    (∃ (s : State) (c : StreamClass) (x : Nat × List (List Byte)), s.blk.canSends = true ∧ s.blk.host.fragments.find? (fun y => y.1 ==
      codeOf c) = some x) ∧
    (∃ (s : State), s.blk.awake = true ∧ s.blk.isHead = true ∧ s.blk.get Ob.canStatusErrorState = canBusOff ∧ s.blk.mustBeSilent = false) ∧
    (∃ (s : State), s.blk.awake = true ∧ s.blk.isHead = true ∧ s.blk.get Ob.canStatusErrorState = canBusOff ∧ s.blk.mustBeSilent = true) ∧
    (∃ (s : State), s.blk.awake = true ∧ s.blk.isHead = true ∧ s.blk.host.canPending = true) ∧
    (∃ (s : State), s.blk.canHears = true) ∧
    (∃ (s : State), s.blk.canHears = true ∧ 247 < s.blk.nat Ob.canStatusTxErrors) ∧
    (∃ (s : State), s.blk.canHears = true) :=
  ⟨⟨HC 3, attn, by decide +kernel, ready_sound (by decide +kernel), none_of (by decide +kernel)⟩,
   ⟨HC 3, [1#8], by decide +kernel⟩,
   ⟨up (HC 3) fun b => b.withHost { b.host with alarms := [[1#8], [2#8]] }, [1#8], [[2#8]], by decide +kernel⟩,
   ⟨up (HC 3) fun b => b.withHost { b.host with fragments := [(3, [[1#8], [2#8]])] }, .temps, (3, [[1#8], [2#8]]), by decide +kernel⟩,
   ⟨up (HC 3) fun b => b.putAll [(Ob.canStatusErrorState, 3), (Ob.canStatusTxErrors, 9)], by decide +kernel⟩,
   ⟨up (HC 3) fun b => (b.put Ob.canStatusErrorState 3).withHost { b.host with canInForce := [0, 0, 0, 0, 0, 0, 0, 0, 1] },
    by decide +kernel⟩,
   ⟨up (HC 3) fun b => b.withHost { b.host with canPending := true }, by decide +kernel⟩,
   ⟨HC 3, by decide +kernel⟩,
   ⟨up (HC 3) fun b => b.putAll [(Ob.canStatusErrorState, 2), (Ob.canStatusTxErrors, 248)], by decide +kernel⟩,
   ⟨HC 3, by decide +kernel⟩⟩

theorem test_met_ExpeditedTransfers :
    (∃ (s : State) (seq : Nat) (ix : Nat) (sub : Nat), ix ≠ 0x7000 ∧ Listens s.blk seq ∧ ∃ l, s.blk.commanded.readBytes s.flash ix sub =
      .ok l ∧ l.length ≤ 4) ∧
    (∃ (s : State) (seq : Nat) (ix : Nat) (sub : Nat), Listens s.blk seq ∧ ∃ l, s.blk.commanded.readBytes s.flash ix sub = .ok l ∧ (ix =
      0x7000 ∨ 4 < l.length)) ∧
    (∃ (s : State) (c : Carrier) (ix : Nat) (sub : Nat), (ix < 65536 ∧ sub < 256 ∧ ix ≠ 0x7000) ∧ Ready s.blk c ∧ ∃ l, (s.blk.begun c
      (s.blk.nextHeader c 1 0 ix sub) []).readBytes s.flash ix sub = .ok l ∧ l.length ≤ 4) ∧
    (∃ (s : State) (c : Carrier) (ix : Nat) (sub : Nat), (ix < 65536 ∧ sub < 256) ∧ Ready s.blk c ∧ ∃ l, (s.blk.begun c (s.blk.nextHeader
      c 1 0 ix sub) []).readBytes s.flash ix sub = .ok l ∧ (ix = 0x7000 ∨ 4 < l.length)) ∧
    (∃ (s : State) (seq : Nat) (ix : Nat) (sub : Nat) (data : List Byte), ix ≠ 0x1F00 ∧ Listens s.blk seq ∧ ∃ o,
      s.blk.commanded.disarm.writeTarget ix sub = .ok o ∧ data.length ≠ s.blk.commanded.disarm.writeSize o sub) ∧
    (∃ (s : State) (seq : Nat) (ix : Nat) (sub : Nat) (data : List Byte), (ix ≠ 0x1F00 ∧ 4 < data.length) ∧ Listens s.blk seq ∧ ∃ o,
      s.blk.commanded.disarm.writeTarget ix sub = .ok o ∧ True) ∧
    (∃ (s : State) (seq : Nat) (sub : Nat) (data : List Byte), data.length ≠ 2 ∧ Listens s.blk seq ∧ ∃ o, s.blk.commanded.writeTarget
      0x1F00 sub = .ok o ∧ True) ∧
    (∃ (s : State) (c : Carrier) (ix : Nat) (sub : Nat) (data : List Byte), (ix ≠ 0x1F00 ∧ ix < 65536 ∧ sub < 256 ∧ 1 ≤ data.length ∧
      data.length ≤ 4) ∧ Ready s.blk c ∧ ∃ o, (let b := (s.blk.begun c (s.blk.nextHeader c 2 0 ix sub) data).disarm;
      b.writeTarget ix sub = .ok o ∧ data.length ≠ b.writeSize o sub)) :=
  ⟨⟨NL, 7, 0x1003, 0, by decide +kernel, listens_sound (by decide +kernel), ok_of (by decide +kernel)⟩,
   ⟨NL, 7, 0x7000, 0, listens_sound (by decide +kernel), ok_of (by decide +kernel)⟩,
   ⟨HC 3, .spi, 0x1003, 0, by decide +kernel, ready_sound (by decide +kernel), ok_of (by decide +kernel)⟩,
   ⟨HC 3, .can, 0x3009, 0xFF, by decide +kernel, ready_sound (by decide +kernel), ok_of (by decide +kernel)⟩,
   ⟨NL, 7, 0x1003, 0, bytesOf 5 0, by decide +kernel, listens_sound (by decide +kernel), ok_of (by decide +kernel)⟩,
   ⟨NL, 7, 0x1003, 0, bytesOf 5 0, by decide +kernel, listens_sound (by decide +kernel), ok_of (by decide +kernel)⟩,
   ⟨up N (fun b => b.putAll [(Ob.portStatusDlState, 4), (Ob.portStatusDuState, 4), (Ob.position, 3)]), 7, 0, bytesOf 1 0,
    by decide +kernel, listens_sound (by decide +kernel), ok_of (by decide +kernel)⟩,
   ⟨HC 3, .spi, 0x1003, 0, bytesOf 4 0, by decide +kernel, ready_sound (by decide +kernel), (findObj 0x1003).getD ⟨0, .simple, []⟩,
    by decide +kernel⟩⟩

theorem test_met_AbsentFeature :
    (∃ (s : State) (seq : Nat) (ix : Nat), (s.blk.fuses.variantX = false ∧ 0x4000 ≤ ix ∧ ix ≤ 0x402F) ∧ Listens s.blk seq) ∧
    (∃ (s : State) (seq : Nat) (ix : Nat), (s.blk.fuses.variantX = false ∧ 0x4000 ≤ ix ∧ ix ≤ 0x402F) ∧ Listens s.blk seq) ∧
    (∃ (s : State) (seq : Nat) (ix : Nat), (s.blk.fuses.variantX = false ∧ 0x4000 ≤ ix ∧ ix ≤ 0x402F) ∧ Listens s.blk seq) ∧
    (∃ (s : State) (seq : Nat) (ix : Nat), (s.blk.fuses.variantX = false ∧ 0x4000 ≤ ix ∧ ix ≤ 0x402F) ∧ Listens s.blk seq) ∧
    (∃ (s : State) (ix : Nat), s.blk.awake = true ∧ s.blk.fuses.variantX = false ∧ 0x4000 ≤ ix ∧ ix ≤ 0x402F) ∧
    (∃ (s : State) (c : Carrier) (ix : Nat) (sub : Nat), (s.blk.fuses.variantX = false ∧ 0x4000 ≤ ix ∧ ix ≤ 0x402F ∧ sub < 256) ∧ Ready
      s.blk c) ∧
    (∃ (s : State) (c : Carrier) (ix : Nat) (sub : Nat) (data : List Byte), (s.blk.fuses.variantX = false ∧ 0x4000 ≤ ix ∧ ix ≤ 0x402F ∧
      sub < 256 ∧ 1 ≤ data.length ∧ data.length ≤ 4) ∧ Ready s.blk c) ∧
    (∃ (s : State) (c : Carrier) (ix : Nat) (sub : Nat) (length : Nat), (s.blk.fuses.variantX = false ∧ 0x4000 ≤ ix ∧ ix ≤ 0x402F ∧ sub <
      256 ∧ length < 65536) ∧ Ready s.blk c) ∧
    (∃ (s : State) (c : Carrier) (ix : Nat) (sub : Nat) (x : HostTransfer), (s.blk.fuses.variantX = false ∧ (s.blk.hostPort c).transfer =
      some x ∧ x.writing = true ∧ x.position = 0 ∧ x.data.length = x.length ∧ x.length < 65536 ∧ 0x4000 ≤ x.ix ∧ x.ix ≤ 0x402F ∧ ix < 65536
      ∧ sub < 256) ∧ Ready s.blk c) :=
  ⟨⟨NS, 7, 0x4000, by decide +kernel, listens_sound (by decide +kernel)⟩,
   ⟨NS, 7, 0x402F, by decide +kernel, listens_sound (by decide +kernel)⟩,
   ⟨NS, 7, 0x402F, by decide +kernel, listens_sound (by decide +kernel)⟩,
   ⟨NS, 7, 0x4000, by decide +kernel, listens_sound (by decide +kernel)⟩,
   ⟨NS, 0x402F, by decide +kernel⟩,
   ⟨HX .spi, .spi, 0x4000, 0, by decide +kernel, ready_sound (by decide +kernel)⟩,
   ⟨HX .can, .can, 0x402F, 0, [1#8], by decide +kernel, ready_sound (by decide +kernel)⟩,
   ⟨HX .spi, .spi, 0x4000, 0, 9, by decide +kernel, ready_sound (by decide +kernel)⟩,
   ⟨HX .can, .can, 0x402F, 0, ⟨0, 0x4000, 0, true, [1#8, 2#8], 2, 1, none, 0, 0⟩, by decide +kernel, ready_sound (by decide +kernel)⟩⟩

theorem test_met_ThresholdTies :
    (∃ (s : State) (sub : Nat) (data : List Byte), s.blk.awake = true ∧ BreaksTies s.blk.disarm sub data longest) ∧
    (∃ (s : State) (seq : Nat) (sub : Nat) (data : List Byte), Listens s.blk seq ∧ BreaksTies s.blk.disarm sub data 4) ∧
    (∃ (s : State) (seq : Nat) (x : Transfer), (s.blk.access.transfer = some x ∧ x.requester = .chain ∧ x.writing = true ∧ x.data.length =
      x.length ∧ x.ix = 0x1004) ∧ Listens s.blk seq ∧ BreaksTies s.blk.disarm x.sub x.data longest) ∧
    (∃ (s : State) (c : Carrier) (sub : Nat) (data : List Byte), (sub < 256 ∧ 1 ≤ data.length ∧ data.length ≤ 4) ∧ Ready s.blk c ∧
      BreaksTies s.blk.disarm sub data 4) ∧
    (∃ (s : State) (c : Carrier) (ix : Nat) (sub : Nat) (x : HostTransfer), (ix < 65536 ∧ sub < 256 ∧ (s.blk.hostPort c).transfer = some x
      ∧ x.writing = true ∧ x.position = 0 ∧ x.data.length = x.length ∧ x.ix = 0x1004 ∧ (s.blk.access.restart c.requester).transfer = none) ∧
      Ready s.blk c ∧ BreaksTies s.blk.disarm x.sub x.data longest) :=
  ⟨⟨NL, 1, bytesOf 2 2500, by decide +kernel, ties_sound (by decide +kernel)⟩,
   ⟨NL, 7, 2, bytesOf 2 3650, listens_sound (by decide +kernel), ties_sound (by decide +kernel)⟩,
   ⟨T tieWrite, 7, tieWrite, by decide +kernel, listens_sound (by decide +kernel), ties_sound (by decide +kernel)⟩,
   ⟨HC 3, .spi, 3, bytesOf 2 0xFED4, by decide +kernel, ready_sound (by decide +kernel), ties_sound (by decide +kernel)⟩,
   ⟨HT .can hostTieWrite, .can, 1, 2, hostTieWrite, by decide +kernel, ready_sound (by decide +kernel), ties_sound (by decide +kernel)⟩⟩

theorem test_met_SpiReads :
    (∃ (s : State) (message : List Byte) (clocked : Nat), s.blk.carrierOpen .spi = true ∧ s.blk.host.spi.slot = some message ∧ 0 <
      clocked) ∧
    (∃ (s : State) (clocked : Nat), s.blk.carrierOpen .spi = true ∧ s.blk.host.spi.slot = none ∧ 0 < clocked) ∧
    (∃ (s : State) (message : List Byte) (clocked : Nat), s.blk.carrierOpen .spi = true ∧ s.blk.host.spi.slot = some message ∧ 0 < clocked
      ∧ s.blk.isHead = true) :=
  ⟨⟨HS (fun p => { p with slot := some [9#8] }), [9#8], 1, by decide +kernel⟩,
   ⟨HC 3, 1, by decide +kernel⟩,
   ⟨HS (fun p => { p with slot := some [9#8] }), [9#8], 5, by decide +kernel⟩⟩

theorem test_met_StepsGoOn :
    (∃ (s : State), s.pending = [] ∧ s.blk.awake = false) ∧
    (∃ (s : State), s.pending = [] ∧ s.blk.awake = true ∧ s.blk.tb.us < 2 ^ 48 ∧ s.blk.tb.sub < 399) ∧
    (∃ (s : State), s.pending = [] ∧ s.blk.awake = true ∧ s.blk.tb.us < 2 ^ 48 ∧ s.blk.tb.sub = 399) ∧
    (∃ (c : Instr) (s : State), (c ≠ .sectorEraseComplete ∧ c ≠ .nvmPageProgram ∧ c ≠ .thermalShutdown) ∧ ∃ t, exec c s = .next t) :=
  ⟨⟨State.reset, by decide +kernel⟩,
   ⟨up NL fun b => b.withTb { b.tb with us := 5, sub := 398 }, by decide +kernel⟩,
   ⟨up NL fun b => b.withTb { b.tb with us := 2 ^ 48 - 1, sub := 399 }, by decide +kernel⟩,
   ⟨.bleedConfirmation 4 1000000 10, up M fun b => b.editCh 4 fun c => { c with suspicion := some .lowMeter, on := true },
    by decide +kernel, ⟨after _ _, goes_next (by decide +kernel)⟩⟩⟩

theorem test_met_FlashCanonical :
    (∃ (s : State), Flash.wf s.flash = true ∧ ∃ t, step s = .next t) :=
  ⟨{ written false 0 .save with pending := [.sectorEraseComplete] }, by decide +kernel, ⟨stepped _, stepGoes_next (by decide +kernel)⟩⟩

theorem test_met_DictionaryCanonical :
    (∃ (s : State), Dict.wf s.blk.dict = true ∧ ∃ t, step s = .next t) :=
  ⟨{ N with pending := [.dictionaryWrite 0x1003 0 (bytesOf 2 30)] }, by decide +kernel, ⟨stepped _, stepGoes_next (by decide +kernel)⟩⟩

theorem test_met_TimebaseInRange :
    (∃ (s : State), (s.blk.tb.us < 2 ^ 48 ∧ s.blk.tb.sub < 400) ∧ ∃ t, step s = .next t) :=
  ⟨up NL fun b => b.withTb { b.tb with us := 2 ^ 48 - 1, sub := 399 }, by decide +kernel, ⟨stepped _, stepGoes_next (by decide +kernel)⟩⟩

theorem test_met_FactoryRecordKept :
    (∃ (s : State), ∃ t, step s = .next t) :=
  ⟨{ N with pending := [.dictionaryWrite 0x1003 0 (bytesOf 2 30)] }, ⟨stepped _, stepGoes_next (by decide +kernel)⟩⟩

theorem test_met_UnlockOnlyInStandby :
    (∃ (s : State), (s.blk.get Ob.unlockState ≠ 0 → s.blk.power.mode = .standby) ∧ ∃ t, step s = .next t) :=
  ⟨{ N with pending := [.unlockArm] }, by decide +kernel, ⟨stepped _, stepGoes_next (by decide +kernel)⟩⟩

theorem test_met_InterlockKept :
    (∃ (s : State), s.blk.NeighboursOff ∧ ∃ t, step s = .next t) :=
  ⟨{ up M (fun b => b.editCh 4 fun c => { c with on := true }) with pending := [.governorTick 900 .onTime [] []] }, neighbours_sound
    (by decide +kernel), ⟨stepped _, stepGoes_next (by decide +kernel)⟩⟩

theorem test_met_FrameOfMeasurement :
    (∃ (c : Instr) (s : State), inMeasuring c = true ∧ ∃ t, exec c s = .next t) ∧
    (∃ (c : Instr) (s : State), inGoverning c = true ∧ ∃ t, exec c s = .next t) ∧
    (∃ (c : Instr) (s : State), inAnalysing c = true ∧ ∃ t, exec c s = .next t) :=
  ⟨⟨.auxSlot 0 1 (List.replicate 64 900) (List.replicate 129 900) false, warm, by decide +kernel, ⟨after _ _, goes_next
    (by decide +kernel)⟩⟩,
   ⟨.governorTick 900 .onTime [] [], M, by decide +kernel, ⟨after _ _, goes_next (by decide +kernel)⟩⟩,
   ⟨.activeSequenceStart 600000000, X, by decide +kernel, ⟨after _ _, goes_next (by decide +kernel)⟩⟩⟩

theorem test_met_FrameOfLink :
    (∃ (c : Instr) (s : State), inTiming c = true ∧ ∃ t, exec c s = .next t) ∧
    (∃ (c : Instr) (s : State), inRelaying c = true ∧ ∃ t, exec c s = .next t) ∧
    (∃ (c : Instr) (s : State), inStreaming c = true ∧ ∃ t, exec c s = .next t) ∧
    (∃ (c : Instr) (s : State), inServing c = true ∧ ∃ t, exec c s = .next t) :=
  ⟨⟨.syncMissing 9, up M aligned, by decide +kernel, ⟨after _ _, goes_next (by decide +kernel)⟩⟩,
   ⟨.frameForward fr, NL, by decide +kernel, ⟨after _ _, goes_next (by decide +kernel)⟩⟩,
   ⟨.volts 9, NL, by decide +kernel, ⟨after _ _, goes_next (by decide +kernel)⟩⟩,
   ⟨.read 7 0x1003 0, NL, by decide +kernel, ⟨after _ _, goes_next (by decide +kernel)⟩⟩⟩

theorem test_met_FrameOfSurroundings :
    (∃ (c : Instr) (s : State), inHosting c = true ∧ ∃ t, exec c s = .next t) ∧
    (∃ (c : Instr) (s : State), inGuarding c = true ∧ ∃ t, exec c s = .next t) ∧
    (∃ (c : Instr) (s : State), inWaking c = true ∧ ∃ t, exec c s = .next t) ∧
    (∃ (c : Instr) (s : State), leavesDict c = true ∧ ∃ t, exec c s = .next t) ∧
    (∃ (port : Port) (extended : Bool) (at' : Nat) (slept : Nat) (s : State), ∃ t, exec (.wakeTone port extended at' slept) s = .next t) ∧
    (∃ (entry : Fin 4) (s : State), ∃ t, exec (.ambientPairingTimeout entry) s = .next t) ∧
    (∃ (seq : Nat) (ix : Nat) (sub : Nat) (n : Nat) (s : State), ∃ t, exec (.segRead seq ix sub n) s = .next t) ∧
    (∃ (seq : Nat) (ix : Nat) (sub : Nat) (n : Nat) (data : List Byte) (s : State), ∃ t, exec (.segWrite seq ix sub n data) s = .next t) :=
  ⟨⟨.ignoredFrame, HC 3, by decide +kernel, ⟨after _ _, goes_next (by decide +kernel)⟩⟩,
   ⟨.memoryError 3 9 true, M, by decide +kernel, ⟨after _ _, goes_next (by decide +kernel)⟩⟩,
   ⟨.wakeEvent .toneDl 5, node .sleep, by decide +kernel, ⟨after _ _, goes_next (by decide +kernel)⟩⟩,
   ⟨.vin5Good, stage .awaitVin5 0, by decide +kernel, ⟨after _ _, goes_next (by decide +kernel)⟩⟩,
   ⟨.dl, false, 5, 5, NL, ⟨after _ _, goes_next (by decide +kernel)⟩⟩,
   ⟨0, up E fun b => b.editEntry 0 fun e => { e with waiting := [iv] }, ⟨after _ _, goes_next (by decide +kernel)⟩⟩,
   ⟨7, 0x1003, 0, 0, NL, ⟨after _ _, goes_next (by decide +kernel)⟩⟩,
   ⟨7, 0x1003, 0, 0, [1#8], NL, ⟨after _ _, goes_next (by decide +kernel)⟩⟩⟩

/-! ### Well-formed commands: a term that each check refuses, beside one that it takes -/

theorem test_wf_instant : wellFormed (.syncMissing (2 ^ 48)) = false ∧ wellFormed (.syncMissing (2 ^ 48 - 1)) = true := by decide +kernel

theorem test_wf_stamp : wellFormed (.sync 0 (2 ^ 48 * 1000000)) = false ∧ wellFormed (.sync 0 (2 ^ 48 * 1000000 - 1)) = true := by
  decide +kernel

theorem test_wf_duration : wellFormed (.wakeEvent .toneDl (2 ^ 32)) = false ∧ wellFormed (.wakeEvent .toneDl (2 ^ 32 - 1)) = true := by
  decide +kernel

theorem test_wf_byte : wellFormed (.trigger .spi 256) = false ∧ wellFormed (.trigger .spi 255) = true := by decide +kernel

theorem test_wf_word : wellFormed (.unlockClear 65536) = false ∧ wellFormed (.unlockClear 65535) = true := by decide +kernel

theorem test_wf_index : wellFormed (.read 0 65536 0) = false ∧ wellFormed (.read 0 65535 0) = true := by decide +kernel

theorem test_wf_sub : wellFormed (.read 0 0 256) = false ∧ wellFormed (.read 0 0 255) = true := by decide +kernel

theorem test_wf_data : wellFormed (.save (List.replicate 4097 0#8)) = false ∧ wellFormed (.save (List.replicate 4096 0#8)) = true := by
  decide +kernel

theorem test_wf_position : wellFormed (.commandTimeout 64) = false ∧ wellFormed (.commandTimeout 63) = true := by decide +kernel

theorem test_wf_lanes : wellFormed (.sleepBalanceSecond (List.replicate 36 0)) = false ∧
    wellFormed (.sleepBalanceSecond (List.replicate 37 0)) = true := by decide +kernel

theorem test_wf_slices : wellFormed (.housekeepingRound 0 (List.replicate 73 0)) = false ∧
    wellFormed (.housekeepingRound 0 (List.replicate 74 0)) = true := by decide +kernel

theorem test_wf_engines : wellFormed (.engineLoadMeasurement [1, 2]) = false ∧
    wellFormed (.engineLoadMeasurement [1, 2, 3, 4, 5, 6, 7, 8]) = true := by decide +kernel

theorem test_wf_cells : wellFormed (.openWireRepeat (List.replicate 33 0) []) = false ∧
    wellFormed (.openWireRepeat (List.replicate 32 0) []) = true := by decide +kernel

theorem test_wf_pins : wellFormed (.crossingConfirmation [] (List.replicate 9 0) 0) = false ∧
    wellFormed (.crossingConfirmation [] (List.replicate 8 0) 0) = true := by decide +kernel

theorem test_wf_positions : wellFormed (.delays false (List.replicate 64 0)) = false ∧
    wellFormed (.delays false (List.replicate 63 0)) = true := by decide +kernel

theorem test_wf_image : wellFormed (.chainConfig (List.replicate 55 0#8)) = false ∧
    wellFormed (.chainConfig (List.replicate 56 0#8)) = true := by decide +kernel

theorem test_wf_keeper : wellFormed (.keeperRecord (List.replicate 111 0#8) 0) = false ∧
    wellFormed (.keeperRecord (List.replicate 112 0#8) 0) = true := by decide +kernel

/-! ### Reset, the queue, and words that spell no command -/

/-- Nothing is commanded: the block stays in Sleep (R80, R100). -/
theorem test_reset_idles : step State.reset = .next (stepped State.reset) ∧ stepped State.reset = State.reset :=
  ⟨stepGoes_next (by decide +kernel), by decide +kernel⟩

/-- The command in front runs, and the rest of the queue waits. -/
theorem test_step_takes_the_front : (stepped { N with pending := [.unlockArm, .unlockExpiry] }).blk.get Ob.unlockState = 1 ∧
    (stepped { N with pending := [.unlockArm, .unlockExpiry] }).pending = [.unlockExpiry] := by decide +kernel

/-- The tick of an awake block: 400 sub-ticks to the microsecond (R108, R113). -/
theorem test_tick_wraps : (stepped (up NL fun b => b.withTb { b.tb with us := 2 ^ 48 - 1, sub := 399 })).blk.tb.us = 0 ∧
    (stepped (up NL fun b => b.withTb { b.tb with us := 2 ^ 48 - 1, sub := 399 })).blk.tb.sub = 0 := by decide +kernel

/-- No row of the table has bits. -/
theorem test_no_word_spells_a_command : decodeTableWord 16 0x1234 = none ∧ State.reset.withFetchWord 16 0x1234 = State.reset := by
  decide +kernel

/-! ### Power -/

/-- A wake event with VIN5 good, and the end of the boot (R92, R93). -/
theorem test_wake_event : (run (.wakeEvent .toneDl 5) (node .sleep)).power.stage = .awaitVin5 ∧
    (run .vin5Good (stage .awaitVin5 0)).power.stage = .rails := by decide +kernel

set_option maxRecDepth 100000 in
/-- The end of the boot is Standby (R93). -/
theorem test_boot_ends : (run (.engineBootComplete rep 5) (stage .booting 0)).power.mode = .standby := by decide +kernel

set_option maxRecDepth 100000 in
/-- R104: of the retained latches only the one that is lost is cleared, and 0xA1 is raised. -/
theorem test_boot_lost_latch :
    let s := up (stage .booting 0) fun b => b.putAll [(Ob.powerStateSafeHold, 3), (Ob.firstFaultSource, 7)]
    let b := run (.engineBootComplete { rep with lostLatches := [.firstFault] } 5) s
    b.get Ob.firstFaultSource = 0 ∧ b.get Ob.powerStateSafeHold = 3 ∧ b.flint.detections.map (·.source) = [0xA1] := by decide +kernel

/-- A STANDBY in Standby changes nothing (R83). -/
theorem test_standby_in_standby : (run .standby N).power.mode = .standby ∧ (run .standby N).get Ob.powerStatePending = 0 := by decide +kernel

/-! ### Clocks: the worked example after R120, of a node at position 5 (R118) -/

/-- A node of arrival delay 1,552.5 ns that a SYNC at this instant in us is announced to, in a timebase state. -/
def synced (timebase : Int) (at_ : Nat) : State := up M fun b =>
  ((b.putAll [(Ob.clockSourceTimebaseState, timebase), (Ob.clockSourceSource, 2), (Ob.hopDelayArrivalDelay, 1552500)]).withTb
    { b.tb with reference := some at_, us := at_ + 1 }).withLink { b.link with heldDelays := true }

/-- The first SYNC: 3 sub-ticks back at once, and ALIGNED. -/
theorem test_sync_aligns :
    (run (.sync 1000001 1000001560000) (synced 1 1000000)).get Ob.clockSourceLastCorrection = -7500 ∧
      (run (.sync 1000001 1000001560000) (synced 1 1000000)).tbState = tbAligned := by decide +kernel

/-- The third: 2 sub-ticks to slew. -/
theorem test_sync_slews :
    (run (.sync 1020001 1020001548700) (synced 2 1020000)).tb.slewLeft = 2 ∧
      (run (.sync 1010001 1010001553100) (synced 2 1010000)).tb.slewLeft = 0 := by decide +kernel

/-! ### Lanes, windows and captures -/

/-- The worked example after R144: 64 corrected samples with code 6 and shift 2. -/
theorem test_averager : averagerOut (32 * 139810 + 32 * 139812) 2 = 2236976 ∧ laneNanovolts 2236976 6 2 = 3300004959 := by decide +kernel

/-- The worked example after R161: frame 1,346 visits channel 3 (R158). -/
theorem test_shadow_frame_channel : M.blk.visited 1346 = 2 := by decide +kernel

/-- The worked example of R199. -/
theorem test_thermistor : ntcTemperature 10000 10000 3435 300 1000 = some 487 := by decide +kernel

/-- The worked example of R71, and the code of a channel with no value. -/
theorem test_compat_code : compatCode 3287456 = 0x806B ∧ compatCode (-120000) = 0 ∧ compatCode 5500000 = 0xD6D8 ∧
    compatCode noValue = 0xFFFF := by decide +kernel

/-- A SNAP in Standby publishes at once with STALE (R86, R197). -/
theorem test_snap_in_standby : (run (.snap 40 1000000) N).bit Ob.snapshotStatusTags tagStale = true ∧
    (run (.snap 40 1000000) N).get Ob.snapshotStatusSequence = 1 := by decide +kernel

/-! ### The charge governor and the states of charge -/

/-- A tick that E5 skips meters and decides nothing (R225). -/
theorem test_skipped_tick : ((run (.governorTick 900 .skipped (List.replicate 32 77) [])
      (up M fun b => b.editCh 4 fun c => { c with acc := 5, on := true })).chan 4).acc = 82 := by decide +kernel

/-- The worked example after R262: 55.00 % and 52.00 % join to 52.56 %, at 1.29 %. -/
theorem test_soc_estimates_join : fuse 5500 5200 300 143 = (5256, 129) := by decide +kernel

/-- The last second of a session timer closes its session as expired (R210, R211). -/
theorem test_session_expires :
    ((run (.sessionTimerSecond 4) (up M fun b => (b.put (chKey Ob.sessionTimer 4) 1).editCh 4 fun c => { c with state := 1 })).chan 4).state
      = 4 := by decide +kernel

/-! ### The link -/

/-- The worked example after R304, of the header of R301. -/
theorem test_frame_header : headerOf 1 40 1 4 0x1234 = 0x1A0C1234 := by decide +kernel

/-- The test value of R336. -/
theorem test_crc8 : crc8 [0#8] = 0x42 := by decide +kernel

/-- NextPosition of a CENSUS is the node's tentative position (R308). -/
theorem test_census_position : ((run (.census .dl 7 census3) NL).link.taken.map fun x => x.position) = some 3 := by decide +kernel

/-- A node between ring ends repeats a TEMPS pulse of 30 UI, and replaces one of 400 UI by ERROR (R280, R282). -/
theorem test_pulse_repeat : (run (.pulseRepeat .dl 30) NL).out = [.pulse .du .temps, .idle .du] ∧ (run (.pulseRepeat .dl 400) NL).out =
    [.held .du 400, .idle .du] := by decide +kernel

/-- A head that hears an ALARM pulls FLT_N low (R284). -/
theorem test_alarm_at_head : (run (.alarm .du 9) (HC 3)).flint.fltLow = true := by decide +kernel

/-! ### The dictionary and the host -/

/-- The worked example after R68: LaneAveraging 1 is admitted at 89 %, then a window of 1,000 us is not until the mode is RAW. -/
theorem test_admission :
    let b := M.blk.putAll [(Ob.tapCompensationMode, 1), (Ob.windowMode, 1), (Ob.windowLength, 2000), (Ob.laneAveragingCode, 1)]
    b.engineLoad 0 = 89 ∧ (b.put Ob.windowLength 1000).engineLoad 0 = 92 ∧
      ((b.put Ob.windowLength 1000).put Ob.tapCompensationMode 2).engineLoad 0 = 76 := by decide +kernel

/-- The worked example after R365: READ of 0x2010 sub 5 at position 12 as the third command of SPI. -/
theorem test_read_header :
    (HS (fun p => { p with last := some ([0x40#8, 0#8, 0#8, 0#8, 0#8], []) })).blk.nextHeader .spi 1 12 0x2010 5 =
      [0x81#8, 0x0C#8, 0x20#8, 0x10#8, 0x05#8] := by decide +kernel

/-- A write of a byte too many, of one too few, and of the right length (R45). -/
theorem test_write_lengths :
    (run (.dictionaryWrite 0x1003 0 (bytesOf 3 30)) N).out = [.answer (some 0x0607)] ∧
      (run (.dictionaryWrite 0x1003 0 (bytesOf 1 30)) N).out = [.answer (some 0x0606)] ∧
      (run (.dictionaryWrite 0x1003 0 (bytesOf 2 30)) N).out = [.answer none] := by decide +kernel

/-! ### Faults, journal and checks -/

/-- The worked example after R382: three detections of one cycle, recorded by ascending source, with the lowest as the first fault. -/
theorem test_brown_out :
    let b := run .faultRegistration (up M fun b => ((b.raise 0x86 120).raise 0xA4 3).raise 0x85 1)
    b.flint.fifo.map (fun e => e.source) = [0x85, 0x86, 0xA4] ∧ b.get Ob.firstFaultSource = 0x85 := by decide +kernel

/-- The test value of R437. -/
theorem test_check_unit : crcFeed 0xFFFFFFFF [0x31#8, 0x32#8, 0x33#8, 0x34#8, 0x35#8, 0x36#8, 0x37#8, 0x38#8, 0x39#8] = 0x1CF96D7C := by
  decide +kernel

/-- The worked example of R437: a write of 16 to CellCount after RestoreDefaults. -/
theorem test_check_config :
    (run (.dictionaryWrite 0x1011 0 [16#8]) (up N fun b => (b.put Ob.unlockState 2).put Ob.checkCfg 0xFFFFFFFF)).nat Ob.checkCfg
      = 0x9B412D9E := by decide +kernel

/-- A sector reads all ones after its erase, and a page is in the memory after its program (R440). -/
theorem test_erase_and_program :
    Flash.read 0x6001 (after .sectorEraseComplete (written false 0 .save)).flash = 255#8 ∧
      Flash.read 0x6100 (after .nvmPageProgram (written true 1 .save)).flash = 5#8 := by decide +kernel

/-- UNLOCKED needs both writes in order (R442). -/
theorem test_unlock : (run .unlockConfirm (after .unlockArm N)).get Ob.unlockState = 2 ∧ (run .unlockConfirm N).get Ob.unlockState = 0 := by
  decide +kernel

/-- The SYNC after the last of the count leaves at chain time 0 (R114, R116). -/
theorem test_next_sync_wraps : nextSyncAt (2 ^ 48 - 656) = 0 ∧ nextSyncAt 9999 = 10000 := by decide +kernel

/-- A COMMAND frame of an operation that no carrier defines is answered 0x060F (R45, R317). -/
theorem test_unknown_operation :
    ((run (.frameReceive .dl (0, 0) (.whole, frameOf (headerOf 2 3 0 0 7) (commandPayload 9 0x1003 0 0 0 []))) NL).link.own.map fun r => r.payload)
      = [responsePayload 9 0x1003 0 (.refuse 0x060F 0 0)] := by decide +kernel

/-- A probe sweep counts its probes: the third of four sweeps' returns is the node's at position 3 (R313). -/
theorem test_probe_is_mine : (up NL fun b => b.withLink { b.link with sweep := some ⟨.du, 4, 5, 2⟩ }).blk.countProbe =
    (true, some ⟨.du, 4, 5, 3⟩) := by decide +kernel

end

end Sys2Proof.Tests
end

section
/-! ### What every operation keeps

No operation of the model writes the fuses or the factory record, takes the dictionary out of its canonical form, or takes chain
time out of its range. This is said once per operation, in the order of the model: if b keeps what an earlier block a had, then so
does the operation's result. A step inherits it. -/

namespace Sys2Proof.Machine

/-- The range of the timebase: 48 bits of microseconds, 400 sub-ticks of 2.5 ns in each (R13, R113). -/
def Timebase.InRange (t : Timebase) : Prop := t.us < t48 ∧ t.sub < 400

/-- Block b keeps what block a had: its fuses, the canonical form of its dictionary, and a timebase in range. -/
structure Block.Keeps (a b : Block) : Prop where
  fuses : b.fuses = a.fuses
  dict : Dict.wf a.dict = true → Dict.wf b.dict = true
  tb : a.tb.InRange → b.tb.InRange

theorem Block.Keeps.refl (b : Block) : b.Keeps b := ⟨rfl, id, id⟩

/-- A timebase moved by whole sub-ticks wraps into its range (R113, R118). -/
theorem Timebase.move_inRange (t : Timebase) (ticks : Int) : (t.move ticks).InRange := by
  unfold Timebase.move Timebase.InRange
  have hx : (((t.ps : Int) + ticks * 2500) % wrapPs).toNat < 2 ^ 48 * 1000000 := by
    simp only [wrapPs]; omega
  generalize (((t.ps : Int) + ticks * 2500) % wrapPs).toNat = x at hx
  exact ⟨by simp only [t48]; omega, by dsimp only; omega⟩

/-- A timebase set to an instant wraps into its range (R113). -/
theorem Timebase.InRange.at {t : Timebase} (h : t.InRange) (us : Nat) : ({ t with us := us % t48 } : Timebase).InRange :=
  ⟨Nat.mod_lt _ (by norm_num), h.2⟩

variable {a b : Block}

/-! #### Branches and folds -/

theorem Block.Keeps.ite {c : Prop} [Decidable c] {x y : Block} (hx : a.Keeps x) (hy : a.Keeps y) : a.Keeps (if c then x else y) := by
  split
  · exact hx
  · exact hy

theorem Block.Keeps.foldl {α : Type} {f : Block → α → Block} (hf : ∀ b x, a.Keeps b → a.Keeps (f b x)) {l : List α} (h : a.Keeps b) :
    a.Keeps (l.foldl f b) := by
  induction l generalizing b with
  | nil => exact h
  | cons x l ih => exact ih (hf b x h)

/-! #### The parts of the package -/

/-- A timebase replaced by one in range. -/
theorem Block.Keeps.withTb (h : a.Keeps b) {v} (hv : b.tb.InRange → v.InRange) : a.Keeps (b.withTb v) :=
  ⟨h.fuses, h.dict, fun w => hv (h.tb w)⟩

/-- A timebase of which registers beside the count are replaced. -/
theorem Block.Keeps.withTbRest (h : a.Keeps b) {v} (hu : v.us = b.tb.us := by rfl) (hs : v.sub = b.tb.sub := by rfl) :
    a.Keeps (b.withTb v) :=
  h.withTb fun w => ⟨hu.trans_lt w.1, hs.trans_lt w.2⟩

/-- A dictionary replaced by one in canonical form. -/
theorem Block.Keeps.withDict (h : a.Keeps b) {v} (hv : Dict.wf a.dict = true → Dict.wf v = true) : a.Keeps (b.withDict v) :=
  ⟨h.fuses, hv, h.tb⟩

/-- Entries taken out of the dictionary. -/
theorem Block.Keeps.filterDict (h : a.Keeps b) {c p} (hc : a.Keeps c) : a.Keeps (b.withDict (c.dict.filter p)) :=
  h.withDict fun w => Dict.filter_wf p (hc.dict w)

theorem Block.Keeps.withPower (h : a.Keeps b) {v} : a.Keeps (b.withPower v) := ⟨h.fuses, h.dict, h.tb⟩
theorem Block.Keeps.withBedrock (h : a.Keeps b) {v} : a.Keeps (b.withBedrock v) := ⟨h.fuses, h.dict, h.tb⟩
theorem Block.Keeps.withJournal (h : a.Keeps b) {v} : a.Keeps (b.withJournal v) := ⟨h.fuses, h.dict, h.tb⟩
theorem Block.Keeps.withFlint (h : a.Keeps b) {v} : a.Keeps (b.withFlint v) := ⟨h.fuses, h.dict, h.tb⟩
theorem Block.Keeps.withNvm (h : a.Keeps b) {v} : a.Keeps (b.withNvm v) := ⟨h.fuses, h.dict, h.tb⟩
theorem Block.Keeps.withPhys (h : a.Keeps b) {v} : a.Keeps (b.withPhys v) := ⟨h.fuses, h.dict, h.tb⟩
theorem Block.Keeps.withGov (h : a.Keeps b) {v} : a.Keeps (b.withGov v) := ⟨h.fuses, h.dict, h.tb⟩
theorem Block.Keeps.withLanes (h : a.Keeps b) {v} : a.Keeps (b.withLanes v) := ⟨h.fuses, h.dict, h.tb⟩
theorem Block.Keeps.withWin (h : a.Keeps b) {v} : a.Keeps (b.withWin v) := ⟨h.fuses, h.dict, h.tb⟩
theorem Block.Keeps.withCap (h : a.Keeps b) {v} : a.Keeps (b.withCap v) := ⟨h.fuses, h.dict, h.tb⟩
theorem Block.Keeps.withKeeper (h : a.Keeps b) {v} : a.Keeps (b.withKeeper v) := ⟨h.fuses, h.dict, h.tb⟩
theorem Block.Keeps.withAux (h : a.Keeps b) {v} : a.Keeps (b.withAux v) := ⟨h.fuses, h.dict, h.tb⟩
theorem Block.Keeps.withImp (h : a.Keeps b) {v} : a.Keeps (b.withImp v) := ⟨h.fuses, h.dict, h.tb⟩
theorem Block.Keeps.withLink (h : a.Keeps b) {v} : a.Keeps (b.withLink v) := ⟨h.fuses, h.dict, h.tb⟩
theorem Block.Keeps.withAccess (h : a.Keeps b) {v} : a.Keeps (b.withAccess v) := ⟨h.fuses, h.dict, h.tb⟩
theorem Block.Keeps.withHost (h : a.Keeps b) {v} : a.Keeps (b.withHost v) := ⟨h.fuses, h.dict, h.tb⟩
theorem Block.Keeps.withDiag (h : a.Keeps b) {v} : a.Keeps (b.withDiag v) := ⟨h.fuses, h.dict, h.tb⟩
theorem Block.Keeps.withThermal (h : a.Keeps b) {v} : a.Keeps (b.withThermal v) := ⟨h.fuses, h.dict, h.tb⟩
theorem Block.Keeps.withChainSet (h : a.Keeps b) {v} : a.Keeps (b.withChainSet v) := ⟨h.fuses, h.dict, h.tb⟩
theorem Block.Keeps.withSocTable (h : a.Keeps b) {v} : a.Keeps (b.withSocTable v) := ⟨h.fuses, h.dict, h.tb⟩
theorem Block.Keeps.withTempCurve (h : a.Keeps b) {v} : a.Keeps (b.withTempCurve v) := ⟨h.fuses, h.dict, h.tb⟩
theorem Block.Keeps.withOut (h : a.Keeps b) {v} : a.Keeps (b.withOut v) := ⟨h.fuses, h.dict, h.tb⟩
theorem Block.Keeps.withFree (h : a.Keeps b) {v} : a.Keeps (b.withFree v) := ⟨h.fuses, h.dict, h.tb⟩

/-! #### Entries of the dictionary -/

theorem Block.Keeps.put (h : a.Keeps b) {k v} : a.Keeps (b.put k v) := h.withDict fun w => Dict.put_wf k v (h.dict w)
theorem Block.Keeps.countUp (h : a.Keeps b) {k n most} : a.Keeps (b.countUp k n most) := h.put
theorem Block.Keeps.count32 (h : a.Keeps b) {k} : a.Keeps (b.count32 k) := h.countUp
theorem Block.Keeps.putBit (h : a.Keeps b) {k i on} : a.Keeps (b.putBit k i on) := h.put
theorem Block.Keeps.putAll (h : a.Keeps b) {l} : a.Keeps (b.putAll l) := .foldl (fun _ _ h => h.put) h
theorem Block.Keeps.at (h : a.Keeps b) {t} : a.Keeps (b.at t) := h.withTb fun w => w.at t
theorem Block.Keeps.emit (h : a.Keeps b) {e} : a.Keeps (b.emit e) := h.withOut

/-! #### The journal -/

theorem Block.Keeps.journalWrite (h : a.Keeps b) {e sources} : a.Keeps (b.journalWrite e sources) :=
  .ite h.withJournal.count32 h.withJournal

theorem Block.Keeps.event (h : a.Keeps b) {code data} : a.Keeps (b.event code data) := h.journalWrite

/-! #### Flags and detections -/

theorem Block.Keeps.raise (h : a.Keeps b) {source data} : a.Keeps (b.raise source data) := h.withFlint
theorem Block.Keeps.raiseAtLeast (h : a.Keeps b) {source data c} : a.Keeps (b.raiseAtLeast source data c) := h.withFlint
theorem Block.Keeps.raiseExactly (h : a.Keeps b) {source data c} : a.Keeps (b.raiseExactly source data c) := h.withFlint
theorem Block.Keeps.reason (h : a.Keeps b) {r on} : a.Keeps (b.reason r on) := .ite h h.putBit.put
theorem Block.Keeps.followReasons (h : a.Keeps b) : a.Keeps b.followReasons := h.reason.reason.reason.reason
theorem Block.Keeps.dropLatch (h : a.Keeps b) {s} : a.Keeps (b.dropLatch s) := .ite h.putBit.withFlint h.putBit.withFlint.putAll
theorem Block.Keeps.clearLive (h : a.Keeps b) {s} : a.Keeps (b.clearLive s) := .ite (.followReasons (.ite h.putBit.dropLatch h.putBit)) h
theorem Block.Keeps.clearEveryLive (h : a.Keeps b) : a.Keeps b.clearEveryLive := .foldl (fun _ _ h => h.clearLive) h
theorem Block.Keeps.follow (h : a.Keeps b) {s data on} : a.Keeps (b.follow s data on) := .ite h.raise h.clearLive
theorem Block.Keeps.attend (h : a.Keeps b) {bit} : a.Keeps (b.attend bit) := .ite h.putBit h

/-! #### Shared operations -/

theorem Block.Keeps.editCh (h : a.Keeps b) {i f} : a.Keeps (b.editCh i f) := h.withGov
theorem Block.Keeps.noteSat (h : a.Keeps b) {k hit} : a.Keeps (b.noteSat k hit) := .ite h.withDiag h
theorem Block.Keeps.turnOn (h : a.Keeps b) {i o} : a.Keeps (b.turnOn i o) := h.editCh
theorem Block.Keeps.switchesOff (h : a.Keeps b) : a.Keeps b.switchesOff := h.withGov

theorem Block.Keeps.setSending (h : a.Keeps b) {p f} : a.Keeps (b.setSending p f) := by
  unfold Block.setSending
  split <;> exact h.withPhys

theorem Block.Keeps.sendHeld (h : a.Keeps b) {p e} : a.Keeps (b.sendHeld p e) := by
  unfold Block.sendHeld
  extract_lets _ b1
  have h1 : a.Keeps b1 := by
    unfold b1
    split <;> exact h.withPhys
  exact h1.emit.emit

theorem Block.Keeps.sendPulse (h : a.Keeps b) {p c} : a.Keeps (b.sendPulse p c) := h.sendHeld

theorem Block.Keeps.sendAlarm (h : a.Keeps b) : a.Keeps b.sendAlarm :=
  .ite h (.ite h.withPhys (.sendPulse (.withPhys (.setSending (.ite h.count32 h)))))

theorem Block.Keeps.setFlt (h : a.Keeps b) {low} : a.Keeps (b.setFlt low) := h.withFlint

theorem Block.Keeps.queueAlarm (h : a.Keeps b) {kind position cls source} : a.Keeps (b.queueAlarm kind position cls source) :=
  .ite h.withHost h

theorem Block.Keeps.enterSafe (h : a.Keeps b) {cls} : a.Keeps (b.enterSafe cls) := by
  unfold Block.enterSafe
  extract_lets
  exact .ite (.ite h.switchesOff.put.setFlt.put.sendAlarm.attend.queueAlarm h.switchesOff.put.setFlt.put.sendAlarm)
      h.switchesOff.put.setFlt

theorem Block.Keeps.firstFault (h : a.Keeps b) {s base eff data same} : a.Keeps (b.firstFault s base eff data same) := .ite h h.putAll
theorem Block.Keeps.latch (h : a.Keeps b) {s base eff data same} : a.Keeps (b.latch s base eff data same) := h.firstFault.putBit.withFlint

theorem Block.Keeps.capture (h : a.Keeps b) {s base eff data same esc} : a.Keeps (b.capture s base eff data same esc) :=
  .ite h.withFlint h.withFlint

theorem Block.Keeps.register (h : a.Keeps b) {earlier same base d} : a.Keeps (b.register earlier same base d) := by
  unfold Block.register
  extract_lets _ _ _ _ _ b2 b3 b4
  have h2 : a.Keeps b2 := .ite h.putBit.withNvm h.putBit
  have h3 : a.Keeps b3 := .ite h2.count32 h2
  have h4 : a.Keeps b4 := .ite h3.latch h3
  exact h4.capture

theorem Block.Keeps.repeatOf (h : a.Keeps b) {d} : a.Keeps (b.repeatOf d) := by
  unfold Block.repeatOf
  extract_lets
  split
  · exact .ite h.withFlint h
  · exact h.withJournal

theorem Block.Keeps.faultCycle (h : a.Keeps b) : a.Keeps b.faultCycle := by
  unfold Block.faultCycle
  extract_lets _ _ _ _ _ _ _ b2 b3 b4 b5
  have h2 : a.Keeps b2 := .foldl (fun _ _ h => h.register) h.withFlint
  have h3 : a.Keeps b3 := .foldl (fun _ _ h => h.repeatOf) h2
  have h4 : a.Keeps b4 := .ite h3.enterSafe h3
  have h5 : a.Keeps b5 := .foldl (fun _ _ h => .ite h.putBit h) h4
  exact h5.followReasons

theorem Block.Keeps.coalesce_fst (h : a.Keeps b) {e} : a.Keeps (b.coalesce e).1 := by
  unfold Block.coalesce
  split
  · exact h
  · extract_lets
    split
    · exact h.withJournal
    · exact h

theorem Block.Keeps.insertBurst (h : a.Keeps b) : a.Keeps b.insertBurst := by
  unfold Block.insertBurst
  split
  · exact h
  · exact h.withFlint.putBit.countUp

theorem Block.Keeps.drainOne (h : a.Keeps b) : a.Keeps b.drainOne := by
  unfold Block.drainOne
  split
  · exact h
  · exact .ite h.withFlint.insertBurst.coalesce_fst h.withFlint.insertBurst.journalWrite

theorem Block.Keeps.drainAll (h : a.Keeps b) : a.Keeps b.drainAll := .foldl (fun _ _ h => h.drainOne) h
theorem Block.Keeps.sendClose (h : a.Keeps b) : a.Keeps b.sendClose := .ite (.emit (.ite h.emit h)) (.ite h.emit h)
theorem Block.Keeps.heard (h : a.Keeps b) {p} : a.Keeps (b.heard p) := .ite h.withPower h
theorem Block.Keeps.disarm (h : a.Keeps b) : a.Keeps b.disarm := .ite h.put h
theorem Block.Keeps.closeTransfers (h : a.Keeps b) : a.Keeps b.closeTransfers := h.withAccess.withHost
theorem Block.Keeps.judgeDiag (h : a.Keeps b) : a.Keeps b.judgeDiag := .reason (.ite h h.withLanes)

/-! #### The schedule of the windows -/

theorem Block.Keeps.onWindows (h : a.Keeps b) {f} : a.Keeps (b.onWindows f) := h.withWin
theorem Block.Keeps.flagWindow (h : a.Keeps b) {bit} : a.Keeps (b.flagWindow bit) := h.withWin
theorem Block.Keeps.showNominal (h : a.Keeps b) : a.Keeps b.showNominal := h.put
theorem Block.Keeps.loadWindowSettings (h : a.Keeps b) : a.Keeps b.loadWindowSettings := .ite h.withWin.showNominal h.withWin

/-! #### A reset -/

/-- A fresh block has an empty dictionary and chain time 0. -/
theorem Block.Keeps.fresh (h : a.Keeps b) {mode} : a.Keeps (Block.fresh b.fuses mode) :=
  ⟨h.fuses, fun _ => rfl, fun _ => by norm_num [Block.fresh, Timebase.fresh, Timebase.InRange]⟩

/-! #### The charge governor -/

theorem Block.Keeps.publishCharge (h : a.Keeps b) {i} : a.Keeps (b.publishCharge i) := h.put.put
theorem Block.Keeps.saturated (h : a.Keeps b) {i} : a.Keeps (b.saturated i) := .ite h.putBit h.putBit.putBit.raise

theorem Block.Keeps.addCharge (h : a.Keeps b) {i q} : a.Keeps (b.addCharge i q) :=
  .ite h.editCh.publishCharge.saturated h.editCh.publishCharge

theorem Block.Keeps.endSession (h : a.Keeps b) {i state} : a.Keeps (b.endSession i state) := h.editCh

theorem Block.Keeps.targetWritten (h : a.Keeps b) {i mC} : a.Keeps (b.targetWritten i mC) := by
  unfold Block.targetWritten
  extract_lets
  exact .ite h.put (.ite h.put.endSession (.ite h.put.editCh.put.publishCharge
      (.ite h.put.endSession.putBit (.ite (.ite h.put.editCh h.put) h.put.editCh))))

theorem Block.Keeps.timerWritten (h : a.Keeps b) {i v} : a.Keeps (b.timerWritten i v) := .ite h.put.endSession h.put
theorem Block.Keeps.enableWritten (h : a.Keeps b) {v} : a.Keeps (b.enableWritten v) := .foldl (fun _ _ h => .ite h h.editCh) h.put
theorem Block.Keeps.judgePath (h : a.Keeps b) : a.Keeps b.judgePath := .ite h.reason h.reason.clearLive

theorem Block.Keeps.pathLimit (h : a.Keeps b) {i} : a.Keeps (b.pathLimit i) :=
  .ite (.ite h h.putBit.judgePath) (.ite h.putBit.reason.raise h)

theorem Block.Keeps.meterInterval (h : a.Keeps b) {i reading} : a.Keeps (b.meterInterval i reading) := .editCh (.ite h.onWindows h)

theorem Block.Keeps.updatePass (h : a.Keeps b) {i} : a.Keeps (b.updatePass i) := by
  unfold Block.updatePass
  extract_lets _ b1 _ _ _ _ b2 _ b3 b4
  have h1 : a.Keeps b1 := .ite h h.editCh.addCharge
  have h2 : a.Keeps b2 := .ite h1.editCh h1
  have h3 : a.Keeps b3 := .ite h2.saturated h2
  have h4 : a.Keeps b4 := .ite h3.editCh h3
  exact .ite h4.pathLimit.editCh h4.pathLimit

theorem Block.Keeps.slewTheta (h : a.Keeps b) : a.Keeps b.slewTheta := h.withGov.put.put

theorem Block.Keeps.tickLaw (h : a.Keeps b) : a.Keeps b.tickLaw := by
  unfold Block.tickLaw
  extract_lets _ _ b2 _ _ _ _ _ _ _ b3 b4 b5 b6
  have h2 : a.Keeps b2 := .foldl (fun _ _ h => h.updatePass) h.slewTheta
  have h3 : a.Keeps b3 := .foldl (fun _ _ h => h.putBit.putBit) h2
  have h4 : a.Keeps b4 := .foldl (fun _ _ h => .ite h.editCh h) h3
  have h5 : a.Keeps b5 := .foldl (fun _ _ h => h.turnOn) h4
  have h6 : a.Keeps b6 := .foldl (fun _ _ h => h.putBit) h5
  exact h6.withGov.withFree

theorem Block.Keeps.overrun (h : a.Keeps b) : a.Keeps b.overrun := .ite h.putBit.withGov.raise h.putBit.withGov

theorem Block.Keeps.overrunGone (h : a.Keeps b) : a.Keeps b.overrunGone := by
  unfold Block.overrunGone
  split
  · exact .ite h.clearLive h
  · exact h

theorem Block.Keeps.noteEdge (h : a.Keeps b) {i x} : a.Keeps (b.noteEdge i x) := .ite h h.withLanes.withImp.editCh
theorem Block.Keeps.noteEdges (h : a.Keeps b) {delays} : a.Keeps (b.noteEdges delays) := .foldl (fun _ _ h => h.noteEdge) h.withLanes
theorem Block.Keeps.feedStretches (h : a.Keeps b) {meter} : a.Keeps (b.feedStretches meter) := h.withImp.withLanes

theorem Block.Keeps.loseExcited (h : a.Keeps b) {near} : a.Keeps (b.loseExcited near) := by
  unfold Block.loseExcited
  split
  · exact h
  · exact .withImp (.foldl (fun _ _ h => h.editCh) h)

theorem Block.Keeps.holdSlot (h : a.Keeps b) {ch} : a.Keeps (b.holdSlot ch) := .foldl (fun _ _ h => h.editCh) h.loseExcited
theorem Block.Keeps.releaseSlot (h : a.Keeps b) : a.Keeps b.releaseSlot := h.withGov

theorem Block.Keeps.followSlot (h : a.Keeps b) : a.Keeps b.followSlot := by
  unfold Block.followSlot
  split
  · exact h
  · extract_lets _ _ b1
    have h1 : a.Keeps b1 := .ite h.editCh.noteEdge h
    exact .ite h (.ite h1.releaseSlot (.ite (.ite h.editCh.noteEdge h) (.ite h.turnOn.noteEdge h)))

theorem Block.Keeps.followConfirm (h : a.Keeps b) : a.Keeps b.followConfirm := by
  unfold Block.followConfirm
  extract_lets _ b1
  have h1 : a.Keeps b1 := by
    unfold b1
    split
    · exact .ite h.releaseSlot.withLanes h
    · exact h
  split
  · exact h1
  · split
    · exact h1
    · exact .ite h1 (.ite h1.holdSlot.withLanes.turnOn h1.holdSlot.withLanes)

theorem Block.Keeps.beginPause (h : a.Keeps b) : a.Keeps b.beginPause :=
  .foldl (fun _ _ h => .noteEdge (.ite h.editCh h)) (.ite h.releaseSlot.withLanes h)

theorem Block.Keeps.followPause (h : a.Keeps b) : a.Keeps b.followPause := .withGov (.ite h.beginPause h)
theorem Block.Keeps.meterPower (h : a.Keeps b) : a.Keeps b.meterPower := h.onWindows
theorem Block.Keeps.meterOnly (h : a.Keeps b) {i reading} : a.Keeps (b.meterOnly i reading) := h.editCh

theorem Block.Keeps.governorTick (h : a.Keeps b) {t timing meter delays} : a.Keeps (governorTick t timing meter delays b) := by
  unfold Machine.governorTick
  extract_lets _ _ b3 _ b4
  have h3 : a.Keeps b3 := .followConfirm (.meterPower (.foldl (fun _ _ h => h.meterInterval) h.at.followPause.followSlot.feedStretches))
  have h4 : a.Keeps b4 := by
    unfold b4
    split
    · exact .ite h3.overrun h3
    · exact h3.tickLaw.overrun
    · exact h3.tickLaw.withGov.overrunGone
  exact .ite h.at (.ite (.foldl (fun _ _ h => h.meterOnly) h.at) h4.noteEdges)

theorem Block.Keeps.learnPath (h : a.Keeps b) {i mA sumI sumV} : a.Keeps (b.learnPath i mA sumI sumV) :=
  .ite h.put.editCh.editCh.putBit.reason.raise h.put.editCh.editCh.judgePath

theorem Block.Keeps.learnChannel (h : a.Keeps b) {i} : a.Keeps (b.learnChannel i) := by
  unfold Block.learnChannel
  extract_lets _ _ _ _ _ b1
  have h1 : a.Keeps b1 := .ite h.learnPath h
  exact .ite h (.ite h1.editCh.putBit.reason.raise (.ite h1.editCh.putBit.judgePath h1.editCh))

theorem Block.Keeps.pathLearn (h : a.Keeps b) : a.Keeps (pathLearn b) := .ite h (.foldl (fun _ _ h => h.learnChannel) h)
theorem Block.Keeps.disable (h : a.Keeps b) {i} : a.Keeps (b.disable i) := .ite h.editCh.reason h

theorem Block.Keeps.bleedConfirmation (h : a.Keeps b) {i dropUv meter} : a.Keeps (bleedConfirmation i dropUv meter b) := by
  unfold Machine.bleedConfirmation
  extract_lets _ _ _ _ _ b2
  have h2 : a.Keeps b2 := .foldl (fun _ _ h => h.editCh) h.loseExcited
  split
  · exact h
  · split
    · exact h
    · extract_lets x5
      clear_value x5
      split
      · exact h2.withLanes.editCh
      · extract_lets b6
        have h6 : a.Keeps b6 := .ite (.foldl (fun _ _ h => h.disable) h2.withLanes.editCh) h2.withLanes.editCh.disable
        exact h6.raise

theorem Block.Keeps.freshnessTimeout (h : a.Keeps b) {i} : a.Keeps (freshnessTimeout i b) := .ite h.editCh.putBit.raise h
theorem Block.Keeps.interlockRefusal (h : a.Keeps b) {i} : a.Keeps (interlockRefusal i b) := h.editCh.count32.putBit
theorem Block.Keeps.sessionTimerSecond (h : a.Keeps b) {i} : a.Keeps (sessionTimerSecond i b) := .ite h (.ite h.put.endSession h.put)
theorem Block.Keeps.throttleLost (h : a.Keeps b) : a.Keeps b.throttleLost := h.withGov.put.putBit.reason

theorem Block.Keeps.thrPulseEdge (h : a.Keeps b) {t period high} : a.Keeps (thrPulseEdge t period high b) :=
  .ite h.at (.ite (.ite h.at.withGov.put (.ite h.at.withGov.put.reason h.at.withGov)) (.ite h.at.withGov.throttleLost h.at.withGov))

theorem Block.Keeps.throttleInputLost (h : a.Keeps b) : a.Keeps (throttleInputLost b) := .ite h.throttleLost h
theorem Block.Keeps.throttleSourceWritten (h : a.Keeps b) {v} : a.Keeps (b.throttleSourceWritten v) := h.put.withGov.put.reason
theorem Block.Keeps.seedPaths (h : a.Keeps b) {lo} : a.Keeps (b.seedPaths lo) := .foldl (fun _ _ h => h.put.editCh) h
theorem Block.Keeps.bleedResistorWritten (h : a.Keeps b) {v} : a.Keeps (b.bleedResistorWritten v) := h.put.seedPaths
theorem Block.Keeps.channelStateCleared (h : a.Keeps b) {i mask} : a.Keeps (b.channelStateCleared i mask) := h.put.judgePath
theorem Block.Keeps.governorFlagsCleared (h : a.Keeps b) {mask} : a.Keeps (b.governorFlagsCleared mask) := h.put
theorem Block.Keeps.sleepPlanRefresh (h : a.Keeps b) {t} : a.Keeps (sleepPlanRefresh t b) := .ite h.at.withGov h.at

theorem Block.Keeps.creditChannel (h : a.Keeps b) {i} : a.Keeps (b.creditChannel i) :=
  .ite h (.ite h.addCharge.put.putBit.editCh.editCh h.addCharge.put.putBit.editCh)

/-! #### Lanes -/

theorem Block.Keeps.editTerms (h : a.Keeps b) {k f} : a.Keeps (b.editTerms k f) := h.withLanes
theorem Block.Keeps.setHealth (h : a.Keeps b) {ch i on} : a.Keeps (b.setHealth ch i on) := h.putBit
theorem Block.Keeps.tapEstimate (h : a.Keeps b) {k est} : a.Keeps (b.tapEstimate k est) := .ite h h.put.put
theorem Block.Keeps.learnEdge (h : a.Keeps b) {c k e} : a.Keeps (b.learnEdge c k e) := .ite h (.ite h h.tapEstimate)

theorem Block.Keeps.learnTaps (h : a.Keeps b) {c} : a.Keeps (b.learnTaps c) :=
  .ite h (.foldl (fun _ _ h => .ite h.learnEdge (.ite h.learnEdge h)) h)

theorem Block.Keeps.followCompare (h : a.Keeps b) {source side rose} : a.Keeps (b.followCompare source side rose) :=
  .ite h.clearLive (.ite h.raise h)

theorem Block.Keeps.compareBlock (h : a.Keeps b) {ch v} : a.Keeps (b.compareBlock ch v) := by
  unfold Block.compareBlock
  split
  · exact h
  · extract_lets _ _ _ _ _ _ b2
    have h2 : a.Keeps b2 := .ite h.withLanes h.withLanes.followCompare
    exact .ite h2 h2.followCompare

theorem Block.Keeps.cellLimitRefresh (h : a.Keeps b) : a.Keeps (cellLimitRefresh b) := .ite h h.withLanes

theorem Block.Keeps.shortCheck (h : a.Keeps b) {kind place bad} : a.Keeps (b.shortCheck kind place bad) :=
  .ite (.ite h.withLanes h.withLanes.raise) (.ite (.ite h.withLanes.clearLive h.withLanes) h)

theorem Block.Keeps.lowCheck (h : a.Keeps b) {ch t uv} : a.Keeps (b.lowCheck ch t uv) := by
  unfold Block.lowCheck
  split
  · split
    · exact h.withLanes
    · exact .ite h.shortCheck h
  · exact h.withLanes.shortCheck

theorem Block.Keeps.spoil (h : a.Keeps b) {lo hi} : a.Keeps (b.spoil lo hi) := .ite h.withImp h
theorem Block.Keeps.keepForE6 (h : a.Keeps b) {ch x} : a.Keeps (b.keepForE6 ch x) := .ite h h.withImp

theorem Block.Keeps.takeEntry (h : a.Keeps b) {ch e} : a.Keeps (b.takeEntry ch e) := by
  unfold Block.takeEntry
  extract_lets
  exact .ite (.ite h.onWindows h) (.ite h.withLanes.noteSat.keepForE6.onWindows.learnTaps.lowCheck
      h.withLanes.noteSat.keepForE6.onWindows.learnTaps)

theorem Block.Keeps.dropBlock (h : a.Keeps b) {ch e} : a.Keeps (b.dropBlock ch e) := .raise (.withLanes (.ite h h.onWindows.spoil))
theorem Block.Keeps.setFifo (h : a.Keeps b) {ch q} : a.Keeps (b.setFifo ch q) := h.withLanes

theorem Block.Keeps.takeFifo (h : a.Keeps b) {ch l} : a.Keeps (b.takeFifo ch l) := by
  induction l generalizing b with
  | nil => exact h.setFifo
  | cons e t ih => exact .ite (ih h.takeEntry) h.setFifo

theorem Block.Keeps.offerEntry (h : a.Keeps b) {ch e} : a.Keeps (b.offerEntry ch e) :=
  .ite h.takeEntry (.ite h.dropBlock (.ite h.takeFifo h.setFifo))

theorem Block.Keeps.drainFifos (h : a.Keeps b) {engine} : a.Keeps (b.drainFifos engine) := .foldl (fun _ _ h => h.takeFifo) h
theorem Block.Keeps.takeMetered (h : a.Keeps b) : a.Keeps b.takeMetered := .ite h (.foldl (fun _ _ h => .ite h.drainFifos h) h)

theorem Block.Keeps.dropGone (h : a.Keeps b) : a.Keeps b.dropGone := by
  unfold Block.dropGone
  split
  · exact .ite h.withLanes.clearLive h
  · exact h

theorem Block.Keeps.deliverBlock (h : a.Keeps b) {ch e} : a.Keeps (b.deliverBlock ch e) := .offerEntry (.ite h h.compareBlock)

theorem Block.Keeps.laneBlock (h : a.Keeps b) {ch start own shadow} : a.Keeps (laneBlock ch start own shadow b) := by
  unfold Machine.laneBlock
  extract_lets _ _ _ _ _ b2
  have h2 : a.Keeps b2 := .ite h.at.dropGone.deliverBlock h.at.dropGone
  exact .ite h.at.dropGone (.ite (.ite h.at.dropGone.deliverBlock h.at.dropGone)
      (.ite (.ite h2.deliverBlock h2) (.ite h.at.dropGone.deliverBlock h.at.dropGone)))

theorem Block.Keeps.referenceCompare (h : a.Keeps b) {t codes} : a.Keeps (referenceCompare t codes b) := by
  unfold Machine.referenceCompare
  extract_lets _ _ _ _ _ b3
  have h3 : a.Keeps b3 := .ite h.at.put.put h.at.put
  exact .ite h.at (.ite h3.put.withLanes (.ite h3.put.put.withLanes.flagWindow.putBit.reason.raise h3.put))

theorem Block.Keeps.keepBoth (h : a.Keeps b) : a.Keeps b.keepBoth := h.withLanes.putBit.reason.raise
theorem Block.Keeps.loseShadow (h : a.Keeps b) : a.Keeps b.loseShadow := .ite h.putBit.reason.keepBoth h.putBit.reason

theorem Block.Keeps.loseLane (h : a.Keeps b) {k} : a.Keeps (b.loseLane k) := by
  unfold Block.loseLane
  split
  · exact .ite h.withLanes.setHealth.reason.loseShadow h.setHealth.reason
  · split
    · exact h.withLanes.putBit.putBit.reason
    · split
      · exact h.withLanes.putBit.reason
      · split
        · exact h.setHealth.reason.loseShadow
        · exact h.loseShadow

theorem Block.Keeps.failSlice (h : a.Keeps b) {k sliceB} : a.Keeps (b.failSlice k sliceB) := by
  unfold Block.failSlice
  extract_lets _ _ b2
  have h2 : a.Keeps b2 := .ite h.editTerms.setHealth h.editTerms
  exact .ite h (.ite (.ite h2.reason.loseLane.raiseAtLeast h2.reason.loseLane.raise) h2.reason.raise)

theorem Block.Keeps.publishCorrection (h : a.Keeps b) : a.Keeps b.publishCorrection := .foldl (fun _ _ h => h.setHealth) h.put.putBit

theorem Block.Keeps.correctionUpdate (h : a.Keeps b) {k gA gB oB skew badA badB meanDiff} :
    a.Keeps (correctionUpdate k gA gB oB skew badA badB meanDiff b) := by
  unfold Machine.correctionUpdate
  split
  · exact h
  · extract_lets _ _ _ _ _ _ _ _ _ b3 b4 _ _ b6
    have h3 : a.Keeps b3 := .ite h.editTerms.publishCorrection.failSlice h.editTerms.publishCorrection
    have h4 : a.Keeps b4 := .ite h3.failSlice h3
    have h6 : a.Keeps b6 := .ite h4.editTerms.setHealth h4.editTerms
    exact .ite h4 (.ite (.ite h4.failSlice (.ite h4.failSlice h4)) (.ite (.ite h4.failSlice (.ite h4.failSlice h6.raise)) h4))

theorem Block.Keeps.pinCheck (h : a.Keeps b) {pin start dropUv} : a.Keeps (b.pinCheck pin start dropUv) := by
  unfold Block.pinCheck
  extract_lets _ _ _ _ _ _ b2
  have h2 : a.Keeps b2 := .ite (.ite (.ite h.withLanes.shortCheck h.withLanes) h.withLanes.shortCheck) h.withLanes
  exact .ite (.ite (.ite h2.withLanes.shortCheck h2.withLanes) h2.withLanes.shortCheck) h2.withLanes

theorem Block.Keeps.keepCurrent (h : a.Keeps b) {shadow} : a.Keeps (b.keepCurrent shadow) := h.withLanes.putBit.reason.raise

theorem Block.Keeps.subSlotB (h : a.Keeps b) {m nv} : a.Keeps (b.subSlotB m nv) :=
  .ite h (.ite h.keepCurrent (.ite h h.withLanes.pinCheck))

theorem Block.Keeps.compareShadow (h : a.Keeps b) {m ch difference diffA diffB} :
    a.Keeps (b.compareShadow m ch difference diffA diffB) := by
  unfold Block.compareShadow
  extract_lets _ b2
  have h2 : a.Keeps b2 := .ite h.put.failSlice h.put
  exact .ite (.ite h2.withLanes.loseShadow.raise (.ite h2.withLanes.setHealth.raise h2.withLanes)) (.ite h2.withLanes.setHealth.clearLive
      h2.withLanes.setHealth)

theorem Block.Keeps.muxCheck (h : a.Keeps b) {ch testError} : a.Keeps (b.muxCheck ch testError) :=
  .ite h.setHealth.raise (.ite h.setHealth.clearLive h.setHealth)

theorem Block.Keeps.visit (h : a.Keeps b) {t ch lane shadow map} : a.Keeps (b.visit t ch lane shadow map) :=
  .ite h.compareShadow.withLanes h

theorem Block.Keeps.shadowFrame (h : a.Keeps b) {t lane shadow test subB map} : a.Keeps (shadowFrame t lane shadow test subB map b) := by
  unfold Machine.shadowFrame
  extract_lets _ _ _ _ b3
  have h3 : a.Keeps b3 := .ite h.at.dropGone (.ite h.at.dropGone.visit.muxCheck h.at.dropGone.visit)
  exact .ite h.at.dropGone (.ite h3.subSlotB h3)

theorem Block.Keeps.currentLaneCompare (h : a.Keeps b) {start stop} : a.Keeps (currentLaneCompare start stop b) := by
  unfold Machine.currentLaneCompare
  extract_lets
  exact .ite h.at (.ite h.at.withKeeper (.ite h.at.withKeeper.withLanes
      (.ite h.at.withKeeper.withLanes.withLanes h.at.withKeeper.withLanes.keepBoth)))

theorem Block.Keeps.setAveraging (h : a.Keeps b) {at' w} : a.Keeps (b.setAveraging at' w) := h.put.put.withLanes
theorem Block.Keeps.settleAveraging (h : a.Keeps b) : a.Keeps b.settleAveraging := h.setAveraging.withLanes
theorem Block.Keeps.askAveraging (h : a.Keeps b) : a.Keeps b.askAveraging := .ite h.withLanes h.settleAveraging

theorem Block.Keeps.laneAveragingChange (h : a.Keeps b) {t} : a.Keeps (laneAveragingChange t b) := by
  unfold Machine.laneAveragingChange
  extract_lets
  split
  · exact h.at
  · exact .ite h.at h.at.setAveraging.withLanes

theorem Block.Keeps.lanesStart (h : a.Keeps b) : a.Keeps b.lanesStart := h.withLanes.settleAveraging.publishCorrection.cellLimitRefresh

theorem Block.Keeps.lanesStop (h : a.Keeps b) : a.Keeps b.lanesStop :=
  .clearLive (.clearLive (.foldl (fun _ _ h => h.setHealth) h.withLanes.put.putBit))

/-! #### Measurement -/

theorem Block.Keeps.leaveKeeper (h : a.Keeps b) : a.Keeps b.leaveKeeper := h.withWin.showNominal

theorem Block.Keeps.deltaCheck (h : a.Keeps b) {cells} : a.Keeps (b.deltaCheck cells) := by
  unfold Block.deltaCheck
  extract_lets
  split
  · exact h
  · exact h.follow

theorem Block.Keeps.staleWindow (h : a.Keeps b) : a.Keeps b.staleWindow := h.putBit
theorem Block.Keeps.publishMeters (h : a.Keeps b) {w} : a.Keeps (b.publishMeters w) := .put (.noteSat (.foldl (fun _ _ h => h.put) h))

theorem Block.Keeps.healthOfWindow (h : a.Keeps b) {w} : a.Keeps (b.healthOfWindow w) :=
  .ite h (.foldl (fun _ _ h => h.setHealth.setHealth.noteSat) h)

theorem Block.Keeps.publishObjects (h : a.Keeps b) {w coverage} : a.Keeps (b.publishObjects w coverage) := by
  unfold Block.publishObjects
  extract_lets _ _ _ _ b2
  have h2 : a.Keeps b2 := by
    unfold b2
    refine .foldl (fun b x h => ?_) h.putAll
    split
    · exact h.put.put.put
    · exact h
  exact h2.withWin

theorem Block.Keeps.announce (h : a.Keeps b) : a.Keeps b.announce := h.withKeeper
theorem Block.Keeps.closeKeeper (h : a.Keeps b) {w} : a.Keeps (b.closeKeeper w) := .ite h h.noteSat.withKeeper.announce.withKeeper

theorem Block.Keeps.publishWindow (h : a.Keeps b) : a.Keeps b.publishWindow := by
  unfold Block.publishWindow
  split
  · exact h
  · extract_lets
    split
    · exact h.closeKeeper.withWin.healthOfWindow.staleWindow
    · split
      · exact h.closeKeeper.withWin.healthOfWindow.publishObjects.publishMeters
      · refine .foldl (fun b x h => ?_) h.closeKeeper.withWin.healthOfWindow.publishObjects.publishMeters.deltaCheck
        split
        · exact .ite h h.lowCheck
        · exact h

theorem Block.Keeps.spoilWindow (h : a.Keeps b) : a.Keeps b.spoilWindow := h.flagWindow
theorem Block.Keeps.averagingBoundary (h : a.Keeps b) : a.Keeps b.averagingBoundary := .ite h.withLanes h
theorem Block.Keeps.keeperTakesOver (h : a.Keeps b) {wasMains} : a.Keeps (b.keeperTakesOver wasMains) := .ite h (.ite h.withWin h)
theorem Block.Keeps.dropSchedule (h : a.Keeps b) : a.Keeps b.dropSchedule := .ite h.leaveKeeper h

theorem Block.Keeps.closeWindow (h : a.Keeps b) {w} : a.Keeps (b.closeWindow w) :=
  h.publishWindow.withKeeper.withWin.loadWindowSettings.keeperTakesOver.dropSchedule.withWin.averagingBoundary

theorem Block.Keeps.firstWindow (h : a.Keeps b) {t} : a.Keeps (b.firstWindow t) := by
  unfold Block.firstWindow
  extract_lets
  split
  · exact h
  · split
    · exact h
    · exact .ite h h.loadWindowSettings.withWin.withWin.averagingBoundary

theorem Block.Keeps.seatWindow (h : a.Keeps b) {t} : a.Keeps (b.seatWindow t) := .ite h h.withWin

theorem Block.Keeps.windowBoundary (h : a.Keeps b) {t} : a.Keeps (windowBoundary t b) := by
  unfold Machine.windowBoundary
  extract_lets
  split
  · exact h.at
  · split
    · exact h.at.firstWindow
    · extract_lets
      split
      · exact h.at
      · split
        · exact .ite h.at h.at.closeWindow.seatWindow
        · split
          · exact .ite h.at.closeWindow.seatWindow h.at.closeWindow
          · exact h.at.closeWindow

theorem Block.Keeps.keeperRecordMissing (h : a.Keeps b) {t} : a.Keeps (keeperRecordMissing t b) := by
  unfold Machine.keeperRecordMissing
  extract_lets _ b2
  have h2 : a.Keeps b2 := .ite h.at.put h.at
  split
  · exact h.at
  · split
    · exact h2
    · split
      · exact .ite h2.flagWindow.leaveKeeper h2.flagWindow
      · exact h2.flagWindow

theorem Block.Keeps.overCurrent (h : a.Keeps b) : a.Keeps b.overCurrent := .ite h.noteSat.raise h.noteSat.clearLive

theorem Block.Keeps.keeperStep (h : a.Keeps b) : a.Keeps b.keeperStep := by
  unfold Block.keeperStep
  extract_lets
  split
  · exact .ite h.noteSat.withKeeper h
  · exact h

theorem Block.Keeps.keepSample (h : a.Keeps b) {t v} : a.Keeps (b.keepSample t v) := h.withKeeper.overCurrent.keeperStep

theorem Block.Keeps.takeChop (h : a.Keeps b) {e} : a.Keeps (b.takeChop e) :=
  .ite (.keepSample (.withKeeper (.ite h.withKeeper h))) (.withKeeper (.ite h.withKeeper h))

theorem Block.Keeps.dropChop (h : a.Keeps b) {e} : a.Keeps (b.dropChop e) := .raise (.withLanes (.ite h.onWindows h))

theorem Block.Keeps.currentSample (h : a.Keeps b) {t first second beyond} : a.Keeps (currentSample t first second beyond b) :=
  .ite h.at.dropGone (.ite h.at.dropGone.noteSat.takeChop (.ite h.at.dropGone.noteSat.withLanes h.at.dropGone.noteSat.dropChop))

theorem Block.Keeps.mainsTrackerUpdate (h : a.Keeps b) {t amplitude milliHz} : a.Keeps (mainsTrackerUpdate t amplitude milliHz b) := by
  unfold Machine.mainsTrackerUpdate
  extract_lets
  split
  · exact h.at
  · split
    · exact h.at.put
    · split
      · exact .ite h.at.put.withKeeper.withKeeper.put h.at.put.withKeeper.withKeeper.put.put.put
      · split
        · split
          · exact h.at.put.withKeeper.withKeeper.put.put.put
          · split
            · exact .ite h.at.put.withKeeper.put.showNominal h.at.put.withKeeper
            · exact h.at.put.withKeeper
        · exact .ite h.at.put.withKeeper.withKeeper.put.put.put h.at.put.withKeeper.put

theorem Block.Keeps.keeperStop (h : a.Keeps b) : a.Keeps b.keeperStop := h.withKeeper.put
theorem Block.Keeps.keeperMoved (h : a.Keeps b) {was} : a.Keeps (b.keeperMoved was) := .ite h (.ite h.keeperStop h.keeperStop.showNominal)

theorem Block.Keeps.publishSnapshot (h : a.Keeps b) {seq instant tags values current} :
    a.Keeps (b.publishSnapshot seq instant tags values current) := by
  unfold Block.publishSnapshot
  extract_lets _ b2 b3
  have h2 : a.Keeps b2 := by
    unfold b2
    split
    · exact h.putAll
    · exact .ite (.put (.foldl (fun _ _ h => h.put) h.putAll)) (.foldl (fun _ _ h => h.put) h.putAll)
  have h3 : a.Keeps b3 := .foldl (fun _ _ h => h.put) h2
  exact h3.put.put.withGov.withLink

theorem Block.Keeps.nextSnap (h : a.Keeps b) : a.Keeps b.nextSnap := h.withCap
theorem Block.Keeps.quietForCapture (h : a.Keeps b) : a.Keeps b.quietForCapture := .ite (.foldl (fun _ _ h => h.editCh) h.withGov) h
theorem Block.Keeps.settleCaptures (h : a.Keeps b) : a.Keeps b.settleCaptures := h.withCap

theorem Block.Keeps.takeSnap (h : a.Keeps b) {stampPs} : a.Keeps (b.takeSnap stampPs) := by
  unfold Block.takeSnap
  extract_lets
  split
  · exact h.nextSnap.publishSnapshot
  · split
    · exact h.settleCaptures.nextSnap.quietForCapture.withCap
    · split
      · exact h.settleCaptures.count32.withCap
      · extract_lets _ b5
        have h5 : a.Keeps b5 := .ite h.settleCaptures.nextSnap.quietForCapture.count32 h.settleCaptures.nextSnap.quietForCapture
        exact h5.withCap

theorem Block.Keeps.snap (h : a.Keeps b) {t stampPs} : a.Keeps (snap t stampPs b) := .ite h.at.heard.takeSnap h.at
theorem Block.Keeps.fillCapture_fst (h : a.Keeps b) {r cells} : a.Keeps (b.fillCapture r cells).1 := .foldl (fun _ _ h => h.noteSat) h
theorem Block.Keeps.endQuiet (h : a.Keeps b) : a.Keeps b.endQuiet := .ite h h.withGov

theorem Block.Keeps.captureStart (h : a.Keeps b) {t seq cells} : a.Keeps (captureStart t seq cells b) := by
  unfold Machine.captureStart
  extract_lets _ b2
  have h2 : a.Keeps b2 := .ite h.at.withCap h.at
  split
  · exact h2
  · split
    · exact .ite h2 h2.fillCapture_fst.withCap.endQuiet
    · split
      · exact h2
      · exact .ite h2 h2.fillCapture_fst.withCap.endQuiet

theorem Block.Keeps.publishCapture (h : a.Keeps b) {r l} : a.Keeps (b.publishCapture r l) :=
  .ite h.noteSat.publishSnapshot.deltaCheck h.noteSat.publishSnapshot

theorem Block.Keeps.capturePublish (h : a.Keeps b) {t} : a.Keeps (capturePublish t b) := by
  unfold Machine.capturePublish
  extract_lets
  split
  · split
    · exact .ite h.at.publishCapture.withCap.averagingBoundary h.at.publishCapture.withCap
    · exact h.at
  · split
    · exact h.at
    · split
      · exact h.at
      · exact .ite h.at.publishCapture.withCap.averagingBoundary h.at.publishCapture.withCap

theorem Block.Keeps.abandonCaptures (h : a.Keeps b) : a.Keeps b.abandonCaptures := by
  unfold Block.abandonCaptures
  extract_lets _ _ b1
  have h1 : a.Keeps b1 := by
    unfold b1
    refine .foldl (fun b x h => ?_) h
    split
    · exact h.publishCapture
    · exact h.publishSnapshot
  exact h1.withCap.withGov

theorem Block.Keeps.followTherm (h : a.Keeps b) {k was temp} : a.Keeps (b.followTherm k was temp) := by
  unfold Block.followTherm
  extract_lets _ _ b1 b2 b3 b4 b5
  have h1 : a.Keeps b1 := .ite h.raise h
  have h2 : a.Keeps b2 := .ite h1.raise h1
  have h3 : a.Keeps b3 := .ite h2.raise h2
  have h4 : a.Keeps b4 := .ite h3.raise h3
  have h5 : a.Keeps b5 := .ite h4 h4.clearLive
  exact .ite h5 h5.clearLive

theorem Block.Keeps.adviseBoth (h : a.Keeps b) {k temp} : a.Keeps (b.adviseBoth k temp) :=
  .ite (.ite h.withThermal.putBit.put.put h.withThermal.putBit.put.put.raise) h.withThermal.putBit.put.put.clearLive

theorem Block.Keeps.dropAdvisories (h : a.Keeps b) : a.Keeps b.dropAdvisories := h.withThermal.putAll.clearLive
theorem Block.Keeps.railReading (h : a.Keeps b) {rail nv} : a.Keeps (b.railReading rail nv) := h.withAux

theorem Block.Keeps.thermistorReading (h : a.Keeps b) {k pin} : a.Keeps (b.thermistorReading k pin) := by
  unfold Block.thermistorReading
  extract_lets _ _ _ _ x1 _ b3
  clear_value x1
  have h3 : a.Keeps b3 := by
    unfold b3
    split <;> exact h.withFree.put.put
  exact .ite h h3.withAux.followTherm.adviseBoth

theorem Block.Keeps.pinSlot (h : a.Keeps b) {k out level} : a.Keeps (b.pinSlot k out level) :=
  .ite h.thermistorReading (.ite (.ite h.put.put.withGov h.put.put) (.ite h.put.put (.ite h.put.put (.ite h.put.put h.put.put))))

theorem Block.Keeps.takeAux (h : a.Keeps b) {e} : a.Keeps (b.takeAux e) := by
  unfold Block.takeAux
  extract_lets
  split
  · exact h
  · exact h.pinSlot
  · exact h.railReading

theorem Block.Keeps.auxSlot (h : a.Keeps b) {t lane settling codes level} : a.Keeps (auxSlot t lane settling codes level b) := by
  unfold Machine.auxSlot
  extract_lets
  exact .ite h.at.dropGone (.ite h.at.dropGone.noteSat.takeAux
      (.ite h.at.dropGone.noteSat.withLanes h.at.dropGone.noteSat.withLanes.raise))

theorem Block.Keeps.drainE4 (h : a.Keeps b) : a.Keeps b.drainE4 :=
  .foldl (fun _ _ h => h.takeAux) (.foldl (fun _ _ h => h.takeChop) h.withLanes)

/-! #### Frames -/

theorem Block.Keeps.beginPebble (h : a.Keeps b) : a.Keeps b.beginPebble := .ite h h.withLink

theorem Block.Keeps.startStream_snd (h : a.Keeps b) {cls stale payload} : a.Keeps (b.startStream cls stale payload).2 :=
  h.beginPebble.withLink.put

theorem Block.Keeps.queueResponse (h : a.Keeps b) {seq payload} : a.Keeps (b.queueResponse seq payload) := h.withLink

theorem Block.Keeps.queueStream (h : a.Keeps b) {cls stale payload} : a.Keeps (b.queueStream cls stale payload) :=
  .withLink (.ite h.count32 h)

theorem Block.Keeps.storeRecord (h : a.Keeps b) {r} : a.Keeps (b.storeRecord r) := h.withLink
theorem Block.Keeps.deliver (h : a.Keeps b) {r} : a.Keeps (b.deliver r) := h.withLink

theorem Block.Keeps.keepOwnRecord (h : a.Keeps b) {cls stale payload} : a.Keeps (b.keepOwnRecord cls stale payload) :=
  .ite h.withLink.deliver h.withLink.storeRecord

theorem Block.Keeps.respond (h : a.Keeps b) {cls x} : a.Keeps (b.respond cls x) := .ite h.noteSat.keepOwnRecord h.noteSat.queueStream

theorem Block.Keeps.nextFrame_snd (h : a.Keeps b) : a.Keeps b.nextFrame.2 := by
  unfold Block.nextFrame
  split
  · exact h.withLink
  · split
    · split
      · dsimp only
        exact h.withKeeper.startStream_snd
      · exact h.withKeeper
    · split
      · exact h.withLink
      · split
        · extract_lets
          split
          · exact h.withLink
          · dsimp only
            exact h.withLink.startStream_snd
        · split
          · exact h.withLink
          · exact h

theorem Block.Keeps.preempted (h : a.Keeps b) : a.Keeps b.preempted := h.withLink.withKeeper.countUp
theorem Block.Keeps.startTone (h : a.Keeps b) {p us} : a.Keeps (b.startTone p us) := .emit (.emit (.ite h.preempted h))

theorem Block.Keeps.sendTone (h : a.Keeps b) {p us} : a.Keeps (b.sendTone p us) := by
  unfold Block.sendTone
  split
  · split <;> exact h.withPhys
  · exact h.startTone

theorem Block.Keeps.waitingTone (h : a.Keeps b) {p c} (e : b.waitingTone p = some c) : a.Keeps c := by
  unfold Block.waitingTone at e
  split at e <;> split at e
  · cases e; exact h.withPhys.startTone
  · cases e
  · cases e; exact h.withPhys.startTone
  · cases e

theorem Block.Keeps.frameTransmit (h : a.Keeps b) {t} : a.Keeps (frameTransmit t b) := by
  unfold Machine.frameTransmit
  extract_lets
  split
  · exact h.at
  · split
    · exact h.at.withPhys.setSending.withPhys.sendAlarm
    · split
      next c e => exact h.at.withPhys.setSending.waitingTone e
      next =>
        split
        · exact h.at.withPhys.setSending
        · split
          · exact h.at.withPhys.setSending.nextFrame_snd.setSending.emit
          · exact h.at.withPhys.setSending.nextFrame_snd

theorem Block.Keeps.dropPebble (h : a.Keeps b) {p} : a.Keeps (b.dropPebble p) := h.withLink.count32

theorem Block.Keeps.holdPebble (h : a.Keeps b) {p message} : a.Keeps (b.holdPebble p message) :=
  .ite h (.ite h.withLink.withLink.putBit h.withLink)

theorem Block.Keeps.takePebble (h : a.Keeps b) {header} : a.Keeps (b.takePebble header) := by
  unfold Block.takePebble
  extract_lets _ _ _ _ x1 b2
  clear_value x1
  have h2 : a.Keeps b2 := .ite h.dropPebble h
  split
  · exact h2.withLink
  · split
    · exact h
    · exact .ite h.dropPebble (.ite h.withLink (.ite h.dropPebble h.withLink.holdPebble))

theorem Block.Keeps.occupyDu (h : a.Keeps b) {ns} : a.Keeps (b.occupyDu ns) := h.withPhys
theorem Block.Keeps.sendOn (h : a.Keeps b) {p f} : a.Keeps (b.sendOn p f) := .ite (.emit (.ite h.occupyDu h)) h

theorem Block.Keeps.broadcast (h : a.Keeps b) {cls payload} : a.Keeps (b.broadcast cls payload) :=
  .ite h.withLink.sendOn.sendOn h.withLink.sendOn

theorem Block.Keeps.headPulse (h : a.Keeps b) {c} : a.Keeps (b.headPulse c) :=
  .ite (.sendPulse (.ite h.sendPulse.occupyDu h)) (.ite h.sendPulse.occupyDu h)

theorem Block.Keeps.sendReference (h : a.Keeps b) : a.Keeps b.sendReference := .ite h.withLink.sendOn.sendOn h.withLink.sendOn
theorem Block.Keeps.sendChainConfig (h : a.Keeps b) : a.Keeps b.sendChainConfig := .ite h.withLink h.broadcast

/-! #### CAN FD -/

theorem Block.Keeps.judgeCan (h : a.Keeps b) : a.Keeps b.judgeCan := .ite h.put h
theorem Block.Keeps.canReceived (h : a.Keeps b) : a.Keeps b.canReceived := h.put.judgeCan
theorem Block.Keeps.canFrame (h : a.Keeps b) {k l} : a.Keeps (b.canFrame k l) := .ite h.emit.put.judgeCan.put.withFree h.emit.put.judgeCan
theorem Block.Keeps.canAlarms (h : a.Keeps b) : a.Keeps b.canAlarms := .foldl (fun _ _ h => h.canFrame) h.withHost

theorem Block.Keeps.canBusError (h : a.Keeps b) {transmit} : a.Keeps (canBusError transmit b) :=
  .ite h (.ite h.countUp.judgeCan (.ite h.put.judgeCan h.put.put.countUp.withHost))

theorem Block.Keeps.canResume (h : a.Keeps b) : a.Keeps b.canResume := .foldl (fun _ _ h => h.canFrame) h.withHost.canAlarms
theorem Block.Keeps.canBusOffRecovery (h : a.Keeps b) : a.Keeps (canBusOffRecovery b) := .ite (.ite h.putAll h.putAll.canResume) h

theorem Block.Keeps.canConfigApply (h : a.Keeps b) : a.Keeps (canConfigApply b) :=
  .ite h (.ite h.withHost.put (.ite h.withHost (.ite h.withHost.put (.ite h.withHost.put.judgeCan h.withHost))))

theorem Block.Keeps.canAlarmFrame (h : a.Keeps b) : a.Keeps (canAlarmFrame b) := by
  unfold Machine.canAlarmFrame
  split
  · exact h
  · exact .ite h.withHost.canFrame h

theorem Block.Keeps.ignoredFrame (h : a.Keeps b) : a.Keeps (ignoredFrame b) := .ite h.canReceived.count32 h
theorem Block.Keeps.canRespond (h : a.Keeps b) {l} : a.Keeps (b.canRespond l) := .ite h.canAlarms.canFrame (.ite h.withHost h)
theorem Block.Keeps.queueFragments (h : a.Keeps b) {cls l} : a.Keeps (b.queueFragments cls l) := .ite h (.withHost (.ite h.count32 h))
theorem Block.Keeps.streamToHost (h : a.Keeps b) {cls} : a.Keeps (b.streamToHost cls) := .ite h.queueFragments (.ite h.queueFragments h)

theorem Block.Keeps.canTrainStream (h : a.Keeps b) {cls} : a.Keeps (canTrainStream cls b) := by
  unfold Machine.canTrainStream
  split
  · exact h
  · split
    · exact h
    · exact .foldl (fun _ _ h => h.canFrame) h.withHost.canAlarms

theorem Block.Keeps.countTrain (h : a.Keeps b) {cls} : a.Keeps (b.countTrain cls) := h.withLink
theorem Block.Keeps.sendKeeper (h : a.Keeps b) {payload} : a.Keeps (b.sendKeeper payload) := .broadcast (.ite h.attend h)

theorem Block.Keeps.forwardKeeper (h : a.Keeps b) {header payload} : a.Keeps (b.forwardKeeper header payload) := by
  unfold Block.forwardKeeper
  extract_lets _ _ b3
  have h3 : a.Keeps b3 := .ite h.countTrain.storeRecord.queueFragments h.countTrain.storeRecord
  exact .ite h3.withLink h3.sendKeeper

theorem Block.Keeps.keeperForward (h : a.Keeps b) {header payload t} : a.Keeps (keeperForward header payload t b) :=
  .ite h.at.takePebble.forwardKeeper h.at

/-! #### Clocks and chain time -/

theorem Block.Keeps.enterTb (h : a.Keeps b) {st} : a.Keeps (b.enterTb st) :=
  .ite (.clearLive (.put (.ite h.withTbRest h))) (.flagWindow (.put (.ite h.withTbRest h)))

theorem Block.Keeps.enterHoldover (h : a.Keeps b) : a.Keeps b.enterHoldover := h.enterTb.raise
theorem Block.Keeps.tbCycle (h : a.Keeps b) : a.Keeps b.tbCycle := .ite (h.withTb fun _ => b.tb.move_inRange 1) h

theorem Block.Keeps.shiftInstants (h : a.Keeps b) {d} : a.Keeps (b.shiftInstants d) :=
  h.withPower.withThermal.withLanes.withGov.withTbRest.withWin.withKeeper.withImp.withPhys.withLink.withDiag

theorem Block.Keeps.stepTime (h : a.Keeps b) {c} : a.Keeps (b.stepTime c) := by
  unfold Block.stepTime
  extract_lets _ _ b1
  have h1 : a.Keeps b1 := h.withTb fun _ => b.tb.move_inRange _
  exact .ite h1.shiftInstants.spoilWindow h1.shiftInstants

theorem Block.Keeps.countMissed (h : a.Keeps b) {nominal} : a.Keeps (b.countMissed nominal) := by
  unfold Block.countMissed
  split
  · exact .ite h h.countUp
  · exact h

theorem Block.Keeps.judgeSync (h : a.Keeps b) {c} : a.Keeps (b.judgeSync c) := by
  unfold Block.judgeSync
  extract_lets _ _ kept stepped
  have hk : ∀ {b}, a.Keeps b → a.Keeps (kept b) := fun h => h.withTbRest.enterTb
  have hs : ∀ {b}, a.Keeps b → a.Keeps (stepped b) := fun h => h.stepTime.withTbRest.enterTb
  clear_value kept stepped
  refine .ite (hs h) (.ite (.ite (hk h) ?_) (.ite (.ite (hk h) (hs h)) h))
  exact .ite (hs h.countUp).raise h.countUp.withTbRest

theorem Block.Keeps.sync (h : a.Keeps b) {t stampPs} : a.Keeps (sync t stampPs b) := by
  unfold Machine.sync
  extract_lets
  split
  · exact h.at.heard
  · split
    · exact h.at.heard.withTbRest
    · exact h.at.heard.countMissed.withTbRest.put.judgeSync

theorem Block.Keeps.settleMissed (h : a.Keeps b) : a.Keeps b.settleMissed := h.countMissed.withTbRest
theorem Block.Keeps.syncMissing (h : a.Keeps b) {t} : a.Keeps (syncMissing t b) := .ite h.at h.at.settleMissed.withTbRest.enterHoldover
theorem Block.Keeps.slewStep (h : a.Keeps b) : a.Keeps (slewStep b) := .ite h (h.withTb fun _ => b.tb.move_inRange _)

theorem Block.Keeps.switchReference (h : a.Keeps b) {source} : a.Keeps (b.switchReference source) := by
  unfold Block.switchReference
  extract_lets _ b2
  have h2 : a.Keeps b2 := .ite h.put.spoilWindow h.put
  exact .ite (.ite h2.withTbRest h2.withTbRest.enterHoldover) h2.withTbRest.enterTb

theorem Block.Keeps.pllReferenceSwitch (h : a.Keeps b) {p} : a.Keeps (pllReferenceSwitch p b) := .ite h h.switchReference

theorem Block.Keeps.symbolLockLoss (h : a.Keeps b) {p} : a.Keeps (symbolLockLoss p b) :=
  .ite h (.ite h.put.enterHoldover (.ite h.put.enterTb h.put))

theorem Block.Keeps.chainReferenceSend (h : a.Keeps b) {t} : a.Keeps (chainReferenceSend t b) := .ite h.at.sendReference h.at

theorem Block.Keeps.turnTo (h : a.Keeps b) {p} : a.Keeps (b.turnTo p) := by
  unfold Block.turnTo
  split
  · exact h
  · extract_lets _ _ _ _ b3
    have h3 : a.Keeps b3 := .ite h.withLink.withTbRest.putAll.spoilWindow h.withLink.withTbRest.putAll
    split
    · exact .ite h3 h3.enterHoldover
    · exact h.withLink.withTbRest.putAll.switchReference

theorem Block.Keeps.followRing (h : a.Keeps b) : a.Keeps b.followRing := .ite h h.turnTo

theorem Block.Keeps.chainReference (h : a.Keeps b) {p next} : a.Keeps (chainReference p next b) := by
  unfold Machine.chainReference
  split
  · exact h
  · extract_lets b1 _ b2
    have h1 : a.Keeps b1 := .ite h.turnTo h
    have h2 : a.Keeps b2 := .ite h1.settleMissed h1
    exact .ite h1 (.ite h2.withTbRest.withTbRest.enterTb h2.withTbRest)

theorem Block.Keeps.chainTimeWritten (h : a.Keeps b) {v} : a.Keeps (b.chainTimeWritten v) := by
  unfold Block.chainTimeWritten
  extract_lets _ _ b1
  have h1 : a.Keeps b1 := h.withTb fun _ => ⟨Nat.mod_lt _ (by norm_num), by norm_num⟩
  exact .ite h1.shiftInstants h1.shiftInstants.sendReference

theorem Block.Keeps.gate (h : a.Keeps b) {k bad need} : a.Keeps (b.gate k bad need) := h.withTbRest

theorem Block.Keeps.judgeClock (h : a.Keeps b) {k bad} : a.Keeps (b.judgeClock k bad) :=
  .ite (.ite (.raiseExactly (.ite h (.reason (.put (.ite h.withTbRest.spoilWindow h.withTbRest))))) h.raise) (.ite h h.clearLive)

theorem Block.Keeps.clockMonitorGate (h : a.Keeps b) {k count} : a.Keeps (clockMonitorGate k count b) := .ite h h.gate.judgeClock
theorem Block.Keeps.faultRcCheck (h : a.Keeps b) {count} : a.Keeps (faultRcCheck count b) := .ite h h.gate.judgeClock

/-! #### The flash -/

theorem Block.Keeps.loadEntry_fst (h : a.Keeps b) {ix sub value} : a.Keeps (b.loadEntry ix sub value).1 := by
  unfold Block.loadEntry
  split
  · exact h
  · split
    · exact h
    · split
      · split
        · exact h.withSocTable
        · exact h
      · split
        · split
          · exact h.withTempCurve
          · exact h
        · split
          · exact h
          · extract_lets
            split
            · exact h.put
            · exact h

theorem Block.Keeps.loadEntries_fst (h : a.Keeps b) {n l skipped} : a.Keeps (b.loadEntries n l skipped).1 := by
  induction n generalizing b l skipped with
  | zero => exact h
  | succ n ih =>
    unfold Block.loadEntries
    split
    · exact h
    · exact ih h.loadEntry_fst

theorem Block.Keeps.seedFrom (h : a.Keeps b) {n l} : a.Keeps (b.seedFrom n l) := by
  unfold Block.seedFrom
  extract_lets take
  have ht : ∀ {b} ix, a.Keeps b → a.Keeps (take b ix) := fun ix h => by
    unfold take
    split
    · exact h.put
    · exact h
  exact (ht 0x3011 (ht 0x1011 h)).seedPaths

theorem Block.Keeps.nvmFlag (h : a.Keeps b) {bit on} : a.Keeps (b.nvmFlag bit on) := h.putBit
theorem Block.Keeps.recordFault (h : a.Keeps b) {id} : a.Keeps (b.recordFault id) := h.raise.withNvm

theorem Block.Keeps.loadDictionary (h : a.Keeps b) {m} : a.Keeps (b.loadDictionary m) := by
  unfold Block.loadDictionary
  extract_lets _ _ _ _ _ x1 _ _ _ _ _ _ _ _ _ _ b6
  clear_value x1
  have h6 : a.Keeps b6 := .ite h.withNvm.nvmFlag.nvmFlag.nvmFlag.recordFault h.withNvm.nvmFlag.nvmFlag.nvmFlag
  split
  · exact h6
  · exact h6.seedFrom.loadEntries_fst.nvmFlag.putAll

theorem Block.Keeps.loadSummaries (h : a.Keeps b) {m} : a.Keeps (b.loadSummaries m) :=
  .withJournal (.put (.withNvm (.ite h.nvmFlag.recordFault h.nvmFlag)))

theorem Block.Keeps.judgeEndurance (h : a.Keeps b) : a.Keeps b.judgeEndurance := .ite h.put.nvmFlag h.put
theorem Block.Keeps.countCorrected (h : a.Keeps b) {l} : a.Keeps (b.countCorrected l) := h.countUp
theorem Block.Keeps.correctAgain (h : a.Keeps b) {base len} : a.Keeps (b.correctAgain base len) := h.countCorrected

theorem Block.Keeps.readFlash (h : a.Keeps b) {base len record} : a.Keeps (b.readFlash base len record) :=
  .ite h.correctAgain.recordFault h.correctAgain

theorem Block.Keeps.readSummaries (h : a.Keeps b) : a.Keeps b.readSummaries := by
  unfold Block.readSummaries
  split
  · exact h
  · exact h.readFlash

theorem Block.Keeps.noteReadBack (h : a.Keeps b) {p r record} : a.Keeps (b.noteReadBack p r record) :=
  .ite h.countCorrected.withNvm h.countCorrected.withNvm.recordFault

theorem Block.Keeps.startRecord (h : a.Keeps b) {kind} : a.Keeps (b.startRecord kind) := h.withNvm.put.put
theorem Block.Keeps.startSummary (h : a.Keeps b) {m thenShip} : a.Keeps (b.startSummary m thenShip) := h.withNvm.put.put
theorem Block.Keeps.endProgram (h : a.Keeps b) {p result} : a.Keeps (b.endProgram p result) := h.withNvm.put.put.event.followReasons
theorem Block.Keeps.acceptSave (h : a.Keeps b) : a.Keeps b.acceptSave := h.startRecord

theorem Block.Keeps.restoreDefaults (h : a.Keeps b) {keepRwu} : a.Keeps (b.restoreDefaults keepRwu) := by
  unfold Block.restoreDefaults
  extract_lets _ b2
  have h2 : a.Keeps b2 := .ite (h.filterDict h).withSocTable.withTempCurve (.foldl (fun _ _ h => h.editCh)
      (h.filterDict h).withSocTable.withTempCurve)
  exact .ite h2.put.put h2

theorem Block.Keeps.acceptRestore (h : a.Keeps b) {all} : a.Keeps (b.acceptRestore all) := h.withNvm.put.restoreDefaults.startRecord
theorem Block.Keeps.snoopNvm (h : a.Keeps b) {l} : a.Keeps (b.snoopNvm l) := h.put

theorem Block.Keeps.sectorEraseComplete_snd (h : a.Keeps b) {m} : a.Keeps (sectorEraseComplete m b).2 := by
  unfold Machine.sectorEraseComplete
  split
  · exact h
  · split
    · exact h
    · extract_lets
      split
      · exact h.withNvm.judgeEndurance
      · exact h.withNvm.judgeEndurance.endProgram

theorem Block.Keeps.pageProgram_snd (h : a.Keeps b) {m} : a.Keeps (pageProgram m b).2 := by
  unfold Machine.pageProgram
  split
  · exact h
  · split
    · exact h
    · extract_lets
      split
      · exact h.withNvm.snoopNvm.endProgram
      · exact h.withNvm.snoopNvm

theorem Block.Keeps.switchDictBank (h : a.Keeps b) {p} : a.Keeps (b.switchDictBank p) :=
  .ite h.withNvm.putAll.nvmFlag.nvmFlag.nvmFlag.clearLive h.withNvm.putAll.nvmFlag.nvmFlag.nvmFlag

theorem Block.Keeps.saveReadBack (h : a.Keeps b) {r} : a.Keeps (b.saveReadBack r) := by
  unfold Block.saveReadBack
  split
  · exact h
  · split
    · exact h
    · extract_lets
      exact .ite h.noteReadBack.switchDictBank.judgeEndurance.endProgram (.ite h.noteReadBack.endProgram h.noteReadBack.withNvm)

theorem Block.Keeps.switchSummaryBank (h : a.Keeps b) {p} : a.Keeps (b.switchSummaryBank p) :=
  .ite h.withNvm.put.nvmFlag.clearLive h.withNvm.put.nvmFlag

theorem Block.Keeps.operatingHour (h : a.Keeps b) : a.Keeps (operatingHour b) := .ite h.count32 h

/-! #### The thermal ladder -/

theorem Block.Keeps.formHottest (h : a.Keeps b) : a.Keeps b.formHottest := by
  unfold Block.formHottest
  split
  · exact h.putAll
  · exact h.putAll.put

theorem Block.Keeps.laneThermometerInterval (h : a.Keeps b) {t lanes} : a.Keeps (laneThermometerInterval t lanes b) := by
  unfold Machine.laneThermometerInterval
  extract_lets _ b2
  have h2 : a.Keeps b2 := by
    unfold b2
    refine .foldl (fun b x h => ?_) h.at
    split
    · exact h.put
    · exact h
  exact .ite h.at (.ite h2.formHottest.withThermal.put h2.formHottest.withThermal)

theorem Block.Keeps.excludeLane (h : a.Keeps b) {hottest k} : a.Keeps (b.excludeLane hottest k) :=
  .ite (.raiseAtLeast (.ite h.putBit.reason.put h.putBit.reason)) (.raise (.ite h.putBit.reason.put h.putBit.reason))

theorem Block.Keeps.crossCheck (h : a.Keeps b) : a.Keeps b.crossCheck := .withThermal (.foldl (fun _ _ h => h.excludeLane) h)

theorem Block.Keeps.housekeepingRound (h : a.Keeps b) {t slices} : a.Keeps (housekeepingRound t slices b) := by
  unfold Machine.housekeepingRound
  extract_lets _ b2 b3
  have h2 : a.Keeps b2 := by
    unfold b2
    refine .foldl (fun b x h => ?_) h.at
    split
    · exact h.put
    · exact h
  have h3 : a.Keeps b3 := .foldl (fun _ _ h => h.put) h2
  exact .ite h.at h3.crossCheck

theorem Block.Keeps.setLevel (h : a.Keeps b) {n} : a.Keeps (b.setLevel n) := by
  unfold Block.setLevel
  extract_lets _ _ _ _ b3
  have h3 : a.Keeps b3 := .ite h.put.put.withThermal.askAveraging h.put.put.withThermal
  exact .ite h3.reason.raise (.ite h3.reason.clearLive h3.reason)

theorem Block.Keeps.throttleEvaluation (h : a.Keeps b) {t} : a.Keeps (throttleEvaluation t b) := by
  unfold Machine.throttleEvaluation
  extract_lets _ _ _ _ _ _ b3 b4
  have h3 : a.Keeps b3 := .ite h.at.put.withThermal h.at.put
  have h4 : a.Keeps b4 := .ite (.ite h3.raise h3) h3.clearLive
  exact .ite h.at (.ite h4.setLevel (.ite h4.setLevel h4))

theorem Block.Keeps.wantSummary (h : a.Keeps b) {m} : a.Keeps (b.wantSummary m) :=
  .ite h.withNvm (.ite h.withNvm.readSummaries.startSummary h.withNvm.readSummaries)

theorem Block.Keeps.settleJournal (h : a.Keeps b) : a.Keeps b.settleJournal := .ite h.drainAll h

theorem Block.Keeps.preShutdown (h : a.Keeps b) {m} : a.Keeps (preShutdown m b) :=
  .ite h (.wantSummary (.settleJournal (.ite h.raise.faultCycle.put h.raise.faultCycle.put.setLevel)))

theorem Block.Keeps.preShutdownEnd (h : a.Keeps b) {t} : a.Keeps (preShutdownEnd t b) := by
  unfold Machine.preShutdownEnd
  extract_lets
  split
  · exact .ite h.at.clearLive h.at
  · exact h.at

theorem Block.Keeps.summaryWrite (h : a.Keeps b) {m} : a.Keeps (summaryWrite m b) := .ite h.settleJournal.wantSummary h

/-! #### Impedance -/

theorem Block.Keeps.editEntry (h : a.Keeps b) {k f} : a.Keeps (b.editEntry k f) := h.withImp

theorem Block.Keeps.putTemp (h : a.Keeps b) {i status value} : a.Keeps (b.putTemp i status value) := by
  unfold Block.putTemp
  extract_lets
  split
  · exact h.put.put
  · exact h.put

theorem Block.Keeps.staleTemps (h : a.Keeps b) {k p} : a.Keeps (b.staleTemps k p) := .ite (.foldl (fun _ _ h => .ite h h.putTemp) h) h
theorem Block.Keeps.discardResults (h : a.Keeps b) {k} : a.Keeps (b.discardResults k) := h.editEntry.staleTemps

theorem Block.Keeps.endAmbient (h : a.Keeps b) {k code} : a.Keeps (b.endAmbient k code) := by
  unfold Block.endAmbient
  split
  · exact h
  · extract_lets
    split
    · exact h.editEntry
    · exact .ite h.editEntry.editEntry h.editEntry.discardResults

theorem Block.Keeps.endKeeper (h : a.Keeps b) {k} : a.Keeps (b.endKeeper k) := by
  unfold Block.endKeeper
  extract_lets
  split
  · exact h
  · split
    · exact h.withKeeper
    · exact h.withKeeper.noteSat.withKeeper

theorem Block.Keeps.excite (h : a.Keeps b) {i on} : a.Keeps (b.excite i on) := .ite h.turnOn h.editCh
theorem Block.Keeps.releaseExcited (h : a.Keeps b) : a.Keeps b.releaseExcited := h.withGov
theorem Block.Keeps.endSequence (h : a.Keeps b) {odd even} : a.Keeps (b.endSequence odd even) := h.withImp

theorem Block.Keeps.beginSettle (h : a.Keeps b) {todo x odd even} : a.Keeps (b.beginSettle todo x odd even) := by
  unfold Block.beginSettle
  extract_lets
  split
  · exact h.releaseExcited.endSequence
  · extract_lets _ _ _ _ _ _ _ _ _ _ b2 b3
    have h2 : a.Keeps b2 := .foldl (fun _ _ h => .foldl (fun _ _ h => .ite h.editCh h) h) h.releaseExcited
    have h3 : a.Keeps b3 := .foldl (fun _ _ h => h.excite.noteEdge) h2
    exact h3.withImp

theorem Block.Keeps.activeSequenceStart (h : a.Keeps b) {t} : a.Keeps (activeSequenceStart t b) := .ite h.at h.at.beginSettle

theorem Block.Keeps.excitationEdge (h : a.Keeps b) {t} : a.Keeps (excitationEdge t b) := by
  unfold Machine.excitationEdge
  extract_lets
  split
  · exact h.at
  · exact .foldl (fun _ _ h => .ite h h.excite.noteEdge) h.at

theorem Block.Keeps.addActiveSpan (h : a.Keeps b) {lo hi} : a.Keeps (b.addActiveSpan lo hi) := h.withImp

theorem Block.Keeps.dropActive (h : a.Keeps b) {a'} : a.Keeps (b.dropActive a') := by
  unfold Block.dropActive
  extract_lets
  split
  · exact h.releaseExcited.addActiveSpan
  · exact h.releaseExcited.addActiveSpan.editEntry.staleTemps

theorem Block.Keeps.discardActive (h : a.Keeps b) : a.Keeps b.discardActive := by
  unfold Block.discardActive
  split
  · exact h
  · exact h.dropActive.endSequence

theorem Block.Keeps.reactSafe (h : a.Keeps b) : a.Keeps b.reactSafe := .ite h.discardActive h
theorem Block.Keeps.activeIntervalDiscard (h : a.Keeps b) : a.Keeps (activeIntervalDiscard b) := .ite h.discardActive.noteEdges h

theorem Block.Keeps.endActive (h : a.Keeps b) {k} : a.Keeps (b.endActive k) := by
  unfold Block.endActive
  split
  · exact h
  · split
    · exact h
    · split
      · exact h
      · split
        · exact h.discardActive.noteEdges
        · split
          · exact h.addActiveSpan.editEntry.staleTemps.beginSettle.noteEdges
          · exact h.addActiveSpan.editEntry.beginSettle.noteEdges

theorem Block.Keeps.analysisIntervalEnd (h : a.Keeps b) {k t} : a.Keeps (analysisIntervalEnd k t b) := by
  unfold Machine.analysisIntervalEnd
  extract_lets
  exact .ite h.at (.ite h.at.endKeeper (.ite h.at.endKeeper
      (.ite h.at.endKeeper.endAmbient (.ite h.at.endKeeper.endActive h.at.endKeeper))))

theorem Block.Keeps.judgeOutliers (h : a.Keeps b) : a.Keeps b.judgeOutliers := .ite h h.clearLive

theorem Block.Keeps.outlierCheck (h : a.Keeps b) {ch q x nodeMedian} : a.Keeps (b.outlierCheck ch q x nodeMedian) :=
  .ite (.ite h.withImp.noteSat.raise h.withImp) h.withImp.judgeOutliers

theorem Block.Keeps.outlierEntry (h : a.Keeps b) {k l} : a.Keeps (b.outlierEntry k l) := by
  unfold Block.outlierEntry
  extract_lets
  refine .foldl (fun b x h => ?_) h
  split
  · exact .ite h.outlierCheck h
  · exact h

theorem Block.Keeps.estimateTemp (h : a.Keeps b) {i c isNew} : a.Keeps (b.estimateTemp i c isNew) := by
  unfold Block.estimateTemp
  extract_lets
  split
  · exact h.putTemp
  · split
    · exact h.putTemp
    · split
      · exact h.putTemp
      · split <;> exact h.putTemp

theorem Block.Keeps.estimateTemps (h : a.Keeps b) {k l} : a.Keeps (b.estimateTemps k l) := by
  unfold Block.estimateTemps
  split
  · refine .foldl (fun b x h => ?_) h
    split
    · exact h.estimateTemp
    · exact h
  · exact h

theorem Block.Keeps.dropTemps (h : a.Keeps b) : a.Keeps b.dropTemps := .ite (.foldl (fun _ _ h => h.putTemp) h) h

theorem Block.Keeps.publishEntry (h : a.Keeps b) {k iv item} : a.Keeps (b.publishEntry k iv item) := by
  unfold Block.publishEntry
  extract_lets _ _ _ _ _ _ b4
  have h4 : a.Keeps b4 := by
    unfold b4
    split
    · exact h.noteSat.editEntry.withFree.put.put
    · exact h.noteSat.editEntry.withFree
  exact h4.estimateTemps.outlierEntry

theorem Block.Keeps.impedancePublish (h : a.Keeps b) {k} : a.Keeps (impedancePublish k b) := by
  unfold Machine.impedancePublish
  split
  · exact h
  · exact .ite h (.ite h.publishEntry (.ite h h.publishEntry))

theorem Block.Keeps.ambientPairingTimeout (h : a.Keeps b) {k} : a.Keeps (ambientPairingTimeout k b) := by
  unfold Machine.ambientPairingTimeout
  split
  · exact h
  · split
    · exact h.editEntry.discardResults
    · exact h

theorem Block.Keeps.entryChanged (h : a.Keeps b) {k} : a.Keeps (b.entryChanged k) := by
  unfold Block.entryChanged
  extract_lets _ _ b3
  have h3 : a.Keeps b3 := by
    unfold b3
    split
    · split
      · exact .ite h.discardResults.editEntry (.ite h.discardResults.editEntry.discardActive
          h.discardResults.editEntry.dropActive.beginSettle)
      · exact h.discardResults.editEntry
    · exact h.discardResults.editEntry
  exact h3.dropTemps

theorem Block.Keeps.learnRs (h : a.Keeps b) {i est} : a.Keeps (b.learnRs i est) := h.noteSat.put

theorem Block.Keeps.useStep (h : a.Keeps b) {c size} : a.Keeps (b.useStep c size) :=
  .withFree (.foldl (fun _ _ h => h.outlierCheck) (.foldl (fun _ _ h => h.learnRs) h))

theorem Block.Keeps.matchSteps (h : a.Keeps b) : a.Keeps b.matchSteps := by
  unfold Block.matchSteps
  split
  · exact h
  · refine .foldl (fun b x h => ?_) h
    split
    · exact .ite h h.withImp.useStep
    · exact h

theorem Block.Keeps.seekStep (h : a.Keeps b) : a.Keeps b.seekStep := .ite h (.ite h h.withImp.matchSteps)
theorem Block.Keeps.trimE6 (h : a.Keeps b) : a.Keeps b.trimE6 := h.withTbRest.withImp

/-! #### The state of the cells -/

theorem Block.Keeps.editSoc (h : a.Keeps b) {i f} : a.Keeps (b.editSoc i f) := h.withImp
theorem Block.Keeps.publishSoc (h : a.Keeps b) {i} : a.Keeps (b.publishSoc i) := .ite h.noteSat.put.put h.put.put
theorem Block.Keeps.growU (h : a.Keeps b) {i d} : a.Keeps (b.growU i d) := h.noteSat.editSoc
theorem Block.Keeps.dropSoc (h : a.Keeps b) : a.Keeps b.dropSoc := .foldl (fun _ _ h => h.publishSoc) h.withImp

theorem Block.Keeps.advanceSoc (h : a.Keeps b) {i pack gap timed} : a.Keeps (b.advanceSoc i pack gap timed) :=
  .ite h.editSoc h.editSoc.editSoc.growU.publishSoc

theorem Block.Keeps.countCharge (h : a.Keeps b) {delta changed us} : a.Keeps (b.countCharge delta changed us) :=
  .ite (.ite h.withImp.withImp h.withImp) (.foldl (fun _ _ h => h.advanceSoc) (.ite h.withImp.withImp h.withImp))

theorem Block.Keeps.shiftAnchors (h : a.Keeps b) {d} : a.Keeps (b.shiftAnchors d) := h.withImp

theorem Block.Keeps.restPoint (h : a.Keeps b) {i socv} : a.Keeps (b.restPoint i socv) := by
  unfold Block.restPoint
  extract_lets
  split
  · exact h.editSoc
  · exact .ite h h.noteSat.put.editSoc

theorem Block.Keeps.excessOf (h : a.Keeps b) {i excess} : a.Keeps (b.excessOf i excess) :=
  .ite h.noteSat.put.editSoc.noteSat.raise (.ite h.noteSat.put.editSoc h.noteSat.put.editSoc.clearLive)

theorem Block.Keeps.excesses (h : a.Keeps b) {fresh} : a.Keeps (b.excesses fresh) := .foldl (fun _ _ h => .ite h h.excessOf) h

theorem Block.Keeps.restCell_fst (h : a.Keeps b) {i us quiet mean} : a.Keeps (b.restCell i us quiet mean).1 := by
  unfold Block.restCell
  extract_lets
  split
  · exact h.editSoc
  · split
    · exact h.editSoc
    · extract_lets
      split
      · exact h.editSoc.editSoc.publishSoc
      · split
        · exact h.editSoc.editSoc.restPoint.publishSoc
        · exact h.editSoc

theorem Block.Keeps.restInterrupted (h : a.Keeps b) : a.Keeps b.restInterrupted := h.withImp

theorem Block.Keeps.restStep (h : a.Keeps b) : a.Keeps b.restStep := by
  unfold Block.restStep
  extract_lets _ _ _ _ r
  have hr : a.Keeps r.1 := by
    refine List.foldlRecOn (motive := fun x : Block × List Nat => a.Keeps x.1) _ _ h.withImp fun _ hx _ _ => ?_
    exact hx.restCell_fst
  exact .ite h (.ite h.withImp.restInterrupted hr.excesses)

theorem Block.Keeps.restBroken (h : a.Keeps b) : a.Keeps b.restBroken := h.withImp
theorem Block.Keeps.restOutside (h : a.Keeps b) : a.Keeps b.restOutside := .ite h h.restBroken

theorem Block.Keeps.firstSoc (h : a.Keeps b) : a.Keeps b.firstSoc := by
  unfold Block.firstSoc
  split
  · exact h
  · refine .foldl (fun b x h => ?_) h
    split
    · exact h
    · split
      · exact .ite h h.restCell_fst
      · exact h

theorem Block.Keeps.drift (h : a.Keeps b) {seconds} : a.Keeps (b.drift seconds) :=
  .ite h (.foldl (fun _ _ h => .ite h.growU.publishSoc h) h)

theorem Block.Keeps.impStart (h : a.Keeps b) : a.Keeps b.impStart := .ite h (.drift (.foldl (fun _ _ h => h.advanceSoc) h.withImp))
theorem Block.Keeps.impStop (h : a.Keeps b) : a.Keeps b.impStop := .ite h (.foldl (fun _ _ h => .ite h h.putTemp) h.discardActive.withImp)
theorem Block.Keeps.followE6 (h : a.Keeps b) : a.Keeps b.followE6 := .ite h.impStart (.ite h.impStop h)

theorem Block.Keeps.autobalancePeriod (h : a.Keeps b) {t} : a.Keeps (autobalancePeriod t b) := by
  unfold Machine.autobalancePeriod
  extract_lets
  split
  · exact h.at
  · refine .foldl (fun b x h => ?_) h.at
    split
    · exact h
    · split
      · exact h.targetWritten
      · exact h

/-! #### Keeper records and windows -/

theorem Block.Keeps.takeCurrent_fst (h : a.Keeps b) {p} : a.Keeps (b.takeCurrent p).1 :=
  .ite h.withKeeper.noteSat.putAll h.withKeeper.noteSat.putAll.put.put

theorem Block.Keeps.takeSchedule (h : a.Keeps b) {p} : a.Keeps (b.takeSchedule p) := by
  unfold Block.takeSchedule
  extract_lets
  split
  · exact h.withWin.withWin
  · exact .ite h.withWin.withWin (.ite h.withWin.withWin.withWin h.withWin.withWin)

theorem Block.Keeps.takeHarmonics (h : a.Keeps b) {p} : a.Keeps (b.takeHarmonics p) :=
  .foldl (fun _ _ h => .ite h (.ite (.withKeeper (.ite h.editEntry h)) (.ite h.editEntry h))) h

theorem Block.Keeps.takeSteps (h : a.Keeps b) {p} : a.Keeps (b.takeSteps p) := h.withImp.matchSteps

theorem Block.Keeps.takeBase (h : a.Keeps b) {p} : a.Keeps (b.takeBase p) :=
  h.takeCurrent_fst.takeSchedule.takeHarmonics.takeSteps.countCharge.restOutside.restStep

theorem Block.Keeps.takePhasor (h : a.Keeps b) {p} : a.Keeps (b.takePhasor p) := .ite h h.editEntry
theorem Block.Keeps.takeRecord (h : a.Keeps b) {p} : a.Keeps (b.takeRecord p) := .ite h (.ite h.takeBase (.ite h.takePhasor h))

theorem Block.Keeps.withOwnRecord (h : a.Keeps b) {f} (hf : ∀ {b}, a.Keeps b → a.Keeps (f b)) : a.Keeps (b.withOwnRecord f) := by
  unfold Block.withOwnRecord
  extract_lets _ _ _ b2
  have h2 : a.Keeps b2 := .foldl (fun _ _ h => h.takeRecord) (hf h)
  exact .ite (.foldl (fun _ _ h => h.forwardKeeper) h2.withKeeper) h2

theorem Block.Keeps.keeperRecord (h : a.Keeps b) {p t} : a.Keeps (keeperRecord p t b) := .ite h.at h.at.takeRecord
theorem Block.Keeps.noteConducted (h : a.Keeps b) : a.Keeps b.noteConducted := h.withImp.withGov

theorem Block.Keeps.publishAll (h : a.Keeps b) : a.Keeps b.publishAll :=
  .ite (h.noteConducted.withOwnRecord fun h => h.publishWindow).firstSoc.restStep h

theorem Block.Keeps.windowPublish (h : a.Keeps b) {t} : a.Keeps (windowPublish t b) := .ite h.at.publishAll h.at

theorem Block.Keeps.noteSpoiled (h : a.Keeps b) : a.Keeps b.noteSpoiled := by
  unfold Block.noteSpoiled
  split
  · exact .ite h.spoil h
  · exact h

theorem Block.Keeps.publishLate (h : a.Keeps b) {t} : a.Keeps (b.publishLate t) := by
  unfold Block.publishLate
  split
  · exact .ite h.publishAll h
  · exact h

theorem Block.Keeps.passBoundary (h : a.Keeps b) {t} : a.Keeps (b.passBoundary t) :=
  (h.at.publishLate.withOwnRecord fun h => h.windowBoundary.noteSpoiled)

theorem Block.Keeps.holdAggregate (h : a.Keeps b) {p} : a.Keeps (b.holdAggregate p) := .ite (.withImp (.ite h.putAll h)) (.ite h.putAll h)
theorem Block.Keeps.chainAggregate (h : a.Keeps b) {p} : a.Keeps (chainAggregate p b) := .ite h.holdAggregate h

/-! #### Faults and engines -/

theorem Block.Keeps.faultRegistration (h : a.Keeps b) : a.Keeps (faultRegistration b) := .ite h.faultCycle.reactSafe h
theorem Block.Keeps.captureFifoDrain (h : a.Keeps b) {t} : a.Keeps (captureFifoDrain t b) := .ite h.at.drainOne h.at
theorem Block.Keeps.judgeHeadFlt (h : a.Keeps b) : a.Keeps b.judgeHeadFlt := .ite h.setFlt.queueAlarm h
theorem Block.Keeps.releaseFlt (h : a.Keeps b) : a.Keeps b.releaseFlt := .ite h.judgeHeadFlt h.setFlt
theorem Block.Keeps.lowerHold (h : a.Keeps b) {next} : a.Keeps (b.lowerHold next) := .ite h.put.event.releaseFlt h.put.event
theorem Block.Keeps.safeStateExit (h : a.Keeps b) {t} : a.Keeps (safeStateExit t b) := .ite h.at.lowerHold h.at
theorem Block.Keeps.ackSource (h : a.Keeps b) {s} : a.Keeps (b.ackSource s) := .ite h.withFlint.dropLatch h.withFlint

theorem Block.Keeps.acknowledge (h : a.Keeps b) {v} : a.Keeps (b.acknowledge v) :=
  .followReasons (.event (.withJournal (.foldl (fun _ _ h => h.ackSource) h)))

theorem Block.Keeps.judgeEngines (h : a.Keeps b) : a.Keeps b.judgeEngines := .ite h.clearLive h

theorem Block.Keeps.engineWatchdogExpiry (h : a.Keeps b) {k t} : a.Keeps (engineWatchdogExpiry k t b) := by
  unfold Machine.engineWatchdogExpiry
  extract_lets _ _ _ _ _ b3 b4 b5
  have h3 : a.Keeps b3 := .ite h.at.withDiag.flagWindow h.at.withDiag
  have h4 : a.Keeps b4 := .ite h3.reason h3
  have h5 : a.Keeps b5 := .ite h4.raiseExactly h4.raise
  exact .ite h.at h5.followE6

theorem Block.Keeps.engineRestart (h : a.Keeps b) {k dictionaryOk m} : a.Keeps (engineRestart k dictionaryOk m b) := by
  unfold Machine.engineRestart
  split
  · exact h
  · extract_lets _ _ _ _ b3 b4
    have h3 : a.Keeps b3 := .ite h.withDiag.restoreDefaults.correctAgain.loadDictionary.withNvm.keeperMoved.followRing.judgeDiag
        h.withDiag
    have h4 : a.Keeps b4 := .ite h3.drainFifos (.ite h3.drainE4 h3)
    exact h4.followE6.judgeEngines

theorem Block.Keeps.engineSelfTest (h : a.Keeps b) {k passed} : a.Keeps (engineSelfTest k passed b) :=
  .ite h (.ite h.withDiag.judgeEngines h.withDiag.raise)

theorem Block.Keeps.engineLoadMeasurement (h : a.Keeps b) {percent} : a.Keeps (engineLoadMeasurement percent b) :=
  .ite h (.foldl (fun _ _ h => h.put) h)

theorem Block.Keeps.memoryError (h : a.Keeps b) {memory address double} : a.Keeps (memoryError memory address double b) :=
  .ite h (.ite h.raise (.ite h.withBedrock h))

theorem Block.Keeps.memoryScrub (h : a.Keeps b) {errors} : a.Keeps (memoryScrub errors b) := .foldl (fun _ _ h => h.memoryError) h

theorem Block.Keeps.configSignatureCheck (h : a.Keeps b) {corrupt} : a.Keeps (configSignatureCheck corrupt b) := by
  unfold Machine.configSignatureCheck
  split
  · exact h
  · extract_lets b1
    have h1 : a.Keeps b1 := by
      unfold b1
      split
      · exact .ite h.put.withNvm h
      · exact h
    split
    · exact h1
    · exact h1.raise

theorem Block.Keeps.fltReadback (h : a.Keeps b) {level us} : a.Keeps (fltReadback level us b) :=
  .ite h (.ite (.ite h.putBit.reason.raise h.putBit) (.ite h.putBit (.ite h.putBit h)))

theorem Block.Keeps.tapPassed (h : a.Keeps b) {ch ranB} : a.Keeps (b.tapPassed ch ranB) := by
  unfold Block.tapPassed
  split
  · exact .ite h.withLanes.clearLive h
  · exact h

theorem Block.Keeps.openSlot (h : a.Keeps b) {ch start ranB release} : a.Keeps (b.openSlot ch start ranB release) := h.holdSlot.withLanes

theorem Block.Keeps.runSlot (h : a.Keeps b) {ch start again phaseA phaseB} : a.Keeps (b.runSlot ch start again phaseA phaseB) := by
  unfold Block.runSlot
  extract_lets _ _ x1
  clear_value x1
  split
  · exact h.openSlot.tapPassed
  · extract_lets b3 _ b4
    have h3 : a.Keeps b3 := by
      unfold b3
      split
      · split
        · exact h.openSlot.tapPassed
        · exact h.openSlot
      · exact h.openSlot
    have h4 : a.Keeps b4 := .ite h3.withLanes h3
    exact .ite h4.raise h3.withLanes

theorem Block.Keeps.takeSlot (h : a.Keeps b) {index} : a.Keeps (b.takeSlot index) := h.withLanes

theorem Block.Keeps.openWireSlot (h : a.Keeps b) {t index phaseA phaseB} : a.Keeps (openWireSlot t index phaseA phaseB b) :=
  .ite h.at (.ite h.at.takeSlot.releaseSlot.runSlot (.ite h.at.withLanes h.at))

theorem Block.Keeps.openWireRepeat (h : a.Keeps b) {phaseA phaseB} : a.Keeps (openWireRepeat phaseA phaseB b) := by
  unfold Machine.openWireRepeat
  split
  · exact h
  · exact .ite h h.at.withLanes.releaseSlot.runSlot

/-! #### Power states -/

theorem Block.Keeps.setMode (h : a.Keeps b) {m} : a.Keeps (b.setMode m) := h.withPower.put

theorem Block.Keeps.stopMeasuring (h : a.Keeps b) : a.Keeps b.stopMeasuring := by
  unfold Block.stopMeasuring
  split
  · exact h
  · extract_lets _ _ _ _ b4
    have h4 : a.Keeps b4 := .ite h.switchesOff.publishAll.withWin.abandonCaptures.lanesStop.impStop.dropAdvisories.keeperStop.showNominal
        h.switchesOff.publishAll.withWin.abandonCaptures.lanesStop.impStop.dropAdvisories
    exact h4.settleAveraging.withGov.setMode

theorem Block.Keeps.dryCheck (h : a.Keeps b) {ack} : a.Keeps (b.dryCheck ack) :=
  .ite h (.foldl (fun _ _ h => .raise (.foldl (fun _ _ h => h.disable) h)) h)

theorem Block.Keeps.zeroTheta (h : a.Keeps b) : a.Keeps b.zeroTheta := h.withGov.put
theorem Block.Keeps.startMeasuring (h : a.Keeps b) : a.Keeps b.startMeasuring := h.put.setMode.lanesStart.loadWindowSettings.withWin

theorem Block.Keeps.toMeasure (h : a.Keeps b) {ack} : a.Keeps (b.toMeasure ack) :=
  .dryCheck (.zeroTheta (.ite h.setMode.followE6 h.startMeasuring))

theorem Block.Keeps.toFull (h : a.Keeps b) {ack} : a.Keeps (b.toFull ack) :=
  .ite (.ite h h.toMeasure) (.dryCheck (.zeroTheta (.followE6 (.setMode (.ite h h.startMeasuring)))))

theorem Block.Keeps.leaveAwake (h : a.Keeps b) {m} : a.Keeps (b.leaveAwake m) :=
  h.stopMeasuring.drainAll.withAccess.sendClose.putAll.withPhys.withFlint.withPower

theorem Block.Keeps.handOver (h : a.Keeps b) {plan} : a.Keeps (b.handOver plan) := h.withBedrock
theorem Block.Keeps.enterSleep (h : a.Keeps b) {plan} : a.Keeps (b.enterSleep plan) := h.handOver.leaveAwake.setFlt
theorem Block.Keeps.clearObjects (h : a.Keeps b) {indices} : a.Keeps (b.clearObjects indices) := h.filterDict h
theorem Block.Keeps.forget (h : a.Keeps b) : a.Keeps b.forget := h.clearObjects.put.withJournal.withFlint.withGov.withImp.withPower
theorem Block.Keeps.enterShip (h : a.Keeps b) : a.Keeps b.enterShip := h.withBedrock.leaveAwake.forget.setFlt

theorem Block.Keeps.enterShutdown (h : a.Keeps b) {hot} : a.Keeps (b.enterShutdown hot) :=
  .setFlt (.withBedrock (.withNvm (.leaveAwake (.ite h.raise.faultCycle.put.countUp h.raise.faultCycle.put.countUp.withBedrock))))

theorem Block.Keeps.finishPage_snd (h : a.Keeps b) {m} : a.Keeps (finishPage m b).2 := by
  unfold Machine.finishPage
  split
  · exact h
  · extract_lets
    split
    · exact h.withNvm
    · exact h.withNvm.snoopNvm

theorem Block.Keeps.beginShip (h : a.Keeps b) {m} : a.Keeps (b.beginShip m) :=
  .ite h.settleJournal.readSummaries.startSummary h.settleJournal.readSummaries.enterShip

theorem Block.Keeps.beginReset (h : a.Keeps b) : a.Keeps b.beginReset :=
  h.stopMeasuring.switchesOff.drainAll.withAccess.sendClose.putAll.withPhys.withPower

theorem Block.Keeps.resumePending (h : a.Keeps b) {m} : a.Keeps (b.resumePending m) :=
  .ite h (.ite h.beginShip (.ite h.enterSleep (.ite h.beginReset h)))

theorem Block.Keeps.wakeTones (h : a.Keeps b) {us census} : a.Keeps (b.wakeTones us census) :=
  .withLink (.withPhys (.ite h.sendTone.sendTone h.sendTone))

theorem Block.Keeps.acceptCommand (h : a.Keeps b) {code ack m} : a.Keeps (b.acceptCommand code ack m) := by
  unfold Block.acceptCommand
  extract_lets
  exact .ite h.event.wakeTones (.ite (.ite h.event.stopMeasuring.put h.event)
      (.ite h.event.toMeasure.put (.ite (.ite h.event h.event.toFull.put) h.event.closeTransfers.withPower.put.resumePending)))

theorem Block.Keeps.powerCommand_snd (h : a.Keeps b) {code ack m} : a.Keeps (powerCommand code ack m b).2 := by
  unfold Machine.powerCommand
  split
  · exact h
  · exact h.acceptCommand

theorem Block.Keeps.commandRow (h : a.Keeps b) {code ack m} : a.Keeps (commandRow code ack m b) :=
  .ite h h.disarm.powerCommand_snd.emit.noteEdges

theorem Block.Keeps.transitionComplete (h : a.Keeps b) : a.Keeps (transitionComplete b) := .ite h.put h

theorem Block.Keeps.commLoss (h : a.Keeps b) {t m} : a.Keeps (commLoss t m b) :=
  .ite h.at h.at.raise.faultCycle.switchesOff.closeTransfers.put.resumePending

theorem Block.Keeps.afresh (h : a.Keeps b) {mode} : a.Keeps (b.afresh mode) := h.fresh.withNvm
theorem Block.Keeps.porRelease (h : a.Keeps b) : a.Keeps (porRelease b) := .ite h.afresh.withOut.withFree h
theorem Block.Keeps.porAssert (h : a.Keeps b) : a.Keeps (porAssert b) := h.afresh.withOut.withFree
theorem Block.Keeps.vstkRangeCheck (h : a.Keeps b) {decivolts} : a.Keeps (vstkRangeCheck decivolts b) := .ite h.raise h
theorem Block.Keeps.vstkInRange (h : a.Keeps b) : a.Keeps (vstkInRange b) := .ite h.clearLive h
theorem Block.Keeps.railBad (h : a.Keeps b) {r} : a.Keeps (b.railBad r) := h.withPower.raise
theorem Block.Keeps.vinLow (h : a.Keeps b) : a.Keeps (vinLow b) := .ite h.railBad h
theorem Block.Keeps.railWindowFault (h : a.Keeps b) {r} : a.Keeps (railWindowFault r b) := .ite h.railBad h
theorem Block.Keeps.railGood (h : a.Keeps b) {r} : a.Keeps (railGood r b) := .ite h (.ite h.withPower.clearLive h.withPower)
theorem Block.Keeps.supplyFail (h : a.Keeps b) : a.Keeps (supplyFail b) := .ite h.withNvm.enterSleep h

theorem Block.Keeps.pwrEnComparison (h : a.Keeps b) {level} : a.Keeps (pwrEnComparison level b) :=
  .ite h (.ite h.withPower.reason.raise h.withPower)

theorem Block.Keeps.startWake (h : a.Keeps b) {cause slept} : a.Keeps (b.startWake cause slept) := h.switchesOff.withBedrock.withPower
theorem Block.Keeps.keepWake (h : a.Keeps b) {src extended} : a.Keeps (b.keepWake src extended) := .ite h.withPower h

theorem Block.Keeps.wakeFromSleep (h : a.Keeps b) {src slept} : a.Keeps (b.wakeFromSleep src slept) :=
  .ite h (.startWake (.ite h.withBedrock h))

theorem Block.Keeps.wakeEvent (h : a.Keeps b) {src slept} : a.Keeps (wakeEvent src slept b) := .ite h.wakeFromSleep h.keepWake

theorem Block.Keeps.extendedWakeEvent (h : a.Keeps b) {src slept} : a.Keeps (extendedWakeEvent src slept b) := by
  unfold Machine.extendedWakeEvent
  split
  · split
    · exact h
    · extract_lets b1
      have h1 : a.Keeps b1 := by
        unfold b1
        split
        · exact .ite h h.emit
        · exact h
      exact .ite h1 h1.startWake
  · exact .ite h.wakeFromSleep h.keepWake

theorem Block.Keeps.deferredWakeStart (h : a.Keeps b) {slept} : a.Keeps (deferredWakeStart slept b) := by
  unfold Machine.deferredWakeStart
  split
  · exact .ite h.startWake h
  · exact h

theorem Block.Keeps.supplyAttemptTimeout (h : a.Keeps b) : a.Keeps (supplyAttemptTimeout b) := .ite h (.ite h.withPower h.withPower)
theorem Block.Keeps.supplyAttemptRetry (h : a.Keeps b) : a.Keeps (supplyAttemptRetry b) := .ite h.withPower h
theorem Block.Keeps.vin5Good (h : a.Keeps b) : a.Keeps (vin5Good b) := .ite h.withPower h

theorem Block.Keeps.coreReset (h : a.Keeps b) : a.Keeps b.coreReset := by
  unfold Block.coreReset
  extract_lets _ _ _ _ _ _ _ _ _ _ _ _ _ _ _ _ _ b9
  have h9 : a.Keeps b9 :=
    h.clearEveryLive.afresh.withPower.withBedrock.withJournal.withFlint.withGov.withKeeper.withImp.withHost.withDiag
  exact (h9.filterDict h.clearEveryLive).withOut.withFree

theorem Block.Keeps.coreResetRelease (h : a.Keeps b) {strapHigh stackMv} : a.Keeps (coreResetRelease strapHigh stackMv b) :=
  .ite h h.coreReset.put.withHost.withPower

theorem Block.Keeps.trimChannels (h : a.Keeps b) : a.Keeps b.trimChannels := .foldl (fun _ _ h => h.editCh.putAll) h.withGov

theorem Block.Keeps.loadFactory (h : a.Keeps b) {r} : a.Keeps (b.loadFactory r) :=
  .reason (.foldl (fun _ _ h => h.setHealth) (.ite h.withNvm.nvmFlag h.withNvm.nvmFlag.recordFault))

theorem Block.Keeps.loadBanks (h : a.Keeps b) {m} : a.Keeps (b.loadBanks m) :=
  .trimChannels (.judgeEndurance (.loadSummaries (.loadDictionary (.ite h.putAll h))))

theorem Block.Keeps.loseLatch (h : a.Keeps b) {x} : a.Keeps (b.loseLatch x) := by
  unfold Block.loseLatch
  split
  · exact h.clearObjects.withFlint
  · exact h.clearObjects
  · exact h.put
  · exact h.withBedrock
  · exact h.withPower
  · exact h.clearObjects
  · exact h.put.editCh.withImp
  · exact h.putAll.editCh
  · exact h.withImp.putAll

theorem Block.Keeps.restoreLatches (h : a.Keeps b) {r} : a.Keeps (b.restoreLatches r) :=
  .foldl (fun _ _ h => h.loseLatch.raise) (.ite h.withJournal h.withJournal.countUp.raise)

theorem Block.Keeps.countSlept (h : a.Keeps b) : a.Keeps b.countSlept := h.withImp
theorem Block.Keeps.creditSleep (h : a.Keeps b) : a.Keeps b.creditSleep := .withBedrock (.foldl (fun _ _ h => h.creditChannel) h)
theorem Block.Keeps.restoreHold (h : a.Keeps b) : a.Keeps b.restoreHold := .withFlint (.setFlt (.ite h.lowerHold h))
theorem Block.Keeps.writeWakeRecord (h : a.Keeps b) : a.Keeps b.writeWakeRecord := h.putAll

theorem Block.Keeps.startEvents (h : a.Keeps b) : a.Keeps b.startEvents :=
  .ite h.event (.ite (.event (.foldl (fun _ _ h => h.event) h.event)) (.foldl (fun _ _ h => h.event) h.event))

theorem Block.Keeps.startPorts (h : a.Keeps b) : a.Keeps b.startPorts := .ite h.putAll h.putAll
theorem Block.Keeps.applyLoaded (h : a.Keeps b) : a.Keeps b.applyLoaded := h.settleAveraging.loadWindowSettings.put.judgeDiag.put.withHost

theorem Block.Keeps.headFollowUp (h : a.Keeps b) : a.Keeps b.headFollowUp :=
  .ite (.ite h.attend h) (.ite (.wakeTones (.ite h.attend h)) (.ite (.wakeTones (.ite h.attend h)) (.withLink (.ite h.attend h))))

theorem Block.Keeps.engineBootComplete (h : a.Keeps b) {r t m} : a.Keeps (engineBootComplete r t m b) := by
  unfold Machine.engineBootComplete
  split
  · exact h
  · extract_lets _ _ _ _ b3 _ _ b5 b6 b7
    have h3 : a.Keeps b3 := .foldl (fun _ _ h => h.raise) h.at.withNvm.countCorrected.loadFactory.loadBanks.restoreLatches
    have h5 : a.Keeps b5 := .ite h3.withBedrock.raise.faultCycle h3.withBedrock
    have h6 : a.Keeps b6 := .ite h5.countSlept.creditSleep.countUp h5
    have h7 : a.Keeps b7 := .ite h6.put h6
    exact h7.applyLoaded.restoreHold.writeWakeRecord.startPorts.startEvents.withPower.setMode.headFollowUp.followReasons

theorem Block.Keeps.bedrockTone (h : a.Keeps b) : a.Keeps b.bedrockTone := h.emit
theorem Block.Keeps.persistTone (h : a.Keeps b) {found now} : a.Keeps (b.persistTone found now) := .ite h.withBedrock.bedrockTone h
theorem Block.Keeps.endBalancing (h : a.Keeps b) {flag} : a.Keeps (b.endBalancing flag) := h.switchesOff.withBedrock

theorem Block.Keeps.sleepHeat (h : a.Keeps b) {lanes} : a.Keeps (b.sleepHeat lanes) :=
  .ite (.enterShutdown (.ite h.endBalancing h)) (.ite h.endBalancing h)

theorem Block.Keeps.periodicCheck (h : a.Keeps b) {cells therm lanes bedTime} : a.Keeps (periodicCheck cells therm lanes bedTime b) :=
  .ite h h.withBedrock.persistTone.sleepHeat

theorem Block.Keeps.confirm (h : a.Keeps b) {l bedTime} : a.Keeps (b.confirm l bedTime) := by
  unfold Block.confirm
  split
  · exact h
  · exact .bedrockTone (.withBedrock (.endBalancing (.ite h.withBedrock h)))

theorem Block.Keeps.crossingConfirmation (h : a.Keeps b) {cells therm bedTime} : a.Keeps (crossingConfirmation cells therm bedTime b) :=
  .ite h (.ite h.withBedrock.persistTone h.withBedrock.confirm)

theorem Block.Keeps.endSleepHalf (h : a.Keeps b) {ms} : a.Keeps (b.endSleepHalf ms) := h.switchesOff.withBedrock.withGov

theorem Block.Keeps.sleepBalancePhase (h : a.Keeps b) {odd ms} : a.Keeps (sleepBalancePhase odd ms b) := by
  unfold Machine.sleepBalancePhase
  split
  · exact h
  · extract_lets
    split
    · exact h.endSleepHalf
    · exact .foldl (fun _ _ h => .ite h.editCh h) h.endSleepHalf

theorem Block.Keeps.sleepBalanceSecond (h : a.Keeps b) {lanes} : a.Keeps (sleepBalanceSecond lanes b) := by
  unfold Machine.sleepBalanceSecond
  split
  · exact h
  · extract_lets _ b1 _ b3
    have h1 : a.Keeps b1 := .foldl (fun _ _ h => .ite h (.ite (.editCh (.ite h.put.editCh h.put)) (.ite h.put.editCh h.put))) h
    have h3 : a.Keeps b3 := .ite h1.withBedrock.endBalancing h1.withBedrock
    exact h3.sleepHeat

theorem Block.Keeps.thermalShutdown_snd (h : a.Keeps b) {m} : a.Keeps (thermalShutdown m b).2 := by
  unfold Machine.thermalShutdown
  split
  · exact h
  · exact h.finishPage_snd.enterShutdown

theorem Block.Keeps.shutdownTemperatureCheck (h : a.Keeps b) {lanes slept} : a.Keeps (shutdownTemperatureCheck lanes slept b) :=
  .ite h (.ite h.put.startWake h.put)

/-! #### Storage commands -/

theorem Block.Keeps.afterProgram (h : a.Keeps b) {was m} : a.Keeps (b.afterProgram was m) := by
  unfold Block.afterProgram
  split
  · exact h
  · exact .ite h (.ite (.ite h.enterShip h) h.resumePending)

theorem Block.Keeps.sectorErase_snd (h : a.Keeps b) {m} : a.Keeps (sectorErase m b).2 := by
  unfold Machine.sectorErase
  split
  · exact h
  · exact h.sectorEraseComplete_snd.afterProgram

theorem Block.Keeps.nvmPage_snd (h : a.Keeps b) {m} : a.Keeps (nvmPage m b).2 := by
  unfold Machine.nvmPage
  split
  · exact h
  · exact h.pageProgram_snd.afterProgram

theorem Block.Keeps.saveComplete (h : a.Keeps b) {r m} : a.Keeps (saveComplete r m b) := .ite h h.saveReadBack.afterProgram

theorem Block.Keeps.summaryWriteComplete (h : a.Keeps b) {r m} : a.Keeps (summaryWriteComplete r m b) := by
  unfold Machine.summaryWriteComplete
  split
  · exact h
  · split
    · exact h
    · extract_lets _ b2
      have h2 : a.Keeps b2 := .ite h.noteReadBack.switchSummaryBank.judgeEndurance.endProgram h.noteReadBack.endProgram
      exact h2.afterProgram

/-! #### Ports and pulses -/

theorem Block.Keeps.repeatAlarm (h : a.Keeps b) : a.Keeps b.repeatAlarm := .ite h h.sendAlarm

theorem Block.Keeps.repeatLower (h : a.Keeps b) {p c ui} : a.Keeps (b.repeatLower p c ui) :=
  .ite h.repeatAlarm (.ite h (.ite h.sendPulse h.sendHeld))

theorem Block.Keeps.pulseRepeat (h : a.Keeps b) {p ui} : a.Keeps (pulseRepeat p ui b) := by
  unfold Machine.pulseRepeat
  split
  · exact h
  · extract_lets _ b1 b2
    have h1 : a.Keeps b1 := .ite h.count32 h
    have h2 : a.Keeps b2 := .ite h1 h1.heard
    exact .ite h2 (.ite (.ite h2.sendHeld h2.sendPulse) h2.repeatLower)

theorem Block.Keeps.repeatTone (h : a.Keeps b) {p extended} : a.Keeps (b.repeatTone p extended) :=
  .ite h (.ite (.ite h.sendTone h) (.ite h.emit h))

theorem Block.Keeps.pullWake (h : a.Keeps b) {p} : a.Keeps (b.pullWake p) := .ite (.ite h.withHost.attend h.withHost) h

theorem Block.Keeps.wakeTone (h : a.Keeps b) {p extended t slept} : a.Keeps (wakeTone p extended t slept b) := by
  unfold Machine.wakeTone
  extract_lets b1
  have h1 : a.Keeps b1 := .ite h.at h
  exact .ite h1 (.ite (.ite h1.pullWake.extendedWakeEvent h1) (.ite h1
      (.ite h1.repeatTone.pullWake.extendedWakeEvent h1.repeatTone.pullWake.wakeEvent)))

theorem Block.Keeps.answerVolts (h : a.Keeps b) : a.Keeps b.answerVolts := .ite h.withLink h.respond

theorem Block.Keeps.answer (h : a.Keeps b) {x} : a.Keeps (b.answer x) := by
  unfold Block.answer
  split
  · exact h.answerVolts
  · exact h.respond
  · exact h.respond
  · exact h.respond
  · exact h
  · exact h

theorem Block.Keeps.classified (h : a.Keeps b) {c t} : a.Keeps (classified c t b) := .ite h.at.heard.answer h.at.heard

theorem Block.Keeps.streamResponseForm (h : a.Keeps b) {c} : a.Keeps (streamResponseForm c b) := by
  unfold Machine.streamResponseForm
  split
  · exact h
  · extract_lets
    split
    · exact .ite h (.ite h.withLink.respond h.withLink)
    · exact .ite h (.ite h.withLink.respond h.withLink)
    · exact h
    · exact h
    · exact h
    · exact h

theorem Block.Keeps.linkChanged (h : a.Keeps b) {p} : a.Keeps (b.linkChanged p) := .ite h.put.put.withLink h.put.put

theorem Block.Keeps.setLost (h : a.Keeps b) {p on} : a.Keeps (b.setLost p on) := by
  unfold Block.setLost
  split <;> exact h.withPhys

theorem Block.Keeps.portSignalDetect (h : a.Keeps b) {p} : a.Keeps (portSignalDetect p b) := .ite h.put h

theorem Block.Keeps.portTrained (h : a.Keeps b) {p t} : a.Keeps (portTrained p t b) := by
  unfold Machine.portTrained
  split
  · exact h
  · extract_lets _ b2
    have h2 : a.Keeps b2 := .ite h.at.put.linkChanged.setLost h.at.put.linkChanged.setLost.clearLive
    exact .ite h2.withFlint.sendAlarm h2

theorem Block.Keeps.trainingFail (h : a.Keeps b) {p} : a.Keeps (trainingFail p b) := .ite h.put.put h

theorem Block.Keeps.portDown (h : a.Keeps b) {p cause t} : a.Keeps (portDown p cause t b) := by
  unfold Machine.portDown
  split
  · exact h
  · extract_lets _ _ b3
    have h3 : a.Keeps b3 := by
      unfold b3
      split
      · exact h.at.putAll.linkChanged.count32.countUp
      · exact h.at.putAll.linkChanged.count32
      · exact h.at.putAll.linkChanged.count32
      · exact h.at.putAll.linkChanged.count32
    exact .ite h3.setLost h3.setLost.raise

/-! #### Reads of the dictionary -/

theorem Block.Keeps.wasRead (h : a.Keeps b) {ix} : a.Keeps (b.wasRead ix) := .ite h.withPower h

/-! #### Writes of the dictionary -/

theorem Block.Keeps.armedLast (h : a.Keeps b) {v} : a.Keeps (b.armedLast v) := h.withAccess

theorem Block.Keeps.unlockWritten_snd (h : a.Keeps b) {v} : a.Keeps (b.unlockWritten v).2 := by
  unfold Block.unlockWritten
  split
  · exact h.put.armedLast
  · split
    · split <;> exact h.put
    · exact h.put

theorem Block.Keeps.writeUnlock_snd (h : a.Keeps b) {sub data most} : a.Keeps (b.writeUnlock sub data most).2 := by
  unfold Block.writeUnlock
  split
  · exact h.armedLast
  · split
    · exact h.armedLast
    · exact h.unlockWritten_snd

theorem Block.Keeps.eachValue (h : a.Keeps b) {vals f} (hf : ∀ {b i v}, a.Keeps b → a.Keeps (f b i v)) : a.Keeps (b.eachValue vals f) :=
  .foldl (fun _ _ h => hf h) h

theorem Block.Keeps.cellCountWritten (h : a.Keeps b) {v} : a.Keeps (b.cellCountWritten v) :=
  .seedPaths (.withImp (.foldl (fun _ _ h => .ite h.put h) (h.put.trimChannels.filterDict h.put.trimChannels)))

theorem Block.Keeps.removedCleared (h : a.Keeps b) {i} : a.Keeps (b.removedCleared i) := h.put.editCh.withImp
theorem Block.Keeps.chargePreset (h : a.Keeps b) {v} : a.Keeps (b.chargePreset v) := h.put.shiftAnchors
theorem Block.Keeps.windowSettingsWritten (h : a.Keeps b) : a.Keeps b.windowSettingsWritten := .ite h.withWin h

theorem Block.Keeps.functionWritten (h : a.Keeps b) {k v} : a.Keeps (b.functionWritten k v) := by
  unfold Block.functionWritten
  extract_lets _ _ _ _ _ _ _ b5 b6
  have h5 : a.Keeps b5 := .ite h.put.withAux.withThermal.putBit.dropAdvisories h.put.withAux.withThermal.putBit
  have h6 : a.Keeps b6 := .ite h5 h5.clearLive
  exact .ite h (.ite h6 h6.clearLive)

theorem Block.Keeps.ringModeWritten (h : a.Keeps b) {v} : a.Keeps (b.ringModeWritten v) := by
  unfold Block.ringModeWritten
  extract_lets _ _ b2 _ b4
  have h2 : a.Keeps b2 := .ite h.put.emit.linkChanged.count32 h.put
  have h4 : a.Keeps b4 := .ite h2.put.setLost h2.put.setLost.clearLive
  exact .ite (.ite h.put.put h.put) (.ite h4.withLink.putBit h4)

theorem Block.Keeps.defaultsApplied (h : a.Keeps b) : a.Keeps b.defaultsApplied := by
  unfold Block.defaultsApplied
  extract_lets _ _ b3 b4
  have h3 : a.Keeps b3 := .dropTemps (.dropSoc
      (.foldl (fun _ _ h => h.entryChanged) h.askAveraging.windowSettingsWritten.judgeDiag.throttleSourceWritten))
  have h4 : a.Keeps b4 := .ite h3.ringModeWritten h3.followRing
  exact h4.withHost

theorem Block.Keeps.restoreWritten (h : a.Keeps b) {v} : a.Keeps (b.restoreWritten v) := h.acceptRestore.keeperMoved.defaultsApplied

theorem Block.Keeps.applyValues (h : a.Keeps b) {ix vals} : a.Keeps (b.applyValues ix vals) := by
  unfold Block.applyValues
  extract_lets
  exact .ite h.cellCountWritten (.ite h.chainTimeWritten
      (.ite h.withLink (.ite h.ringModeWritten (.ite h.putAll.withHost
      (.ite h.putAll.askAveraging (.ite h.putAll.windowSettingsWritten
      (.ite h.putAll.keeperMoved (.ite h.chargePreset
      (.ite (h.eachValue fun h => h.functionWritten) (.ite h.enableWritten
      (.ite (h.eachValue fun h => h.targetWritten) (.ite (h.eachValue fun h => h.removedCleared)
      (.ite (h.eachValue fun h => h.timerWritten) (.ite (.ite h.putAll.throttleSourceWritten h.putAll)
      (.ite (h.eachValue fun h => h.put.editCh) (.ite h.governorFlagsCleared
      (.ite (h.eachValue fun h => h.channelStateCleared) (.ite h.bleedResistorWritten
      (.ite (.foldl (fun _ _ h => .ite h h.put.entryChanged) h) (.ite h.acknowledge
      (.ite (.ite h.putBit h) (.ite h.withJournal
      (.ite h.acceptSave (.ite h.restoreWritten (.ite h.putAll.judgeDiag h.putAll)))))))))))))))))))))))))

theorem Block.Keeps.applySlices (h : a.Keeps b) {ix sl} : a.Keeps (b.applySlices ix sl) :=
  .ite h.withSocTable.dropSoc (.ite h.withTempCurve.dropTemps h.applyValues)

theorem Block.Keeps.snoopCfg (h : a.Keeps b) {ix sl} : a.Keeps (b.snoopCfg ix sl) := .foldl (fun _ _ h => .ite h.put h) h

theorem Block.Keeps.applyWrite (h : a.Keeps b) {o sl} : a.Keeps (b.applyWrite o sl) := by
  unfold Block.applyWrite
  extract_lets _ _ _ b3
  have h3 : a.Keeps b3 := .ite h.applySlices.snoopCfg.withNvm.sendChainConfig h.applySlices.snoopCfg.withNvm
  exact h3.noteEdges

theorem Block.Keeps.sendCommand (h : a.Keeps b) {p seq payload} : a.Keeps (b.sendCommand p seq payload) := h.sendOn

theorem Block.Keeps.dispatchOne (h : a.Keeps b) {i} : a.Keeps (b.dispatchOne i) := by
  unfold Block.dispatchOne
  split
  · exact h
  · exact .ite h h.withLink.sendCommand

theorem Block.Keeps.dispatch (h : a.Keeps b) : a.Keeps b.dispatch := .foldl (fun _ _ h => h.dispatchOne) h
theorem Block.Keeps.askPosition (h : a.Keeps b) {p payload w} : a.Keeps (b.askPosition p payload w) := h.withLink

theorem Block.Keeps.askConsent (h : a.Keeps b) {who ix sub data image ps} : a.Keeps (b.askConsent who ix sub data image ps) :=
  .dispatch (.foldl (fun _ _ h => h.askPosition) h.withLink)

theorem Block.Keeps.writePower_snd (h : a.Keeps b) {m sub data most} : a.Keeps (b.writePower m sub data most).2 := by
  unfold Block.writePower
  split
  · exact h
  · split
    · exact h
    · extract_lets _ r
      have hr : a.Keeps r.2 := h.powerCommand_snd
      split
      · dsimp only
        exact hr.noteEdges
      · dsimp only
        exact .noteEdges (.ite hr.withFree hr)

theorem Block.Keeps.writeObject_snd (h : a.Keeps b) {ix sub data most who} : a.Keeps (b.writeObject ix sub data most who).2 := by
  unfold Block.writeObject
  split
  · exact h
  · extract_lets
    split
    · exact h.askConsent
    · dsimp only
      exact h.applyWrite

theorem Block.Keeps.writeAccess_snd (h : a.Keeps b) {m ix sub data most who} : a.Keeps (b.writeAccess m ix sub data most who).2 := by
  unfold Block.writeAccess
  split
  · exact h.writeUnlock_snd
  · split
    · exact h.disarm.writePower_snd
    · exact h.disarm.writeObject_snd

theorem Block.Keeps.writeRow (h : a.Keeps b) {ix sub data m} : a.Keeps (writeRow ix sub data m b) := by
  unfold Machine.writeRow
  split
  · exact h
  · extract_lets
    split
    · exact h.writeAccess_snd.emit
    · exact h.writeAccess_snd.emit
    · exact h.writeAccess_snd

theorem Block.Keeps.unlockExpiry (h : a.Keeps b) : a.Keeps (unlockExpiry b) := h.put

/-! #### Transfers -/

theorem Block.Keeps.readNow_snd (h : a.Keeps b) {m ix sub} : a.Keeps (b.readNow m ix sub).2 := by
  unfold Block.readNow
  split
  · exact h
  · exact h.wasRead

theorem Block.Keeps.writeNow_snd (h : a.Keeps b) {m ix sub data who} : a.Keeps (b.writeNow m ix sub data who).2 := h.writeAccess_snd

theorem Block.Keeps.noteSkipped (h : a.Keeps b) {n} : a.Keeps (b.noteSkipped n) := by
  unfold Block.noteSkipped
  split
  · exact h
  · exact h.withJournal

theorem Block.Keeps.openTransfer (h : a.Keeps b) {t} : a.Keeps (b.openTransfer t) := h.withAccess

theorem Block.Keeps.readsFlash (h : a.Keeps b) {ix sub} : a.Keeps (b.readsFlash ix sub) := by
  unfold Block.readsFlash
  split
  · exact h
  · split
    · exact h.readSummaries
    · split
      · exact h
      · exact h.readFlash

theorem Block.Keeps.initRead_snd (h : a.Keeps b) {m r ix sub l} : a.Keeps (b.initRead m r ix sub l).2 := by
  unfold Block.initRead
  extract_lets
  split
  · exact h.withAccess
  · split
    · exact h.withAccess
    · split
      · exact h.withAccess
      · split
        · exact h.withAccess
        · split
          · exact h.withAccess.noteSkipped.openTransfer
          · exact h.withAccess.readsFlash.openTransfer

theorem Block.Keeps.refusedWrite (h : a.Keeps b) {ix} : a.Keeps (b.refusedWrite ix) := .ite h.armedLast h.disarm

theorem Block.Keeps.initWrite_snd (h : a.Keeps b) {r ix sub l} : a.Keeps (b.initWrite r ix sub l).2 := by
  unfold Block.initWrite
  extract_lets b1
  have h1 : a.Keeps b1 := .ite h h.disarm
  split
  · exact h1.withAccess.refusedWrite
  · split
    · exact h1.withAccess.refusedWrite
    · split
      · exact h1.withAccess.refusedWrite
      · exact h1.withAccess.openTransfer

theorem Block.Keeps.noTransfer_snd (h : a.Keeps b) {r length segment} : a.Keeps (b.noTransfer r length segment).2 := by
  unfold Block.noTransfer
  split
  · exact h.withAccess
  · exact h

theorem Block.Keeps.closeTransfer (h : a.Keeps b) : a.Keeps b.closeTransfer := h.withAccess
theorem Block.Keeps.breakTransfer (h : a.Keeps b) {t} : a.Keeps (b.breakTransfer t) := .ite h.closeTransfer.refusedWrite h.closeTransfer

theorem Block.Keeps.segmentRead_snd (h : a.Keeps b) {r s} : a.Keeps (b.segmentRead r s).2 := by
  unfold Block.segmentRead
  split
  · exact h.noTransfer_snd
  · extract_lets x1
    clear_value x1
    split
    · exact h.breakTransfer
    · split
      · exact h
      · split
        · exact h.breakTransfer
        · exact h.openTransfer

theorem Block.Keeps.segmentWrite_snd (h : a.Keeps b) {r s data} : a.Keeps (b.segmentWrite r s data).2 := by
  unfold Block.segmentWrite
  extract_lets
  split
  · exact h.noTransfer_snd
  · extract_lets b1
    have h1 : a.Keeps b1 := .ite h.refusedWrite h
    split
    · exact h1
    · split
      · exact h1
      · split
        · exact h.breakTransfer
        · split
          · exact h
          · split
            · exact h.breakTransfer
            · split
              · exact h.breakTransfer
              · exact h.openTransfer

theorem Block.Keeps.moveCursor (h : a.Keeps b) {c} : a.Keeps (b.moveCursor c) := by
  unfold Block.moveCursor
  split
  · exact h
  · exact h.withJournal

theorem Block.Keeps.segmentEnd_snd (h : a.Keeps b) {m r total who} : a.Keeps (b.segmentEnd m r total who).2 := by
  unfold Block.segmentEnd
  split
  · exact h.noTransfer_snd
  · extract_lets
    split
    · split
      · exact h.closeTransfer.refusedWrite
      · exact h.closeTransfer.writeAccess_snd
    · split
      · exact h.closeTransfer
      · exact h.closeTransfer.moveCursor.wasRead

theorem Block.Keeps.setHostPort (h : a.Keeps b) {c p} : a.Keeps (b.setHostPort c p) := by
  unfold Block.setHostPort
  split <;> exact h.withHost

theorem Block.Keeps.closeHost (h : a.Keeps b) {c} : a.Keeps (b.closeHost c) := .ite h.withAccess.setHostPort h.withAccess

theorem Block.Keeps.segmentTimeout (h : a.Keeps b) {r} : a.Keeps (segmentTimeout r b) := by
  unfold Machine.segmentTimeout
  split
  · exact h
  · split
    · exact .ite h h.withAccess
    · exact .ite h.closeHost h
    · exact .ite h.closeHost h

theorem Block.Keeps.sendResponse (h : a.Keeps b) {was seq payload} : a.Keeps (b.sendResponse was seq payload) :=
  .ite h.queueResponse h.emit

theorem Block.Keeps.settled_snd {x : Option Reply × Block} (h : a.Keeps x.2) : a.Keeps (settled x).2 := h

theorem Block.Keeps.chainCommand (h : a.Keeps b) {seq op ix sub run} (hr : ∀ {b}, a.Keeps b → a.Keeps (run b).2) :
    a.Keeps (b.chainCommand seq op ix sub run) := by
  unfold Block.chainCommand
  extract_lets
  split
  · exact h
  · split
    · exact h.heard.queueResponse
    · exact (hr h.heard).withAccess.sendResponse

theorem Block.Keeps.journalRead (h : a.Keeps b) {r l m} : a.Keeps (journalRead r l m b) := by
  unfold Machine.journalRead
  split
  · exact h
  · extract_lets
    split
    · exact h.initRead_snd.emit
    · split
      · exact h.initRead_snd
      · exact h.initRead_snd.closeTransfer.moveCursor.emit.emit

/-! #### The link at a node -/

theorem Block.Keeps.countCrc (h : a.Keeps b) {x} : a.Keeps (b.countCrc x) := by
  unfold Block.countCrc
  split <;> exact h.count32.withLink

theorem Block.Keeps.countFrame (h : a.Keeps b) {p fault} : a.Keeps (b.countFrame p fault) := by
  unfold Block.countFrame
  split
  · exact h.count32.heard
  · exact h.countCrc
  · exact h.count32

theorem Block.Keeps.frameForward (h : a.Keeps b) {f} : a.Keeps (frameForward f b) :=
  .ite h (.ite h.setSending.emit (.ite h.withLink h.count32))

theorem Block.Keeps.passOn (h : a.Keeps b) {p f} : a.Keeps (b.passOn p f) := .ite (.ite h h.emit) (.ite h h.frameForward)
theorem Block.Keeps.unknownOperation (h : a.Keeps b) {f} : a.Keeps (b.unknownOperation f) := .ite h (h.chainCommand fun h => h)

theorem Block.Keeps.frameReceive (h : a.Keeps b) {p stray inside ending f} : a.Keeps (frameReceive p stray inside ending f b) := by
  unfold Machine.frameReceive
  split
  · exact h
  · extract_lets
    exact .ite h.countUp (.ite h.countUp.countFrame (.ite h.countUp.countFrame.passOn.unknownOperation h.countUp.countFrame.passOn))

theorem Block.Keeps.linkCrcRate (h : a.Keeps b) : a.Keeps (linkCrcRate b) := by
  unfold Machine.linkCrcRate
  split
  · exact h
  · extract_lets _ _ _ _ _ _ b2 b3
    have h2 : a.Keeps b2 := .ite h.withLink.raise h.withLink
    have h3 : a.Keeps b3 := .ite h2.raise h2
    exact .ite h3.clearLive h3

theorem Block.Keeps.queueCensus (h : a.Keeps b) {f} : a.Keeps (b.queueCensus f) := h.withLink
theorem Block.Keeps.closeTop (h : a.Keeps b) {t overflow ring} : a.Keeps (b.closeTop t overflow ring) := h.withLink.queueCensus

theorem Block.Keeps.takeCensus (h : a.Keeps b) {number payload} : a.Keeps (b.takeCensus number payload) :=
  .ite (.ite h.withLink.emit h.withLink) (.closeTop (.ite h.withLink.emit h.withLink))

theorem Block.Keeps.census (h : a.Keeps b) {p number payload} : a.Keeps (census p number payload b) :=
  .ite h (.ite (.ite h.emit h) (.ite h.turnTo.queueCensus.withLink.put.keeperMoved h.turnTo.queueCensus.takeCensus))

theorem Block.Keeps.censusEcho (h : a.Keeps b) {number ring} : a.Keeps (censusEcho number ring b) := by
  unfold Machine.censusEcho
  split
  · exact h
  · exact .ite h.closeTop h.withLink

theorem Block.Keeps.censusEchoTimeout (h : a.Keeps b) : a.Keeps (censusEchoTimeout b) := by
  unfold Machine.censusEchoTimeout
  split
  · exact h
  · exact h.closeTop

theorem Block.Keeps.censusReply (h : a.Keeps b) {number payload} : a.Keeps (censusReply number payload b) := by
  unfold Machine.censusReply
  split
  · exact h
  · exact h.withLink.queueCensus

theorem Block.Keeps.commit (h : a.Keeps b) {number top flags t} : a.Keeps (commit number top flags t b) := by
  unfold Machine.commit
  extract_lets
  split
  · exact h.at
  · split
    · exact h.at.withLink.withLink.putAll.keeperMoved
    · exact .ite h.at.withLink h.at.withLink.withLink.put.keeperMoved

theorem Block.Keeps.probeSweep (h : a.Keeps b) {p sweeps count} : a.Keeps (probeSweep p sweeps count b) := .ite h h.withLink

theorem Block.Keeps.probe (h : a.Keeps b) {p t} : a.Keeps (probe p t b) :=
  .ite h.at (.ite (.sendHeld (.ite h.at.withLink.sendPulse h.at.withLink)) (.ite h.at.withLink.sendPulse h.at.withLink))

theorem Block.Keeps.delays (h : a.Keeps b) {split table} : a.Keeps (delays split table b) :=
  .ite h (.ite h.withLink.put h.withLink.putAll)

theorem Block.Keeps.chainConfig (h : a.Keeps b) {image} : a.Keeps (chainConfig image b) :=
  .ite h h.withNvm.putAll.keeperMoved.followRing.withChainSet.withImp

/-! #### The head -/

theorem Block.Keeps.openTrain (h : a.Keeps b) {cls perWindow held} : a.Keeps (b.openTrain cls perWindow held) :=
  .withLink (.ite h.withLink h)

theorem Block.Keeps.ownAnswer (h : a.Keeps b) {cls} : a.Keeps (b.ownAnswer cls) := .ite h.takeSnap.noteEdges h.answer
theorem Block.Keeps.startTrain (h : a.Keeps b) {cls perWindow} : a.Keeps (b.startTrain cls perWindow) := h.headPulse.openTrain.ownAnswer
theorem Block.Keeps.dropTrigger (h : a.Keeps b) : a.Keeps b.dropTrigger := h.count32
theorem Block.Keeps.waitFor (h : a.Keeps b) {cls} : a.Keeps (b.waitFor cls) := h.withLink

theorem Block.Keeps.request (h : a.Keeps b) {cls perWindow} : a.Keeps (b.request cls perWindow) :=
  .ite h.waitFor (.ite h.startTrain (.ite h.waitFor (.ite h.withLink h.startTrain)))

theorem Block.Keeps.kick (h : a.Keeps b) : a.Keeps b.kick :=
  .ite h (.foldl (fun _ _ h => .ite h.withLink.request h) (.ite h.withLink.startTrain h))

theorem Block.Keeps.snapCause (h : a.Keeps b) : a.Keeps b.snapCause := .ite h.dropTrigger h.request
theorem Block.Keeps.instantTrigger (h : a.Keeps b) {t} : a.Keeps (instantTrigger t b) := .ite h.at.snapCause h.at

theorem Block.Keeps.scheduledTrigger (h : a.Keeps b) {c t} : a.Keeps (scheduledTrigger c t b) :=
  .ite h.at (.ite (.ite h.at.dropTrigger h.at) (.ite h.at.request (.ite (.ite h.at.startTrain h.at.waitFor) h.at)))

theorem Block.Keeps.hearAlarm (h : a.Keeps b) : a.Keeps b.hearAlarm := h.setFlt.attend.queueAlarm.withLink.kick
theorem Block.Keeps.alarm (h : a.Keeps b) {p t} : a.Keeps (alarm p t b) := .ite h.at (.ite h.at.hearAlarm (.ite h.at h.at.repeatAlarm))

/-! #### Host interfaces -/

theorem Block.Keeps.answerWith (h : a.Keeps b) {c body} : a.Keeps (b.answerWith c body) := by
  unfold Block.answerWith
  extract_lets
  split
  · exact h
  · extract_lets
    split
    · exact h.setHostPort
    · exact h.setHostPort.withPower.canRespond

theorem Block.Keeps.answerHost (h : a.Keeps b) {c r} : a.Keeps (b.answerHost c r) := h.answerWith
theorem Block.Keeps.setJob (h : a.Keeps b) {c j} : a.Keeps (b.setJob c j) := h.setHostPort
theorem Block.Keeps.setBuffer (h : a.Keeps b) {c t} : a.Keeps (b.setBuffer c t) := h.setHostPort
theorem Block.Keeps.askFor (h : a.Keeps b) {c p payload} : a.Keeps (b.askFor c p payload) := h.askPosition.dispatch
theorem Block.Keeps.hostRead (h : a.Keeps b) {m c p ix sub} : a.Keeps (b.hostRead m c p ix sub) := .ite h.readNow_snd.answerHost h.askFor

theorem Block.Keeps.allNext (h : a.Keeps b) {c left failures first} : a.Keeps (b.allNext c left failures first) := by
  unfold Block.allNext
  split
  · exact h.setJob.askFor
  · exact h.answerWith

theorem Block.Keeps.allStep (h : a.Keeps b) {c left failures first result abort} :
    a.Keeps (b.allStep c left failures first result abort) :=
  .ite h.allNext h.allNext

theorem Block.Keeps.ownWritten (h : a.Keeps b) {c r} : a.Keeps (b.ownWritten c r) := by
  unfold Block.ownWritten
  split
  · split <;> exact h.allStep
  · exact h.answerHost

theorem Block.Keeps.writeOwn (h : a.Keeps b) {m c ix sub data} : a.Keeps (b.writeOwn m c ix sub data) := by
  unfold Block.writeOwn
  extract_lets
  split
  · exact h.writeNow_snd.ownWritten
  · exact h.writeNow_snd

theorem Block.Keeps.hostWrite (h : a.Keeps b) {m c p ix sub data} : a.Keeps (b.hostWrite m c p ix sub data) :=
  .ite h.writeOwn (.ite h.setJob.writeOwn h.askFor)

theorem Block.Keeps.fetched (h : a.Keeps b) {c t} : a.Keeps (b.fetched c t) := h.setBuffer.answerHost

theorem Block.Keeps.fetchOwn (h : a.Keeps b) {m c t} : a.Keeps (b.fetchOwn m c t) := by
  unfold Block.fetchOwn
  extract_lets _ b1
  have h1 : a.Keeps b1 := .foldl (fun _ _ h => h.segmentRead_snd) h.initRead_snd
  split
  · exact h.initRead_snd.answerHost
  · exact h1.fetched

theorem Block.Keeps.hostInitRead (h : a.Keeps b) {m c p ix sub l} : a.Keeps (b.hostInitRead m c p ix sub l) :=
  .ite h.setHostPort.fetchOwn h.setHostPort.setJob.askFor

theorem Block.Keeps.hostInitWrite (h : a.Keeps b) {c p ix sub l} : a.Keeps (b.hostInitWrite c p ix sub l) := by
  unfold Block.hostInitWrite
  extract_lets _ _ b2
  have h2 : a.Keeps b2 := .ite h.setHostPort.disarm h.setHostPort
  split
  · exact .answerHost (.ite h2.refusedWrite h2)
  · exact h2.setBuffer.answerHost

theorem Block.Keeps.noBuffer (h : a.Keeps b) {c} : a.Keeps (b.noBuffer c) := h.setHostPort.answerHost

theorem Block.Keeps.closeBuffer (h : a.Keeps b) {c t abort} : a.Keeps (b.closeBuffer c t abort) :=
  .answerHost (.setBuffer (.ite h.refusedWrite h))

theorem Block.Keeps.hostSegRead (h : a.Keeps b) {c s} : a.Keeps (b.hostSegRead c s) := by
  unfold Block.hostSegRead
  split
  · exact h.noBuffer
  · extract_lets x1
    clear_value x1
    split
    · exact h.closeBuffer
    · split
      · exact h.answerHost
      · exact .ite h.closeBuffer h.setBuffer.answerHost

theorem Block.Keeps.hostSegWrite (h : a.Keeps b) {c s data} : a.Keeps (b.hostSegWrite c s data) := by
  unfold Block.hostSegWrite
  split
  · exact h.noBuffer
  · extract_lets
    exact .ite h.closeBuffer (.ite h.answerHost (.ite h.closeBuffer (.ite h.closeBuffer h.setBuffer.answerHost)))

theorem Block.Keeps.putOwn (h : a.Keeps b) {m c t} : a.Keeps (b.putOwn m c t) := by
  unfold Block.putOwn
  extract_lets _ b1
  have h1 : a.Keeps b1 := .foldl (fun _ _ h => h.segmentWrite_snd) h.initWrite_snd
  split
  · exact h.initWrite_snd.answerHost
  · split
    · exact h1.segmentEnd_snd.ownWritten
    · exact h1.segmentEnd_snd

theorem Block.Keeps.endOwn (h : a.Keeps b) {m c total} : a.Keeps (b.endOwn m c total) := by
  unfold Block.endOwn
  extract_lets
  split
  · exact h.segmentEnd_snd.answerHost
  · exact h.segmentEnd_snd

theorem Block.Keeps.hostSegEnd (h : a.Keeps b) {m c total} : a.Keeps (b.hostSegEnd m c total) := by
  unfold Block.hostSegEnd
  split
  · exact h.noBuffer
  · split
    · exact .ite h.closeBuffer (.ite h.setBuffer.putOwn h.setBuffer.setJob.askFor)
    · exact .ite h.closeBuffer (.ite h.setBuffer.endOwn h.setBuffer.askFor)

theorem Block.Keeps.fetchStep (h : a.Keeps b) {c t y} : a.Keeps (b.fetchStep c t y) := .ite h.fetched h.setJob.askFor
theorem Block.Keeps.putStep (h : a.Keeps b) {c t} : a.Keeps (b.putStep c t) := .ite h.setJob.askFor (.ite h.setJob.askFor h.answerHost)

theorem Block.Keeps.hostReply (h : a.Keeps b) {c x} : a.Keeps (b.hostReply c x) := by
  unfold Block.hostReply
  split
  · exact h.allStep
  · split <;> exact h.allStep
  · exact h.answerHost
  · split
    · exact h.answerHost
    · exact h.fetchStep
  · split
    · exact h.answerHost
    · exact h.putStep
  · exact h.answerHost

theorem Block.Keeps.segmentRepeatKeepalive (h : a.Keeps b) {c} : a.Keeps (segmentRepeatKeepalive c b) := by
  unfold Machine.segmentRepeatKeepalive
  split
  · exact h
  · exact .ite h h.askPosition.dispatch

theorem Block.Keeps.hostTrigger (h : a.Keeps b) {c cls} : a.Keeps (b.hostTrigger c cls) :=
  .ite h.answerHost (.ite h.dropTrigger.answerHost (.ite h.answerHost (.ite h.withLink.setJob h.startTrain.answerHost)))

theorem Block.Keeps.runHost (h : a.Keeps b) {m c r} : a.Keeps (b.runHost m c r) := by
  unfold Block.runHost
  extract_lets
  exact .ite h.put.answerHost (.ite h.answerHost
      (.ite h.answerHost (.ite h.hostRead (.ite h.hostWrite
      (.ite h.hostInitRead (.ite h.hostInitWrite (.ite h.hostSegRead (.ite h.hostSegWrite h.hostSegEnd))))))))

theorem Block.Keeps.startHost (h : a.Keeps b) {m c r} : a.Keeps (b.startHost m c r) := by
  unfold Block.startHost
  extract_lets
  exact .ite h.setHostPort.hostTrigger (.ite h.setHostPort.setHostPort
      (.ite h.setHostPort.answerHost (.ite h.setHostPort.answerHost h.setHostPort.runHost)))

theorem Block.Keeps.runHeld (h : a.Keeps b) {m} : a.Keeps (b.runHeld m) := by
  unfold Block.runHeld
  refine .foldl (fun b x h => ?_) h
  split
  · exact h.startHost
  · exact h

theorem Block.Keeps.hostHeard (h : a.Keeps b) : a.Keeps b.hostHeard := h.withPower.withHost

theorem Block.Keeps.endSilent (h : a.Keeps b) {x} : a.Keeps (b.endSilent x) := by
  unfold Block.endSilent
  split
  · exact h
  · exact .ite h.withHost.put.judgeCan h.withHost

theorem Block.Keeps.refuseBusy (h : a.Keeps b) {c header} : a.Keeps (b.refuseBusy c header) := by
  unfold Block.refuseBusy
  extract_lets
  split
  · exact h.count32.setHostPort
  · exact h.count32.canRespond

theorem Block.Keeps.repeatAnswer (h : a.Keeps b) {c message} : a.Keeps (b.repeatAnswer c message) := by
  unfold Block.repeatAnswer
  split
  · exact h.setHostPort
  · exact h.canRespond

theorem Block.Keeps.discardSlot (h : a.Keeps b) {c} : a.Keeps (b.discardSlot c) := .ite h.count32.setHostPort h

theorem Block.Keeps.acceptHost (h : a.Keeps b) {m c header data} : a.Keeps (b.acceptHost m c header data) := by
  unfold Block.acceptHost
  extract_lets
  split
  · exact h.hostHeard.endSilent.refuseBusy
  · split
    · exact h.hostHeard.endSilent.setHostPort.count32.repeatAnswer
    · exact h.hostHeard.endSilent.setHostPort.count32.discardSlot.startHost

theorem Block.Keeps.noteCrc (h : a.Keeps b) {c fails} : a.Keeps (b.noteCrc c fails) := .ite h.setHostPort h

theorem Block.Keeps.spiRead (h : a.Keeps b) {clocked} : a.Keeps (spiRead clocked b) :=
  .ite h (.ite h.emit.hostHeard.setHostPort h.emit.hostHeard)

theorem Block.Keeps.rejectSpi (h : a.Keeps b) {header} : a.Keeps (b.rejectSpi header) := by
  unfold Block.rejectSpi
  exact h.count32.setHostPort

theorem Block.Keeps.spiCommand (h : a.Keeps b) {l m} : a.Keeps (spiCommand l m b) :=
  .ite h (.ite h.spiRead (.ite h.emit.acceptHost h.emit.noteCrc.rejectSpi))

theorem Block.Keeps.canRequest (h : a.Keeps b) {l m} : a.Keeps (canRequest l m b) := by
  unfold Machine.canRequest
  split
  · exact h
  · extract_lets _ _ _ _ b3
    have h3 : a.Keeps b3 := .ite h.canReceived.noteCrc.hostHeard h.canReceived.noteCrc
    exact .ite h.canReceived.acceptHost (.ite h3.count32.canRespond h3)

theorem Block.Keeps.hostCommand (h : a.Keeps b) {c op p ix sub data m} : a.Keeps (hostCommand c op p ix sub data m b) :=
  .ite h h.acceptHost

theorem Block.Keeps.judgeHostCrc (h : a.Keeps b) {c code} : a.Keeps (b.judgeHostCrc c code) := .ite h.setHostPort.raise h.setHostPort

theorem Block.Keeps.hostCrcRate (h : a.Keeps b) : a.Keeps (hostCrcRate b) :=
  .ite h (.ite h.judgeHostCrc.judgeHostCrc.clearLive h.judgeHostCrc.judgeHostCrc)

/-! #### The link at the head -/

theorem Block.Keeps.broadcastOn (h : a.Keeps b) {p payload} : a.Keeps (b.broadcastOn p payload) := h.withLink.sendOn
theorem Block.Keeps.holdPass (h : a.Keeps b) {x} : a.Keeps (b.holdPass x) := h.withLink
theorem Block.Keeps.sendCensus (h : a.Keeps b) {number} : a.Keeps (b.sendCensus number) := .ite h.holdPass.sendOn h.holdPass

theorem Block.Keeps.sendProbes (h : a.Keeps b) : a.Keeps b.sendProbes := by
  unfold Block.sendProbes
  split
  · exact h
  · split
    · exact h
    · extract_lets _ b1
      have h1 : a.Keeps b1 := .ite h.withLink.broadcastOn h
      split
      · exact h1
      · extract_lets _ _ b3
        have h3 : a.Keeps b3 := .foldl (fun _ _ h => h.sendPulse) h1.withLink
        exact .ite h1.withLink (.ite h3.occupyDu h3)

theorem Block.Keeps.sendSweeps (h : a.Keeps b) {p count again} : a.Keeps (b.sendSweeps p count again) := h.withLink.sendProbes
theorem Block.Keeps.sendDelays (h : a.Keeps b) {p top split table} : a.Keeps (b.sendDelays p top split table) := h.broadcastOn.broadcastOn
theorem Block.Keeps.runTriggers (h : a.Keeps b) : a.Keeps b.runTriggers := .foldl (fun _ _ h => .ite h h.withLink.startTrain.answerHost) h

theorem Block.Keeps.endRound (h : a.Keeps b) {m committed} : a.Keeps (b.endRound m committed) := by
  unfold Block.endRound
  extract_lets _ _ _ _ b2 b3
  have h2 : a.Keeps b2 := .ite h.withLink.sendChainConfig.sendReference (.ite h.withLink.sendReference.sendChainConfig
      h.withLink.sendReference)
  have h3 : a.Keeps b3 := .foldl (fun _ _ h => h.sendKeeper) h2
  exact h3.dispatch.runHeld.kick

theorem Block.Keeps.commitRound (h : a.Keeps b) {m number pass top overflow closed} :
    a.Keeps (b.commitRound m number pass top overflow closed) := by
  unfold Block.commitRound
  extract_lets _ _ _ _ _ _ _ _ _ b5 b6
  have h5 : a.Keeps b5 := .ite h.putAll.withLink.broadcastOn.broadcastOn.attend.clearLive.raise
      h.putAll.withLink.broadcastOn.broadcastOn.attend.clearLive
  have h6 : a.Keeps b6 := .ite h5.raise h5
  exact .ite h6.endRound h6.sendSweeps

theorem Block.Keeps.startRound (h : a.Keeps b) {m} : a.Keeps (b.startRound m) :=
  .ite (.sendCensus (.withLink (.ite h.putBit.putBit h.putBit))) (.commitRound (.withLink (.ite h.putBit.putBit h.putBit)))

theorem Block.Keeps.censusRoundStart (h : a.Keeps b) {t m} : a.Keeps (censusRoundStart t m b) := .ite h.at.startRound h.at

theorem Block.Keeps.censusRetry (h : a.Keeps b) {t m} : a.Keeps (censusRetry t m b) := by
  unfold Machine.censusRetry
  extract_lets
  split
  · exact .ite h.at.startRound h.at
  · exact h.at

theorem Block.Keeps.failRound (h : a.Keeps b) {m} : a.Keeps (b.failRound m) := h.putBit.putBit.put.raise.withLink.endRound
theorem Block.Keeps.nextPass (h : a.Keeps b) {m r last} : a.Keeps (b.nextPass m r last) := .ite h.failRound h.withLink.sendCensus

theorem Block.Keeps.censusPassResult (h : a.Keeps b) {number p t m} : a.Keeps (censusPassResult number p t m b) := by
  unfold Machine.censusPassResult
  extract_lets
  split
  · exact h.at
  · exact .ite h.at.commitRound h.at.nextPass

theorem Block.Keeps.censusPassTimeout (h : a.Keeps b) {t m} : a.Keeps (censusPassTimeout t m b) := by
  unfold Machine.censusPassTimeout
  extract_lets
  split
  · exact h.at
  · exact h.at.nextPass

theorem Block.Keeps.triggerAgain (h : a.Keeps b) : a.Keeps b.triggerAgain := by
  unfold Block.triggerAgain
  split
  · exact h
  · exact .ite h (.foldl (fun _ _ h => .ite h (.openTrain (.ite h.withLink.sendPulse h.withLink))) h.withLink)

theorem Block.Keeps.sweepsGood (h : a.Keeps b) {q valid} : a.Keeps (b.sweepsGood q valid) := by
  unfold Block.sweepsGood
  extract_lets
  split <;> exact h.putBit.withLink.sendDelays

theorem Block.Keeps.sweepsOver (h : a.Keeps b) {m} : a.Keeps (b.sweepsOver m) :=
  .ite h.withLink.endRound h.withLink.triggerAgain.runTriggers.kick

theorem Block.Keeps.probeSweepsComplete (h : a.Keeps b) {sweeps t m} : a.Keeps (probeSweepsComplete sweeps t m b) := by
  unfold Machine.probeSweepsComplete
  extract_lets
  split
  · exact h.at
  · exact .ite h.at.sweepsGood.sweepsOver (.ite h.at.sendSweeps h.at.putBit.raise.sweepsOver)

theorem Block.Keeps.delayRefresh (h : a.Keeps b) {t} : a.Keeps (delayRefresh t b) := .ite h.at.sendSweeps h.at

theorem Block.Keeps.splitEntry (h : a.Keeps b) {below t} : a.Keeps (splitEntry below t b) :=
  .ite h.at.withLink.putBit.sendReference.sendSweeps h.at

theorem Block.Keeps.splitEnd (h : a.Keeps b) {t} : a.Keeps (splitEnd t b) := .ite h.at.withLink h.at
theorem Block.Keeps.checkDone (h : a.Keeps b) {p x} : a.Keeps (b.checkDone p x) := h.withLink

theorem Block.Keeps.commandDone (h : a.Keeps b) {c x} : a.Keeps (b.commandDone c x) := by
  unfold Block.commandDone
  extract_lets _ _ b2
  have h2 : a.Keeps b2 := by
    unfold b2
    split
    · exact h.withLink.hostReply
    · exact h.withLink
    · exact h.withLink.checkDone
  exact h2.dispatch

theorem Block.Keeps.commandAgain (h : a.Keeps b) {c} : a.Keeps (b.commandAgain c) :=
  .ite (.ite h.count32.withLink.sendCommand h.count32.withLink) h.count32.commandDone

theorem Block.Keeps.response (h : a.Keeps b) {p seq payload} : a.Keeps (response p seq payload b) := by
  unfold Machine.response
  split
  · exact h
  · split
    · exact h
    · exact .ite h.commandDone h.commandAgain

theorem Block.Keeps.commandTimeout (h : a.Keeps b) {p} : a.Keeps (commandTimeout p b) := by
  unfold Machine.commandTimeout
  split
  · exact h
  · split
    · exact h
    · exact h.commandAgain

theorem Block.Keeps.headWriteOver (h : a.Keeps b) {w r} : a.Keeps (b.headWriteOver w r) := by
  unfold Block.headWriteOver
  split
  · exact h.ownWritten
  · split <;> exact h.emit

theorem Block.Keeps.headConfigChecksDone (h : a.Keeps b) : a.Keeps (headConfigChecksDone b) := by
  unfold Machine.headConfigChecksDone
  split
  · exact h
  · split
    · exact h
    · extract_lets
      split
      · exact h.withLink.headWriteOver
      · split
        · exact h.withLink.headWriteOver
        · split
          · exact h.withLink.headWriteOver
          · exact h.withLink.applyWrite.headWriteOver

theorem Block.Keeps.heedPorts (h : a.Keeps b) {p duUp} : a.Keeps (b.heedPorts p duUp) := by
  unfold Block.heedPorts
  split
  · exact .ite h.withLink h
  · exact .ite h h.withLink

theorem Block.Keeps.heedStatus (h : a.Keeps b) {pos p} : a.Keeps (b.heedStatus pos p) :=
  .ite (.attend (.withHost (.ite h.heedPorts.withLink h.heedPorts))) (.ite h.heedPorts.withLink h.heedPorts)

theorem Block.Keeps.streamFrame (h : a.Keeps b) {header payload} : a.Keeps (streamFrame header payload b) :=
  .ite h (.deliver (.ite h.takePebble.heedStatus h.takePebble))

theorem Block.Keeps.sendAggregate (h : a.Keeps b) : a.Keeps b.sendAggregate := h.broadcast.holdAggregate

theorem Block.Keeps.heedHolds (h : a.Keeps b) {t missing} : a.Keeps (b.heedHolds t missing) := by
  unfold Block.heedHolds
  extract_lets _ b1
  have h1 : a.Keeps b1 := .foldl (fun _ _ h => .withLink (.ite h.queueAlarm h)) h
  exact .ite h1.withLink.judgeHeadFlt h1

theorem Block.Keeps.countMissing (h : a.Keeps b) {missing} : a.Keeps (b.countMissing missing) :=
  .ite h.countUp.withLink h.countUp.withLink

theorem Block.Keeps.storeTrain (h : a.Keeps b) {t} : a.Keeps (b.storeTrain t) := .foldl (fun _ _ h => h.storeRecord) h

theorem Block.Keeps.heedTrain (h : a.Keeps b) {t missing} : a.Keeps (b.heedTrain t missing) :=
  .ite h.withLink.sendAggregate (.ite h.withLink.sendAggregate (.ite h.heedHolds h))

theorem Block.Keeps.runBehind (h : a.Keeps b) : a.Keeps b.runBehind := .foldl (fun _ _ h => .ite h.request h.waitFor) h.withLink

theorem Block.Keeps.heedBreak (h : a.Keeps b) {missing} : a.Keeps (b.heedBreak missing) := by
  unfold Block.heedBreak
  split
  · exact h
  · split
    · exact h.withLink
    · exact .ite h.withLink h

theorem Block.Keeps.noteLacked (h : a.Keeps b) {cls missing} : a.Keeps (b.noteLacked cls missing) := h.withLink

theorem Block.Keeps.closeTrain (h : a.Keeps b) {t} : a.Keeps (b.closeTrain t) := by
  unfold Block.closeTrain
  extract_lets _ _ _ b3 _ b5
  have h3 : a.Keeps b3 := .ite h.countTrain.storeTrain.heedBreak.countMissing h.countTrain.storeTrain.heedBreak.countMissing.noteLacked
  have h5 : a.Keeps b5 := .ite h3.attend.heedTrain.streamToHost.runBehind h3.attend.heedTrain.streamToHost
  exact .ite h5.triggerAgain.runTriggers.kick.sendProbes h5.triggerAgain.runTriggers.kick

theorem Block.Keeps.trainClose (h : a.Keeps b) {c t} : a.Keeps (trainClose c t b) := by
  unfold Machine.trainClose
  extract_lets
  split
  · exact h.at
  · split
    · exact h.at
    · exact h.at.withLink.closeTrain

theorem Block.Keeps.resumeCommands (h : a.Keeps b) : a.Keeps b.resumeCommands := .foldl (fun _ _ h => .ite h h.withLink.sendCommand) h

theorem Block.Keeps.resumePass (h : a.Keeps b) : a.Keeps b.resumePass := by
  unfold Block.resumePass
  split
  · exact h
  · exact h.sendCensus

theorem Block.Keeps.syncSendThen (h : a.Keeps b) {t} : a.Keeps (syncSendThen t b) := by
  unfold Machine.syncSendThen
  extract_lets
  exact .ite h.at (.ite h.at.headPulse.resumePass.sendProbes
      h.at.headPulse.resumePass.sendProbes.resumeCommands.dispatch.triggerAgain.runTriggers.kick)

theorem Block.Keeps.analysisSetRead (h : a.Keeps b) {p frequencies sources integration step} :
    a.Keeps (analysisSetRead p frequencies sources integration step b) :=
  .ite h (.ite h h.withChainSet.withImp.sendChainConfig)

theorem Block.Keeps.medianRsRead (h : a.Keeps b) {values} : a.Keeps (medianRsRead values b) := .ite h h.withLink

/-! #### Commands and steps -/

/-- A next state keeps what block a had. -/
def Out.Keeps (a : Block) (o : Out) : Prop := ∀ t, o = .next t → a.Keeps t.blk

theorem Out.Keeps.onBlock {f s} (h : a.Keeps (f s.blk)) : Out.Keeps a (onBlock f s) := fun _ e => by
  cases e; exact h

theorem Out.Keeps.onBlockReading {f s} (h : a.Keeps (f s.flash s.blk)) : Out.Keeps a (onBlockReading f s) := fun _ e => by
  cases e; exact h

theorem Out.Keeps.onBoth {f s} (h : a.Keeps (f s.flash s.blk).2) : Out.Keeps a (onBoth f s) := fun _ e => by
  cases e; exact h

theorem Out.Keeps.onSwitching {f s} (h : a.Keeps (f s.blk)) : Out.Keeps a (onSwitching f s) := .onBlock h.noteEdges

theorem exec_keeps (c : Instr) (s : State) : Out.Keeps s.blk (exec c s) := by
  have h := Block.Keeps.refl s.blk
  cases c with
  | porRelease => exact Out.Keeps.onBlock h.porRelease
  | porAssert => exact Out.Keeps.onBlock h.porAssert
  | vstkRangeCheck => exact Out.Keeps.onBlock h.vstkRangeCheck
  | vinLow => exact Out.Keeps.onBlock h.vinLow
  | supplyFail => exact Out.Keeps.onSwitching h.supplyFail
  | railWindowFault => exact Out.Keeps.onBlock h.railWindowFault
  | pwrEnComparison => exact Out.Keeps.onBlock h.pwrEnComparison
  | ship => exact Out.Keeps.onBlockReading h.commandRow
  | sleep => exact Out.Keeps.onBlockReading h.commandRow
  | standby => exact Out.Keeps.onBlockReading h.commandRow
  | measure => exact Out.Keeps.onBlockReading h.commandRow
  | full => exact Out.Keeps.onBlockReading h.commandRow
  | reset => exact Out.Keeps.onBlockReading h.commandRow
  | wakeChain => exact Out.Keeps.onBlockReading h.commandRow
  | transitionComplete => exact Out.Keeps.onBlock h.transitionComplete
  | commLoss =>
    unfold exec execCommLoss
    exact Out.Keeps.onBlockReading h.commLoss.noteEdges
  | wakeEvent => exact Out.Keeps.onBlock h.wakeEvent
  | extendedWakeEvent => exact Out.Keeps.onBlock h.extendedWakeEvent
  | deferredWakeStart => exact Out.Keeps.onBlock h.deferredWakeStart
  | supplyAttemptTimeout => exact Out.Keeps.onBlock h.supplyAttemptTimeout
  | vin5Good => exact Out.Keeps.onBlock h.vin5Good
  | coreResetRelease => exact Out.Keeps.onBlock h.coreResetRelease
  | engineBootComplete => exact Out.Keeps.onBlockReading h.engineBootComplete
  | periodicCheck => exact Out.Keeps.onBlock h.periodicCheck
  | crossingConfirmation => exact Out.Keeps.onBlock h.crossingConfirmation
  | sleepBalancePhase => exact Out.Keeps.onBlock h.sleepBalancePhase
  | sleepBalanceSecond => exact Out.Keeps.onBlock h.sleepBalanceSecond
  | sleepPlanRefresh => exact Out.Keeps.onBlock h.sleepPlanRefresh
  | thermalShutdown => exact Out.Keeps.onBoth h.thermalShutdown_snd
  | shutdownTemperatureCheck => exact Out.Keeps.onBlock h.shutdownTemperatureCheck
  | preShutdown =>
    unfold exec execPreShutdown
    exact Out.Keeps.onBlockReading h.preShutdown.reactSafe.followE6.noteEdges
  | preShutdownEnd => exact Out.Keeps.onBlock h.preShutdownEnd
  | laneThermometerInterval => exact Out.Keeps.onBlock h.laneThermometerInterval
  | housekeepingRound => exact Out.Keeps.onBlock h.housekeepingRound
  | throttleEvaluation =>
    unfold exec execThrottleEvaluation
    exact Out.Keeps.onSwitching h.throttleEvaluation.followE6
  | pllReferenceSwitch => exact Out.Keeps.onBlock h.pllReferenceSwitch
  | symbolLockLoss => exact Out.Keeps.onBlock h.symbolLockLoss
  | clockMonitorGate => exact Out.Keeps.onBlock h.clockMonitorGate
  | faultRcCheck => exact Out.Keeps.onBlock h.faultRcCheck
  | syncSend => exact Out.Keeps.onBlock h.syncSendThen
  | sync => exact Out.Keeps.onBlock h.sync
  | syncMissing => exact Out.Keeps.onBlock h.syncMissing
  | slewStep => exact Out.Keeps.onBlock h.slewStep
  | chainReferenceSend => exact Out.Keeps.onBlock h.chainReferenceSend
  | chainReference => exact Out.Keeps.onBlock h.chainReference
  | chainTimeWrite => exact Out.Keeps.onBlockReading h.writeRow
  | referenceCompare => exact Out.Keeps.onBlock h.referenceCompare
  | correctionUpdate => exact Out.Keeps.onBlock h.correctionUpdate
  | laneBlock => exact Out.Keeps.onBlock h.laneBlock
  | cellLimitRefresh => exact Out.Keeps.onBlock h.cellLimitRefresh
  | laneAveragingChange => exact Out.Keeps.onBlock h.laneAveragingChange
  | shadowFrame => exact Out.Keeps.onBlock h.shadowFrame
  | currentLaneCompare => exact Out.Keeps.onBlock h.currentLaneCompare
  | currentSample => exact Out.Keeps.onBlock h.currentSample
  | mainsTrackerUpdate => exact Out.Keeps.onBlock h.mainsTrackerUpdate
  | auxSlot => exact Out.Keeps.onBlock h.auxSlot
  | windowBoundary =>
    unfold exec execWindowBoundary
    exact Out.Keeps.onBlock (.ite h.passBoundary.kick h.passBoundary)
  | windowPublish => exact Out.Keeps.onBlock h.windowPublish
  | keeperRecordMissing =>
    unfold exec execKeeperRecordMissing
    exact Out.Keeps.onBlock (.ite h.keeperRecordMissing.restBroken h.keeperRecordMissing)
  | windowModeWrite => exact Out.Keeps.onBlockReading h.writeRow
  | snap => exact Out.Keeps.onSwitching h.snap
  | captureStart => exact Out.Keeps.onBlock h.captureStart
  | capturePublish => exact Out.Keeps.onBlock h.capturePublish
  | instantTrigger => exact Out.Keeps.onBlock h.instantTrigger
  | auxOutputWrite => exact Out.Keeps.onBlockReading h.writeRow
  | auxFunctionWrite => exact Out.Keeps.onBlockReading h.writeRow
  | chargeCounterPreset => exact Out.Keeps.onBlockReading h.writeRow
  | currentKeeperWrite => exact Out.Keeps.onBlockReading h.writeRow
  | governorTick =>
    unfold exec execGovernorTick
    exact Out.Keeps.onBlock h.governorTick.takeMetered.trimE6.seekStep
  | pathLearn => exact Out.Keeps.onBlock h.pathLearn
  | bleedConfirmation => exact Out.Keeps.onSwitching h.bleedConfirmation
  | freshnessTimeout => exact Out.Keeps.onSwitching h.freshnessTimeout
  | interlockRefusal => exact Out.Keeps.onSwitching h.interlockRefusal
  | sessionTimerSecond => exact Out.Keeps.onSwitching h.sessionTimerSecond
  | balanceTargetWrite => exact Out.Keeps.onBlockReading h.writeRow
  | sessionTimerWrite => exact Out.Keeps.onBlockReading h.writeRow
  | balanceEnableWrite => exact Out.Keeps.onBlockReading h.writeRow
  | stickyFlagClear => exact Out.Keeps.onBlockReading h.writeRow
  | bleedResistorWrite => exact Out.Keeps.onBlockReading h.writeRow
  | thrPulseEdge => exact Out.Keeps.onBlock h.thrPulseEdge
  | throttleInputLost => exact Out.Keeps.onBlock h.throttleInputLost
  | analysisIntervalEnd => exact Out.Keeps.onBlock h.analysisIntervalEnd
  | impedancePublish => exact Out.Keeps.onBlock h.impedancePublish
  | ambientPairingTimeout => exact Out.Keeps.onBlock h.ambientPairingTimeout
  | activeSequenceStart => exact Out.Keeps.onSwitching h.activeSequenceStart
  | excitationEdge => exact Out.Keeps.onBlock h.excitationEdge
  | activeIntervalDiscard => exact Out.Keeps.onBlock h.activeIntervalDiscard
  | autobalancePeriod => exact Out.Keeps.onSwitching h.autobalancePeriod
  | socTableWrite => exact Out.Keeps.onBlockReading h.writeRow
  | tempCurveWrite => exact Out.Keeps.onBlockReading h.writeRow
  | analysisSetRead => exact Out.Keeps.onBlock h.analysisSetRead
  | volts => exact Out.Keeps.onBlock h.classified
  | temps => exact Out.Keeps.onBlock h.classified
  | imped => exact Out.Keeps.onBlock h.classified
  | status => exact Out.Keeps.onBlock h.classified
  | alarm => exact Out.Keeps.onBlock h.alarm
  | pulseRepeat => exact Out.Keeps.onBlock h.pulseRepeat
  | wakeTone => exact Out.Keeps.onBlock h.wakeTone
  | portSignalDetect => exact Out.Keeps.onBlock h.portSignalDetect
  | portTrained => exact Out.Keeps.onBlock h.portTrained
  | trainingFail => exact Out.Keeps.onBlock h.trainingFail
  | portDown => exact Out.Keeps.onBlock h.portDown
  | ringModeWrite => exact Out.Keeps.onBlockReading h.writeRow
  | frameReceive => exact Out.Keeps.onBlock h.frameReceive
  | frameForward => exact Out.Keeps.onBlock h.frameForward
  | frameTransmit => exact Out.Keeps.onBlock h.frameTransmit
  | linkCrcRate => exact Out.Keeps.onBlock h.linkCrcRate
  | censusRoundStart => exact Out.Keeps.onBlockReading h.censusRoundStart
  | censusRun => exact Out.Keeps.onBlockReading h.writeRow
  | census => exact Out.Keeps.onBlock h.census
  | censusEcho => exact Out.Keeps.onBlock h.censusEcho
  | censusEchoTimeout => exact Out.Keeps.onBlock h.censusEchoTimeout
  | censusReply => exact Out.Keeps.onBlock h.censusReply
  | censusPassResult => exact Out.Keeps.onBlockReading h.censusPassResult
  | censusPassTimeout => exact Out.Keeps.onBlockReading h.censusPassTimeout
  | censusRetry => exact Out.Keeps.onBlockReading h.censusRetry
  | commit => exact Out.Keeps.onBlock h.commit
  | probeSweep => exact Out.Keeps.onBlock h.probeSweep
  | probe => exact Out.Keeps.onBlock h.probe
  | probeSweepsComplete => exact Out.Keeps.onBlockReading h.probeSweepsComplete
  | delays => exact Out.Keeps.onBlock h.delays
  | delayRefresh => exact Out.Keeps.onBlock h.delayRefresh
  | chainConfig => exact Out.Keeps.onBlock h.chainConfig
  | chainAggregate => exact Out.Keeps.onBlock h.chainAggregate
  | keeperForward => exact Out.Keeps.onBlock h.keeperForward
  | keeperRecord => exact Out.Keeps.onBlock h.keeperRecord
  | read =>
    unfold exec execRead
    exact Out.Keeps.onBlockReading (h.chainCommand fun h => h.readNow_snd)
  | write =>
    unfold exec execWrite
    exact Out.Keeps.onBlockReading (h.chainCommand fun h => h.writeNow_snd.settled_snd)
  | segInitRead =>
    unfold exec execSegInitRead
    exact Out.Keeps.onBlockReading (h.chainCommand fun h => h.initRead_snd)
  | segInitWrite =>
    unfold exec execSegInitWrite
    exact Out.Keeps.onBlock (h.chainCommand fun h => h.initWrite_snd)
  | segRead =>
    unfold exec execSegRead
    exact Out.Keeps.onBlock (h.chainCommand fun h => h.segmentRead_snd)
  | segWrite =>
    unfold exec execSegWrite
    exact Out.Keeps.onBlock (h.chainCommand fun h => h.segmentWrite_snd)
  | segEnd =>
    unfold exec execSegEnd
    exact Out.Keeps.onBlockReading (h.chainCommand fun h => h.segmentEnd_snd.settled_snd)
  | checkConfig =>
    unfold exec execCheckConfig
    exact Out.Keeps.onBlock (h.chainCommand fun h => h)
  | segmentTimeout => exact Out.Keeps.onBlock h.segmentTimeout
  | response => exact Out.Keeps.onBlock h.response
  | commandTimeout => exact Out.Keeps.onBlock h.commandTimeout
  | headConfigChecksDone => exact Out.Keeps.onBlock h.headConfigChecksDone
  | scheduledTrigger => exact Out.Keeps.onBlock h.scheduledTrigger
  | streamResponseForm => exact Out.Keeps.onBlock h.streamResponseForm
  | streamFrame => exact Out.Keeps.onBlock h.streamFrame
  | trainClose => exact Out.Keeps.onBlock h.trainClose
  | splitEntry => exact Out.Keeps.onBlock h.splitEntry
  | splitEnd => exact Out.Keeps.onBlock h.splitEnd
  | spiCommand => exact Out.Keeps.onBlockReading h.spiCommand
  | spiRead => exact Out.Keeps.onBlock h.spiRead
  | canRequest => exact Out.Keeps.onBlockReading h.canRequest
  | novezRead => exact Out.Keeps.onBlockReading h.hostCommand
  | novezWrite => exact Out.Keeps.onBlockReading h.hostCommand
  | novezSegInitRead => exact Out.Keeps.onBlockReading h.hostCommand
  | novezSegInitWrite => exact Out.Keeps.onBlockReading h.hostCommand
  | novezSegRead => exact Out.Keeps.onBlockReading h.hostCommand
  | novezSegWrite => exact Out.Keeps.onBlockReading h.hostCommand
  | novezSegEnd => exact Out.Keeps.onBlockReading h.hostCommand
  | segmentRepeatKeepalive => exact Out.Keeps.onBlock h.segmentRepeatKeepalive
  | trigger => exact Out.Keeps.onBlockReading h.hostCommand
  | readStream => exact Out.Keeps.onBlockReading h.hostCommand
  | readAttention => exact Out.Keeps.onBlockReading h.hostCommand
  | hostCrcRate => exact Out.Keeps.onBlock h.hostCrcRate
  | canAlarmFrame => exact Out.Keeps.onBlock h.canAlarmFrame
  | canTrainStream => exact Out.Keeps.onBlock h.canTrainStream
  | canBusOffRecovery => exact Out.Keeps.onBlock h.canBusOffRecovery
  | canConfigApply => exact Out.Keeps.onBlock h.canConfigApply
  | faultRegistration => exact Out.Keeps.onSwitching h.faultRegistration
  | captureFifoDrain => exact Out.Keeps.onBlock h.captureFifoDrain
  | acknowledgeSource => exact Out.Keeps.onBlockReading h.writeRow
  | acknowledgeAll => exact Out.Keeps.onBlockReading h.writeRow
  | safeStateExit => exact Out.Keeps.onBlock h.safeStateExit
  | faultSeverityWrite => exact Out.Keeps.onBlockReading h.writeRow
  | faultFlagsWrite => exact Out.Keeps.onBlockReading h.writeRow
  | engineWatchdogExpiry => exact Out.Keeps.onBlock h.engineWatchdogExpiry
  | engineRestart => exact Out.Keeps.onBlockReading h.engineRestart
  | engineSelfTest => exact Out.Keeps.onBlock h.engineSelfTest
  | engineLoadMeasurement => exact Out.Keeps.onBlock h.engineLoadMeasurement
  | memoryError => exact Out.Keeps.onBlock h.memoryError
  | memoryScrub => exact Out.Keeps.onBlock h.memoryScrub
  | configSignatureCheck => exact Out.Keeps.onBlock h.configSignatureCheck
  | fltReadback => exact Out.Keeps.onBlock h.fltReadback
  | openWireSlot => exact Out.Keeps.onSwitching h.openWireSlot
  | openWireRepeat => exact Out.Keeps.onSwitching h.openWireRepeat
  | unlockArm => exact Out.Keeps.onBlockReading h.writeRow
  | unlockConfirm => exact Out.Keeps.onBlockReading h.writeRow
  | unlockClear => exact Out.Keeps.onBlockReading h.writeRow
  | unlockExpiry => exact Out.Keeps.onBlock h.unlockExpiry
  | dictionaryWrite => exact Out.Keeps.onBlockReading h.writeRow
  | journalRead => exact Out.Keeps.onBlockReading h.journalRead
  | readCursorWrite => exact Out.Keeps.onBlockReading h.writeRow
  | checkUnitWrite => exact Out.Keeps.onBlockReading h.writeRow
  | save => exact Out.Keeps.onBlockReading h.writeRow
  | nvmPageProgram => exact Out.Keeps.onBoth h.nvmPage_snd
  | saveComplete => exact Out.Keeps.onBlockReading h.saveComplete
  | restoreConfig => exact Out.Keeps.onBlockReading h.writeRow
  | restoreAll => exact Out.Keeps.onBlockReading h.writeRow
  | summaryWrite => exact Out.Keeps.onBlockReading h.summaryWrite
  | summaryWriteComplete => exact Out.Keeps.onBlockReading h.summaryWriteComplete
  | supplyAttemptRetry => exact Out.Keeps.onBlock h.supplyAttemptRetry
  | railGood => exact Out.Keeps.onBlock h.railGood
  | vstkInRange => exact Out.Keeps.onBlock h.vstkInRange
  | sectorEraseComplete => exact Out.Keeps.onBoth h.sectorErase_snd
  | operatingHour => exact Out.Keeps.onBlock h.operatingHour
  | medianRsRead => exact Out.Keeps.onBlock h.medianRsRead
  | ignoredFrame => exact Out.Keeps.onBlock h.ignoredFrame
  | canBusError => exact Out.Keeps.onBlock h.canBusError

/-- Every step keeps the fuses, the canonical form of the dictionary and the range of the timebase. -/
theorem step_keeps {s t : State} (e : step s = .next t) : s.blk.Keeps t.blk := by
  unfold step at e
  split at e
  next c rest _ => exact exec_keeps c { s with pending := rest } t e
  next => cases e; exact (Block.Keeps.refl s.blk).tbCycle

/-- Settles O54: among what every step keeps is the range of the timebase. -/
theorem timebaseInRange : Obligations.TimebaseInRange := fun _ _ h e => (step_keeps e).tb h

end Sys2Proof.Machine

end

section
/-! ### The power commands

Acceptance of a PowerCommand (R83, R84), the parts that its transitions leave alone, and where each of them leads. -/

namespace Sys2Proof.Machine

/-! #### Switching edges -/

/-- An edge noted rewrites lanes, E6 and the governor only (R113). -/
theorem Block.noteEdge_frame (b : Block) (i x : Nat) : ∃ l m g, b.noteEdge i x = ((b.withLanes l).withImp m).withGov g := by
  refine ⟨(b.noteEdge i x).lanes, (b.noteEdge i x).imp, (b.noteEdge i x).gov, ?_⟩
  unfold Block.noteEdge
  extract_lets
  split
  · rfl
  · rfl

@[inherit_doc Block.noteEdge_frame]
theorem Block.noteEdges_frame (b : Block) (delays : List Nat) :
    ∃ l m g, b.noteEdges delays = ((b.withLanes l).withImp m).withGov g := by
  refine List.foldlRecOn (motive := fun x : Block => ∃ l m g, x = ((b.withLanes l).withImp m).withGov g) _ _
    ⟨{ b.lanes with edges := b.lanes.edges.filter fun e => decide (subDiff (ticksOf b.now) e.time ≤ 4000000) }, b.imp, b.gov, rfl⟩
    fun x hx k _ => ?_
  obtain ⟨l, m, g, rfl⟩ := hx
  obtain ⟨l', m', g', e⟩ := (((b.withLanes l).withImp m).withGov g).noteEdge_frame k
    (ticksOf (((b.withLanes l).withImp m).withGov g).now + (delays[k]?).getD 0)
  exact ⟨l', m', g', e⟩

@[simp] theorem Block.noteEdges_power (b : Block) (d : List Nat) : (b.noteEdges d).power = b.power := by
  obtain ⟨l, i, g, e⟩ := b.noteEdges_frame d; simp [e]
@[simp] theorem Block.noteEdges_journal (b : Block) (d : List Nat) : (b.noteEdges d).journal = b.journal := by
  obtain ⟨l, i, g, e⟩ := b.noteEdges_frame d; simp [e]
@[simp] theorem Block.noteEdges_flint (b : Block) (d : List Nat) : (b.noteEdges d).flint = b.flint := by
  obtain ⟨l, i, g, e⟩ := b.noteEdges_frame d; simp [e]
@[simp] theorem Block.noteEdges_phys (b : Block) (d : List Nat) : (b.noteEdges d).phys = b.phys := by
  obtain ⟨l, i, g, e⟩ := b.noteEdges_frame d; simp [e]
@[simp] theorem Block.noteEdges_win (b : Block) (d : List Nat) : (b.noteEdges d).win = b.win := by
  obtain ⟨l, i, g, e⟩ := b.noteEdges_frame d; simp [e]
@[simp] theorem Block.noteEdges_link (b : Block) (d : List Nat) : (b.noteEdges d).link = b.link := by
  obtain ⟨l, i, g, e⟩ := b.noteEdges_frame d; simp [e]
@[simp] theorem Block.noteEdges_get (b : Block) (d : List Nat) (k : Nat) : (b.noteEdges d).get k = b.get k := by
  obtain ⟨l, i, g, e⟩ := b.noteEdges_frame d; simp [e]

/-! #### Entries that disarming and an event leave alone -/

theorem Block.get_disarm_other (b : Block) {k : Nat} (h : k ≠ Ob.unlockState) : b.disarm.get k = b.get k := by
  unfold Block.disarm
  split
  · exact b.get_put_other _ h
  · rfl

/-- An event entry counts at most a drop of the journal (R428, R431). -/
theorem Block.get_event_other (b : Block) (code data : Nat) {k : Nat} (h : k ≠ Ob.dropCount + 1) : (b.event code data).get k = b.get k := by
  unfold Block.event Block.journalWrite
  extract_lets _ b1
  split
  · exact b1.get_put_other _ h
  · rfl

/-- An event entry starts no incident (R428, R430). -/
theorem Block.event_incidents (b : Block) (code data : Nat) : (b.event code data).journal.incidents = b.journal.incidents := by
  unfold Block.event Block.journalWrite
  extract_lets r b1
  have hr : r.1.incidents = b.journal.incidents := by simp [r, Journal.write]
  split
  · exact hr
  · exact hr

/-! #### Acceptance (R83, R84) -/

/-- Nothing that the checks of a PowerCommand look at is touched by disarming (R42). -/
theorem Block.disarm_powerAbort (b : Block) (code : Nat) : b.disarm.powerAbort code = b.powerAbort code := by
  have hl : b.disarm.live 0x82 = b.live 0x82 := by
    simp only [Block.live, Block.bit, Block.nat, b.get_disarm_other (show liveKey 0x82 ≠ Ob.unlockState by decide)]
  have hs : b.disarm.safeHold = b.safeHold := by
    simp only [Block.safeHold, Block.nat, b.get_disarm_other (show Ob.powerStateSafeHold ≠ Ob.unlockState by decide)]
  simp only [Block.powerAbort, Block.commandFrom, Block.inWindow, Block.isHead, Block.disarm_power, hl, hs,
    b.get_disarm_other (show Ob.powerStatePending ≠ Ob.unlockState by decide), b.get_disarm_other (show Ob.role ≠ Ob.unlockState by decide),
    b.get_disarm_other (show Ob.hottestLaneHottest ≠ Ob.unlockState by decide),
    b.get_disarm_other (show Ob.hottestLaneCoolest ≠ Ob.unlockState by decide)]
  rfl

/-- A command other than SHIP is accepted from its states while nothing is Pending. -/
theorem Block.powerAbort_eq_none {b : Block} {code : Nat} (hc : commandCodes.contains code = true) (hf : b.commandFrom code = true)
    (hp : b.get Ob.powerStatePending = 0) (hs : code ≠ 1) : b.powerAbort code = none := by
  simp only [Block.powerAbort, hc, hf, hp, hs]; simp

/-- What an accepted PowerCommand leaves, as its row gives it. -/
def Block.afterCommand (b : Block) (code ack : Nat) (m : List Host.Cell) : Block :=
  ((b.disarm.acceptCommand code ack m).emit (.answer none)).noteEdges []

theorem commandRow_of_accepted {b : Block} {code ack : Nat} {m : List Host.Cell} (aw : b.awake = true) (ha : b.powerAbort code = none) :
    commandRow code ack m b = b.afterCommand code ack m := by
  simp [commandRow, powerCommand, Block.disarm_powerAbort, aw, ha, Block.afterCommand]

theorem GivesBlock.of_command {c : Instr} {s : State} {code ack : Nat} {P : Block → Prop}
    (hx : exec c s = onBlockReading (commandRow code ack) s) (aw : s.blk.awake = true) (ha : s.blk.powerAbort code = none)
    (hP : P (s.blk.afterCommand code ack s.flash)) : GivesBlock c s P :=
  ⟨_, hx.trans (by rw [onBlockReading, commandRow_of_accepted aw ha]), hP⟩

/-! #### The power control stands while lanes, E6 and the governor start or stop -/

@[simp] theorem Block.zeroTheta_power (b : Block) : b.zeroTheta.power = b.power := rfl
@[simp] theorem Block.disable_power (b : Block) (i : Nat) : (b.disable i).power = b.power := by
  unfold Block.disable; split <;> simp

@[simp] theorem Block.dryCheck_power (b : Block) (ack : Nat) : (b.dryCheck ack).power = b.power := by
  unfold Block.dryCheck
  split
  · rfl
  · refine foldl_keeps (fun b : Block => b.power) (fun b i => ?_) _ _
    simp only [Block.raise_power]
    exact foldl_keeps (fun b : Block => b.power) (fun b j => b.disable_power j) _ _

@[simp] theorem Block.settleAveraging_power (b : Block) : b.settleAveraging.power = b.power := rfl
@[simp] theorem Block.publishCorrection_power (b : Block) : b.publishCorrection.power = b.power := by
  unfold Block.publishCorrection
  extract_lets _ tracking _ b1
  exact foldl_keeps (fun b : Block => b.power) (fun b k => Block.putBit_power b _ _ _) _ b1

@[simp] theorem cellLimitRefresh_power (b : Block) : (cellLimitRefresh b).power = b.power := by
  unfold cellLimitRefresh; split <;> rfl

@[simp] theorem Block.lanesStart_power (b : Block) : b.lanesStart.power = b.power := by
  simp [Block.lanesStart]

@[simp] theorem Block.loadWindowSettings_power (b : Block) : b.loadWindowSettings.power = b.power := by
  unfold Block.loadWindowSettings; extract_lets; split <;> rfl

@[simp] theorem Block.editSoc_power (b : Block) (i : Nat) (f : SocCell → SocCell) : (b.editSoc i f).power = b.power := rfl
@[simp] theorem Block.growU_power (b : Block) (i d : Nat) : (b.growU i d).power = b.power := by simp [Block.growU]
@[simp] theorem Block.publishSoc_power (b : Block) (i : Nat) : (b.publishSoc i).power = b.power := by
  unfold Block.publishSoc
  extract_lets
  split
  · exact b.noteSat_power 6 _
  · rfl

@[simp] theorem Block.advanceSoc_power (b : Block) (i : Nat) (pack : Int) (gap : Nat) (timed : Bool) :
    (b.advanceSoc i pack gap timed).power = b.power := by
  unfold Block.advanceSoc
  extract_lets _ _ _ _ b1
  have h1 : b1.power = b.power := rfl
  split
  · exact h1
  · simp [h1]

@[simp] theorem Block.drift_power (b : Block) (seconds : Nat) : (b.drift seconds).power = b.power := by
  unfold Block.drift
  extract_lets
  split
  · rfl
  · refine foldl_keeps (fun b : Block => b.power) (fun b i => ?_) _ _
    split <;> simp

@[simp] theorem Block.putTemp_power (b : Block) (i : Nat) (st : Int) (v : Option Int) : (b.putTemp i st v).power = b.power := by
  unfold Block.putTemp; split <;> rfl

@[simp] theorem Block.staleTemps_power (b : Block) (k : Nat) (p : Nat → Bool) : (b.staleTemps k p).power = b.power := by
  unfold Block.staleTemps
  split
  · refine foldl_keeps (fun b : Block => b.power) (fun b i => ?_) _ _
    split <;> simp
  · rfl

@[simp] theorem Block.dropActive_power (b : Block) (x : ActiveSeq) : (b.dropActive x).power = b.power := by
  unfold Block.dropActive
  split
  · rfl
  · exact Block.staleTemps_power _ _ _

@[simp] theorem Block.discardActive_power (b : Block) : b.discardActive.power = b.power := by
  unfold Block.discardActive
  split
  · rfl
  · exact b.dropActive_power _

@[simp] theorem Block.impStart_power (b : Block) : b.impStart.power = b.power := by
  unfold Block.impStart
  split
  · rfl
  · simp only [Block.drift_power]
    exact foldl_keeps (fun b : Block => b.power) (fun b i => b.advanceSoc_power i _ _ _) _ _

@[simp] theorem Block.impStop_power (b : Block) : b.impStop.power = b.power := by
  unfold Block.impStop
  split
  · rfl
  · refine (foldl_keeps (fun b : Block => b.power) (fun b i => ?_) _ _).trans b.discardActive_power
    split <;> simp

@[simp] theorem Block.followE6_power (b : Block) : b.followE6.power = b.power := by
  unfold Block.followE6
  split
  · simp
  · split <;> simp

/-! #### Where the transitions lead (R83) -/

theorem Block.startMeasuring_mode (b : Block) : b.startMeasuring.power.mode = .measure := by
  simp [Block.startMeasuring, Block.setMode]

theorem Block.toMeasure_mode (b : Block) (ack : Nat) : (b.toMeasure ack).power.mode = .measure := by
  unfold Block.toMeasure
  split
  · simp [Block.setMode]
  · simp [Block.startMeasuring_mode]

theorem Block.toFull_mode {b : Block} (hx : b.fuses.variantX = true) (ack : Nat) : (b.toFull ack).power.mode = .full := by
  simp [Block.toFull, hx, Block.setMode]

theorem Block.stopMeasuring_mode {b : Block} (h : b.measuring = true) : b.stopMeasuring.power.mode = .standby := by
  simp [Block.stopMeasuring, h, Block.setMode]

/-! #### The command rows (R83–R86) -/

theorem Block.awake_of_measuring {b : Block} (h : b.measuring = true) : b.awake = true := by
  simp only [Block.measuring, Block.awake, Bool.and_eq_true, Bool.or_eq_true] at h ⊢
  tauto

/-- STANDBY (R86). -/
theorem standby_gives {s : State} (hm : s.blk.measuring = true) (hp : s.blk.get Ob.powerStatePending = 0) :
    GivesBlock .standby s fun b => b.power.mode = .standby ∧ b.get Ob.powerStatePending = 4 := by
  refine .of_command rfl (Block.awake_of_measuring hm) (Block.powerAbort_eq_none rfl rfl hp (by decide)) ?_
  have h : (s.blk.disarm.event 0xE6 4).measuring = true := by simpa using hm
  simp [Block.afterCommand, Block.acceptCommand, h, Block.stopMeasuring_mode h]

/-- MEASURE (R83). -/
theorem measure_gives {s : State} (ack : Nat) (aw : s.blk.awake = true) (hm : s.blk.power.mode = .standby ∨ s.blk.power.mode = .full)
    (hp : s.blk.get Ob.powerStatePending = 0) :
    GivesBlock (.measure ack) s fun b => b.power.mode = .measure ∧ b.get Ob.powerStatePending = 5 := by
  have hf : s.blk.commandFrom 5 = true := by simpa [Block.commandFrom] using hm
  refine .of_command rfl aw (Block.powerAbort_eq_none rfl hf hp (by decide)) ?_
  simp [Block.afterCommand, Block.acceptCommand, Block.toMeasure_mode]

/-- FULL on an -X node (R83). -/
theorem full_gives_of_variantX {s : State} (ack : Nat) (aw : s.blk.awake = true)
    (hm : s.blk.power.mode = .standby ∨ s.blk.power.mode = .measure) (hx : s.blk.fuses.variantX = true)
    (hp : s.blk.get Ob.powerStatePending = 0) :
    GivesBlock (.full ack) s fun b => b.power.mode = .full ∧ b.get Ob.powerStatePending = 6 := by
  have hf : s.blk.commandFrom 6 = true := by simpa [Block.commandFrom] using hm
  refine .of_command rfl aw (Block.powerAbort_eq_none rfl hf hp (by decide)) ?_
  have h : (s.blk.disarm.event 0xE6 6).fuses.variantX = true := by simpa using hx
  simp [Block.afterCommand, Block.acceptCommand, Block.toFull_mode h, hx]

/-- FULL on an -S node in Standby: Measure (R3). -/
theorem full_gives_measure {s : State} (ack : Nat) (aw : s.blk.awake = true) (hm : s.blk.power.mode = .standby)
    (hx : s.blk.fuses.variantX = false) (hp : s.blk.get Ob.powerStatePending = 0) :
    GivesBlock (.full ack) s fun b => b.power.mode = .measure ∧ b.get Ob.powerStatePending = 5 := by
  have hf : s.blk.commandFrom 6 = true := by simp [Block.commandFrom, hm]
  refine .of_command rfl aw (Block.powerAbort_eq_none rfl hf hp (by decide)) ?_
  have h : s.blk.measuring = false := by simp [Block.measuring, hm]
  simp [Block.afterCommand, Block.acceptCommand, Block.toFull, hx, h, Block.toMeasure_mode]

/-- FULL on an -S node in Measure: no state changes (R3). -/
theorem full_gives_nothing {s : State} (ack : Nat) (aw : s.blk.awake = true) (hm : s.blk.power.mode = .measure)
    (hx : s.blk.fuses.variantX = false) (hp : s.blk.get Ob.powerStatePending = 0) :
    GivesBlock (.full ack) s fun b => b.power = s.blk.power ∧ b.get Ob.powerStatePending = 0 ∧ b.win = s.blk.win := by
  have hf : s.blk.commandFrom 6 = true := by simp [Block.commandFrom, hm]
  refine .of_command rfl aw (Block.powerAbort_eq_none rfl hf hp (by decide)) ?_
  have h : s.blk.measuring = true := by simpa [Block.measuring, Block.awake, hm] using aw
  have hq : (s.blk.disarm.event 0xE6 6).get Ob.powerStatePending = 0 := by
    rw [Block.get_event_other _ _ _ (by decide), Block.get_disarm_other _ (by decide), hp]
  simp [Block.afterCommand, Block.acceptCommand, hx, h, hq]

/-! #### Transitions that may wait for an NVM program (R85) -/

/-- The block with an accepted SHIP, SLEEP or RESET Pending, before it begins. -/
def Block.pendingOf (b : Block) (code : Nat) : Block :=
  let c := (b.event 0xE6 code).closeTransfers
  (c.withPower { c.power with holdLiveAtReset := if code = 8 then c.holdLive else c.power.holdLiveAtReset }).put Ob.powerStatePending code

theorem Block.acceptCommand_eq_resumePending (b : Block) {code : Nat} (hc : code = 1 ∨ code = 2 ∨ code = 8) (ack : Nat) (m : List Host.Cell) :
    b.acceptCommand code ack m = (b.pendingOf code).resumePending m := by
  rcases hc with rfl | rfl | rfl <;> rfl

@[simp] theorem Block.pendingOf_get (b : Block) (code : Nat) : (b.pendingOf code).get Ob.powerStatePending = code := by
  simp [Block.pendingOf]
@[simp] theorem Block.pendingOf_nvm (b : Block) (code : Nat) : (b.pendingOf code).nvm = b.nvm := by simp [Block.pendingOf]
@[simp] theorem Block.pendingOf_flint (b : Block) (code : Nat) : (b.pendingOf code).flint = b.flint := by simp [Block.pendingOf]
@[simp] theorem Block.pendingOf_awake (b : Block) (code : Nat) : (b.pendingOf code).awake = b.awake := by
  simp [Block.pendingOf, Block.awake]
@[simp] theorem Block.pendingOf_incidents (b : Block) (code : Nat) : (b.pendingOf code).journal.incidents = b.journal.incidents := by
  simp [Block.pendingOf, Block.event_incidents]

theorem Block.resumePending_ship {b : Block} (m : List Host.Cell) (aw : b.awake = true) (hn : b.nvm.program = none)
    (hp : b.get Ob.powerStatePending = 1) : b.resumePending m = b.beginShip m := by
  simp [Block.resumePending, aw, hn, hp]

theorem Block.resumePending_sleep {b : Block} (m : List Host.Cell) (aw : b.awake = true) (hn : b.nvm.program = none)
    (hp : b.get Ob.powerStatePending = 2) : b.resumePending m = b.enterSleep b.formPlan := by
  simp [Block.resumePending, aw, hn, hp]

theorem Block.resumePending_reset {b : Block} (m : List Host.Cell) (aw : b.awake = true) (hn : b.nvm.program = none)
    (hp : b.get Ob.powerStatePending = 8) : b.resumePending m = b.beginReset := by
  simp [Block.resumePending, aw, hn, hp]

/-- The entry to Sleep (R83, R387). -/
theorem Block.enterSleep_spec (b : Block) (plan : List Planned) :
    (b.enterSleep plan).power.mode = .sleep ∧ (b.enterSleep plan).power.pwrEn = false ∧ (b.enterSleep plan).flint.fltLow = false :=
  ⟨rfl, rfl, rfl⟩

/-- The entry to Ship, which keeps nothing (R83, R103, R387). -/
theorem Block.enterShip_spec (b : Block) :
    b.enterShip.power.mode = .ship ∧ b.enterShip.journal.entries = [] ∧ b.enterShip.flint = .fresh :=
  ⟨rfl, rfl, rfl⟩

/-- The core reset of RESET (R83). -/
theorem Block.beginReset_spec (b : Block) : b.beginReset.power.stage = .rails ∧ b.beginReset.power.cause = 6 := ⟨rfl, rfl⟩

theorem Block.drainOne_of_empty {b : Block} (h : b.flint.fifo = []) : b.drainOne = b := by simp [Block.drainOne, h]

theorem Block.settleJournal_of_empty {b : Block} (h : b.flint.fifo = []) : b.settleJournal = b := by
  have hd : b.drainAll = b :=
    List.foldlRecOn (motive := fun x : Block => x = b) _ _ rfl fun x e _ _ => by rw [e, b.drainOne_of_empty h]
  simp [Block.settleJournal, hd]

/-- With no incident and no summary bank in force there is nothing to save (R434). -/
theorem Block.summaryNeeded_eq_false {b : Block} (m : List Host.Cell) (hb : b.nvm.summaryBank = none) (hi : b.journal.incidents = []) :
    b.summaryNeeded m = false := by
  simp [Block.summaryNeeded, Block.gatherSummaries, Block.summarySlots, hb, hi]

theorem Block.beginShip_of_nothing_to_save {b : Block} (m : List Host.Cell) (hf : b.flint.fifo = []) (hb : b.nvm.summaryBank = none)
    (hi : b.journal.incidents = []) : b.beginShip m = b.enterShip := by
  simp [Block.beginShip, Block.settleJournal_of_empty hf, Block.readSummaries, hb, Block.summaryNeeded_eq_false m hb hi]

/-- SLEEP (R83, R85, R387). -/
theorem sleep_gives {s : State} (aw : s.blk.awake = true) (hp : s.blk.get Ob.powerStatePending = 0) (hn : s.blk.nvm.program = none) :
    GivesBlock .sleep s fun b => b.power.mode = .sleep ∧ b.power.pwrEn = false ∧ b.flint.fltLow = false := by
  refine .of_command rfl aw (Block.powerAbort_eq_none rfl rfl hp (by decide)) ?_
  rw [Block.afterCommand, Block.acceptCommand_eq_resumePending _ (by decide),
    Block.resumePending_sleep _ (by simpa using aw) (by simpa using hn) (by simp)]
  simpa using Block.enterSleep_spec _ _

/-- SHIP with nothing to save (R83, R84, R103). -/
theorem ship_gives {s : State} (aw : s.blk.awake = true) (hm : s.blk.power.mode = .standby) (hp : s.blk.get Ob.powerStatePending = 0)
    (hs : s.blk.safeHold < 4) (hl : s.blk.live 0x82 = false) (hw : s.blk.inWindow = true) (hn : s.blk.nvm.program = none)
    (hb : s.blk.nvm.summaryBank = none) (hi : s.blk.journal.incidents = []) (hf : s.blk.flint.fifo = []) :
    GivesBlock .ship s fun b => b.power.mode = .ship ∧ b.journal.entries = [] ∧ b.flint = .fresh := by
  have ha : s.blk.powerAbort 1 = none := by
    simp [Block.powerAbort, commandCodes, Block.commandFrom, hm, hp, hl, hw, hs]
  refine .of_command rfl aw ha ?_
  rw [Block.afterCommand, Block.acceptCommand_eq_resumePending _ (by decide),
    Block.resumePending_ship _ (by simpa using aw) (by simpa using hn) (by simp),
    Block.beginShip_of_nothing_to_save _ (by simpa using hf) (by simpa using hb) (by simpa using hi)]
  simpa using Block.enterShip_spec _

/-- RESET (R83). -/
theorem reset_gives {s : State} (aw : s.blk.awake = true) (hp : s.blk.get Ob.powerStatePending = 0) (hn : s.blk.nvm.program = none) :
    GivesBlock .reset s fun b => b.power.stage = .rails ∧ b.power.cause = 6 := by
  refine .of_command rfl aw (Block.powerAbort_eq_none rfl rfl hp (by decide)) ?_
  rw [Block.afterCommand, Block.acceptCommand_eq_resumePending _ (by decide),
    Block.resumePending_reset _ (by simpa using aw) (by simpa using hn) (by simp)]
  simpa using Block.beginReset_spec _

@[simp] theorem Block.faultCycle_program (b : Block) : b.faultCycle.nvm.program = b.nvm.program := by
  have h := b.faultCycle_nvm
  injection h

/-- COMM_LOSS (R89): the node sleeps as if SLEEP had been commanded. -/
theorem commLoss_gives {s : State} (t : Nat) (aw : s.blk.awake = true) (hn : s.blk.nvm.program = none)
    (hc : s.blk.get Ob.commLossTimeout ≤ chainDiff (t % t48) s.blk.power.commAt) :
    GivesBlock (.commLoss t) s fun b => b.power.mode = .sleep ∧ b.power.pwrEn = false := by
  refine ⟨_, rfl, ?_⟩
  have hc' : ¬ chainDiff (t % t48) s.blk.power.commAt < s.blk.get Ob.commLossTimeout := not_lt.mpr hc
  simp only [Block.noteEdges_power]
  unfold Machine.commLoss
  have haw : (s.blk.at t).awake = true := aw
  rw [if_neg (by simpa [haw] using hc')]
  rw [Block.resumePending_sleep _ (by simpa using haw) (by simpa using hn) (by simp)]
  exact ⟨(Block.enterSleep_spec _ _).1, (Block.enterSleep_spec _ _).2.1⟩

/-! #### The wake tones of a head (R83, R95) -/

/-- A tone drops what waits for its port, but no census that is due, and takes no time. -/
theorem Block.startTone_keeps_census (b : Block) (p : Port) (us : Nat) :
    (b.startTone p us).link.wakeCensus = b.link.wakeCensus ∧ (b.startTone p us).now = b.now := by
  unfold Block.startTone
  split
  · exact ⟨rfl, rfl⟩
  · exact ⟨rfl, rfl⟩

@[inherit_doc Block.startTone_keeps_census]
theorem Block.sendTone_keeps_census (b : Block) (p : Port) (us : Nat) :
    (b.sendTone p us).link.wakeCensus = b.link.wakeCensus ∧ (b.sendTone p us).now = b.now := by
  unfold Block.sendTone
  split
  · split
    · exact ⟨rfl, rfl⟩
    · exact ⟨rfl, rfl⟩
  · exact b.startTone_keeps_census p us

theorem Block.wakeTones_spec (b : Block) (us census : Nat) :
    (b.wakeTones us census).link.wakeCensus = b.link.wakeCensus ++ [(b.now + census) % t48] ∧
      (b.wakeTones us census).phys.ownToneEnd = some ((b.now + us) % t48) := by
  unfold Block.wakeTones
  extract_lets b1 b2
  have h1 : b1.link.wakeCensus = b.link.wakeCensus ∧ b1.now = b.now := b.sendTone_keeps_census .du us
  have h2 : b2.link.wakeCensus = b.link.wakeCensus ∧ b2.now = b.now := by
    unfold b2
    split
    · have h := b1.sendTone_keeps_census .dl us
      exact ⟨h.1.trans h1.1, h.2.trans h1.2⟩
    · exact h1
  simp [h2]

/-- WAKE_CHAIN (R83, R95). -/
theorem wakeChain_gives {s : State} (aw : s.blk.awake = true) (hh : s.blk.isHead = true) (hp : s.blk.get Ob.powerStatePending = 0) :
    GivesBlock .wakeChain s fun b => b.link.wakeCensus = s.blk.link.wakeCensus ++ [(s.blk.now + 20020) % t48] ∧
      b.phys.ownToneEnd = some ((s.blk.now + 20) % t48) := by
  refine .of_command rfl aw (Block.powerAbort_eq_none rfl hh hp (by decide)) ?_
  simpa [Block.afterCommand, Block.acceptCommand] using (s.blk.disarm.event 0xE6 9).wakeTones_spec 20 20020

/-- TRANSITION_COMPLETE (R83). -/
theorem transitionComplete_gives {s : State} (aw : s.blk.awake = true)
    (hp : s.blk.get Ob.powerStatePending = 4 ∨ s.blk.get Ob.powerStatePending = 5 ∨ s.blk.get Ob.powerStatePending = 6) :
    GivesBlock .transitionComplete s fun b => b = s.blk.put Ob.powerStatePending 0 := by
  refine ⟨_, rfl, ?_⟩
  have h : (s.blk.awake && (s.blk.get Ob.powerStatePending = 4 || s.blk.get Ob.powerStatePending = 5 ||
      s.blk.get Ob.powerStatePending = 6)) = true := by simpa [aw, or_assoc] using hp
  exact if_pos h

/-- Settles O4: each accepted command by the lemma of its row. -/
theorem powerCommandsAccepted : Obligations.PowerCommandsAccepted :=
  ⟨fun _ => standby_gives, fun _ ack => measure_gives ack, fun _ ack => full_gives_of_variantX ack, fun _ ack => full_gives_measure ack,
    fun _ ack => full_gives_nothing ack, fun _ => sleep_gives,
    fun _ aw hm hp hs hl hw hn hb hi hf _ => ship_gives aw hm hp hs hl hw hn hb hi hf, fun _ => reset_gives, fun _ => wakeChain_gives,
    fun _ => transitionComplete_gives, fun _ t => commLoss_gives t⟩

end Sys2Proof.Machine
end

section
/-! ### An object of an absent feature (R2, R61, R237)

The objects 0x4000 to 0x402F on an -S part: what each kind of access finds, how the answer travels on the chain, and how it travels
to a host. -/

namespace Sys2Proof.Machine

/-! #### Absence, as the accesses see it -/

/-- The object belongs to a feature that the node lacks (R2, R61). -/
structure Block.Lacks (b : Block) (ix : Nat) : Prop where
  variant : b.fuses.variantX = false
  least : 0x4000 ≤ ix
  most : ix ≤ 0x402F

theorem Block.Lacks.of_fuses {a b : Block} {ix : Nat} (h : a.Lacks ix) (e : b.fuses = a.fuses) : b.Lacks ix :=
  ⟨e ▸ h.variant, h.least, h.most⟩

section
variable {b : Block} {ix : Nat} (h : b.Lacks ix)
include h

theorem Block.Lacks.disarm : b.disarm.Lacks ix := h.of_fuses (b.disarm_fuses)

theorem Block.Lacks.word : ix < 65536 := by have := h.most; omega

theorem Block.Lacks.below : ¬ 0xF000 ≤ ix := by have := h.most; omega

theorem Block.Lacks.xOnly : (xOnly ix && !b.fuses.variantX) = true := by
  simp [Machine.xOnly, h.variant, h.least, h.most]

theorem Block.Lacks.readBytes (m : List Host.Cell) (sub : Nat) : b.readBytes m ix sub = .error 0x060C := by
  rw [Block.readBytes, if_neg h.below, if_pos h.xOnly]

theorem Block.Lacks.writeTarget (sub : Nat) : b.writeTarget ix sub = .error 0x060C := by
  rw [Block.writeTarget, if_neg h.below, if_pos h.xOnly]

theorem Block.Lacks.ne_unlock : ix ≠ 0x1F00 := by have := h.least; omega

theorem Block.Lacks.refusedWrite (c : Block) : c.refusedWrite ix = c.disarm := if_neg h.ne_unlock

theorem Block.Lacks.readNow (m : List Host.Cell) (sub : Nat) : b.readNow m ix sub = (.refuse 0x060C 0 0, b) := by
  simp only [Block.readNow, Block.expeditedRead, h.readBytes]

theorem Block.Lacks.writeAccess (m : List Host.Cell) (sub : Nat) (data : List Byte) (most : Nat) (who : Option Carrier) :
    b.writeAccess m ix sub data most who = (.refused 0x060C, b.disarm) := by
  have hp : ix ≠ 0x1001 := by have := h.least; omega
  simp only [Block.writeAccess, h.ne_unlock, hp, if_false, Block.writeObject, Block.checkWrite, h.disarm.writeTarget]

theorem Block.Lacks.writeNow (m : List Host.Cell) (sub : Nat) (data : List Byte) (who : Option Carrier) :
    b.writeNow m ix sub data who = (some (.refuse 0x060C data.length 0), b.disarm) := by
  simp only [Block.writeNow, h.writeAccess, Verdict.reply]

theorem Block.Lacks.initRead (m : List Host.Cell) (r : Requester) (sub l : Nat) :
    b.initRead m r ix sub l = (.refuse 0x060C l 0, b.withAccess (b.access.restart r)) := by
  simp only [Block.initRead, (h.of_fuses (b.withAccess_fuses _)).readBytes]

theorem Block.Lacks.initWrite (r : Requester) (sub l : Nat) :
    b.initWrite r ix sub l = (.refuse 0x060C l 0, (b.disarm.withAccess (b.access.restart r)).disarm) := by
  simp only [Block.initWrite, h.ne_unlock, if_false, (h.disarm.of_fuses (b.disarm.withAccess_fuses _)).writeTarget, h.refusedWrite,
    Block.disarm_access]

end

/-! #### Disarming -/

theorem Block.disarm_of_ne {b : Block} (h : b.get Ob.unlockState ≠ 1) : b.disarm = b := if_neg h

theorem Block.get_disarm_unlock (b : Block) : b.disarm.get Ob.unlockState ≠ 1 := by
  unfold Block.disarm
  split
  · simp
  · assumption

/-- Disarming goes by the dictionary alone. -/
theorem Block.disarm_dict_congr {a b : Block} (h : a.dict = b.dict) : a.disarm.dict = b.disarm.dict := by
  have hg : ∀ k, a.get k = b.get k := fun k => congrArg (Dict.get k) h
  simp only [Block.disarm, hg]
  split
  · simp only [Block.put, Block.withDict_dict, h]
  · exact h

/-! #### A command of the chain -/

theorem Block.commanded_dict (b : Block) : b.commanded.dict = b.dict := b.heard_dict _
theorem Block.commanded_link (b : Block) : b.commanded.link = b.link := b.heard_link _
theorem Block.commanded_fuses (b : Block) : b.commanded.fuses = b.fuses := b.heard_fuses _

theorem Block.commanded_awake (b : Block) : b.commanded.awake = b.awake := by
  unfold Block.commanded Block.heard
  split
  · rfl
  · rfl

/-- A node that listens runs the command, and its answer, kept for a repeat, waits behind what the node had to send (R53, R318). -/
theorem Listens.chainCommand_responds {b c : Block} {seq op ix sub : Nat} {r : Reply} {run : Block → Reply × Block} (h : Listens b seq)
    (hrun : run b.commanded = (r, c)) (aw : c.awake = b.awake) (own : c.link.own = b.link.own) :
    Responds b (b.chainCommand seq op ix sub run) seq (responsePayload op ix sub r) ∧
      (b.chainCommand seq op ix sub run).dict = c.dict := by
  obtain ⟨awake, head, pos, fresh⟩ := h
  have hf : ((b.heard b.link.headSide).access.lastSeq.filter fun x => x.1 == seq) = none := by
    rw [Block.heard_access, Option.filter_eq_none_iff]
    exact fun x hx => by simpa using fresh x hx
  have e : b.chainCommand seq op ix sub run =
      (c.withAccess { c.access with lastSeq := some (seq, responsePayload op ix sub r) }).queueResponse seq
        (responsePayload op ix sub r) := by
    unfold Block.commanded at hrun
    simp only [Block.chainCommand, awake, head, pos, Bool.not_true, Bool.or_self, Bool.false_eq_true, if_false, hf, hrun,
      Block.sendResponse, Block.withAccess_awake, aw, if_true]
  rw [e]
  exact ⟨⟨by simp [Block.queueResponse, own], rfl⟩, rfl⟩

/-! #### The bytes of a header -/

theorem Block.nextTag_lt (b : Block) (c : Carrier) : b.nextTag c < 4 := by
  unfold Block.nextTag
  split
  · exact Nat.mod_lt _ (by decide)
  · decide

/-- The fields of the header of a command to position 0 (R351). -/
theorem Block.nextHeader_fields (b : Block) (c : Carrier) {op ix sub : Nat} (ho : op < 64) (hi : ix < 65536) (hs : sub < 256) :
    headerOp (b.nextHeader c op 0 ix sub) = op ∧ field (b.nextHeader c op 0 ix sub) 1 1 = 0 ∧
      field (b.nextHeader c op 0 ix sub) 2 2 = ix ∧ field (b.nextHeader c op 0 ix sub) 4 1 = sub := by
  have := b.nextTag_lt c
  simp only [Block.nextHeader, headerOp, field, natOf, bytesOf, List.cons_append, List.nil_append, List.drop_succ_cons, List.drop_zero,
    List.take_succ_cons, List.take_zero, List.foldl_cons, List.foldl_nil, BitVec.toNat_ofNat]
  omega

theorem field_bytesOf_two {n : Nat} (h : n < 65536) : field (bytesOf 2 n) 0 2 = n := by
  simp only [field, natOf, bytesOf, List.drop_zero, List.take_succ_cons, List.take_zero, List.foldl_cons, List.foldl_nil,
    BitVec.toNat_ofNat]
  omega

/-- The next command is none that a carrier has executed last: its TAG differs (R354). -/
theorem Block.nextHeader_fresh (b : Block) (c : Carrier) (op p ix sub : Nat) (data : List Byte) (ho : op < 64) :
    ∀ x, (b.hostPort c).last = some x → x.1 ≠ b.nextHeader c op p ix sub ++ data := by
  intro x hx e
  have ht : b.nextTag c = (field x.1 0 1 / 64 + 1) % 4 := by rw [Block.nextTag, hx]
  have hf : field (b.nextHeader c op p ix sub ++ data) 0 1 = 64 * b.nextTag c + op := by
    have := b.nextTag_lt c
    simp only [Block.nextHeader, field, natOf, bytesOf, List.cons_append, List.nil_append, List.drop_zero, List.take_succ_cons,
      List.take_zero, List.foldl_cons, List.foldl_nil, BitVec.toNat_ofNat]
    omega
  rw [e, hf] at ht
  omega

/-! #### What serving a host leaves alone

Hearing a command, counting it and answering it write the host side, the sign of life, HostCounters and CanStatus. -/

/-- From a to b the head has served its host: fuses, chain and the objects beside HostCounters and CanStatus stand. -/
structure Block.Serves (a b : Block) : Prop where
  fuses : b.fuses = a.fuses
  link : b.link = a.link
  get : ∀ k, k / 256 ≠ 0x1204 → k / 256 ≠ 0x1212 → b.get k = a.get k

section
variable {a b : Block}

theorem Block.Serves.refl (b : Block) : b.Serves b := ⟨rfl, rfl, fun _ _ _ => rfl⟩
theorem Block.Serves.withHost (h : a.Serves b) {v} : a.Serves (b.withHost v) := ⟨h.fuses, h.link, h.get⟩
theorem Block.Serves.withPower (h : a.Serves b) {v} : a.Serves (b.withPower v) := ⟨h.fuses, h.link, h.get⟩
theorem Block.Serves.withFree (h : a.Serves b) {v} : a.Serves (b.withFree v) := ⟨h.fuses, h.link, h.get⟩
theorem Block.Serves.emit (h : a.Serves b) {e} : a.Serves (b.emit e) := ⟨h.fuses, h.link, h.get⟩

theorem Block.Serves.setHostPort (h : a.Serves b) {c p} : a.Serves (b.setHostPort c p) := by
  cases c
  · exact h.withHost
  · exact h.withHost

theorem Block.Serves.put (h : a.Serves b) {k v} (hk : k / 256 = 0x1204 ∨ k / 256 = 0x1212) : a.Serves (b.put k v) :=
  ⟨h.fuses, h.link, fun l h1 h2 => (b.get_put_other v fun e => by subst e; exact hk.elim h1 h2).trans (h.get l h1 h2)⟩

theorem Block.Serves.ite {p : Prop} [Decidable p] {x y : Block} (hx : a.Serves x) (hy : a.Serves y) :
    a.Serves (if p then x else y) := by
  split
  · exact hx
  · exact hy

theorem Block.Serves.judgeCan (h : a.Serves b) : a.Serves b.judgeCan := .ite (h.put (by decide)) h

theorem Block.Serves.canFrame (h : a.Serves b) {k l} : a.Serves (b.canFrame k l) :=
  .ite ((h.emit.put (by decide)).judgeCan.put (by decide)).withFree (h.emit.put (by decide)).judgeCan

theorem Block.Serves.canAlarms (h : a.Serves b) : a.Serves b.canAlarms :=
  List.foldlRecOn (motive := fun x : Block => a.Serves x) _ _ h.withHost fun _ hx _ _ => hx.canFrame

theorem Block.Serves.canRespond (h : a.Serves b) {l} : a.Serves (b.canRespond l) := .ite h.canAlarms.canFrame (.ite h.withHost h)

theorem Block.Serves.hostHeard (h : a.Serves b) : a.Serves b.hostHeard := h.withPower.withHost

theorem Block.Serves.endSilent (h : a.Serves b) {c} : a.Serves (b.endSilent c) := by
  cases c
  · exact h
  · exact .ite (h.withHost.put (by decide)).judgeCan h.withHost

theorem Block.Serves.discardSlot (h : a.Serves b) {c} : a.Serves (b.discardSlot c) :=
  .ite (h.put (by decide)).setHostPort h

theorem Block.Serves.answerHost (h : a.Serves b) {c r} : a.Serves (b.answerHost c r) := by
  unfold Block.answerHost Block.answerWith
  extract_lets
  split
  · exact h
  · cases c
    · exact h.setHostPort
    · exact h.setHostPort.withPower.canRespond

theorem Block.Serves.begun (b : Block) (c : Carrier) (header data : List Byte) : b.Serves (b.begun c header data) := by
  have hk : acceptedKey c / 256 = 0x1204 := by cases c <;> decide
  exact ((Block.Serves.refl b).hostHeard.endSilent.setHostPort.put (.inl hk)).discardSlot.setHostPort

end

/-! #### The carriers of the head -/

@[simp] theorem Block.setHostPort_hostPort (b : Block) (c : Carrier) (p : HostPort) : (b.setHostPort c p).hostPort c = p := by
  cases c <;> rfl
@[simp] theorem Block.count32_hostPort (b : Block) (k : Nat) (c : Carrier) : (b.count32 k).hostPort c = b.hostPort c := by
  cases c
  · exact congrArg HostSide.spi (b.count32_host k)
  · exact congrArg HostSide.can (b.count32_host k)
@[simp] theorem Block.hostHeard_hostPort (b : Block) (c : Carrier) : b.hostHeard.hostPort c = b.hostPort c := by
  cases c <;> rfl
@[simp] theorem Block.withAccess_hostPort (b : Block) (v : Access) (c : Carrier) : (b.withAccess v).hostPort c = b.hostPort c := by
  cases c <;> rfl
@[simp] theorem Block.disarm_hostPort (b : Block) (c : Carrier) : b.disarm.hostPort c = b.hostPort c := by
  cases c
  · exact congrArg HostSide.spi b.disarm_host
  · exact congrArg HostSide.can b.disarm_host

@[simp] theorem Block.judgeCan_host (b : Block) : b.judgeCan.host = b.host := by
  unfold Block.judgeCan
  extract_lets
  split
  · rfl
  · rfl

@[simp] theorem Block.endSilent_hostPort (b : Block) (c : Carrier) : (b.endSilent c).hostPort c = b.hostPort c := by
  cases c with
  | spi => rfl
  | can =>
    simp only [Block.endSilent]
    split
    · exact (congrArg HostSide.can (Block.judgeCan_host _)).trans rfl
    · rfl

@[simp] theorem Block.canFrame_host (b : Block) (k : Nat) (l : List Byte) : (b.canFrame k l).host = b.host := by
  unfold Block.canFrame
  extract_lets _ _ b1 b2
  have h2 : b2.host = b.host := Block.judgeCan_host _
  split
  · exact h2
  · exact h2

@[simp] theorem Block.canRespond_can (b : Block) (l : List Byte) : (b.canRespond l).host.can = b.host.can := by
  have ha : b.canAlarms.host.can = b.host.can :=
    foldl_keeps (fun b : Block => b.host.can) (fun b x => congrArg HostSide.can (b.canFrame_host 0 x)) _ _
  unfold Block.canRespond
  split
  · simp [ha]
  · split
    · rfl
    · rfl

/-- A command in execution that is answered: kept for a repeat, and on SPI in the slot (R353, R354, R363). -/
theorem Block.answerHost_answered {b : Block} {c : Carrier} {x : Running} (h : (b.hostPort c).executing = some x) (r : Result) :
    Answered (b.answerHost c r) c x.header x.data r ∧ ((b.answerHost c r).hostPort c).transfer = (b.hostPort c).transfer := by
  simp only [Block.answerHost, Block.answerWith, h]
  cases c with
  | spi => exact ⟨⟨rfl, rfl, fun _ => rfl⟩, rfl⟩
  | can => simp [Answered, Block.setHostPort, Block.hostPort]

/-! #### A host's command begins -/

theorem Block.discardSlot_transfer (b : Block) (c : Carrier) : ((b.discardSlot c).hostPort c).transfer = (b.hostPort c).transfer := by
  unfold Block.discardSlot
  extract_lets p
  split
  · rw [Block.setHostPort_hostPort]
  · rfl

/-- A command that is no TRIGGER, listed and of a length that fits is carried out while no census round runs (R352, R355). -/
theorem Block.startHost_runs {b : Block} {c : Carrier} {x : Running} (m : List Host.Cell) (round : b.link.round = none)
    (trigger : headerOp x.header ≠ 0x10) (listed : (novezLength c (headerOp x.header)).isSome)
    (fits : novezFits c (headerOp x.header) x.data.length = true) :
    b.startHost m c x = (b.setHostPort c { b.hostPort c with executing := some x }).runHost m c x := by
  have hr : (b.setHostPort c { b.hostPort c with executing := some x }).link = b.link := (Block.Serves.refl b).setHostPort.link
  have hn : (novezLength c (headerOp x.header)).isNone = false := by simpa using listed
  simp only [Block.startHost, trigger, fits, hr, round, hn, Option.isSome_none, Bool.false_eq_true, if_false, decide_false,
    Bool.false_and, Bool.not_true]

theorem Block.begun_executing (b : Block) (c : Carrier) (header data : List Byte) :
    ((b.begun c header data).hostPort c).executing = some ⟨header, data, .single, false⟩ := by
  simp [Block.begun]

theorem Block.begun_transfer (b : Block) (c : Carrier) (header data : List Byte) :
    ((b.begun c header data).hostPort c).transfer = (b.hostPort c).transfer := by
  simp [Block.begun, Block.discardSlot_transfer]

/-- A command that a ready head accepts for the first time begins, and is carried out unless it is a TRIGGER (R354, R355). -/
theorem Ready.acceptHost {b : Block} {c : Carrier} (h : Ready b c) (m : List Host.Cell) {header data : List Byte}
    (fresh : ∀ x, (b.hostPort c).last = some x → x.1 ≠ header ++ data) (trigger : headerOp header ≠ 0x10)
    (listed : (novezLength c (headerOp header)).isSome) (fits : novezFits c (headerOp header) data.length = true) :
    b.acceptHost m c header data = (b.begun c header data).runHost m c ⟨header, data, .single, false⟩ := by
  obtain ⟨-, idle, round, -, -⟩ := h
  have hl : ((b.hostPort c).last.filter fun x => x.1 == header ++ data) = none := by
    rw [Option.filter_eq_none_iff]
    exact fun x hx => by simpa using fresh x hx
  have hb : (b.begun c header data).link = b.link := (Block.Serves.begun b c header data).link
  simp only [Block.begun, (Block.Serves.refl _).setHostPort.link, Block.endSilent_hostPort, Block.hostHeard_hostPort] at hb
  simp only [Block.acceptHost, Block.endSilent_hostPort, Block.hostHeard_hostPort, idle, hl, Option.isSome_none, Bool.false_eq_true,
    if_false]
  rw [Block.startHost_runs m (by rw [← idle, hb, round]) trigger listed fits]
  simp only [Block.begun, Block.endSilent_hostPort, Block.hostHeard_hostPort, idle]

/-- Position 0 is known at a ready head (R356). -/
theorem Ready.positionKnown {b : Block} {c : Carrier} (h : Ready b c) (header data : List Byte) (op : Nat) :
    (b.begun c header data).positionKnown op 0 = true := by
  obtain ⟨-, -, -, lo, hi⟩ := h
  rw [Block.positionKnown, (Block.Serves.begun b c header data).get Ob.censusResultTop (by decide) (by decide)]
  simp [lo, hi]

/-- A host's access to the head's own dictionary is carried out on the head as the command has begun (R352, R356). -/
theorem Ready.hostCommand {b : Block} {c : Carrier} (h : Ready b c) (m : List Host.Cell) {op ix sub : Nat} {data : List Byte}
    (ho : op ≤ 7) (hi : ix < 65536) (hs : sub < 256) (listed : (novezLength c op).isSome) (fits : novezFits c op data.length = true) :
    Machine.hostCommand c op 0 ix sub data m b =
      let x := b.begun c (b.nextHeader c op 0 ix sub) data
      if op = 0x01 then x.hostRead m c 0 ix sub
      else if op = 0x02 then x.hostWrite m c 0 ix sub data
      else if op = 0x03 then x.hostInitRead m c 0 ix sub (field data 0 2)
      else if op = 0x04 then x.hostInitWrite c 0 ix sub (field data 0 2)
      else if op = 0x05 then x.hostSegRead c (field data 0 1)
      else if op = 0x06 then x.hostSegWrite c (field data 0 1) (data.drop 1)
      else x.hostSegEnd m c (field data 0 2) := by
  obtain ⟨hop, hp, hix, hsub⟩ := b.nextHeader_fields c (show op < 64 by omega) hi hs
  have fresh := b.nextHeader_fresh c op 0 ix sub data (by omega)
  have e : Machine.hostCommand c op 0 ix sub data m b = b.acceptHost m c (b.nextHeader c op 0 ix sub) data := by
    rw [Machine.hostCommand, h.1]; rfl
  have h12 : op ≠ 0x12 := by omega
  have h11 : op ≠ 0x11 := by omega
  rw [e, h.acceptHost m fresh (by omega) (by rw [hop]; exact listed) (by rw [hop]; exact fits)]
  simp only [Block.runHost, hop, hp, hix, hsub, h.positionKnown, h11, h12, if_false, Bool.not_true, Bool.false_eq_true]

/-! #### A host's access to an object of an absent feature -/

section
variable {x : Block} {c : Carrier} {ix : Nat} (m : List Host.Cell)

theorem Block.Lacks.hostRead (h : x.Lacks ix) (sub : Nat) : x.hostRead m c 0 ix sub = x.answerHost c (.abort 0x060C) := by
  simp only [Block.hostRead, if_true, h.readNow]
  rfl

theorem Block.Lacks.hostWrite (h : x.Lacks ix) (sub : Nat) (data : List Byte) {header bytes : List Byte}
    (he : (x.hostPort c).executing = some ⟨header, bytes, .single, false⟩) :
    x.hostWrite m c 0 ix sub data = x.disarm.answerHost c (.abort 0x060C) := by
  simp only [Block.hostWrite, if_true, Block.writeOwn, h.writeNow, Block.ownWritten, Block.disarm_hostPort, he, Option.map_some]
  rfl

theorem Block.Lacks.fetchOwn {t : HostTransfer} (h : x.Lacks t.ix) :
    x.fetchOwn m c t = (x.withAccess (x.access.restart c.requester)).answerHost c (.abort 0x060C) := by
  simp only [Block.fetchOwn, h.initRead]
  rfl

theorem Block.Lacks.putOwn {t : HostTransfer} (h : x.Lacks t.ix) :
    x.putOwn m c t = (x.disarm.withAccess (x.access.restart c.requester)).disarm.answerHost c (.abort 0x060C) := by
  simp only [Block.putOwn, h.initWrite]
  rfl

end

section
variable {b : Block} {c : Carrier} {ix sub : Nat} (h : Ready b c) (m : List Host.Cell) (hs : sub < 256)
include h hs

theorem Ready.read_absent (hl : b.Lacks ix) :
    Answered (Machine.hostCommand c 1 0 ix sub [] m b) c (b.nextHeader c 1 0 ix sub) [] (.abort 0x060C) := by
  have hx := hl.of_fuses (Block.Serves.begun b c (b.nextHeader c 1 0 ix sub) []).fuses
  rw [h.hostCommand m (by decide) hl.word hs rfl rfl]
  simp only [if_true, hx.hostRead]
  exact (Block.answerHost_answered (b.begun_executing c _ _) _).1

theorem Ready.write_absent (hl : b.Lacks ix) {data : List Byte} (lo : 1 ≤ data.length) (hi : data.length ≤ 4) :
    let r := Machine.hostCommand c 2 0 ix sub data m b
    Answered r c (b.nextHeader c 2 0 ix sub) data (.abort 0x060C) ∧ ∀ k, k / 256 = ix → r.get k = b.get k := by
  have hb := Block.Serves.begun b c (b.nextHeader c 2 0 ix sub) data
  have he := b.begun_executing c (b.nextHeader c 2 0 ix sub) data
  have fits : novezFits c 2 data.length = true := by simp [novezFits, novezLength, lo, hi]
  rw [h.hostCommand m (by decide) hl.word hs rfl fits]
  generalize b.begun c (b.nextHeader c 2 0 ix sub) data = x at hb he
  simp only [OfNat.ofNat_ne_one, if_false, if_true, (hl.of_fuses hb.fuses).hostWrite m sub data he]
  refine ⟨(Block.answerHost_answered (by rw [Block.disarm_hostPort, he]) _).1, fun k hk => ?_⟩
  obtain ⟨-, least, most⟩ := hl
  have hu : k ≠ 0x1F0100 := by omega
  calc (x.disarm.answerHost c (.abort 0x060C)).get k = x.disarm.get k :=
        (Block.Serves.refl x.disarm).answerHost.get k (by omega) (by omega)
    _ = x.get k := x.get_disarm_other hu
    _ = b.get k := hb.get k (by omega) (by omega)

theorem Ready.segInitRead_absent (hl : b.Lacks ix) {length : Nat} (hn : length < 65536) :
    Answered (Machine.hostCommand c 3 0 ix sub (bytesOf 2 length) m b) c (b.nextHeader c 3 0 ix sub) (bytesOf 2 length)
      (.abort 0x060C) := by
  have hb := Block.Serves.begun b c (b.nextHeader c 3 0 ix sub) (bytesOf 2 length)
  have he := b.begun_executing c (b.nextHeader c 3 0 ix sub) (bytesOf 2 length)
  rw [h.hostCommand m (by decide) hl.word hs rfl rfl]
  generalize b.begun c (b.nextHeader c 3 0 ix sub) (bytesOf 2 length) = x at hb he
  have hy := hl.of_fuses (hb.setHostPort (c := c) (p := { x.hostPort c with transfer := none })).fuses
  simp only [OfNat.ofNat_ne_one, if_false, if_true, Nat.reduceEqDiff, field_bytesOf_two hn, Block.hostInitRead]
  rw [Block.Lacks.fetchOwn m hy]
  refine (Block.answerHost_answered (x := ⟨_, _, .single, false⟩) ?_ _).1
  rw [Block.withAccess_hostPort, Block.setHostPort_hostPort]
  exact he

theorem Ready.segEnd_absent (hi : ix < 65536) {t : HostTransfer} (ht : (b.hostPort c).transfer = some t) (writing : t.writing = true)
    (own : t.position = 0) (whole : t.data.length = t.length) (hn : t.length < 65536) (hl : b.Lacks t.ix) :
    let r := Machine.hostCommand c 7 0 ix sub (bytesOf 2 t.length) m b
    Answered r c (b.nextHeader c 7 0 ix sub) (bytesOf 2 t.length) (.abort 0x060C) ∧ (r.hostPort c).transfer = none := by
  have hb := Block.Serves.begun b c (b.nextHeader c 7 0 ix sub) (bytesOf 2 t.length)
  have he := b.begun_executing c (b.nextHeader c 7 0 ix sub) (bytesOf 2 t.length)
  have hx := (b.begun_transfer c (b.nextHeader c 7 0 ix sub) (bytesOf 2 t.length)).trans ht
  rw [h.hostCommand m (by decide) hi hs rfl rfl]
  generalize b.begun c (b.nextHeader c 7 0 ix sub) (bytesOf 2 t.length) = x at hb he hx
  have hy : (x.setBuffer c none).Lacks t.ix := hl.of_fuses hb.setHostPort.fuses
  have e : x.hostSegEnd m c t.length = (x.setBuffer c none).putOwn m c t := by
    simp only [Block.hostSegEnd, hx, writing, own, whole, if_true, ne_eq, not_true_eq_false, decide_false, Bool.or_self,
      Bool.false_eq_true, if_false]
  have hp : (((x.setBuffer c none).disarm.withAccess ((x.setBuffer c none).access.restart c.requester)).disarm).hostPort c =
      { x.hostPort c with transfer := none, timedOut := (x.hostPort c).timedOut } := by
    simp [Block.setBuffer]
  simp only [field_bytesOf_two hn, e, hy.putOwn, Nat.reduceEqDiff, if_false]
  obtain ⟨answered, transfer⟩ := Block.answerHost_answered (by rw [hp]; exact he) (.abort 0x060C)
  exact ⟨answered, transfer.trans (by rw [hp])⟩

end

/-! #### The obligation -/

section
variable {s : State} {seq ix sub : Nat} (h : Listens s.blk seq) (hl : s.blk.Lacks ix)
include h hl

theorem read_absent : GivesBlock (.read seq ix sub) s fun b =>
    Responds s.blk b seq (responsePayload 1 ix sub (.refuse 0x060C 0 0)) ∧ b.dict = s.blk.dict := by
  have hc := hl.of_fuses s.blk.commanded_fuses
  obtain ⟨r, d⟩ := h.chainCommand_responds (op := 1) (ix := ix) (sub := sub) (run := fun b => b.readNow s.flash ix sub)
    (hc.readNow s.flash sub) s.blk.commanded_awake (congrArg Link.own s.blk.commanded_link)
  exact ⟨_, rfl, r, d.trans s.blk.commanded_dict⟩

theorem write_absent {data : List Byte} : GivesBlock (.write seq ix sub data) s fun b =>
    Responds s.blk b seq (responsePayload 2 ix sub (.refuse 0x060C data.length 0)) ∧ b.dict = s.blk.disarm.dict := by
  have hc := hl.of_fuses s.blk.commanded_fuses
  obtain ⟨r, d⟩ := h.chainCommand_responds (op := 2) (ix := ix) (sub := sub)
    (run := fun b => settled (b.writeNow s.flash ix sub data none)) (congrArg settled (hc.writeNow s.flash sub data none))
    (s.blk.commanded.disarm_awake.trans s.blk.commanded_awake) (by simp [Block.commanded_link])
  exact ⟨_, rfl, r, d.trans (Block.disarm_dict_congr s.blk.commanded_dict)⟩

theorem segInitRead_absent {length : Nat} : GivesBlock (.segInitRead seq ix sub length) s fun b =>
    Responds s.blk b seq (responsePayload 3 ix sub (.refuse 0x060C length 0)) ∧ b.dict = s.blk.dict := by
  have hc := hl.of_fuses s.blk.commanded_fuses
  obtain ⟨r, d⟩ := h.chainCommand_responds (op := 3) (ix := ix) (sub := sub)
    (run := fun b => b.initRead s.flash .chain ix sub length) (hc.initRead s.flash .chain sub length) s.blk.commanded_awake
    (congrArg Link.own s.blk.commanded_link)
  exact ⟨_, rfl, r, d.trans s.blk.commanded_dict⟩

theorem segInitWrite_absent {length : Nat} : GivesBlock (.segInitWrite seq ix sub length) s fun b =>
    Responds s.blk b seq (responsePayload 4 ix sub (.refuse 0x060C length 0)) ∧ b.dict = s.blk.disarm.dict := by
  have hc := hl.of_fuses s.blk.commanded_fuses
  obtain ⟨r, d⟩ := h.chainCommand_responds (op := 4) (ix := ix) (sub := sub)
    (run := fun b => b.initWrite .chain ix sub length) (hc.initWrite .chain sub length)
    (by simp [Block.commanded_awake]) (by simp [Block.commanded_link])
  have hd : (s.blk.commanded.disarm.withAccess (s.blk.commanded.access.restart .chain)).disarm =
      s.blk.commanded.disarm.withAccess (s.blk.commanded.access.restart .chain) :=
    Block.disarm_of_ne s.blk.commanded.get_disarm_unlock
  exact ⟨_, rfl, r, (d.trans (by rw [hd]; rfl)).trans (Block.disarm_dict_congr s.blk.commanded_dict)⟩

end

theorem dictionaryWrite_absent {s : State} {ix sub : Nat} {data : List Byte} (aw : s.blk.awake = true) (hl : s.blk.Lacks ix) :
    GivesBlock (.dictionaryWrite ix sub data) s fun b => b = s.blk.disarm.emit (.answer (some 0x060C)) :=
  ⟨writeRow ix sub data s.flash s.blk, rfl, by simp [writeRow, aw, hl.writeAccess]⟩

/-- Settles O46: steps 2 to 7 of R45 find that the object is absent before anything else is looked at, and the abort goes back the way the
access came. -/
theorem absentFeature : Obligations.AbsentFeature :=
  ⟨fun _ _ _ _ h hv lo hi => read_absent h ⟨hv, lo, hi⟩,
   fun _ _ _ _ _ h hv lo hi => write_absent h ⟨hv, lo, hi⟩,
   fun _ _ _ _ _ h hv lo hi => segInitRead_absent h ⟨hv, lo, hi⟩,
   fun _ _ _ _ _ h hv lo hi => segInitWrite_absent h ⟨hv, lo, hi⟩,
   fun _ _ _ _ aw hv lo hi => dictionaryWrite_absent aw ⟨hv, lo, hi⟩,
   fun s _ _ _ h hv lo hi hs => ⟨_, rfl, h.read_absent s.flash hs ⟨hv, lo, hi⟩⟩,
   fun s _ _ _ _ h hv lo hi hs h1 h4 => ⟨_, rfl, h.write_absent s.flash hs ⟨hv, lo, hi⟩ h1 h4⟩,
   fun s _ _ _ _ h hv lo hi hs hn => ⟨_, rfl, h.segInitRead_absent s.flash hs ⟨hv, lo, hi⟩ hn⟩,
   fun s _ _ _ _ h hv ht writing own whole hn lo hi hw hs =>
     ⟨_, rfl, h.segEnd_absent s.flash hs hw ht writing own whole hn ⟨hv, lo, hi⟩⟩⟩

end Sys2Proof.Machine
end

section
/-! ### Writes of the measuring side (R25, R122, R171, R182, R185, R257, R259, R474)

What the checks of an accepted write have found, what completing a write leaves of its own effect, and the effect of each object. -/

namespace Sys2Proof.Machine

/-! #### What the checks of a write have found (R45) -/

theorem findObj_ix {ix : Nat} {o : Obj} (h : findObj ix = some o) : o.ix = ix := by
  simpa using List.find?_some h

/-- A write reaches an object of the table, a sub-index that is present, and an entry that can be written. -/
theorem Block.writeTarget_ok {b : Block} {ix sub : Nat} {o : Obj} (h : b.writeTarget ix sub = .ok o) :
    findObj ix = some o ∧ b.hasSub o sub = true ∧ ((b.addressed o sub).filterMap o.entry).filter b.writable ≠ [] := by
  unfold Block.writeTarget at h
  split_ifs at h
  split at h
  · cases h
  · next found =>
    extract_lets es at h
    split_ifs at h with sub empty
    cases h
    exact ⟨found, by simpa using sub, fun none => empty (by simp [es, none])⟩

theorem Block.lengthAbort_eq_none {b : Block} {o : Obj} {sub n most : Nat} (h : b.lengthAbort o sub n most = none) :
    n = b.writeSize o sub := by
  unfold Block.lengthAbort at h
  extract_lets size at h
  split_ifs at h
  omega

/-- An accepted write carries the bytes of its writable entries (R35), and its length is that of what it addresses (R47, R49). -/
theorem Block.checkWrite_ok {b : Block} {ix sub most : Nat} {data : List Byte} {o : Obj} {sl : List (Nat × Entry × List Byte)}
    (h : b.checkWrite ix sub data most = .ok (o, sl)) :
    b.writeTarget ix sub = .ok o ∧ data.length = b.writeSize o sub ∧ sl = b.slices o (b.addressed o sub) data := by
  unfold Block.checkWrite at h
  split at h
  · cases h
  next target =>
  split at h
  · cases h
  next fits =>
  split at h
  · cases h
  next judged =>
  cases h
  refine ⟨target, Block.lengthAbort_eq_none fits, ?_⟩
  unfold Block.judgeValues at judged
  extract_lets _ vals at judged
  split_ifs at judged
  exact (Except.ok.inj judged).symm

/-- An accepted write of sub-index 0, a simple object's own, carries all its data to the one entry (R33). -/
theorem Block.checkWrite_subZero {b : Block} {ix most : Nat} {data : List Byte} {o : Obj} {sl : List (Nat × Entry × List Byte)}
    (h : b.checkWrite ix 0 data most = .ok (o, sl)) : ∃ e, sl = [(0, e, data)] := by
  obtain ⟨target, length, rfl⟩ := Block.checkWrite_ok h
  obtain ⟨-, -, written⟩ := Block.writeTarget_ok target
  have one : b.addressed o 0 = [0] := rfl
  rw [one] at written ⊢
  cases he : o.entry 0 with
  | none => simp [he] at written
  | some e =>
    have writable : b.writable e = true := by
      by_contra no
      simp [he, no] at written
    have whole : data.length = entrySize o.ix e := by simpa [Block.writeSize, one, he] using length
    exact ⟨e, by simp [Block.slices, he, writable, ← whole]⟩

/-- Sub-indices of a simple object, and of a record of fewer than 256 entries, take one byte (R33, R34). -/
theorem Block.hasSub_lt {b : Block} {o : Obj} {sub : Nat} (h : b.hasSub o sub = true)
    (shape : o.shape = .simple ∨ ∃ n < 256, o.shape = .record n) : sub < 256 := by
  obtain e | ⟨n, small, e⟩ := shape
  · simp only [Block.hasSub, e, beq_iff_eq] at h
    omega
  · simp only [Block.hasSub, e, Bool.or_eq_true, beq_iff_eq, decide_eq_true_eq] at h
    omega

/-! #### The completion of a write (R44, R331, R405, R436)

An accepted write is completed alike for every object: CheckCfg takes its records, a corruption noted for the object ends, a head
sends what it sets for its chain, switch edges are noted, and the write is answered. -/

/-- From a to b a write has been completed: its effect in a still stands in these parts, and in every entry but CheckCfg. -/
structure Block.Completes (a b : Block) : Prop where
  power : b.power = a.power
  journal : b.journal = a.journal
  flint : b.flint = a.flint
  tb : b.tb = a.tb
  win : b.win = a.win
  host : b.host = a.host
  socTable : b.socTable = a.socTable
  tempCurve : b.tempCurve = a.tempCurve
  get : ∀ k, k ≠ Ob.checkCfg → b.get k = a.get k

section
variable {a b : Block}

theorem Block.Completes.refl (b : Block) : b.Completes b := ⟨rfl, rfl, rfl, rfl, rfl, rfl, rfl, rfl, fun _ _ => rfl⟩

theorem Block.Completes.trans {c : Block} (h : a.Completes b) (g : b.Completes c) : a.Completes c :=
  ⟨g.power.trans h.power, g.journal.trans h.journal, g.flint.trans h.flint, g.tb.trans h.tb, g.win.trans h.win, g.host.trans h.host,
    g.socTable.trans h.socTable, g.tempCurve.trans h.tempCurve, fun k hk => (g.get k hk).trans (h.get k hk)⟩

theorem Block.Completes.ite {p : Prop} [Decidable p] {x y : Block} (hx : a.Completes x) (hy : a.Completes y) :
    a.Completes (if p then x else y) := by
  split
  · exact hx
  · exact hy

theorem Block.Completes.withNvm (h : a.Completes b) {v} : a.Completes (b.withNvm v) := h.trans { Completes.refl b with }
theorem Block.Completes.withLink (h : a.Completes b) {v} : a.Completes (b.withLink v) := h.trans { Completes.refl b with }
theorem Block.Completes.withPhys (h : a.Completes b) {v} : a.Completes (b.withPhys v) := h.trans { Completes.refl b with }
theorem Block.Completes.emit (h : a.Completes b) {e} : a.Completes (b.emit e) := h.trans { Completes.refl b with }

theorem Block.Completes.putCheckCfg (h : a.Completes b) {v} : a.Completes (b.put Ob.checkCfg v) :=
  h.trans { Completes.refl b with get := fun _ hk => b.get_put_other v hk }

theorem Block.Completes.snoopCfg (h : a.Completes b) {ix sl} : a.Completes (b.snoopCfg ix sl) :=
  List.foldlRecOn (motive := fun x : Block => a.Completes x) _ _ h fun _ hx _ _ => .ite hx.putCheckCfg hx

theorem Block.Completes.sendOn (h : a.Completes b) {p f} : a.Completes (b.sendOn p f) := .ite (.emit (.ite h.withPhys h)) h

theorem Block.Completes.broadcast (h : a.Completes b) {cls payload} : a.Completes (b.broadcast cls payload) :=
  .ite h.withLink.sendOn.sendOn h.withLink.sendOn

theorem Block.Completes.sendChainConfig (h : a.Completes b) : a.Completes b.sendChainConfig := .ite h.withLink h.broadcast

theorem Block.Completes.sendReference (h : a.Completes b) : a.Completes b.sendReference :=
  .ite h.withLink.sendOn.sendOn h.withLink.sendOn

theorem Block.Completes.noteEdges (h : a.Completes b) {delays} : a.Completes (b.noteEdges delays) := by
  obtain ⟨l, m, g, e⟩ := b.noteEdges_frame delays
  rw [e]
  exact h.trans { Completes.refl b with }

theorem Block.Completes.applyWrite (b : Block) (o : Obj) (sl : List (Nat × Entry × List Byte)) :
    (b.applySlices o.ix sl).Completes (b.applyWrite o sl) := by
  unfold Block.applyWrite
  extract_lets b1 _ b2 b3
  have h2 : (b.applySlices o.ix sl).Completes b2 := (Completes.refl _).snoopCfg.withNvm
  have h3 : (b.applySlices o.ix sl).Completes b3 := .ite h2.sendChainConfig h2
  exact h3.noteEdges

end

/-! #### An accepted write as a command of its own -/

theorem Block.disarm_isHead (b : Block) : b.disarm.isHead = b.isHead := by
  simp only [Block.isHead, b.get_disarm_other (show Ob.role ≠ Ob.unlockState by decide)]

theorem Block.disarm_concerned (b : Block) (ix : Nat) (vals : List (Nat × Int)) : b.disarm.concerned ix vals = b.concerned ix vals := by
  have top : b.disarm.nat Ob.censusResultTop = b.nat Ob.censusResultTop :=
    congrArg Int.toNat (b.get_disarm_other (show Ob.censusResultTop ≠ Ob.unlockState by decide))
  simp only [Block.concerned, Block.committed, top]

section
variable {b : Block} {ix sub : Nat} {data : List Byte} {vals : List (Nat × Int)} (h : Accepts b ix sub data vals) (m : List Host.Cell)
include h

/-- A write that the checks of R45 accept and no position has to consent to is applied and answered (R45, R331). -/
theorem Accepts.writeRow (unlock : ix ≠ 0x1F00) (power : ix ≠ 0x1001) :
    ∃ o sl, b.disarm.checkWrite ix sub data longest = .ok (o, sl) ∧ decodeSlices ix sl = vals ∧
      (b.disarm.applySlices ix sl).Completes (writeRow ix sub data m b) := by
  obtain ⟨awake, free, o, sl, checked, decoded⟩ := h
  refine ⟨o, sl, checked, decoded, ?_⟩
  have hix : o.ix = ix := findObj_ix (Block.writeTarget_ok (Block.checkWrite_ok checked).1).1
  have none_asked : (if b.isHead = true then b.concerned ix vals else []) = [] := by
    obtain node | nobody := free
    · simp [node]
    · simp [nobody]
  have applied : Machine.writeRow ix sub data m b = (b.disarm.applyWrite o sl).emit (.answer none) := by
    simp [Machine.writeRow, awake, Block.writeAccess, unlock, power, Block.writeObject, checked, decoded, b.disarm_isHead,
      b.disarm_concerned, none_asked]
  rw [applied, ← hix]
  exact (Block.Completes.applyWrite _ o sl).emit

/-- An accepted write of values: what their object does with them stands. -/
theorem Accepts.values (scalar : ix ∉ [0x1F00, 0x1001, 0x4010, 0x4012]) :
    (b.disarm.applyValues ix vals).Completes (Machine.writeRow ix sub data m b) := by
  simp only [List.mem_cons, List.not_mem_nil, or_false, not_or] at scalar
  obtain ⟨unlock, power, soc, curve⟩ := scalar
  obtain ⟨o, sl, -, rfl, done⟩ := h.writeRow m unlock power
  simpa only [Block.applySlices, soc, curve, if_false] using done

end

/-- An accepted write of one of the tables: all its bytes go to the table (R257, R259). -/
theorem Accepts.table {b : Block} {ix : Nat} {data : List Byte} {vals : List (Nat × Int)} (h : Accepts b ix 0 data vals)
    (m : List Host.Cell) (table : ix = 0x4010 ∨ ix = 0x4012) :
    ∃ e, (b.disarm.applySlices ix [(0, e, data)]).Completes (Machine.writeRow ix 0 data m b) := by
  obtain ⟨o, sl, checked, -, done⟩ := h.writeRow m (by omega) (by omega)
  obtain ⟨e, rfl⟩ := Block.checkWrite_subZero checked
  exact ⟨e, done⟩

/-! #### The effect of each object of the measuring side -/

section
variable (b : Block)

/-- The shifted bookkeeping of instants leaves the count itself alone. -/
theorem Block.shiftInstants_count (d : Int) : (b.shiftInstants d).tb.us = b.tb.us ∧ (b.shiftInstants d).tb.sub = b.tb.sub :=
  ⟨rfl, rfl⟩

/-- The count is at the written value, whole (R122): the chain reference frame that goes out moves it no more. -/
theorem Block.chainTimeWritten_count (v : Nat) : (b.chainTimeWritten v).tb.us = v % t48 ∧ (b.chainTimeWritten v).tb.sub = 0 := by
  unfold Block.chainTimeWritten
  extract_lets old _ b1 b2
  have set : b2.tb.us = v % t48 ∧ b2.tb.sub = 0 := b1.shiftInstants_count _
  split
  · exact set
  · rwa [(Completes.refl b2).sendReference.tb]

theorem Block.windowSettingsWritten_get (k : Nat) : b.windowSettingsWritten.get k = b.get k := by
  unfold Block.windowSettingsWritten
  split
  · rfl
  · rfl

/-- While lanes run, the settings wait for the next boundary (R171). -/
theorem Block.windowSettingsWritten_changed (h : b.measuring = true) : b.windowSettingsWritten.win.changed = true := by
  simp [Block.windowSettingsWritten, h]

/-- Clearing a live bit leaves the objects below the fault objects alone (R391). -/
theorem Block.get_clearLive_below {s k : Nat} (h : k ≤ Ob.faultLive) : (b.clearLive s).get k = b.get k := by
  simp only [Ob.faultLive] at h
  apply b.get_clearLive_other
  all_goals
    simp only [liveKey, latchedKey, Ob.faultLive, Ob.faultLatched, Ob.firstFaultSource, Ob.serviceRequestReason, Ob.serviceRequestSince]
    omega

/-- The end of the advisories writes ChargeInhibit and the fault objects (R424). -/
theorem Block.get_dropAdvisories_below {k : Nat} (h : k ≤ Ob.chargeInhibit) : b.dropAdvisories.get k = b.get k := by
  simp only [Ob.chargeInhibit] at h
  unfold Block.dropAdvisories
  extract_lets z b1
  rw [Block.get_clearLive_below _ (by simp only [Ob.faultLive]; omega), Block.get_putAll_other]
  · rfl
  · simp only [List.mem_cons, List.not_mem_nil, or_false]
    rintro p (rfl | rfl | rfl) <;> simp only [Ob.chargeInhibitCharge, Ob.chargeInhibitDischarge, Ob.chargeInhibitPins] <;> omega

@[simp] theorem Block.dropAdvisories_power : b.dropAdvisories.power = b.power := by simp [Block.dropAdvisories]

/-- A pin's function is read back, and the power control stands (R25). -/
theorem Block.functionWritten_spec {k : Nat} (hk : k < 8) (v : Int) :
    (b.functionWritten k v).get (Ob.auxFunction + k + 1) = v ∧ (b.functionWritten k v).power = b.power := by
  unfold Block.functionWritten
  extract_lets key b1 _ b2 th b3 b4 b5 b6
  have low : key ≤ Ob.chargeInhibit := by simp only [key, Ob.auxFunction, Ob.chargeInhibit]; omega
  have pins : key ≠ Ob.chargeInhibitPins := (low.trans_lt (by decide)).ne
  have cleared (c : Block) (source : Nat) (h : c.get key = v ∧ c.power = b.power) :
      (c.clearLive source).get key = v ∧ (c.clearLive source).power = b.power :=
    ⟨(c.get_clearLive_below (low.trans (by decide))).trans h.1, (c.clearLive_power _).trans h.2⟩
  split
  · next same => exact ⟨same, rfl⟩
  have h4 : b4.get key = v ∧ b4.power = b.power := ⟨(Block.get_put_other _ _ pins).trans (b.get_put_self key v), rfl⟩
  have h5 : b5.get key = v ∧ b5.power = b.power := by
    unfold b5
    split
    · exact ⟨(b4.get_dropAdvisories_below low).trans h4.1, b4.dropAdvisories_power.trans h4.2⟩
    · exact h4
  have h6 : b6.get key = v ∧ b6.power = b.power := by
    unfold b6
    split
    · exact h5
    · exact cleared b5 _ h5
  split
  · exact h6
  · exact cleared b6 _ h6

/-- A keeper that changes writes MainsTracker and MainsFrequency only (R173, R174). -/
theorem Block.get_keeperMoved_other (was : Bool) {k : Nat} (state : k ≠ Ob.mainsTrackerState) (frequency : k ≠ Ob.mainsFrequency) :
    (b.keeperMoved was).get k = b.get k := by
  have stopped : b.keeperStop.get k = b.get k := Block.get_put_other _ _ state
  unfold Block.keeperMoved
  extract_lets b1
  split
  · rfl
  split
  · exact stopped
  · exact (Block.get_put_other _ _ frequency).trans stopped

theorem Block.publishSoc_socTable (i : Nat) : (b.publishSoc i).socTable = b.socTable := by
  unfold Block.publishSoc
  extract_lets
  split
  · exact b.noteSat_socTable 6 _
  · rfl

/-- What was known of the states of charge goes, the table stays (R259). -/
theorem Block.dropSoc_socTable : b.dropSoc.socTable = b.socTable :=
  foldl_keeps (fun b : Block => b.socTable) (fun b i => b.publishSoc_socTable i) _ _

theorem Block.applySlices_socTable (sub : Nat) (e : Entry) (data : List Byte) :
    b.applySlices 0x4010 [(sub, e, data)] = (b.withSocTable data).dropSoc := by
  simp [Block.applySlices]

theorem Block.putTemp_tempCurve (i : Nat) (status : Int) (v : Option Int) : (b.putTemp i status v).tempCurve = b.tempCurve := by
  unfold Block.putTemp
  split
  · rfl
  · rfl

/-- What was known of the temperatures goes, the curve stays (R257, R258). -/
theorem Block.dropTemps_tempCurve : b.dropTemps.tempCurve = b.tempCurve := by
  unfold Block.dropTemps
  extract_lets idle
  split
  · exact foldl_keeps (fun b : Block => b.tempCurve) (fun b i => b.putTemp_tempCurve i _ _) _ _
  · rfl

theorem Block.applySlices_tempCurve (sub : Nat) (e : Entry) (data : List Byte) :
    b.applySlices 0x4012 [(sub, e, data)] = (b.withTempCurve data).dropTemps := by
  simp [Block.applySlices]

end

/-! #### The rows -/

section
variable {s : State} {data : List Byte} {v : Int} {vals : List (Nat × Int)}

theorem chainTimeWrite_gives (h : Accepts s.blk 0x1021 0 data [(Ob.chainTime, v)]) :
    GivesBlock (.chainTimeWrite data) s fun b => b.tb.us = v.toNat % t48 ∧ b.tb.sub = 0 := by
  have done := h.values s.flash (by decide)
  refine ⟨_, rfl, ?_⟩
  simp only [done.tb]
  exact s.blk.disarm.chainTimeWritten_count v.toNat

/-- WindowMode, WindowLength, MainsMultiple and MainsConfig (R171). -/
theorem windowModeWrite_gives {ix sub : Nat} (hix : ix = 0x2001 ∨ ix = 0x2002 ∨ ix = 0x2003 ∨ ix = 0x2005)
    (h : Accepts s.blk ix sub data [(keyOf ix sub, v)]) : GivesBlock (.windowModeWrite ix sub data) s fun b =>
      b.get (keyOf ix sub) = v ∧ (s.blk.measuring = true → b.win.changed = true) := by
  obtain ⟨o, _, checked, -⟩ := h.writeRow s.flash (by omega) (by omega)
  obtain ⟨found, present, -⟩ := Block.writeTarget_ok (Block.checkWrite_ok checked).1
  have byte : sub < 256 := by
    have shape : (findObj ix).all (fun o => o.shape == .simple || o.shape == .record 3) = true := by
      obtain rfl | rfl | rfl | rfl := hix <;> rfl
    refine Block.hasSub_lt present ?_
    simp only [found, Option.all_some, Bool.or_eq_true, beq_iff_eq] at shape
    exact shape.imp_right fun e => ⟨3, by decide, e⟩
  have effect : s.blk.disarm.applyValues ix [(keyOf ix sub, v)] = (s.blk.disarm.put (keyOf ix sub) v).windowSettingsWritten := by
    obtain rfl | rfl | rfl | rfl := hix <;> rfl
  have done := h.values s.flash (by obtain rfl | rfl | rfl | rfl := hix <;> decide)
  rw [effect] at done
  refine ⟨_, rfl, ?_, fun measuring => ?_⟩
  · rw [done.get _ (by simp only [keyOf, Ob.checkCfg]; omega), Block.windowSettingsWritten_get, Block.get_put_self]
  · rw [done.win]
    exact Block.windowSettingsWritten_changed _ (by simpa using measuring)

theorem auxOutputWrite_gives (h : Accepts s.blk 0x2044 0 data [(Ob.auxOutput, v)]) :
    GivesBlock (.auxOutputWrite data) s fun b => b.get Ob.auxOutput = v ∧ b.power = s.blk.power := by
  have done : (s.blk.disarm.put Ob.auxOutput v).Completes _ := h.values s.flash (by decide)
  exact ⟨_, rfl, (done.get _ (by decide)).trans (Block.get_put_self _ _ _), done.power.trans (by simp)⟩

theorem auxFunctionWrite_gives {sub : Nat} (least : 1 ≤ sub) (most : sub ≤ 8)
    (h : Accepts s.blk 0x2040 sub data [(keyOf 0x2040 sub, v)]) :
    GivesBlock (.auxFunctionWrite sub data) s fun b => b.get (keyOf 0x2040 sub) = v ∧ b.power = s.blk.power := by
  have pin : keyOf 0x2040 sub % 256 - 1 = sub - 1 := by simp only [keyOf]; omega
  have key : keyOf 0x2040 sub = Ob.auxFunction + (sub - 1) + 1 := by simp only [keyOf, Ob.auxFunction]; omega
  have done : (s.blk.disarm.functionWritten (keyOf 0x2040 sub % 256 - 1) v).Completes _ := h.values s.flash (by decide)
  rw [pin] at done
  obtain ⟨value, power⟩ := s.blk.disarm.functionWritten_spec (show sub - 1 < 8 by omega) v
  refine ⟨_, rfl, ?_, done.power.trans (power.trans s.blk.disarm_power)⟩
  rw [done.get _ (by simp only [keyOf, Ob.checkCfg]; omega), key, value]

theorem chargeCounterPreset_gives (h : Accepts s.blk 0x2035 0 data [(Ob.chargeCounter, v)]) :
    GivesBlock (.chargeCounterPreset data) s fun b => b.get Ob.chargeCounter = v := by
  have done : (s.blk.disarm.chargePreset v).Completes _ := h.values s.flash (by decide)
  exact ⟨_, rfl, (done.get _ (by decide)).trans (Block.get_put_self _ _ _)⟩

theorem currentKeeperWrite_gives (h : Accepts s.blk 0x2032 0 data [(Ob.currentKeeper, v)]) :
    GivesBlock (.currentKeeperWrite data) s fun b => b.get Ob.currentKeeper = v := by
  have done : ((s.blk.disarm.put Ob.currentKeeper v).keeperMoved s.blk.disarm.isKeeper).Completes _ := h.values s.flash (by decide)
  refine ⟨_, rfl, ?_⟩
  simp only [done.get _ (show Ob.currentKeeper ≠ Ob.checkCfg by decide)]
  rw [Block.get_keeperMoved_other _ _ (by decide) (by decide), Block.get_put_self]

theorem socTableWrite_gives (h : Accepts s.blk 0x4010 0 data vals) : GivesBlock (.socTableWrite data) s fun b => b.socTable = data := by
  obtain ⟨e, done⟩ := h.table s.flash (.inl rfl)
  rw [Block.applySlices_socTable] at done
  exact ⟨_, rfl, done.socTable.trans (Block.dropSoc_socTable _)⟩

theorem tempCurveWrite_gives (h : Accepts s.blk 0x4012 0 data vals) : GivesBlock (.tempCurveWrite data) s fun b => b.tempCurve = data := by
  obtain ⟨e, done⟩ := h.table s.flash (.inr rfl)
  rw [Block.applySlices_tempCurve] at done
  exact ⟨_, rfl, done.tempCurve.trans (Block.dropTemps_tempCurve _)⟩

end

/-- Settles O8: what an accepted write does to its object, and that its completion leaves this standing. -/
theorem measuringWrites : Obligations.MeasuringWrites :=
  ⟨fun _ _ _ _ => chainTimeWrite_gives, fun _ _ _ _ _ => windowModeWrite_gives, fun _ _ _ => auxOutputWrite_gives,
   fun _ _ _ _ => auxFunctionWrite_gives, fun _ _ _ => chargeCounterPreset_gives, fun _ _ _ => currentKeeperWrite_gives,
   fun _ _ _ => socTableWrite_gives, fun _ _ _ => tempCurveWrite_gives⟩

end Sys2Proof.Machine
end

section
/-! ### The dictionary's form, the factory record and Unlock (R33, R41–R45)

What every step keeps of the dictionary's form and of what is fused, the writes of Unlock, and the plain writes of the dictionary. -/

namespace Sys2Proof.Machine

/-- Settles O53: among what every step keeps is the canonical form of the dictionary. -/
theorem dictionaryCanonical : Obligations.DictionaryCanonical := fun _ _ h e => (step_keeps e).dict h

/-- Settles O55: among what every step keeps are the fuses and the factory record. -/
theorem factoryRecordKept : Obligations.FactoryRecordKept := fun _ _ e => (step_keeps e).fuses

/-! #### Writes of Unlock (R41, R42) -/

/-- The object Unlock as the table gives it. -/
def unlockObject : Obj := ⟨0x1F00, .simple, [⟨0, 0, .u16, .wo, .wo, 0, .v, 0, 65535, []⟩]⟩

theorem findObj_unlock : findObj 0x1F00 = some unlockObject := by decide

/-- Unlock can be written by anyone, but in Standby only. -/
theorem Block.writeTarget_unlock {b : Block} (standby : b.power.mode = .standby) : b.writeTarget 0x1F00 0 = .ok unlockObject := by
  have e : b.writable ⟨0, 0, .u16, .wo, .wo, 0, .v, 0, 65535, []⟩ = true := by simp [Block.writable, Block.accessOf]
  simp [Block.writeTarget, xOnly, findObj_unlock, Block.hasSub, unlockObject, Block.addressed, Obj.entry, e, Block.writeState,
    Block.roleRefuses, cellSide, Entry.rwu, Block.accessOf, standby]

/-- What a write of Unlock reaches is Unlock itself, which has no sub-index (R34). -/
theorem Block.writeTarget_unlock_ok {b : Block} {sub : Nat} {o : Obj} (h : b.writeTarget 0x1F00 sub = .ok o) :
    o = unlockObject ∧ sub = 0 := by
  obtain ⟨found, present, -⟩ := Block.writeTarget_ok h
  obtain rfl : o = unlockObject := Option.some.inj (found.symm.trans findObj_unlock)
  exact ⟨rfl, by simpa [Block.hasSub, unlockObject] using present⟩

/-- Unlock takes two bytes. -/
theorem Block.writeSize_unlock (b : Block) : b.writeSize unlockObject 0 = 2 := rfl

/-- A write of Unlock of the wrong length is refused and ends an arming (R41). -/
theorem Block.writeUnlock_wrongLength {b : Block} {sub most : Nat} {data : List Byte} {a : Nat} {o : Obj}
    (target : b.writeTarget 0x1F00 sub = .ok o) (length : b.lengthAbort o sub data.length most = some a) :
    b.writeUnlock sub data most = (.refused a, b.armedLast false) := by
  simp only [Block.writeUnlock, target, length]

theorem Block.lengthAbort_isSome {b : Block} {o : Obj} {sub n : Nat} (most : Nat) (h : n ≠ b.writeSize o sub) :
    ∃ a, b.lengthAbort o sub n most = some a :=
  Option.ne_none_iff_exists'.1 fun e => h (Block.lengthAbort_eq_none e)

section
variable {s : State} (awake : s.blk.awake = true) (standby : s.blk.power.mode = .standby)
include awake standby

/-- A write of two bytes to Unlock in Standby takes effect by its value (R41). -/
theorem writeRow_unlock {v : Nat} (word : v < 65536) (m : List Host.Cell) :
    writeRow 0x1F00 0 (bytesOf 2 v) m s.blk = match s.blk.unlockWritten v with
      | (.done, b) => b.emit (.answer none)
      | (.refused a, b) => b.emit (.answer (some a))
      | (.waits, b) => b := by
  have value : natOf (bytesOf 2 v) = v := field_bytesOf_two word
  have size : (bytesOf 2 v).length = 2 := rfl
  have e : s.blk.writeUnlock 0 (bytesOf 2 v) longest = s.blk.unlockWritten v := by
    simp only [Block.writeUnlock, Block.writeTarget_unlock standby, Block.lengthAbort, Block.writeSize_unlock, size, value]
    rfl
  simp only [writeRow, awake, Block.writeAccess, e, Bool.not_true, Bool.false_eq_true, if_false, if_true]
  rcases s.blk.unlockWritten v with ⟨_ | _ | _, b⟩ <;> rfl

theorem unlockArm_gives : GivesBlock .unlockArm s fun b => b = ((s.blk.put Ob.unlockState 1).armedLast true).emit (.answer none) :=
  ⟨_, rfl, writeRow_unlock awake standby (by decide) _⟩

theorem unlockConfirm_gives (state : s.blk.get Ob.unlockState = 1) (armed : s.blk.access.armed = true) :
    GivesBlock .unlockConfirm s fun b => b = (s.blk.put Ob.unlockState 2).emit (.answer none) :=
  ⟨_, rfl, (writeRow_unlock awake standby (by decide) _).trans (by simp [Block.unlockWritten, state, armed])⟩

theorem unlockConfirm_refused (unarmed : s.blk.get Ob.unlockState ≠ 1 ∨ s.blk.access.armed = false) :
    GivesBlock .unlockConfirm s fun b => b = (s.blk.put Ob.unlockState 0).emit (.answer (some 0x0605)) := by
  have no : (decide (s.blk.get Ob.unlockState = 1) && s.blk.access.armed) = false := by
    obtain state | armed := unarmed
    · simp [state]
    · simp [armed]
  exact ⟨_, rfl, (writeRow_unlock awake standby (by decide) _).trans (by simp [Block.unlockWritten, no])⟩

theorem unlockClear_gives {v : Nat} (word : v < 65536) (arm : v ≠ 0x5A3C) (confirm : v ≠ 0xC3A5) :
    GivesBlock (.unlockClear v) s fun b => b = (s.blk.put Ob.unlockState 0).emit (.answer none) :=
  ⟨_, rfl, (writeRow_unlock awake standby word _).trans (by simp [Block.unlockWritten, arm, confirm])⟩

theorem unlockWrite_wrongLength {data : List Byte} (length : data.length ≠ 2) :
    GivesBlock (.dictionaryWrite 0x1F00 0 data) s fun b =>
      b.get Ob.unlockState = s.blk.get Ob.unlockState ∧ b.access.armed = false := by
  obtain ⟨a, refused⟩ := Block.lengthAbort_isSome (b := s.blk) (o := unlockObject) (sub := 0) longest length
  have e : writeRow 0x1F00 0 data s.flash s.blk = (s.blk.armedLast false).emit (.answer (some a)) := by
    simp [writeRow, awake, Block.writeAccess, Block.writeUnlock_wrongLength (Block.writeTarget_unlock standby) refused]
  exact ⟨_, rfl, by rw [e]; exact ⟨rfl, rfl⟩⟩

end

/-- Settles O11: each write of Unlock by its value, and its expiry. -/
theorem unlockSequence : Obligations.UnlockSequence :=
  ⟨fun _ awake standby => unlockArm_gives awake standby, fun _ awake standby => unlockConfirm_gives awake standby,
   fun _ awake standby => unlockConfirm_refused awake standby, fun _ _ awake standby word => unlockClear_gives awake standby word,
   fun _ _ awake standby => unlockWrite_wrongLength awake standby, fun _ => ⟨_, rfl, rfl⟩⟩

/-! #### Writes of the dictionary (R44, R45) -/

/-- Objects of plain effect take their values and nothing else (R44). -/
theorem Block.applySlices_plain (b : Block) {ix : Nat} (plain : ix ∈ plainObjects) (sl : List (Nat × Entry × List Byte)) :
    b.applySlices ix sl = b.putAll (decodeSlices ix sl) := by
  simp only [plainObjects, List.mem_cons, List.not_mem_nil, or_false] at plain
  obtain rfl | rfl | rfl | rfl | rfl | rfl | rfl | rfl | rfl := plain <;> rfl

theorem Block.snoopCfg_link (b : Block) (ix : Nat) (sl : List (Nat × Entry × List Byte)) : (b.snoopCfg ix sl).link = b.link :=
  foldl_keeps (fun b : Block => b.link) (fun b x => by split <;> rfl) _ _

/-- The completion of a write that the head does not distribute leaves the link alone (R331). -/
theorem Block.applyWrite_link (b : Block) {o : Obj} (own : chainObjects.contains o.ix = false) (sl : List (Nat × Entry × List Byte)) :
    (b.applyWrite o sl).link = (b.applySlices o.ix sl).link := by
  obtain ⟨l, m, g, e⟩ := Block.noteEdges_frame
    (((b.applySlices o.ix sl).snoopCfg o.ix sl).withNvm { ((b.applySlices o.ix sl).snoopCfg o.ix sl).nvm with
      corrupted := ((b.applySlices o.ix sl).snoopCfg o.ix sl).nvm.corrupted.filter (· != o.ix) }) []
  simp only [Block.applyWrite, own, Bool.and_false, Bool.false_eq_true, if_false, e]
  exact Block.snoopCfg_link _ _ _

/-- A write to an object of its own effect that the checks accept and no position has to consent to is applied (R45, R331). -/
theorem Block.writeAccess_done {b : Block} {m : List Host.Cell} {ix sub most : Nat} {data : List Byte} {who : Option Carrier} {o : Obj}
    {sl : List (Nat × Entry × List Byte)} (unlock : ix ≠ 0x1F00) (power : ix ≠ 0x1001)
    (checked : b.disarm.checkWrite ix sub data most = .ok (o, sl)) (free : b.isHead = false ∨ chainObjects.contains ix = false) :
    b.writeAccess m ix sub data most who = (.done, b.disarm.applyWrite o sl) := by
  have none_asked : (if b.isHead = true then b.concerned ix (decodeSlices ix sl) else []) = [] := by
    obtain node | own := free
    · simp [node]
    · have keeper : ix ≠ 0x2032 := by rintro rfl; simp [chainObjects] at own
      simp only [Block.concerned, own, keeper, Bool.false_eq_true, if_false, ite_self]
  simp [Block.writeAccess, unlock, power, Block.writeObject, checked, b.disarm_isHead, b.disarm_concerned, none_asked]

theorem plainObjects_own {ix : Nat} (plain : ix ∈ plainObjects) :
    ix ≠ 0x1F00 ∧ ix ≠ 0x1001 ∧ chainObjects.contains ix = false ∧ ix ≠ 0x4010 ∧ ix ≠ 0x4012 := by
  simp only [plainObjects, List.mem_cons, List.not_mem_nil, or_false] at plain
  obtain rfl | rfl | rfl | rfl | rfl | rfl | rfl | rfl | rfl := plain <;> decide

/-- An accepted write of one entry of a plain object: it is applied, and its effect is the entry's value. -/
theorem Block.writeAccess_plain {b : Block} {m : List Host.Cell} {ix sub most : Nat} {data : List Byte} {who : Option Carrier} {o : Obj}
    {sl : List (Nat × Entry × List Byte)} {v : Int} (plain : ix ∈ plainObjects)
    (checked : b.disarm.checkWrite ix sub data most = .ok (o, sl)) (decoded : decodeSlices ix sl = [(keyOf ix sub, v)]) :
    ∃ c, b.writeAccess m ix sub data most who = (.done, c) ∧ (b.disarm.put (keyOf ix sub) v).Completes c ∧ c.link = b.link := by
  obtain ⟨unlock, power, own, -, -⟩ := plainObjects_own plain
  obtain rfl : o.ix = ix := findObj_ix (Block.writeTarget_ok (Block.checkWrite_ok checked).1).1
  have effect : b.disarm.applySlices o.ix sl = b.disarm.put (keyOf o.ix sub) v := by
    rw [Block.applySlices_plain _ plain, decoded]; rfl
  refine ⟨_, Block.writeAccess_done unlock power checked (.inr own), effect ▸ Block.Completes.applyWrite _ o sl, ?_⟩
  rw [Block.applyWrite_link _ own, effect, Block.put_link, Block.disarm_link]

/-- A sub-index of a plain object takes one byte (R33, R34). -/
theorem plainObjects_sub {b : Block} {ix sub : Nat} {o : Obj} (plain : ix ∈ plainObjects) (target : b.writeTarget ix sub = .ok o) :
    sub < 256 := by
  obtain ⟨found, present, -⟩ := Block.writeTarget_ok target
  have shape : (findObj ix).all (fun o => o.shape == .simple || [2, 5, 10].any fun n => o.shape == .record n) = true := by
    simp only [plainObjects, List.mem_cons, List.not_mem_nil, or_false] at plain
    obtain rfl | rfl | rfl | rfl | rfl | rfl | rfl | rfl | rfl := plain <;> rfl
  simp only [found, Option.all_some, Bool.or_eq_true, beq_iff_eq, List.any_eq_true] at shape
  refine Block.hasSub_lt present (shape.imp_right fun ⟨n, member, e⟩ => ⟨n, ?_, e⟩)
  simp only [List.mem_cons, List.not_mem_nil, or_false] at member
  omega

theorem dictionaryWrite_plain {s : State} {ix sub : Nat} {data : List Byte} {v : Int}
    (plain : ix ∈ plainObjects) (h : Accepts s.blk ix sub data [(keyOf ix sub, v)]) :
    GivesBlock (.dictionaryWrite ix sub data) s fun b =>
      b.get (keyOf ix sub) = v ∧ (∀ k, k ≠ keyOf ix sub → k ≠ Ob.unlockState → k ≠ Ob.checkCfg → b.get k = s.blk.get k) ∧
      b.power = s.blk.power ∧ b.flint = s.blk.flint ∧ b.journal = s.blk.journal ∧ b.link = s.blk.link ∧ b.host = s.blk.host ∧
      b.win = s.blk.win := by
  obtain ⟨awake, -, o, sl, checked, decoded⟩ := h
  obtain ⟨c, written, done, link⟩ :=
    Block.writeAccess_plain (m := s.flash) (who := none) plain checked decoded
  have byte := plainObjects_sub plain (Block.checkWrite_ok checked).1
  have other : keyOf ix sub ≠ Ob.checkCfg := by
    rintro e
    obtain rfl : ix = 0x7010 := by simp only [keyOf, Ob.checkCfg] at e; omega
    simp [plainObjects] at plain
  refine ⟨c.emit (.answer none), by simp [exec, execDictionaryWrite, onBlockReading, writeRow, awake, written], ?_⟩
  refine ⟨(done.get _ other).trans (Block.get_put_self _ _ _), fun k self unlock check => ?_, ?_⟩
  · exact (done.get k check).trans ((Block.get_put_other _ _ self).trans (Block.get_disarm_other _ unlock))
  · exact ⟨done.power.trans (by simp), done.flint.trans (by simp), done.journal.trans (by simp), link, done.host.trans (by simp),
      done.win.trans (by simp)⟩

/-- A refused write of the dictionary leaves all but an armed unlock alone (R41, R45). -/
theorem dictionaryWrite_refused {s : State} {ix sub a : Nat} {data : List Byte} (unlock : ix ≠ 0x1F00) (power : ix ≠ 0x1001)
    (h : Refuses s.blk ix sub data a) :
    GivesBlock (.dictionaryWrite ix sub data) s fun b => b = s.blk.disarm.emit (.answer (some a)) := by
  obtain ⟨awake, refused⟩ := h
  exact ⟨_, rfl, by simp [writeRow, awake, Block.writeAccess, unlock, power, Block.writeObject, refused]⟩

/-- Settles O12: the checks decide, and a plain object's effect is its value. -/
theorem dictionaryWrites : Obligations.DictionaryWrites :=
  ⟨fun _ _ _ _ _ plain => dictionaryWrite_plain plain, fun _ _ _ _ _ unlock power => dictionaryWrite_refused unlock power⟩

end Sys2Proof.Machine
end

section
/-! ### Commands of the chain at their destination (R46–R53, R317, R318, R432)

What the phases of a transfer answer and leave, and how a node that listens answers them. -/

namespace Sys2Proof.Machine

/-! #### The phases of a transfer -/

section
variable {b : Block} {m : List Host.Cell} {ix sub : Nat}

theorem Block.wasRead_dict (b : Block) (ix : Nat) : (b.wasRead ix).dict = b.dict := by unfold Block.wasRead; split <;> rfl
theorem Block.wasRead_link (b : Block) (ix : Nat) : (b.wasRead ix).link = b.link := by unfold Block.wasRead; split <;> rfl
theorem Block.wasRead_access (b : Block) (ix : Nat) : (b.wasRead ix).access = b.access := by unfold Block.wasRead; split <;> rfl
theorem Block.wasRead_awake (b : Block) (ix : Nat) : (b.wasRead ix).awake = b.awake := by unfold Block.wasRead; split <;> rfl
theorem Block.wasRead_hostPort (b : Block) (ix : Nat) (c : Carrier) : (b.wasRead ix).hostPort c = b.hostPort c := by
  unfold Block.wasRead
  split
  · cases c <;> rfl
  · rfl

theorem Block.expeditedRead_of_short {l : List Byte} (h : b.readBytes m ix sub = .ok l) (stream : ix ≠ 0x7000) (short : l.length ≤ 4) :
    b.expeditedRead m ix sub = .ok l := by
  simp [Block.expeditedRead, h, stream, Nat.not_lt.2 short]

theorem Block.expeditedRead_of_long {l : List Byte} (h : b.readBytes m ix sub = .ok l) (long : ix = 0x7000 ∨ 4 < l.length) :
    b.expeditedRead m ix sub = .error 0x0606 := by
  simp [Block.expeditedRead, h, long]

theorem Block.readNow_of_ok {l : List Byte} (h : b.expeditedRead m ix sub = .ok l) :
    b.readNow m ix sub = (⟨none, l.length, 0, l⟩, b.wasRead ix) := by
  simp only [Block.readNow, h]

theorem Block.readNow_of_error {a : Nat} (h : b.expeditedRead m ix sub = .error a) : b.readNow m ix sub = (.refuse a 0 0, b) := by
  simp only [Block.readNow, h]

/-- The abort of a write of a length that is not its object's (R47, R49): none, longer than its kind carries, too few, too many. -/
def wrongLength (n size most : Nat) : Nat :=
  if n = 0 then 0x0606 else if most < n then 0x0607 else if n < size then 0x0606 else 0x0607

theorem Block.lengthAbort_of_ne {o : Obj} {n most : Nat} (h : n ≠ b.writeSize o sub) :
    b.lengthAbort o sub n most = some (wrongLength n (b.writeSize o sub) most) := by
  simp only [Block.lengthAbort, wrongLength]
  split_ifs
  · rfl
  · rfl
  · rfl
  · rfl
  · omega

theorem Block.lengthAbort_of_long {o : Obj} {n most : Nat} (some_byte : n ≠ 0) (long : most < n) :
    b.lengthAbort o sub n most = some 0x0607 := by
  simp [Block.lengthAbort, some_byte, long]

/-- A write of the wrong length to any object but Unlock is refused; the abort is all but disarming (R42, R45, R47). -/
theorem Block.writeAccess_wrongLength {data : List Byte} {most a : Nat} {who : Option Carrier} {o : Obj} (unlock : ix ≠ 0x1F00)
    (target : b.disarm.writeTarget ix sub = .ok o) (length : b.disarm.lengthAbort o sub data.length most = some a) :
    b.writeAccess m ix sub data most who = (.refused a, b.disarm) := by
  by_cases power : ix = 0x1001
  · subst power
    simp only [Block.writeAccess, unlock, if_false, if_true, Block.writePower, target, length]
  · simp only [Block.writeAccess, unlock, power, if_false, Block.writeObject, Block.checkWrite, target, length]

theorem Block.writeAccess_error {data : List Byte} {most a : Nat} {who : Option Carrier} (unlock : ix ≠ 0x1F00) (power : ix ≠ 0x1001)
    (refused : b.disarm.checkWrite ix sub data most = .error a) : b.writeAccess m ix sub data most who = (.refused a, b.disarm) := by
  simp only [Block.writeAccess, unlock, power, if_false, Block.writeObject, refused]

theorem limitAbort_eq_none {l : Nat} (least : 0 < l) (most : l ≤ 4096) : limitAbort l = none := by
  simp [limitAbort, Nat.ne_of_gt least, Nat.not_lt.2 most]

/-- The Initiate of a read that is sound opens its transfer with the snapshot (R48, R50). -/
theorem Block.initRead_of_ok {r : Requester} {l : Nat} {bytes : List Byte}
    (h : (b.withAccess (b.access.restart r)).readBytes m ix sub = .ok bytes) (stream : ix ≠ 0x7000) (fits : bytes.length ≤ l)
    (least : 0 < l) (most : l ≤ 4096) (free : (b.access.restart r).transfer = none) :
    b.initRead m r ix sub l = (⟨none, bytes.length, 0, []⟩, ((b.withAccess (b.access.restart r)).readsFlash ix sub).openTransfer
      ⟨r, ix, sub, false, bytes, bytes.length, 0, none, 0, none⟩) := by
  simp [Block.initRead, h, limitAbort_eq_none least most, stream, Nat.not_lt.2 fits, free]

end

end Sys2Proof.Machine
end

section
/-! ### Expedited transfers, and a segmented read of a summary over the chain (R46–R50, R438) -/

namespace Sys2Proof.Machine

section
variable {s : State} {seq ix sub : Nat} (h : Listens s.blk seq)
include h

theorem read_gives {l : List Byte} (answer : s.blk.commanded.expeditedRead s.flash ix sub = .ok l) :
    GivesBlock (.read seq ix sub) s fun b => Responds s.blk b seq (responsePayload 1 ix sub ⟨none, l.length, 0, l⟩) := by
  obtain ⟨r, -⟩ := h.chainCommand_responds (op := 1) (ix := ix) (sub := sub) (run := fun b => b.readNow s.flash ix sub)
    (Block.readNow_of_ok answer) ((Block.wasRead_awake _ _).trans s.blk.commanded_awake)
    (congrArg Link.own ((Block.wasRead_link _ _).trans s.blk.commanded_link))
  exact ⟨_, rfl, r⟩

theorem read_refused {a : Nat} (abort : s.blk.commanded.expeditedRead s.flash ix sub = .error a) :
    GivesBlock (.read seq ix sub) s fun b => Responds s.blk b seq (responsePayload 1 ix sub (.refuse a 0 0)) := by
  obtain ⟨r, -⟩ := h.chainCommand_responds (op := 1) (ix := ix) (sub := sub) (run := fun b => b.readNow s.flash ix sub)
    (Block.readNow_of_error abort) s.blk.commanded_awake (congrArg Link.own s.blk.commanded_link)
  exact ⟨_, rfl, r⟩

/-- A write that an access refuses, changing nothing of the dictionary but what c shows, is answered with its abort. -/
theorem write_refused {data : List Byte} {a : Nat} {c : Block}
    (refused : s.blk.commanded.writeAccess s.flash ix sub data 4 none = (.refused a, c)) (aw : c.awake = s.blk.awake)
    (link : c.link = s.blk.link) :
    GivesBlock (.write seq ix sub data) s fun b =>
      b.dict = c.dict ∧ Responds s.blk b seq (responsePayload 2 ix sub (.refuse a data.length 0)) := by
  have answer : settled (s.blk.commanded.writeNow s.flash ix sub data none) = (.refuse a data.length 0, c) := by
    simp only [Block.writeNow, refused, Verdict.reply, settled, Option.getD_some]
  obtain ⟨r, d⟩ := h.chainCommand_responds (op := 2) (ix := ix) (sub := sub)
    (run := fun b => settled (b.writeNow s.flash ix sub data none)) answer aw (congrArg Link.own link)
  exact ⟨_, rfl, d, r⟩

theorem write_wrongLength {data : List Byte} {o : Obj} {a : Nat} (unlock : ix ≠ 0x1F00)
    (target : s.blk.commanded.disarm.writeTarget ix sub = .ok o)
    (length : s.blk.commanded.disarm.lengthAbort o sub data.length 4 = some a) :
    GivesBlock (.write seq ix sub data) s fun b =>
      b.dict = s.blk.disarm.dict ∧ Responds s.blk b seq (responsePayload 2 ix sub (.refuse a data.length 0)) := by
  obtain ⟨b, e, dict, r⟩ := write_refused h (Block.writeAccess_wrongLength unlock target length)
    (by simp [Block.commanded_awake]) (by simp [Block.commanded_link])
  exact ⟨b, e, dict.trans (Block.disarm_dict_congr s.blk.commanded_dict), r⟩

theorem writeUnlock_wrongLength {data : List Byte} {o : Obj} (target : s.blk.commanded.writeTarget 0x1F00 sub = .ok o)
    (length : data.length ≠ 2) :
    GivesBlock (.write seq 0x1F00 sub data) s fun b => b.dict = s.blk.dict ∧
      Responds s.blk b seq (responsePayload 2 0x1F00 sub (.refuse (if data.length < 2 then 0x0606 else 0x0607) data.length 0)) := by
  obtain ⟨rfl, rfl⟩ := Block.writeTarget_unlock_ok target
  have abort : wrongLength data.length 2 4 = if data.length < 2 then 0x0606 else 0x0607 := by
    simp only [wrongLength]; split_ifs <;> omega
  have refused := Block.writeUnlock_wrongLength target (Block.lengthAbort_of_ne (most := 4) length)
  rw [Block.writeSize_unlock, abort] at refused
  obtain ⟨b, e, dict, r⟩ := write_refused h (c := s.blk.commanded.armedLast false) (by rw [Block.writeAccess, if_pos rfl, refused])
    s.blk.commanded_awake s.blk.commanded_link
  exact ⟨b, e, dict.trans s.blk.commanded_dict, r⟩

end

/-! #### Expedited access by a host (R352) -/

section
variable {s : State} {c : Carrier} {ix sub : Nat} (h : Ready s.blk c) (word : ix < 65536) (byte : sub < 256)
include h word byte

theorem novezRead_gives {l : List Byte}
    (answer : (s.blk.begun c (s.blk.nextHeader c 1 0 ix sub) []).expeditedRead s.flash ix sub = .ok l) :
    GivesBlock (.novezRead c 0 ix sub) s fun b => Answered b c (s.blk.nextHeader c 1 0 ix sub) [] (.done l) := by
  have running := s.blk.begun_executing c (s.blk.nextHeader c 1 0 ix sub) []
  have e := h.hostCommand s.flash (op := 1) (data := []) (by decide) word byte rfl rfl
  simp only [if_true, Block.hostRead, Block.readNow_of_ok answer] at e
  exact ⟨_, rfl, e ▸ (Block.answerHost_answered ((congrArg HostPort.executing (Block.wasRead_hostPort _ ix c)).trans running) _).1⟩

theorem novezRead_refused {a : Nat}
    (abort : (s.blk.begun c (s.blk.nextHeader c 1 0 ix sub) []).expeditedRead s.flash ix sub = .error a) :
    GivesBlock (.novezRead c 0 ix sub) s fun b => Answered b c (s.blk.nextHeader c 1 0 ix sub) [] (.abort a) := by
  have running := s.blk.begun_executing c (s.blk.nextHeader c 1 0 ix sub) []
  have e := h.hostCommand s.flash (op := 1) (data := []) (by decide) word byte rfl rfl
  simp only [if_true, Block.hostRead, Block.readNow_of_error abort] at e
  exact ⟨_, rfl, e ▸ (Block.answerHost_answered running _).1⟩

theorem novezWrite_wrongLength {data : List Byte} {o : Obj} (unlock : ix ≠ 0x1F00) (least : 1 ≤ data.length) (most : data.length ≤ 4)
    (target : (s.blk.begun c (s.blk.nextHeader c 2 0 ix sub) data).disarm.writeTarget ix sub = .ok o)
    (length : data.length ≠ (s.blk.begun c (s.blk.nextHeader c 2 0 ix sub) data).disarm.writeSize o sub) :
    GivesBlock (.novezWrite c 0 ix sub data) s fun b => Answered b c (s.blk.nextHeader c 2 0 ix sub) data
      (.abort (if data.length < (s.blk.begun c (s.blk.nextHeader c 2 0 ix sub) data).disarm.writeSize o sub then 0x0606 else 0x0607)) := by
  have running := s.blk.begun_executing c (s.blk.nextHeader c 2 0 ix sub) data
  have fits : novezFits c 2 data.length = true := by simp [novezFits, novezLength, least, most]
  have e := h.hostCommand s.flash (op := 2) (by decide) word byte rfl fits
  have refused := Block.writeAccess_wrongLength (m := s.flash) (who := some c) unlock target (Block.lengthAbort_of_ne (most := 4) length)
  have abort : wrongLength data.length ((s.blk.begun c (s.blk.nextHeader c 2 0 ix sub) data).disarm.writeSize o sub) 4 =
      if data.length < (s.blk.begun c (s.blk.nextHeader c 2 0 ix sub) data).disarm.writeSize o sub then 0x0606 else 0x0607 := by
    rw [wrongLength, if_neg (by omega), if_neg (by omega)]
  simp only [OfNat.ofNat_ne_one, if_false, if_true, Block.hostWrite, Block.writeOwn, Block.writeNow, refused, abort, Verdict.reply,
    Block.ownWritten, Block.disarm_hostPort, running, Option.map_some] at e
  exact ⟨_, rfl, e ▸ (Block.answerHost_answered (by rw [Block.disarm_hostPort, running]) _).1⟩

end

/-- Settles O45: an expedited access is judged by its object's length, over the chain and from a host. -/
theorem expeditedTransfers : Obligations.ExpeditedTransfers :=
  ⟨⟨fun _ _ _ _ _ h ok stream short => read_gives h (Block.expeditedRead_of_short ok stream short),
    fun _ _ _ _ _ h ok long => read_refused h (Block.expeditedRead_of_long ok long),
    fun _ _ _ _ _ h word byte ok stream short => novezRead_gives h word byte (Block.expeditedRead_of_short ok stream short),
    fun _ _ _ _ _ h word byte ok long => novezRead_refused h word byte (Block.expeditedRead_of_long ok long)⟩,
   fun _ _ _ _ _ _ h unlock target length => write_wrongLength h unlock target (Block.lengthAbort_of_ne length),
   fun _ _ _ _ _ _ h unlock target long => write_wrongLength h unlock target (Block.lengthAbort_of_long (by omega) long),
   fun _ _ _ _ _ h target length => writeUnlock_wrongLength h target length,
   fun _ _ _ _ _ _ h unlock word byte least most ⟨target, length⟩ =>
     novezWrite_wrongLength h word byte unlock least most target length⟩

/-! #### A summary read over the chain (R48, R438) -/

/-- A node in Standby at position 3 whose summary bank in force holds a word that reads corrected. -/
def weakSummary : State :=
  let b := (Block.fresh Fuses.model .standby).put Ob.position 3
  ⟨[], b.withNvm { b.nvm with summaryBank := some false, weak := [0x2000] }, []⟩

theorem weakSummary_listens : Listens weakSummary.blk 0 := ⟨by decide, by decide, by decide, by decide⟩

/-- The object IncidentSummary as the table gives it. -/
theorem findObj_summary : findObj 0x7004 = some ⟨0x7004, .record 4, [⟨1, 4, .domain, .ro, .ro, 0, .v, 0, 0, []⟩]⟩ := by decide

theorem weakSummary_readBytes :
    weakSummary.blk.commanded.initiated.readBytes weakSummary.flash 0x7004 1 = .ok (Flash.readRange 0x2000 slotSize []) := by
  have bank : weakSummary.blk.commanded.initiated.nvm.summaryBank = some false := rfl
  have head : weakSummary.blk.commanded.initiated.isHead = false := by decide
  have cells : weakSummary.blk.commanded.initiated.noCells = false := by decide
  have flash : weakSummary.flash = [] := rfl
  simp [Block.readBytes, xOnly, findObj_summary, Block.readObj, Block.hasSub, Block.addressed, Obj.entry, Block.accessOf, head,
    Block.roleRefuses, cells, Block.readRefused, Block.domainAt, Block.summarySlots, bank, summaryBase, flash]

/-- The correction that the read of the summary meets is counted in NvmStatus (R438). -/
theorem weakSummary_counts :
    (weakSummary.blk.commanded.initiated.readsFlash 0x7004 1).get Ob.nvmStatusCorrected = 1 := by
  decide

/-- Refutes O33: the Initiate of a read of IncidentSummary reads its words in flash, and NvmStatus, an entry of the dictionary, counts the
corrections met there (R438); the clause on SEG_INIT_READ asks for an unchanged dictionary. -/
theorem not_chainCommands : ¬ Obligations.ChainCommands := by
  intro ⟨_, _, _, _, segInitRead, _⟩
  have length : (Flash.readRange 0x2000 slotSize []).length = 1024 := by simp [Flash.readRange]
  obtain ⟨b, e, -, -, dict⟩ := segInitRead weakSummary 0 0x7004 1 4096 _ weakSummary_listens weakSummary_readBytes (by decide)
    (by omega) (by decide) (by decide) rfl
  obtain ⟨-, d⟩ := weakSummary_listens.chainCommand_responds (op := 3) (ix := 0x7004) (sub := 1)
    (run := fun b => b.initRead weakSummary.flash .chain 0x7004 1 4096)
    (Block.initRead_of_ok weakSummary_readBytes (by decide) (by omega) (by decide) (by decide) rfl) (by decide) (by decide)
  obtain rfl : _ = b := congrArg State.blk (Host.Outcome.next.inj e)
  have counted := congrArg (Dict.get Ob.nvmStatusCorrected) (dict.symm.trans d)
  exact absurd (counted.trans weakSummary_counts) (by decide)

end Sys2Proof.Machine
end

section
/-! ### The time limit of a transfer, and the stream read of the journal (R51, R357, R432) -/

namespace Sys2Proof.Machine

/-- A transfer closed by time is still to be reported to its requester (R51). -/
theorem Access.close_of_some {a : Access} {x : Transfer} (h : a.transfer = some x) :
    a.close.transfer = none ∧ x.requester ∈ a.close.timedOut := by
  simp [Access.close, h]

theorem segmentTimeout_chain {s : State} {x : Transfer} (awake : s.blk.awake = true) (node : s.blk.isHead = false)
    (opened : s.blk.access.transfer = some x) : GivesBlock (.segmentTimeout .chain) s fun b =>
      b.access.transfer = none ∧ x.requester ∈ b.access.timedOut ∧ b.dict = s.blk.dict ∧ b.link = s.blk.link := by
  have e : segmentTimeout .chain s.blk = s.blk.withAccess s.blk.access.close := by simp [segmentTimeout, awake, node]
  obtain ⟨none, late⟩ := Access.close_of_some opened
  exact ⟨_, rfl, by rw [e]; exact ⟨none, late, rfl, rfl⟩⟩

theorem segmentTimeout_host {s : State} {c : Carrier} {x : HostTransfer} (awake : s.blk.awake = true) (head : s.blk.isHead = true)
    (opened : (s.blk.hostPort c).transfer = some x) : GivesBlock (.segmentTimeout c.requester) s fun b =>
      (b.hostPort c).transfer = none ∧ (b.hostPort c).timedOut = true ∧ b.dict = s.blk.dict ∧ b.link = s.blk.link := by
  have e : segmentTimeout c.requester s.blk = s.blk.closeHost c := by cases c <;> simp [segmentTimeout, Carrier.requester, awake, head]
  refine ⟨_, rfl, ?_⟩
  simp only [e, Block.closeHost, opened, Option.isSome_some, if_true]
  cases c
  · exact ⟨rfl, rfl, rfl, rfl⟩
  · exact ⟨rfl, rfl, rfl, rfl⟩

/-! #### JournalRead -/

theorem findObj_journalRead : findObj 0x7000 = some ⟨0x7000, .simple, [⟨0, 0, .domain, .ro, .ro, 0, .v, 0, 0, []⟩]⟩ := by decide

/-- JournalRead itself is a DOMAIN without bytes of its own: the stream read takes them from the journal (R432). -/
theorem Block.readBytes_journal (b : Block) (m : List Host.Cell) : b.readBytes m 0x7000 0 = .ok [] := by
  simp [Block.readBytes, xOnly, findObj_journalRead, Block.readObj, Block.hasSub, Block.addressed, Obj.entry, Block.accessOf,
    Block.roleRefuses, cellSide, Block.readRefused, Block.domainAt]

/-- The transfer that a stream read of the chain opens: whole entries from the cursor on, and where the cursor goes (R432). -/
def Block.journalTransfer (b : Block) (l : Nat) : Transfer :=
  let data := ((b.journalRun l).1.map b.journal.encode).flatten
  ⟨.chain, 0x7000, 0, false, data, data.length, 0, none, 0, (b.journalRun l).1.getLast?.map fun e => (e.number + 1) % 2 ^ 32⟩

/-- The Initiate of a stream read takes its entries and notes what was skipped (R432). -/
theorem Block.initRead_journal {b : Block} {l : Nat} (m : List Host.Cell) (least : 16 ≤ l) (most : l ≤ 4096)
    (free : b.initiated.access.transfer = none) :
    b.initRead m .chain 0x7000 0 l = (⟨none, (b.journalTransfer l).data.length, 0, []⟩,
      (b.initiated.noteSkipped (b.journalRun l).2.2).openTransfer (b.journalTransfer l)) := by
  unfold Block.initRead
  rw [← Block.initiated]
  simp only [Block.readBytes_journal, limitAbort_eq_none (show 0 < l by omega) most, free, Nat.not_lt.2 least, Option.isSome_none,
    decide_true, decide_false, Bool.and_false, Bool.or_self, ne_eq, not_true_eq_false, Bool.false_and, Bool.false_eq_true, if_false,
    if_true]
  rfl

theorem Block.noteSkipped_journal (b : Block) (n : Option Nat) :
    (b.noteSkipped n).journal.cursor = b.journal.cursor ∧ (b.noteSkipped n).journal.entries = b.journal.entries ∧
      (b.noteSkipped n).out = b.out := by
  cases n <;> exact ⟨rfl, rfl, rfl⟩

theorem Block.moveCursor_journal (b : Block) (n : Option Nat) :
    (b.moveCursor n).journal.cursor = n.getD b.journal.cursor ∧ (b.moveCursor n).journal.entries = b.journal.entries ∧
      (b.moveCursor n).out = b.out ∧ (b.moveCursor n).access = b.access := by
  cases n <;> exact ⟨rfl, rfl, rfl, rfl⟩

section
variable {s : State} {length : Nat} (awake : s.blk.awake = true)
include awake

/-- A stream read of at least one entry's length returns what its transfer holds, and moves the cursor past the last entry (R432). -/
theorem journalRead_returns (least : 16 ≤ length) (most : length ≤ 4096) (free : s.blk.initiated.access.transfer = none) :
    GivesBlock (.journalRead .chain length) s fun b =>
      b.out = s.blk.out ++ [.returned (s.blk.journalTransfer length).data, .answer none] ∧
      b.journal.cursor = (s.blk.journalTransfer length).cursor.getD s.blk.journal.cursor ∧
      b.journal.entries = s.blk.journal.entries ∧ b.access.transfer = none := by
  have whole : journalRead .chain length s.flash s.blk =
      ((((s.blk.initiated.noteSkipped (s.blk.journalRun length).2.2).openTransfer (s.blk.journalTransfer length)).closeTransfer.moveCursor
        (s.blk.journalTransfer length).cursor).emit (.returned (s.blk.journalTransfer length).data)).emit (.answer none) := by
    simp only [journalRead, awake, Block.initRead_journal s.flash least most free, Bool.not_true, Bool.false_eq_true, if_false]
    rfl
  obtain ⟨cursor, entries, out⟩ := s.blk.initiated.noteSkipped_journal (s.blk.journalRun length).2.2
  obtain ⟨cursor', entries', out', access'⟩ := Block.moveCursor_journal
    ((s.blk.initiated.noteSkipped (s.blk.journalRun length).2.2).openTransfer (s.blk.journalTransfer length)).closeTransfer
    (s.blk.journalTransfer length).cursor
  refine ⟨_, rfl, ?_⟩
  rw [whole]
  refine ⟨?_, cursor'.trans (congrArg _ cursor), entries'.trans entries, congrArg Access.transfer access'⟩
  rw [Block.emit_out, Block.emit_out, out', List.append_assoc]
  exact congrArg (· ++ _) out

theorem journalRead_short (short : length < 16) : GivesBlock (.journalRead .chain length) s fun b =>
    b.out = s.blk.out ++ [.answer (some 0x0606)] ∧ b.journal = s.blk.journal := by
  have refused : s.blk.initRead s.flash .chain 0x7000 0 length = (.refuse 0x0606 length 0, s.blk.initiated) := by
    unfold Block.initRead
    rw [← Block.initiated]
    simp only [Block.readBytes_journal, limitAbort]
    by_cases none : length = 0
    · simp [none]
    · simp [none, short, show ¬ longest < length by simp only [longest]; omega]
  have whole : journalRead .chain length s.flash s.blk = s.blk.initiated.emit (.answer (some 0x0606)) := by
    simp only [journalRead, awake, refused, Bool.not_true, Bool.false_eq_true, if_false]
    rfl
  exact ⟨_, rfl, by rw [whole]; exact ⟨rfl, rfl⟩⟩

end

theorem journalRead_entries {s : State} {length : Nat} {e : JEntry} {es : List JEntry} (awake : s.blk.awake = true) (least : 16 ≤ length)
    (most : length ≤ 4096) (free : s.blk.initiated.access.transfer = none) (run : (s.blk.journalRun length).1 = es ++ [e]) :
    GivesBlock (.journalRead .chain length) s fun b =>
      b.out = s.blk.out ++ [.returned ((es ++ [e]).map s.blk.journal.encode).flatten, .answer none] ∧
      b.journal.cursor = (e.number + 1) % 2 ^ 32 ∧ b.journal.entries = s.blk.journal.entries ∧ b.access.transfer = none := by
  obtain ⟨b, next, out, cursor, rest⟩ := journalRead_returns awake least most free
  simp only [Block.journalTransfer, run, List.getLast?_concat, Option.map_some, Option.getD_some] at out cursor
  exact ⟨b, next, out, cursor, rest⟩

theorem journalRead_none {s : State} {length : Nat} (awake : s.blk.awake = true) (least : 16 ≤ length)
    (most : length ≤ 4096) (free : s.blk.initiated.access.transfer = none) (run : (s.blk.journalRun length).1 = []) :
    GivesBlock (.journalRead .chain length) s fun b =>
      b.out = s.blk.out ++ [.returned [], .answer none] ∧ b.journal.cursor = s.blk.journal.cursor := by
  obtain ⟨b, next, out, cursor, -⟩ := journalRead_returns awake least most free
  simp only [Block.journalTransfer, run, List.map_nil, List.flatten_nil, List.getLast?_nil, Option.map_none, Option.getD_none] at out cursor
  exact ⟨b, next, out, cursor⟩

/-- Settles O35: the time limit closes what its carrier had open, and a stream read is its transfer from Initiate to End. -/
theorem transfersAndJournal : Obligations.TransfersAndJournal :=
  ⟨fun _ _ awake node => segmentTimeout_chain awake node, fun _ _ _ awake head => segmentTimeout_host awake head,
   fun _ _ _ _ awake least most free => journalRead_entries awake least most free,
   fun _ _ awake least most free => journalRead_none awake least most free, fun _ _ awake => journalRead_short awake⟩

end Sys2Proof.Machine
end

section
/-! ### A command repeated (R53, R351, R354)

A message that its carrier receives whole is taken apart into its header and data, and one that repeats the command executed last only
brings its answer again. -/

namespace Sys2Proof.Machine

/-! #### Messages received whole (R351) -/

/-- A field that stands between two runs of bytes. -/
theorem field_middle {a b c : List Byte} {i n : Nat} (before : a.length = i) (own : b.length = n) : field (a ++ b ++ c) i n = natOf b := by
  subst before own
  simp [field]

theorem bytesOf_length (n v : Nat) : (bytesOf n v).length = n := by
  induction n with
  | zero => rfl
  | succ n ih => simp [bytesOf, ih]

theorem natOf_bytesOf_one {n : Nat} (h : n < 256) : natOf (bytesOf 1 n) = n := by
  simp only [natOf, bytesOf, List.foldl_cons, List.foldl_nil, BitVec.toNat_ofNat]
  omega

theorem natOf_bytesOf_crc16 (l : List Byte) : natOf (bytesOf 2 (crc16 l)) = crc16 l :=
  field_bytesOf_two (BitVec.isLt (l.foldl crc16Byte 0xFFFF#16))

/-- The data CRC of a message with data. -/
def dataCrc (data : List Byte) : List Byte := if data.isEmpty then [] else bytesOf 2 (crc16 data)

/-- Header bytes 0–5 of a message. -/
def headed (header data : List Byte) : List Byte := header ++ bytesOf 1 data.length

section
variable {header data : List Byte} (five : header.length = 5)

theorem novezMessage_eq : novezMessage header data =
    headed header data ++ bytesOf 2 (crc16 (headed header data)) ++ data ++ dataCrc data := rfl

include five

theorem headed_length : (headed header data).length = 6 := by simp [headed, five, bytesOf_length]

theorem novezMessage_length : (novezMessage header data).length = if data.length = 0 then 8 else 10 + data.length := by
  rw [novezMessage_eq]
  simp only [List.length_append, headed_length five, bytesOf_length, dataCrc, List.isEmpty_iff, ← List.length_eq_zero_iff]
  split_ifs with none
  · simp [none]
  · rw [bytesOf_length]; omega

theorem field_novezMessage_count (byte : data.length < 256) : field (novezMessage header data) 5 1 = data.length := by
  have e : novezMessage header data =
      header ++ bytesOf 1 data.length ++ (bytesOf 2 (crc16 (headed header data)) ++ data ++ dataCrc data) := by
    simp [novezMessage_eq, headed]
  rw [e, field_middle five (bytesOf_length 1 _), natOf_bytesOf_one byte]

theorem field_novezMessage_crc : field (novezMessage header data) 6 2 = crc16 ((novezMessage header data).take 6) := by
  have e : novezMessage header data = headed header data ++ bytesOf 2 (crc16 (headed header data)) ++ (data ++ dataCrc data) := by
    simp [novezMessage_eq]
  have start : (novezMessage header data).take 6 = headed header data := by
    rw [e, List.append_assoc]
    exact List.take_left' (headed_length five)
  rw [start, e, field_middle (headed_length five) (bytesOf_length 2 _), natOf_bytesOf_crc16]

theorem novezMessage_data : ((novezMessage header data).drop 8).take data.length = data := by
  rw [novezMessage_eq, List.append_assoc _ data]
  rw [List.drop_left' (by rw [List.length_append, headed_length five, bytesOf_length])]
  exact List.take_left' rfl

theorem field_novezMessage_dataCrc (some_byte : data.length ≠ 0) : field (novezMessage header data) (8 + data.length) 2 = crc16 data := by
  have full : dataCrc data = bytesOf 2 (crc16 data) := if_neg fun none => some_byte (by simpa using none)
  have e : novezMessage header data =
      headed header data ++ bytesOf 2 (crc16 (headed header data)) ++ data ++ bytesOf 2 (crc16 data) ++ [] := by
    rw [novezMessage_eq, full, List.append_nil]
  rw [e, field_middle _ (bytesOf_length 2 _), natOf_bytesOf_crc16]
  simp only [List.length_append, headed_length five, bytesOf_length]

/-- A message as it is sent passes its checks, on a carrier that frames it and on one that pads it, and gives back what it carries (R351). -/
theorem checkMessage_novezMessage (byte : data.length < 256) (exact : Bool) :
    checkMessage exact (novezMessage header data) = ⟨header, data, true, true, true⟩ := by
  have size := novezMessage_length (data := data) five
  have start : (novezMessage header data ++ bytesOf 5 0).take 5 = header := by
    simp only [novezMessage_eq, headed, List.append_assoc]
    exact List.take_left' five
  have whole : (decide (8 ≤ (novezMessage header data).length) &&
      if exact then (novezMessage header data).length == (if data.length = 0 then 8 else 10 + data.length)
      else decide ((if data.length = 0 then 8 else 10 + data.length) ≤ (novezMessage header data).length)) = true := by
    rw [size]
    by_cases none : data.length = 0
    · cases exact <;> simp [none]
    · have least : 8 ≤ 10 + data.length := by omega
      cases exact <;> simp [none, least]
  have last : (data.length == 0 || field (novezMessage header data) (8 + data.length) 2 == crc16 data) = true := by
    by_cases none : data.length = 0
    · simp [none]
    · simp [field_novezMessage_dataCrc five none]
  simp only [checkMessage, field_novezMessage_count five byte, field_novezMessage_crc five, novezMessage_data five, start, whole, last,
    beq_self_eq_true]

end

/-! #### A command of the chain that repeats the one executed last (R53) -/

theorem Block.chainCommand_repeats {b : Block} {seq op ix sub : Nat} {payload : List Byte} {run : Block → Reply × Block}
    (awake : b.awake = true) (node : b.isHead = false) (positioned : b.positioned = true)
    (last : b.access.lastSeq = some (seq, payload)) :
    b.chainCommand seq op ix sub run = b.commanded.queueResponse seq payload := by
  have again : ((b.heard b.link.headSide).access.lastSeq.filter fun x => x.1 == seq) = some (seq, payload) := by
    rw [Block.heard_access, last]
    simp
  simp only [Block.chainCommand, awake, node, positioned, Bool.not_true, Bool.or_self, Bool.false_eq_true, if_false, again]
  rfl

/-! #### What dealing with a host leaves alone -/

/-- From a to b the head has only dealt with its host: faults, storage, chain, its own dictionary's transfer and CAN FD's settings stand. -/
structure Block.HostSideOnly (a b : Block) : Prop where
  flint : b.flint = a.flint
  nvm : b.nvm = a.nvm
  link : b.link = a.link
  access : b.access = a.access
  settings : b.host.canInForce = a.host.canInForce

section
variable {a b : Block}

theorem Block.HostSideOnly.refl (b : Block) : b.HostSideOnly b := ⟨rfl, rfl, rfl, rfl, rfl⟩
theorem Block.HostSideOnly.trans {c : Block} (h : a.HostSideOnly b) (g : b.HostSideOnly c) : a.HostSideOnly c :=
  ⟨g.flint.trans h.flint, g.nvm.trans h.nvm, g.link.trans h.link, g.access.trans h.access, g.settings.trans h.settings⟩
theorem Block.HostSideOnly.withHost (h : a.HostSideOnly b) {v} (hv : v.canInForce = b.host.canInForce := by rfl) :
    a.HostSideOnly (b.withHost v) := ⟨h.flint, h.nvm, h.link, h.access, hv.trans h.settings⟩
theorem Block.HostSideOnly.withPower (h : a.HostSideOnly b) {v} : a.HostSideOnly (b.withPower v) := h.trans { HostSideOnly.refl b with }
theorem Block.HostSideOnly.withFree (h : a.HostSideOnly b) {v} : a.HostSideOnly (b.withFree v) := h.trans { HostSideOnly.refl b with }
theorem Block.HostSideOnly.emit (h : a.HostSideOnly b) {e} : a.HostSideOnly (b.emit e) := h.trans { HostSideOnly.refl b with }
theorem Block.HostSideOnly.put (h : a.HostSideOnly b) {k v} : a.HostSideOnly (b.put k v) := h.trans { HostSideOnly.refl b with }
theorem Block.HostSideOnly.count32 (h : a.HostSideOnly b) {k} : a.HostSideOnly (b.count32 k) := h.put

theorem Block.HostSideOnly.setHostPort (h : a.HostSideOnly b) {c p} : a.HostSideOnly (b.setHostPort c p) := by
  cases c
  · exact h.withHost
  · exact h.withHost

theorem Block.HostSideOnly.ite {p : Prop} [Decidable p] {x y : Block} (hx : a.HostSideOnly x) (hy : a.HostSideOnly y) :
    a.HostSideOnly (if p then x else y) := by
  split
  · exact hx
  · exact hy

theorem Block.HostSideOnly.judgeCan (h : a.HostSideOnly b) : a.HostSideOnly b.judgeCan := .ite h.put h

theorem Block.HostSideOnly.canReceived (h : a.HostSideOnly b) : a.HostSideOnly b.canReceived := h.put.judgeCan

theorem Block.HostSideOnly.canFrame (h : a.HostSideOnly b) {k l} : a.HostSideOnly (b.canFrame k l) :=
  .ite (h.emit.put.judgeCan.put).withFree h.emit.put.judgeCan

theorem Block.HostSideOnly.canAlarms (h : a.HostSideOnly b) : a.HostSideOnly b.canAlarms :=
  List.foldlRecOn (motive := fun x : Block => a.HostSideOnly x) _ _ h.withHost fun _ hx _ _ => hx.canFrame

theorem Block.HostSideOnly.canRespond (h : a.HostSideOnly b) {l} : a.HostSideOnly (b.canRespond l) :=
  .ite h.canAlarms.canFrame (.ite h.withHost h)

theorem Block.HostSideOnly.hostHeard (h : a.HostSideOnly b) : a.HostSideOnly b.hostHeard := h.withPower.withHost

theorem Block.HostSideOnly.endSilent (h : a.HostSideOnly b) {c} : a.HostSideOnly (b.endSilent c) := by
  cases c
  · exact h
  · exact .ite h.withHost.put.judgeCan h.withHost

theorem Block.HostSideOnly.discardSlot (h : a.HostSideOnly b) {c} : a.HostSideOnly (b.discardSlot c) := .ite h.count32.setHostPort h

theorem Block.HostSideOnly.answerHost (h : a.HostSideOnly b) {c r} : a.HostSideOnly (b.answerHost c r) := by
  unfold Block.answerHost Block.answerWith
  extract_lets
  split
  · exact h
  · cases c
    · exact h.setHostPort
    · exact h.setHostPort.withPower.canRespond

theorem Block.HostSideOnly.begun (b : Block) (c : Carrier) (header data : List Byte) : b.HostSideOnly (b.begun c header data) :=
  ((HostSideOnly.refl b).hostHeard.endSilent.setHostPort.count32).discardSlot.setHostPort

end

/-! #### A host's command that repeats the one executed last (R354) -/

/-- A head that has accepted the command executed last once more: its carrier has been heard, and the acceptance is counted (R354, R375). -/
def Block.acceptedAgain (b : Block) (c : Carrier) : Block :=
  ((b.hostHeard.endSilent c).setHostPort c { b.hostPort c with rejected := false }).count32 (acceptedKey c)

theorem Block.acceptHost_repeats {b : Block} {c : Carrier} {header data message : List Byte} (m : List Host.Cell)
    (idle : (b.hostPort c).executing = none) (last : (b.hostPort c).last = some (header ++ data, message)) :
    b.acceptHost m c header data = (b.acceptedAgain c).repeatAnswer c message := by
  simp only [Block.acceptHost, Block.endSilent_hostPort, Block.hostHeard_hostPort, idle, last, Option.filter_some, beq_self_eq_true,
    Option.isSome_none, Bool.false_eq_true, if_false, if_true, Block.acceptedAgain]

theorem Block.acceptedAgain_hostPort (b : Block) (c : Carrier) :
    (b.acceptedAgain c).hostPort c = { b.hostPort c with rejected := false } := by
  simp [Block.acceptedAgain]

theorem Block.hostPort_can (b : Block) : b.hostPort .can = b.host.can := rfl

theorem Block.repeatAnswer_can (b : Block) (message : List Byte) : b.repeatAnswer .can message = b.canRespond message := rfl

theorem Block.repeatAnswer_last (b : Block) (c : Carrier) (message : List Byte) :
    ((b.repeatAnswer c message).hostPort c).last = (b.hostPort c).last := by
  cases c with
  | spi => rfl
  | can => exact congrArg HostPort.last (b.canRespond_can message)

/-- The command executed last stays the one that a further repeat is held against. -/
theorem Block.acceptedAgain_last (b : Block) (c : Carrier) (message : List Byte) :
    (((b.acceptedAgain c).repeatAnswer c message).hostPort c).last = (b.hostPort c).last := by
  rw [Block.repeatAnswer_last, b.acceptedAgain_hostPort]

theorem Block.canReceived_hostPort (b : Block) (c : Carrier) : b.canReceived.hostPort c = b.hostPort c := by
  have host : b.canReceived.host = b.host := Block.judgeCan_host _
  cases c with
  | spi => exact congrArg HostSide.spi host
  | can => exact congrArg HostSide.can host

theorem Block.HostSideOnly.acceptedAgain (b : Block) (c : Carrier) : b.HostSideOnly (b.acceptedAgain c) :=
  (HostSideOnly.refl b).hostHeard.endSilent.setHostPort.count32

section
variable {b : Block} {header data : List Byte} (five : header.length = 5) (byte : data.length < 256)
include five byte

/-- A sound message on SPI is accepted, behind the bytes that the transaction itself shifts out (R361). -/
theorem spiCommand_accepts (opened : b.carrierOpen .spi = true) (command : field header 0 1 ≠ 0x3F) (m : List Host.Cell) :
    ∃ e, spiCommand (novezMessage header data) m b = (b.emit e).acceptHost m .spi header data := by
  have some_byte : (novezMessage header data).isEmpty = false := by
    rw [List.isEmpty_eq_false_iff, ← List.length_pos_iff, novezMessage_length five]
    split_ifs <;> omega
  have op : field (novezMessage header data) 0 1 = field header 0 1 := by
    have first : (novezMessage header data).take 1 = header.take 1 := by
      simp only [novezMessage_eq, headed, List.append_assoc]
      exact List.take_append_of_le_length (by omega)
    simp only [field, List.drop_zero, first]
  refine ⟨.spi (bytesOf 1 b.spiStatus ++ bytesOf ((novezMessage header data).length - 1) 0), ?_⟩
  simp only [spiCommand, opened, some_byte, op, command, checkMessage_novezMessage five byte, Bool.not_true, Bool.or_self,
    Bool.false_eq_true, if_false, if_true, Bool.and_self]

/-- A sound message on CAN FD of a length that fits is accepted (R369). -/
theorem canRequest_accepts (opened : b.carrierOpen .can = true) (fits : novezFits .can (headerOp header) data.length = true)
    (m : List Host.Cell) : canRequest (novezMessage header data) m b = b.canReceived.acceptHost m .can header data := by
  have hears : b.canHears = true := opened
  simp only [canRequest, hears, checkMessage_novezMessage five byte, fits, Bool.not_true, Bool.false_eq_true, if_false, if_true,
    Bool.and_self]

end

/-! #### CAN FD sends the answer (R366, R369, R370) -/

/-- The controller is on the bus and not SILENT. -/
def Block.canOnBus (b : Block) : Prop := b.get Ob.canStatusErrorState = canActive ∨ b.get Ob.canStatusErrorState = canPassive

theorem Block.judgeCan_onBus {b : Block} (h : b.canOnBus) : b.judgeCan.canOnBus := by
  unfold Block.judgeCan
  extract_lets state
  rw [if_pos (by simpa [state, Block.canOnBus] using h)]
  unfold Block.canOnBus
  rw [Block.get_put_self]
  split
  · exact .inr rfl
  · exact .inl rfl

theorem Block.canOnBus.of_get {a b : Block} (h : a.canOnBus) (e : b.get Ob.canStatusErrorState = a.get Ob.canStatusErrorState) :
    b.canOnBus := by
  unfold Block.canOnBus
  rwa [e]

/-- Whatever was SILENT takes part once a valid request has come (R370). -/
theorem Block.endSilent_onBus {b : Block} (h : b.canOnBus ∨ b.get Ob.canStatusErrorState = canSilent) : (b.endSilent .can).canOnBus := by
  simp only [Block.endSilent]
  split
  · exact Block.judgeCan_onBus (.inl (Block.get_put_self _ _ _))
  · next talks => exact (h.resolve_right talks).of_get rfl

theorem Block.canReceived_hears {b : Block} (h : b.canOnBus ∨ b.get Ob.canStatusErrorState = canSilent) :
    b.canReceived.canOnBus ∨ b.canReceived.get Ob.canStatusErrorState = canSilent := by
  have kept : ∀ v, (b.put Ob.canStatusRxErrors v).get Ob.canStatusErrorState = b.get Ob.canStatusErrorState :=
    fun v => b.get_put_other v (by decide)
  refine h.imp (fun talks => Block.judgeCan_onBus (talks.of_get (kept _))) fun silent => ?_
  unfold Block.canReceived Block.judgeCan
  extract_lets n state
  rw [if_neg (by simp [state, kept, silent]), kept, silent]

theorem Block.canHears_state {b : Block} (h : b.canHears = true) : b.canOnBus ∨ b.get Ob.canStatusErrorState = canSilent := by
  simp only [Block.canHears, Block.canSends, Bool.or_eq_true, Bool.and_eq_true, beq_iff_eq] at h
  obtain ⟨-, talks⟩ | ⟨-, silent⟩ := h
  · exact .inl talks
  · exact .inr silent

theorem Block.acceptedAgain_onBus {b : Block} (h : b.canOnBus ∨ b.get Ob.canStatusErrorState = canSilent) :
    (b.acceptedAgain .can).canOnBus :=
  (Block.endSilent_onBus (b := b.hostHeard) h).of_get (Block.get_put_other _ _ (by decide))

theorem Block.canFrame_out (b : Block) (k : Nat) (l : List Byte) :
    ∃ f, (b.canFrame k l).out = b.out ++ [.canFrame f] ∧ f.id = b.canId k ∧ f.bytes = canPadded l := by
  have judged (b : Block) : b.judgeCan.out = b.out := by
    unfold Block.judgeCan
    extract_lets
    split
    · rfl
    · rfl
  refine ⟨b.canShape k l (Config.freeNat b.free 200 % 128), ?_, rfl, rfl⟩
  unfold Block.canFrame
  extract_lets _ _ b1 b2
  have sent : b2.out = b.out ++ [.canFrame (b.canShape k l (Config.freeNat b.free 200 % 128))] := judged _
  split
  · exact sent
  · exact sent

/-- A response of a controller on the bus goes out on its identifier, padded (R368, R369). -/
theorem Block.canRespond_sends {b : Block} (h : b.canOnBus) (l : List Byte) :
    ∃ f, .canFrame f ∈ (b.canRespond l).out ∧ f.id = b.canId 1 ∧ f.bytes = canPadded l := by
  obtain ⟨f, sent, id, bytes⟩ := b.canAlarms.canFrame_out 1 l
  have settings := (Block.HostSideOnly.refl b).canAlarms.settings
  refine ⟨f, ?_, ?_, bytes⟩
  · rw [Block.canRespond, if_pos (by simpa [Block.canOnBus] using h), sent]
    exact List.mem_append_right _ (List.mem_singleton_self _)
  · rw [id, Block.canId, Block.canId, Block.canForce, Block.canForce, settings]

section
variable {s : State} {header data message : List Byte}

theorem spiCommand_repeats (opened : s.blk.carrierOpen .spi = true) (idle : s.blk.host.spi.executing = none) (five : header.length = 5)
    (command : field header 0 1 ≠ 0x3F) (byte : data.length < 256) (last : s.blk.host.spi.last = some (header ++ data, message)) :
    GivesBlock (.spiCommand (novezMessage header data)) s fun b =>
      b.host.spi.slot = some message ∧ b.host.spi.last = s.blk.host.spi.last ∧ b.link = s.blk.link ∧ b.flint = s.blk.flint ∧
      b.nvm = s.blk.nvm := by
  obtain ⟨e, accepted⟩ := spiCommand_accepts five byte opened command s.flash
  have kept : s.blk.HostSideOnly (((s.blk.emit e).acceptedAgain .spi).repeatAnswer .spi message) :=
    ((Block.HostSideOnly.refl s.blk).emit.trans (.acceptedAgain _ _)).setHostPort (c := .spi)
  refine ⟨_, rfl, ?_⟩
  rw [accepted, Block.acceptHost_repeats (b := s.blk.emit e) (c := .spi) s.flash idle last]
  exact ⟨rfl, (s.blk.emit e).acceptedAgain_last .spi message, kept.link, kept.flint, kept.nvm⟩

theorem canRequest_repeats (opened : s.blk.carrierOpen .can = true) (idle : s.blk.host.can.executing = none) (five : header.length = 5)
    (byte : data.length < 256) (fits : novezFits .can (headerOp header) data.length = true)
    (last : s.blk.host.can.last = some (header ++ data, message)) :
    GivesBlock (.canRequest (novezMessage header data)) s fun b =>
      (∃ f, .canFrame f ∈ b.out ∧ f.id = s.blk.canId 1 ∧ f.bytes = canPadded message) ∧
      b.host.can.last = s.blk.host.can.last ∧ b.link = s.blk.link ∧ b.flint = s.blk.flint ∧ b.nvm = s.blk.nvm := by
  have received := s.blk.canReceived_hostPort .can
  have counted : s.blk.HostSideOnly (s.blk.canReceived.acceptedAgain .can) :=
    (Block.HostSideOnly.refl s.blk).canReceived.trans (.acceptedAgain _ _)
  have kept := counted.canRespond (l := message)
  have talks : (s.blk.canReceived.acceptedAgain .can).canOnBus :=
    Block.acceptedAgain_onBus (Block.canReceived_hears (Block.canHears_state opened))
  obtain ⟨f, sent, id, bytes⟩ := Block.canRespond_sends talks message
  refine ⟨_, rfl, ?_⟩
  rw [canRequest_accepts five byte opened fits, Block.acceptHost_repeats (c := .can) s.flash (by rw [received]; exact idle)
    (by rw [received]; exact last), Block.repeatAnswer_can]
  refine ⟨⟨f, sent, ?_, bytes⟩, ?_, kept.link, kept.flint, kept.nvm⟩
  · rw [id, Block.canId, Block.canId, Block.canForce, Block.canForce, counted.settings]
  · have executed := s.blk.canReceived.acceptedAgain_last .can message
    rwa [received, Block.repeatAnswer_can, Block.hostPort_can, Block.hostPort_can] at executed

end

/-- Settles O34: whichever the command, its SEQ or its message finds the one executed last, and only the answer goes out again. -/
theorem repeatedSequence : Obligations.RepeatedSequence := by
  refine ⟨fun s seq payload c awake node positioned last row => ?_,
    fun _ _ _ _ opened idle five command byte last => spiCommand_repeats opened idle five command byte last,
    fun _ _ _ _ opened idle five byte fits last => canRequest_repeats opened idle five byte fits last⟩
  have repeats {op ix sub : Nat} {run : Block → Reply × Block} :
      s.blk.chainCommand seq op ix sub run = s.blk.commanded.queueResponse seq payload :=
    Block.chainCommand_repeats awake node positioned last
  obtain ⟨_, _, rfl⟩ | ⟨_, _, _, rfl⟩ | ⟨_, _, _, rfl⟩ | ⟨_, _, _, rfl⟩ | ⟨_, _, _, rfl⟩ | ⟨_, _, _, _, rfl⟩ | ⟨_, _, _, rfl⟩ | ⟨_, rfl⟩ := row
  · exact ⟨_, rfl, repeats⟩
  · exact ⟨_, rfl, repeats⟩
  · exact ⟨_, rfl, repeats⟩
  · exact ⟨_, rfl, repeats⟩
  · exact ⟨_, rfl, repeats⟩
  · exact ⟨_, rfl, repeats⟩
  · exact ⟨_, rfl, repeats⟩
  · exact ⟨_, rfl, repeats⟩

end Sys2Proof.Machine
end

section
/-! ### Segmented transfers of a host through the head's buffer (R48–R52, R357)

A command that a ready head accepts is carried out on the head as it has begun (`Ready.hostCommandAt`); what it then does to the buffer is
said per operation, and its answer leaves the buffer as it is. -/

namespace Sys2Proof.Machine

/-! #### Commands that go out over the chain (R319) -/

@[simp] theorem Block.occupyDu_link (b : Block) (ns : Nat) : (b.occupyDu ns).link = b.link := b.withPhys_link _
@[simp] theorem Block.occupyDu_host (b : Block) (ns : Nat) : (b.occupyDu ns).host = b.host := b.withPhys_host _

@[simp] theorem Block.sendOn_link (b : Block) (p : Port) (f : List Byte) : (b.sendOn p f).link = b.link := by
  simp only [Block.sendOn, apply_ite Block.link, Block.emit_link, Block.occupyDu_link, ite_self]

@[simp] theorem Block.sendOn_host (b : Block) (p : Port) (f : List Byte) : (b.sendOn p f).host = b.host := by
  simp only [Block.sendOn, apply_ite Block.host, Block.emit_host, Block.occupyDu_host, ite_self]

theorem Block.dispatchOne_host (b : Block) (i : Nat) : (b.dispatchOne i).host = b.host := by
  unfold Block.dispatchOne
  split
  · rfl
  · split
    · rfl
    · exact Block.sendOn_host _ _ _

theorem Block.dispatch_host (b : Block) : b.dispatch.host = b.host :=
  foldl_keeps (fun b : Block => b.host) Block.dispatchOne_host _ _

/-- A command that leaves keeps its position, payload and who waits for it. -/
theorem Block.dispatchOne_asks {b : Block} {p : Nat} {payload : List Byte} {w : Waiter} (h : Asks b p payload w) (i : Nat) :
    Asks (b.dispatchOne i) p payload w := by
  unfold Block.dispatchOne
  split
  · exact h
  · next c found =>
    split
    · exact h
    · obtain ⟨x, mem, position, carries, waits⟩ := h
      obtain ⟨j, there⟩ := List.mem_iff_getElem?.1 mem
      have link : ∀ (b : Block) q seq l, (b.sendCommand q seq l).link = b.link := fun b q seq l => b.sendOn_link _ _
      by_cases same : i = j
      · subst same
        obtain rfl : c = x := Option.some.inj (found.symm.trans there)
        refine ⟨{ c with seq := some ((b.link.commandSeq[c.position]?).getD 0), attempts := 1 }, ?_, position, carries, waits⟩
        rw [link]
        exact List.mem_set (List.getElem?_eq_some_iff.1 found).1 _
      · refine ⟨x, ?_, position, carries, waits⟩
        rw [link]
        exact List.mem_iff_getElem?.2 ⟨j, (List.getElem?_set_ne same).trans there⟩

theorem Block.dispatch_asks {b : Block} {p : Nat} {payload : List Byte} {w : Waiter} (h : Asks b p payload w) :
    Asks b.dispatch p payload w :=
  List.foldlRecOn (motive := fun x : Block => Asks x p payload w) _ _ h fun _ asks _ _ => Block.dispatchOne_asks asks _

theorem Block.askPosition_asks (b : Block) (p : Nat) (payload : List Byte) (w : Waiter) : Asks (b.askPosition p payload w) p payload w :=
  ⟨_, List.mem_append_right _ (List.mem_singleton_self _), rfl, rfl, rfl⟩

/-- The command in execution joins the commands to its position, and the host side waits (R319). -/
theorem Block.askFor_asks (b : Block) (c : Carrier) (p : Nat) (payload : List Byte) :
    Asks (b.askFor c p payload) p payload (.host c) ∧ (b.askFor c p payload).host = b.host :=
  ⟨Block.dispatch_asks (b.askPosition_asks p payload (.host c)), (Block.dispatch_host _).trans rfl⟩

/-! #### A host's command to any position that exists -/

/-- The operation in a header (R351). -/
theorem Block.headerOp_nextHeader (b : Block) (c : Carrier) {op p ix sub : Nat} (ho : op < 64) : headerOp (b.nextHeader c op p ix sub) = op := by
  simp only [Block.nextHeader, headerOp, field, natOf, bytesOf, List.cons_append, List.nil_append, List.drop_zero, List.take_succ_cons,
    List.take_zero, List.foldl_cons, List.foldl_nil, BitVec.toNat_ofNat]
  omega

/-- The position in a header (R351). -/
theorem Block.position_nextHeader (b : Block) (c : Carrier) {op p ix sub : Nat} (hp : p < 256) :
    field (b.nextHeader c op p ix sub) 1 1 = p := by
  simp only [Block.nextHeader, field, natOf, bytesOf, List.cons_append, List.nil_append, List.drop_succ_cons, List.drop_zero,
    List.take_succ_cons, List.take_zero, List.foldl_cons, List.foldl_nil, BitVec.toNat_ofNat]
  omega

/-- The object in a header (R351). -/
theorem Block.object_nextHeader (b : Block) (c : Carrier) {op p ix sub : Nat} (hi : ix < 65536) (hs : sub < 256) :
    field (b.nextHeader c op p ix sub) 2 2 = ix ∧ field (b.nextHeader c op p ix sub) 4 1 = sub := by
  simp only [Block.nextHeader, field, natOf, bytesOf, List.cons_append, List.nil_append, List.drop_succ_cons, List.drop_zero,
    List.take_succ_cons, List.take_zero, List.foldl_cons, List.foldl_nil, BitVec.toNat_ofNat]
  omega

section
variable {b : Block} {c : Carrier} (h : Ready b c)
include h

/-- A command to a position up to the committed top is carried out on the head as it has begun (R352, R356). -/
theorem Ready.hostCommandAt (m : List Host.Cell) {op p ix sub : Nat} {data : List Byte} (top : (p : Int) ≤ b.get Ob.censusResultTop)
    (ho : op ≤ 7) (listed : (novezLength c op).isSome) (fits : novezFits c op data.length = true) :
    Machine.hostCommand c op p ix sub data m b =
      let x := b.begun c (b.nextHeader c op p ix sub) data
      let object := field (b.nextHeader c op p ix sub) 2 2
      let entry := field (b.nextHeader c op p ix sub) 4 1
      if op = 0x01 then x.hostRead m c p object entry
      else if op = 0x02 then x.hostWrite m c p object entry data
      else if op = 0x03 then x.hostInitRead m c p object entry (field data 0 2)
      else if op = 0x04 then x.hostInitWrite c p object entry (field data 0 2)
      else if op = 0x05 then x.hostSegRead c (field data 0 1)
      else if op = 0x06 then x.hostSegWrite c (field data 0 1) (data.drop 1)
      else x.hostSegEnd m c (field data 0 2) := by
  have hop := b.headerOp_nextHeader c (op := op) (p := p) (ix := ix) (sub := sub) (by omega)
  have fresh := b.nextHeader_fresh c op p ix sub data (by omega)
  have arrives : Machine.hostCommand c op p ix sub data m b = b.acceptHost m c (b.nextHeader c op p ix sub) data := by
    rw [Machine.hostCommand, h.1]; rfl
  rw [arrives, h.acceptHost m fresh (by omega) (by rw [hop]; exact listed) (by rw [hop]; exact fits)]
  obtain ⟨-, -, -, -, most⟩ := h
  have known : (b.begun c (b.nextHeader c op p ix sub) data).positionKnown op p = true := by
    rw [Block.positionKnown, (Block.Serves.begun b c _ data).get Ob.censusResultTop (by decide) (by decide)]
    simp [top, most]
  have h12 : op ≠ 0x12 := by omega
  have h11 : op ≠ 0x11 := by omega
  simp only [Block.runHost, hop, b.position_nextHeader c (p := p) (by omega), known, h12, h11, if_false, Bool.not_true,
    Bool.false_eq_true]

end

/-! #### What the answer leaves as it is -/

theorem Block.answerHost_timedOut {b : Block} {c : Carrier} {x : Running} (h : (b.hostPort c).executing = some x) (r : Result) :
    ((b.answerHost c r).hostPort c).timedOut = (b.hostPort c).timedOut := by
  simp only [Block.answerHost, Block.answerWith, h]
  cases c with
  | spi => rfl
  | can => simp [Block.setHostPort, Block.hostPort]

theorem Block.begun_timedOut (b : Block) (c : Carrier) (header data : List Byte) :
    ((b.begun c header data).hostPort c).timedOut = (b.hostPort c).timedOut := by
  have discarded : ∀ x : Block, ((x.discardSlot c).hostPort c).timedOut = (x.hostPort c).timedOut := fun x => by
    unfold Block.discardSlot
    extract_lets p
    split
    · rw [Block.setHostPort_hostPort]
    · rfl
  simp [Block.begun, discarded]

@[simp] theorem Block.setBuffer_hostPort (b : Block) (c : Carrier) (t : Option HostTransfer) :
    (b.setBuffer c t).hostPort c = { b.hostPort c with transfer := t, timedOut := t.isNone && (b.hostPort c).timedOut } :=
  Block.setHostPort_hostPort _ _ _

@[simp] theorem Block.setJob_hostPort (b : Block) (c : Carrier) (j : HostJob) :
    (b.setJob c j).hostPort c = { b.hostPort c with executing := (b.hostPort c).executing.map fun r => { r with job := j } } :=
  Block.setHostPort_hostPort _ _ _

@[simp] theorem Block.armedLast_hostPort (b : Block) (on : Bool) (c : Carrier) : (b.armedLast on).hostPort c = b.hostPort c := by
  cases c <;> rfl

@[simp] theorem Block.refusedWrite_hostPort (b : Block) (ix : Nat) (c : Carrier) : (b.refusedWrite ix).hostPort c = b.hostPort c := by
  unfold Block.refusedWrite
  split
  · simp
  · simp

end Sys2Proof.Machine
end

section
/-! #### What the operations on the buffer do (R48–R52, R357) -/

namespace Sys2Proof.Machine

section
variable {b : Block} {c : Carrier} {r : Running} (running : (b.hostPort c).executing = some r)
include running

/-- A command that leaves a block with a buffer of its own is answered, and the buffer stands. -/
theorem Block.answered_with {y : Block} {t : Option HostTransfer} {o : Bool}
    (port : y.hostPort c = { b.hostPort c with transfer := t, timedOut := o }) (x : Result) :
    Answered (y.answerHost c x) c r.header r.data x ∧ ((y.answerHost c x).hostPort c).transfer = t ∧
      ((y.answerHost c x).hostPort c).timedOut = o := by
  have executing : (y.hostPort c).executing = some r := by rw [port]; exact running
  obtain ⟨answered, transfer⟩ := Block.answerHost_answered executing x
  refine ⟨answered, transfer.trans ?_, (Block.answerHost_timedOut executing x).trans ?_⟩
  · rw [port]
  · rw [port]

/-- SEG_INIT_WRITE of a length within the limits opens an empty buffer (R357). -/
theorem Block.hostInitWrite_opens {p ix sub l : Nat} (least : 0 < l) (most : l ≤ 4096) :
    Answered (b.hostInitWrite c p ix sub l) c r.header r.data (.done []) ∧
      ((b.hostInitWrite c p ix sub l).hostPort c).transfer = some ⟨p, ix, sub, true, [], l, 0, none, 0, 0⟩ := by
  simp only [Block.hostInitWrite, limitAbort_eq_none least most]
  obtain ⟨answered, transfer, -⟩ := Block.answered_with running (t := some ⟨p, ix, sub, true, [], l, 0, none, 0, 0⟩) (o := false)
    (y := Block.setBuffer (if p = 0 && ix ≠ 0x1F00 then (b.setHostPort c { b.hostPort c with transfer := none }).disarm
      else b.setHostPort c { b.hostPort c with transfer := none }) c (some ⟨p, ix, sub, true, [], l, 0, none, 0, 0⟩))
    (by split <;> simp) (.done [])
  exact ⟨answered, transfer⟩

/-- SEG_INIT_WRITE of no bytes is refused, and no buffer is open (R48, R357). -/
theorem Block.hostInitWrite_empty {p ix sub : Nat} :
    Answered (b.hostInitWrite c p ix sub 0) c r.header r.data (.abort 0x0606) ∧
      ((b.hostInitWrite c p ix sub 0).hostPort c).transfer = none := by
  have limit : limitAbort 0 = some 0x0606 := rfl
  simp only [Block.hostInitWrite, limit]
  obtain ⟨answered, transfer, -⟩ := Block.answered_with running (t := none) (o := (b.hostPort c).timedOut)
    (y := if p = 0 then Block.refusedWrite (if p = 0 && ix ≠ 0x1F00 then (b.setHostPort c { b.hostPort c with transfer := none }).disarm
      else b.setHostPort c { b.hostPort c with transfer := none }) ix
      else if p = 0 && ix ≠ 0x1F00 then (b.setHostPort c { b.hostPort c with transfer := none }).disarm
      else b.setHostPort c { b.hostPort c with transfer := none }) (by split_ifs <;> simp) (.abort 0x0606)
  exact ⟨answered, transfer⟩

/-- SEG_READ of the next segment takes it from the buffer (R52, R357). -/
theorem Block.hostSegRead_next {t : HostTransfer} (open' : (b.hostPort c).transfer = some t) (reading : t.writing = false)
    (fresh : ∀ y, t.last = some y → y.1 ≠ t.next) (more : t.delivered < t.data.length) :
    Answered (b.hostSegRead c t.next) c r.header r.data
        (.done (bytesOf 1 t.next ++ (t.data.drop t.delivered).take (hostSegment c))) ∧
      ((b.hostSegRead c t.next).hostPort c).transfer = some { t with
        next := (t.next + 1) % 256, last := some (t.next, (t.data.drop t.delivered).take (hostSegment c))
        delivered := t.delivered + min (hostSegment c) (t.data.length - t.delivered) } := by
  have first : (t.last.filter fun x => x.1 == t.next) = none := by
    rw [Option.filter_eq_none_iff]
    exact fun x hx => by simpa using fresh x hx
  have step : b.hostSegRead c t.next = (b.setBuffer c (some { t with
      next := (t.next + 1) % 256, last := some (t.next, (t.data.drop t.delivered).take (hostSegment c))
      delivered := t.delivered + min (hostSegment c) (t.data.length - t.delivered) })).answerHost c
        (.done (bytesOf 1 t.next ++ (t.data.drop t.delivered).take (hostSegment c))) := by
    simp [Block.hostSegRead, open', reading, first, Nat.not_le.2 more]
  rw [step]
  obtain ⟨answered, transfer, -⟩ := Block.answered_with running (Block.setBuffer_hostPort b c _) _
  exact ⟨answered, transfer⟩

/-- A segment or End without a buffer tells once of a close by time (R51). -/
theorem Block.noBuffer_answered :
    Answered (b.noBuffer c) c r.header r.data (.abort (if (b.hostPort c).timedOut then 0x060E else 0x060D)) ∧
      ((b.noBuffer c).hostPort c).timedOut = false := by
  obtain ⟨answered, -, timedOut⟩ := Block.answered_with running (t := (b.hostPort c).transfer) (o := false)
    (Block.setHostPort_hostPort b c { b.hostPort c with timedOut := false }) (.abort (if (b.hostPort c).timedOut then 0x060E else 0x060D))
  exact ⟨answered, timedOut⟩

/-- SEG_WRITE of the next segment joins the buffer (R49, R52, R357). -/
theorem Block.hostSegWrite_next {t : HostTransfer} {data : List Byte} (open' : (b.hostPort c).transfer = some t)
    (writing : t.writing = true) (fresh : ∀ y, t.last = some y → y.1 ≠ t.next) (room : t.data.length + data.length ≤ t.length) :
    Answered (b.hostSegWrite c t.next data) c r.header r.data (.done (bytesOf 1 t.next)) ∧
      ((b.hostSegWrite c t.next data).hostPort c).transfer =
        some { t with next := (t.next + 1) % 256, last := some (t.next, []), data := t.data ++ data } := by
  have first : (t.last.any fun x => x.1 == t.next) = false := by
    rw [Option.any_eq_false]
    exact fun x hx => by simpa using fresh x hx
  have step : b.hostSegWrite c t.next data = (b.setBuffer c (some { t with
      next := (t.next + 1) % 256, last := some (t.next, []), data := t.data ++ data })).answerHost c (.done (bytesOf 1 t.next)) := by
    simp [Block.hostSegWrite, open', writing, first, Nat.not_lt.2 room]
  rw [step]
  obtain ⟨answered, transfer, -⟩ := Block.answered_with running (Block.setBuffer_hostPort b c _) _
  exact ⟨answered, transfer⟩

/-- The End of a write of another length than the one asked for, or than came, closes the buffer (R49, R357). -/
theorem Block.hostSegEnd_mismatch {t : HostTransfer} {total : Nat} (m : List Host.Cell) (open' : (b.hostPort c).transfer = some t)
    (writing : t.writing = true) (wrong : total ≠ t.length ∨ t.data.length ≠ t.length) :
    Answered (b.hostSegEnd m c total) c r.header r.data (.abort 0x0606) ∧ ((b.hostSegEnd m c total).hostPort c).transfer = none := by
  have step : b.hostSegEnd m c total = b.closeBuffer c t 0x0606 := by
    simp [Block.hostSegEnd, open', writing, wrong]
  rw [step]
  obtain ⟨answered, transfer, -⟩ := Block.answered_with running (t := none) (o := (b.hostPort c).timedOut)
    (y := (if t.writing && t.position = 0 then b.refusedWrite t.ix else b).setBuffer c none) (by split <;> simp) (.abort 0x0606)
  exact ⟨answered, transfer⟩

/-- The End of a read from the head's own dictionary completes it there too (R49, R50, R357). -/
theorem Block.hostSegEnd_own {t : HostTransfer} {y : Transfer} (m : List Host.Cell) (open' : (b.hostPort c).transfer = some t)
    (reading : t.writing = false) (own : t.position = 0) (all : t.delivered = t.data.length) (access : b.access.transfer = some y)
    (mine : y.requester = c.requester) (reads : y.writing = false) (same : y.data.length = t.data.length)
    (whole : y.delivered = y.data.length) :
    Answered (b.hostSegEnd m c t.data.length) c r.header r.data (.done []) ∧
      ((b.hostSegEnd m c t.data.length).hostPort c).transfer = none ∧ (b.hostSegEnd m c t.data.length).access.transfer = none := by
  have held : (b.setBuffer c none).transferOf c.requester = some y := by
    have kept : (b.setBuffer c none).access = b.access := (Block.HostSideOnly.refl b).setHostPort.access
    simp [Block.transferOf, kept, access, mine]
  have step : b.hostSegEnd m c t.data.length =
      (((b.setBuffer c none).closeTransfer.moveCursor y.cursor).wasRead y.ix).answerHost c (.done []) := by
    simp only [Block.hostSegEnd, open', reading, own, all, Block.endOwn, Block.segmentEnd, held, reads, same, whole, if_true, if_false,
      Bool.false_eq_true, ne_eq, not_true_eq_false, decide_false, Bool.or_self]
    rfl
  have moved : ∀ (x : Block) n, (x.moveCursor n).hostPort c = x.hostPort c ∧ (x.moveCursor n).access = x.access := fun x n => by
    cases n with
    | none => exact ⟨rfl, rfl⟩
    | some n => exact ⟨by cases c <;> rfl, rfl⟩
  rw [step]
  obtain ⟨answered, transfer, -⟩ := Block.answered_with running (t := none) (o := (b.hostPort c).timedOut)
    (y := ((b.setBuffer c none).closeTransfer.moveCursor y.cursor).wasRead y.ix)
    (by rw [Block.wasRead_hostPort, (moved _ _).1, Block.closeTransfer, Block.withAccess_hostPort, Block.setBuffer_hostPort]; rfl)
    (.done [])
  refine ⟨answered, transfer, ?_⟩
  rw [((Block.HostSideOnly.refl _).answerHost).access, Block.wasRead_access, (moved _ _).2]
  rfl

end

/-! #### A read of the head's own dictionary into the buffer (R50, R52, R357) -/

/-- k segments of a snapshot have been taken. -/
def Block.Taken (b : Block) (q : Requester) (bytes : List Byte) (k : Nat) : Prop :=
  ∃ y, b.transferOf q = some y ∧ y.requester = q ∧ y.writing = false ∧ y.data = bytes ∧ y.next = k % 256 ∧
    y.delivered = min (segmentSize * k) bytes.length ∧ ∀ z, y.last = some z → z.1 ≠ k % 256

theorem Block.openTransfer_of (b : Block) (t : Transfer) : (b.openTransfer t).transferOf t.requester = some t := by
  simp [Block.openTransfer, Block.transferOf]

/-- The next segment of a snapshot is taken while some of it is left. -/
theorem Block.Taken.segmentRead {b : Block} {q : Requester} {bytes : List Byte} {k : Nat} (h : b.Taken q bytes k)
    (left : segmentSize * k < bytes.length) (c : Carrier) :
    (b.segmentRead q (k % 256)).2.Taken q bytes (k + 1) ∧ (b.segmentRead q (k % 256)).2.hostPort c = b.hostPort c := by
  obtain ⟨y, held, rfl, reading, data, next, delivered, fresh⟩ := h
  have at' : y.delivered = segmentSize * k := by omega
  have first : (y.last.filter fun x => x.1 == k % 256) = none := by
    rw [Option.filter_eq_none_iff]
    exact fun x hx => by simpa using fresh x hx
  have step : (b.segmentRead y.requester (k % 256)).2 = b.openTransfer { y with
      next := (k % 256 + 1) % 256, last := some (k % 256, (y.data.drop y.delivered).take segmentSize)
      delivered := y.delivered + ((y.data.drop y.delivered).take segmentSize).length } := by
    simp [Block.segmentRead, held, reading, first, next, at', data, Nat.not_le.2 left]
  rw [step]
  refine ⟨⟨_, Block.openTransfer_of b _, rfl, reading, data, Nat.mod_add_mod k 256 1, ?_, fun z hz => ?_⟩, Block.withAccess_hostPort b _ c⟩
  · simp only [List.length_take, List.length_drop, data, at', segmentSize] at left ⊢
    omega
  · obtain rfl := Option.some.inj hz
    dsimp only
    omega

/-- All segments of a snapshot are taken one after the other. -/
theorem Block.Taken.all {b : Block} {q : Requester} {bytes : List Byte} (h : b.Taken q bytes 0) (c : Carrier) {n : Nat}
    (most : n ≤ chainSegments bytes.length) :
    let x := (List.range n).foldl (fun (b : Block) (k : Nat) => (b.segmentRead q (k % 256)).2) b
    x.Taken q bytes n ∧ x.hostPort c = b.hostPort c := by
  induction n with
  | zero => exact ⟨h, rfl⟩
  | succ n ih =>
    obtain ⟨taken, port⟩ := ih (by omega)
    have left : segmentSize * n < bytes.length := by
      simp only [chainSegments, ceilDiv, segmentSize] at most ⊢
      omega
    simp only [List.range_succ, List.foldl_append, List.foldl_cons, List.foldl_nil]
    obtain ⟨next, port'⟩ := taken.segmentRead left c
    exact ⟨next, port'.trans port⟩

theorem Block.readFlash_host (b : Block) (base len record : Nat) : (b.readFlash base len record).host = b.host := by
  have corrected : (b.correctAgain base len).host = b.host := Block.countUp_host b _ _ _
  have noted : ∀ x : Block, (x.recordFault record).host = x.host := fun _ => rfl
  simp only [Block.readFlash, apply_ite Block.host, noted, corrected, ite_self]

theorem Block.readsFlash_host (b : Block) (ix sub : Nat) : (b.readsFlash ix sub).host = b.host := by
  unfold Block.readsFlash Block.readSummaries
  split_ifs
  · rfl
  · split
    · rfl
    · exact Block.readFlash_host _ _ _ _
  · split
    · rfl
    · exact Block.readFlash_host _ _ _ _

/-- A read of the head's own dictionary that is sound fills the buffer with the snapshot, and the host has its length (R48, R50, R357). -/
theorem Block.fetchOwn_fills {b : Block} {c : Carrier} {r : Running} (m : List Host.Cell) {t : HostTransfer} {bytes : List Byte}
    (running : (b.hostPort c).executing = some r)
    (h : (b.withAccess (b.access.restart c.requester)).readBytes m t.ix t.sub = .ok bytes) (stream : t.ix ≠ 0x7000)
    (fits : bytes.length ≤ t.length) (least : 0 < t.length) (most : t.length ≤ 4096)
    (free : (b.access.restart c.requester).transfer = none) :
    Answered (b.fetchOwn m c t) c r.header r.data (.done (bytesOf 2 bytes.length)) ∧
      ((b.fetchOwn m c t).hostPort c).transfer = some { t with data := bytes, length := bytes.length } := by
  have opened := Block.initRead_of_ok h stream fits least most free
  generalize started : ((b.withAccess (b.access.restart c.requester)).readsFlash t.ix t.sub).openTransfer
    ⟨c.requester, t.ix, t.sub, false, bytes, bytes.length, 0, none, 0, none⟩ = x at opened
  have port : x.hostPort c = b.hostPort c := by
    have host : x.host = b.host := by
      rw [← started]
      exact Block.readsFlash_host (b.withAccess (b.access.restart c.requester)) t.ix t.sub
    cases c with
    | spi => exact congrArg HostSide.spi host
    | can => exact congrArg HostSide.can host
  have begins : x.Taken c.requester bytes 0 := by
    rw [← started]
    exact ⟨_, Block.openTransfer_of _ ⟨c.requester, t.ix, t.sub, false, bytes, bytes.length, 0, none, 0, none⟩, rfl, rfl, rfl, rfl, by simp,
      fun _ none' => by cases none'⟩
  obtain ⟨⟨y, held, -, -, data, -⟩, port'⟩ := begins.all c le_rfl
  simp only [Block.fetchOwn, opened, held, data, Block.fetched]
  obtain ⟨answered, transfer, -⟩ := Block.answered_with running (y := Block.setBuffer _ c (some { t with data := bytes, length := bytes.length }))
    (by rw [Block.setBuffer_hostPort, port', port]) (.done (bytesOf 2 bytes.length))
  exact ⟨answered, transfer⟩

end Sys2Proof.Machine
end

section
namespace Sys2Proof.Machine

/-- The number of a segment stands in front of its bytes (R357). -/
theorem field_bytesOf_one {n : Nat} (h : n < 256) (l : List Byte) : field (bytesOf 1 n ++ l) 0 1 = n := by
  have start : field ([] ++ bytesOf 1 n ++ l) 0 1 = natOf (bytesOf 1 n) := field_middle rfl (bytesOf_length 1 n)
  rwa [List.nil_append, natOf_bytesOf_one h] at start

section
variable {s : State} {c : Carrier} (h : Ready s.blk c)
include h

theorem Ready.readsOwn {ix sub length : Nat} {bytes : List Byte} (hi : ix < 65536) (hs : sub < 256) (stream : ix ≠ 0x7000)
    (fits : bytes.length ≤ length) (least : 0 < length) (most : length ≤ 4096)
    (sound : let b := s.blk.begun c (s.blk.nextHeader c 3 0 ix sub) (bytesOf 2 length)
      let b := b.setHostPort c { b.hostPort c with transfer := none }
      let b := b.withAccess (b.access.restart c.requester)
      b.readBytes s.flash ix sub = .ok bytes ∧ b.access.transfer = none) :
    GivesBlock (.novezSegInitRead c 0 ix sub length) s fun b =>
      Answered b c (s.blk.nextHeader c 3 0 ix sub) (bytesOf 2 length) (.done (bytesOf 2 bytes.length)) ∧
      ∃ x, (b.hostPort c).transfer = some x ∧ x.data = bytes ∧ x.writing = false ∧ x.delivered = 0 ∧ x.next = 0 ∧ x.position = 0 := by
  obtain ⟨reads, free⟩ := sound
  have running := s.blk.begun_executing c (s.blk.nextHeader c 3 0 ix sub) (bytesOf 2 length)
  have carried := h.hostCommand s.flash (op := 3) (ix := ix) (sub := sub) (data := bytesOf 2 length) (by decide) hi hs rfl rfl
  simp only [OfNat.ofNat_ne_one, if_false, if_true, Nat.reduceEqDiff, field_bytesOf_two (show length < 65536 by omega),
    Block.hostInitRead] at carried
  refine ⟨_, rfl, ?_⟩
  rw [carried]
  obtain ⟨answered, transfer⟩ := Block.fetchOwn_fills s.flash (t := ⟨0, ix, sub, false, [], length, 0, none, 0, 0⟩)
    (r := ⟨s.blk.nextHeader c 3 0 ix sub, bytesOf 2 length, .single, false⟩)
    (by rw [Block.setHostPort_hostPort]; exact running) reads stream fits least most free
  exact ⟨answered, _, transfer, rfl, rfl, rfl, rfl, rfl⟩

section
variable {p ix sub : Nat} (top : (p : Int) ≤ s.blk.get Ob.censusResultTop)
include top

theorem Ready.readsPosition {length : Nat} (far : p ≠ 0) (hi : ix < 65536) (hs : sub < 256) (word : length < 65536) :
    GivesBlock (.novezSegInitRead c p ix sub length) s fun b => Asks b p (commandPayload 3 ix sub length 0 []) (.host c) := by
  obtain ⟨object, entry⟩ := s.blk.object_nextHeader c (op := 3) (p := p) hi hs
  have carried := h.hostCommandAt s.flash (op := 3) (ix := ix) (sub := sub) (data := bytesOf 2 length) top (by decide) rfl rfl
  simp only [OfNat.ofNat_ne_one, if_false, if_true, Nat.reduceEqDiff, object, entry, field_bytesOf_two word, Block.hostInitRead, far]
    at carried
  refine ⟨_, rfl, ?_⟩
  rw [carried]
  exact (Block.askFor_asks _ _ _ _).1

theorem Ready.opensWrite {length : Nat} (hi : ix < 65536) (hs : sub < 256) (word : length < 65536) :
    Machine.hostCommand c 4 p ix sub (bytesOf 2 length) s.flash s.blk =
      (s.blk.begun c (s.blk.nextHeader c 4 p ix sub) (bytesOf 2 length)).hostInitWrite c p ix sub length := by
  obtain ⟨object, entry⟩ := s.blk.object_nextHeader c (op := 4) (p := p) hi hs
  have carried := h.hostCommandAt s.flash (op := 4) (ix := ix) (sub := sub) (data := bytesOf 2 length) top (by decide) rfl rfl
  simpa only [OfNat.ofNat_ne_one, if_false, if_true, Nat.reduceEqDiff, object, entry, field_bytesOf_two word] using carried

theorem Ready.readsSegment {segment : Nat} (byte : segment < 256) :
    Machine.hostCommand c 5 p ix sub (bytesOf 1 segment) s.flash s.blk =
      (s.blk.begun c (s.blk.nextHeader c 5 p ix sub) (bytesOf 1 segment)).hostSegRead c segment := by
  have number : field (bytesOf 1 segment) 0 1 = segment := by simpa using field_bytesOf_one byte []
  have carried := h.hostCommandAt s.flash (op := 5) (ix := ix) (sub := sub) (data := bytesOf 1 segment) top (by decide) rfl rfl
  simpa only [OfNat.ofNat_ne_one, if_false, if_true, Nat.reduceEqDiff, number] using carried

theorem Ready.writesSegment {segment : Nat} {data : List Byte} (byte : segment < 256) (some_byte : data ≠ [])
    (fits : data.length ≤ hostSegment c) :
    Machine.hostCommand c 6 p ix sub (bytesOf 1 segment ++ data) s.flash s.blk =
      (s.blk.begun c (s.blk.nextHeader c 6 p ix sub) (bytesOf 1 segment ++ data)).hostSegWrite c segment data := by
  have long : novezFits c 6 (bytesOf 1 segment ++ data).length = true := by
    have := List.length_pos_iff.2 some_byte
    simp only [novezFits, novezLength, List.length_append, bytesOf_length, Nat.reduceEqDiff, decide_false, Bool.or_self,
      Bool.false_eq_true, if_false, if_true, Bool.and_eq_true, decide_eq_true_eq]
    omega
  have carried := h.hostCommandAt s.flash (op := 6) (ix := ix) (sub := sub) (data := bytesOf 1 segment ++ data) top (by decide) rfl long
  have rest : (bytesOf 1 segment ++ data).drop 1 = data := List.drop_left' (bytesOf_length 1 _)
  simpa only [OfNat.ofNat_ne_one, if_false, if_true, Nat.reduceEqDiff, field_bytesOf_one byte, rest] using carried

theorem Ready.endsTransfer {total : Nat} (word : total < 65536) :
    Machine.hostCommand c 7 p ix sub (bytesOf 2 total) s.flash s.blk =
      (s.blk.begun c (s.blk.nextHeader c 7 p ix sub) (bytesOf 2 total)).hostSegEnd s.flash c total := by
  have carried := h.hostCommandAt s.flash (op := 7) (ix := ix) (sub := sub) (data := bytesOf 2 total) top (by decide) rfl rfl
  simpa only [OfNat.ofNat_ne_one, if_false, Nat.reduceEqDiff, field_bytesOf_two word] using carried

end
end

/-- The End of a write to a position sends it on from the buffer, which is then free (R49, R357). -/
theorem Block.hostSegEnd_sends {b : Block} {c : Carrier} {t : HostTransfer} (m : List Host.Cell)
    (open' : (b.hostPort c).transfer = some t) (writing : t.writing = true) (far : t.position ≠ 0) (whole : t.data.length = t.length) :
    Asks (b.hostSegEnd m c t.length) t.position (commandPayload 4 t.ix t.sub t.length 0 []) (.host c) ∧
      ((b.hostSegEnd m c t.length).hostPort c).transfer = none := by
  have step : b.hostSegEnd m c t.length = ((b.setBuffer c none).setJob c (.put { t with chainSegment := 0 })).askFor c t.position
      (commandPayload 4 t.ix t.sub t.length 0 []) := by
    simp [Block.hostSegEnd, open', writing, whole, far]
  obtain ⟨asks, host⟩ := ((b.setBuffer c none).setJob c (.put { t with chainSegment := 0 })).askFor_asks c t.position
    (commandPayload 4 t.ix t.sub t.length 0 [])
  have port : ∀ x y : Block, x.host = y.host → x.hostPort c = y.hostPort c := fun x y e => by
    cases c with
    | spi => exact congrArg HostSide.spi e
    | can => exact congrArg HostSide.can e
  rw [step]
  refine ⟨asks, ?_⟩
  rw [port _ _ host, Block.setJob_hostPort, Block.setBuffer_hostPort]

/-- A head that waits for its host's next segment asks the position again for the last one (R357). -/
theorem segmentRepeatKeepalive_asks {b : Block} {c : Carrier} {t : HostTransfer} (awake : b.awake = true) (head : b.isHead = true)
    (open' : (b.hostPort c).transfer = some t) (reading : t.writing = false) (far : t.position ≠ 0) (begun : t.chainSegment ≠ 0) :
    Asks (segmentRepeatKeepalive c b) t.position (commandPayload 5 t.ix t.sub 0 ((t.chainSegment - 1) % 256) []) .keepalive ∧
      (segmentRepeatKeepalive c b).host = b.host := by
  have step : segmentRepeatKeepalive c b =
      (b.askPosition t.position (commandPayload 5 t.ix t.sub 0 ((t.chainSegment - 1) % 256) []) .keepalive).dispatch := by
    simp [segmentRepeatKeepalive, open', Option.filter_some, reading, far, begun, awake, head]
  rw [step]
  exact ⟨Block.dispatch_asks (b.askPosition_asks _ _ _), (Block.dispatch_host _).trans rfl⟩

/-- Settles O41: a command reaches its operation on the head as it has begun, whose buffer is the one the host had open. -/
theorem hostTransfers : Obligations.HostTransfers := by
  refine ⟨fun s c ix sub length bytes h hi hs stream fits least most sound => h.readsOwn hi hs stream fits least most sound,
    fun s c p ix sub length h far top hi hs word => h.readsPosition top far hi hs word,
    fun s c p ix sub length h top hi hs least most => ⟨_, rfl, ?_⟩,
    fun s c p ix sub h top hi hs => ⟨_, rfl, ?_⟩,
    fun s c p ix sub x h top open' reading byte fresh more => ⟨_, rfl, ?_⟩,
    fun s c p ix sub seg h top none' byte => ⟨_, rfl, ?_⟩,
    fun s c p ix sub data x h top open' writing byte fresh some_byte fits room => ⟨_, rfl, ?_⟩,
    fun s c p ix sub x y h top open' reading own all word access mine reads same whole => ⟨_, rfl, ?_⟩,
    fun s c p ix sub x h top open' writing far whole word => ⟨_, rfl, ?_⟩,
    fun s c p ix sub total x h top open' writing word wrong => ⟨_, rfl, ?_⟩,
    fun s c x awake head open' reading far begun => ⟨_, rfl, segmentRepeatKeepalive_asks awake head open' reading far begun⟩⟩
  · rw [h.opensWrite top hi hs (by omega)]
    exact (Block.hostInitWrite_opens (s.blk.begun_executing c _ _) least most).symm
  · rw [h.opensWrite top hi hs (by decide)]
    exact (Block.hostInitWrite_empty (s.blk.begun_executing c _ _)).symm
  · rw [h.readsSegment top byte]
    exact Block.hostSegRead_next (s.blk.begun_executing c _ _) ((s.blk.begun_transfer c _ _).trans open') reading fresh more
  · rw [h.readsSegment top byte]
    have closed := (s.blk.begun_transfer c (s.blk.nextHeader c 5 p ix sub) (bytesOf 1 seg)).trans none'
    have answered := Block.noBuffer_answered (s.blk.begun_executing c (s.blk.nextHeader c 5 p ix sub) (bytesOf 1 seg))
    rw [s.blk.begun_timedOut] at answered
    simpa only [Block.hostSegRead, closed] using answered
  · rw [h.writesSegment top byte some_byte fits]
    exact Block.hostSegWrite_next (s.blk.begun_executing c _ _) ((s.blk.begun_transfer c _ _).trans open') writing fresh room
  · rw [h.endsTransfer top word]
    exact Block.hostSegEnd_own (s.blk.begun_executing c _ _) s.flash ((s.blk.begun_transfer c _ _).trans open') reading own all
      ((congrArg Access.transfer (Block.HostSideOnly.begun s.blk c _ _).access).trans access) mine reads same whole
  · rw [h.endsTransfer top word]
    exact Block.hostSegEnd_sends s.flash ((s.blk.begun_transfer c _ _).trans open') writing far whole
  · rw [h.endsTransfer top word]
    exact Block.hostSegEnd_mismatch (s.blk.begun_executing c _ _) s.flash ((s.blk.begun_transfer c _ _).trans open') writing wrong

end Sys2Proof.Machine
end

section
/-! ### Frames at a node (R56, R298, R299, R305, R348) -/

namespace Sys2Proof.Machine

/-! #### Counters -/

theorem Block.nat_countUp_self (b : Block) (k n most : Nat) : (b.countUp k n most).nat k = min (b.nat k + n) most := by
  rw [Block.countUp, Block.nat_put, if_pos rfl]
  omega

theorem Block.get_countUp_other (b : Block) {j k : Nat} (n most : Nat) (h : j ≠ k) : (b.countUp k n most).get j = b.get j :=
  b.get_put_other _ h

theorem Block.nat_of_get {a b : Block} {k : Nat} (h : b.get k = a.get k) : b.nat k = a.nat k := congrArg Int.toNat h

theorem Block.get_of_dict {a b : Block} (h : b.dict = a.dict) (k : Nat) : b.get k = a.get k := by rw [Block.get, h, ← Block.get]

/-! #### A frame is counted (R299, R305) -/

/-- The block with a frame counted, and the code errors before and in it. -/
def Block.tallied (b : Block) (p : Port) (errors : Nat) (fault : Option FrameFault) : Block :=
  (b.countUp (codeErrorsKey p) errors (2 ^ 32 - 1)).countFrame p fault

/-- Where a frame is counted that is valid, or wrong in its format. -/
def frameKey : Option FrameFault → Nat
  | none => Ob.linkCountersFramesReceived
  | some _ => Ob.linkCountersFormatErrors

/-- The counters lie behind the objects that say what a node is and which of its ports run. -/
theorem state_not_counted (p : Port) (fault : Option FrameFault) {k : Nat}
    (h : k ≠ Ob.linkCountersFramesReceived ∧ k ≠ Ob.linkCountersFormatErrors ∧ k ≠ Ob.lineErrorsDlCodeErrors ∧
      k ≠ Ob.lineErrorsDuCodeErrors) : k ≠ codeErrorsKey p ∧ k ≠ frameKey fault := by
  obtain ⟨received, format, dl, du⟩ := h
  constructor
  · cases p
    · exact dl
    · exact du
  · cases fault
    · exact received
    · exact format

theorem frameKey_ne_line (fault : Option FrameFault) (p : Port) : frameKey fault ≠ codeErrorsKey p := by
  have counters : Ob.linkCountersFramesReceived ≠ codeErrorsKey p ∧ Ob.linkCountersFormatErrors ≠ codeErrorsKey p := by
    cases p <;> decide
  cases fault with
  | none => exact counters.1
  | some _ => exact counters.2

section
variable (b : Block) (p : Port) (errors : Nat) {fault : Option FrameFault} (kind : fault ≠ some .crc)
include kind

theorem Block.tallied_dict : (b.tallied p errors fault).dict =
    ((b.countUp (codeErrorsKey p) errors (2 ^ 32 - 1)).count32 (frameKey fault)).dict := by
  match fault with
  | none => exact Block.heard_dict _ _
  | some .format => rfl

theorem Block.tallied_get {k : Nat} (line : k ≠ codeErrorsKey p) (frame : k ≠ frameKey fault) :
    (b.tallied p errors fault).get k = b.get k := by
  rw [Block.get_of_dict (b.tallied_dict p errors kind), Block.count32, Block.get_countUp_other _ _ _ frame,
    Block.get_countUp_other _ _ _ line]

theorem Block.tallied_errors : (b.tallied p errors fault).nat (codeErrorsKey p) = min (b.nat (codeErrorsKey p) + errors) (2 ^ 32 - 1) := by
  rw [Block.nat_of_get (Block.get_of_dict (b.tallied_dict p errors kind) _), Block.count32,
    Block.nat_of_get (Block.get_countUp_other _ _ _ (frameKey_ne_line fault p).symm), Block.nat_countUp_self]

theorem Block.tallied_frames : (b.tallied p errors fault).nat (frameKey fault) = min (b.nat (frameKey fault) + 1) (2 ^ 32 - 1) := by
  rw [Block.nat_of_get (Block.get_of_dict (b.tallied_dict p errors kind) _), Block.count32, Block.nat_countUp_self,
    Block.nat_of_get (Block.get_countUp_other _ _ _ (frameKey_ne_line fault p))]

theorem Block.tallied_link : (b.tallied p errors fault).link = b.link := by
  match fault with
  | none => simp [Block.tallied, Block.countFrame]
  | some .format => simp [Block.tallied, Block.countFrame]

theorem Block.tallied_access : (b.tallied p errors fault).access = b.access := by
  match fault with
  | none => simp [Block.tallied, Block.countFrame]
  | some .format => simp [Block.tallied, Block.countFrame]

theorem Block.tallied_out : (b.tallied p errors fault).out = b.out := by
  match fault with
  | none => simp [Block.tallied, Block.countFrame]
  | some .format => simp [Block.tallied, Block.countFrame]

theorem Block.tallied_tb : (b.tallied p errors fault).tb = b.tb := by
  match fault with
  | none => simp [Block.tallied, Block.countFrame]
  | some .format => simp [Block.tallied, Block.countFrame]

theorem Block.tallied_isHead : (b.tallied p errors fault).isHead = b.isHead := by
  rw [Block.isHead, b.tallied_get p errors kind (state_not_counted p fault (by decide)).1 (state_not_counted p fault (by decide)).2,
    ← Block.isHead]

theorem Block.tallied_upperOn : (b.tallied p errors fault).upperOn p = b.upperOn p := by
  rw [Block.upperOn, b.tallied_isHead p errors kind, b.tallied_link p errors kind, ← Block.upperOn]

end

section
variable (b : Block) (p : Port) (errors : Nat)

theorem Block.tallied_power_of_fault : (b.tallied p errors (some .format)).power = b.power := by
  simp [Block.tallied, Block.countFrame]

/-- A valid frame restarts the comm-loss count of a node that hears it on its head side (R89). -/
theorem Block.tallied_heard (awake : b.awake = true) (node : b.isHead = false) (side : b.link.headSide = p) :
    (b.tallied p errors none).power = { b.power with commAt := b.now } := by
  have counted : ∀ x : Block, x.awake = true → x.isHead = false → x.link.headSide = p →
      (x.heard p).power = { x.power with commAt := x.now } := fun x awake node side => by
    simp [Block.heard, awake, node, side]
  have role : ((b.countUp (codeErrorsKey p) errors (2 ^ 32 - 1)).count32 Ob.linkCountersFramesReceived).isHead = false := by
    have line : Ob.role ≠ codeErrorsKey p := by cases p <;> decide
    rw [Block.isHead, Block.count32, Block.get_countUp_other _ _ _ (by decide), Block.get_countUp_other _ _ _ line, ← Block.isHead, node]
  rw [Block.tallied, Block.countFrame, counted _ (by simpa using awake) role (by simpa using side)]
  simp [Block.now]

theorem Block.tallied_awake {fault : Option FrameFault} (kind : fault ≠ some .crc) : (b.tallied p errors fault).awake = b.awake := by
  match fault with
  | some .format => rw [Block.awake, Block.tallied_power_of_fault, ← Block.awake]
  | none =>
    have counted : ∀ x : Block, (x.heard p).awake = x.awake := fun x => by
      unfold Block.heard
      split
      · rfl
      · rfl
    rw [Block.tallied, Block.countFrame, counted]
    simp

end

end Sys2Proof.Machine
end

section
namespace Sys2Proof.Machine

/-! #### A frame passes on (R297, R299), and a command of no operation is answered (R56) -/

/-- A frame received whole, or broken off, on a port that takes it is counted and goes on. -/
theorem frameReceive_counts {b : Block} {p : Port} {f : List Byte} (awake : b.awake = true) (up : b.portUp p = true)
    (takes : b.ringReturn p = false) (stray inside : Nat) {ending : FrameEnd} (frame : ending ≠ .noFrame) :
    frameReceive p stray inside ending f b =
      let fault := frameFault (b.upperOn p) (inside ≠ 0 || ending = .cut) f
      let b := b.tallied p (stray + inside) fault
      if b.isHead then b else if b.upperOn p && fault.isNone then (b.passOn p f).unknownOperation f else b.passOn p f := by
  have counted {k : Nat} (h : k ≠ Ob.lineErrorsDlCodeErrors ∧ k ≠ Ob.lineErrorsDuCodeErrors) :
      (b.countUp (codeErrorsKey p) (stray + inside) (2 ^ 32 - 1)).get k = b.get k :=
    Block.get_countUp_other _ _ _ (by cases p; exacts [h.1, h.2])
  have role : (b.countUp (codeErrorsKey p) (stray + inside) (2 ^ 32 - 1)).isHead = b.isHead := by
    rw [Block.isHead, counted (by decide), ← Block.isHead]
  have up' : (b.countUp (codeErrorsKey p) (stray + inside) (2 ^ 32 - 1)).portUp p = true := by
    cases p
    · rw [Block.portUp, counted (by decide)]; exact up
    · rw [Block.portUp, counted (by decide)]; exact up
  have takes' : (b.countUp (codeErrorsKey p) (stray + inside) (2 ^ 32 - 1)).ringReturn p = false := by
    rw [Block.ringReturn, role, Block.splitOn, Block.countUp_link, ← Block.splitOn, ← Block.ringReturn, takes]
  have upper : (b.countUp (codeErrorsKey p) (stray + inside) (2 ^ 32 - 1)).upperOn p = b.upperOn p := by
    rw [Block.upperOn, role, Block.countUp_link, ← Block.upperOn]
  simp only [frameReceive, awake, up, up', takes', upper, frame, Bool.not_true, Bool.true_or, Bool.or_self, Bool.false_and,
    Bool.false_eq_true, decide_false, if_false, Block.tallied]
  rfl

/-- An upper frame but CENSUS is repeated on the far side while its transmitter runs (R297). -/
theorem Block.passOn_upper {b : Block} {p : Port} {f : List Byte} (upper : b.upperOn p = true) (carries : hdrType (headerIn f) ≠ 5) :
    b.passOn p f = if b.transmits p.other then b.emit (.frame p.other f) else b := by
  simp only [Block.passOn, upper, carries, if_true, decide_false, Bool.false_or]
  cases b.transmits p.other <;> rfl

/-- What answering a command leaves: the dictionary, what went out, and a comm-loss count that starts now. -/
theorem Block.chainCommand_refused_leaves {b : Block} (awake : b.awake = true) (seq op ix sub : Nat) (r : Block → Reply) :
    let x := b.chainCommand seq op ix sub fun b => (r b, b)
    x.dict = b.dict ∧ x.out = b.out ∧ (b.power.commAt = b.now → x.power.commAt = b.now) := by
  have heard : b.power.commAt = b.now → (b.heard b.link.headSide).power.commAt = b.now := fun now => by
    unfold Block.heard
    split
    · rfl
    · exact now
  have awake' : ∀ l, ((b.heard b.link.headSide).withAccess l).awake = true := fun l => by
    rw [Block.withAccess_awake]
    exact b.commanded_awake.trans awake
  dsimp only [Block.chainCommand]
  split_ifs
  · exact ⟨rfl, rfl, id⟩
  · split
    · exact ⟨b.heard_dict _, b.heard_out _, heard⟩
    · rw [Block.sendResponse, if_pos (awake' _)]
      exact ⟨b.heard_dict _, b.heard_out _, heard⟩

theorem Block.unknownOperation_leaves {b : Block} (awake : b.awake = true) (f : List Byte) :
    (b.unknownOperation f).dict = b.dict ∧ (b.unknownOperation f).out = b.out ∧
      (b.power.commAt = b.now → (b.unknownOperation f).power.commAt = b.now) := by
  unfold Block.unknownOperation
  extract_lets h l op
  split
  · exact ⟨rfl, rfl, id⟩
  · exact Block.chainCommand_refused_leaves awake _ _ _ _ _

section
variable {s : State} {p : Port} {f : List Byte}

theorem frameReceive_upper {stray : Nat} (awake : s.blk.awake = true) (node : s.blk.isHead = false) (up : s.blk.portUp p = true)
    (side : s.blk.link.headSide = p) (far : s.blk.transmits p.other = true) (valid : frameFault true false f = none)
    (carries : hdrType (headerIn f) ≠ 5) :
    GivesBlock (.frameReceive p (stray, 0) (.whole, f)) s fun b =>
      b.nat Ob.linkCountersFramesReceived = min (s.blk.nat Ob.linkCountersFramesReceived + 1) (2 ^ 32 - 1) ∧
      b.nat (codeErrorsKey p) = min (s.blk.nat (codeErrorsKey p) + stray) (2 ^ 32 - 1) ∧
      b.out = s.blk.out ++ [.frame p.other f] ∧ b.power.commAt = s.blk.now := by
  have upper : s.blk.upperOn p = true := by simp [Block.upperOn, node, side]
  have kind : (none : Option FrameFault) ≠ some .crc := nofun
  have node' := (s.blk.tallied_isHead p stray kind).trans node
  have upper' := (s.blk.tallied_upperOn p stray kind).trans upper
  have far' : (s.blk.tallied p stray none).transmits p.other = true := by
    have kept : ∀ {k : Nat}, _ → (s.blk.tallied p stray none).get k = s.blk.get k := fun {k} h =>
      s.blk.tallied_get p stray kind (state_not_counted p none h).1 (state_not_counted p none h).2
    cases p
    · rw [Port.other, Block.transmits, Block.duTransmits, kept (by decide)]; exact far
    · rw [Port.other, Block.transmits, Block.dlTransmits, kept (by decide)]; exact far
  have step : frameReceive p stray 0 .whole f s.blk =
      ((s.blk.tallied p stray none).emit (.frame p.other f)).unknownOperation f := by
    rw [frameReceive_counts awake up (by simp [Block.ringReturn, node]) stray 0 (by decide)]
    simp only [upper, ne_eq, not_true_eq_false, decide_false, Bool.false_or, reduceCtorEq, valid, Nat.add_zero, node', upper',
      Option.isNone_none, Bool.and_self, Bool.false_eq_true, if_false, if_true, Block.passOn_upper upper' carries, far']
  have now : ((s.blk.tallied p stray none).emit (.frame p.other f)).now = s.blk.now := by
    rw [Block.emit_now, Block.now, s.blk.tallied_tb p stray kind, ← Block.now]
  obtain ⟨dict, out, comm⟩ := Block.unknownOperation_leaves (b := (s.blk.tallied p stray none).emit (.frame p.other f))
    ((s.blk.tallied_awake p stray kind).trans awake) f
  refine ⟨_, rfl, ?_⟩
  rw [step]
  refine ⟨?_, ?_, ?_, ?_⟩
  · rw [Block.nat_of_get (Block.get_of_dict dict _)]
    exact s.blk.tallied_frames p stray kind
  · rw [Block.nat_of_get (Block.get_of_dict dict _)]
    exact s.blk.tallied_errors p stray kind
  · rw [out, Block.emit_out, s.blk.tallied_out p stray kind]
  · refine (comm ?_).trans now
    rw [now]
    exact congrArg Power.commAt (s.blk.tallied_heard p stray awake node side)

/-- A command whose operation no carrier defines is refused by its destination (R56, R317). -/
theorem frameReceive_unknown {stray : Nat} (h : Listens s.blk (hdrSeq (headerIn f))) (up : s.blk.portUp p = true)
    (side : s.blk.link.headSide = p) (valid : frameFault true false f = none) (command : hdrType (headerIn f) = 2)
    (own : hdrPos (headerIn f) = s.blk.nat Ob.position) (unknown : field (payloadIn f) 0 1 = 0 ∨ 8 < field (payloadIn f) 0 1) :
    GivesBlock (.frameReceive p (stray, 0) (.whole, f)) s fun b =>
      Responds s.blk b (hdrSeq (headerIn f)) (responsePayload (field (payloadIn f) 0 1) (field (payloadIn f) 2 2) (field (payloadIn f) 1 1)
        (.refuse 0x060F (field (payloadIn f) 4 2) (field (payloadIn f) 6 1))) := by
  obtain ⟨awake, node, positioned, fresh⟩ := h
  have upper : s.blk.upperOn p = true := by simp [Block.upperOn, node, side]
  have kind : (none : Option FrameFault) ≠ some .crc := nofun
  have node' := (s.blk.tallied_isHead p stray kind).trans node
  have upper' := (s.blk.tallied_upperOn p stray kind).trans upper
  have carries : hdrType (headerIn f) ≠ 5 := by omega
  have position : (s.blk.tallied p stray none).get Ob.position = s.blk.get Ob.position :=
    have apart := state_not_counted p none (k := Ob.position) (by decide)
    s.blk.tallied_get p stray kind apart.1 apart.2
  have listens : ∀ x : Block, (x = s.blk.tallied p stray none ∨ x = (s.blk.tallied p stray none).emit (.frame p.other f)) →
      Listens x (hdrSeq (headerIn f)) ∧ x.link.own = s.blk.link.own ∧ x.nat Ob.position = s.blk.nat Ob.position := by
    have here : Listens (s.blk.tallied p stray none) (hdrSeq (headerIn f)) :=
      ⟨(s.blk.tallied_awake p stray kind).trans awake, node', by rw [Block.positioned, position]; exact positioned, by
        rw [s.blk.tallied_access p stray kind]; exact fresh⟩
    have link := congrArg Link.own (s.blk.tallied_link p stray kind)
    rintro x (rfl | rfl)
    · exact ⟨here, link, Block.nat_of_get position⟩
    · exact ⟨here, link, Block.nat_of_get position⟩
  have step : frameReceive p stray 0 .whole f s.blk = ((s.blk.tallied p stray none).passOn p f).unknownOperation f := by
    rw [frameReceive_counts awake up (by simp [Block.ringReturn, node]) stray 0 (by decide)]
    simp only [upper, ne_eq, not_true_eq_false, decide_false, Bool.false_or, reduceCtorEq, valid, Nat.add_zero, node', upper',
      Option.isNone_none, Bool.and_self, Bool.false_eq_true, if_false, if_true]
  obtain ⟨hears, own', pos⟩ := listens ((s.blk.tallied p stray none).passOn p f) (by
    rw [Block.passOn_upper upper' carries]
    split
    · exact .inr rfl
    · exact .inl rfl)
  refine ⟨_, rfl, ?_⟩
  rw [step, Block.unknownOperation]
  simp only [command, own, pos, ne_eq, not_true_eq_false, decide_false, Bool.false_or, Bool.and_eq_true, decide_eq_true_eq]
  rw [if_neg (by omega)]
  have answered := (hears.chainCommand_responds (op := field (payloadIn f) 0 1) (ix := field (payloadIn f) 2 2)
    (sub := field (payloadIn f) 1 1) (run := fun b => (.refuse 0x060F (field (payloadIn f) 4 2) (field (payloadIn f) 6 1), b)) rfl
    (Block.commanded_awake _) (congrArg Link.own (Block.commanded_link _))).1
  unfold Responds at answered ⊢
  rwa [own'] at answered

end

end Sys2Proof.Machine
end

section
namespace Sys2Proof.Machine

/-! #### Lower frames (R299) and the transmitter (R298) -/

/-- Forwarding touches one counter alone, and no power state. -/
theorem frameForward_leaves (b : Block) (f : List Byte) :
    (frameForward f b).power = b.power ∧ ∀ k, k ≠ Ob.linkCountersQueueDrops → (frameForward f b).get k = b.get k := by
  have sent : ∀ p, ((b.setSending p (some f)).emit (.frame p f)).power = b.power ∧
      ∀ k, ((b.setSending p (some f)).emit (.frame p f)).get k = b.get k := fun p => by
    cases p
    · exact ⟨rfl, fun _ => rfl⟩
    · exact ⟨rfl, fun _ => rfl⟩
  unfold frameForward
  extract_lets p
  split_ifs
  · exact ⟨rfl, fun _ _ => rfl⟩
  · exact ⟨(sent p).1, fun k _ => (sent p).2 k⟩
  · exact ⟨rfl, fun _ _ => rfl⟩
  · exact ⟨b.count32_power _, fun k other => Block.get_countUp_other _ _ _ other⟩

theorem Block.passOn_leaves (b : Block) (p : Port) (f : List Byte) :
    (b.passOn p f).power = b.power ∧ ∀ k, k ≠ Ob.linkCountersQueueDrops → (b.passOn p f).get k = b.get k := by
  unfold Block.passOn
  extract_lets t
  split_ifs
  · exact ⟨rfl, fun _ _ => rfl⟩
  · exact ⟨rfl, fun _ _ => rfl⟩
  · exact ⟨rfl, fun _ _ => rfl⟩
  · exact frameForward_leaves b f

/-- A frame broken off counts as a format failure, wherever what came of it goes (R305). -/
theorem frameReceive_cut {b : Block} {p : Port} (f : List Byte) (stray inside : Nat) (awake : b.awake = true) (up : b.portUp p = true)
    (takes : b.isHead = true → p = .du ∨ b.splitOn = true) :
    let x := frameReceive p stray inside .cut f b
    x.nat Ob.linkCountersFormatErrors = min (b.nat Ob.linkCountersFormatErrors + 1) (2 ^ 32 - 1) ∧
      x.nat (codeErrorsKey p) = min (b.nat (codeErrorsKey p) + (stray + inside)) (2 ^ 32 - 1) ∧ x.power = b.power := by
  have takes' : b.ringReturn p = false := by
    cases head : b.isHead with
    | false => simp [Block.ringReturn, head]
    | true => obtain rfl | split := takes head <;> simp_all [Block.ringReturn]
  have kind : some FrameFault.format ≠ some .crc := nofun
  have format : frameFault (b.upperOn p) true f = some .format := rfl
  have line : codeErrorsKey p ≠ Ob.linkCountersQueueDrops := by cases p <;> decide
  have step : ∃ y, frameReceive p stray inside .cut f b = y ∧ y.power = (b.tallied p (stray + inside) (some .format)).power ∧
      ∀ k, k ≠ Ob.linkCountersQueueDrops → y.get k = (b.tallied p (stray + inside) (some .format)).get k := by
    refine ⟨_, frameReceive_counts awake up takes' stray inside (by decide), ?_⟩
    simp only [decide_true, Bool.or_true, format, Option.isNone_some, Bool.and_false, Bool.false_eq_true, if_false]
    split
    · exact ⟨rfl, fun _ _ => rfl⟩
    · exact Block.passOn_leaves _ p f
  obtain ⟨y, step, power, get⟩ := step
  simp only [step]
  refine ⟨?_, ?_, power.trans (b.tallied_power_of_fault p _)⟩
  · rw [Block.nat_of_get (get _ (by decide))]
    exact b.tallied_frames p _ kind
  · rw [Block.nat_of_get (get _ line)]
    exact b.tallied_errors p _ kind

@[simp] theorem Block.sending_setSending (b : Block) (p : Port) (f : Option (List Byte)) : (b.setSending p f).sending p = f := by
  cases p <;> rfl

section
variable {b : Block} {f : List Byte} (awake : b.awake = true) (node : b.isHead = false) (runs : b.transmits b.link.headSide = true)
include awake node runs

theorem frameForward_at_once (idle : b.idleSide = true) :
    frameForward f b = (b.setSending b.link.headSide (some f)).emit (.frame b.link.headSide f) := by
  simp [frameForward, awake, node, runs, idle]

theorem frameForward_queued (busy : b.idleSide = false) (room : b.link.queue.length < queueDepth) :
    frameForward f b = b.withLink { b.link with queue := b.link.queue ++ [f] } := by
  simp only [frameForward, awake, node, runs, busy, room, Bool.not_true, Bool.or_self, Bool.false_eq_true, if_false, if_true]

theorem frameForward_dropped (busy : b.idleSide = false) (full : queueDepth ≤ b.link.queue.length) :
    frameForward f b = b.count32 Ob.linkCountersQueueDrops := by
  simp only [frameForward, awake, node, runs, busy, Nat.not_lt.2 full, Bool.not_true, Bool.or_self, Bool.false_eq_true, if_false]

end

/-- The transmitter with what it sent last behind it. -/
def Block.freed (b : Block) : Block := (b.withPhys { b.phys with alarmBusy := false }).setSending b.link.headSide none

/-- An echo or reply that waits goes out before all else but an ALARM and tones (R298). -/
theorem frameTransmit_census {b : Block} {f : List Byte} {rest : List (List Byte)} (t : Nat) (awake : b.awake = true)
    (node : b.isHead = false) (runs : b.transmits b.link.headSide = true) (alarm : b.phys.alarmWaiting = false)
    (toneDl : b.phys.toneWaitingDl = false) (toneDu : b.phys.toneWaitingDu = false) (waits : b.link.census = f :: rest) :
    frameTransmit t b = (((b.at t).freed.withLink { b.link with census := rest }).setSending b.link.headSide (some f)).emit
      (.frame b.link.headSide f) := by
  have freed : (b.at t).freed.phys.alarmWaiting = false ∧ (b.at t).freed.waitingTone b.link.headSide = none ∧
      (b.at t).freed.isHead = b.isHead ∧ (b.at t).freed.transmits b.link.headSide = true ∧ (b.at t).freed.link = b.link := by
    unfold Block.freed
    cases side : b.link.headSide <;>
      exact ⟨by simp [side, Block.setSending, alarm], by simp [side, Block.setSending, Block.waitingTone, toneDl, toneDu],
        by simp [side, Block.setSending], by rw [← runs, side]; simp only [Block.at_link, side]; rfl, by simp [side, Block.setSending]⟩
  obtain ⟨alarm', tone, node', runs', link⟩ := freed
  have next : (b.at t).freed.nextFrame = (some f, (b.at t).freed.withLink { b.link with census := rest }) := by
    simp only [Block.nextFrame, link, waits]
  have on : (!(b.at t).awake) = false := by rw [Block.at_awake, awake]; rfl
  unfold frameTransmit
  extract_lets x p src y src' r
  rw [if_neg (by rw [on]; decide)]
  have free : y = (b.at t).freed := rfl
  have sent : r = (some f, (b.at t).freed.withLink { b.link with census := rest }) := next
  have side : p = b.link.headSide := rfl
  simp only [sent, free, side, alarm', tone, node', node, runs', Bool.not_true, Bool.or_self, Bool.false_eq_true, if_false]
  rfl

/-! #### The CRC failures of a second (R348) -/

section
variable {b : Block} (awake : b.awake = true)
include awake

theorem linkCrcRate_few (dl : (b.link.dlSecond : Int) ≤ b.get Ob.crcRateLimit) (du : (b.link.duSecond : Int) ≤ b.get Ob.crcRateLimit) :
    linkCrcRate b = (b.withLink { b.link with
      dlSecond := 0, duSecond := 0
      pebbles := b.link.pebbles.map fun (h : PebbleHeld) => { h with age := min (h.age + 1) 255 } }).clearLive 0x60 := by
  simp [linkCrcRate, awake, dl, du, Int.not_lt.2 dl, Int.not_lt.2 du]

theorem linkCrcRate_manyDl (dl : b.get Ob.crcRateLimit < (b.link.dlSecond : Int)) (du : (b.link.duSecond : Int) ≤ b.get Ob.crcRateLimit) :
    linkCrcRate b = (b.withLink { b.link with
      dlSecond := 0, duSecond := 0
      pebbles := b.link.pebbles.map fun (h : PebbleHeld) => { h with age := min (h.age + 1) 255 } }).raise 0x60
        (65536 * min b.link.dlSecond 65535) := by
  simp [linkCrcRate, awake, dl, Int.not_le.2 dl, Int.not_lt.2 du]

end

/-- Settles O30: a frame received is counted, then passed on by its direction; the transmitter and the second have one case each. -/
theorem nodeFrames : Obligations.NodeFrames := by
  refine ⟨fun s p stray f awake node up side far valid carries => frameReceive_upper awake node up side far valid carries,
    fun s p stray f h up side valid command own unknown => frameReceive_unknown h up side valid command own unknown,
    fun s p stray inside f awake up takes => ⟨_, rfl, frameReceive_cut f stray inside awake up takes⟩,
    fun s f awake node runs idle => ⟨_, rfl, ?_⟩,
    fun s f awake node runs busy room => ⟨_, rfl, frameForward_queued awake node runs busy room⟩,
    fun s f awake node runs busy full => ⟨_, rfl, frameForward_dropped awake node runs busy full⟩,
    fun s t f rest awake node runs alarm toneDl toneDu waits => ⟨_, rfl, ?_⟩,
    fun s awake dl du => ⟨_, rfl, ?_⟩,
    fun s awake dl du => ⟨_, rfl, ?_⟩⟩
  · rw [frameForward_at_once awake node runs idle]
    cases s.blk.link.headSide
    · exact ⟨rfl, rfl, rfl⟩
    · exact ⟨rfl, rfl, rfl⟩
  · rw [frameTransmit_census t awake node runs alarm toneDl toneDu waits]
    have side : ∀ p, s.blk.link.headSide = p →
        let b := ((((s.blk.at t).freed.withLink { s.blk.link with census := rest }).setSending p (some f)).emit (.frame p f))
        b.out = s.blk.out ++ [.frame p f] ∧ b.link.census = rest ∧ b.sending p = some f ∧ b.phys.alarmBusy = false := fun p side => by
      unfold Block.freed
      rw [Block.at_link, side]
      cases p
      · exact ⟨rfl, rfl, rfl, rfl⟩
      · exact ⟨rfl, rfl, rfl, rfl⟩
    exact side _ rfl
  · rw [linkCrcRate_few awake dl du]
    exact ⟨Block.live_clearLive _ (by decide), by rw [Block.clearLive_link]; rfl, by rw [Block.clearLive_link]; rfl⟩
  · rw [linkCrcRate_manyDl awake dl du]
    rfl

end Sys2Proof.Machine
end

section
/-! ### An engine stopped while E6 stops (R237, R258, R402) -/

namespace Sys2Proof.Machine

/-- One cell's temperature estimate as E6 stops: unless none is kept, it becomes STALE (R258). -/
def Block.staleTemp (b : Block) (i : Nat) : Block := if b.get (chKey Ob.tempEstimateStatus i) = 0 then b else b.putTemp i 5 none

/-- After the last cell's turn its status holds no estimate or STALE. -/
theorem Block.get_staleTemps_last (b : Block) (n : Nat) :
    let x := (List.range (n + 1)).foldl Block.staleTemp b
    x.get (chKey Ob.tempEstimateStatus n) = 0 ∨ x.get (chKey Ob.tempEstimateStatus n) = 5 := by
  rw [List.range_succ, List.foldl_append, List.foldl_cons, List.foldl_nil]
  generalize (List.range n).foldl Block.staleTemp b = x
  by_cases none_kept : x.get (chKey Ob.tempEstimateStatus n) = 0
  · rw [Block.staleTemp, if_pos none_kept]
    exact .inl none_kept
  · rw [Block.staleTemp, if_neg none_kept]
    exact .inr (x.get_put_self _ _)

/-- The number of cells with which the last one's TempEstimateStatus lies on the entry of ServiceRequest Reason. -/
def cellsToReason : Nat := Ob.serviceRequestReason - Ob.tempEstimateStatus

/-- A node in Standby on which E6 works and has expired once, with a CellCount that reaches ServiceRequest. -/
def overlongNode : State :=
  let b := (Block.fresh Fuses.model .standby).put Ob.cellCount cellsToReason
  ⟨[], (b.withImp { b.imp with working := true }).withDiag { b.diag with expired := b.diag.expired.set 6 (some 0) }, []⟩

/-- What a command on the block gives holds of the block it makes. -/
theorem GivesBlock.of_onBlock {c : Instr} {s : State} {f : Block → Block} {P : Block → Prop} (h : GivesBlock c s P)
    (run : exec c s = onBlock f s) : P (f s.blk) := by
  obtain ⟨b, e, hP⟩ := h
  obtain rfl : f s.blk = b := congrArg State.blk (Host.Outcome.next.inj (run.symm.trans e))
  exact hP

/-- A block whose engine k, none of the lanes' and not E7, has stayed stopped, before E6's work follows (R402). -/
def Block.stoppedAgain (b : Block) (k t : Nat) : Block :=
  let b := b.at t
  ((b.withDiag { b.diag with
    halted := b.diag.halted ++ [k], expired := b.diag.expired.set k (some b.now), stopped := b.diag.stopped ++ [k] }).reason
      .engineStopped true).raise 0xA3 (k + 512)

/-- A second expiry within 60 s leaves the engine stopped (R402). -/
theorem engineWatchdogExpiry_again {b : Block} {k t last : Nat} (awake : b.awake = true) (runs : b.engineRuns k = true)
    (expired : b.diag.expired[k]? = some (some last)) (soon : chainDiff (t % t48) last ≤ 60000000) (lanes : 4 < k) (other : k ≠ 7) :
    engineWatchdogExpiry k t b = (b.stoppedAgain k t).followE6 := by
  simp [engineWatchdogExpiry, Block.stoppedAgain, awake, runs, expired, soon, Nat.not_le.2 lanes, other, boolNat]

/-- E6 follows by making every cell's estimate STALE (R237, R258). -/
theorem overlongNode_expires : ∃ x : Block,
    engineWatchdogExpiry 6 0 overlongNode.blk = (List.range cellsToReason).foldl Block.staleTemp x := by
  rw [engineWatchdogExpiry_again (last := 0) (by decide) (by decide) (by decide) (by decide) (by decide) (by decide)]
  have works : (overlongNode.blk.stoppedAgain 6 0).e6Works = false := by decide
  have working : (overlongNode.blk.stoppedAgain 6 0).imp.working = true := by decide
  have variant : (overlongNode.blk.stoppedAgain 6 0).fuses.variantX = true := by decide
  have idle : (overlongNode.blk.stoppedAgain 6 0).imp.active = none := by decide
  have cells : (overlongNode.blk.stoppedAgain 6 0).cells = cellsToReason := by decide
  generalize overlongNode.blk.stoppedAgain 6 0 = x at *
  rw [Block.followE6, works, working, Bool.false_and, if_neg Bool.false_ne_true, Bool.not_false, Bool.true_and, if_pos rfl,
    Block.impStop, variant, working, if_neg (by decide), Block.discardActive, idle]
  exact ⟨_, congrArg (fun n => (List.range n).foldl Block.staleTemp _) cells⟩

/-- Refutes O25: with a CellCount that no write leaves but that the clause on the second expiry admits, the STALE status of the last cell is written
over ServiceRequest Reason, and ENGINE_STOPPED is gone as soon as it is set. -/
theorem not_enginesAndMemories : ¬ Obligations.EnginesAndMemories := by
  intro ⟨⟨_, second, _⟩, _⟩
  obtain ⟨-, reason, -⟩ :=
    (second overlongNode 6 0 0 (by decide) (by decide) (by decide) (by decide) (by decide)).of_onBlock (f := engineWatchdogExpiry 6 0) rfl
  obtain ⟨x, steps⟩ := overlongNode_expires
  have last : chKey Ob.tempEstimateStatus (cellsToReason - 1) = Ob.serviceRequestReason := by decide
  have written := x.get_staleTemps_last (cellsToReason - 1)
  rw [show cellsToReason - 1 + 1 = cellsToReason by decide, last] at written
  rw [steps, Block.hasReason, Block.bit, Block.nat] at reason
  obtain none_kept | stale := written
  · rw [none_kept] at reason
    exact absurd reason (by decide)
  · rw [stale] at reason
    exact absurd reason (by decide)

end Sys2Proof.Machine
end

section
/-! ### The unlock belongs to Standby

No operation of the model leaves a node armed or unlocked in a state other than Standby (R41, R42). Of the entries of the dictionary
UnlockState alone matters here: an operation that writes another entry, or another part of the package, is as good as the block it
starts from. This is said once per operation, in the order of the model; a step inherits it. -/

section

-- The tactic of a default side condition waits for the kernel: elaborated side by side, these lemmas would hold a thread each.
set_option Elab.async false

namespace Sys2Proof.Machine

variable {b : Block}

/-! #### UnlockState among the keys -/

/-- What the table says of UnlockState: it is read only and not persistent (R33, R41). -/
theorem entry_of_unlockState {ix sub : Nat} {o : Obj} {e : Entry} (found : findObj ix = some o) (entry : o.entry sub = some e)
    (key : Ob.unlockState = keyOf ix sub) : e.accNode = .ro ∧ e.accHead = .ro ∧ e.pers = .v := by
  have bytes : ∀ o ∈ objTable, ∀ e ∈ o.entries, e.hi < 256 := by decide +kernel
  have range : e.lo ≤ sub ∧ sub ≤ e.hi := by simpa using List.find?_some entry
  have byte := bytes o (List.mem_of_find?_eq_some found) e (List.mem_of_find?_eq_some entry)
  obtain ⟨rfl, rfl⟩ : ix = 0x1F01 ∧ sub = 0 := by simp only [keyOf, Ob.unlockState] at key; omega
  obtain rfl := Option.some.inj (found.symm.trans (show findObj 0x1F01 = some _ from rfl))
  obtain rfl := Option.some.inj (entry.symm.trans (show Obj.entry _ 0 = some _ from rfl))
  exact ⟨rfl, rfl, rfl⟩

theorem unlockState_ne_stateKey (p : Port) : Ob.unlockState ≠ stateKey p := by cases p <;> decide
theorem unlockState_ne_causeKey (p : Port) : Ob.unlockState ≠ causeKey p := by cases p <;> decide
theorem unlockState_ne_fallsKey (p : Port) : Ob.unlockState ≠ fallsKey p := by cases p <;> decide
theorem unlockState_ne_codeErrorsKey (p : Port) : Ob.unlockState ≠ codeErrorsKey p := by cases p <;> decide
theorem unlockState_ne_pulseErrorsKey (p : Port) : Ob.unlockState ≠ pulseErrorsKey p := by cases p <;> decide
theorem unlockState_ne_acceptedKey (c : Carrier) : Ob.unlockState ≠ acceptedKey c := by cases c <;> decide

/-- Entries taken out of the store by their keys leave an entry as it was, or at its default. -/
theorem Dict.get_filter {p : Nat × Int → Bool} (byKey : ∀ k v w, p (k, v) = p (k, w)) (k : Nat) (d : List (Nat × Int)) :
    Dict.get k (d.filter p) = if p (k, 0) then Dict.get k d else defaultOf k := by
  unfold Dict.get
  induction d with
  | nil => simp [Dict.find]
  | cons e d ih =>
    obtain ⟨j, v⟩ := e
    have key := byKey j v 0
    by_cases same : j = k
    · subst same
      by_cases kept : p (j, 0) <;> simp_all [Dict.find]
    · by_cases kept : p (j, 0) <;> simp_all [Dict.find]

/-! #### Guarded blocks -/

/-- A block that is armed or unlocked is in Standby. -/
def Block.Guarded (b : Block) : Prop := b.get Ob.unlockState ≠ 0 → b.power.mode = .standby

/-! #### Branches and folds -/

theorem Block.Guarded.ite {c : Prop} [Decidable c] {x y : Block} (hx : x.Guarded) (hy : y.Guarded) : (if c then x else y).Guarded := by
  split
  · exact hx
  · exact hy

theorem Block.Guarded.foldl {α : Type} {f : Block → α → Block} (hf : ∀ b x, b.Guarded → (f b x).Guarded) {l : List α}
    (h : b.Guarded) : (l.foldl f b).Guarded :=
  List.foldlRecOn (motive := Block.Guarded) _ _ h fun b hb x _ => hf b x hb

/-! #### The parts of the package -/

/-- A block with the UnlockState and the state of a guarded one. -/
theorem Block.Guarded.of_same (h : b.Guarded) {c : Block} (entry : c.get Ob.unlockState = b.get Ob.unlockState)
    (state : c.power.mode = b.power.mode) : c.Guarded := by
  unfold Block.Guarded
  rw [entry, state]
  exact h

/-- A locked block may be in any state. -/
theorem Block.Guarded.of_locked (locked : b.get Ob.unlockState = 0) : b.Guarded := fun other => absurd locked other

/-- A block in Standby may be unlocked. -/
theorem Block.Guarded.of_standby (standby : b.power.mode = .standby) : b.Guarded := fun _ => standby

/-- A guarded block that is not in Standby is locked. -/
theorem Block.Guarded.locked (h : b.Guarded) (left : b.power.mode ≠ .standby) : b.get Ob.unlockState = 0 :=
  not_not.mp fun other => left (h other)

/-- The power control replaced by one in the same state. -/
theorem Block.Guarded.withPower (h : b.Guarded) {v} (same : v.mode = b.power.mode := by rfl) : (b.withPower v).Guarded :=
  h.of_same rfl same

theorem Block.Guarded.withTb (h : b.Guarded) {v} : (b.withTb v).Guarded := h
theorem Block.Guarded.withBedrock (h : b.Guarded) {v} : (b.withBedrock v).Guarded := h
theorem Block.Guarded.withJournal (h : b.Guarded) {v} : (b.withJournal v).Guarded := h
theorem Block.Guarded.withFlint (h : b.Guarded) {v} : (b.withFlint v).Guarded := h
theorem Block.Guarded.withNvm (h : b.Guarded) {v} : (b.withNvm v).Guarded := h
theorem Block.Guarded.withPhys (h : b.Guarded) {v} : (b.withPhys v).Guarded := h
theorem Block.Guarded.withGov (h : b.Guarded) {v} : (b.withGov v).Guarded := h
theorem Block.Guarded.withLanes (h : b.Guarded) {v} : (b.withLanes v).Guarded := h
theorem Block.Guarded.withWin (h : b.Guarded) {v} : (b.withWin v).Guarded := h
theorem Block.Guarded.withCap (h : b.Guarded) {v} : (b.withCap v).Guarded := h
theorem Block.Guarded.withKeeper (h : b.Guarded) {v} : (b.withKeeper v).Guarded := h
theorem Block.Guarded.withAux (h : b.Guarded) {v} : (b.withAux v).Guarded := h
theorem Block.Guarded.withImp (h : b.Guarded) {v} : (b.withImp v).Guarded := h
theorem Block.Guarded.withLink (h : b.Guarded) {v} : (b.withLink v).Guarded := h
theorem Block.Guarded.withAccess (h : b.Guarded) {v} : (b.withAccess v).Guarded := h
theorem Block.Guarded.withHost (h : b.Guarded) {v} : (b.withHost v).Guarded := h
theorem Block.Guarded.withDiag (h : b.Guarded) {v} : (b.withDiag v).Guarded := h
theorem Block.Guarded.withThermal (h : b.Guarded) {v} : (b.withThermal v).Guarded := h
theorem Block.Guarded.withChainSet (h : b.Guarded) {v} : (b.withChainSet v).Guarded := h
theorem Block.Guarded.withSocTable (h : b.Guarded) {v} : (b.withSocTable v).Guarded := h
theorem Block.Guarded.withTempCurve (h : b.Guarded) {v} : (b.withTempCurve v).Guarded := h
theorem Block.Guarded.withOut (h : b.Guarded) {v} : (b.withOut v).Guarded := h
theorem Block.Guarded.withFree (h : b.Guarded) {v} : (b.withFree v).Guarded := h

/-! #### Entries of the dictionary -/

/-- An entry other than UnlockState written. -/
theorem Block.Guarded.put (h : b.Guarded) {k v} (other : Ob.unlockState ≠ k := by grind) : (b.put k v).Guarded :=
  h.of_same (b.get_put_other v other) rfl

theorem Block.Guarded.countUp (h : b.Guarded) {k n most} (other : Ob.unlockState ≠ k := by grind) : (b.countUp k n most).Guarded :=
  h.put other
theorem Block.Guarded.count32 (h : b.Guarded) {k} (other : Ob.unlockState ≠ k := by grind) : (b.count32 k).Guarded := h.countUp other
theorem Block.Guarded.putBit (h : b.Guarded) {k i on} (other : Ob.unlockState ≠ k := by grind) : (b.putBit k i on).Guarded := h.put other

/-- Entries other than UnlockState written. -/
theorem Block.Guarded.putAll (h : b.Guarded) {l : List (Nat × Int)} (other : ∀ x ∈ l, Ob.unlockState ≠ x.1 := by grind) :
    (b.putAll l).Guarded :=
  List.foldlRecOn (motive := Block.Guarded) _ _ h fun _ hx x mem => hx.put (other x mem)

/-- Entries taken out of the dictionary by their keys. -/
theorem Block.Guarded.filterDict {c : Block} (hc : c.Guarded) {p} (byKey : ∀ k v w, p (k, v) = p (k, w))
    (same : b.power.mode = c.power.mode := by rfl) : (b.withDict (c.dict.filter p)).Guarded := by
  have get : (b.withDict (c.dict.filter p)).get Ob.unlockState = if p (Ob.unlockState, 0) then c.get Ob.unlockState else 0 :=
    Dict.get_filter byKey _ _
  split at get
  · exact hc.of_same get same
  · exact .of_locked get

theorem Block.Guarded.at (h : b.Guarded) {t} : (b.at t).Guarded := h
theorem Block.Guarded.emit (h : b.Guarded) {e} : (b.emit e).Guarded := h

/-! #### The journal -/

theorem Block.Guarded.journalWrite (h : b.Guarded) {e sources} : (b.journalWrite e sources).Guarded :=
  .ite h.withJournal.count32 h.withJournal

theorem Block.Guarded.event (h : b.Guarded) {code data} : (b.event code data).Guarded := h.journalWrite

/-! #### Flags and detections -/

theorem Block.Guarded.raise (h : b.Guarded) {source data} : (b.raise source data).Guarded := h.withFlint
theorem Block.Guarded.raiseAtLeast (h : b.Guarded) {source data c} : (b.raiseAtLeast source data c).Guarded := h.withFlint
theorem Block.Guarded.raiseExactly (h : b.Guarded) {source data c} : (b.raiseExactly source data c).Guarded := h.withFlint
theorem Block.Guarded.reason (h : b.Guarded) {r on} : (b.reason r on).Guarded := .ite h h.putBit.put
theorem Block.Guarded.followReasons (h : b.Guarded) : b.followReasons.Guarded := h.reason.reason.reason.reason
theorem Block.Guarded.dropLatch (h : b.Guarded) {s} : (b.dropLatch s).Guarded := .ite h.putBit.withFlint h.putBit.withFlint.putAll
theorem Block.Guarded.clearLive (h : b.Guarded) {s} : (b.clearLive s).Guarded := .ite (.followReasons (.ite h.putBit.dropLatch h.putBit)) h
theorem Block.Guarded.clearEveryLive (h : b.Guarded) : b.clearEveryLive.Guarded := .foldl (fun _ _ h => h.clearLive) h
theorem Block.Guarded.follow (h : b.Guarded) {s data on} : (b.follow s data on).Guarded := .ite h.raise h.clearLive
theorem Block.Guarded.attend (h : b.Guarded) {bit} : (b.attend bit).Guarded := .ite h.putBit h

/-! #### Shared operations -/

theorem Block.Guarded.editCh (h : b.Guarded) {i f} : (b.editCh i f).Guarded := h.withGov
theorem Block.Guarded.noteSat (h : b.Guarded) {k hit} : (b.noteSat k hit).Guarded := .ite h.withDiag h
theorem Block.Guarded.turnOn (h : b.Guarded) {i o} : (b.turnOn i o).Guarded := h.editCh
theorem Block.Guarded.switchesOff (h : b.Guarded) : b.switchesOff.Guarded := h.withGov

theorem Block.Guarded.setSending (h : b.Guarded) {p f} : (b.setSending p f).Guarded := by
  unfold Block.setSending
  split <;> exact h.withPhys

theorem Block.Guarded.sendHeld (h : b.Guarded) {p e} : (b.sendHeld p e).Guarded := by
  unfold Block.sendHeld
  extract_lets _ b1
  have h1 : b1.Guarded := by
    unfold b1
    split <;> exact h.withPhys
  exact h1.emit.emit

theorem Block.Guarded.sendPulse (h : b.Guarded) {p c} : (b.sendPulse p c).Guarded := h.sendHeld

theorem Block.Guarded.sendAlarm (h : b.Guarded) : b.sendAlarm.Guarded :=
  .ite h (.ite h.withPhys (.sendPulse (.withPhys (.setSending (.ite h.count32 h)))))

theorem Block.Guarded.setFlt (h : b.Guarded) {low} : (b.setFlt low).Guarded := h.withFlint

theorem Block.Guarded.queueAlarm (h : b.Guarded) {kind position cls source} : (b.queueAlarm kind position cls source).Guarded :=
  .ite h.withHost h

theorem Block.Guarded.enterSafe (h : b.Guarded) {cls} : (b.enterSafe cls).Guarded := by
  unfold Block.enterSafe
  extract_lets
  exact .ite (.ite h.switchesOff.put.setFlt.put.sendAlarm.attend.queueAlarm h.switchesOff.put.setFlt.put.sendAlarm)
      h.switchesOff.put.setFlt

theorem Block.Guarded.firstFault (h : b.Guarded) {s base eff data same} : (b.firstFault s base eff data same).Guarded := .ite h h.putAll
theorem Block.Guarded.latch (h : b.Guarded) {s base eff data same} : (b.latch s base eff data same).Guarded := h.firstFault.putBit.withFlint

theorem Block.Guarded.capture (h : b.Guarded) {s base eff data same esc} : (b.capture s base eff data same esc).Guarded :=
  .ite h.withFlint h.withFlint

theorem Block.Guarded.register (h : b.Guarded) {earlier same base d} : (b.register earlier same base d).Guarded := by
  unfold Block.register
  extract_lets _ _ _ _ _ b2 b3 b4
  have h2 : b2.Guarded := .ite h.putBit.withNvm h.putBit
  have h3 : b3.Guarded := .ite h2.count32 h2
  have h4 : b4.Guarded := .ite h3.latch h3
  exact h4.capture

theorem Block.Guarded.repeatOf (h : b.Guarded) {d} : (b.repeatOf d).Guarded := by
  unfold Block.repeatOf
  extract_lets
  split
  · exact .ite h.withFlint h
  · exact h.withJournal

theorem Block.Guarded.faultCycle (h : b.Guarded) : b.faultCycle.Guarded := by
  unfold Block.faultCycle
  extract_lets _ _ _ _ _ _ _ b2 b3 b4 b5
  have h2 : b2.Guarded := .foldl (fun _ _ h => h.register) h.withFlint
  have h3 : b3.Guarded := .foldl (fun _ _ h => h.repeatOf) h2
  have h4 : b4.Guarded := .ite h3.enterSafe h3
  have h5 : b5.Guarded := .foldl (fun _ _ h => .ite h.putBit h) h4
  exact h5.followReasons

theorem Block.Guarded.coalesce_fst (h : b.Guarded) {e} : (b.coalesce e).1.Guarded := by
  unfold Block.coalesce
  split
  · exact h
  · extract_lets
    split
    · exact h.withJournal
    · exact h

theorem Block.Guarded.insertBurst (h : b.Guarded) : b.insertBurst.Guarded := by
  unfold Block.insertBurst
  split
  · exact h
  · exact h.withFlint.putBit.countUp

theorem Block.Guarded.drainOne (h : b.Guarded) : b.drainOne.Guarded := by
  unfold Block.drainOne
  split
  · exact h
  · exact .ite h.withFlint.insertBurst.coalesce_fst h.withFlint.insertBurst.journalWrite

theorem Block.Guarded.drainAll (h : b.Guarded) : b.drainAll.Guarded := .foldl (fun _ _ h => h.drainOne) h
theorem Block.Guarded.sendClose (h : b.Guarded) : b.sendClose.Guarded := .ite (.emit (.ite h.emit h)) (.ite h.emit h)
theorem Block.Guarded.heard (h : b.Guarded) {p} : (b.heard p).Guarded := .ite h.withPower h
theorem Block.Guarded.disarm (h : b.Guarded) : b.disarm.Guarded := .ite (.of_locked (b.get_put_self _ _)) h
theorem Block.Guarded.closeTransfers (h : b.Guarded) : b.closeTransfers.Guarded := h.withAccess.withHost
theorem Block.Guarded.judgeDiag (h : b.Guarded) : b.judgeDiag.Guarded := .reason (.ite h h.withLanes)

/-! #### The schedule of the windows -/

theorem Block.Guarded.onWindows (h : b.Guarded) {f} : (b.onWindows f).Guarded := h.withWin
theorem Block.Guarded.flagWindow (h : b.Guarded) {bit} : (b.flagWindow bit).Guarded := h.withWin
theorem Block.Guarded.showNominal (h : b.Guarded) : b.showNominal.Guarded := h.put
theorem Block.Guarded.loadWindowSettings (h : b.Guarded) : b.loadWindowSettings.Guarded := .ite h.withWin.showNominal h.withWin

/-! #### A reset -/

/-- A fresh block has an empty dictionary, so it is locked. -/
theorem Block.fresh_guarded (f : Fuses) (mode : Mode) : (Block.fresh f mode).Guarded := .of_locked rfl

/-! #### The charge governor -/

theorem Block.Guarded.publishCharge (h : b.Guarded) {i} : (b.publishCharge i).Guarded := h.put.put
theorem Block.Guarded.saturated (h : b.Guarded) {i} : (b.saturated i).Guarded := .ite h.putBit h.putBit.putBit.raise

theorem Block.Guarded.addCharge (h : b.Guarded) {i q} : (b.addCharge i q).Guarded :=
  .ite h.editCh.publishCharge.saturated h.editCh.publishCharge

theorem Block.Guarded.endSession (h : b.Guarded) {i state} : (b.endSession i state).Guarded := h.editCh

theorem Block.Guarded.targetWritten (h : b.Guarded) {i mC} : (b.targetWritten i mC).Guarded := by
  unfold Block.targetWritten
  extract_lets
  exact .ite h.put (.ite h.put.endSession (.ite h.put.editCh.put.publishCharge
      (.ite h.put.endSession.putBit (.ite (.ite h.put.editCh h.put) h.put.editCh))))

theorem Block.Guarded.timerWritten (h : b.Guarded) {i v} : (b.timerWritten i v).Guarded := .ite h.put.endSession h.put
theorem Block.Guarded.enableWritten (h : b.Guarded) {v} : (b.enableWritten v).Guarded := .foldl (fun _ _ h => .ite h h.editCh) h.put
theorem Block.Guarded.judgePath (h : b.Guarded) : b.judgePath.Guarded := .ite h.reason h.reason.clearLive

theorem Block.Guarded.pathLimit (h : b.Guarded) {i} : (b.pathLimit i).Guarded :=
  .ite (.ite h h.putBit.judgePath) (.ite h.putBit.reason.raise h)

theorem Block.Guarded.meterInterval (h : b.Guarded) {i reading} : (b.meterInterval i reading).Guarded := .editCh (.ite h.onWindows h)

theorem Block.Guarded.updatePass (h : b.Guarded) {i} : (b.updatePass i).Guarded := by
  unfold Block.updatePass
  extract_lets _ b1 _ _ _ _ b2 _ b3 b4
  have h1 : b1.Guarded := .ite h h.editCh.addCharge
  have h2 : b2.Guarded := .ite h1.editCh h1
  have h3 : b3.Guarded := .ite h2.saturated h2
  have h4 : b4.Guarded := .ite h3.editCh h3
  exact .ite h4.pathLimit.editCh h4.pathLimit

theorem Block.Guarded.slewTheta (h : b.Guarded) : b.slewTheta.Guarded := h.withGov.put.put

theorem Block.Guarded.tickLaw (h : b.Guarded) : b.tickLaw.Guarded := by
  unfold Block.tickLaw
  extract_lets _ _ b2 _ _ _ _ _ _ _ b3 b4 b5 b6
  have h2 : b2.Guarded := .foldl (fun _ _ h => h.updatePass) h.slewTheta
  have h3 : b3.Guarded := .foldl (fun _ _ h => h.putBit.putBit) h2
  have h4 : b4.Guarded := .foldl (fun _ _ h => .ite h.editCh h) h3
  have h5 : b5.Guarded := .foldl (fun _ _ h => h.turnOn) h4
  have h6 : b6.Guarded := .foldl (fun _ _ h => h.putBit) h5
  exact h6.withGov.withFree

theorem Block.Guarded.overrun (h : b.Guarded) : b.overrun.Guarded := .ite h.putBit.withGov.raise h.putBit.withGov

theorem Block.Guarded.overrunGone (h : b.Guarded) : b.overrunGone.Guarded := by
  unfold Block.overrunGone
  split
  · exact .ite h.clearLive h
  · exact h

theorem Block.Guarded.noteEdge (h : b.Guarded) {i x} : (b.noteEdge i x).Guarded := .ite h h.withLanes.withImp.editCh
theorem Block.Guarded.noteEdges (h : b.Guarded) {delays} : (b.noteEdges delays).Guarded := .foldl (fun _ _ h => h.noteEdge) h.withLanes
theorem Block.Guarded.feedStretches (h : b.Guarded) {meter} : (b.feedStretches meter).Guarded := h.withImp.withLanes

theorem Block.Guarded.loseExcited (h : b.Guarded) {near} : (b.loseExcited near).Guarded := by
  unfold Block.loseExcited
  split
  · exact h
  · exact .withImp (.foldl (fun _ _ h => h.editCh) h)

theorem Block.Guarded.holdSlot (h : b.Guarded) {ch} : (b.holdSlot ch).Guarded := .foldl (fun _ _ h => h.editCh) h.loseExcited
theorem Block.Guarded.releaseSlot (h : b.Guarded) : b.releaseSlot.Guarded := h.withGov

theorem Block.Guarded.followSlot (h : b.Guarded) : b.followSlot.Guarded := by
  unfold Block.followSlot
  split
  · exact h
  · extract_lets _ _ b1
    have h1 : b1.Guarded := .ite h.editCh.noteEdge h
    exact .ite h (.ite h1.releaseSlot (.ite (.ite h.editCh.noteEdge h) (.ite h.turnOn.noteEdge h)))

theorem Block.Guarded.followConfirm (h : b.Guarded) : b.followConfirm.Guarded := by
  unfold Block.followConfirm
  extract_lets _ b1
  have h1 : b1.Guarded := by
    unfold b1
    split
    · exact .ite h.releaseSlot.withLanes h
    · exact h
  split
  · exact h1
  · split
    · exact h1
    · exact .ite h1 (.ite h1.holdSlot.withLanes.turnOn h1.holdSlot.withLanes)

theorem Block.Guarded.beginPause (h : b.Guarded) : b.beginPause.Guarded :=
  .foldl (fun _ _ h => .noteEdge (.ite h.editCh h)) (.ite h.releaseSlot.withLanes h)

theorem Block.Guarded.followPause (h : b.Guarded) : b.followPause.Guarded := .withGov (.ite h.beginPause h)
theorem Block.Guarded.meterPower (h : b.Guarded) : b.meterPower.Guarded := h.onWindows
theorem Block.Guarded.meterOnly (h : b.Guarded) {i reading} : (b.meterOnly i reading).Guarded := h.editCh

theorem Block.Guarded.governorTick (h : b.Guarded) {t timing meter delays} : (governorTick t timing meter delays b).Guarded := by
  unfold Machine.governorTick
  extract_lets _ _ b3 _ b4
  have h3 : b3.Guarded := .followConfirm (.meterPower (.foldl (fun _ _ h => h.meterInterval) h.at.followPause.followSlot.feedStretches))
  have h4 : b4.Guarded := by
    unfold b4
    split
    · exact .ite h3.overrun h3
    · exact h3.tickLaw.overrun
    · exact h3.tickLaw.withGov.overrunGone
  exact .ite h.at (.ite (.foldl (fun _ _ h => h.meterOnly) h.at) h4.noteEdges)

theorem Block.Guarded.learnPath (h : b.Guarded) {i mA sumI sumV} : (b.learnPath i mA sumI sumV).Guarded :=
  .ite h.put.editCh.editCh.putBit.reason.raise h.put.editCh.editCh.judgePath

theorem Block.Guarded.learnChannel (h : b.Guarded) {i} : (b.learnChannel i).Guarded := by
  unfold Block.learnChannel
  extract_lets _ _ _ _ _ b1
  have h1 : b1.Guarded := .ite h.learnPath h
  exact .ite h (.ite h1.editCh.putBit.reason.raise (.ite h1.editCh.putBit.judgePath h1.editCh))

theorem Block.Guarded.pathLearn (h : b.Guarded) : (pathLearn b).Guarded := .ite h (.foldl (fun _ _ h => h.learnChannel) h)
theorem Block.Guarded.disable (h : b.Guarded) {i} : (b.disable i).Guarded := .ite h.editCh.reason h

theorem Block.Guarded.bleedConfirmation (h : b.Guarded) {i dropUv meter} : (bleedConfirmation i dropUv meter b).Guarded := by
  unfold Machine.bleedConfirmation
  extract_lets _ _ _ _ _ b2
  have h2 : b2.Guarded := .foldl (fun _ _ h => h.editCh) h.loseExcited
  split
  · exact h
  · split
    · exact h
    · extract_lets x5
      clear_value x5
      split
      · exact h2.withLanes.editCh
      · extract_lets b6
        have h6 : b6.Guarded := .ite (.foldl (fun _ _ h => h.disable) h2.withLanes.editCh) h2.withLanes.editCh.disable
        exact h6.raise

theorem Block.Guarded.freshnessTimeout (h : b.Guarded) {i} : (freshnessTimeout i b).Guarded := .ite h.editCh.putBit.raise h
theorem Block.Guarded.interlockRefusal (h : b.Guarded) {i} : (interlockRefusal i b).Guarded := h.editCh.count32.putBit
theorem Block.Guarded.sessionTimerSecond (h : b.Guarded) {i} : (sessionTimerSecond i b).Guarded := .ite h (.ite h.put.endSession h.put)
theorem Block.Guarded.throttleLost (h : b.Guarded) : b.throttleLost.Guarded := h.withGov.put.putBit.reason

theorem Block.Guarded.thrPulseEdge (h : b.Guarded) {t period high} : (thrPulseEdge t period high b).Guarded :=
  .ite h.at (.ite (.ite h.at.withGov.put (.ite h.at.withGov.put.reason h.at.withGov)) (.ite h.at.withGov.throttleLost h.at.withGov))

theorem Block.Guarded.throttleInputLost (h : b.Guarded) : (throttleInputLost b).Guarded := .ite h.throttleLost h
theorem Block.Guarded.throttleSourceWritten (h : b.Guarded) {v} : (b.throttleSourceWritten v).Guarded := h.put.withGov.put.reason
theorem Block.Guarded.seedPaths (h : b.Guarded) {lo} : (b.seedPaths lo).Guarded := .foldl (fun _ _ h => h.put.editCh) h
theorem Block.Guarded.bleedResistorWritten (h : b.Guarded) {v} : (b.bleedResistorWritten v).Guarded := h.put.seedPaths
theorem Block.Guarded.channelStateCleared (h : b.Guarded) {i mask} : (b.channelStateCleared i mask).Guarded := h.put.judgePath
theorem Block.Guarded.governorFlagsCleared (h : b.Guarded) {mask} : (b.governorFlagsCleared mask).Guarded := h.put
theorem Block.Guarded.sleepPlanRefresh (h : b.Guarded) {t} : (sleepPlanRefresh t b).Guarded := .ite h.at.withGov h.at

/-! #### Lanes -/

theorem Block.Guarded.editTerms (h : b.Guarded) {k f} : (b.editTerms k f).Guarded := h.withLanes
theorem Block.Guarded.setHealth (h : b.Guarded) {ch i on} : (b.setHealth ch i on).Guarded := h.putBit
theorem Block.Guarded.tapEstimate (h : b.Guarded) {k est} : (b.tapEstimate k est).Guarded := .ite h h.put.put
theorem Block.Guarded.learnEdge (h : b.Guarded) {c k e} : (b.learnEdge c k e).Guarded := .ite h (.ite h h.tapEstimate)

theorem Block.Guarded.learnTaps (h : b.Guarded) {c} : (b.learnTaps c).Guarded :=
  .ite h (.foldl (fun _ _ h => .ite h.learnEdge (.ite h.learnEdge h)) h)

theorem Block.Guarded.followCompare (h : b.Guarded) {source side rose} : (b.followCompare source side rose).Guarded :=
  .ite h.clearLive (.ite h.raise h)

theorem Block.Guarded.compareBlock (h : b.Guarded) {ch v} : (b.compareBlock ch v).Guarded := by
  unfold Block.compareBlock
  split
  · exact h
  · extract_lets _ _ _ _ _ _ b2
    have h2 : b2.Guarded := .ite h.withLanes h.withLanes.followCompare
    exact .ite h2 h2.followCompare

theorem Block.Guarded.cellLimitRefresh (h : b.Guarded) : (cellLimitRefresh b).Guarded := .ite h h.withLanes

theorem Block.Guarded.shortCheck (h : b.Guarded) {kind place bad} : (b.shortCheck kind place bad).Guarded :=
  .ite (.ite h.withLanes h.withLanes.raise) (.ite (.ite h.withLanes.clearLive h.withLanes) h)

theorem Block.Guarded.lowCheck (h : b.Guarded) {ch t uv} : (b.lowCheck ch t uv).Guarded := by
  unfold Block.lowCheck
  split
  · split
    · exact h.withLanes
    · exact .ite h.shortCheck h
  · exact h.withLanes.shortCheck

theorem Block.Guarded.spoil (h : b.Guarded) {lo hi} : (b.spoil lo hi).Guarded := .ite h.withImp h
theorem Block.Guarded.keepForE6 (h : b.Guarded) {ch x} : (b.keepForE6 ch x).Guarded := .ite h h.withImp

theorem Block.Guarded.takeEntry (h : b.Guarded) {ch e} : (b.takeEntry ch e).Guarded := by
  unfold Block.takeEntry
  extract_lets
  exact .ite (.ite h.onWindows h) (.ite h.withLanes.noteSat.keepForE6.onWindows.learnTaps.lowCheck
      h.withLanes.noteSat.keepForE6.onWindows.learnTaps)

theorem Block.Guarded.dropBlock (h : b.Guarded) {ch e} : (b.dropBlock ch e).Guarded := .raise (.withLanes (.ite h h.onWindows.spoil))
theorem Block.Guarded.setFifo (h : b.Guarded) {ch q} : (b.setFifo ch q).Guarded := h.withLanes

theorem Block.Guarded.takeFifo (h : b.Guarded) {ch l} : (b.takeFifo ch l).Guarded := by
  induction l generalizing b with
  | nil => exact h.setFifo
  | cons e t ih => exact .ite (ih h.takeEntry) h.setFifo

theorem Block.Guarded.offerEntry (h : b.Guarded) {ch e} : (b.offerEntry ch e).Guarded :=
  .ite h.takeEntry (.ite h.dropBlock (.ite h.takeFifo h.setFifo))

theorem Block.Guarded.drainFifos (h : b.Guarded) {engine} : (b.drainFifos engine).Guarded := .foldl (fun _ _ h => h.takeFifo) h
theorem Block.Guarded.takeMetered (h : b.Guarded) : b.takeMetered.Guarded := .ite h (.foldl (fun _ _ h => .ite h.drainFifos h) h)

theorem Block.Guarded.dropGone (h : b.Guarded) : b.dropGone.Guarded := by
  unfold Block.dropGone
  split
  · exact .ite h.withLanes.clearLive h
  · exact h

theorem Block.Guarded.deliverBlock (h : b.Guarded) {ch e} : (b.deliverBlock ch e).Guarded := .offerEntry (.ite h h.compareBlock)

theorem Block.Guarded.laneBlock (h : b.Guarded) {ch start own shadow} : (laneBlock ch start own shadow b).Guarded := by
  unfold Machine.laneBlock
  extract_lets _ _ _ _ _ b2
  have h2 : b2.Guarded := .ite h.at.dropGone.deliverBlock h.at.dropGone
  exact .ite h.at.dropGone (.ite (.ite h.at.dropGone.deliverBlock h.at.dropGone)
      (.ite (.ite h2.deliverBlock h2) (.ite h.at.dropGone.deliverBlock h.at.dropGone)))

theorem Block.Guarded.referenceCompare (h : b.Guarded) {t codes} : (referenceCompare t codes b).Guarded := by
  unfold Machine.referenceCompare
  extract_lets _ _ _ _ _ b3
  have h3 : b3.Guarded := .ite h.at.put.put h.at.put
  exact .ite h.at (.ite h3.put.withLanes (.ite h3.put.put.withLanes.flagWindow.putBit.reason.raise h3.put))

theorem Block.Guarded.keepBoth (h : b.Guarded) : b.keepBoth.Guarded := h.withLanes.putBit.reason.raise
theorem Block.Guarded.loseShadow (h : b.Guarded) : b.loseShadow.Guarded := .ite h.putBit.reason.keepBoth h.putBit.reason

theorem Block.Guarded.loseLane (h : b.Guarded) {k} : (b.loseLane k).Guarded := by
  unfold Block.loseLane
  split
  · exact .ite h.withLanes.setHealth.reason.loseShadow h.setHealth.reason
  · split
    · exact h.withLanes.putBit.putBit.reason
    · split
      · exact h.withLanes.putBit.reason
      · split
        · exact h.setHealth.reason.loseShadow
        · exact h.loseShadow

theorem Block.Guarded.failSlice (h : b.Guarded) {k sliceB} : (b.failSlice k sliceB).Guarded := by
  unfold Block.failSlice
  extract_lets _ _ b2
  have h2 : b2.Guarded := .ite h.editTerms.setHealth h.editTerms
  exact .ite h (.ite (.ite h2.reason.loseLane.raiseAtLeast h2.reason.loseLane.raise) h2.reason.raise)

theorem Block.Guarded.publishCorrection (h : b.Guarded) : b.publishCorrection.Guarded := .foldl (fun _ _ h => h.setHealth) h.put.putBit

theorem Block.Guarded.correctionUpdate (h : b.Guarded) {k gA gB oB skew badA badB meanDiff} :
    (correctionUpdate k gA gB oB skew badA badB meanDiff b).Guarded := by
  unfold Machine.correctionUpdate
  split
  · exact h
  · extract_lets _ _ _ _ _ _ _ _ _ b3 b4 _ _ b6
    have h3 : b3.Guarded := .ite h.editTerms.publishCorrection.failSlice h.editTerms.publishCorrection
    have h4 : b4.Guarded := .ite h3.failSlice h3
    have h6 : b6.Guarded := .ite h4.editTerms.setHealth h4.editTerms
    exact .ite h4 (.ite (.ite h4.failSlice (.ite h4.failSlice h4)) (.ite (.ite h4.failSlice (.ite h4.failSlice h6.raise)) h4))

theorem Block.Guarded.pinCheck (h : b.Guarded) {pin start dropUv} : (b.pinCheck pin start dropUv).Guarded := by
  unfold Block.pinCheck
  extract_lets _ _ _ _ _ _ b2
  have h2 : b2.Guarded := .ite (.ite (.ite h.withLanes.shortCheck h.withLanes) h.withLanes.shortCheck) h.withLanes
  exact .ite (.ite (.ite h2.withLanes.shortCheck h2.withLanes) h2.withLanes.shortCheck) h2.withLanes

theorem Block.Guarded.keepCurrent (h : b.Guarded) {shadow} : (b.keepCurrent shadow).Guarded := h.withLanes.putBit.reason.raise

theorem Block.Guarded.subSlotB (h : b.Guarded) {m nv} : (b.subSlotB m nv).Guarded :=
  .ite h (.ite h.keepCurrent (.ite h h.withLanes.pinCheck))

theorem Block.Guarded.compareShadow (h : b.Guarded) {m ch difference diffA diffB} :
    (b.compareShadow m ch difference diffA diffB).Guarded := by
  unfold Block.compareShadow
  extract_lets _ b2
  have h2 : b2.Guarded := .ite h.put.failSlice h.put
  exact .ite (.ite h2.withLanes.loseShadow.raise (.ite h2.withLanes.setHealth.raise h2.withLanes)) (.ite h2.withLanes.setHealth.clearLive
      h2.withLanes.setHealth)

theorem Block.Guarded.muxCheck (h : b.Guarded) {ch testError} : (b.muxCheck ch testError).Guarded :=
  .ite h.setHealth.raise (.ite h.setHealth.clearLive h.setHealth)

theorem Block.Guarded.visit (h : b.Guarded) {t ch lane shadow map} : (b.visit t ch lane shadow map).Guarded :=
  .ite h.compareShadow.withLanes h

theorem Block.Guarded.shadowFrame (h : b.Guarded) {t lane shadow test subB map} : (shadowFrame t lane shadow test subB map b).Guarded := by
  unfold Machine.shadowFrame
  extract_lets _ _ _ _ b3
  have h3 : b3.Guarded := .ite h.at.dropGone (.ite h.at.dropGone.visit.muxCheck h.at.dropGone.visit)
  exact .ite h.at.dropGone (.ite h3.subSlotB h3)

theorem Block.Guarded.currentLaneCompare (h : b.Guarded) {start stop} : (currentLaneCompare start stop b).Guarded := by
  unfold Machine.currentLaneCompare
  extract_lets
  exact .ite h.at (.ite h.at.withKeeper (.ite h.at.withKeeper.withLanes
      (.ite h.at.withKeeper.withLanes.withLanes h.at.withKeeper.withLanes.keepBoth)))

theorem Block.Guarded.setAveraging (h : b.Guarded) {at' w} : (b.setAveraging at' w).Guarded := h.put.put.withLanes
theorem Block.Guarded.settleAveraging (h : b.Guarded) : b.settleAveraging.Guarded := h.setAveraging.withLanes
theorem Block.Guarded.askAveraging (h : b.Guarded) : b.askAveraging.Guarded := .ite h.withLanes h.settleAveraging

theorem Block.Guarded.laneAveragingChange (h : b.Guarded) {t} : (laneAveragingChange t b).Guarded := by
  unfold Machine.laneAveragingChange
  extract_lets
  split
  · exact h.at
  · exact .ite h.at h.at.setAveraging.withLanes

theorem Block.Guarded.lanesStart (h : b.Guarded) : b.lanesStart.Guarded := h.withLanes.settleAveraging.publishCorrection.cellLimitRefresh

/-! #### Measurement -/

theorem Block.Guarded.leaveKeeper (h : b.Guarded) : b.leaveKeeper.Guarded := h.withWin.showNominal

theorem Block.Guarded.deltaCheck (h : b.Guarded) {cells} : (b.deltaCheck cells).Guarded := by
  unfold Block.deltaCheck
  extract_lets
  split
  · exact h
  · exact h.follow

theorem Block.Guarded.staleWindow (h : b.Guarded) : b.staleWindow.Guarded := h.putBit
theorem Block.Guarded.publishMeters (h : b.Guarded) {w} : (b.publishMeters w).Guarded := .put (.noteSat (.foldl (fun _ _ h => h.put) h))

theorem Block.Guarded.healthOfWindow (h : b.Guarded) {w} : (b.healthOfWindow w).Guarded :=
  .ite h (.foldl (fun _ _ h => h.setHealth.setHealth.noteSat) h)

theorem Block.Guarded.publishObjects (h : b.Guarded) {w coverage} : (b.publishObjects w coverage).Guarded := by
  unfold Block.publishObjects
  extract_lets _ _ _ _ b2
  have h2 : b2.Guarded := by
    unfold b2
    refine .foldl (fun b x h => ?_) h.putAll
    split
    · exact h.put.put.put
    · exact h
  exact h2.withWin

theorem Block.Guarded.announce (h : b.Guarded) : b.announce.Guarded := h.withKeeper
theorem Block.Guarded.closeKeeper (h : b.Guarded) {w} : (b.closeKeeper w).Guarded := .ite h h.noteSat.withKeeper.announce.withKeeper

theorem Block.Guarded.publishWindow (h : b.Guarded) : b.publishWindow.Guarded := by
  unfold Block.publishWindow
  split
  · exact h
  · extract_lets
    split
    · exact h.closeKeeper.withWin.healthOfWindow.staleWindow
    · split
      · exact h.closeKeeper.withWin.healthOfWindow.publishObjects.publishMeters
      · refine .foldl (fun b x h => ?_) h.closeKeeper.withWin.healthOfWindow.publishObjects.publishMeters.deltaCheck
        split
        · exact .ite h h.lowCheck
        · exact h

theorem Block.Guarded.spoilWindow (h : b.Guarded) : b.spoilWindow.Guarded := h.flagWindow
theorem Block.Guarded.averagingBoundary (h : b.Guarded) : b.averagingBoundary.Guarded := .ite h.withLanes h
theorem Block.Guarded.keeperTakesOver (h : b.Guarded) {wasMains} : (b.keeperTakesOver wasMains).Guarded := .ite h (.ite h.withWin h)
theorem Block.Guarded.dropSchedule (h : b.Guarded) : b.dropSchedule.Guarded := .ite h.leaveKeeper h

theorem Block.Guarded.closeWindow (h : b.Guarded) {w} : (b.closeWindow w).Guarded :=
  h.publishWindow.withKeeper.withWin.loadWindowSettings.keeperTakesOver.dropSchedule.withWin.averagingBoundary

theorem Block.Guarded.firstWindow (h : b.Guarded) {t} : (b.firstWindow t).Guarded := by
  unfold Block.firstWindow
  extract_lets
  split
  · exact h
  · split
    · exact h
    · exact .ite h h.loadWindowSettings.withWin.withWin.averagingBoundary

theorem Block.Guarded.seatWindow (h : b.Guarded) {t} : (b.seatWindow t).Guarded := .ite h h.withWin

theorem Block.Guarded.windowBoundary (h : b.Guarded) {t} : (windowBoundary t b).Guarded := by
  unfold Machine.windowBoundary
  extract_lets
  split
  · exact h.at
  · split
    · exact h.at.firstWindow
    · extract_lets
      split
      · exact h.at
      · split
        · exact .ite h.at h.at.closeWindow.seatWindow
        · split
          · exact .ite h.at.closeWindow.seatWindow h.at.closeWindow
          · exact h.at.closeWindow

theorem Block.Guarded.keeperRecordMissing (h : b.Guarded) {t} : (keeperRecordMissing t b).Guarded := by
  unfold Machine.keeperRecordMissing
  extract_lets _ b2
  have h2 : b2.Guarded := .ite h.at.put h.at
  split
  · exact h.at
  · split
    · exact h2
    · split
      · exact .ite h2.flagWindow.leaveKeeper h2.flagWindow
      · exact h2.flagWindow

theorem Block.Guarded.overCurrent (h : b.Guarded) : b.overCurrent.Guarded := .ite h.noteSat.raise h.noteSat.clearLive

theorem Block.Guarded.keeperStep (h : b.Guarded) : b.keeperStep.Guarded := by
  unfold Block.keeperStep
  extract_lets
  split
  · exact .ite h.noteSat.withKeeper h
  · exact h

theorem Block.Guarded.keepSample (h : b.Guarded) {t v} : (b.keepSample t v).Guarded := h.withKeeper.overCurrent.keeperStep

theorem Block.Guarded.takeChop (h : b.Guarded) {e} : (b.takeChop e).Guarded :=
  .ite (.keepSample (.withKeeper (.ite h.withKeeper h))) (.withKeeper (.ite h.withKeeper h))

theorem Block.Guarded.dropChop (h : b.Guarded) {e} : (b.dropChop e).Guarded := .raise (.withLanes (.ite h.onWindows h))

theorem Block.Guarded.currentSample (h : b.Guarded) {t first second beyond} : (currentSample t first second beyond b).Guarded :=
  .ite h.at.dropGone (.ite h.at.dropGone.noteSat.takeChop (.ite h.at.dropGone.noteSat.withLanes h.at.dropGone.noteSat.dropChop))

theorem Block.Guarded.mainsTrackerUpdate (h : b.Guarded) {t amplitude milliHz} : (mainsTrackerUpdate t amplitude milliHz b).Guarded := by
  unfold Machine.mainsTrackerUpdate
  extract_lets
  split
  · exact h.at
  · split
    · exact h.at.put
    · split
      · exact .ite h.at.put.withKeeper.withKeeper.put h.at.put.withKeeper.withKeeper.put.put.put
      · split
        · split
          · exact h.at.put.withKeeper.withKeeper.put.put.put
          · split
            · exact .ite h.at.put.withKeeper.put.showNominal h.at.put.withKeeper
            · exact h.at.put.withKeeper
        · exact .ite h.at.put.withKeeper.withKeeper.put.put.put h.at.put.withKeeper.put

theorem Block.Guarded.keeperStop (h : b.Guarded) : b.keeperStop.Guarded := h.withKeeper.put
theorem Block.Guarded.keeperMoved (h : b.Guarded) {was} : (b.keeperMoved was).Guarded := .ite h (.ite h.keeperStop h.keeperStop.showNominal)

theorem Block.Guarded.publishSnapshot (h : b.Guarded) {seq instant tags values current} :
    (b.publishSnapshot seq instant tags values current).Guarded := by
  unfold Block.publishSnapshot
  extract_lets _ b2 b3
  have h2 : b2.Guarded := by
    unfold b2
    split
    · exact h.putAll
    · exact .ite (.put (.foldl (fun _ _ h => h.put) h.putAll)) (.foldl (fun _ _ h => h.put) h.putAll)
  have h3 : b3.Guarded := .foldl (fun _ _ h => h.put) h2
  exact h3.put.put.withGov.withLink

theorem Block.Guarded.nextSnap (h : b.Guarded) : b.nextSnap.Guarded := h.withCap
theorem Block.Guarded.quietForCapture (h : b.Guarded) : b.quietForCapture.Guarded := .ite (.foldl (fun _ _ h => h.editCh) h.withGov) h
theorem Block.Guarded.settleCaptures (h : b.Guarded) : b.settleCaptures.Guarded := h.withCap

theorem Block.Guarded.takeSnap (h : b.Guarded) {stampPs} : (b.takeSnap stampPs).Guarded := by
  unfold Block.takeSnap
  extract_lets
  split
  · exact h.nextSnap.publishSnapshot
  · split
    · exact h.settleCaptures.nextSnap.quietForCapture.withCap
    · split
      · exact h.settleCaptures.count32.withCap
      · extract_lets _ b5
        have h5 : b5.Guarded := .ite h.settleCaptures.nextSnap.quietForCapture.count32 h.settleCaptures.nextSnap.quietForCapture
        exact h5.withCap

theorem Block.Guarded.snap (h : b.Guarded) {t stampPs} : (snap t stampPs b).Guarded := .ite h.at.heard.takeSnap h.at
theorem Block.Guarded.fillCapture_fst (h : b.Guarded) {r cells} : (b.fillCapture r cells).1.Guarded := .foldl (fun _ _ h => h.noteSat) h
theorem Block.Guarded.endQuiet (h : b.Guarded) : b.endQuiet.Guarded := .ite h h.withGov

theorem Block.Guarded.captureStart (h : b.Guarded) {t seq cells} : (captureStart t seq cells b).Guarded := by
  unfold Machine.captureStart
  extract_lets _ b2
  have h2 : b2.Guarded := .ite h.at.withCap h.at
  split
  · exact h2
  · split
    · exact .ite h2 h2.fillCapture_fst.withCap.endQuiet
    · split
      · exact h2
      · exact .ite h2 h2.fillCapture_fst.withCap.endQuiet

theorem Block.Guarded.publishCapture (h : b.Guarded) {r l} : (b.publishCapture r l).Guarded :=
  .ite h.noteSat.publishSnapshot.deltaCheck h.noteSat.publishSnapshot

theorem Block.Guarded.capturePublish (h : b.Guarded) {t} : (capturePublish t b).Guarded := by
  unfold Machine.capturePublish
  extract_lets
  split
  · split
    · exact .ite h.at.publishCapture.withCap.averagingBoundary h.at.publishCapture.withCap
    · exact h.at
  · split
    · exact h.at
    · split
      · exact h.at
      · exact .ite h.at.publishCapture.withCap.averagingBoundary h.at.publishCapture.withCap

theorem Block.Guarded.followTherm (h : b.Guarded) {k was temp} : (b.followTherm k was temp).Guarded := by
  unfold Block.followTherm
  extract_lets _ _ b1 b2 b3 b4 b5
  have h1 : b1.Guarded := .ite h.raise h
  have h2 : b2.Guarded := .ite h1.raise h1
  have h3 : b3.Guarded := .ite h2.raise h2
  have h4 : b4.Guarded := .ite h3.raise h3
  have h5 : b5.Guarded := .ite h4 h4.clearLive
  exact .ite h5 h5.clearLive

theorem Block.Guarded.adviseBoth (h : b.Guarded) {k temp} : (b.adviseBoth k temp).Guarded :=
  .ite (.ite h.withThermal.putBit.put.put h.withThermal.putBit.put.put.raise) h.withThermal.putBit.put.put.clearLive

theorem Block.Guarded.dropAdvisories (h : b.Guarded) : b.dropAdvisories.Guarded := h.withThermal.putAll.clearLive
theorem Block.Guarded.railReading (h : b.Guarded) {rail nv} : (b.railReading rail nv).Guarded := h.withAux

theorem Block.Guarded.thermistorReading (h : b.Guarded) {k pin} : (b.thermistorReading k pin).Guarded := by
  unfold Block.thermistorReading
  extract_lets _ _ _ _ x1 _ b3
  clear_value x1
  have h3 : b3.Guarded := by
    unfold b3
    split <;> exact h.withFree.put.put
  exact .ite h h3.withAux.followTherm.adviseBoth

theorem Block.Guarded.pinSlot (h : b.Guarded) {k out level} : (b.pinSlot k out level).Guarded :=
  .ite h.thermistorReading (.ite (.ite h.put.put.withGov h.put.put) (.ite h.put.put (.ite h.put.put (.ite h.put.put h.put.put))))

theorem Block.Guarded.takeAux (h : b.Guarded) {e} : (b.takeAux e).Guarded := by
  unfold Block.takeAux
  extract_lets
  split
  · exact h
  · exact h.pinSlot
  · exact h.railReading

theorem Block.Guarded.auxSlot (h : b.Guarded) {t lane settling codes level} : (auxSlot t lane settling codes level b).Guarded := by
  unfold Machine.auxSlot
  extract_lets
  exact .ite h.at.dropGone (.ite h.at.dropGone.noteSat.takeAux
      (.ite h.at.dropGone.noteSat.withLanes h.at.dropGone.noteSat.withLanes.raise))

theorem Block.Guarded.drainE4 (h : b.Guarded) : b.drainE4.Guarded :=
  .foldl (fun _ _ h => h.takeAux) (.foldl (fun _ _ h => h.takeChop) h.withLanes)

/-! #### Frames -/

theorem Block.Guarded.beginPebble (h : b.Guarded) : b.beginPebble.Guarded := .ite h h.withLink

theorem Block.Guarded.startStream_snd (h : b.Guarded) {cls stale payload} : (b.startStream cls stale payload).2.Guarded :=
  h.beginPebble.withLink.put

theorem Block.Guarded.queueResponse (h : b.Guarded) {seq payload} : (b.queueResponse seq payload).Guarded := h.withLink

theorem Block.Guarded.queueStream (h : b.Guarded) {cls stale payload} : (b.queueStream cls stale payload).Guarded :=
  .withLink (.ite h.count32 h)

theorem Block.Guarded.storeRecord (h : b.Guarded) {r} : (b.storeRecord r).Guarded := h.withLink
theorem Block.Guarded.deliver (h : b.Guarded) {r} : (b.deliver r).Guarded := h.withLink

theorem Block.Guarded.keepOwnRecord (h : b.Guarded) {cls stale payload} : (b.keepOwnRecord cls stale payload).Guarded :=
  .ite h.withLink.deliver h.withLink.storeRecord

theorem Block.Guarded.respond (h : b.Guarded) {cls x} : (b.respond cls x).Guarded := .ite h.noteSat.keepOwnRecord h.noteSat.queueStream

theorem Block.Guarded.nextFrame_snd (h : b.Guarded) : b.nextFrame.2.Guarded := by
  unfold Block.nextFrame
  split
  · exact h.withLink
  · split
    · split
      · dsimp only
        exact h.withKeeper.startStream_snd
      · exact h.withKeeper
    · split
      · exact h.withLink
      · split
        · extract_lets
          split
          · exact h.withLink
          · dsimp only
            exact h.withLink.startStream_snd
        · split
          · exact h.withLink
          · exact h

theorem Block.Guarded.preempted (h : b.Guarded) : b.preempted.Guarded := h.withLink.withKeeper.countUp
theorem Block.Guarded.startTone (h : b.Guarded) {p us} : (b.startTone p us).Guarded := .emit (.emit (.ite h.preempted h))

theorem Block.Guarded.sendTone (h : b.Guarded) {p us} : (b.sendTone p us).Guarded := by
  unfold Block.sendTone
  split
  · split <;> exact h.withPhys
  · exact h.startTone

theorem Block.Guarded.waitingTone (h : b.Guarded) {p c} (e : b.waitingTone p = some c) : c.Guarded := by
  unfold Block.waitingTone at e
  split at e <;> split at e
  · cases e; exact h.withPhys.startTone
  · cases e
  · cases e; exact h.withPhys.startTone
  · cases e

theorem Block.Guarded.frameTransmit (h : b.Guarded) {t} : (frameTransmit t b).Guarded := by
  unfold Machine.frameTransmit
  extract_lets
  split
  · exact h.at
  · split
    · exact h.at.withPhys.setSending.withPhys.sendAlarm
    · split
      next c e => exact h.at.withPhys.setSending.waitingTone e
      next =>
        split
        · exact h.at.withPhys.setSending
        · split
          · exact h.at.withPhys.setSending.nextFrame_snd.setSending.emit
          · exact h.at.withPhys.setSending.nextFrame_snd

theorem Block.Guarded.dropPebble (h : b.Guarded) {p} : (b.dropPebble p).Guarded := h.withLink.count32

theorem Block.Guarded.holdPebble (h : b.Guarded) {p message} : (b.holdPebble p message).Guarded :=
  .ite h (.ite h.withLink.withLink.putBit h.withLink)

theorem Block.Guarded.takePebble (h : b.Guarded) {header} : (b.takePebble header).Guarded := by
  unfold Block.takePebble
  extract_lets _ _ _ _ x1 b2
  clear_value x1
  have h2 : b2.Guarded := .ite h.dropPebble h
  split
  · exact h2.withLink
  · split
    · exact h
    · exact .ite h.dropPebble (.ite h.withLink (.ite h.dropPebble h.withLink.holdPebble))

theorem Block.Guarded.occupyDu (h : b.Guarded) {ns} : (b.occupyDu ns).Guarded := h.withPhys
theorem Block.Guarded.sendOn (h : b.Guarded) {p f} : (b.sendOn p f).Guarded := .ite (.emit (.ite h.occupyDu h)) h

theorem Block.Guarded.broadcast (h : b.Guarded) {cls payload} : (b.broadcast cls payload).Guarded :=
  .ite h.withLink.sendOn.sendOn h.withLink.sendOn

theorem Block.Guarded.headPulse (h : b.Guarded) {c} : (b.headPulse c).Guarded :=
  .ite (.sendPulse (.ite h.sendPulse.occupyDu h)) (.ite h.sendPulse.occupyDu h)

theorem Block.Guarded.sendReference (h : b.Guarded) : b.sendReference.Guarded := .ite h.withLink.sendOn.sendOn h.withLink.sendOn
theorem Block.Guarded.sendChainConfig (h : b.Guarded) : b.sendChainConfig.Guarded := .ite h.withLink h.broadcast

/-! #### CAN FD -/

theorem Block.Guarded.judgeCan (h : b.Guarded) : b.judgeCan.Guarded := .ite h.put h
theorem Block.Guarded.canReceived (h : b.Guarded) : b.canReceived.Guarded := h.put.judgeCan
theorem Block.Guarded.canFrame (h : b.Guarded) {k l} : (b.canFrame k l).Guarded := .ite h.emit.put.judgeCan.put.withFree h.emit.put.judgeCan
theorem Block.Guarded.canAlarms (h : b.Guarded) : b.canAlarms.Guarded := .foldl (fun _ _ h => h.canFrame) h.withHost

theorem Block.Guarded.canBusError (h : b.Guarded) {transmit} : (canBusError transmit b).Guarded :=
  .ite h (.ite h.countUp.judgeCan (.ite h.put.judgeCan h.put.put.countUp.withHost))

theorem Block.Guarded.canResume (h : b.Guarded) : b.canResume.Guarded := .foldl (fun _ _ h => h.canFrame) h.withHost.canAlarms
theorem Block.Guarded.canBusOffRecovery (h : b.Guarded) : (canBusOffRecovery b).Guarded := .ite (.ite h.putAll h.putAll.canResume) h

theorem Block.Guarded.canConfigApply (h : b.Guarded) : (canConfigApply b).Guarded :=
  .ite h (.ite h.withHost.put (.ite h.withHost (.ite h.withHost.put (.ite h.withHost.put.judgeCan h.withHost))))

theorem Block.Guarded.canAlarmFrame (h : b.Guarded) : (canAlarmFrame b).Guarded := by
  unfold Machine.canAlarmFrame
  split
  · exact h
  · exact .ite h.withHost.canFrame h

theorem Block.Guarded.ignoredFrame (h : b.Guarded) : (ignoredFrame b).Guarded := .ite h.canReceived.count32 h
theorem Block.Guarded.canRespond (h : b.Guarded) {l} : (b.canRespond l).Guarded := .ite h.canAlarms.canFrame (.ite h.withHost h)
theorem Block.Guarded.queueFragments (h : b.Guarded) {cls l} : (b.queueFragments cls l).Guarded := .ite h (.withHost (.ite h.count32 h))
theorem Block.Guarded.streamToHost (h : b.Guarded) {cls} : (b.streamToHost cls).Guarded := .ite h.queueFragments (.ite h.queueFragments h)

theorem Block.Guarded.canTrainStream (h : b.Guarded) {cls} : (canTrainStream cls b).Guarded := by
  unfold Machine.canTrainStream
  split
  · exact h
  · split
    · exact h
    · exact .foldl (fun _ _ h => h.canFrame) h.withHost.canAlarms

theorem Block.Guarded.countTrain (h : b.Guarded) {cls} : (b.countTrain cls).Guarded := h.withLink
theorem Block.Guarded.sendKeeper (h : b.Guarded) {payload} : (b.sendKeeper payload).Guarded := .broadcast (.ite h.attend h)

theorem Block.Guarded.forwardKeeper (h : b.Guarded) {header payload} : (b.forwardKeeper header payload).Guarded := by
  unfold Block.forwardKeeper
  extract_lets _ _ b3
  have h3 : b3.Guarded := .ite h.countTrain.storeRecord.queueFragments h.countTrain.storeRecord
  exact .ite h3.withLink h3.sendKeeper

theorem Block.Guarded.keeperForward (h : b.Guarded) {header payload t} : (keeperForward header payload t b).Guarded :=
  .ite h.at.takePebble.forwardKeeper h.at

/-! #### Clocks and chain time -/

theorem Block.Guarded.enterTb (h : b.Guarded) {st} : (b.enterTb st).Guarded :=
  .ite (.clearLive (.put (.ite h.withTb h))) (.flagWindow (.put (.ite h.withTb h)))

theorem Block.Guarded.enterHoldover (h : b.Guarded) : b.enterHoldover.Guarded := h.enterTb.raise
theorem Block.Guarded.tbCycle (h : b.Guarded) : b.tbCycle.Guarded := .ite h.withTb h

theorem Block.Guarded.shiftInstants (h : b.Guarded) {d} : (b.shiftInstants d).Guarded :=
  h.withPower.withThermal.withLanes.withGov.withTb.withWin.withKeeper.withImp.withPhys.withLink.withDiag

theorem Block.Guarded.stepTime (h : b.Guarded) {c} : (b.stepTime c).Guarded := by
  unfold Block.stepTime
  extract_lets _ _ b1
  have h1 : b1.Guarded := h.withTb
  exact .ite h1.shiftInstants.spoilWindow h1.shiftInstants

theorem Block.Guarded.countMissed (h : b.Guarded) {nominal} : (b.countMissed nominal).Guarded := by
  unfold Block.countMissed
  split
  · exact .ite h h.countUp
  · exact h

theorem Block.Guarded.judgeSync (h : b.Guarded) {c} : (b.judgeSync c).Guarded := by
  unfold Block.judgeSync
  extract_lets _ _ kept stepped
  have hk : ∀ {b}, b.Guarded → (kept b).Guarded := fun h => h.withTb.enterTb
  have hs : ∀ {b}, b.Guarded → (stepped b).Guarded := fun h => h.stepTime.withTb.enterTb
  clear_value kept stepped
  refine .ite (hs h) (.ite (.ite (hk h) ?_) (.ite (.ite (hk h) (hs h)) h))
  exact .ite (hs h.countUp).raise h.countUp.withTb

theorem Block.Guarded.sync (h : b.Guarded) {t stampPs} : (sync t stampPs b).Guarded := by
  unfold Machine.sync
  extract_lets
  split
  · exact h.at.heard
  · split
    · exact h.at.heard.withTb
    · exact h.at.heard.countMissed.withTb.put.judgeSync

theorem Block.Guarded.settleMissed (h : b.Guarded) : b.settleMissed.Guarded := h.countMissed.withTb
theorem Block.Guarded.syncMissing (h : b.Guarded) {t} : (syncMissing t b).Guarded := .ite h.at h.at.settleMissed.withTb.enterHoldover
theorem Block.Guarded.slewStep (h : b.Guarded) : (slewStep b).Guarded := .ite h h.withTb

theorem Block.Guarded.switchReference (h : b.Guarded) {source} : (b.switchReference source).Guarded := by
  unfold Block.switchReference
  extract_lets _ b2
  have h2 : b2.Guarded := .ite h.put.spoilWindow h.put
  exact .ite (.ite h2.withTb h2.withTb.enterHoldover) h2.withTb.enterTb

theorem Block.Guarded.pllReferenceSwitch (h : b.Guarded) {p} : (pllReferenceSwitch p b).Guarded := .ite h h.switchReference

theorem Block.Guarded.symbolLockLoss (h : b.Guarded) {p} : (symbolLockLoss p b).Guarded :=
  .ite h (.ite h.put.enterHoldover (.ite h.put.enterTb h.put))

theorem Block.Guarded.chainReferenceSend (h : b.Guarded) {t} : (chainReferenceSend t b).Guarded := .ite h.at.sendReference h.at

theorem Block.Guarded.turnTo (h : b.Guarded) {p} : (b.turnTo p).Guarded := by
  unfold Block.turnTo
  split
  · exact h
  · extract_lets _ _ _ _ b3
    have h3 : b3.Guarded := .ite h.withLink.withTb.putAll.spoilWindow h.withLink.withTb.putAll
    split
    · exact .ite h3 h3.enterHoldover
    · exact h.withLink.withTb.putAll.switchReference

theorem Block.Guarded.followRing (h : b.Guarded) : b.followRing.Guarded := .ite h h.turnTo

theorem Block.Guarded.chainReference (h : b.Guarded) {p next} : (chainReference p next b).Guarded := by
  unfold Machine.chainReference
  split
  · exact h
  · extract_lets b1 _ b2
    have h1 : b1.Guarded := .ite h.turnTo h
    have h2 : b2.Guarded := .ite h1.settleMissed h1
    exact .ite h1 (.ite h2.withTb.withTb.enterTb h2.withTb)

theorem Block.Guarded.chainTimeWritten (h : b.Guarded) {v} : (b.chainTimeWritten v).Guarded := by
  unfold Block.chainTimeWritten
  extract_lets _ _ b1
  have h1 : b1.Guarded := h.withTb
  exact .ite h1.shiftInstants h1.shiftInstants.sendReference

theorem Block.Guarded.gate (h : b.Guarded) {k bad need} : (b.gate k bad need).Guarded := h.withTb

theorem Block.Guarded.judgeClock (h : b.Guarded) {k bad} : (b.judgeClock k bad).Guarded :=
  .ite (.ite (.raiseExactly (.ite h (.reason (.put (.ite h.withTb.spoilWindow h.withTb))))) h.raise) (.ite h h.clearLive)

theorem Block.Guarded.clockMonitorGate (h : b.Guarded) {k count} : (clockMonitorGate k count b).Guarded := .ite h h.gate.judgeClock
theorem Block.Guarded.faultRcCheck (h : b.Guarded) {count} : (faultRcCheck count b).Guarded := .ite h h.gate.judgeClock

/-! #### The flash -/

/-- The P entry of a record that a load takes is not UnlockState (R43, R441). -/
theorem Block.unlockState_ne_of_pSubs {ix sub : Nat} {o : Obj} {e : Entry} (found : findObj ix = some o)
    (persistent : sub ∈ b.pSubs o) (entry : o.entry sub = some e) : Ob.unlockState ≠ keyOf ix sub := fun key => by
  obtain ⟨-, -, pers⟩ := entry_of_unlockState found entry key
  simp [Block.pSubs, entry, pers] at persistent

theorem Block.Guarded.loadEntry_fst (h : b.Guarded) {ix sub value} : (b.loadEntry ix sub value).1.Guarded := by
  unfold Block.loadEntry
  split
  · exact h
  · next found =>
    split
    · exact h
    · next provided =>
      split
      · split
        · exact h.withSocTable
        · exact h
      · split
        · split
          · exact h.withTempCurve
          · exact h
        · split
          · exact h
          · next entry =>
            extract_lets
            split
            · exact h.put (Block.unlockState_ne_of_pSubs found (by simp at provided; exact provided.2) entry)
            · exact h

theorem Block.Guarded.loadEntries_fst (h : b.Guarded) {n l skipped} : (b.loadEntries n l skipped).1.Guarded := by
  induction n generalizing b l skipped with
  | zero => exact h
  | succ n ih =>
    unfold Block.loadEntries
    split
    · exact h
    · exact ih h.loadEntry_fst

theorem Block.Guarded.seedFrom (h : b.Guarded) {n l} : (b.seedFrom n l).Guarded := by
  unfold Block.seedFrom
  extract_lets take
  have ht : ∀ {b} ix, Ob.unlockState ≠ keyOf ix 0 → b.Guarded → (take b ix).Guarded := fun ix other h => by
    unfold take
    split
    · exact h.put other
    · exact h
  exact (ht 0x3011 (by decide) (ht 0x1011 (by decide) h)).seedPaths

theorem Block.Guarded.nvmFlag (h : b.Guarded) {bit on} : (b.nvmFlag bit on).Guarded := h.putBit
theorem Block.Guarded.recordFault (h : b.Guarded) {id} : (b.recordFault id).Guarded := h.raise.withNvm

theorem Block.Guarded.loadDictionary (h : b.Guarded) {m} : (b.loadDictionary m).Guarded := by
  unfold Block.loadDictionary
  extract_lets _ _ _ _ _ x1 _ _ _ _ _ _ _ _ _ _ b6
  clear_value x1
  have h6 : b6.Guarded := .ite h.withNvm.nvmFlag.nvmFlag.nvmFlag.recordFault h.withNvm.nvmFlag.nvmFlag.nvmFlag
  split
  · exact h6
  · exact h6.seedFrom.loadEntries_fst.nvmFlag.putAll

theorem Block.Guarded.judgeEndurance (h : b.Guarded) : b.judgeEndurance.Guarded := .ite h.put.nvmFlag h.put
theorem Block.Guarded.countCorrected (h : b.Guarded) {l} : (b.countCorrected l).Guarded := h.countUp
theorem Block.Guarded.correctAgain (h : b.Guarded) {base len} : (b.correctAgain base len).Guarded := h.countCorrected

theorem Block.Guarded.readFlash (h : b.Guarded) {base len record} : (b.readFlash base len record).Guarded :=
  .ite h.correctAgain.recordFault h.correctAgain

theorem Block.Guarded.readSummaries (h : b.Guarded) : b.readSummaries.Guarded := by
  unfold Block.readSummaries
  split
  · exact h
  · exact h.readFlash

theorem Block.Guarded.noteReadBack (h : b.Guarded) {p r record} : (b.noteReadBack p r record).Guarded :=
  .ite h.countCorrected.withNvm h.countCorrected.withNvm.recordFault

theorem Block.Guarded.startRecord (h : b.Guarded) {kind} : (b.startRecord kind).Guarded := h.withNvm.put.put
theorem Block.Guarded.startSummary (h : b.Guarded) {m thenShip} : (b.startSummary m thenShip).Guarded := h.withNvm.put.put
theorem Block.Guarded.endProgram (h : b.Guarded) {p result} : (b.endProgram p result).Guarded := h.withNvm.put.put.event.followReasons
theorem Block.Guarded.acceptSave (h : b.Guarded) : b.acceptSave.Guarded := h.startRecord

theorem Block.Guarded.restoreDefaults (h : b.Guarded) {keepRwu} : (b.restoreDefaults keepRwu).Guarded := by
  unfold Block.restoreDefaults
  extract_lets _ b2
  have h2 : b2.Guarded := .ite (h.filterDict fun _ _ _ => rfl).withSocTable.withTempCurve
      (.foldl (fun _ _ h => h.editCh) (h.filterDict fun _ _ _ => rfl).withSocTable.withTempCurve)
  exact .ite h2.put.put h2

theorem Block.Guarded.acceptRestore (h : b.Guarded) {all} : (b.acceptRestore all).Guarded := h.withNvm.put.restoreDefaults.startRecord
theorem Block.Guarded.snoopNvm (h : b.Guarded) {l} : (b.snoopNvm l).Guarded := h.put

theorem Block.Guarded.sectorEraseComplete_snd (h : b.Guarded) {m} : (sectorEraseComplete m b).2.Guarded := by
  unfold Machine.sectorEraseComplete
  split
  · exact h
  · split
    · exact h
    · extract_lets
      split
      · exact h.withNvm.judgeEndurance
      · exact h.withNvm.judgeEndurance.endProgram

theorem Block.Guarded.pageProgram_snd (h : b.Guarded) {m} : (pageProgram m b).2.Guarded := by
  unfold Machine.pageProgram
  split
  · exact h
  · split
    · exact h
    · extract_lets
      split
      · exact h.withNvm.snoopNvm.endProgram
      · exact h.withNvm.snoopNvm

theorem Block.Guarded.switchDictBank (h : b.Guarded) {p} : (b.switchDictBank p).Guarded :=
  .ite h.withNvm.putAll.nvmFlag.nvmFlag.nvmFlag.clearLive h.withNvm.putAll.nvmFlag.nvmFlag.nvmFlag

theorem Block.Guarded.saveReadBack (h : b.Guarded) {r} : (b.saveReadBack r).Guarded := by
  unfold Block.saveReadBack
  split
  · exact h
  · split
    · exact h
    · extract_lets
      exact .ite h.noteReadBack.switchDictBank.judgeEndurance.endProgram (.ite h.noteReadBack.endProgram h.noteReadBack.withNvm)

theorem Block.Guarded.switchSummaryBank (h : b.Guarded) {p} : (b.switchSummaryBank p).Guarded :=
  .ite h.withNvm.put.nvmFlag.clearLive h.withNvm.put.nvmFlag

theorem Block.Guarded.operatingHour (h : b.Guarded) : (operatingHour b).Guarded := .ite h.count32 h

/-! #### The thermal ladder -/

theorem Block.Guarded.formHottest (h : b.Guarded) : b.formHottest.Guarded := by
  unfold Block.formHottest
  split
  · exact h.putAll
  · exact h.putAll.put

theorem Block.Guarded.laneThermometerInterval (h : b.Guarded) {t lanes} : (laneThermometerInterval t lanes b).Guarded := by
  unfold Machine.laneThermometerInterval
  extract_lets _ b2
  have h2 : b2.Guarded := by
    unfold b2
    refine .foldl (fun b x h => ?_) h.at
    split
    · exact h.put
    · exact h
  exact .ite h.at (.ite h2.formHottest.withThermal.put h2.formHottest.withThermal)

theorem Block.Guarded.excludeLane (h : b.Guarded) {hottest k} : (b.excludeLane hottest k).Guarded :=
  .ite (.raiseAtLeast (.ite h.putBit.reason.put h.putBit.reason)) (.raise (.ite h.putBit.reason.put h.putBit.reason))

theorem Block.Guarded.crossCheck (h : b.Guarded) : b.crossCheck.Guarded := .withThermal (.foldl (fun _ _ h => h.excludeLane) h)

theorem Block.Guarded.housekeepingRound (h : b.Guarded) {t slices} : (housekeepingRound t slices b).Guarded := by
  unfold Machine.housekeepingRound
  extract_lets _ b2 b3
  have h2 : b2.Guarded := by
    unfold b2
    refine .foldl (fun b x h => ?_) h.at
    split
    · exact h.put
    · exact h
  have h3 : b3.Guarded := .foldl (fun _ _ h => h.put) h2
  exact .ite h.at h3.crossCheck

theorem Block.Guarded.setLevel (h : b.Guarded) {n} : (b.setLevel n).Guarded := by
  unfold Block.setLevel
  extract_lets _ _ _ _ b3
  have h3 : b3.Guarded := .ite h.put.put.withThermal.askAveraging h.put.put.withThermal
  exact .ite h3.reason.raise (.ite h3.reason.clearLive h3.reason)

theorem Block.Guarded.throttleEvaluation (h : b.Guarded) {t} : (throttleEvaluation t b).Guarded := by
  unfold Machine.throttleEvaluation
  extract_lets _ _ _ _ _ _ b3 b4
  have h3 : b3.Guarded := .ite h.at.put.withThermal h.at.put
  have h4 : b4.Guarded := .ite (.ite h3.raise h3) h3.clearLive
  exact .ite h.at (.ite h4.setLevel (.ite h4.setLevel h4))

theorem Block.Guarded.wantSummary (h : b.Guarded) {m} : (b.wantSummary m).Guarded :=
  .ite h.withNvm (.ite h.withNvm.readSummaries.startSummary h.withNvm.readSummaries)

theorem Block.Guarded.settleJournal (h : b.Guarded) : b.settleJournal.Guarded := .ite h.drainAll h

theorem Block.Guarded.preShutdown (h : b.Guarded) {m} : (preShutdown m b).Guarded :=
  .ite h (.wantSummary (.settleJournal (.ite h.raise.faultCycle.put h.raise.faultCycle.put.setLevel)))

theorem Block.Guarded.preShutdownEnd (h : b.Guarded) {t} : (preShutdownEnd t b).Guarded := by
  unfold Machine.preShutdownEnd
  extract_lets
  split
  · exact .ite h.at.clearLive h.at
  · exact h.at

theorem Block.Guarded.summaryWrite (h : b.Guarded) {m} : (summaryWrite m b).Guarded := .ite h.settleJournal.wantSummary h

/-! #### Impedance -/

theorem Block.Guarded.editEntry (h : b.Guarded) {k f} : (b.editEntry k f).Guarded := h.withImp

theorem Block.Guarded.putTemp (h : b.Guarded) {i status value} : (b.putTemp i status value).Guarded := by
  unfold Block.putTemp
  extract_lets
  split
  · exact h.put.put
  · exact h.put

theorem Block.Guarded.staleTemps (h : b.Guarded) {k p} : (b.staleTemps k p).Guarded := .ite (.foldl (fun _ _ h => .ite h h.putTemp) h) h
theorem Block.Guarded.discardResults (h : b.Guarded) {k} : (b.discardResults k).Guarded := h.editEntry.staleTemps

theorem Block.Guarded.endAmbient (h : b.Guarded) {k code} : (b.endAmbient k code).Guarded := by
  unfold Block.endAmbient
  split
  · exact h
  · extract_lets
    split
    · exact h.editEntry
    · exact .ite h.editEntry.editEntry h.editEntry.discardResults

theorem Block.Guarded.endKeeper (h : b.Guarded) {k} : (b.endKeeper k).Guarded := by
  unfold Block.endKeeper
  extract_lets
  split
  · exact h
  · split
    · exact h.withKeeper
    · exact h.withKeeper.noteSat.withKeeper

theorem Block.Guarded.excite (h : b.Guarded) {i on} : (b.excite i on).Guarded := .ite h.turnOn h.editCh
theorem Block.Guarded.releaseExcited (h : b.Guarded) : b.releaseExcited.Guarded := h.withGov
theorem Block.Guarded.endSequence (h : b.Guarded) {odd even} : (b.endSequence odd even).Guarded := h.withImp

theorem Block.Guarded.beginSettle (h : b.Guarded) {todo x odd even} : (b.beginSettle todo x odd even).Guarded := by
  unfold Block.beginSettle
  extract_lets
  split
  · exact h.releaseExcited.endSequence
  · extract_lets _ _ _ _ _ _ _ _ _ _ b2 b3
    have h2 : b2.Guarded := .foldl (fun _ _ h => .foldl (fun _ _ h => .ite h.editCh h) h) h.releaseExcited
    have h3 : b3.Guarded := .foldl (fun _ _ h => h.excite.noteEdge) h2
    exact h3.withImp

theorem Block.Guarded.activeSequenceStart (h : b.Guarded) {t} : (activeSequenceStart t b).Guarded := .ite h.at h.at.beginSettle

theorem Block.Guarded.excitationEdge (h : b.Guarded) {t} : (excitationEdge t b).Guarded := by
  unfold Machine.excitationEdge
  extract_lets
  split
  · exact h.at
  · exact .foldl (fun _ _ h => .ite h h.excite.noteEdge) h.at

theorem Block.Guarded.addActiveSpan (h : b.Guarded) {lo hi} : (b.addActiveSpan lo hi).Guarded := h.withImp

theorem Block.Guarded.dropActive (h : b.Guarded) {a'} : (b.dropActive a').Guarded := by
  unfold Block.dropActive
  extract_lets
  split
  · exact h.releaseExcited.addActiveSpan
  · exact h.releaseExcited.addActiveSpan.editEntry.staleTemps

theorem Block.Guarded.discardActive (h : b.Guarded) : b.discardActive.Guarded := by
  unfold Block.discardActive
  split
  · exact h
  · exact h.dropActive.endSequence

theorem Block.Guarded.reactSafe (h : b.Guarded) : b.reactSafe.Guarded := .ite h.discardActive h
theorem Block.Guarded.activeIntervalDiscard (h : b.Guarded) : (activeIntervalDiscard b).Guarded := .ite h.discardActive.noteEdges h

theorem Block.Guarded.endActive (h : b.Guarded) {k} : (b.endActive k).Guarded := by
  unfold Block.endActive
  split
  · exact h
  · split
    · exact h
    · split
      · exact h
      · split
        · exact h.discardActive.noteEdges
        · split
          · exact h.addActiveSpan.editEntry.staleTemps.beginSettle.noteEdges
          · exact h.addActiveSpan.editEntry.beginSettle.noteEdges

theorem Block.Guarded.analysisIntervalEnd (h : b.Guarded) {k t} : (analysisIntervalEnd k t b).Guarded := by
  unfold Machine.analysisIntervalEnd
  extract_lets
  exact .ite h.at (.ite h.at.endKeeper (.ite h.at.endKeeper
      (.ite h.at.endKeeper.endAmbient (.ite h.at.endKeeper.endActive h.at.endKeeper))))

theorem Block.Guarded.judgeOutliers (h : b.Guarded) : b.judgeOutliers.Guarded := .ite h h.clearLive

theorem Block.Guarded.outlierCheck (h : b.Guarded) {ch q x nodeMedian} : (b.outlierCheck ch q x nodeMedian).Guarded :=
  .ite (.ite h.withImp.noteSat.raise h.withImp) h.withImp.judgeOutliers

theorem Block.Guarded.outlierEntry (h : b.Guarded) {k l} : (b.outlierEntry k l).Guarded := by
  unfold Block.outlierEntry
  extract_lets
  refine .foldl (fun b x h => ?_) h
  split
  · exact .ite h.outlierCheck h
  · exact h

theorem Block.Guarded.estimateTemp (h : b.Guarded) {i c isNew} : (b.estimateTemp i c isNew).Guarded := by
  unfold Block.estimateTemp
  extract_lets
  split
  · exact h.putTemp
  · split
    · exact h.putTemp
    · split
      · exact h.putTemp
      · split <;> exact h.putTemp

theorem Block.Guarded.estimateTemps (h : b.Guarded) {k l} : (b.estimateTemps k l).Guarded := by
  unfold Block.estimateTemps
  split
  · refine .foldl (fun b x h => ?_) h
    split
    · exact h.estimateTemp
    · exact h
  · exact h

theorem Block.Guarded.dropTemps (h : b.Guarded) : b.dropTemps.Guarded := .ite (.foldl (fun _ _ h => h.putTemp) h) h

theorem Block.Guarded.publishEntry (h : b.Guarded) {k iv item} : (b.publishEntry k iv item).Guarded := by
  unfold Block.publishEntry
  extract_lets _ _ _ _ _ _ b4
  have h4 : b4.Guarded := by
    unfold b4
    split
    · exact h.noteSat.editEntry.withFree.put.put
    · exact h.noteSat.editEntry.withFree
  exact h4.estimateTemps.outlierEntry

theorem Block.Guarded.impedancePublish (h : b.Guarded) {k} : (impedancePublish k b).Guarded := by
  unfold Machine.impedancePublish
  split
  · exact h
  · exact .ite h (.ite h.publishEntry (.ite h h.publishEntry))

theorem Block.Guarded.ambientPairingTimeout (h : b.Guarded) {k} : (ambientPairingTimeout k b).Guarded := by
  unfold Machine.ambientPairingTimeout
  split
  · exact h
  · split
    · exact h.editEntry.discardResults
    · exact h

theorem Block.Guarded.entryChanged (h : b.Guarded) {k} : (b.entryChanged k).Guarded := by
  unfold Block.entryChanged
  extract_lets _ _ b3
  have h3 : b3.Guarded := by
    unfold b3
    split
    · split
      · exact .ite h.discardResults.editEntry (.ite h.discardResults.editEntry.discardActive
          h.discardResults.editEntry.dropActive.beginSettle)
      · exact h.discardResults.editEntry
    · exact h.discardResults.editEntry
  exact h3.dropTemps

theorem Block.Guarded.learnRs (h : b.Guarded) {i est} : (b.learnRs i est).Guarded := h.noteSat.put

theorem Block.Guarded.useStep (h : b.Guarded) {c size} : (b.useStep c size).Guarded :=
  .withFree (.foldl (fun _ _ h => h.outlierCheck) (.foldl (fun _ _ h => h.learnRs) h))

theorem Block.Guarded.matchSteps (h : b.Guarded) : b.matchSteps.Guarded := by
  unfold Block.matchSteps
  split
  · exact h
  · refine .foldl (fun b x h => ?_) h
    split
    · exact .ite h h.withImp.useStep
    · exact h

theorem Block.Guarded.seekStep (h : b.Guarded) : b.seekStep.Guarded := .ite h (.ite h h.withImp.matchSteps)
theorem Block.Guarded.trimE6 (h : b.Guarded) : b.trimE6.Guarded := h.withTb.withImp

/-! #### The state of the cells -/

theorem Block.Guarded.editSoc (h : b.Guarded) {i f} : (b.editSoc i f).Guarded := h.withImp
theorem Block.Guarded.publishSoc (h : b.Guarded) {i} : (b.publishSoc i).Guarded := .ite h.noteSat.put.put h.put.put
theorem Block.Guarded.growU (h : b.Guarded) {i d} : (b.growU i d).Guarded := h.noteSat.editSoc
theorem Block.Guarded.dropSoc (h : b.Guarded) : b.dropSoc.Guarded := .foldl (fun _ _ h => h.publishSoc) h.withImp

theorem Block.Guarded.advanceSoc (h : b.Guarded) {i pack gap timed} : (b.advanceSoc i pack gap timed).Guarded :=
  .ite h.editSoc h.editSoc.editSoc.growU.publishSoc

theorem Block.Guarded.countCharge (h : b.Guarded) {delta changed us} : (b.countCharge delta changed us).Guarded :=
  .ite (.ite h.withImp.withImp h.withImp) (.foldl (fun _ _ h => h.advanceSoc) (.ite h.withImp.withImp h.withImp))

theorem Block.Guarded.shiftAnchors (h : b.Guarded) {d} : (b.shiftAnchors d).Guarded := h.withImp

theorem Block.Guarded.restPoint (h : b.Guarded) {i socv} : (b.restPoint i socv).Guarded := by
  unfold Block.restPoint
  extract_lets
  split
  · exact h.editSoc
  · exact .ite h h.noteSat.put.editSoc

theorem Block.Guarded.excessOf (h : b.Guarded) {i excess} : (b.excessOf i excess).Guarded :=
  .ite h.noteSat.put.editSoc.noteSat.raise (.ite h.noteSat.put.editSoc h.noteSat.put.editSoc.clearLive)

theorem Block.Guarded.excesses (h : b.Guarded) {fresh} : (b.excesses fresh).Guarded := .foldl (fun _ _ h => .ite h h.excessOf) h

theorem Block.Guarded.restCell_fst (h : b.Guarded) {i us quiet mean} : (b.restCell i us quiet mean).1.Guarded := by
  unfold Block.restCell
  extract_lets
  split
  · exact h.editSoc
  · split
    · exact h.editSoc
    · extract_lets
      split
      · exact h.editSoc.editSoc.publishSoc
      · split
        · exact h.editSoc.editSoc.restPoint.publishSoc
        · exact h.editSoc

theorem Block.Guarded.restInterrupted (h : b.Guarded) : b.restInterrupted.Guarded := h.withImp

theorem Block.Guarded.restStep (h : b.Guarded) : b.restStep.Guarded := by
  unfold Block.restStep
  extract_lets _ _ _ _ r
  have hr : r.1.Guarded := by
    refine List.foldlRecOn (motive := fun x : Block × List Nat => x.1.Guarded) _ _ h.withImp fun _ hx _ _ => ?_
    exact hx.restCell_fst
  exact .ite h (.ite h.withImp.restInterrupted hr.excesses)

theorem Block.Guarded.restBroken (h : b.Guarded) : b.restBroken.Guarded := h.withImp
theorem Block.Guarded.restOutside (h : b.Guarded) : b.restOutside.Guarded := .ite h h.restBroken

theorem Block.Guarded.firstSoc (h : b.Guarded) : b.firstSoc.Guarded := by
  unfold Block.firstSoc
  split
  · exact h
  · refine .foldl (fun b x h => ?_) h
    split
    · exact h
    · split
      · exact .ite h h.restCell_fst
      · exact h

theorem Block.Guarded.drift (h : b.Guarded) {seconds} : (b.drift seconds).Guarded :=
  .ite h (.foldl (fun _ _ h => .ite h.growU.publishSoc h) h)

theorem Block.Guarded.impStart (h : b.Guarded) : b.impStart.Guarded := .ite h (.drift (.foldl (fun _ _ h => h.advanceSoc) h.withImp))
theorem Block.Guarded.impStop (h : b.Guarded) : b.impStop.Guarded := .ite h (.foldl (fun _ _ h => .ite h h.putTemp) h.discardActive.withImp)
theorem Block.Guarded.followE6 (h : b.Guarded) : b.followE6.Guarded := .ite h.impStart (.ite h.impStop h)

theorem Block.Guarded.autobalancePeriod (h : b.Guarded) {t} : (autobalancePeriod t b).Guarded := by
  unfold Machine.autobalancePeriod
  extract_lets
  split
  · exact h.at
  · refine .foldl (fun b x h => ?_) h.at
    split
    · exact h
    · split
      · exact h.targetWritten
      · exact h

/-! #### Keeper records and windows -/

theorem Block.Guarded.takeCurrent_fst (h : b.Guarded) {p} : (b.takeCurrent p).1.Guarded :=
  .ite h.withKeeper.noteSat.putAll h.withKeeper.noteSat.putAll.put.put

theorem Block.Guarded.takeSchedule (h : b.Guarded) {p} : (b.takeSchedule p).Guarded := by
  unfold Block.takeSchedule
  extract_lets
  split
  · exact h.withWin.withWin
  · exact .ite h.withWin.withWin (.ite h.withWin.withWin.withWin h.withWin.withWin)

theorem Block.Guarded.takeHarmonics (h : b.Guarded) {p} : (b.takeHarmonics p).Guarded :=
  .foldl (fun _ _ h => .ite h (.ite (.withKeeper (.ite h.editEntry h)) (.ite h.editEntry h))) h

theorem Block.Guarded.takeSteps (h : b.Guarded) {p} : (b.takeSteps p).Guarded := h.withImp.matchSteps

theorem Block.Guarded.takeBase (h : b.Guarded) {p} : (b.takeBase p).Guarded :=
  h.takeCurrent_fst.takeSchedule.takeHarmonics.takeSteps.countCharge.restOutside.restStep

theorem Block.Guarded.takePhasor (h : b.Guarded) {p} : (b.takePhasor p).Guarded := .ite h h.editEntry
theorem Block.Guarded.takeRecord (h : b.Guarded) {p} : (b.takeRecord p).Guarded := .ite h (.ite h.takeBase (.ite h.takePhasor h))

theorem Block.Guarded.withOwnRecord (h : b.Guarded) {f} (hf : ∀ {b}, b.Guarded → (f b).Guarded) : (b.withOwnRecord f).Guarded := by
  unfold Block.withOwnRecord
  extract_lets _ _ _ b2
  have h2 : b2.Guarded := .foldl (fun _ _ h => h.takeRecord) (hf h)
  exact .ite (.foldl (fun _ _ h => h.forwardKeeper) h2.withKeeper) h2

theorem Block.Guarded.keeperRecord (h : b.Guarded) {p t} : (keeperRecord p t b).Guarded := .ite h.at h.at.takeRecord
theorem Block.Guarded.noteConducted (h : b.Guarded) : b.noteConducted.Guarded := h.withImp.withGov

theorem Block.Guarded.publishAll (h : b.Guarded) : b.publishAll.Guarded :=
  .ite (h.noteConducted.withOwnRecord fun h => h.publishWindow).firstSoc.restStep h

theorem Block.Guarded.windowPublish (h : b.Guarded) {t} : (windowPublish t b).Guarded := .ite h.at.publishAll h.at

theorem Block.Guarded.noteSpoiled (h : b.Guarded) : b.noteSpoiled.Guarded := by
  unfold Block.noteSpoiled
  split
  · exact .ite h.spoil h
  · exact h

theorem Block.Guarded.publishLate (h : b.Guarded) {t} : (b.publishLate t).Guarded := by
  unfold Block.publishLate
  split
  · exact .ite h.publishAll h
  · exact h

theorem Block.Guarded.passBoundary (h : b.Guarded) {t} : (b.passBoundary t).Guarded :=
  (h.at.publishLate.withOwnRecord fun h => h.windowBoundary.noteSpoiled)

theorem Block.Guarded.holdAggregate (h : b.Guarded) {p} : (b.holdAggregate p).Guarded := .ite (.withImp (.ite h.putAll h)) (.ite h.putAll h)
theorem Block.Guarded.chainAggregate (h : b.Guarded) {p} : (chainAggregate p b).Guarded := .ite h.holdAggregate h

/-! #### Faults and engines -/

theorem Block.Guarded.faultRegistration (h : b.Guarded) : (faultRegistration b).Guarded := .ite h.faultCycle.reactSafe h
theorem Block.Guarded.captureFifoDrain (h : b.Guarded) {t} : (captureFifoDrain t b).Guarded := .ite h.at.drainOne h.at
theorem Block.Guarded.judgeHeadFlt (h : b.Guarded) : b.judgeHeadFlt.Guarded := .ite h.setFlt.queueAlarm h
theorem Block.Guarded.releaseFlt (h : b.Guarded) : b.releaseFlt.Guarded := .ite h.judgeHeadFlt h.setFlt
theorem Block.Guarded.lowerHold (h : b.Guarded) {next} : (b.lowerHold next).Guarded := .ite h.put.event.releaseFlt h.put.event
theorem Block.Guarded.safeStateExit (h : b.Guarded) {t} : (safeStateExit t b).Guarded := .ite h.at.lowerHold h.at
theorem Block.Guarded.ackSource (h : b.Guarded) {s} : (b.ackSource s).Guarded := .ite h.withFlint.dropLatch h.withFlint

theorem Block.Guarded.acknowledge (h : b.Guarded) {v} : (b.acknowledge v).Guarded :=
  .followReasons (.event (.withJournal (.foldl (fun _ _ h => h.ackSource) h)))

theorem Block.Guarded.judgeEngines (h : b.Guarded) : b.judgeEngines.Guarded := .ite h.clearLive h

theorem Block.Guarded.engineWatchdogExpiry (h : b.Guarded) {k t} : (engineWatchdogExpiry k t b).Guarded := by
  unfold Machine.engineWatchdogExpiry
  extract_lets _ _ _ _ _ b3 b4 b5
  have h3 : b3.Guarded := .ite h.at.withDiag.flagWindow h.at.withDiag
  have h4 : b4.Guarded := .ite h3.reason h3
  have h5 : b5.Guarded := .ite h4.raiseExactly h4.raise
  exact .ite h.at h5.followE6

theorem Block.Guarded.engineRestart (h : b.Guarded) {k dictionaryOk m} : (engineRestart k dictionaryOk m b).Guarded := by
  unfold Machine.engineRestart
  split
  · exact h
  · extract_lets _ _ _ _ b3 b4
    have h3 : b3.Guarded := .ite h.withDiag.restoreDefaults.correctAgain.loadDictionary.withNvm.keeperMoved.followRing.judgeDiag
        h.withDiag
    have h4 : b4.Guarded := .ite h3.drainFifos (.ite h3.drainE4 h3)
    exact h4.followE6.judgeEngines

theorem Block.Guarded.engineSelfTest (h : b.Guarded) {k passed} : (engineSelfTest k passed b).Guarded :=
  .ite h (.ite h.withDiag.judgeEngines h.withDiag.raise)

theorem Block.Guarded.engineLoadMeasurement (h : b.Guarded) {percent} : (engineLoadMeasurement percent b).Guarded :=
  .ite h (List.foldlRecOn (motive := Block.Guarded) _ _ h fun _ h k mem => h.put (by have := List.mem_range.mp mem; grind))

theorem Block.Guarded.memoryError (h : b.Guarded) {memory address double} : (memoryError memory address double b).Guarded :=
  .ite h (.ite h.raise (.ite h.withBedrock h))

theorem Block.Guarded.memoryScrub (h : b.Guarded) {errors} : (memoryScrub errors b).Guarded := .foldl (fun _ _ h => h.memoryError) h

/-- UnlockState is not among the objects of the signature (R405). -/
theorem Block.signed_unlockState (b : Block) : b.signed (Ob.unlockState / 256) = false := by
  have volatile : ∀ o ∈ objTable, o.ix = Ob.unlockState / 256 → (o.entries.any fun e => e.pers == .p) = false := by decide +kernel
  have none_signed : (b.pObjects.any (·.ix == Ob.unlockState / 256)) = false := by
    simp only [Block.pObjects, List.any_filter, List.any_eq_false]
    intro o member both
    simp only [Bool.and_eq_true, beq_iff_eq] at both
    obtain ⟨⟨-, persistent⟩, index⟩ := both
    rw [volatile o member index] at persistent
    cases persistent
  rw [Block.signed, none_signed, Bool.and_false]

theorem Block.Guarded.configSignatureCheck (h : b.Guarded) {corrupt} : (configSignatureCheck corrupt b).Guarded := by
  unfold Machine.configSignatureCheck
  split
  · exact h
  · extract_lets b1
    have h1 : b1.Guarded := by
      unfold b1
      split
      · next k v =>
        split
        · next signed =>
          refine (h.put ?_).withNvm
          rintro rfl
          simp [b.signed_unlockState] at signed
        · exact h
      · exact h
    split
    · exact h1
    · exact h1.raise

theorem Block.Guarded.fltReadback (h : b.Guarded) {level us} : (fltReadback level us b).Guarded :=
  .ite h (.ite (.ite h.putBit.reason.raise h.putBit) (.ite h.putBit (.ite h.putBit h)))

theorem Block.Guarded.tapPassed (h : b.Guarded) {ch ranB} : (b.tapPassed ch ranB).Guarded := by
  unfold Block.tapPassed
  split
  · exact .ite h.withLanes.clearLive h
  · exact h

theorem Block.Guarded.openSlot (h : b.Guarded) {ch start ranB release} : (b.openSlot ch start ranB release).Guarded := h.holdSlot.withLanes

theorem Block.Guarded.runSlot (h : b.Guarded) {ch start again phaseA phaseB} : (b.runSlot ch start again phaseA phaseB).Guarded := by
  unfold Block.runSlot
  extract_lets _ _ x1
  clear_value x1
  split
  · exact h.openSlot.tapPassed
  · extract_lets b3 _ b4
    have h3 : b3.Guarded := by
      unfold b3
      split
      · split
        · exact h.openSlot.tapPassed
        · exact h.openSlot
      · exact h.openSlot
    have h4 : b4.Guarded := .ite h3.withLanes h3
    exact .ite h4.raise h3.withLanes

theorem Block.Guarded.takeSlot (h : b.Guarded) {index} : (b.takeSlot index).Guarded := h.withLanes

theorem Block.Guarded.openWireSlot (h : b.Guarded) {t index phaseA phaseB} : (openWireSlot t index phaseA phaseB b).Guarded :=
  .ite h.at (.ite h.at.takeSlot.releaseSlot.runSlot (.ite h.at.withLanes h.at))

theorem Block.Guarded.openWireRepeat (h : b.Guarded) {phaseA phaseB} : (openWireRepeat phaseA phaseB b).Guarded := by
  unfold Machine.openWireRepeat
  split
  · exact h
  · exact .ite h h.at.withLanes.releaseSlot.runSlot

/-! #### Power states -/

theorem Block.get_unlockState_setMode (b : Block) (m : Mode) : (b.setMode m).get Ob.unlockState = b.get Ob.unlockState :=
  Block.get_put_other _ _ (by decide)

/-- Outside Standby a guarded block is locked, so any state may follow. -/
theorem Block.Guarded.setMode (h : b.Guarded) {m} (left : b.power.mode ≠ .standby) : (b.setMode m).Guarded :=
  .of_locked ((b.get_unlockState_setMode m).trans (h.locked left))

theorem Block.setMode_standby_guarded (b : Block) : (b.setMode .standby).Guarded := .of_standby rfl

/-- A node that measures is not in Standby (R72). -/
theorem Block.measuring_left (h : b.measuring = true) : b.power.mode ≠ .standby := fun e => by simp [Block.measuring, e] at h

theorem Block.inFull_left (h : b.inFull = true) : b.power.mode ≠ .standby := fun e => by simp [Block.inFull, e] at h

theorem Block.Guarded.stopMeasuring (h : b.Guarded) : b.stopMeasuring.Guarded := .ite h (Block.setMode_standby_guarded _)

theorem Block.Guarded.dryCheck (h : b.Guarded) {ack} : (b.dryCheck ack).Guarded :=
  .ite h (.foldl (fun _ _ h => .raise (.foldl (fun _ _ h => h.disable) h)) h)

theorem Block.Guarded.zeroTheta (h : b.Guarded) : b.zeroTheta.Guarded := h.withGov.put
/-- The way to Measure locks (R42, R83). -/
theorem Block.startMeasuring_guarded (b : Block) : b.startMeasuring.Guarded := by
  have locked : ((b.put Ob.unlockState 0).setMode .measure).Guarded :=
    .of_locked ((Block.get_unlockState_setMode _ _).trans (b.get_put_self _ _))
  exact locked.lanesStart.loadWindowSettings.withWin

theorem Block.Guarded.toMeasure (h : b.Guarded) {ack} : (b.toMeasure ack).Guarded := by
  unfold Block.toMeasure
  extract_lets b1
  have h1 : b1.Guarded := by
    unfold b1
    split
    · next full => exact (h.setMode (Block.inFull_left full)).followE6
    · exact b.startMeasuring_guarded
  exact h1.zeroTheta.dryCheck

theorem Block.Guarded.toFull (h : b.Guarded) {ack} : (b.toFull ack).Guarded := by
  unfold Block.toFull
  split
  · exact .ite h h.toMeasure
  · extract_lets b1
    have h1 : b1.Guarded ∧ b1.power.mode ≠ .standby := by
      unfold b1
      split
      · next runs => exact ⟨h, Block.measuring_left runs⟩
      · exact ⟨b.startMeasuring_guarded, by rw [b.startMeasuring_mode]; decide⟩
    obtain ⟨guarded, left⟩ := h1
    exact (guarded.setMode left).followE6.zeroTheta.dryCheck

/-- Every way out of Standby locks (R42, R85). -/
theorem Block.get_unlockState_leaveAwake (b : Block) (m : Mode) : (b.leaveAwake m).get Ob.unlockState = 0 := by
  unfold Block.leaveAwake
  extract_lets _ c c1 c2
  rw [Block.withPower_get, Block.withFlint_get, Block.withPhys_get]
  simp [c1, Block.putAll, Block.get_put]

theorem Block.leaveAwake_guarded (b : Block) (m : Mode) : (b.leaveAwake m).Guarded := .of_locked (b.get_unlockState_leaveAwake m)

theorem Block.enterSleep_guarded (b : Block) (plan : List Planned) : (b.enterSleep plan).Guarded := (Block.leaveAwake_guarded _ _).setFlt
theorem Block.Guarded.clearObjects (h : b.Guarded) {indices} : (b.clearObjects indices).Guarded := h.filterDict fun _ _ _ => rfl
theorem Block.Guarded.forget (h : b.Guarded) : b.forget.Guarded := h.clearObjects.put.withJournal.withFlint.withGov.withImp.withPower
theorem Block.enterShip_guarded (b : Block) : b.enterShip.Guarded := (Block.leaveAwake_guarded _ _).forget.setFlt

theorem Block.enterShutdown_guarded (b : Block) (hot) : (b.enterShutdown hot).Guarded :=
  (Block.leaveAwake_guarded _ _).withNvm.withBedrock.setFlt

theorem Block.Guarded.beginShip (h : b.Guarded) {m} : (b.beginShip m).Guarded :=
  .ite h.settleJournal.readSummaries.startSummary (Block.enterShip_guarded _)

theorem Block.Guarded.beginReset (h : b.Guarded) : b.beginReset.Guarded :=
  h.stopMeasuring.switchesOff.drainAll.withAccess.sendClose.putAll.withPhys.withPower

theorem Block.Guarded.resumePending (h : b.Guarded) {m} : (b.resumePending m).Guarded :=
  .ite h (.ite h.beginShip (.ite (b.enterSleep_guarded _) (.ite h.beginReset h)))

theorem Block.Guarded.wakeTones (h : b.Guarded) {us census} : (b.wakeTones us census).Guarded :=
  .withLink (.withPhys (.ite h.sendTone.sendTone h.sendTone))

theorem Block.Guarded.acceptCommand (h : b.Guarded) {code ack m} : (b.acceptCommand code ack m).Guarded := by
  unfold Block.acceptCommand
  extract_lets
  exact .ite h.event.wakeTones (.ite (.ite h.event.stopMeasuring.put h.event)
      (.ite h.event.toMeasure.put (.ite (.ite h.event h.event.toFull.put) h.event.closeTransfers.withPower.put.resumePending)))

theorem Block.Guarded.powerCommand_snd (h : b.Guarded) {code ack m} : (powerCommand code ack m b).2.Guarded := by
  unfold Machine.powerCommand
  split
  · exact h
  · exact h.acceptCommand

theorem Block.Guarded.commandRow (h : b.Guarded) {code ack m} : (commandRow code ack m b).Guarded :=
  .ite h h.disarm.powerCommand_snd.emit.noteEdges

theorem Block.Guarded.transitionComplete (h : b.Guarded) : (transitionComplete b).Guarded := .ite h.put h

theorem Block.Guarded.commLoss (h : b.Guarded) {t m} : (commLoss t m b).Guarded :=
  .ite h.at h.at.raise.faultCycle.switchesOff.closeTransfers.put.resumePending

theorem Block.afresh_guarded (b : Block) (mode : Mode) : (b.afresh mode).Guarded := (Block.fresh_guarded _ _).withNvm
theorem Block.Guarded.porRelease (h : b.Guarded) : (porRelease b).Guarded := .ite (b.afresh_guarded _).withOut.withFree h
theorem Block.porAssert_guarded (b : Block) : (porAssert b).Guarded := (b.afresh_guarded _).withOut.withFree
theorem Block.Guarded.vstkRangeCheck (h : b.Guarded) {decivolts} : (vstkRangeCheck decivolts b).Guarded := .ite h.raise h
theorem Block.Guarded.vstkInRange (h : b.Guarded) : (vstkInRange b).Guarded := .ite h.clearLive h
theorem Block.Guarded.railBad (h : b.Guarded) {r} : (b.railBad r).Guarded := h.withPower.raise
theorem Block.Guarded.vinLow (h : b.Guarded) : (vinLow b).Guarded := .ite h.railBad h
theorem Block.Guarded.railWindowFault (h : b.Guarded) {r} : (railWindowFault r b).Guarded := .ite h.railBad h
theorem Block.Guarded.railGood (h : b.Guarded) {r} : (railGood r b).Guarded := .ite h (.ite h.withPower.clearLive h.withPower)
theorem Block.Guarded.supplyFail (h : b.Guarded) : (supplyFail b).Guarded := .ite (Block.enterSleep_guarded _ _) h

theorem Block.Guarded.pwrEnComparison (h : b.Guarded) {level} : (pwrEnComparison level b).Guarded :=
  .ite h (.ite h.withPower.reason.raise h.withPower)

theorem Block.Guarded.startWake (h : b.Guarded) {cause slept} : (b.startWake cause slept).Guarded := h.switchesOff.withBedrock.withPower
theorem Block.Guarded.keepWake (h : b.Guarded) {src extended} : (b.keepWake src extended).Guarded := .ite h.withPower h

theorem Block.Guarded.wakeFromSleep (h : b.Guarded) {src slept} : (b.wakeFromSleep src slept).Guarded :=
  .ite h (.startWake (.ite h.withBedrock h))

theorem Block.Guarded.wakeEvent (h : b.Guarded) {src slept} : (wakeEvent src slept b).Guarded := .ite h.wakeFromSleep h.keepWake

theorem Block.Guarded.extendedWakeEvent (h : b.Guarded) {src slept} : (extendedWakeEvent src slept b).Guarded := by
  unfold Machine.extendedWakeEvent
  split
  · split
    · exact h
    · extract_lets b1
      have h1 : b1.Guarded := by
        unfold b1
        split
        · exact .ite h h.emit
        · exact h
      exact .ite h1 h1.startWake
  · exact .ite h.wakeFromSleep h.keepWake

theorem Block.Guarded.deferredWakeStart (h : b.Guarded) {slept} : (deferredWakeStart slept b).Guarded := by
  unfold Machine.deferredWakeStart
  split
  · exact .ite h.startWake h
  · exact h

theorem Block.Guarded.supplyAttemptTimeout (h : b.Guarded) : (supplyAttemptTimeout b).Guarded := .ite h (.ite h.withPower h.withPower)
theorem Block.Guarded.supplyAttemptRetry (h : b.Guarded) : (supplyAttemptRetry b).Guarded := .ite h.withPower h
theorem Block.Guarded.vin5Good (h : b.Guarded) : (vin5Good b).Guarded := .ite h.withPower h

theorem Block.Guarded.coreReset (h : b.Guarded) : b.coreReset.Guarded := by
  unfold Block.coreReset
  extract_lets c
  have hc : c.Guarded := h.clearEveryLive
  exact (hc.filterDict fun _ _ _ => rfl).withOut.withFree

theorem Block.Guarded.coreResetRelease (h : b.Guarded) {strapHigh stackMv} : (coreResetRelease strapHigh stackMv b).Guarded :=
  .ite h h.coreReset.put.withHost.withPower

theorem Block.Guarded.trimChannels (h : b.Guarded) : b.trimChannels.Guarded := .foldl (fun _ _ h => h.editCh.putAll) h.withGov

theorem Block.Guarded.headFollowUp (h : b.Guarded) : b.headFollowUp.Guarded :=
  .ite (.ite h.attend h) (.ite (.wakeTones (.ite h.attend h)) (.ite (.wakeTones (.ite h.attend h)) (.withLink (.ite h.attend h))))

theorem Block.Guarded.engineBootComplete (h : b.Guarded) {r t m} : (engineBootComplete r t m b).Guarded :=
  .ite h (Block.setMode_standby_guarded _).headFollowUp.followReasons

theorem Block.Guarded.bedrockTone (h : b.Guarded) : b.bedrockTone.Guarded := h.emit
theorem Block.Guarded.persistTone (h : b.Guarded) {found now} : (b.persistTone found now).Guarded := .ite h.withBedrock.bedrockTone h
theorem Block.Guarded.endBalancing (h : b.Guarded) {flag} : (b.endBalancing flag).Guarded := h.switchesOff.withBedrock

theorem Block.Guarded.sleepHeat (h : b.Guarded) {lanes} : (b.sleepHeat lanes).Guarded :=
  .ite (Block.enterShutdown_guarded _ _) (.ite h.endBalancing h)

theorem Block.Guarded.periodicCheck (h : b.Guarded) {cells therm lanes bedTime} : (periodicCheck cells therm lanes bedTime b).Guarded :=
  .ite h h.withBedrock.persistTone.sleepHeat

theorem Block.Guarded.confirm (h : b.Guarded) {l bedTime} : (b.confirm l bedTime).Guarded := by
  unfold Block.confirm
  split
  · exact h
  · exact .bedrockTone (.withBedrock (.endBalancing (.ite h.withBedrock h)))

theorem Block.Guarded.crossingConfirmation (h : b.Guarded) {cells therm bedTime} : (crossingConfirmation cells therm bedTime b).Guarded :=
  .ite h (.ite h.withBedrock.persistTone h.withBedrock.confirm)

theorem Block.Guarded.endSleepHalf (h : b.Guarded) {ms} : (b.endSleepHalf ms).Guarded := h.switchesOff.withBedrock.withGov

theorem Block.Guarded.sleepBalancePhase (h : b.Guarded) {odd ms} : (sleepBalancePhase odd ms b).Guarded := by
  unfold Machine.sleepBalancePhase
  split
  · exact h
  · extract_lets
    split
    · exact h.endSleepHalf
    · exact .foldl (fun _ _ h => .ite h.editCh h) h.endSleepHalf

theorem Block.Guarded.sleepBalanceSecond (h : b.Guarded) {lanes} : (sleepBalanceSecond lanes b).Guarded := by
  unfold Machine.sleepBalanceSecond
  split
  · exact h
  · extract_lets _ b1 _ b3
    have h1 : b1.Guarded := .foldl (fun _ _ h => .ite h (.ite (.editCh (.ite h.put.editCh h.put)) (.ite h.put.editCh h.put))) h
    have h3 : b3.Guarded := .ite h1.withBedrock.endBalancing h1.withBedrock
    exact h3.sleepHeat

theorem Block.Guarded.thermalShutdown_snd (h : b.Guarded) {m} : (thermalShutdown m b).2.Guarded := by
  unfold Machine.thermalShutdown
  split
  · exact h
  · exact Block.enterShutdown_guarded _ _

theorem Block.Guarded.shutdownTemperatureCheck (h : b.Guarded) {lanes slept} : (shutdownTemperatureCheck lanes slept b).Guarded :=
  .ite h (.ite h.put.startWake h.put)

/-! #### Storage commands -/

theorem Block.Guarded.afterProgram (h : b.Guarded) {was m} : (b.afterProgram was m).Guarded := by
  unfold Block.afterProgram
  split
  · exact h
  · exact .ite h (.ite (.ite b.enterShip_guarded h) h.resumePending)

theorem Block.Guarded.sectorErase_snd (h : b.Guarded) {m} : (sectorErase m b).2.Guarded := by
  unfold Machine.sectorErase
  split
  · exact h
  · exact h.sectorEraseComplete_snd.afterProgram

theorem Block.Guarded.nvmPage_snd (h : b.Guarded) {m} : (nvmPage m b).2.Guarded := by
  unfold Machine.nvmPage
  split
  · exact h
  · exact h.pageProgram_snd.afterProgram

theorem Block.Guarded.saveComplete (h : b.Guarded) {r m} : (saveComplete r m b).Guarded := .ite h h.saveReadBack.afterProgram

theorem Block.Guarded.summaryWriteComplete (h : b.Guarded) {r m} : (summaryWriteComplete r m b).Guarded := by
  unfold Machine.summaryWriteComplete
  split
  · exact h
  · split
    · exact h
    · extract_lets _ b2
      have h2 : b2.Guarded := .ite h.noteReadBack.switchSummaryBank.judgeEndurance.endProgram h.noteReadBack.endProgram
      exact h2.afterProgram

/-! #### Ports and pulses -/

theorem Block.Guarded.repeatAlarm (h : b.Guarded) : b.repeatAlarm.Guarded := .ite h h.sendAlarm

theorem Block.Guarded.repeatLower (h : b.Guarded) {p c ui} : (b.repeatLower p c ui).Guarded :=
  .ite h.repeatAlarm (.ite h (.ite h.sendPulse h.sendHeld))

theorem Block.Guarded.pulseRepeat (h : b.Guarded) {p ui} : (pulseRepeat p ui b).Guarded := by
  unfold Machine.pulseRepeat
  split
  · exact h
  · extract_lets _ b1 b2
    have h1 : b1.Guarded := .ite (h.count32 (unlockState_ne_pulseErrorsKey p)) h
    have h2 : b2.Guarded := .ite h1 h1.heard
    exact .ite h2 (.ite (.ite h2.sendHeld h2.sendPulse) h2.repeatLower)

theorem Block.Guarded.repeatTone (h : b.Guarded) {p extended} : (b.repeatTone p extended).Guarded :=
  .ite h (.ite (.ite h.sendTone h) (.ite h.emit h))

theorem Block.Guarded.pullWake (h : b.Guarded) {p} : (b.pullWake p).Guarded := .ite (.ite h.withHost.attend h.withHost) h

theorem Block.Guarded.wakeTone (h : b.Guarded) {p extended t slept} : (wakeTone p extended t slept b).Guarded := by
  unfold Machine.wakeTone
  extract_lets b1
  have h1 : b1.Guarded := .ite h.at h
  exact .ite h1 (.ite (.ite h1.pullWake.extendedWakeEvent h1) (.ite h1
      (.ite h1.repeatTone.pullWake.extendedWakeEvent h1.repeatTone.pullWake.wakeEvent)))

theorem Block.Guarded.answerVolts (h : b.Guarded) : b.answerVolts.Guarded := .ite h.withLink h.respond

theorem Block.Guarded.answer (h : b.Guarded) {x} : (b.answer x).Guarded := by
  unfold Block.answer
  split
  · exact h.answerVolts
  · exact h.respond
  · exact h.respond
  · exact h.respond
  · exact h
  · exact h

theorem Block.Guarded.classified (h : b.Guarded) {c t} : (classified c t b).Guarded := .ite h.at.heard.answer h.at.heard

theorem Block.Guarded.streamResponseForm (h : b.Guarded) {c} : (streamResponseForm c b).Guarded := by
  unfold Machine.streamResponseForm
  split
  · exact h
  · extract_lets
    split
    · exact .ite h (.ite h.withLink.respond h.withLink)
    · exact .ite h (.ite h.withLink.respond h.withLink)
    · exact h
    · exact h
    · exact h
    · exact h

theorem Block.Guarded.linkChanged (h : b.Guarded) {p} : (b.linkChanged p).Guarded := .ite h.put.put.withLink h.put.put

theorem Block.Guarded.setLost (h : b.Guarded) {p on} : (b.setLost p on).Guarded := by
  unfold Block.setLost
  split <;> exact h.withPhys

theorem Block.Guarded.portSignalDetect (h : b.Guarded) {p} : (portSignalDetect p b).Guarded :=
  .ite (h.put (unlockState_ne_stateKey p)) h

theorem Block.Guarded.portTrained (h : b.Guarded) {p t} : (portTrained p t b).Guarded := by
  unfold Machine.portTrained
  split
  · exact h
  · extract_lets _ b2
    have h2 : b2.Guarded := .ite (h.at.put (unlockState_ne_stateKey p)).linkChanged.setLost
      (h.at.put (unlockState_ne_stateKey p)).linkChanged.setLost.clearLive
    exact .ite h2.withFlint.sendAlarm h2

theorem Block.Guarded.trainingFail (h : b.Guarded) {p} : (trainingFail p b).Guarded :=
  .ite ((h.put (unlockState_ne_stateKey p)).put (unlockState_ne_causeKey p)) h

theorem Block.Guarded.portDown (h : b.Guarded) {p cause t} : (portDown p cause t b).Guarded := by
  unfold Machine.portDown
  split
  · exact h
  · extract_lets _ b2 b3
    have h2 : b2.Guarded := by
      refine Block.Guarded.count32 (Block.Guarded.linkChanged (h.at.putAll fun x member => ?_)) (unlockState_ne_fallsKey p)
      simp only [List.mem_cons, List.not_mem_nil, or_false] at member
      obtain rfl | rfl := member
      · exact unlockState_ne_stateKey p
      · exact unlockState_ne_causeKey p
    have h3 : b3.Guarded := by
      unfold b3
      split
      · exact h2.countUp (unlockState_ne_codeErrorsKey p)
      · exact h2
      · exact h2
      · exact h2
    exact .ite h3.setLost h3.setLost.raise

/-! #### Reads of the dictionary -/

theorem Block.Guarded.wasRead (h : b.Guarded) {ix} : (b.wasRead ix).Guarded := .ite h.withPower h

/-! #### Writes of the dictionary -/

theorem Block.Guarded.armedLast (h : b.Guarded) {v} : (b.armedLast v).Guarded := h.withAccess

/-- Unlock changes UnlockState in Standby only, whatever is written to it. -/
theorem Block.unlockWritten_guarded (standby : b.power.mode = .standby) {v} : (b.unlockWritten v).2.Guarded := by
  unfold Block.unlockWritten
  split
  · exact .of_standby standby
  · split
    · split <;> exact .of_standby standby
    · exact .of_standby standby

/-- Unlock can be written in Standby only (R41). -/
theorem Block.writeTarget_unlock_standby {sub : Nat} {o : Obj} (h : b.writeTarget 0x1F00 sub = .ok o) : b.power.mode = .standby := by
  have index : o.ix = 0x1F00 := findObj_ix (Block.writeTarget_ok h).1
  unfold Block.writeTarget at h
  split_ifs at h
  split at h
  · cases h
  · extract_lets es at h
    split_ifs at h with _ _ _ state
    cases h
    by_contra left
    simp [Block.writeState, index, left] at state

theorem Block.Guarded.writeUnlock_snd (h : b.Guarded) {sub data most} : (b.writeUnlock sub data most).2.Guarded := by
  unfold Block.writeUnlock
  split
  · exact h.armedLast
  · next target =>
    split
    · exact h.armedLast
    · exact Block.unlockWritten_guarded (Block.writeTarget_unlock_standby target)

theorem Block.Guarded.eachValue (h : b.Guarded) {vals f} (hf : ∀ {b i v}, b.Guarded → (f b i v).Guarded) : (b.eachValue vals f).Guarded :=
  .foldl (fun _ _ h => hf h) h

theorem Block.Guarded.cellCountWritten (h : b.Guarded) {v} : (b.cellCountWritten v).Guarded :=
  .seedPaths (.withImp (.foldl (fun _ _ h => .ite h.put h) (h.put.trimChannels.filterDict fun _ _ _ => rfl)))

theorem Block.Guarded.removedCleared (h : b.Guarded) {i} : (b.removedCleared i).Guarded := h.put.editCh.withImp
theorem Block.Guarded.chargePreset (h : b.Guarded) {v} : (b.chargePreset v).Guarded := h.put.shiftAnchors
theorem Block.Guarded.windowSettingsWritten (h : b.Guarded) : b.windowSettingsWritten.Guarded := .ite h.withWin h

theorem Block.Guarded.functionWritten (h : b.Guarded) {k v} : (b.functionWritten k v).Guarded := by
  unfold Block.functionWritten
  extract_lets _ _ _ _ _ _ _ b5 b6
  have other : Ob.unlockState ≠ Ob.auxFunction + k + 1 := by grind
  have h5 : b5.Guarded := .ite (h.put other).withAux.withThermal.putBit.dropAdvisories (h.put other).withAux.withThermal.putBit
  have h6 : b6.Guarded := .ite h5 h5.clearLive
  exact .ite h (.ite h6 h6.clearLive)

theorem Block.Guarded.ringModeWritten (h : b.Guarded) {v} : (b.ringModeWritten v).Guarded := by
  unfold Block.ringModeWritten
  extract_lets _ _ b2 _ b4
  have h2 : b2.Guarded := .ite (h.put.emit.linkChanged.count32 (unlockState_ne_fallsKey .dl)) h.put
  have h4 : b4.Guarded := .ite h2.put.setLost h2.put.setLost.clearLive
  exact .ite (.ite h.put.put h.put) (.ite h4.withLink.putBit h4)

theorem Block.Guarded.defaultsApplied (h : b.Guarded) : b.defaultsApplied.Guarded := by
  unfold Block.defaultsApplied
  extract_lets _ _ b3 b4
  have h3 : b3.Guarded := .dropTemps (.dropSoc
      (.foldl (fun _ _ h => h.entryChanged) h.askAveraging.windowSettingsWritten.judgeDiag.throttleSourceWritten))
  have h4 : b4.Guarded := .ite h3.ringModeWritten h3.followRing
  exact h4.withHost

theorem Block.Guarded.restoreWritten (h : b.Guarded) {v} : (b.restoreWritten v).Guarded := h.acceptRestore.keeperMoved.defaultsApplied

theorem Block.Guarded.applyValues (h : b.Guarded) {ix vals} (other : ∀ x ∈ vals, Ob.unlockState ≠ x.1) :
    (b.applyValues ix vals).Guarded := by
  unfold Block.applyValues
  extract_lets
  have hv : (b.putAll vals).Guarded := h.putAll other
  exact .ite h.cellCountWritten (.ite h.chainTimeWritten
      (.ite h.withLink (.ite h.ringModeWritten (.ite hv.withHost
      (.ite hv.askAveraging (.ite hv.windowSettingsWritten
      (.ite hv.keeperMoved (.ite h.chargePreset
      (.ite (h.eachValue fun h => h.functionWritten) (.ite h.enableWritten
      (.ite (h.eachValue fun h => h.targetWritten) (.ite (h.eachValue fun h => h.removedCleared)
      (.ite (h.eachValue fun h => h.timerWritten) (.ite (.ite hv.throttleSourceWritten hv)
      (.ite (h.eachValue fun h => h.put.editCh) (.ite h.governorFlagsCleared
      (.ite (h.eachValue fun h => h.channelStateCleared) (.ite h.bleedResistorWritten
      (.ite (List.foldlRecOn (motive := Block.Guarded) _ _ h fun _ h x mem => .ite h (h.put (other x mem)).entryChanged) (.ite h.acknowledge
      (.ite (.ite h.putBit h) (.ite h.withJournal
      (.ite h.acceptSave (.ite h.restoreWritten (.ite hv.judgeDiag hv)))))))))))))))))))))))))

theorem Block.Guarded.applySlices (h : b.Guarded) {ix sl} (other : ∀ x ∈ decodeSlices ix sl, Ob.unlockState ≠ x.1) :
    (b.applySlices ix sl).Guarded :=
  .ite h.withSocTable.dropSoc (.ite h.withTempCurve.dropTemps (h.applyValues other))

theorem Block.Guarded.snoopCfg (h : b.Guarded) {ix sl} : (b.snoopCfg ix sl).Guarded := .foldl (fun _ _ h => .ite h.put h) h

/-- What a write reaches are entries of its object that can be written (R35). -/
theorem Block.slices_writable {o : Obj} {x : Nat × Entry × List Byte} {subs : List Nat} {data : List Byte} (h : x ∈ b.slices o subs data) :
    o.entry x.1 = some x.2.1 ∧ b.writable x.2.1 = true := by
  induction subs generalizing data with
  | nil => cases h
  | cons k t ih =>
    unfold Block.slices at h
    split at h
    · exact ih h
    · next e entry =>
      extract_lets n rest at h
      split at h
      · next writable =>
        obtain rfl | later := List.mem_cons.mp h
        · exact ⟨entry, writable⟩
        · exact ih later
      · exact ih h

/-- UnlockState is not among what an accepted write changes: it is read only (R41). -/
theorem Block.unlockState_ne_of_checkWrite {ix sub most : Nat} {data : List Byte} {o : Obj} {sl : List (Nat × Entry × List Byte)}
    (checked : b.checkWrite ix sub data most = .ok (o, sl)) : ∀ x ∈ decodeSlices o.ix sl, Ob.unlockState ≠ x.1 := by
  obtain ⟨target, -, rfl⟩ := Block.checkWrite_ok checked
  obtain ⟨found, -, -⟩ := Block.writeTarget_ok target
  obtain rfl := findObj_ix found
  rintro _ member key
  obtain ⟨x, reached, rfl⟩ := List.mem_map.mp member
  obtain ⟨entry, writable⟩ := Block.slices_writable reached
  obtain ⟨node, head, -⟩ := entry_of_unlockState found entry key
  simp [Block.writable, Block.accessOf, node, head] at writable

theorem Block.Guarded.applyWrite (h : b.Guarded) {o sl} (other : ∀ x ∈ decodeSlices o.ix sl, Ob.unlockState ≠ x.1) :
    (b.applyWrite o sl).Guarded := by
  unfold Block.applyWrite
  extract_lets _ _ _ b3
  have h3 : b3.Guarded := .ite (h.applySlices other).snoopCfg.withNvm.sendChainConfig (h.applySlices other).snoopCfg.withNvm
  exact h3.noteEdges

theorem Block.Guarded.sendCommand (h : b.Guarded) {p seq payload} : (b.sendCommand p seq payload).Guarded := h.sendOn

theorem Block.Guarded.dispatchOne (h : b.Guarded) {i} : (b.dispatchOne i).Guarded := by
  unfold Block.dispatchOne
  split
  · exact h
  · exact .ite h h.withLink.sendCommand

theorem Block.Guarded.dispatch (h : b.Guarded) : b.dispatch.Guarded := .foldl (fun _ _ h => h.dispatchOne) h
theorem Block.Guarded.askPosition (h : b.Guarded) {p payload w} : (b.askPosition p payload w).Guarded := h.withLink

theorem Block.Guarded.askConsent (h : b.Guarded) {who ix sub data image ps} : (b.askConsent who ix sub data image ps).Guarded :=
  .dispatch (.foldl (fun _ _ h => h.askPosition) h.withLink)

theorem Block.Guarded.writePower_snd (h : b.Guarded) {m sub data most} : (b.writePower m sub data most).2.Guarded := by
  unfold Block.writePower
  split
  · exact h
  · split
    · exact h
    · extract_lets _ r
      have hr : r.2.Guarded := h.powerCommand_snd
      split
      · dsimp only
        exact hr.noteEdges
      · dsimp only
        exact .noteEdges (.ite hr.withFree hr)

theorem Block.Guarded.writeObject_snd (h : b.Guarded) {ix sub data most who} : (b.writeObject ix sub data most who).2.Guarded := by
  unfold Block.writeObject
  split
  · exact h
  · next checked =>
    extract_lets
    split
    · exact h.askConsent
    · dsimp only
      exact h.applyWrite (Block.unlockState_ne_of_checkWrite checked)

theorem Block.Guarded.writeAccess_snd (h : b.Guarded) {m ix sub data most who} : (b.writeAccess m ix sub data most who).2.Guarded := by
  unfold Block.writeAccess
  split
  · exact h.writeUnlock_snd
  · split
    · exact h.disarm.writePower_snd
    · exact h.disarm.writeObject_snd

theorem Block.Guarded.writeRow (h : b.Guarded) {ix sub data m} : (writeRow ix sub data m b).Guarded := by
  unfold Machine.writeRow
  split
  · exact h
  · extract_lets
    split
    · exact h.writeAccess_snd.emit
    · exact h.writeAccess_snd.emit
    · exact h.writeAccess_snd

theorem Block.unlockExpiry_guarded (b : Block) : (unlockExpiry b).Guarded := .of_locked (b.get_put_self _ _)

/-! #### Transfers -/

theorem Block.Guarded.readNow_snd (h : b.Guarded) {m ix sub} : (b.readNow m ix sub).2.Guarded := by
  unfold Block.readNow
  split
  · exact h
  · exact h.wasRead

theorem Block.Guarded.writeNow_snd (h : b.Guarded) {m ix sub data who} : (b.writeNow m ix sub data who).2.Guarded := h.writeAccess_snd

theorem Block.Guarded.noteSkipped (h : b.Guarded) {n} : (b.noteSkipped n).Guarded := by
  unfold Block.noteSkipped
  split
  · exact h
  · exact h.withJournal

theorem Block.Guarded.openTransfer (h : b.Guarded) {t} : (b.openTransfer t).Guarded := h.withAccess

theorem Block.Guarded.readsFlash (h : b.Guarded) {ix sub} : (b.readsFlash ix sub).Guarded := by
  unfold Block.readsFlash
  split
  · exact h
  · split
    · exact h.readSummaries
    · split
      · exact h
      · exact h.readFlash

theorem Block.Guarded.initRead_snd (h : b.Guarded) {m r ix sub l} : (b.initRead m r ix sub l).2.Guarded := by
  unfold Block.initRead
  extract_lets
  split
  · exact h.withAccess
  · split
    · exact h.withAccess
    · split
      · exact h.withAccess
      · split
        · exact h.withAccess
        · split
          · exact h.withAccess.noteSkipped.openTransfer
          · exact h.withAccess.readsFlash.openTransfer

theorem Block.Guarded.refusedWrite (h : b.Guarded) {ix} : (b.refusedWrite ix).Guarded := .ite h.armedLast h.disarm

theorem Block.Guarded.initWrite_snd (h : b.Guarded) {r ix sub l} : (b.initWrite r ix sub l).2.Guarded := by
  unfold Block.initWrite
  extract_lets b1
  have h1 : b1.Guarded := .ite h h.disarm
  split
  · exact h1.withAccess.refusedWrite
  · split
    · exact h1.withAccess.refusedWrite
    · split
      · exact h1.withAccess.refusedWrite
      · exact h1.withAccess.openTransfer

theorem Block.Guarded.noTransfer_snd (h : b.Guarded) {r length segment} : (b.noTransfer r length segment).2.Guarded := by
  unfold Block.noTransfer
  split
  · exact h.withAccess
  · exact h

theorem Block.Guarded.closeTransfer (h : b.Guarded) : b.closeTransfer.Guarded := h.withAccess
theorem Block.Guarded.breakTransfer (h : b.Guarded) {t} : (b.breakTransfer t).Guarded := .ite h.closeTransfer.refusedWrite h.closeTransfer

theorem Block.Guarded.segmentRead_snd (h : b.Guarded) {r s} : (b.segmentRead r s).2.Guarded := by
  unfold Block.segmentRead
  split
  · exact h.noTransfer_snd
  · extract_lets x1
    clear_value x1
    split
    · exact h.breakTransfer
    · split
      · exact h
      · split
        · exact h.breakTransfer
        · exact h.openTransfer

theorem Block.Guarded.segmentWrite_snd (h : b.Guarded) {r s data} : (b.segmentWrite r s data).2.Guarded := by
  unfold Block.segmentWrite
  extract_lets
  split
  · exact h.noTransfer_snd
  · extract_lets b1
    have h1 : b1.Guarded := .ite h.refusedWrite h
    split
    · exact h1
    · split
      · exact h1
      · split
        · exact h.breakTransfer
        · split
          · exact h
          · split
            · exact h.breakTransfer
            · split
              · exact h.breakTransfer
              · exact h.openTransfer

theorem Block.Guarded.moveCursor (h : b.Guarded) {c} : (b.moveCursor c).Guarded := by
  unfold Block.moveCursor
  split
  · exact h
  · exact h.withJournal

theorem Block.Guarded.segmentEnd_snd (h : b.Guarded) {m r total who} : (b.segmentEnd m r total who).2.Guarded := by
  unfold Block.segmentEnd
  split
  · exact h.noTransfer_snd
  · extract_lets
    split
    · split
      · exact h.closeTransfer.refusedWrite
      · exact h.closeTransfer.writeAccess_snd
    · split
      · exact h.closeTransfer
      · exact h.closeTransfer.moveCursor.wasRead

theorem Block.Guarded.setHostPort (h : b.Guarded) {c p} : (b.setHostPort c p).Guarded := by
  unfold Block.setHostPort
  split <;> exact h.withHost

theorem Block.Guarded.closeHost (h : b.Guarded) {c} : (b.closeHost c).Guarded := .ite h.withAccess.setHostPort h.withAccess

theorem Block.Guarded.segmentTimeout (h : b.Guarded) {r} : (segmentTimeout r b).Guarded := by
  unfold Machine.segmentTimeout
  split
  · exact h
  · split
    · exact .ite h h.withAccess
    · exact .ite h.closeHost h
    · exact .ite h.closeHost h

theorem Block.Guarded.sendResponse (h : b.Guarded) {was seq payload} : (b.sendResponse was seq payload).Guarded :=
  .ite h.queueResponse h.emit

theorem Block.Guarded.settled_snd {x : Option Reply × Block} (h : x.2.Guarded) : (settled x).2.Guarded := h

theorem Block.Guarded.chainCommand (h : b.Guarded) {seq op ix sub run} (hr : ∀ {b}, b.Guarded → (run b).2.Guarded) :
    (b.chainCommand seq op ix sub run).Guarded := by
  unfold Block.chainCommand
  extract_lets
  split
  · exact h
  · split
    · exact h.heard.queueResponse
    · exact (hr h.heard).withAccess.sendResponse

theorem Block.Guarded.journalRead (h : b.Guarded) {r l m} : (journalRead r l m b).Guarded := by
  unfold Machine.journalRead
  split
  · exact h
  · extract_lets
    split
    · exact h.initRead_snd.emit
    · split
      · exact h.initRead_snd
      · exact h.initRead_snd.closeTransfer.moveCursor.emit.emit

/-! #### The link at a node -/

theorem Block.Guarded.countCrc (h : b.Guarded) {x} : (b.countCrc x).Guarded := by
  unfold Block.countCrc
  split <;> exact h.count32.withLink

theorem Block.Guarded.countFrame (h : b.Guarded) {p fault} : (b.countFrame p fault).Guarded := by
  unfold Block.countFrame
  split
  · exact h.count32.heard
  · exact h.countCrc
  · exact h.count32

theorem Block.Guarded.frameForward (h : b.Guarded) {f} : (frameForward f b).Guarded :=
  .ite h (.ite h.setSending.emit (.ite h.withLink h.count32))

theorem Block.Guarded.passOn (h : b.Guarded) {p f} : (b.passOn p f).Guarded := .ite (.ite h h.emit) (.ite h h.frameForward)
theorem Block.Guarded.unknownOperation (h : b.Guarded) {f} : (b.unknownOperation f).Guarded := .ite h (h.chainCommand fun h => h)

theorem Block.Guarded.frameReceive (h : b.Guarded) {p stray inside ending f} : (frameReceive p stray inside ending f b).Guarded := by
  unfold Machine.frameReceive
  split
  · exact h
  · extract_lets
    have counted := fun n => h.countUp (n := n) (most := 2 ^ 32 - 1) (unlockState_ne_codeErrorsKey p)
    exact .ite (counted _) (.ite (counted _).countFrame
      (.ite (counted _).countFrame.passOn.unknownOperation (counted _).countFrame.passOn))

theorem Block.Guarded.linkCrcRate (h : b.Guarded) : (linkCrcRate b).Guarded := by
  unfold Machine.linkCrcRate
  split
  · exact h
  · extract_lets _ _ _ _ _ _ b2 b3
    have h2 : b2.Guarded := .ite h.withLink.raise h.withLink
    have h3 : b3.Guarded := .ite h2.raise h2
    exact .ite h3.clearLive h3

theorem Block.Guarded.queueCensus (h : b.Guarded) {f} : (b.queueCensus f).Guarded := h.withLink
theorem Block.Guarded.closeTop (h : b.Guarded) {t overflow ring} : (b.closeTop t overflow ring).Guarded := h.withLink.queueCensus

theorem Block.Guarded.takeCensus (h : b.Guarded) {number payload} : (b.takeCensus number payload).Guarded :=
  .ite (.ite h.withLink.emit h.withLink) (.closeTop (.ite h.withLink.emit h.withLink))

theorem Block.Guarded.census (h : b.Guarded) {p number payload} : (census p number payload b).Guarded :=
  .ite h (.ite (.ite h.emit h) (.ite h.turnTo.queueCensus.withLink.put.keeperMoved h.turnTo.queueCensus.takeCensus))

theorem Block.Guarded.censusEcho (h : b.Guarded) {number ring} : (censusEcho number ring b).Guarded := by
  unfold Machine.censusEcho
  split
  · exact h
  · exact .ite h.closeTop h.withLink

theorem Block.Guarded.censusEchoTimeout (h : b.Guarded) : (censusEchoTimeout b).Guarded := by
  unfold Machine.censusEchoTimeout
  split
  · exact h
  · exact h.closeTop

theorem Block.Guarded.censusReply (h : b.Guarded) {number payload} : (censusReply number payload b).Guarded := by
  unfold Machine.censusReply
  split
  · exact h
  · exact h.withLink.queueCensus

theorem Block.Guarded.commit (h : b.Guarded) {number top flags t} : (commit number top flags t b).Guarded := by
  unfold Machine.commit
  extract_lets
  split
  · exact h.at
  · split
    · exact h.at.withLink.withLink.putAll.keeperMoved
    · exact .ite h.at.withLink h.at.withLink.withLink.put.keeperMoved

theorem Block.Guarded.probeSweep (h : b.Guarded) {p sweeps count} : (probeSweep p sweeps count b).Guarded := .ite h h.withLink

theorem Block.Guarded.probe (h : b.Guarded) {p t} : (probe p t b).Guarded :=
  .ite h.at (.ite (.sendHeld (.ite h.at.withLink.sendPulse h.at.withLink)) (.ite h.at.withLink.sendPulse h.at.withLink))

theorem Block.Guarded.delays (h : b.Guarded) {split table} : (delays split table b).Guarded :=
  .ite h (.ite h.withLink.put h.withLink.putAll)

/-- What a CHAIN_CONFIG image sets are settings of the chain (R331). -/
theorem unlockState_ne_of_imageValues (image : List Byte) : ∀ x ∈ imageValues image, Ob.unlockState ≠ x.1 := by
  simp only [imageValues, List.mem_cons, List.not_mem_nil, or_false, forall_eq_or_imp, forall_eq]
  decide

theorem Block.Guarded.chainConfig (h : b.Guarded) {image} : (chainConfig image b).Guarded :=
  .ite h (h.withNvm.putAll (unlockState_ne_of_imageValues image)).keeperMoved.followRing.withChainSet.withImp

/-! #### The head -/

theorem Block.Guarded.openTrain (h : b.Guarded) {cls perWindow held} : (b.openTrain cls perWindow held).Guarded :=
  .withLink (.ite h.withLink h)

theorem Block.Guarded.ownAnswer (h : b.Guarded) {cls} : (b.ownAnswer cls).Guarded := .ite h.takeSnap.noteEdges h.answer
theorem Block.Guarded.startTrain (h : b.Guarded) {cls perWindow} : (b.startTrain cls perWindow).Guarded := h.headPulse.openTrain.ownAnswer
theorem Block.Guarded.dropTrigger (h : b.Guarded) : b.dropTrigger.Guarded := h.count32
theorem Block.Guarded.waitFor (h : b.Guarded) {cls} : (b.waitFor cls).Guarded := h.withLink

theorem Block.Guarded.request (h : b.Guarded) {cls perWindow} : (b.request cls perWindow).Guarded :=
  .ite h.waitFor (.ite h.startTrain (.ite h.waitFor (.ite h.withLink h.startTrain)))

theorem Block.Guarded.kick (h : b.Guarded) : b.kick.Guarded :=
  .ite h (.foldl (fun _ _ h => .ite h.withLink.request h) (.ite h.withLink.startTrain h))

theorem Block.Guarded.snapCause (h : b.Guarded) : b.snapCause.Guarded := .ite h.dropTrigger h.request
theorem Block.Guarded.instantTrigger (h : b.Guarded) {t} : (instantTrigger t b).Guarded := .ite h.at.snapCause h.at

theorem Block.Guarded.scheduledTrigger (h : b.Guarded) {c t} : (scheduledTrigger c t b).Guarded :=
  .ite h.at (.ite (.ite h.at.dropTrigger h.at) (.ite h.at.request (.ite (.ite h.at.startTrain h.at.waitFor) h.at)))

theorem Block.Guarded.hearAlarm (h : b.Guarded) : b.hearAlarm.Guarded := h.setFlt.attend.queueAlarm.withLink.kick
theorem Block.Guarded.alarm (h : b.Guarded) {p t} : (alarm p t b).Guarded := .ite h.at (.ite h.at.hearAlarm (.ite h.at h.at.repeatAlarm))

/-! #### Host interfaces -/

theorem Block.Guarded.answerWith (h : b.Guarded) {c body} : (b.answerWith c body).Guarded := by
  unfold Block.answerWith
  extract_lets
  split
  · exact h
  · extract_lets
    split
    · exact h.setHostPort
    · exact h.setHostPort.withPower.canRespond

theorem Block.Guarded.answerHost (h : b.Guarded) {c r} : (b.answerHost c r).Guarded := h.answerWith
theorem Block.Guarded.setJob (h : b.Guarded) {c j} : (b.setJob c j).Guarded := h.setHostPort
theorem Block.Guarded.setBuffer (h : b.Guarded) {c t} : (b.setBuffer c t).Guarded := h.setHostPort
theorem Block.Guarded.askFor (h : b.Guarded) {c p payload} : (b.askFor c p payload).Guarded := h.askPosition.dispatch
theorem Block.Guarded.hostRead (h : b.Guarded) {m c p ix sub} : (b.hostRead m c p ix sub).Guarded := .ite h.readNow_snd.answerHost h.askFor

theorem Block.Guarded.allNext (h : b.Guarded) {c left failures first} : (b.allNext c left failures first).Guarded := by
  unfold Block.allNext
  split
  · exact h.setJob.askFor
  · exact h.answerWith

theorem Block.Guarded.allStep (h : b.Guarded) {c left failures first result abort} :
    (b.allStep c left failures first result abort).Guarded :=
  .ite h.allNext h.allNext

theorem Block.Guarded.ownWritten (h : b.Guarded) {c r} : (b.ownWritten c r).Guarded := by
  unfold Block.ownWritten
  split
  · split <;> exact h.allStep
  · exact h.answerHost

theorem Block.Guarded.writeOwn (h : b.Guarded) {m c ix sub data} : (b.writeOwn m c ix sub data).Guarded := by
  unfold Block.writeOwn
  extract_lets
  split
  · exact h.writeNow_snd.ownWritten
  · exact h.writeNow_snd

theorem Block.Guarded.hostWrite (h : b.Guarded) {m c p ix sub data} : (b.hostWrite m c p ix sub data).Guarded :=
  .ite h.writeOwn (.ite h.setJob.writeOwn h.askFor)

theorem Block.Guarded.fetched (h : b.Guarded) {c t} : (b.fetched c t).Guarded := h.setBuffer.answerHost

theorem Block.Guarded.fetchOwn (h : b.Guarded) {m c t} : (b.fetchOwn m c t).Guarded := by
  unfold Block.fetchOwn
  extract_lets _ b1
  have h1 : b1.Guarded := .foldl (fun _ _ h => h.segmentRead_snd) h.initRead_snd
  split
  · exact h.initRead_snd.answerHost
  · exact h1.fetched

theorem Block.Guarded.hostInitRead (h : b.Guarded) {m c p ix sub l} : (b.hostInitRead m c p ix sub l).Guarded :=
  .ite h.setHostPort.fetchOwn h.setHostPort.setJob.askFor

theorem Block.Guarded.hostInitWrite (h : b.Guarded) {c p ix sub l} : (b.hostInitWrite c p ix sub l).Guarded := by
  unfold Block.hostInitWrite
  extract_lets _ _ b2
  have h2 : b2.Guarded := .ite h.setHostPort.disarm h.setHostPort
  split
  · exact .answerHost (.ite h2.refusedWrite h2)
  · exact h2.setBuffer.answerHost

theorem Block.Guarded.noBuffer (h : b.Guarded) {c} : (b.noBuffer c).Guarded := h.setHostPort.answerHost

theorem Block.Guarded.closeBuffer (h : b.Guarded) {c t abort} : (b.closeBuffer c t abort).Guarded :=
  .answerHost (.setBuffer (.ite h.refusedWrite h))

theorem Block.Guarded.hostSegRead (h : b.Guarded) {c s} : (b.hostSegRead c s).Guarded := by
  unfold Block.hostSegRead
  split
  · exact h.noBuffer
  · extract_lets x1
    clear_value x1
    split
    · exact h.closeBuffer
    · split
      · exact h.answerHost
      · exact .ite h.closeBuffer h.setBuffer.answerHost

theorem Block.Guarded.hostSegWrite (h : b.Guarded) {c s data} : (b.hostSegWrite c s data).Guarded := by
  unfold Block.hostSegWrite
  split
  · exact h.noBuffer
  · extract_lets
    exact .ite h.closeBuffer (.ite h.answerHost (.ite h.closeBuffer (.ite h.closeBuffer h.setBuffer.answerHost)))

theorem Block.Guarded.putOwn (h : b.Guarded) {m c t} : (b.putOwn m c t).Guarded := by
  unfold Block.putOwn
  extract_lets _ b1
  have h1 : b1.Guarded := .foldl (fun _ _ h => h.segmentWrite_snd) h.initWrite_snd
  split
  · exact h.initWrite_snd.answerHost
  · split
    · exact h1.segmentEnd_snd.ownWritten
    · exact h1.segmentEnd_snd

theorem Block.Guarded.endOwn (h : b.Guarded) {m c total} : (b.endOwn m c total).Guarded := by
  unfold Block.endOwn
  extract_lets
  split
  · exact h.segmentEnd_snd.answerHost
  · exact h.segmentEnd_snd

theorem Block.Guarded.hostSegEnd (h : b.Guarded) {m c total} : (b.hostSegEnd m c total).Guarded := by
  unfold Block.hostSegEnd
  split
  · exact h.noBuffer
  · split
    · exact .ite h.closeBuffer (.ite h.setBuffer.putOwn h.setBuffer.setJob.askFor)
    · exact .ite h.closeBuffer (.ite h.setBuffer.endOwn h.setBuffer.askFor)

theorem Block.Guarded.fetchStep (h : b.Guarded) {c t y} : (b.fetchStep c t y).Guarded := .ite h.fetched h.setJob.askFor
theorem Block.Guarded.putStep (h : b.Guarded) {c t} : (b.putStep c t).Guarded := .ite h.setJob.askFor (.ite h.setJob.askFor h.answerHost)

theorem Block.Guarded.hostReply (h : b.Guarded) {c x} : (b.hostReply c x).Guarded := by
  unfold Block.hostReply
  split
  · exact h.allStep
  · split <;> exact h.allStep
  · exact h.answerHost
  · split
    · exact h.answerHost
    · exact h.fetchStep
  · split
    · exact h.answerHost
    · exact h.putStep
  · exact h.answerHost

theorem Block.Guarded.segmentRepeatKeepalive (h : b.Guarded) {c} : (segmentRepeatKeepalive c b).Guarded := by
  unfold Machine.segmentRepeatKeepalive
  split
  · exact h
  · exact .ite h h.askPosition.dispatch

theorem Block.Guarded.hostTrigger (h : b.Guarded) {c cls} : (b.hostTrigger c cls).Guarded :=
  .ite h.answerHost (.ite h.dropTrigger.answerHost (.ite h.answerHost (.ite h.withLink.setJob h.startTrain.answerHost)))

theorem Block.Guarded.runHost (h : b.Guarded) {m c r} : (b.runHost m c r).Guarded := by
  unfold Block.runHost
  extract_lets
  exact .ite h.put.answerHost (.ite h.answerHost
      (.ite h.answerHost (.ite h.hostRead (.ite h.hostWrite
      (.ite h.hostInitRead (.ite h.hostInitWrite (.ite h.hostSegRead (.ite h.hostSegWrite h.hostSegEnd))))))))

theorem Block.Guarded.startHost (h : b.Guarded) {m c r} : (b.startHost m c r).Guarded := by
  unfold Block.startHost
  extract_lets
  exact .ite h.setHostPort.hostTrigger (.ite h.setHostPort.setHostPort
      (.ite h.setHostPort.answerHost (.ite h.setHostPort.answerHost h.setHostPort.runHost)))

theorem Block.Guarded.runHeld (h : b.Guarded) {m} : (b.runHeld m).Guarded := by
  unfold Block.runHeld
  refine .foldl (fun b x h => ?_) h
  split
  · exact h.startHost
  · exact h

theorem Block.Guarded.hostHeard (h : b.Guarded) : b.hostHeard.Guarded := h.withPower.withHost

theorem Block.Guarded.endSilent (h : b.Guarded) {x} : (b.endSilent x).Guarded := by
  unfold Block.endSilent
  split
  · exact h
  · exact .ite h.withHost.put.judgeCan h.withHost

theorem Block.Guarded.refuseBusy (h : b.Guarded) {c header} : (b.refuseBusy c header).Guarded := by
  unfold Block.refuseBusy
  extract_lets
  split
  · exact h.count32.setHostPort
  · exact h.count32.canRespond

theorem Block.Guarded.repeatAnswer (h : b.Guarded) {c message} : (b.repeatAnswer c message).Guarded := by
  unfold Block.repeatAnswer
  split
  · exact h.setHostPort
  · exact h.canRespond

theorem Block.Guarded.discardSlot (h : b.Guarded) {c} : (b.discardSlot c).Guarded := .ite h.count32.setHostPort h

theorem Block.Guarded.acceptHost (h : b.Guarded) {m c header data} : (b.acceptHost m c header data).Guarded := by
  unfold Block.acceptHost
  extract_lets
  split
  · exact h.hostHeard.endSilent.refuseBusy
  · split
    · exact (h.hostHeard.endSilent.setHostPort.count32 (unlockState_ne_acceptedKey c)).repeatAnswer
    · exact (h.hostHeard.endSilent.setHostPort.count32 (unlockState_ne_acceptedKey c)).discardSlot.startHost

theorem Block.Guarded.noteCrc (h : b.Guarded) {c fails} : (b.noteCrc c fails).Guarded := .ite h.setHostPort h

theorem Block.Guarded.spiRead (h : b.Guarded) {clocked} : (spiRead clocked b).Guarded :=
  .ite h (.ite h.emit.hostHeard.setHostPort h.emit.hostHeard)

theorem Block.Guarded.rejectSpi (h : b.Guarded) {header} : (b.rejectSpi header).Guarded := by
  unfold Block.rejectSpi
  exact h.count32.setHostPort

theorem Block.Guarded.spiCommand (h : b.Guarded) {l m} : (spiCommand l m b).Guarded :=
  .ite h (.ite h.spiRead (.ite h.emit.acceptHost h.emit.noteCrc.rejectSpi))

theorem Block.Guarded.canRequest (h : b.Guarded) {l m} : (canRequest l m b).Guarded := by
  unfold Machine.canRequest
  split
  · exact h
  · extract_lets _ _ _ _ b3
    have h3 : b3.Guarded := .ite h.canReceived.noteCrc.hostHeard h.canReceived.noteCrc
    exact .ite h.canReceived.acceptHost (.ite h3.count32.canRespond h3)

theorem Block.Guarded.hostCommand (h : b.Guarded) {c op p ix sub data m} : (hostCommand c op p ix sub data m b).Guarded :=
  .ite h h.acceptHost

theorem Block.Guarded.judgeHostCrc (h : b.Guarded) {c code} : (b.judgeHostCrc c code).Guarded := .ite h.setHostPort.raise h.setHostPort

theorem Block.Guarded.hostCrcRate (h : b.Guarded) : (hostCrcRate b).Guarded :=
  .ite h (.ite h.judgeHostCrc.judgeHostCrc.clearLive h.judgeHostCrc.judgeHostCrc)

/-! #### The link at the head -/

theorem Block.Guarded.broadcastOn (h : b.Guarded) {p payload} : (b.broadcastOn p payload).Guarded := h.withLink.sendOn
theorem Block.Guarded.holdPass (h : b.Guarded) {x} : (b.holdPass x).Guarded := h.withLink
theorem Block.Guarded.sendCensus (h : b.Guarded) {number} : (b.sendCensus number).Guarded := .ite h.holdPass.sendOn h.holdPass

theorem Block.Guarded.sendProbes (h : b.Guarded) : b.sendProbes.Guarded := by
  unfold Block.sendProbes
  split
  · exact h
  · split
    · exact h
    · extract_lets _ b1
      have h1 : b1.Guarded := .ite h.withLink.broadcastOn h
      split
      · exact h1
      · extract_lets _ _ b3
        have h3 : b3.Guarded := .foldl (fun _ _ h => h.sendPulse) h1.withLink
        exact .ite h1.withLink (.ite h3.occupyDu h3)

theorem Block.Guarded.sendSweeps (h : b.Guarded) {p count again} : (b.sendSweeps p count again).Guarded := h.withLink.sendProbes
theorem Block.Guarded.sendDelays (h : b.Guarded) {p top split table} : (b.sendDelays p top split table).Guarded := h.broadcastOn.broadcastOn
theorem Block.Guarded.runTriggers (h : b.Guarded) : b.runTriggers.Guarded := .foldl (fun _ _ h => .ite h h.withLink.startTrain.answerHost) h

theorem Block.Guarded.endRound (h : b.Guarded) {m committed} : (b.endRound m committed).Guarded := by
  unfold Block.endRound
  extract_lets _ _ _ _ b2 b3
  have h2 : b2.Guarded := .ite h.withLink.sendChainConfig.sendReference (.ite h.withLink.sendReference.sendChainConfig
      h.withLink.sendReference)
  have h3 : b3.Guarded := .foldl (fun _ _ h => h.sendKeeper) h2
  exact h3.dispatch.runHeld.kick

theorem Block.Guarded.commitRound (h : b.Guarded) {m number pass top overflow closed} :
    (b.commitRound m number pass top overflow closed).Guarded := by
  unfold Block.commitRound
  extract_lets _ _ _ _ _ _ _ _ _ b5 b6
  have h5 : b5.Guarded := .ite h.putAll.withLink.broadcastOn.broadcastOn.attend.clearLive.raise
      h.putAll.withLink.broadcastOn.broadcastOn.attend.clearLive
  have h6 : b6.Guarded := .ite h5.raise h5
  exact .ite h6.endRound h6.sendSweeps

theorem Block.Guarded.startRound (h : b.Guarded) {m} : (b.startRound m).Guarded :=
  .ite (.sendCensus (.withLink (.ite h.putBit.putBit h.putBit))) (.commitRound (.withLink (.ite h.putBit.putBit h.putBit)))

theorem Block.Guarded.censusRoundStart (h : b.Guarded) {t m} : (censusRoundStart t m b).Guarded := .ite h.at.startRound h.at

theorem Block.Guarded.censusRetry (h : b.Guarded) {t m} : (censusRetry t m b).Guarded := by
  unfold Machine.censusRetry
  extract_lets
  split
  · exact .ite h.at.startRound h.at
  · exact h.at

theorem Block.Guarded.failRound (h : b.Guarded) {m} : (b.failRound m).Guarded := h.putBit.putBit.put.raise.withLink.endRound
theorem Block.Guarded.nextPass (h : b.Guarded) {m r last} : (b.nextPass m r last).Guarded := .ite h.failRound h.withLink.sendCensus

theorem Block.Guarded.censusPassResult (h : b.Guarded) {number p t m} : (censusPassResult number p t m b).Guarded := by
  unfold Machine.censusPassResult
  extract_lets
  split
  · exact h.at
  · exact .ite h.at.commitRound h.at.nextPass

theorem Block.Guarded.censusPassTimeout (h : b.Guarded) {t m} : (censusPassTimeout t m b).Guarded := by
  unfold Machine.censusPassTimeout
  extract_lets
  split
  · exact h.at
  · exact h.at.nextPass

theorem Block.Guarded.triggerAgain (h : b.Guarded) : b.triggerAgain.Guarded := by
  unfold Block.triggerAgain
  split
  · exact h
  · exact .ite h (.foldl (fun _ _ h => .ite h (.openTrain (.ite h.withLink.sendPulse h.withLink))) h.withLink)

theorem Block.Guarded.sweepsGood (h : b.Guarded) {q valid} : (b.sweepsGood q valid).Guarded := by
  unfold Block.sweepsGood
  extract_lets
  split <;> exact h.putBit.withLink.sendDelays

theorem Block.Guarded.sweepsOver (h : b.Guarded) {m} : (b.sweepsOver m).Guarded :=
  .ite h.withLink.endRound h.withLink.triggerAgain.runTriggers.kick

theorem Block.Guarded.probeSweepsComplete (h : b.Guarded) {sweeps t m} : (probeSweepsComplete sweeps t m b).Guarded := by
  unfold Machine.probeSweepsComplete
  extract_lets
  split
  · exact h.at
  · exact .ite h.at.sweepsGood.sweepsOver (.ite h.at.sendSweeps h.at.putBit.raise.sweepsOver)

theorem Block.Guarded.delayRefresh (h : b.Guarded) {t} : (delayRefresh t b).Guarded := .ite h.at.sendSweeps h.at

theorem Block.Guarded.splitEntry (h : b.Guarded) {below t} : (splitEntry below t b).Guarded :=
  .ite h.at.withLink.putBit.sendReference.sendSweeps h.at

theorem Block.Guarded.splitEnd (h : b.Guarded) {t} : (splitEnd t b).Guarded := .ite h.at.withLink h.at
theorem Block.Guarded.checkDone (h : b.Guarded) {p x} : (b.checkDone p x).Guarded := h.withLink

theorem Block.Guarded.commandDone (h : b.Guarded) {c x} : (b.commandDone c x).Guarded := by
  unfold Block.commandDone
  extract_lets _ _ b2
  have h2 : b2.Guarded := by
    unfold b2
    split
    · exact h.withLink.hostReply
    · exact h.withLink
    · exact h.withLink.checkDone
  exact h2.dispatch

theorem Block.Guarded.commandAgain (h : b.Guarded) {c} : (b.commandAgain c).Guarded :=
  .ite (.ite h.count32.withLink.sendCommand h.count32.withLink) h.count32.commandDone

theorem Block.Guarded.response (h : b.Guarded) {p seq payload} : (response p seq payload b).Guarded := by
  unfold Machine.response
  split
  · exact h
  · split
    · exact h
    · exact .ite h.commandDone h.commandAgain

theorem Block.Guarded.commandTimeout (h : b.Guarded) {p} : (commandTimeout p b).Guarded := by
  unfold Machine.commandTimeout
  split
  · exact h
  · split
    · exact h
    · exact h.commandAgain

theorem Block.Guarded.headWriteOver (h : b.Guarded) {w r} : (b.headWriteOver w r).Guarded := by
  unfold Block.headWriteOver
  split
  · exact h.ownWritten
  · split <;> exact h.emit

theorem Block.Guarded.headConfigChecksDone (h : b.Guarded) : (headConfigChecksDone b).Guarded := by
  unfold Machine.headConfigChecksDone
  split
  · exact h
  · split
    · exact h
    · extract_lets
      split
      · exact h.withLink.headWriteOver
      · split
        · exact h.withLink.headWriteOver
        · split
          · exact h.withLink.headWriteOver
          · next checked => exact (h.withLink.applyWrite (Block.unlockState_ne_of_checkWrite checked)).headWriteOver

theorem Block.Guarded.heedPorts (h : b.Guarded) {p duUp} : (b.heedPorts p duUp).Guarded := by
  unfold Block.heedPorts
  split
  · exact .ite h.withLink h
  · exact .ite h h.withLink

theorem Block.Guarded.heedStatus (h : b.Guarded) {pos p} : (b.heedStatus pos p).Guarded :=
  .ite (.attend (.withHost (.ite h.heedPorts.withLink h.heedPorts))) (.ite h.heedPorts.withLink h.heedPorts)

theorem Block.Guarded.streamFrame (h : b.Guarded) {header payload} : (streamFrame header payload b).Guarded :=
  .ite h (.deliver (.ite h.takePebble.heedStatus h.takePebble))

theorem Block.Guarded.sendAggregate (h : b.Guarded) : b.sendAggregate.Guarded := h.broadcast.holdAggregate

theorem Block.Guarded.heedHolds (h : b.Guarded) {t missing} : (b.heedHolds t missing).Guarded := by
  unfold Block.heedHolds
  extract_lets _ b1
  have h1 : b1.Guarded := .foldl (fun _ _ h => .withLink (.ite h.queueAlarm h)) h
  exact .ite h1.withLink.judgeHeadFlt h1

theorem Block.Guarded.countMissing (h : b.Guarded) {missing} : (b.countMissing missing).Guarded :=
  .ite h.countUp.withLink h.countUp.withLink

theorem Block.Guarded.storeTrain (h : b.Guarded) {t} : (b.storeTrain t).Guarded := .foldl (fun _ _ h => h.storeRecord) h

theorem Block.Guarded.heedTrain (h : b.Guarded) {t missing} : (b.heedTrain t missing).Guarded :=
  .ite h.withLink.sendAggregate (.ite h.withLink.sendAggregate (.ite h.heedHolds h))

theorem Block.Guarded.runBehind (h : b.Guarded) : b.runBehind.Guarded := .foldl (fun _ _ h => .ite h.request h.waitFor) h.withLink

theorem Block.Guarded.heedBreak (h : b.Guarded) {missing} : (b.heedBreak missing).Guarded := by
  unfold Block.heedBreak
  split
  · exact h
  · split
    · exact h.withLink
    · exact .ite h.withLink h

theorem Block.Guarded.noteLacked (h : b.Guarded) {cls missing} : (b.noteLacked cls missing).Guarded := h.withLink

theorem Block.Guarded.closeTrain (h : b.Guarded) {t} : (b.closeTrain t).Guarded := by
  unfold Block.closeTrain
  extract_lets _ _ _ b3 _ b5
  have h3 : b3.Guarded := .ite h.countTrain.storeTrain.heedBreak.countMissing h.countTrain.storeTrain.heedBreak.countMissing.noteLacked
  have h5 : b5.Guarded := .ite h3.attend.heedTrain.streamToHost.runBehind h3.attend.heedTrain.streamToHost
  exact .ite h5.triggerAgain.runTriggers.kick.sendProbes h5.triggerAgain.runTriggers.kick

theorem Block.Guarded.trainClose (h : b.Guarded) {c t} : (trainClose c t b).Guarded := by
  unfold Machine.trainClose
  extract_lets
  split
  · exact h.at
  · split
    · exact h.at
    · exact h.at.withLink.closeTrain

theorem Block.Guarded.resumeCommands (h : b.Guarded) : b.resumeCommands.Guarded := .foldl (fun _ _ h => .ite h h.withLink.sendCommand) h

theorem Block.Guarded.resumePass (h : b.Guarded) : b.resumePass.Guarded := by
  unfold Block.resumePass
  split
  · exact h
  · exact h.sendCensus

theorem Block.Guarded.syncSendThen (h : b.Guarded) {t} : (syncSendThen t b).Guarded := by
  unfold Machine.syncSendThen
  extract_lets
  exact .ite h.at (.ite h.at.headPulse.resumePass.sendProbes
      h.at.headPulse.resumePass.sendProbes.resumeCommands.dispatch.triggerAgain.runTriggers.kick)

theorem Block.Guarded.analysisSetRead (h : b.Guarded) {p frequencies sources integration step} :
    (analysisSetRead p frequencies sources integration step b).Guarded :=
  .ite h (.ite h h.withChainSet.withImp.sendChainConfig)

theorem Block.Guarded.medianRsRead (h : b.Guarded) {values} : (medianRsRead values b).Guarded := .ite h h.withLink

/-! #### Commands and steps -/

/-- A next state has a guarded block. -/
def Out.Guarded (o : Out) : Prop := ∀ t, o = .next t → t.blk.Guarded

theorem Out.Guarded.onBlock {f s} (h : (f s.blk).Guarded) : Out.Guarded (onBlock f s) := fun _ e => by
  cases e; exact h

theorem Out.Guarded.onBlockReading {f s} (h : (f s.flash s.blk).Guarded) : Out.Guarded (onBlockReading f s) := fun _ e => by
  cases e; exact h

theorem Out.Guarded.onBoth {f s} (h : (f s.flash s.blk).2.Guarded) : Out.Guarded (onBoth f s) := fun _ e => by
  cases e; exact h

theorem Out.Guarded.onSwitching {f s} (h : (f s.blk).Guarded) : Out.Guarded (onSwitching f s) := .onBlock h.noteEdges

theorem exec_guarded (c : Instr) {s : State} (h : s.blk.Guarded) : Out.Guarded (exec c s) := by
  cases c with
  | porRelease => exact Out.Guarded.onBlock h.porRelease
  | porAssert => exact Out.Guarded.onBlock s.blk.porAssert_guarded
  | vstkRangeCheck => exact Out.Guarded.onBlock h.vstkRangeCheck
  | vinLow => exact Out.Guarded.onBlock h.vinLow
  | supplyFail => exact Out.Guarded.onSwitching h.supplyFail
  | railWindowFault => exact Out.Guarded.onBlock h.railWindowFault
  | pwrEnComparison => exact Out.Guarded.onBlock h.pwrEnComparison
  | ship => exact Out.Guarded.onBlockReading h.commandRow
  | sleep => exact Out.Guarded.onBlockReading h.commandRow
  | standby => exact Out.Guarded.onBlockReading h.commandRow
  | measure => exact Out.Guarded.onBlockReading h.commandRow
  | full => exact Out.Guarded.onBlockReading h.commandRow
  | reset => exact Out.Guarded.onBlockReading h.commandRow
  | wakeChain => exact Out.Guarded.onBlockReading h.commandRow
  | transitionComplete => exact Out.Guarded.onBlock h.transitionComplete
  | commLoss =>
    unfold exec execCommLoss
    exact Out.Guarded.onBlockReading h.commLoss.noteEdges
  | wakeEvent => exact Out.Guarded.onBlock h.wakeEvent
  | extendedWakeEvent => exact Out.Guarded.onBlock h.extendedWakeEvent
  | deferredWakeStart => exact Out.Guarded.onBlock h.deferredWakeStart
  | supplyAttemptTimeout => exact Out.Guarded.onBlock h.supplyAttemptTimeout
  | vin5Good => exact Out.Guarded.onBlock h.vin5Good
  | coreResetRelease => exact Out.Guarded.onBlock h.coreResetRelease
  | engineBootComplete => exact Out.Guarded.onBlockReading h.engineBootComplete
  | periodicCheck => exact Out.Guarded.onBlock h.periodicCheck
  | crossingConfirmation => exact Out.Guarded.onBlock h.crossingConfirmation
  | sleepBalancePhase => exact Out.Guarded.onBlock h.sleepBalancePhase
  | sleepBalanceSecond => exact Out.Guarded.onBlock h.sleepBalanceSecond
  | sleepPlanRefresh => exact Out.Guarded.onBlock h.sleepPlanRefresh
  | thermalShutdown => exact Out.Guarded.onBoth h.thermalShutdown_snd
  | shutdownTemperatureCheck => exact Out.Guarded.onBlock h.shutdownTemperatureCheck
  | preShutdown =>
    unfold exec execPreShutdown
    exact Out.Guarded.onBlockReading h.preShutdown.reactSafe.followE6.noteEdges
  | preShutdownEnd => exact Out.Guarded.onBlock h.preShutdownEnd
  | laneThermometerInterval => exact Out.Guarded.onBlock h.laneThermometerInterval
  | housekeepingRound => exact Out.Guarded.onBlock h.housekeepingRound
  | throttleEvaluation =>
    unfold exec execThrottleEvaluation
    exact Out.Guarded.onSwitching h.throttleEvaluation.followE6
  | pllReferenceSwitch => exact Out.Guarded.onBlock h.pllReferenceSwitch
  | symbolLockLoss => exact Out.Guarded.onBlock h.symbolLockLoss
  | clockMonitorGate => exact Out.Guarded.onBlock h.clockMonitorGate
  | faultRcCheck => exact Out.Guarded.onBlock h.faultRcCheck
  | syncSend => exact Out.Guarded.onBlock h.syncSendThen
  | sync => exact Out.Guarded.onBlock h.sync
  | syncMissing => exact Out.Guarded.onBlock h.syncMissing
  | slewStep => exact Out.Guarded.onBlock h.slewStep
  | chainReferenceSend => exact Out.Guarded.onBlock h.chainReferenceSend
  | chainReference => exact Out.Guarded.onBlock h.chainReference
  | chainTimeWrite => exact Out.Guarded.onBlockReading h.writeRow
  | referenceCompare => exact Out.Guarded.onBlock h.referenceCompare
  | correctionUpdate => exact Out.Guarded.onBlock h.correctionUpdate
  | laneBlock => exact Out.Guarded.onBlock h.laneBlock
  | cellLimitRefresh => exact Out.Guarded.onBlock h.cellLimitRefresh
  | laneAveragingChange => exact Out.Guarded.onBlock h.laneAveragingChange
  | shadowFrame => exact Out.Guarded.onBlock h.shadowFrame
  | currentLaneCompare => exact Out.Guarded.onBlock h.currentLaneCompare
  | currentSample => exact Out.Guarded.onBlock h.currentSample
  | mainsTrackerUpdate => exact Out.Guarded.onBlock h.mainsTrackerUpdate
  | auxSlot => exact Out.Guarded.onBlock h.auxSlot
  | windowBoundary =>
    unfold exec execWindowBoundary
    exact Out.Guarded.onBlock (.ite h.passBoundary.kick h.passBoundary)
  | windowPublish => exact Out.Guarded.onBlock h.windowPublish
  | keeperRecordMissing =>
    unfold exec execKeeperRecordMissing
    exact Out.Guarded.onBlock (.ite h.keeperRecordMissing.restBroken h.keeperRecordMissing)
  | windowModeWrite => exact Out.Guarded.onBlockReading h.writeRow
  | snap => exact Out.Guarded.onSwitching h.snap
  | captureStart => exact Out.Guarded.onBlock h.captureStart
  | capturePublish => exact Out.Guarded.onBlock h.capturePublish
  | instantTrigger => exact Out.Guarded.onBlock h.instantTrigger
  | auxOutputWrite => exact Out.Guarded.onBlockReading h.writeRow
  | auxFunctionWrite => exact Out.Guarded.onBlockReading h.writeRow
  | chargeCounterPreset => exact Out.Guarded.onBlockReading h.writeRow
  | currentKeeperWrite => exact Out.Guarded.onBlockReading h.writeRow
  | governorTick =>
    unfold exec execGovernorTick
    exact Out.Guarded.onBlock h.governorTick.takeMetered.trimE6.seekStep
  | pathLearn => exact Out.Guarded.onBlock h.pathLearn
  | bleedConfirmation => exact Out.Guarded.onSwitching h.bleedConfirmation
  | freshnessTimeout => exact Out.Guarded.onSwitching h.freshnessTimeout
  | interlockRefusal => exact Out.Guarded.onSwitching h.interlockRefusal
  | sessionTimerSecond => exact Out.Guarded.onSwitching h.sessionTimerSecond
  | balanceTargetWrite => exact Out.Guarded.onBlockReading h.writeRow
  | sessionTimerWrite => exact Out.Guarded.onBlockReading h.writeRow
  | balanceEnableWrite => exact Out.Guarded.onBlockReading h.writeRow
  | stickyFlagClear => exact Out.Guarded.onBlockReading h.writeRow
  | bleedResistorWrite => exact Out.Guarded.onBlockReading h.writeRow
  | thrPulseEdge => exact Out.Guarded.onBlock h.thrPulseEdge
  | throttleInputLost => exact Out.Guarded.onBlock h.throttleInputLost
  | analysisIntervalEnd => exact Out.Guarded.onBlock h.analysisIntervalEnd
  | impedancePublish => exact Out.Guarded.onBlock h.impedancePublish
  | ambientPairingTimeout => exact Out.Guarded.onBlock h.ambientPairingTimeout
  | activeSequenceStart => exact Out.Guarded.onSwitching h.activeSequenceStart
  | excitationEdge => exact Out.Guarded.onBlock h.excitationEdge
  | activeIntervalDiscard => exact Out.Guarded.onBlock h.activeIntervalDiscard
  | autobalancePeriod => exact Out.Guarded.onSwitching h.autobalancePeriod
  | socTableWrite => exact Out.Guarded.onBlockReading h.writeRow
  | tempCurveWrite => exact Out.Guarded.onBlockReading h.writeRow
  | analysisSetRead => exact Out.Guarded.onBlock h.analysisSetRead
  | volts => exact Out.Guarded.onBlock h.classified
  | temps => exact Out.Guarded.onBlock h.classified
  | imped => exact Out.Guarded.onBlock h.classified
  | status => exact Out.Guarded.onBlock h.classified
  | alarm => exact Out.Guarded.onBlock h.alarm
  | pulseRepeat => exact Out.Guarded.onBlock h.pulseRepeat
  | wakeTone => exact Out.Guarded.onBlock h.wakeTone
  | portSignalDetect => exact Out.Guarded.onBlock h.portSignalDetect
  | portTrained => exact Out.Guarded.onBlock h.portTrained
  | trainingFail => exact Out.Guarded.onBlock h.trainingFail
  | portDown => exact Out.Guarded.onBlock h.portDown
  | ringModeWrite => exact Out.Guarded.onBlockReading h.writeRow
  | frameReceive => exact Out.Guarded.onBlock h.frameReceive
  | frameForward => exact Out.Guarded.onBlock h.frameForward
  | frameTransmit => exact Out.Guarded.onBlock h.frameTransmit
  | linkCrcRate => exact Out.Guarded.onBlock h.linkCrcRate
  | censusRoundStart => exact Out.Guarded.onBlockReading h.censusRoundStart
  | censusRun => exact Out.Guarded.onBlockReading h.writeRow
  | census => exact Out.Guarded.onBlock h.census
  | censusEcho => exact Out.Guarded.onBlock h.censusEcho
  | censusEchoTimeout => exact Out.Guarded.onBlock h.censusEchoTimeout
  | censusReply => exact Out.Guarded.onBlock h.censusReply
  | censusPassResult => exact Out.Guarded.onBlockReading h.censusPassResult
  | censusPassTimeout => exact Out.Guarded.onBlockReading h.censusPassTimeout
  | censusRetry => exact Out.Guarded.onBlockReading h.censusRetry
  | commit => exact Out.Guarded.onBlock h.commit
  | probeSweep => exact Out.Guarded.onBlock h.probeSweep
  | probe => exact Out.Guarded.onBlock h.probe
  | probeSweepsComplete => exact Out.Guarded.onBlockReading h.probeSweepsComplete
  | delays => exact Out.Guarded.onBlock h.delays
  | delayRefresh => exact Out.Guarded.onBlock h.delayRefresh
  | chainConfig => exact Out.Guarded.onBlock h.chainConfig
  | chainAggregate => exact Out.Guarded.onBlock h.chainAggregate
  | keeperForward => exact Out.Guarded.onBlock h.keeperForward
  | keeperRecord => exact Out.Guarded.onBlock h.keeperRecord
  | read =>
    unfold exec execRead
    exact Out.Guarded.onBlockReading (h.chainCommand fun h => h.readNow_snd)
  | write =>
    unfold exec execWrite
    exact Out.Guarded.onBlockReading (h.chainCommand fun h => h.writeNow_snd.settled_snd)
  | segInitRead =>
    unfold exec execSegInitRead
    exact Out.Guarded.onBlockReading (h.chainCommand fun h => h.initRead_snd)
  | segInitWrite =>
    unfold exec execSegInitWrite
    exact Out.Guarded.onBlock (h.chainCommand fun h => h.initWrite_snd)
  | segRead =>
    unfold exec execSegRead
    exact Out.Guarded.onBlock (h.chainCommand fun h => h.segmentRead_snd)
  | segWrite =>
    unfold exec execSegWrite
    exact Out.Guarded.onBlock (h.chainCommand fun h => h.segmentWrite_snd)
  | segEnd =>
    unfold exec execSegEnd
    exact Out.Guarded.onBlockReading (h.chainCommand fun h => h.segmentEnd_snd.settled_snd)
  | checkConfig =>
    unfold exec execCheckConfig
    exact Out.Guarded.onBlock (h.chainCommand fun h => h)
  | segmentTimeout => exact Out.Guarded.onBlock h.segmentTimeout
  | response => exact Out.Guarded.onBlock h.response
  | commandTimeout => exact Out.Guarded.onBlock h.commandTimeout
  | headConfigChecksDone => exact Out.Guarded.onBlock h.headConfigChecksDone
  | scheduledTrigger => exact Out.Guarded.onBlock h.scheduledTrigger
  | streamResponseForm => exact Out.Guarded.onBlock h.streamResponseForm
  | streamFrame => exact Out.Guarded.onBlock h.streamFrame
  | trainClose => exact Out.Guarded.onBlock h.trainClose
  | splitEntry => exact Out.Guarded.onBlock h.splitEntry
  | splitEnd => exact Out.Guarded.onBlock h.splitEnd
  | spiCommand => exact Out.Guarded.onBlockReading h.spiCommand
  | spiRead => exact Out.Guarded.onBlock h.spiRead
  | canRequest => exact Out.Guarded.onBlockReading h.canRequest
  | novezRead => exact Out.Guarded.onBlockReading h.hostCommand
  | novezWrite => exact Out.Guarded.onBlockReading h.hostCommand
  | novezSegInitRead => exact Out.Guarded.onBlockReading h.hostCommand
  | novezSegInitWrite => exact Out.Guarded.onBlockReading h.hostCommand
  | novezSegRead => exact Out.Guarded.onBlockReading h.hostCommand
  | novezSegWrite => exact Out.Guarded.onBlockReading h.hostCommand
  | novezSegEnd => exact Out.Guarded.onBlockReading h.hostCommand
  | segmentRepeatKeepalive => exact Out.Guarded.onBlock h.segmentRepeatKeepalive
  | trigger => exact Out.Guarded.onBlockReading h.hostCommand
  | readStream => exact Out.Guarded.onBlockReading h.hostCommand
  | readAttention => exact Out.Guarded.onBlockReading h.hostCommand
  | hostCrcRate => exact Out.Guarded.onBlock h.hostCrcRate
  | canAlarmFrame => exact Out.Guarded.onBlock h.canAlarmFrame
  | canTrainStream => exact Out.Guarded.onBlock h.canTrainStream
  | canBusOffRecovery => exact Out.Guarded.onBlock h.canBusOffRecovery
  | canConfigApply => exact Out.Guarded.onBlock h.canConfigApply
  | faultRegistration => exact Out.Guarded.onSwitching h.faultRegistration
  | captureFifoDrain => exact Out.Guarded.onBlock h.captureFifoDrain
  | acknowledgeSource => exact Out.Guarded.onBlockReading h.writeRow
  | acknowledgeAll => exact Out.Guarded.onBlockReading h.writeRow
  | safeStateExit => exact Out.Guarded.onBlock h.safeStateExit
  | faultSeverityWrite => exact Out.Guarded.onBlockReading h.writeRow
  | faultFlagsWrite => exact Out.Guarded.onBlockReading h.writeRow
  | engineWatchdogExpiry => exact Out.Guarded.onBlock h.engineWatchdogExpiry
  | engineRestart => exact Out.Guarded.onBlockReading h.engineRestart
  | engineSelfTest => exact Out.Guarded.onBlock h.engineSelfTest
  | engineLoadMeasurement => exact Out.Guarded.onBlock h.engineLoadMeasurement
  | memoryError => exact Out.Guarded.onBlock h.memoryError
  | memoryScrub => exact Out.Guarded.onBlock h.memoryScrub
  | configSignatureCheck => exact Out.Guarded.onBlock h.configSignatureCheck
  | fltReadback => exact Out.Guarded.onBlock h.fltReadback
  | openWireSlot => exact Out.Guarded.onSwitching h.openWireSlot
  | openWireRepeat => exact Out.Guarded.onSwitching h.openWireRepeat
  | unlockArm => exact Out.Guarded.onBlockReading h.writeRow
  | unlockConfirm => exact Out.Guarded.onBlockReading h.writeRow
  | unlockClear => exact Out.Guarded.onBlockReading h.writeRow
  | unlockExpiry => exact Out.Guarded.onBlock s.blk.unlockExpiry_guarded
  | dictionaryWrite => exact Out.Guarded.onBlockReading h.writeRow
  | journalRead => exact Out.Guarded.onBlockReading h.journalRead
  | readCursorWrite => exact Out.Guarded.onBlockReading h.writeRow
  | checkUnitWrite => exact Out.Guarded.onBlockReading h.writeRow
  | save => exact Out.Guarded.onBlockReading h.writeRow
  | nvmPageProgram => exact Out.Guarded.onBoth h.nvmPage_snd
  | saveComplete => exact Out.Guarded.onBlockReading h.saveComplete
  | restoreConfig => exact Out.Guarded.onBlockReading h.writeRow
  | restoreAll => exact Out.Guarded.onBlockReading h.writeRow
  | summaryWrite => exact Out.Guarded.onBlockReading h.summaryWrite
  | summaryWriteComplete => exact Out.Guarded.onBlockReading h.summaryWriteComplete
  | supplyAttemptRetry => exact Out.Guarded.onBlock h.supplyAttemptRetry
  | railGood => exact Out.Guarded.onBlock h.railGood
  | vstkInRange => exact Out.Guarded.onBlock h.vstkInRange
  | sectorEraseComplete => exact Out.Guarded.onBoth h.sectorErase_snd
  | operatingHour => exact Out.Guarded.onBlock h.operatingHour
  | medianRsRead => exact Out.Guarded.onBlock h.medianRsRead
  | ignoredFrame => exact Out.Guarded.onBlock h.ignoredFrame
  | canBusError => exact Out.Guarded.onBlock h.canBusError

/-- Settles O56: a guarded block stays guarded through every command. -/
theorem unlockOnlyInStandby : Obligations.UnlockOnlyInStandby := fun s _ h e => by
  unfold step at e
  split at e
  next c rest _ => exact exec_guarded c (s := { s with pending := rest }) h _ e
  next => cases e; exact Block.Guarded.tbCycle h

end Sys2Proof.Machine
end

end

section
/-! ### Reset, POR and the supply monitors (R75–R78, R88, R98, R103, R377, R387, R407) -/

namespace Sys2Proof.Machine

/-! #### The state after reset -/

/-- A fresh block has every switch off. -/
theorem Block.fresh_neighboursOff (f : Fuses) (mode : Mode) : (Block.fresh f mode).NeighboursOff := by
  have off : ∀ i, ((Block.fresh f mode).chan i).on = false := fun i => by
    have idle : (Block.fresh f mode).gov.ch = List.replicate 32 GovCh.idle := rfl
    rw [Block.chan, idle, List.getElem?_replicate]
    split <;> rfl
  exact fun i _ => off (i + 1)

/-- Settles O51: reset is a fresh block, and a fresh block is locked, at chain time 0, with every switch off. -/
theorem resetState : Obligations.ResetState :=
  ⟨by decide, rfl, rfl, by decide, by decide, rfl, Block.fresh_neighboursOff _ _⟩

/-! #### POR -/

/-- Settles O1: what POR leaves is a fresh block with its fuses. -/
theorem porKeepsNothing : Obligations.PorKeepsNothing := by
  refine ⟨fun s => ⟨_, rfl, rfl, rfl, rfl, rfl, rfl, rfl⟩, fun s off => ⟨_, rfl, ?_⟩, fun s other => ?_⟩
  · rw [porRelease, if_pos off]
    exact ⟨rfl, rfl, rfl, rfl, rfl⟩
  · have stays : porRelease s.blk = s.blk := if_neg other
    exact congrArg (fun b => Host.Outcome.next { s with blk := b }) stays

end Sys2Proof.Machine
end

section
/-! ### What the way out of Measure leaves alone (R86)

Windows, captures, lanes, E6 and the advisories end, and the journal takes what is captured. All of that writes a part of the package that
measuring uses, or an entry of the dictionary; a projection of the package that reads none of these parts is the same afterwards. This is
said once per operation, in the order of the model. -/

namespace Sys2Proof.Machine

/-- What a projection of the package reads lies outside the dictionary and the parts that measuring and its end write. -/
structure OffMeasuring {β : Type} (part : Block → β) : Prop where
  withPower : ∀ b v, part (Block.withPower b v) = part b
  withJournal : ∀ b v, part (Block.withJournal b v) = part b
  withFlint : ∀ b v, part (Block.withFlint b v) = part b
  withPhys : ∀ b v, part (Block.withPhys b v) = part b
  withGov : ∀ b v, part (Block.withGov b v) = part b
  withLanes : ∀ b v, part (Block.withLanes b v) = part b
  withWin : ∀ b v, part (Block.withWin b v) = part b
  withCap : ∀ b v, part (Block.withCap b v) = part b
  withKeeper : ∀ b v, part (Block.withKeeper b v) = part b
  withImp : ∀ b v, part (Block.withImp b v) = part b
  withLink : ∀ b v, part (Block.withLink b v) = part b
  withHost : ∀ b v, part (Block.withHost b v) = part b
  withDiag : ∀ b v, part (Block.withDiag b v) = part b
  withThermal : ∀ b v, part (Block.withThermal b v) = part b
  withOut : ∀ b v, part (Block.withOut b v) = part b
  withFree : ∀ b v, part (Block.withFree b v) = part b
  withDict : ∀ b v, part (Block.withDict b v) = part b

/-- The NVM unit takes no part in measuring. -/
theorem offMeasuring_nvm : OffMeasuring Block.nvm := by constructor <;> exact fun _ _ => rfl

/-- From a to b nothing that a projection off measuring reads has changed. -/
structure Leaves {β : Type} (part : Block → β) (a b : Block) : Prop where
  off : OffMeasuring part
  same : part b = part a

section
variable {β : Type} {part : Block → β} {a b : Block}

theorem Leaves.refl (off : OffMeasuring part) (b : Block) : Leaves part b b := ⟨off, rfl⟩

/-! #### Branches and folds -/

theorem Leaves.ite {c : Prop} [Decidable c] {x y : Block} (hx : Leaves part a x) (hy : Leaves part a y) : Leaves part a (if c then x else y) := by
  split
  · exact hx
  · exact hy

theorem Leaves.foldl {α : Type} {f : Block → α → Block} (hf : ∀ b x, Leaves part a b → Leaves part a (f b x)) {l : List α}
    (h : Leaves part a b) : Leaves part a (l.foldl f b) := by
  induction l generalizing b with
  | nil => exact h
  | cons x l ih => exact ih (hf b x h)

/-! #### The parts of the package -/

theorem Leaves.withPower (h : Leaves part a b) {v} : Leaves part a (b.withPower v) := ⟨h.off, (h.off.withPower b v).trans h.same⟩
theorem Leaves.withJournal (h : Leaves part a b) {v} : Leaves part a (b.withJournal v) := ⟨h.off, (h.off.withJournal b v).trans h.same⟩
theorem Leaves.withFlint (h : Leaves part a b) {v} : Leaves part a (b.withFlint v) := ⟨h.off, (h.off.withFlint b v).trans h.same⟩
theorem Leaves.withPhys (h : Leaves part a b) {v} : Leaves part a (b.withPhys v) := ⟨h.off, (h.off.withPhys b v).trans h.same⟩
theorem Leaves.withGov (h : Leaves part a b) {v} : Leaves part a (b.withGov v) := ⟨h.off, (h.off.withGov b v).trans h.same⟩
theorem Leaves.withLanes (h : Leaves part a b) {v} : Leaves part a (b.withLanes v) := ⟨h.off, (h.off.withLanes b v).trans h.same⟩
theorem Leaves.withWin (h : Leaves part a b) {v} : Leaves part a (b.withWin v) := ⟨h.off, (h.off.withWin b v).trans h.same⟩
theorem Leaves.withCap (h : Leaves part a b) {v} : Leaves part a (b.withCap v) := ⟨h.off, (h.off.withCap b v).trans h.same⟩
theorem Leaves.withKeeper (h : Leaves part a b) {v} : Leaves part a (b.withKeeper v) := ⟨h.off, (h.off.withKeeper b v).trans h.same⟩
theorem Leaves.withImp (h : Leaves part a b) {v} : Leaves part a (b.withImp v) := ⟨h.off, (h.off.withImp b v).trans h.same⟩
theorem Leaves.withLink (h : Leaves part a b) {v} : Leaves part a (b.withLink v) := ⟨h.off, (h.off.withLink b v).trans h.same⟩
theorem Leaves.withHost (h : Leaves part a b) {v} : Leaves part a (b.withHost v) := ⟨h.off, (h.off.withHost b v).trans h.same⟩
theorem Leaves.withDiag (h : Leaves part a b) {v} : Leaves part a (b.withDiag v) := ⟨h.off, (h.off.withDiag b v).trans h.same⟩
theorem Leaves.withThermal (h : Leaves part a b) {v} : Leaves part a (b.withThermal v) := ⟨h.off, (h.off.withThermal b v).trans h.same⟩
theorem Leaves.withOut (h : Leaves part a b) {v} : Leaves part a (b.withOut v) := ⟨h.off, (h.off.withOut b v).trans h.same⟩
theorem Leaves.withFree (h : Leaves part a b) {v} : Leaves part a (b.withFree v) := ⟨h.off, (h.off.withFree b v).trans h.same⟩
theorem Leaves.withDict (h : Leaves part a b) {v} : Leaves part a (b.withDict v) := ⟨h.off, (h.off.withDict b v).trans h.same⟩

/-! #### Entries of the dictionary -/

theorem Leaves.put (h : Leaves part a b) {k v} : Leaves part a (b.put k v) := h.withDict
theorem Leaves.countUp (h : Leaves part a b) {k n most} : Leaves part a (b.countUp k n most) := h.put
theorem Leaves.count32 (h : Leaves part a b) {k} : Leaves part a (b.count32 k) := h.countUp
theorem Leaves.putBit (h : Leaves part a b) {k i on} : Leaves part a (b.putBit k i on) := h.put
theorem Leaves.putAll (h : Leaves part a b) {l} : Leaves part a (b.putAll l) := .foldl (fun _ _ h => h.put) h
theorem Leaves.emit (h : Leaves part a b) {e} : Leaves part a (b.emit e) := h.withOut

/-! #### The journal, flags and detections -/

theorem Leaves.journalWrite (h : Leaves part a b) {e sources} : Leaves part a (b.journalWrite e sources) :=
  .ite h.withJournal.count32 h.withJournal

theorem Leaves.raise (h : Leaves part a b) {source data} : Leaves part a (b.raise source data) := h.withFlint
theorem Leaves.reason (h : Leaves part a b) {r on} : Leaves part a (b.reason r on) := .ite h h.putBit.put
theorem Leaves.followReasons (h : Leaves part a b) : Leaves part a b.followReasons := h.reason.reason.reason.reason
theorem Leaves.dropLatch (h : Leaves part a b) {s} : Leaves part a (b.dropLatch s) := .ite h.putBit.withFlint h.putBit.withFlint.putAll
theorem Leaves.clearLive (h : Leaves part a b) {s} : Leaves part a (b.clearLive s) := .ite (.followReasons (.ite h.putBit.dropLatch h.putBit)) h
theorem Leaves.follow (h : Leaves part a b) {s data on} : Leaves part a (b.follow s data on) := .ite h.raise h.clearLive
theorem Leaves.attend (h : Leaves part a b) {bit} : Leaves part a (b.attend bit) := .ite h.putBit h

/-! #### Shared operations -/

theorem Leaves.editCh (h : Leaves part a b) {i f} : Leaves part a (b.editCh i f) := h.withGov
theorem Leaves.noteSat (h : Leaves part a b) {k hit} : Leaves part a (b.noteSat k hit) := .ite h.withDiag h
theorem Leaves.switchesOff (h : Leaves part a b) : Leaves part a b.switchesOff := h.withGov

theorem Leaves.coalesce_fst (h : Leaves part a b) {e} : Leaves part a (b.coalesce e).1 := by
  unfold Block.coalesce
  split
  · exact h
  · extract_lets
    split
    · exact h.withJournal
    · exact h

theorem Leaves.insertBurst (h : Leaves part a b) : Leaves part a b.insertBurst := by
  unfold Block.insertBurst
  split
  · exact h
  · exact h.withFlint.putBit.countUp

theorem Leaves.drainOne (h : Leaves part a b) : Leaves part a b.drainOne := by
  unfold Block.drainOne
  split
  · exact h
  · exact .ite h.withFlint.insertBurst.coalesce_fst h.withFlint.insertBurst.journalWrite

theorem Leaves.drainAll (h : Leaves part a b) : Leaves part a b.drainAll := .foldl (fun _ _ h => h.drainOne) h
theorem Leaves.sendClose (h : Leaves part a b) : Leaves part a b.sendClose := .ite (.emit (.ite h.emit h)) (.ite h.emit h)
theorem Leaves.showNominal (h : Leaves part a b) : Leaves part a b.showNominal := h.put
theorem Leaves.noteEdge (h : Leaves part a b) {i x} : Leaves part a (b.noteEdge i x) := .ite h h.withLanes.withImp.editCh
theorem Leaves.noteEdges (h : Leaves part a b) {delays} : Leaves part a (b.noteEdges delays) := .foldl (fun _ _ h => h.noteEdge) h.withLanes

/-! #### Lanes -/

theorem Leaves.setHealth (h : Leaves part a b) {ch i on} : Leaves part a (b.setHealth ch i on) := h.putBit

theorem Leaves.shortCheck (h : Leaves part a b) {kind place bad} : Leaves part a (b.shortCheck kind place bad) :=
  .ite (.ite h.withLanes h.withLanes.raise) (.ite (.ite h.withLanes.clearLive h.withLanes) h)

theorem Leaves.lowCheck (h : Leaves part a b) {ch t uv} : Leaves part a (b.lowCheck ch t uv) := by
  unfold Block.lowCheck
  split
  · split
    · exact h.withLanes
    · exact .ite h.shortCheck h
  · exact h.withLanes.shortCheck

theorem Leaves.setAveraging (h : Leaves part a b) {at' w} : Leaves part a (b.setAveraging at' w) := h.put.put.withLanes
theorem Leaves.settleAveraging (h : Leaves part a b) : Leaves part a b.settleAveraging := h.setAveraging.withLanes

theorem Leaves.lanesStop (h : Leaves part a b) : Leaves part a b.lanesStop :=
  .clearLive (.clearLive (.foldl (fun _ _ h => h.setHealth) h.withLanes.put.putBit))

/-! #### Windows and captures -/

theorem Leaves.deltaCheck (h : Leaves part a b) {cells} : Leaves part a (b.deltaCheck cells) := by
  unfold Block.deltaCheck
  extract_lets
  split
  · exact h
  · exact h.follow

theorem Leaves.staleWindow (h : Leaves part a b) : Leaves part a b.staleWindow := h.putBit
theorem Leaves.publishMeters (h : Leaves part a b) {w} : Leaves part a (b.publishMeters w) := .put (.noteSat (.foldl (fun _ _ h => h.put) h))

theorem Leaves.healthOfWindow (h : Leaves part a b) {w} : Leaves part a (b.healthOfWindow w) :=
  .ite h (.foldl (fun _ _ h => h.setHealth.setHealth.noteSat) h)

theorem Leaves.publishObjects (h : Leaves part a b) {w coverage} : Leaves part a (b.publishObjects w coverage) := by
  unfold Block.publishObjects
  extract_lets _ _ _ _ b2
  have h2 : Leaves part a b2 := by
    unfold b2
    refine .foldl (fun b x h => ?_) h.putAll
    split
    · exact h.put.put.put
    · exact h
  exact h2.withWin

theorem Leaves.announce (h : Leaves part a b) : Leaves part a b.announce := h.withKeeper
theorem Leaves.closeKeeper (h : Leaves part a b) {w} : Leaves part a (b.closeKeeper w) := .ite h h.noteSat.withKeeper.announce.withKeeper

theorem Leaves.publishWindow (h : Leaves part a b) : Leaves part a b.publishWindow := by
  unfold Block.publishWindow
  split
  · exact h
  · extract_lets
    split
    · exact h.closeKeeper.withWin.healthOfWindow.staleWindow
    · split
      · exact h.closeKeeper.withWin.healthOfWindow.publishObjects.publishMeters
      · refine .foldl (fun b x h => ?_) h.closeKeeper.withWin.healthOfWindow.publishObjects.publishMeters.deltaCheck
        split
        · exact .ite h h.lowCheck
        · exact h

theorem Leaves.keeperStop (h : Leaves part a b) : Leaves part a b.keeperStop := h.withKeeper.put

theorem Leaves.publishSnapshot (h : Leaves part a b) {seq instant tags values current} :
    Leaves part a (b.publishSnapshot seq instant tags values current) := by
  unfold Block.publishSnapshot
  extract_lets _ b2 b3
  have h2 : Leaves part a b2 := by
    unfold b2
    split
    · exact h.putAll
    · exact .ite (.put (.foldl (fun _ _ h => h.put) h.putAll)) (.foldl (fun _ _ h => h.put) h.putAll)
  have h3 : Leaves part a b3 := .foldl (fun _ _ h => h.put) h2
  exact h3.put.put.withGov.withLink

theorem Leaves.publishCapture (h : Leaves part a b) {r l} : Leaves part a (b.publishCapture r l) :=
  .ite h.noteSat.publishSnapshot.deltaCheck h.noteSat.publishSnapshot

theorem Leaves.abandonCaptures (h : Leaves part a b) : Leaves part a b.abandonCaptures := by
  unfold Block.abandonCaptures
  extract_lets _ _ b1
  have h1 : Leaves part a b1 := by
    unfold b1
    refine .foldl (fun b x h => ?_) h
    split
    · exact h.publishCapture
    · exact h.publishSnapshot
  exact h1.withCap.withGov

theorem Leaves.dropAdvisories (h : Leaves part a b) : Leaves part a b.dropAdvisories := h.withThermal.putAll.clearLive

/-! #### KEEPER frames at a head -/

theorem Leaves.storeRecord (h : Leaves part a b) {r} : Leaves part a (b.storeRecord r) := h.withLink
theorem Leaves.occupyDu (h : Leaves part a b) {ns} : Leaves part a (b.occupyDu ns) := h.withPhys
theorem Leaves.sendOn (h : Leaves part a b) {p f} : Leaves part a (b.sendOn p f) := .ite (.emit (.ite h.occupyDu h)) h

theorem Leaves.broadcast (h : Leaves part a b) {cls payload} : Leaves part a (b.broadcast cls payload) :=
  .ite h.withLink.sendOn.sendOn h.withLink.sendOn

theorem Leaves.queueFragments (h : Leaves part a b) {cls l} : Leaves part a (b.queueFragments cls l) := .ite h (.withHost (.ite h.count32 h))
theorem Leaves.countTrain (h : Leaves part a b) {cls} : Leaves part a (b.countTrain cls) := h.withLink
theorem Leaves.sendKeeper (h : Leaves part a b) {payload} : Leaves part a (b.sendKeeper payload) := .broadcast (.ite h.attend h)

theorem Leaves.forwardKeeper (h : Leaves part a b) {header payload} : Leaves part a (b.forwardKeeper header payload) := by
  unfold Block.forwardKeeper
  extract_lets _ _ b3
  have h3 : Leaves part a b3 := .ite h.countTrain.storeRecord.queueFragments h.countTrain.storeRecord
  exact .ite h3.withLink h3.sendKeeper

/-! #### Impedance and the states of charge -/

theorem Leaves.editEntry (h : Leaves part a b) {k f} : Leaves part a (b.editEntry k f) := h.withImp

theorem Leaves.putTemp (h : Leaves part a b) {i status value} : Leaves part a (b.putTemp i status value) := by
  unfold Block.putTemp
  extract_lets
  split
  · exact h.put.put
  · exact h.put

theorem Leaves.staleTemps (h : Leaves part a b) {k p} : Leaves part a (b.staleTemps k p) := .ite (.foldl (fun _ _ h => .ite h h.putTemp) h) h
theorem Leaves.releaseExcited (h : Leaves part a b) : Leaves part a b.releaseExcited := h.withGov
theorem Leaves.endSequence (h : Leaves part a b) {odd even} : Leaves part a (b.endSequence odd even) := h.withImp
theorem Leaves.addActiveSpan (h : Leaves part a b) {lo hi} : Leaves part a (b.addActiveSpan lo hi) := h.withImp

theorem Leaves.dropActive (h : Leaves part a b) {a'} : Leaves part a (b.dropActive a') := by
  unfold Block.dropActive
  extract_lets
  split
  · exact h.releaseExcited.addActiveSpan
  · exact h.releaseExcited.addActiveSpan.editEntry.staleTemps

theorem Leaves.discardActive (h : Leaves part a b) : Leaves part a b.discardActive := by
  unfold Block.discardActive
  split
  · exact h
  · exact h.dropActive.endSequence

theorem Leaves.judgeOutliers (h : Leaves part a b) : Leaves part a b.judgeOutliers := .ite h h.clearLive

theorem Leaves.outlierCheck (h : Leaves part a b) {ch q x nodeMedian} : Leaves part a (b.outlierCheck ch q x nodeMedian) :=
  .ite (.ite h.withImp.noteSat.raise h.withImp) h.withImp.judgeOutliers

theorem Leaves.learnRs (h : Leaves part a b) {i est} : Leaves part a (b.learnRs i est) := h.noteSat.put

theorem Leaves.useStep (h : Leaves part a b) {c size} : Leaves part a (b.useStep c size) :=
  .withFree (.foldl (fun _ _ h => h.outlierCheck) (.foldl (fun _ _ h => h.learnRs) h))

theorem Leaves.matchSteps (h : Leaves part a b) : Leaves part a b.matchSteps := by
  unfold Block.matchSteps
  split
  · exact h
  · refine .foldl (fun b x h => ?_) h
    split
    · exact .ite h h.withImp.useStep
    · exact h

theorem Leaves.editSoc (h : Leaves part a b) {i f} : Leaves part a (b.editSoc i f) := h.withImp
theorem Leaves.publishSoc (h : Leaves part a b) {i} : Leaves part a (b.publishSoc i) := .ite h.noteSat.put.put h.put.put
theorem Leaves.growU (h : Leaves part a b) {i d} : Leaves part a (b.growU i d) := h.noteSat.editSoc

theorem Leaves.advanceSoc (h : Leaves part a b) {i pack gap timed} : Leaves part a (b.advanceSoc i pack gap timed) :=
  .ite h.editSoc h.editSoc.editSoc.growU.publishSoc

theorem Leaves.countCharge (h : Leaves part a b) {delta changed us} : Leaves part a (b.countCharge delta changed us) :=
  .ite (.ite h.withImp.withImp h.withImp) (.foldl (fun _ _ h => h.advanceSoc) (.ite h.withImp.withImp h.withImp))

theorem Leaves.restPoint (h : Leaves part a b) {i socv} : Leaves part a (b.restPoint i socv) := by
  unfold Block.restPoint
  extract_lets
  split
  · exact h.editSoc
  · exact .ite h h.noteSat.put.editSoc

theorem Leaves.excessOf (h : Leaves part a b) {i excess} : Leaves part a (b.excessOf i excess) :=
  .ite h.noteSat.put.editSoc.noteSat.raise (.ite h.noteSat.put.editSoc h.noteSat.put.editSoc.clearLive)

theorem Leaves.excesses (h : Leaves part a b) {fresh} : Leaves part a (b.excesses fresh) := .foldl (fun _ _ h => .ite h h.excessOf) h

theorem Leaves.restCell_fst (h : Leaves part a b) {i us quiet mean} : Leaves part a (b.restCell i us quiet mean).1 := by
  unfold Block.restCell
  extract_lets
  split
  · exact h.editSoc
  · split
    · exact h.editSoc
    · extract_lets
      split
      · exact h.editSoc.editSoc.publishSoc
      · split
        · exact h.editSoc.editSoc.restPoint.publishSoc
        · exact h.editSoc

theorem Leaves.restInterrupted (h : Leaves part a b) : Leaves part a b.restInterrupted := h.withImp

theorem Leaves.restStep (h : Leaves part a b) : Leaves part a b.restStep := by
  unfold Block.restStep
  extract_lets _ _ _ _ r
  have hr : Leaves part a r.1 := by
    refine List.foldlRecOn (motive := fun x : Block × List Nat => Leaves part a x.1) _ _ h.withImp fun _ hx _ _ => ?_
    exact hx.restCell_fst
  exact .ite h (.ite h.withImp.restInterrupted hr.excesses)

theorem Leaves.restBroken (h : Leaves part a b) : Leaves part a b.restBroken := h.withImp
theorem Leaves.restOutside (h : Leaves part a b) : Leaves part a b.restOutside := .ite h h.restBroken

theorem Leaves.firstSoc (h : Leaves part a b) : Leaves part a b.firstSoc := by
  unfold Block.firstSoc
  split
  · exact h
  · refine .foldl (fun b x h => ?_) h
    split
    · exact h
    · split
      · exact .ite h h.restCell_fst
      · exact h

theorem Leaves.impStop (h : Leaves part a b) : Leaves part a b.impStop := .ite h (.foldl (fun _ _ h => .ite h h.putTemp) h.discardActive.withImp)

/-! #### Keeper records -/

theorem Leaves.takeCurrent_fst (h : Leaves part a b) {p} : Leaves part a (b.takeCurrent p).1 :=
  .ite h.withKeeper.noteSat.putAll h.withKeeper.noteSat.putAll.put.put

theorem Leaves.takeSchedule (h : Leaves part a b) {p} : Leaves part a (b.takeSchedule p) := by
  unfold Block.takeSchedule
  extract_lets
  split
  · exact h.withWin.withWin
  · exact .ite h.withWin.withWin (.ite h.withWin.withWin.withWin h.withWin.withWin)

theorem Leaves.takeHarmonics (h : Leaves part a b) {p} : Leaves part a (b.takeHarmonics p) :=
  .foldl (fun _ _ h => .ite h (.ite (.withKeeper (.ite h.editEntry h)) (.ite h.editEntry h))) h

theorem Leaves.takeSteps (h : Leaves part a b) {p} : Leaves part a (b.takeSteps p) := h.withImp.matchSteps

theorem Leaves.takeBase (h : Leaves part a b) {p} : Leaves part a (b.takeBase p) :=
  h.takeCurrent_fst.takeSchedule.takeHarmonics.takeSteps.countCharge.restOutside.restStep

theorem Leaves.takePhasor (h : Leaves part a b) {p} : Leaves part a (b.takePhasor p) := .ite h h.editEntry
theorem Leaves.takeRecord (h : Leaves part a b) {p} : Leaves part a (b.takeRecord p) := .ite h (.ite h.takeBase (.ite h.takePhasor h))

theorem Leaves.withOwnRecord (h : Leaves part a b) {f} (hf : ∀ {b}, Leaves part a b → Leaves part a (f b)) :
    Leaves part a (b.withOwnRecord f) := by
  unfold Block.withOwnRecord
  extract_lets _ _ _ b2
  have h2 : Leaves part a b2 := .foldl (fun _ _ h => h.takeRecord) (hf h)
  exact .ite (.foldl (fun _ _ h => h.forwardKeeper) h2.withKeeper) h2

/-! #### The way out of Measure and Full -/

theorem Leaves.noteConducted (h : Leaves part a b) : Leaves part a b.noteConducted := h.withImp.withGov

theorem Leaves.publishAll (h : Leaves part a b) : Leaves part a b.publishAll :=
  .ite (h.noteConducted.withOwnRecord fun h => h.publishWindow).firstSoc.restStep h

theorem Leaves.setMode (h : Leaves part a b) {m} : Leaves part a (b.setMode m) := h.withPower.put

theorem Leaves.stopMeasuring (h : Leaves part a b) : Leaves part a b.stopMeasuring := by
  unfold Block.stopMeasuring
  split
  · exact h
  · extract_lets _ _ _ _ b4
    have h4 : Leaves part a b4 := .ite h.switchesOff.publishAll.withWin.abandonCaptures.lanesStop.impStop.dropAdvisories.keeperStop.showNominal
        h.switchesOff.publishAll.withWin.abandonCaptures.lanesStop.impStop.dropAdvisories
    exact h4.settleAveraging.withGov.setMode

end

end Sys2Proof.Machine
end

section
/-! ### The supply monitors (R75–R78, R377, R387, R407) -/

namespace Sys2Proof.Machine

/-! #### A live bit that clears (R391, R392) -/

/-- From b to c only the dictionary has changed. -/
def Block.DictOnly (b c : Block) : Prop := ∃ d, c = b.withDict d

theorem Block.DictOnly.put {b c : Block} (h : b.DictOnly c) (k : Nat) (v : Int) : b.DictOnly (c.put k v) := by
  obtain ⟨d, rfl⟩ := h
  exact ⟨_, rfl⟩

theorem Block.DictOnly.putAll {b c : Block} (h : b.DictOnly c) (l : List (Nat × Int)) : b.DictOnly (c.putAll l) :=
  List.foldlRecOn (motive := fun x : Block => b.DictOnly x) _ _ h fun _ hx p _ => hx.put p.1 p.2

theorem Block.DictOnly.reason {b c : Block} (h : b.DictOnly c) (r : Reason) (on : Bool) : b.DictOnly (c.reason r on) := by
  unfold Block.reason
  split
  · exact h
  · exact (h.put _ _).put _ _

theorem Block.DictOnly.followReasons {b c : Block} (h : b.DictOnly c) : b.DictOnly c.followReasons :=
  (((h.reason _ _).reason _ _).reason _ _).reason _ _

theorem Block.dropLatch_frame (b : Block) (s : Nat) : ∃ f, (b.withFlint f).DictOnly (b.dropLatch s) := by
  unfold Block.dropLatch
  extract_lets b1 f b2
  have h2 : (b.withFlint b2.flint).DictOnly b2 := ⟨b2.dict, rfl⟩
  refine ⟨b2.flint, ?_⟩
  split
  · exact h2
  · exact h2.putAll _

/-- A live bit that clears writes registrations and entries of the dictionary only. -/
theorem Block.clearLive_frame (b : Block) (s : Nat) : ∃ f, (b.withFlint f).DictOnly (b.clearLive s) := by
  unfold Block.clearLive
  split
  · extract_lets b1 b2
    have h2 : ∃ f, (b.withFlint f).DictOnly b2 := by
      unfold b2
      split
      · obtain ⟨f, d, e⟩ := b1.dropLatch_frame s
        exact ⟨f, d, e⟩
      · exact ⟨b.flint, b1.dict, rfl⟩
    obtain ⟨f, h⟩ := h2
    exact ⟨f, h.followReasons⟩
  · exact ⟨b.flint, b.dict, rfl⟩

/-! #### The monitors' rows -/

/-- VSTK outside its range (R75). -/
theorem vstkRangeCheck_raises {s : State} {d : Nat} (awake : s.blk.awake = true) (out : d < 90 ∨ 1700 < d) :
    GivesBlock (.vstkRangeCheck d) s fun b => b = s.blk.raise 0x86 (min 65535 d) :=
  ⟨_, rfl, if_pos (by simpa [awake] using out)⟩

theorem vstkRangeCheck_inside {s : State} {d : Nat} (low : 90 ≤ d) (high : d ≤ 1700) : exec (.vstkRangeCheck d) s = .next s := by
  have stays : vstkRangeCheck d s.blk = s.blk :=
    if_neg (by simp only [Bool.and_eq_true, Bool.or_eq_true, decide_eq_true_eq]; omega)
  exact congrArg (fun b => Host.Outcome.next { s with blk := b }) stays

/-- VSTK back in its range (R377). -/
theorem vstkInRange_clears {s : State} (awake : s.blk.awake = true) :
    GivesBlock .vstkInRange s fun b => b.live 0x86 = false ∧ b = (s.blk.withFlint b.flint).withDict b.dict := by
  refine ⟨_, rfl, ?_⟩
  rw [vstkInRange, if_pos awake]
  refine ⟨s.blk.live_clearLive (by decide), ?_⟩
  obtain ⟨f, d, e⟩ := s.blk.clearLive_frame 0x86
  rw [e]
  rfl

/-- A bad rail is remembered and raises 0x85 (R377). -/
theorem Block.railBad_spec (b : Block) (r : Rail) :
    (b.railBad r).flint.detections = b.flint.detections ++ [⟨0x85, r.code, 0, none⟩] ∧ r ∈ (b.railBad r).power.railsBad ∧
      (b.railBad r).dict = b.dict := by
  refine ⟨rfl, ?_, rfl⟩
  simp only [Block.railBad, Block.raise_power, Block.withPower_power]
  split
  · next known => exact List.contains_iff_mem.1 known
  · exact List.mem_append_right _ (List.mem_singleton_self r)

/-- VIN5 low after it was good (R77). -/
theorem vinLow_raises {s : State} (awake : s.blk.awake = true) (good : s.blk.power.vin5Good = true) :
    GivesBlock .vinLow s fun b => b.flint.detections = s.blk.flint.detections ++ [⟨0x85, 1, 0, none⟩] ∧
      Rail.vin5 ∈ b.power.railsBad ∧ b.dict = s.blk.dict := by
  refine ⟨_, rfl, ?_⟩
  rw [vinLow, if_pos (by simp [awake, good])]
  exact s.blk.railBad_spec .vin5

/-- VDDA or VDDD out of its window (R407). -/
theorem railWindowFault_raises {s : State} {r : Rail} (awake : s.blk.awake = true) (window : r ≠ .vin5) :
    GivesBlock (.railWindowFault r) s fun b => b.flint.detections = s.blk.flint.detections ++ [⟨0x85, r.code, 0, none⟩] ∧
      r ∈ b.power.railsBad ∧ b.dict = s.blk.dict := by
  refine ⟨_, rfl, ?_⟩
  rw [railWindowFault, if_pos (by simp [awake, window])]
  exact s.blk.railBad_spec r

/-- The last bad rail is good again (R377). -/
theorem railGood_clears {s : State} {r : Rail} (awake : s.blk.awake = true) (last : ∀ x ∈ s.blk.power.railsBad, x = r) :
    GivesBlock (.railGood r) s fun b => b.power.railsBad = [] ∧ b.live 0x85 = false := by
  refine ⟨_, rfl, ?_⟩
  have none_left : s.blk.power.railsBad.filter (· != r) = [] := by simpa using last
  simp only [railGood, awake, none_left, Bool.not_true, Bool.false_eq_true, if_false, Block.withPower_power, List.isEmpty_nil, if_true]
  exact ⟨by simp, Block.live_clearLive _ (by decide)⟩

/-- The third difference of PWR_EN in a row (R76). -/
theorem pwrEnComparison_raises {s : State} {level : Bool} (awake : s.blk.awake = true) (other : level ≠ s.blk.power.pwrEn)
    (twice : 2 ≤ s.blk.power.pwrEnMisses) : GivesBlock (.pwrEnComparison level) s fun b =>
      b.flint.detections = s.blk.flint.detections ++ [⟨0x87, boolNat s.blk.power.pwrEn, 0, none⟩] ∧ b.hasReason .pwrEn = true := by
  refine ⟨_, rfl, ?_⟩
  have three : min 3 (s.blk.power.pwrEnMisses + 1) = 3 := by omega
  simp only [pwrEnComparison, awake, other, three, Bool.not_true, Bool.false_eq_true, if_false, le_refl, if_true]
  exact ⟨by simp, by rw [Block.hasReason, Block.raise_bit]; exact Block.hasReason_reason _ _ _⟩

theorem pwrEnComparison_agrees {s : State} (awake : s.blk.awake = true) : GivesBlock (.pwrEnComparison s.blk.power.pwrEn) s fun b =>
    b = s.blk.withPower { s.blk.power with pwrEnMisses := 0 } :=
  ⟨_, rfl, by simp [pwrEnComparison, awake]⟩

/-! #### SUPPLY_FAIL (R77, R387) -/

/-- The way out of Standby leaves the NVM unit alone. -/
theorem Block.leaveAwake_nvm (b : Block) (m : Mode) : (b.leaveAwake m).nvm = b.nvm := by
  have left : Leaves Block.nvm b (b.stopMeasuring.drainAll) := (Leaves.refl offMeasuring_nvm b).stopMeasuring.drainAll
  simp [Block.leaveAwake, left.same]

theorem Block.enterSleep_nvm (b : Block) (plan : List Planned) : (b.enterSleep plan).nvm = b.nvm := by
  rw [Block.enterSleep, Block.setFlt, Block.withFlint_nvm, Block.leaveAwake_nvm, Block.handOver, Block.withBedrock_nvm]

@[simp] theorem Block.noteEdges_nvm (b : Block) (d : List Nat) : (b.noteEdges d).nvm = b.nvm := by
  obtain ⟨l, i, g, e⟩ := b.noteEdges_frame d; simp [e]

theorem supplyFail_sleeps {s : State} (on : s.blk.power.mode = .standby ∨ s.blk.measuring = true) :
    GivesBlock .supplyFail s fun b =>
      b.power.mode = .sleep ∧ b.power.pwrEn = false ∧ b.nvm.program = none ∧ b.flint.fltLow = false := by
  refine ⟨_, rfl, ?_⟩
  have fails : supplyFail s.blk = (s.blk.withNvm { s.blk.nvm with program := none }).enterSleep s.blk.gov.plan :=
    if_pos (by simpa using on)
  obtain ⟨mode, low, released⟩ := Block.enterSleep_spec (s.blk.withNvm { s.blk.nvm with program := none }) s.blk.gov.plan
  simp only [fails, Block.noteEdges_power, Block.noteEdges_nvm, Block.noteEdges_flint, Block.enterSleep_nvm]
  exact ⟨mode, low, rfl, released⟩

/-- Settles O2: each monitor by the lemma of its row. -/
theorem supplyMonitors : Obligations.SupplyMonitors :=
  ⟨fun _ _ => vstkRangeCheck_raises, fun _ _ => vstkRangeCheck_inside, fun _ => vstkInRange_clears, fun _ => vinLow_raises,
    fun _ _ => railWindowFault_raises, fun _ _ => railGood_clears, fun _ _ => pwrEnComparison_raises, fun _ => pwrEnComparison_agrees,
    fun _ => supplyFail_sleeps⟩

end Sys2Proof.Machine
end

section
/-! ### The wake sequence (R91–R97) -/

namespace Sys2Proof.Machine

/-! #### Wake events -/

/-- In Sleep, with no sequence under way, a source that may wake starts it; only Bedrock's record of a tone differs (R92). -/
theorem Block.wakeFromSleep_starts {b : Block} {src : WakeSource} (slept : Nat) (idle : b.power.stage = .idle)
    (may : b.wakesFrom src = true) : ∃ k, b.wakeFromSleep src slept = (b.withBedrock k).startWake (wakeCause src) slept := by
  rw [Block.wakeFromSleep, if_neg (by simp [idle, may])]
  by_cases du : src = .toneDu
  · exact ⟨_, by rw [if_pos du]⟩
  · exact ⟨b.bedrock, by rw [if_neg du]; rfl⟩

/-- A wake event in Sleep (R92). -/
theorem wakeEvent_starts {s : State} {src : WakeSource} {slept : Nat} (asleep : s.blk.power.mode = .sleep)
    (idle : s.blk.power.stage = .idle) (may : s.blk.wakesFrom src = true) :
    GivesBlock (.wakeEvent src slept) s fun b =>
      b.power.stage = .awaitVin5 ∧ b.power.cause = wakeCause src ∧ b.power.attempts = 1 ∧ b.power.pwrEn = true ∧
        b.power.slept = min slept (2 ^ 32 - 1) ∧ b.power.prior = s.blk.priorCode := by
  obtain ⟨k, started⟩ := Block.wakeFromSleep_starts slept idle may
  refine ⟨_, rfl, ?_⟩
  rw [wakeEvent, if_pos asleep, started]
  exact ⟨rfl, rfl, rfl, rfl, rfl, rfl⟩

/-- In Ship a node repeats the tone before its own sequence begins (R96). -/
theorem extendedWakeEvent_repeats {s : State} {src : WakeSource} {slept : Nat} {p : Port} (tone : repeatPort src = some p)
    (may : s.blk.wakesFrom src = true) (shipped : s.blk.power.mode = .ship) (idle : s.blk.power.stage = .idle)
    (node : s.blk.isHead = false) : GivesBlock (.extendedWakeEvent src slept) s fun b =>
      b.power.stage = .awaitVin5 ∧ b.power.cause = 8 ∧ b.out = s.blk.out ++ [.tone p 1200] := by
  refine ⟨_, rfl, ?_⟩
  have begins : extendedWakeEvent src slept s.blk = (s.blk.emit (.tone p 1200)).startWake 8 slept := by
    simp [extendedWakeEvent, shipped, may, tone, node, idle]
  rw [begins]
  exact ⟨rfl, rfl, rfl⟩

/-- A head in Ship repeats nothing (R96). -/
theorem extendedWakeEvent_head {s : State} {src : WakeSource} {slept : Nat} (shipped : s.blk.power.mode = .ship)
    (idle : s.blk.power.stage = .idle) (head : s.blk.isHead = true) : GivesBlock (.extendedWakeEvent src slept) s fun b =>
      b.power.stage = .awaitVin5 ∧ b.power.cause = 8 ∧ b.out = s.blk.out := by
  refine ⟨_, rfl, ?_⟩
  have begins : extendedWakeEvent src slept s.blk = s.blk.startWake 8 slept := by
    cases src <;> simp [extendedWakeEvent, shipped, Block.wakesFrom, repeatPort, head, idle]
  rw [begins]
  exact ⟨rfl, rfl, rfl⟩

/-- In Sleep an extended tone is a wake event as any (R96). -/
theorem extendedWakeEvent_asleep {s : State} {src : WakeSource} {slept : Nat} (asleep : s.blk.power.mode = .sleep)
    (idle : s.blk.power.stage = .idle) (may : s.blk.wakesFrom src = true) :
    GivesBlock (.extendedWakeEvent src slept) s fun b => b.power.stage = .awaitVin5 ∧ b.power.cause = wakeCause src := by
  obtain ⟨k, started⟩ := Block.wakeFromSleep_starts slept idle may
  refine ⟨_, rfl, ?_⟩
  rw [extendedWakeEvent, if_neg (by simp [asleep]), if_pos asleep, started]
  exact ⟨rfl, rfl⟩

/-- A wake kept while the node went to sleep starts once it may (R97). -/
theorem deferredWakeStart_starts {s : State} {c slept : Nat} (kept : s.blk.power.deferred = some c)
    (resting : s.blk.power.mode = .sleep ∨ s.blk.power.mode = .ship) (idle : s.blk.power.stage = .idle) :
    GivesBlock (.deferredWakeStart slept) s fun b =>
      b.power.stage = .awaitVin5 ∧ b.power.cause = c ∧ b.power.deferred = none := by
  refine ⟨_, rfl, ?_⟩
  have begins : deferredWakeStart slept s.blk = s.blk.startWake c slept := by
    simp only [deferredWakeStart, kept]
    exact if_pos (by simpa [idle] using resting)
  rw [begins]
  exact ⟨rfl, rfl, rfl⟩

/-! #### The supply attempts (R93) -/

theorem vin5Good_rails {s : State} (waits : s.blk.power.stage = .awaitVin5) : GivesBlock .vin5Good s fun b =>
    b = s.blk.withPower { s.blk.power with vin5Good := true, stage := .rails } :=
  ⟨_, rfl, if_pos waits⟩

theorem supplyAttemptTimeout_retries {s : State} (waits : s.blk.power.stage = .awaitVin5) (few : s.blk.power.attempts < 4) :
    GivesBlock .supplyAttemptTimeout s fun b => b = s.blk.withPower { s.blk.power with pwrEn := false, stage := .retryWait } :=
  ⟨_, rfl, (if_neg (not_not.2 waits)).trans (if_neg (by omega))⟩

theorem supplyAttemptTimeout_ends {s : State} (waits : s.blk.power.stage = .awaitVin5) (fourth : 4 ≤ s.blk.power.attempts) :
    GivesBlock .supplyAttemptTimeout s fun b =>
      b = s.blk.withPower { s.blk.power with pwrEn := false, stage := .idle, supplyRecorded := true } :=
  ⟨_, rfl, (if_neg (not_not.2 waits)).trans (if_pos fourth)⟩

theorem supplyAttemptRetry_again {s : State} (waits : s.blk.power.stage = .retryWait) : GivesBlock .supplyAttemptRetry s fun b =>
    b = s.blk.withPower { s.blk.power with pwrEn := true, stage := .awaitVin5, attempts := s.blk.power.attempts + 1 } :=
  ⟨_, rfl, if_pos waits⟩

/-! #### The core reset and the boot (R20, R30, R91) -/

@[simp] theorem Block.clearEveryLive_journal (b : Block) : b.clearEveryLive.journal = b.journal :=
  foldl_keeps Block.journal Block.clearLive_journal _ b

@[simp] theorem Block.clearEveryLive_bedrock (b : Block) : b.clearEveryLive.bedrock = b.bedrock :=
  foldl_keeps Block.bedrock Block.clearLive_bedrock _ b

@[simp] theorem Block.clearEveryLive_fuses (b : Block) : b.clearEveryLive.fuses = b.fuses :=
  foldl_keeps Block.fuses Block.clearLive_fuses _ b

/-- Bedrock, the journal's entries and the fuses come through a core reset (R103). -/
theorem Block.coreReset_keeps (b : Block) :
    b.coreReset.journal.entries = b.journal.entries ∧ b.coreReset.bedrock = b.bedrock ∧ b.coreReset.fuses = b.fuses := by
  rw [Block.coreReset]
  refine ⟨?_, ?_, ?_⟩
  · simp
  · simp
  · simp [Block.afresh, Block.fresh]

/-- The role that the core reset samples (R20, R30). -/
theorem coreResetRelease_samples {s : State} {strap : Bool} {mv : Int} (rails : s.blk.power.stage = .rails) :
    GivesBlock (.coreResetRelease strap mv) s fun b =>
      b.power.stage = .booting ∧ b.get Ob.role = (if strap then (if mv < 1000 then 3 else 2) else 1) ∧
        b.journal.entries = s.blk.journal.entries ∧ b.bedrock = s.blk.bedrock ∧ b.fuses = s.blk.fuses := by
  refine ⟨_, rfl, ?_⟩
  rw [coreResetRelease, if_neg (not_not.2 rails)]
  exact ⟨rfl, Block.get_put_self _ Ob.role _, s.blk.coreReset_keeps⟩

/-- A tone on a port touches transmitters and queues, never the power unit. -/
@[simp] theorem Block.sendTone_power (b : Block) (p : Port) (us : Nat) : (b.sendTone p us).power = b.power := by
  have started : (b.startTone p us).power = b.power := by
    unfold Block.startTone
    split
    · simp [Block.preempted]
    · simp
  unfold Block.sendTone
  split
  · cases p <;> simp
  · exact started

@[simp] theorem Block.wakeTones_power (b : Block) (us census : Nat) : (b.wakeTones us census).power = b.power := by
  unfold Block.wakeTones
  extract_lets b1 b2
  have first : b1.power = b.power := b.sendTone_power .du us
  have second : b2.power = b1.power := by
    unfold b2
    split
    · exact b1.sendTone_power .dl us
    · rfl
  exact second.trans first

@[simp] theorem Block.headFollowUp_power (b : Block) : b.headFollowUp.power = b.power := by
  unfold Block.headFollowUp
  extract_lets b1
  have told : b1.power = b.power := by
    unfold b1
    split
    · exact b.attend_power 1
    · rfl
  split
  · exact told
  · split
    · exact (b1.wakeTones_power _ _).trans told
    · split
      · exact (b1.wakeTones_power _ _).trans told
      · exact told

/-- Steps 4 and 5 end in Standby (R91). -/
theorem engineBootComplete_stands {s : State} {report : BootReport} {t : Nat} (booting : s.blk.power.stage = .booting) :
    GivesBlock (.engineBootComplete report t) s fun b =>
      b.power.mode = .standby ∧ b.power.stage = .idle ∧ b.power.firstWake = false := by
  refine ⟨_, rfl, ?_⟩
  rw [engineBootComplete, if_neg (not_not.2 booting)]
  simp only [Block.followReasons_power, Block.headFollowUp_power]
  exact ⟨rfl, rfl, rfl⟩

/-- Settles O3: each step of the sequence by the lemma of its row. -/
theorem wakeSequence : Obligations.WakeSequence :=
  ⟨fun _ _ _ => wakeEvent_starts, fun _ _ => extendedWakeEvent_repeats rfl rfl, fun _ _ => extendedWakeEvent_repeats rfl rfl,
    fun _ _ _ => extendedWakeEvent_head, fun _ _ _ => extendedWakeEvent_asleep, fun _ _ _ => deferredWakeStart_starts,
    fun _ => vin5Good_rails, fun _ => supplyAttemptTimeout_retries, fun _ => supplyAttemptTimeout_ends,
    fun _ => supplyAttemptRetry_again, fun _ _ _ => coreResetRelease_samples, fun _ _ _ => engineBootComplete_stands⟩

end Sys2Proof.Machine
end

section
/-! ### Bedrock's watch in Sleep (R99, R100, R210, R232, R422) -/

namespace Sys2Proof.Machine

/-! #### Checks and confirmations -/

/-- Below 145.0 °C the lane temperatures change nothing (R422). -/
theorem Block.sleepHeat_cool {b : Block} {lanes : List Int} (cool : b.hottestOf lanes < 1450) : b.sleepHeat lanes = b := by
  have shutdown : ¬ 1500 ≤ b.hottestOf lanes := by omega
  simp [Block.sleepHeat, not_le.2 cool, shutdown]

/-- The hottest reading depends on the package by its exclusions alone (R421). -/
theorem Block.hottestOf_congr {b c : Block} (same : c.get Ob.excludedThermometers = b.get Ob.excludedThermometers) (lanes : List Int) :
    c.hottestOf lanes = b.hottestOf lanes := by
  simp only [Block.hottestOf, Block.bit, Block.nat, same]

/-- A further tone writes when it went out, and nothing else but the tone (R100). -/
theorem Block.persistTone_keeps (b : Block) (found : List Crossing) (now : Nat) :
    (b.persistTone found now).bedrock.firstCrossings = b.bedrock.firstCrossings ∧ (b.persistTone found now).power = b.power ∧
      (b.persistTone found now).dict = b.dict := by
  unfold Block.persistTone
  extract_lets
  split
  · exact ⟨rfl, rfl, rfl⟩
  · exact ⟨rfl, rfl, rfl⟩

/-- A check keeps its crossings for the next one (R99, R100). -/
theorem periodicCheck_keeps {s : State} {cells therm lanes : List Int} {bed : Nat} (watches : s.blk.bedrockWatches = true)
    (cool : s.blk.hottestOf lanes < 1450) : GivesBlock (.periodicCheck cells therm lanes bed) s fun b =>
      b.bedrock.firstCrossings = s.blk.bedrock.find cells therm ∧ b.power = s.blk.power ∧ b.dict = s.blk.dict := by
  refine ⟨_, rfl, ?_⟩
  rw [periodicCheck, if_neg (by simp [watches])]
  have kept := Block.persistTone_keeps
    (s.blk.withBedrock { s.blk.bedrock with firstCrossings := s.blk.bedrock.find cells therm }) (s.blk.bedrock.find cells therm) bed
  rw [Block.sleepHeat_cool]
  · exact kept
  · rwa [Block.hottestOf_congr (b := s.blk) (Block.get_of_dict kept.2.2 _)]

/-- Confirmed crossings end sleep balancing and send the tone toward the head (R100, R341). -/
theorem Block.confirm_spec {b : Block} {l : List Crossing} (some_left : l ≠ []) (bed : Nat) :
    (b.confirm l bed).bedrock.crossings = b.bedrock.crossings ++ l ∧ (b.confirm l bed).bedrock.balancing = false ∧
      (b.confirm l bed).bedrock.firstCrossings = b.bedrock.firstCrossings ∧
      (b.confirm l bed).out = b.out ++ [.tone (if b.turned then .du else .dl) 20] ∧ (b.confirm l bed).gov = b.switchesOff.gov := by
  obtain ⟨c, t, rfl⟩ := List.exists_cons_of_ne_nil some_left
  by_cases none_yet : b.bedrock.crossings.isEmpty = true
  · simp [Block.confirm, none_yet, Block.bedrockTone, Block.endBalancing, Block.switchesOff, Block.turned]
  · simp [Block.confirm, none_yet, Block.bedrockTone, Block.endBalancing, Block.switchesOff, Block.turned]

/-- The check 1 s after a first crossing (R100). -/
theorem crossingConfirmation_confirms {s : State} {cells therm : List Int} {bed : Nat} (watches : s.blk.bedrockWatches = true)
    (again : ((s.blk.bedrock.find cells therm).filter fun c =>
      s.blk.bedrock.firstCrossings.any c.same && !s.blk.bedrock.crossings.any c.same) ≠ []) :
    GivesBlock (.crossingConfirmation cells therm bed) s fun b =>
      b.bedrock.crossings = s.blk.bedrock.crossings ++ ((s.blk.bedrock.find cells therm).filter fun c =>
        s.blk.bedrock.firstCrossings.any c.same && !s.blk.bedrock.crossings.any c.same) ∧
      b.bedrock.balancing = false ∧ b.bedrock.firstCrossings = ((s.blk.bedrock.find cells therm).filter fun c =>
        !s.blk.bedrock.firstCrossings.any c.same && !s.blk.bedrock.crossings.any c.same) ∧
      b.out = s.blk.out ++ [.tone (if s.blk.turned then .du else .dl) 20] ∧ (∀ c ∈ b.gov.ch, c.on = false) := by
  have pending : s.blk.bedrock.firstCrossings ≠ [] := fun none_kept => again (by simp [none_kept])
  refine ⟨_, rfl, ?_⟩
  have confirmed : crossingConfirmation cells therm bed s.blk = Block.confirm _ _ bed :=
    (if_neg (by simp [watches, pending])).trans (if_neg (by simpa using again))
  rw [confirmed]
  obtain ⟨crossings, balancing, first, out, gov⟩ := Block.confirm_spec (b := s.blk.withBedrock { s.blk.bedrock with
    firstCrossings := (s.blk.bedrock.find cells therm).filter fun c =>
      !s.blk.bedrock.firstCrossings.any c.same && !s.blk.bedrock.crossings.any c.same }) again bed
  refine ⟨crossings, balancing, first, out, ?_⟩
  rw [gov]
  simpa using List.all_eq_true.1 (Block.switchesOff_off _)

/-! #### Sleep balancing (R232) -/

/-- Does a half turn on channel i by the plan: half first of R232 has the even numbers of this count, the other half the odd ones. -/
def Bedrock.turns (k : Bedrock) (first : Bool) (i : Nat) : Bool :=
  (if first then i % 2 == 0 else i % 2 == 1) && decide ((k.planned[i]?).getD 0 ≠ 0)

theorem Bedrock.turns_eq (k : Bedrock) (first : Bool) (i : Nat) :
    k.turns first i = (decide (i % 2 = if first then 0 else 1) && decide ((k.planned[i]?).getD 0 ≠ 0)) := by
  cases first
  · rfl
  · rfl

/-- A half turns a channel on where the plan has it. -/
def Block.turnPlanned (first : Bool) (b : Block) (i : Nat) : Block :=
  if b.bedrock.turns first i then b.editCh i fun c => { c with on := true, worked := true } else b

theorem Block.turnPlanned_keeps (first : Bool) (b : Block) (i : Nat) :
    (b.turnPlanned first i).bedrock = b.bedrock ∧ (b.turnPlanned first i).gov.ch.length = b.gov.ch.length := by
  unfold Block.turnPlanned
  split
  · refine ⟨rfl, ?_⟩
    simp only [Block.editCh, Block.withGov, editAt]
    split
    · exact List.length_set
    · rfl
  · exact ⟨rfl, rfl⟩

theorem Block.turnPlanned_on {b : Block} (first : Bool) (i j : Nat) (present : i < b.gov.ch.length) :
    ((b.turnPlanned first j).chan i).on = ((b.chan i).on || (j == i && b.bedrock.turns first i)) := by
  unfold Block.turnPlanned
  split
  · next on =>
    rw [Block.chan_editCh]
    by_cases here : j = i
    · subst here
      simp [present, on]
    · simp [here]
  · next off =>
    by_cases here : j = i
    · subst here
      simp [off]
    · simp [here]

/-- After a half has gone through channels, those of them conduct that the plan has, and those that did before. -/
theorem Block.turnPlanned_fold_on (first : Bool) (i : Nat) : ∀ (l : List Nat) (b : Block), i < b.gov.ch.length →
    ((l.foldl (Block.turnPlanned first) b).chan i).on = ((b.chan i).on || (l.contains i && b.bedrock.turns first i))
  | [], b, _ => by simp
  | j :: l, b, present => by
    obtain ⟨bedrock, length⟩ := b.turnPlanned_keeps first j
    rw [List.foldl_cons, Block.turnPlanned_fold_on first i l _ (by rwa [length]), Block.turnPlanned_on first i j present, bedrock,
      List.contains_cons, Bool.or_assoc, ← Bool.and_or_distrib_right, Bool.beq_comm]

/-- Between two halves no switch conducts, and every channel is still there. -/
theorem Block.endSleepHalf_spec (b : Block) (ms i : Nat) :
    ((b.endSleepHalf ms).chan i).on = false ∧ (b.endSleepHalf ms).gov.ch.length = b.gov.ch.length ∧
      (b.endSleepHalf ms).bedrock.planned = b.bedrock.planned := by
  refine ⟨?_, by simp [Block.endSleepHalf, Block.switchesOff], rfl⟩
  have channels : (b.endSleepHalf ms).gov.ch = b.switchesOff.gov.ch.map fun c => { c with worked := false } := rfl
  simp only [Block.chan, channels, Block.switchesOff, Block.withGov_gov, List.getElem?_map]
  cases b.gov.ch[i]? with
  | none => rfl
  | some c => rfl

/-- A half conducts on its planned channels only (R232). -/
theorem sleepBalancePhase_turns {s : State} {odd : Option Bool} {ms i : Nat} (watches : s.blk.bedrockWatches = true)
    (balancing : s.blk.bedrock.balancing = true) (real : i < 32) (present : i < s.blk.gov.ch.length) :
    GivesBlock (.sleepBalancePhase odd ms) s fun b => (b.chan i).on = match odd with
      | none => false
      | some first => decide (i % 2 = if first then 0 else 1) && decide ((s.blk.bedrock.planned[i]?).getD 0 ≠ 0) := by
  obtain ⟨off, length, planned⟩ := s.blk.endSleepHalf_spec ms i
  refine ⟨_, rfl, ?_⟩
  rw [sleepBalancePhase, if_neg (by simp [watches, balancing])]
  cases odd with
  | none => exact off
  | some first =>
    calc (((List.range 32).foldl (Block.turnPlanned first) (s.blk.endSleepHalf ms)).chan i).on
        = (s.blk.endSleepHalf ms).bedrock.turns first i := by
          rw [Block.turnPlanned_fold_on first i _ _ (by rwa [length]), off]
          simp [real]
      _ = _ := by rw [Bedrock.turns_eq, planned]

/-- A second of sleep balancing at one channel (R210, R232): what the model's fold does with channel i of the plan k. -/
def Block.countPlanned (k : Bedrock) (b : Block) (i : Nat) : Block :=
  if (k.planned[i]?).getD 0 = 0 then b
  else
    let v := b.nat (chKey Ob.sessionTimer i)
    let b := b.put (chKey Ob.sessionTimer i) (v - 1 : Nat)
    let b := if (k.planned[i]?).getD 0 = 1 then b.editCh i fun c => { c with on := false } else b
    if v = 1 then b.editCh i fun c => { c with state := 4 } else b

/-- Its timers and switches are none of the power unit's, nor among the exclusions of the thermometers. -/
theorem Block.countPlanned_keeps (k : Bedrock) (b : Block) {i : Nat} (real : i < 32) :
    (b.countPlanned k i).power = b.power ∧
      (b.countPlanned k i).get Ob.excludedThermometers = b.get Ob.excludedThermometers := by
  have timer : (b.put (chKey Ob.sessionTimer i) ((b.nat (chKey Ob.sessionTimer i) - 1 : Nat) : Int)).get Ob.excludedThermometers =
      b.get Ob.excludedThermometers := b.get_put_other _ (by simp only [chKey, Ob.excludedThermometers, Ob.sessionTimer]; omega)
  unfold Block.countPlanned
  split
  · exact ⟨rfl, rfl⟩
  · extract_lets v b1 b2
    have switched : b2.power = b.power ∧ b2.get Ob.excludedThermometers = b.get Ob.excludedThermometers := by
      unfold b2
      split
      · exact ⟨rfl, timer⟩
      · exact ⟨rfl, timer⟩
    split
    · exact switched
    · exact switched

theorem Block.countPlanned_fold_keeps (k : Bedrock) (b : Block) :
    ((List.range 32).foldl (Block.countPlanned k) b).power = b.power ∧
      ((List.range 32).foldl (Block.countPlanned k) b).get Ob.excludedThermometers = b.get Ob.excludedThermometers :=
  List.foldlRecOn (motive := fun c : Block => c.power = b.power ∧ c.get Ob.excludedThermometers = b.get Ob.excludedThermometers)
    _ _ ⟨rfl, rfl⟩ fun c same _ mem =>
      let ⟨power, excluded⟩ := c.countPlanned_keeps k (List.mem_range.1 mem)
      ⟨power.trans same.1, excluded.trans same.2⟩

/-- A second counts the plan down (R232). -/
theorem sleepBalanceSecond_counts {s : State} {lanes : List Int} (watches : s.blk.bedrockWatches = true)
    (balancing : s.blk.bedrock.balancing = true) (cool : s.blk.hottestOf lanes < 1450) :
    GivesBlock (.sleepBalanceSecond lanes) s fun b =>
      b.bedrock.planned = s.blk.bedrock.planned.map (fun n => n - 1) ∧ b.power = s.blk.power := by
  refine ⟨_, rfl, ?_⟩
  rw [sleepBalanceSecond, if_neg (by simp [watches, balancing])]
  extract_lets k b1 b2 b3
  obtain ⟨power, excluded⟩ : b1.power = s.blk.power ∧ b1.get Ob.excludedThermometers = s.blk.get Ob.excludedThermometers :=
    Block.countPlanned_fold_keeps k s.blk
  have ended : b3 = b2 ∨ b3 = b2.endBalancing 6 := by
    unfold b3
    split
    · exact .inr rfl
    · exact .inl rfl
  have planned : b3.bedrock.planned = s.blk.bedrock.planned.map fun n => n - 1 := by
    rcases ended with e | e <;> rw [e] <;> rfl
  have same_power : b3.power = b1.power := by rcases ended with e | e <;> rw [e] <;> rfl
  have same_dict : b3.dict = b1.dict := by rcases ended with e | e <;> rw [e] <;> rfl
  rw [Block.sleepHeat_cool]
  · exact ⟨planned, same_power.trans power⟩
  · rwa [Block.hottestOf_congr ((Block.get_of_dict same_dict _).trans excluded)]

/-- Settles O5: each of Bedrock's rows by its lemma. -/
theorem bedrockWatch : Obligations.BedrockWatch :=
  ⟨fun _ _ _ _ _ => periodicCheck_keeps, fun _ _ _ _ => crossingConfirmation_confirms, fun _ _ _ _ => sleepBalancePhase_turns,
    fun _ _ => sleepBalanceSecond_counts, fun _ _ measuring => ⟨_, rfl, if_pos measuring⟩⟩

end Sys2Proof.Machine
end

section
/-! ### What triggers and broadcasts of a head leave alone (R306, R315, R320, R331–R335)

A trigger opens a train, takes a snapshot or the head's own record, and sends pulses; a broadcast sends a frame. None of that touches the
census round, the flags and detections, the host's ports, or an entry of the dictionary up to Attention, whose bits it can only set. -/

namespace Sys2Proof.Machine

/-- From a to b the head has done no more than trigger, answer for itself, and send. -/
structure Block.Triggers (a b : Block) : Prop where
  flint : b.flint = a.flint
  host : b.host = a.host
  round : b.link.round = a.link.round
  retryAt : b.link.retryAt = a.link.retryAt
  clear : b.link.clear = a.link.clear
  below : ∀ k < Ob.attention, b.get k = a.get k
  attention : ∀ i, a.bit Ob.attention i = true → b.bit Ob.attention i = true

theorem Block.Triggers.refl (b : Block) : b.Triggers b := ⟨rfl, rfl, rfl, rfl, rfl, fun _ _ => rfl, fun _ => id⟩

section
variable {a b : Block}

/-! #### Branches and folds -/

theorem Block.Triggers.ite {c : Prop} [Decidable c] {x y : Block} (hx : a.Triggers x) (hy : a.Triggers y) :
    a.Triggers (if c then x else y) := by
  split
  · exact hx
  · exact hy

theorem Block.Triggers.foldl {α : Type} {f : Block → α → Block} (hf : ∀ b x, a.Triggers b → a.Triggers (f b x)) {l : List α}
    (h : a.Triggers b) : a.Triggers (l.foldl f b) := by
  induction l generalizing b with
  | nil => exact h
  | cons x l ih => exact ih (hf b x h)

/-! #### The parts of the package -/

theorem Block.Triggers.withPhys (h : a.Triggers b) {v} : a.Triggers (b.withPhys v) :=
  ⟨h.flint, h.host, h.round, h.retryAt, h.clear, h.below, h.attention⟩

theorem Block.Triggers.withGov (h : a.Triggers b) {v} : a.Triggers (b.withGov v) :=
  ⟨h.flint, h.host, h.round, h.retryAt, h.clear, h.below, h.attention⟩

theorem Block.Triggers.withLanes (h : a.Triggers b) {v} : a.Triggers (b.withLanes v) :=
  ⟨h.flint, h.host, h.round, h.retryAt, h.clear, h.below, h.attention⟩

theorem Block.Triggers.withCap (h : a.Triggers b) {v} : a.Triggers (b.withCap v) :=
  ⟨h.flint, h.host, h.round, h.retryAt, h.clear, h.below, h.attention⟩

theorem Block.Triggers.withImp (h : a.Triggers b) {v} : a.Triggers (b.withImp v) :=
  ⟨h.flint, h.host, h.round, h.retryAt, h.clear, h.below, h.attention⟩

theorem Block.Triggers.withLink (h : a.Triggers b) {v : Link} (round : v.round = b.link.round := by rfl)
    (retryAt : v.retryAt = b.link.retryAt := by rfl) (clear : v.clear = b.link.clear := by rfl) : a.Triggers (b.withLink v) :=
  ⟨h.flint, h.host, round.trans h.round, retryAt.trans h.retryAt, clear.trans h.clear, h.below, h.attention⟩

theorem Block.Triggers.withDiag (h : a.Triggers b) {v} : a.Triggers (b.withDiag v) :=
  ⟨h.flint, h.host, h.round, h.retryAt, h.clear, h.below, h.attention⟩

theorem Block.Triggers.withOut (h : a.Triggers b) {v} : a.Triggers (b.withOut v) :=
  ⟨h.flint, h.host, h.round, h.retryAt, h.clear, h.below, h.attention⟩

/-! #### Entries of the dictionary -/

theorem Block.Triggers.put (h : a.Triggers b) {k v} (above : Ob.attention < k) : a.Triggers (b.put k v) :=
  ⟨h.flint, h.host, h.round, h.retryAt, h.clear,
    fun l small => (b.get_put_other v (small.trans above).ne).trans (h.below l small),
    fun i set => by rw [Block.bit_put, if_neg above.ne]; exact h.attention i set⟩

theorem Block.Triggers.countUp (h : a.Triggers b) {k n most} (above : Ob.attention < k) : a.Triggers (b.countUp k n most) := h.put above
theorem Block.Triggers.count32 (h : a.Triggers b) {k} (above : Ob.attention < k) : a.Triggers (b.count32 k) := h.countUp above

theorem Block.Triggers.putAll (h : a.Triggers b) {l : List (Nat × Int)} (above : ∀ p ∈ l, Ob.attention < p.1) :
    a.Triggers (b.putAll l) :=
  List.foldlRecOn (motive := fun c : Block => a.Triggers c) _ _ h fun _ h p mem => h.put (above p mem)

theorem Block.Triggers.putCells (h : a.Triggers b) {base : Nat} {l : List Nat} {v : Block → Nat → Int} (above : Ob.attention < base) :
    a.Triggers (l.foldl (fun b i => b.put (chKey base i) (v b i)) b) :=
  .foldl (fun _ i h => h.put (show Ob.attention < base + i + 1 by omega)) h

theorem Block.Triggers.emit (h : a.Triggers b) {e} : a.Triggers (b.emit e) := h.withOut

theorem Block.Triggers.attend (h : a.Triggers b) {bit} : a.Triggers (b.attend bit) :=
  .ite ⟨h.flint, h.host, h.round, h.retryAt, h.clear,
      fun l small => (b.get_put_other _ small.ne).trans (h.below l small),
      fun i set => by
        by_cases same : i = bit
        · rw [same]; exact b.bit_putBit_self _ _ _
        · rw [b.bit_putBit_other true fun both => same both.2]; exact h.attention i set⟩ h

/-! #### Channels, edges and what leaves a port -/

theorem Block.Triggers.editCh (h : a.Triggers b) {i f} : a.Triggers (b.editCh i f) := h.withGov
theorem Block.Triggers.noteSat (h : a.Triggers b) {k hit} : a.Triggers (b.noteSat k hit) := .ite h.withDiag h

theorem Block.Triggers.sendHeld (h : a.Triggers b) {p e} : a.Triggers (b.sendHeld p e) := by
  unfold Block.sendHeld
  extract_lets _ b1
  have h1 : a.Triggers b1 := by
    unfold b1
    split <;> exact h.withPhys
  exact h1.emit.emit

theorem Block.Triggers.sendPulse (h : a.Triggers b) {p c} : a.Triggers (b.sendPulse p c) := h.sendHeld
theorem Block.Triggers.noteEdge (h : a.Triggers b) {i x} : a.Triggers (b.noteEdge i x) := .ite h h.withLanes.withImp.editCh

theorem Block.Triggers.noteEdges (h : a.Triggers b) {delays} : a.Triggers (b.noteEdges delays) :=
  .foldl (fun _ _ h => h.noteEdge) h.withLanes

/-! #### Snapshots and the own records -/

theorem Block.Triggers.publishSnapshot (h : a.Triggers b) {seq instant tags values current} :
    a.Triggers (b.publishSnapshot seq instant tags values current) := by
  unfold Block.publishSnapshot
  extract_lets b1 b2 b3
  have h1 : a.Triggers b1 := h.putAll (by simp only [List.forall_mem_cons]; decide)
  have h2 : a.Triggers b2 := by
    unfold b2
    split
    · exact h1
    · exact .ite ((h1.putCells (by decide)).put (by decide)) (h1.putCells (by decide))
  have h3 : a.Triggers b3 := h2.putCells (by decide)
  exact ((h3.put (by decide)).put (by decide)).withGov.withLink

theorem Block.Triggers.nextSnap (h : a.Triggers b) : a.Triggers b.nextSnap := h.withCap

theorem Block.Triggers.quietForCapture (h : a.Triggers b) : a.Triggers b.quietForCapture :=
  .ite (.foldl (fun _ _ h => h.editCh) h.withGov) h

theorem Block.Triggers.settleCaptures (h : a.Triggers b) : a.Triggers b.settleCaptures := h.withCap

theorem Block.Triggers.takeSnap (h : a.Triggers b) {stampPs} : a.Triggers (b.takeSnap stampPs) := by
  unfold Block.takeSnap
  extract_lets
  split
  · exact h.nextSnap.publishSnapshot
  · split
    · exact h.settleCaptures.nextSnap.quietForCapture.withCap
    · split
      · exact (h.settleCaptures.count32 (by decide)).withCap
      · extract_lets _ b5
        have h4 : a.Triggers b.settleCaptures.nextSnap.quietForCapture := h.settleCaptures.nextSnap.quietForCapture
        have h5 : a.Triggers b5 := .ite (h4.count32 (by decide)) h4
        exact h5.withCap

theorem Block.Triggers.queueStream (h : a.Triggers b) {cls stale payload} : a.Triggers (b.queueStream cls stale payload) :=
  .withLink (.ite (h.count32 (by decide)) h)

theorem Block.Triggers.storeRecord (h : a.Triggers b) {r} : a.Triggers (b.storeRecord r) := h.withLink
theorem Block.Triggers.deliver (h : a.Triggers b) {r} : a.Triggers (b.deliver r) := h.withLink

theorem Block.Triggers.keepOwnRecord (h : a.Triggers b) {cls stale payload} : a.Triggers (b.keepOwnRecord cls stale payload) :=
  .ite h.withLink.deliver h.withLink.storeRecord

theorem Block.Triggers.respond (h : a.Triggers b) {cls x} : a.Triggers (b.respond cls x) :=
  .ite h.noteSat.keepOwnRecord h.noteSat.queueStream

/-! #### Frames and pulses of the head -/

theorem Block.Triggers.occupyDu (h : a.Triggers b) {ns} : a.Triggers (b.occupyDu ns) := h.withPhys
theorem Block.Triggers.sendOn (h : a.Triggers b) {p f} : a.Triggers (b.sendOn p f) := .ite (.emit (.ite h.occupyDu h)) h

theorem Block.Triggers.broadcast (h : a.Triggers b) {cls payload} : a.Triggers (b.broadcast cls payload) :=
  .ite h.withLink.sendOn.sendOn h.withLink.sendOn

theorem Block.Triggers.headPulse (h : a.Triggers b) {c} : a.Triggers (b.headPulse c) :=
  .ite (.sendPulse (.ite h.sendPulse.occupyDu h)) (.ite h.sendPulse.occupyDu h)

theorem Block.Triggers.sendReference (h : a.Triggers b) : a.Triggers b.sendReference := .ite h.withLink.sendOn.sendOn h.withLink.sendOn
theorem Block.Triggers.sendChainConfig (h : a.Triggers b) : a.Triggers b.sendChainConfig := .ite h.withLink h.broadcast
theorem Block.Triggers.sendKeeper (h : a.Triggers b) {payload} : a.Triggers (b.sendKeeper payload) := .broadcast (.ite h.attend h)

/-! #### Answers and commands -/

theorem Block.Triggers.answerVolts (h : a.Triggers b) : a.Triggers b.answerVolts := .ite h.withLink h.respond

theorem Block.Triggers.answer (h : a.Triggers b) {x} : a.Triggers (b.answer x) := by
  unfold Block.answer
  split
  · exact h.answerVolts
  · exact h.respond
  · exact h.respond
  · exact h.respond
  · exact h
  · exact h

theorem Block.Triggers.sendCommand (h : a.Triggers b) {p seq payload} : a.Triggers (b.sendCommand p seq payload) := h.sendOn

theorem Block.Triggers.dispatchOne (h : a.Triggers b) {i} : a.Triggers (b.dispatchOne i) := by
  unfold Block.dispatchOne
  split
  · exact h
  · exact .ite h h.withLink.sendCommand

theorem Block.Triggers.dispatch (h : a.Triggers b) : a.Triggers b.dispatch := .foldl (fun _ _ h => h.dispatchOne) h

/-! #### Trains -/

theorem Block.Triggers.openTrain (h : a.Triggers b) {cls perWindow held} : a.Triggers (b.openTrain cls perWindow held) :=
  .withLink (.ite h.withLink h)

theorem Block.Triggers.ownAnswer (h : a.Triggers b) {cls} : a.Triggers (b.ownAnswer cls) := .ite h.takeSnap.noteEdges h.answer

theorem Block.Triggers.startTrain (h : a.Triggers b) {cls perWindow} : a.Triggers (b.startTrain cls perWindow) :=
  h.headPulse.openTrain.ownAnswer

theorem Block.Triggers.waitFor (h : a.Triggers b) {cls} : a.Triggers (b.waitFor cls) := h.withLink

theorem Block.Triggers.request (h : a.Triggers b) {cls perWindow} : a.Triggers (b.request cls perWindow) :=
  .ite h.waitFor (.ite h.startTrain (.ite h.waitFor (.ite h.withLink h.startTrain)))

theorem Block.Triggers.kick (h : a.Triggers b) : a.Triggers b.kick :=
  .ite h (.foldl (fun _ _ h => .ite h.withLink.request h) (.ite h.withLink.startTrain h))

end

end Sys2Proof.Machine
end

section
/-! ### Held states, tones and ports (R94, R280–R286, R291–R295, R387) -/

namespace Sys2Proof.Machine

/-! #### Classes of held states (R280) -/

theorem upperClass_eq_error (ui : Nat) : upperClass ui = .error ↔ ui < 6 ∨ 362 < ui := by
  unfold upperClass
  split_ifs <;> simp <;> omega

theorem lowerClass_eq_error (ui : Nat) : lowerClass ui = .error ↔ ui < 23 ∨ 27 < ui ∧ ui < 363 := by
  unfold lowerClass
  split_ifs with alarm tone
  · simp; omega
  · simp at tone ⊢; omega
  · simp at tone ⊢; omega

/-! #### What a port's line carries -/

@[simp] theorem Port.other_other (p : Port) : p.other.other = p := by cases p <;> rfl

/-- A held state leaves as itself, then idle (R279). -/
@[simp] theorem Block.sendHeld_out (b : Block) (p : Port) (e : Emission) : (b.sendHeld p e).out = b.out ++ [e, .idle p] := by
  cases p <;> exact List.append_assoc _ [e] [.idle _]

/-- A valid pulse on the head side restarts the comm-loss count, in the power unit (R89). -/
theorem Block.heard_frame (b : Block) (p : Port) : ∃ v, b.heard p = b.withPower v := by
  unfold Block.heard
  split
  · exact ⟨_, rfl⟩
  · exact ⟨b.power, rfl⟩

/-- A counted pulse error changes neither the role nor which transmitters run. -/
theorem Block.countPulseError_keeps (b : Block) (p q : Port) :
    (b.count32 (pulseErrorsKey p)).isHead = b.isHead ∧ (b.count32 (pulseErrorsKey p)).transmits q = b.transmits q := by
  have other : ∀ k, k ≠ pulseErrorsKey p → (b.count32 (pulseErrorsKey p)).get k = b.get k := fun k => b.get_countUp_other 1 _
  refine ⟨?_, ?_⟩
  · rw [Block.isHead, Block.isHead, other _ (by cases p <;> decide)]
  · cases q
    · rw [Block.transmits, Block.transmits, Block.dlTransmits, Block.dlTransmits, other _ (by cases p <;> decide)]
    · rw [Block.transmits, Block.transmits, Block.duTransmits, Block.duTransmits, other _ (by cases p <;> decide)]

/-! #### PULSE_REPEAT (R280–R284, R290) -/

section
variable {s : State} {p : Port} {ui : Nat}

/-- An upper held state of a class goes on as that class. -/
theorem pulseRepeat_repeats (awake : s.blk.awake = true) (node : s.blk.isHead = false) (side : s.blk.link.headSide = p)
    (here : s.blk.transmits p = true) (beyond : s.blk.transmits p.other = true) (low : 6 ≤ ui) (high : ui ≤ 362) :
    GivesBlock (.pulseRepeat p ui) s fun b =>
      b.out = s.blk.out ++ [.pulse p.other (upperClass ui), .idle p.other] ∧ b.dict = s.blk.dict := by
  have classed : upperClass ui ≠ .error := fun e => by have := (upperClass_eq_error ui).1 e; omega
  have sent : ∃ v, pulseRepeat p ui s.blk = (s.blk.withPower v).sendPulse p.other (upperClass ui) := by
    obtain ⟨v, counted⟩ := s.blk.heard_frame p
    have upper : s.blk.upperOn p = true := by simp [Block.upperOn, node, side]
    have there : ∀ v, ((s.blk.withPower v).transmits p.other) = true := fun v => by cases p <;> exact beyond
    have nodeStill : ∀ v, (s.blk.withPower v).isHead = false := fun _ => node
    have upperStill : ∀ v, (s.blk.withPower v).upperOn p = true := fun _ => upper
    by_cases tone : upperClass ui = .tone
    · refine ⟨s.blk.power, ?_⟩
      simp [pulseRepeat, awake, here, Block.ringReturn, node, upper, tone, beyond, show ui ≠ 0 by omega]
      rfl
    · refine ⟨v, ?_⟩
      simp [pulseRepeat, awake, here, Block.ringReturn, node, upper, tone, classed, counted, there, nodeStill, upperStill,
        show ui ≠ 0 by omega]
  obtain ⟨v, e⟩ := sent
  exact ⟨_, rfl, by rw [e]; exact ⟨by simp [Block.sendPulse], by simp [Block.sendPulse]⟩⟩

/-- An upper pulse error is counted and goes on at 400 UI (R282). -/
theorem pulseRepeat_upperError (awake : s.blk.awake = true) (node : s.blk.isHead = false) (side : s.blk.link.headSide = p)
    (here : s.blk.transmits p = true) (beyond : s.blk.transmits p.other = true) (length : 0 < ui ∧ ui < 6 ∨ 362 < ui) :
    GivesBlock (.pulseRepeat p ui) s fun b =>
      b.nat (pulseErrorsKey p) = min (s.blk.nat (pulseErrorsKey p) + 1) (2 ^ 32 - 1) ∧
      b.out = s.blk.out ++ [.held p.other 400, .idle p.other] := by
  have error : upperClass ui = .error := (upperClass_eq_error ui).2 (by omega)
  have upper : s.blk.upperOn p = true := by simp [Block.upperOn, node, side]
  obtain ⟨role, there⟩ := s.blk.countPulseError_keeps p p.other
  have upperStill : (s.blk.count32 (pulseErrorsKey p)).upperOn p = true := by simp [Block.upperOn, role, node, side]
  have sent : pulseRepeat p ui s.blk = (s.blk.count32 (pulseErrorsKey p)).sendHeld p.other (.held p.other 400) := by
    simp [pulseRepeat, awake, here, Block.ringReturn, node, upper, error, role, there, beyond, upperStill, show ui ≠ 0 by omega]
  refine ⟨_, rfl, ?_⟩
  rw [sent]
  exact ⟨by rw [Block.nat_of_get (Block.get_of_dict (Block.sendHeld_dict _ _ _) _)]; exact Block.nat_countUp_self _ _ _ _, by simp⟩

/-- A lower pulse error is counted and goes on at its own length while the head side is free (R283, R284, R286). -/
theorem pulseRepeat_lowerError (awake : s.blk.awake = true) (node : s.blk.isHead = false) (side : s.blk.link.headSide = p)
    (headward : s.blk.transmits p = true) (here : s.blk.transmits p.other = true)
    (length : 0 < ui ∧ ui < 23 ∨ 27 < ui ∧ ui < 363) (calm : s.blk.phys.alarmBusy = false) (free : s.blk.sending p = none) :
    GivesBlock (.pulseRepeat p.other ui) s fun b =>
      b.nat (pulseErrorsKey p.other) = min (s.blk.nat (pulseErrorsKey p.other) + 1) (2 ^ 32 - 1) ∧
      b.out = s.blk.out ++ [.held p ui, .idle p] := by
  have error : lowerClass ui = .error := (lowerClass_eq_error ui).2 (by omega)
  have apart : (p == p.other) = false := by cases p <;> rfl
  have lower : s.blk.upperOn p.other = false := by simp [Block.upperOn, side, apart]
  obtain ⟨role, there⟩ := s.blk.countPulseError_keeps p.other p
  have lowerStill : (s.blk.count32 (pulseErrorsKey p.other)).upperOn p.other = false := by simp [Block.upperOn, side, apart]
  have freeStill : (s.blk.count32 (pulseErrorsKey p.other)).sending p = none := by
    cases p <;> simpa [Block.sending] using free
  have sent : pulseRepeat p.other ui s.blk = (s.blk.count32 (pulseErrorsKey p.other)).sendHeld p (.held p ui) := by
    simp [pulseRepeat, awake, here, Block.ringReturn, node, lower, error, role, there, headward, lowerStill, Block.repeatLower, calm,
      freeStill, show ui ≠ 0 by omega]
  refine ⟨_, rfl, ?_⟩
  rw [sent]
  exact ⟨by rw [Block.nat_of_get (Block.get_of_dict (Block.sendHeld_dict _ _ _) _)]; exact Block.nat_countUp_self _ _ _ _, by simp⟩

end

/-! #### ALARM and tones (R94, R283, R284, R286, R349) -/

/-- An ALARM leaves at a node's head side, cutting what is sent there (R284). -/
theorem Block.sendAlarm_starts {b : Block} (node : b.isHead = false) (running : b.transmits b.link.headSide = true)
    (calm : b.phys.alarmBusy = false) :
    b.sendAlarm.out = b.out ++ [.pulse b.link.headSide .alarm, .idle b.link.headSide] ∧ b.sendAlarm.phys.alarmBusy = true := by
  unfold Block.sendAlarm
  rw [if_neg (by simp [node, running]), if_neg (by simp [calm])]
  extract_lets b1 b2
  have cut : b1.out = b.out := by
    unfold b1
    split
    · exact b.count32_out _
    · rfl
  have stopped : b2.out = b1.out := by
    unfold b2
    cases b.link.headSide <;> rfl
  refine ⟨by simp [Block.sendPulse, stopped, cut], ?_⟩
  cases b.link.headSide <;> rfl

/-- An ALARM from above goes on at a node (R283). -/
theorem alarm_repeated {s : State} {p : Port} {t : Nat} (awake : s.blk.awake = true) (node : s.blk.isHead = false)
    (side : s.blk.link.headSide = p) (headward : s.blk.transmits p = true) (here : s.blk.transmits p.other = true)
    (calm : s.blk.phys.alarmBusy = false) : GivesBlock (.alarm p.other t) s fun b =>
      b.out = s.blk.out ++ [.pulse p .alarm, .idle p] ∧ b.phys.alarmBusy = true := by
  subst side
  have apart : (s.blk.link.headSide == s.blk.link.headSide.other) = false := by cases s.blk.link.headSide <;> rfl
  have repeated : alarm s.blk.link.headSide.other t s.blk = (s.blk.at t).sendAlarm := by
    have there : (s.blk.at t).transmits s.blk.link.headSide.other = true := by
      cases side : s.blk.link.headSide <;> rw [side] at here <;> exact here
    have role : (s.blk.at t).isHead = false := node
    simp [alarm, awake, there, role, Block.upperOn, apart, Block.repeatAlarm, calm]
  have running : (s.blk.at t).transmits (s.blk.at t).link.headSide = true := by
    show (s.blk.at t).transmits s.blk.link.headSide = true
    cases side : s.blk.link.headSide <;> rw [side] at headward <;> exact headward
  refine ⟨_, rfl, ?_⟩
  rw [repeated]
  exact Block.sendAlarm_starts node running calm

@[simp] theorem Block.queueAlarm_keeps (b : Block) (kind position cls source : Nat) :
    (b.queueAlarm kind position cls source).flint = b.flint ∧ (b.queueAlarm kind position cls source).dict = b.dict := by
  unfold Block.queueAlarm
  split
  · exact ⟨rfl, rfl⟩
  · exact ⟨rfl, rfl⟩

/-- A head that hears an ALARM drives FLT_N low, tells its host and is no longer clear (R349, R365). -/
theorem Block.hearAlarm_spec {b : Block} (head : b.isHead = true) :
    b.hearAlarm.flint.fltLow = true ∧ b.hearAlarm.link.clear = false ∧ b.hearAlarm.bit Ob.attention 0 = true := by
  unfold Block.hearAlarm
  extract_lets b1 l b2
  obtain ⟨flint, dict⟩ := ((b.setFlt true).attend 0).queueAlarm_keeps 1 0xFF 0 0
  have low : b2.flint.fltLow = true := by
    have : b2.flint = (b.setFlt true).flint := flint.trans ((b.setFlt true).attend_flint 0)
    rw [this, Block.setFlt, Block.withFlint_flint]
  have told : b2.bit Ob.attention 0 = true := by
    have attends : (b.setFlt true).attend 0 = (b.setFlt true).putBit Ob.attention 0 true := if_pos head
    have : b2.dict = ((b.setFlt true).putBit Ob.attention 0 true).dict := dict.trans (congrArg Block.dict attends)
    rw [Block.bit, Block.nat_of_get (Block.get_of_dict this _)]
    exact Block.bit_putBit_self _ _ _ _
  have kicked := (Block.Triggers.refl b2).kick
  exact ⟨(congrArg Flint.fltLow kicked.flint).trans low, kicked.clear, kicked.attention 0 told⟩

theorem alarm_heard {s : State} {p : Port} {t : Nat} (awake : s.blk.awake = true) (head : s.blk.isHead = true)
    (here : s.blk.transmits p = true) : GivesBlock (.alarm p t) s fun b =>
      b.flint.fltLow = true ∧ b.link.clear = false ∧ b.bit Ob.attention 0 = true := by
  have heard : alarm p t s.blk = (s.blk.at t).hearAlarm := by
    have there : (s.blk.at t).transmits p = true := by cases p <;> exact here
    have role : (s.blk.at t).isHead = true := head
    simp [alarm, awake, there, role]
  refine ⟨_, rfl, ?_⟩
  rw [heard]
  exact Block.hearAlarm_spec (b := s.blk.at t) head

/-- In Sleep a node sends the tone on and wakes (R92, R94). -/
theorem wakeTone_wakes {s : State} {p : Port} {t slept : Nat} (asleep : s.blk.power.mode = .sleep) (idle : s.blk.power.stage = .idle)
    (node : s.blk.isHead = false) (may : s.blk.wakesFrom (toneSource p) = true) : GivesBlock (.wakeTone p false t slept) s fun b =>
      b.out = s.blk.out ++ [.tone p.other 20] ∧ b.power.stage = .awaitVin5 ∧ b.power.cause = wakeCause (toneSource p) := by
  have down : s.blk.awake = false := by simp [Block.awake, asleep]
  have woken : wakeTone p false t slept s.blk = (s.blk.emit (.tone p.other 20)).wakeFromSleep (toneSource p) slept := by
    have repeated : s.blk.repeatTone p false = s.blk.emit (.tone p.other 20) := by simp [Block.repeatTone, node, down, asleep]
    have pulled : (s.blk.emit (.tone p.other 20)).pullWake p = s.blk.emit (.tone p.other 20) :=
      if_neg (by simp [show (s.blk.emit (.tone p.other 20)).isHead = false from node])
    simp [wakeTone, down, asleep, node, repeated, pulled, wakeEvent]
  obtain ⟨k, started⟩ := Block.wakeFromSleep_starts (b := s.blk.emit (.tone p.other 20)) slept idle may
  refine ⟨_, rfl, ?_⟩
  rw [woken, started]
  exact ⟨rfl, rfl, rfl⟩

/-! #### States of the ports (R291–R295) -/

/-- A change of a port's state counts the generation and notes the time (R294); a head may then want a round, which is the link's. -/
theorem Block.linkChanged_spec (b : Block) (p : Port) : (b.linkChanged p).get Ob.generation = ((b.nat Ob.generation + 1) % 256 : Nat) ∧
    (b.linkChanged p).get Ob.portStatusLastChange = b.now ∧ (b.linkChanged p).flint = b.flint ∧
    ∀ k, k ≠ Ob.generation → k ≠ Ob.portStatusLastChange → (b.linkChanged p).get k = b.get k := by
  have dict : (b.linkChanged p).dict =
      ((b.put Ob.generation ((b.nat Ob.generation + 1) % 256 : Nat)).put Ob.portStatusLastChange b.now).dict := by
    unfold Block.linkChanged
    extract_lets b1
    split
    · exact b1.withLink_dict _
    · rfl
  refine ⟨?_, ?_, ?_, fun k other late => ?_⟩
  · rw [Block.get_of_dict dict, Block.get_put_other _ _ (by decide), Block.get_put_self]
  · rw [Block.get_of_dict dict, Block.get_put_self]
  · unfold Block.linkChanged
    extract_lets b1
    split
    · simp [b1]
    · simp [b1]
  · rw [Block.get_of_dict dict, Block.get_put_other _ _ late, Block.get_put_other _ _ other]

@[simp] theorem Block.setLost_dict (b : Block) (p : Port) (on : Bool) : (b.setLost p on).dict = b.dict := by cases p <;> rfl
@[simp] theorem Block.setLost_flint (b : Block) (p : Port) (on : Bool) : (b.setLost p on).flint = b.flint := by cases p <;> rfl

theorem portSignalDetect_trains {s : State} {p : Port} (awake : s.blk.awake = true) (listens : s.blk.get (stateKey p) = 2) :
    GivesBlock (.portSignalDetect p) s fun b => b = s.blk.put (stateKey p) 3 :=
  ⟨_, rfl, if_pos (by simp [awake, listens])⟩

theorem trainingFail_listens {s : State} {p : Port} (awake : s.blk.awake = true) (trains : s.blk.get (stateKey p) = 3) :
    GivesBlock (.trainingFail p) s fun b => b = (s.blk.put (stateKey p) 2).put (causeKey p) 5 :=
  ⟨_, rfl, if_pos (by simp [awake, trains])⟩

/-- A live bit that clears can drop registrations; an ALARM that waits for its port still waits (R387, R391). -/
@[simp] theorem Block.clearLive_alarmWhenUp (b : Block) (n : Nat) :
    (b.clearLive n).flint.alarmWhenUp = b.flint.alarmWhenUp := by
  have dropped : ∀ c : Block, (c.dropLatch n).flint.alarmWhenUp = c.flint.alarmWhenUp := fun c => by
    unfold Block.dropLatch
    extract_lets b1 f b2
    split
    · rfl
    · rw [Block.putAll_flint]; rfl
  unfold Block.clearLive
  split
  · rw [Block.followReasons_flint]
    split
    · exact dropped _
    · rfl
  · rfl

/-- What a node's ALARM counts is the frame it cut; every other entry stays. -/
theorem Block.get_sendAlarm_other (b : Block) {k : Nat} (other : k ≠ Ob.lineErrorsAlarmCuts) : b.sendAlarm.get k = b.get k := by
  have cut : (if (b.sending b.link.headSide).isSome then b.count32 Ob.lineErrorsAlarmCuts else b).get k = b.get k := by
    split
    · exact b.get_countUp_other 1 _ other
    · rfl
  unfold Block.sendAlarm
  extract_lets p _ b1 b2
  have stopped : b2.dict = b1.dict := by unfold b2; cases p <;> rfl
  split
  · rfl
  · split
    · rfl
    · rw [Block.sendPulse, Block.get_of_dict (Block.sendHeld_dict _ _ _) k]
      exact (Block.get_of_dict stopped k).trans cut

/-- A port after its training, before the flags follow: UP, with the change counted (R291, R294). -/
def Block.trained (b : Block) (p : Port) (t : Nat) : Block := (((b.at t).put (stateKey p) 4).linkChanged p).setLost p false

/-- What the training of a port leaves as it was, and what it writes. -/
theorem Block.trained_spec (b : Block) (p : Port) (t : Nat) :
    (b.trained p t).get (stateKey p) = 4 ∧ (b.trained p t).get Ob.generation = ((b.nat Ob.generation + 1) % 256 : Nat) ∧
      (b.trained p t).get Ob.portStatusLastChange = (t % t48 : Nat) ∧ (b.trained p t).get Ob.role = b.get Ob.role := by
  obtain ⟨generation, change, -, other⟩ := ((b.at t).put (stateKey p) 4).linkChanged_spec p
  have entries : ∀ k, (b.trained p t).get k = (((b.at t).put (stateKey p) 4).linkChanged p).get k :=
    Block.get_of_dict (Block.setLost_dict _ p false)
  refine ⟨?_, ?_, ?_, ?_⟩
  · rw [entries, other _ (by cases p <;> decide) (by cases p <;> decide), Block.get_put_self]
  · rw [entries, generation, Block.nat_put, if_neg (by cases p <;> decide)]
    rfl
  · rw [entries, change]
    rfl
  · rw [entries, other _ (by decide) (by decide), Block.get_put_other _ _ (by cases p <;> decide)]
    rfl

/-- The line as the training leaves it: nothing sent, no transmitter touched (R291). -/
theorem Block.trained_line (b : Block) (p : Port) (t : Nat) : (b.trained p t).out = b.out ∧
    (b.trained p t).link.headSide = b.link.headSide ∧ (b.trained p t).phys.alarmBusy = b.phys.alarmBusy ∧
    (b.trained p t).flint = b.flint := by
  have changed : ∀ c : Block, (c.linkChanged p).out = c.out ∧ (c.linkChanged p).link.headSide = c.link.headSide ∧
      (c.linkChanged p).phys = c.phys ∧ (c.linkChanged p).flint = c.flint := fun c => by
    unfold Block.linkChanged
    extract_lets b1 l
    split
    · simp [b1, l]
    · simp [b1]
  obtain ⟨out, side, phys, flint⟩ := changed ((b.at t).put (stateKey p) 4)
  unfold Block.trained
  cases p
  · simp [Block.setLost, out, side, phys, flint]
  · simp [Block.setLost, out, side, phys, flint]

/-- A trained port (R291, R294, R387). -/
theorem portTrained_up {s : State} {p : Port} {t : Nat} (awake : s.blk.awake = true) (trains : s.blk.get (stateKey p) = 3) :
    GivesBlock (.portTrained p t) s fun b =>
      b.get (stateKey p) = 4 ∧ b.get Ob.generation = ((s.blk.nat Ob.generation + 1) % 256 : Nat) ∧
      b.get Ob.portStatusLastChange = (t % t48 : Nat) ∧
      (s.blk.isHead = false → s.blk.link.headSide = p → s.blk.flint.alarmWhenUp = true → s.blk.phys.alarmBusy = false →
        s.blk.sending p = none → b.out = s.blk.out ++ [.pulse p .alarm, .idle p] ∧ b.flint.alarmWhenUp = false) := by
  obtain ⟨up, generation, change, role⟩ := s.blk.trained_spec p t
  obtain ⟨out, side, busy, flint⟩ := s.blk.trained_line p t
  refine ⟨_, rfl, ?_⟩
  rw [portTrained, if_neg (by simp [awake, trains])]
  extract_lets b1 b2
  -- the flag of 0x61 may clear; the keys of the statement are none of its
  have cleared : ∀ k, k < Ob.firstFaultSource → k ≠ liveKey 0x61 → k ≠ latchedKey 0x61 → k ≠ Ob.serviceRequestReason →
      k ≠ Ob.serviceRequestSince → b2.get k = (s.blk.trained p t).get k := fun k low live latched reason since => by
    unfold b2
    split
    · rfl
    · exact Block.get_clearLive_other _ _ live latched (.inl low) reason since
  have line : b2.out = s.blk.out ∧ b2.link.headSide = s.blk.link.headSide ∧ b2.phys.alarmBusy = s.blk.phys.alarmBusy ∧
      b2.flint.alarmWhenUp = s.blk.flint.alarmWhenUp := by
    unfold b2
    split
    · exact ⟨out, side, busy, congrArg Flint.alarmWhenUp flint⟩
    · exact ⟨(b1.clearLive_out _).trans out, (congrArg Link.headSide (b1.clearLive_link _)).trans side,
        (congrArg Phys.alarmBusy (b1.clearLive_phys _)).trans busy,
        (b1.clearLive_alarmWhenUp _).trans (congrArg Flint.alarmWhenUp flint)⟩
  obtain ⟨out2, side2, busy2, waits2⟩ := line
  have up2 : b2.get (stateKey p) = 4 := (cleared _ (by cases p <;> decide) (by cases p <;> decide) (by cases p <;> decide)
    (by cases p <;> decide) (by cases p <;> decide)).trans up
  have generation2 := (cleared Ob.generation (by decide) (by decide) (by decide) (by decide) (by decide)).trans generation
  have change2 := (cleared Ob.portStatusLastChange (by decide) (by decide) (by decide) (by decide) (by decide)).trans change
  have role2 := (cleared Ob.role (by decide) (by decide) (by decide) (by decide) (by decide)).trans role
  split
  · next alarmDue =>
    have entries : ∀ k, k ≠ Ob.lineErrorsAlarmCuts →
        ((b2.withFlint { b2.flint with alarmWhenUp := false }).sendAlarm).get k = b2.get k := fun k =>
      Block.get_sendAlarm_other (b2.withFlint { b2.flint with alarmWhenUp := false })
    refine ⟨?_, ?_, ?_, fun node here _ calm _ => ?_⟩
    · rw [entries _ (by cases p <;> decide), up2]
    · rw [entries _ (by decide), generation2]
    · rw [entries _ (by decide), change2]
    · subst here
      have nodeStill : b2.isHead = false := by rwa [Block.isHead, role2]
      have running : b2.transmits b2.link.headSide = true := by
        rw [side2]
        revert up2
        cases s.blk.link.headSide
        · intro up2; simp [Block.transmits, Block.dlTransmits, show b2.get Ob.portStatusDlState = 4 from up2]
        · intro up2; simp [Block.transmits, Block.duTransmits, show b2.get Ob.portStatusDuState = 4 from up2]
      obtain ⟨sent, -⟩ := Block.sendAlarm_starts (b := b2.withFlint { b2.flint with alarmWhenUp := false }) nodeStill running
        (busy2.trans calm)
      rw [sent]
      refine ⟨?_, congrArg Flint.alarmWhenUp (Block.sendAlarm_flint _)⟩
      rw [Block.withFlint_out, Block.withFlint_link, out2, side2]
  · next silent =>
    refine ⟨up2, generation2, change2, fun node here waits _ _ => absurd ?_ silent⟩
    simp [waits2, waits, side2, here]

/-- A port that falls, before what its cause adds: DOWN with its cause, the fall counted (R292, R294). -/
def Block.fallen (b : Block) (p : Port) (cause : DownCause) (t : Nat) : Block :=
  (((b.at t).putAll [(stateKey p, 2), (causeKey p, downCode cause)]).linkChanged p).count32 (fallsKey p)

theorem Block.fallen_spec (b : Block) (p : Port) (cause : DownCause) (t : Nat) :
    (b.fallen p cause t).get (stateKey p) = 2 ∧ (b.fallen p cause t).get (causeKey p) = downCode cause ∧
      (b.fallen p cause t).nat (fallsKey p) = min (b.nat (fallsKey p) + 1) (2 ^ 32 - 1) ∧ (b.fallen p cause t).flint = b.flint := by
  obtain ⟨-, -, flint, other⟩ := ((b.at t).putAll [(stateKey p, 2), (causeKey p, downCode cause)]).linkChanged_spec p
  refine ⟨?_, ?_, ?_, ?_⟩
  · rw [Block.fallen, Block.count32, Block.get_countUp_other _ _ _ (by cases p <;> decide),
      other _ (by cases p <;> decide) (by cases p <;> decide)]
    have apart : stateKey p ≠ causeKey p := by cases p <;> decide
    exact (Block.get_put_other _ _ apart).trans (Block.get_put_self _ _ _)
  · rw [Block.fallen, Block.count32, Block.get_countUp_other _ _ _ (by cases p <;> decide),
      other _ (by cases p <;> decide) (by cases p <;> decide)]
    exact Block.get_put_self _ _ _
  · rw [Block.fallen, Block.count32, Block.nat_countUp_self,
      Block.nat_of_get (other _ (by cases p <;> decide) (by cases p <;> decide))]
    have unread : ((b.at t).putAll [(stateKey p, 2), (causeKey p, downCode cause)]).get (fallsKey p) = b.get (fallsKey p) :=
      Block.get_putAll_other _ _ (by cases p <;> simp [stateKey, causeKey, fallsKey])
    rw [Block.nat_of_get unread]
  · rw [Block.fallen, Block.count32_flint, flint, Block.putAll_flint]
    rfl

/-- The code errors a fall adds are counted at the port's own counter (R296). -/
def Block.countCodeErrors (b : Block) (p : Port) : DownCause → Block
  | .codeErrors n => b.countUp (codeErrorsKey p) (min 8 n) (2 ^ 32 - 1)
  | .lossOfSignal => b
  | .stuck => b
  | .closed => b

theorem Block.countCodeErrors_keeps (b : Block) (p : Port) (cause : DownCause) :
    (b.countCodeErrors p cause).flint = b.flint ∧ ∀ k, k ≠ codeErrorsKey p → (b.countCodeErrors p cause).get k = b.get k := by
  cases cause with
  | codeErrors n => exact ⟨Block.countUp_flint _ _ _ _, fun k => b.get_countUp_other _ _⟩
  | lossOfSignal => exact ⟨rfl, fun _ _ => rfl⟩
  | stuck => exact ⟨rfl, fun _ _ => rfl⟩
  | closed => exact ⟨rfl, fun _ _ => rfl⟩

theorem portDown_eq {b : Block} {p : Port} {cause : DownCause} {t : Nat} (awake : b.awake = true) (up : b.get (stateKey p) = 4) :
    portDown p cause t b = if cause = .closed then ((b.fallen p cause t).countCodeErrors p cause).setLost p false
      else (((b.fallen p cause t).countCodeErrors p cause).setLost p true).raise 0x61 (portNumber p + 256 * downCode cause) := by
  rw [portDown, if_neg (by simp [awake, up])]
  cases cause <;> rfl

/-- A fall for a fault raises 0x61 (R292, R295). -/
theorem portDown_raises {s : State} {p : Port} {cause : DownCause} {t : Nat} (awake : s.blk.awake = true)
    (up : s.blk.get (stateKey p) = 4) (fault : cause ≠ .closed) : GivesBlock (.portDown p cause t) s fun b =>
      b.get (stateKey p) = 2 ∧ b.get (causeKey p) = downCode cause ∧
      b.nat (fallsKey p) = min (s.blk.nat (fallsKey p) + 1) (2 ^ 32 - 1) ∧
      b.flint.detections = s.blk.flint.detections ++ [⟨0x61, portNumber p + 256 * downCode cause, 0, none⟩] := by
  obtain ⟨down, why, falls, flint⟩ := s.blk.fallen_spec p cause t
  obtain ⟨flintStill, other⟩ := (s.blk.fallen p cause t).countCodeErrors_keeps p cause
  have entries : ∀ k, k ≠ codeErrorsKey p → ((((s.blk.fallen p cause t).countCodeErrors p cause).setLost p true).raise 0x61
      (portNumber p + 256 * downCode cause)).get k = (s.blk.fallen p cause t).get k := fun k apart =>
    (Block.get_of_dict (Block.setLost_dict _ p true) k).trans (other k apart)
  refine ⟨_, rfl, ?_⟩
  rw [portDown_eq awake up, if_neg fault]
  refine ⟨?_, ?_, ?_, ?_⟩
  · rw [entries _ (by cases p <;> decide), down]
  · rw [entries _ (by cases p <;> decide), why]
  · rw [Block.nat_of_get (entries _ (by cases p <;> decide)), falls]
  · rw [Block.raise_detections, Block.setLost_flint, flintStill, flint]

/-- A port that its neighbour closed raises nothing (R293). -/
theorem portDown_closed {s : State} {p : Port} {t : Nat} (awake : s.blk.awake = true) (up : s.blk.get (stateKey p) = 4) :
    GivesBlock (.portDown p .closed t) s fun b => b.get (stateKey p) = 2 ∧ b.flint = s.blk.flint := by
  obtain ⟨down, -, -, flint⟩ := s.blk.fallen_spec p .closed t
  refine ⟨_, rfl, ?_⟩
  rw [portDown_eq awake up, if_pos rfl]
  exact ⟨(Block.get_of_dict (Block.setLost_dict _ p false) _).trans down, (Block.setLost_flint _ p false).trans flint⟩

/-- Settles O29: held states and tones by the lemmas of their rows, then the states of a port. -/
theorem linesAndPorts : Obligations.LinesAndPorts :=
  ⟨⟨fun _ _ _ => pulseRepeat_repeats, fun _ _ _ => pulseRepeat_upperError, fun _ _ _ => pulseRepeat_lowerError,
      fun _ _ _ => alarm_repeated, fun _ _ _ => alarm_heard, fun _ _ _ _ => wakeTone_wakes⟩,
    fun _ _ => portSignalDetect_trains, fun _ _ _ => portTrained_up, fun _ _ => trainingFail_listens,
    fun _ _ _ _ => portDown_raises, fun _ _ _ => portDown_closed⟩

end Sys2Proof.Machine
end

section
/-! ### Census rounds at the head (R83, R306, R307, R311, R312, R315) -/

namespace Sys2Proof.Machine

/-! #### The CENSUS frame of a pass (R307, R315) -/

@[simp] theorem Block.sendOn_dict (b : Block) (p : Port) (f : List Byte) : (b.sendOn p f).dict = b.dict := by
  unfold Block.sendOn
  split
  · extract_lets b1
    have busy : b1.dict = b.dict := by
      unfold b1
      split
      · exact b.withPhys_dict _
      · rfl
    exact busy
  · rfl

/-- A census frame changes the line and, of the link, whether the pass is held. -/
theorem Block.sendCensus_keeps (b : Block) (number : Nat) :
    (b.sendCensus number).link = (b.holdPass (!b.censusRoom)).link ∧ (b.sendCensus number).dict = b.dict := by
  unfold Block.sendCensus
  extract_lets g p
  by_cases room : b.censusRoom = true
  · have sends : b.syncRoom passTime = true := room
    rw [if_pos sends, room]
    exact ⟨Block.sendOn_link _ _ _, Block.sendOn_dict _ _ _⟩
  · have near : b.censusRoom = false := Bool.eq_false_of_not_eq_true room
    have waits : ¬ b.syncRoom passTime = true := room
    rw [if_neg waits, near]
    exact ⟨rfl, rfl⟩

/-- With room before the next SYNC the frame leaves on DU (R307). -/
theorem Block.sendCensus_out {b : Block} (number : Nat) (runs : b.transmits .du = true) (room : b.censusRoom = true) :
    (b.sendCensus number).out = b.out ++ [.frame .du (frameOf (headerOf 5 0 0 0 number)
      (censusPayload 1 false (b.nat Ob.generation) (b.nat Ob.generation) (b.nat Ob.ringMode)))] := by
  have sends : b.syncRoom passTime = true := room
  have leaves : (b.holdPass false).transmits .du = true := runs
  unfold Block.sendCensus
  extract_lets g p
  rw [if_pos sends, Block.sendOn, if_pos leaves, if_pos rfl]
  rw [Block.emit_out, Block.occupyDu, Block.withPhys_out, Block.holdPass, Block.withLink_out]

/-- Without room nothing leaves (R315). -/
theorem Block.sendCensus_held {b : Block} (number : Nat) (near : b.censusRoom = false) : (b.sendCensus number).out = b.out := by
  have waits : b.sendCensus number = b.holdPass true := if_neg (by rw [← Block.censusRoom, near]; simp)
  rw [waits]
  rfl

/-! #### The start of a round (R306) -/

/-- A round is open, its first CENSUS frame still to come. -/
def Block.roundOpened (b : Block) : Block :=
  let n := b.link.nextNumber
  let b := b.putBit Ob.censusResultFlags 3 false
  let b := if b.link.idRound then b.putBit Ob.censusResultFlags 6 true else b
  b.withLink { b.link with
    round := some ⟨n, 1, none, false, false, b.link.idRound⟩, roundWanted := false, idRound := false
    wakeCensus := b.link.wakeCensus.filter fun x => !reached b.now x, split := none, splitEnds := false, lacked := []
    breakAt := none, retryAt := none, nextNumber := (n + 1) % 65536 }

theorem Block.startRound_eq (b : Block) (m : List Host.Cell) : b.startRound m =
    if b.roundOpened.portUp .du then b.roundOpened.sendCensus b.link.nextNumber
    else b.roundOpened.commitRound m b.link.nextNumber 1 0 false false := rfl

/-- What the opening of a round says of the link. -/
theorem Block.roundOpened_link (b : Block) :
    b.roundOpened.link.round = some ⟨b.link.nextNumber, 1, none, false, false, b.link.idRound⟩ ∧
      b.roundOpened.link.roundWanted = false ∧ b.roundOpened.link.nextNumber = (b.link.nextNumber + 1) % 65536 ∧
      b.roundOpened.link.wakeCensus = b.link.wakeCensus.filter (fun x => !reached b.now x) ∧ b.roundOpened.link.retryAt = none := by
  unfold Block.roundOpened
  extract_lets n b1 b2
  have link : b2.link = b.link := by unfold b2; split <;> rfl
  have tb : b2.tb = b.tb := by unfold b2; split <;> rfl
  simp [link, Block.now, tb, n]

/-- The opening of a round changes no other entry than the flags of the census result, and neither line, clock nor host. -/
theorem Block.roundOpened_keeps (b : Block) : b.roundOpened.out = b.out ∧ b.roundOpened.tb = b.tb ∧ b.roundOpened.phys = b.phys ∧
    b.roundOpened.host = b.host ∧ ∀ k, k ≠ Ob.censusResultFlags → b.roundOpened.get k = b.get k := by
  unfold Block.roundOpened
  extract_lets n b1 b2
  have kept : b2.out = b.out ∧ b2.tb = b.tb ∧ b2.phys = b.phys ∧ b2.host = b.host ∧
      ∀ k, k ≠ Ob.censusResultFlags → b2.get k = b.get k := by
    have first : ∀ k, k ≠ Ob.censusResultFlags → b1.get k = b.get k := fun k => b.get_put_other _
    unfold b2
    split
    · exact ⟨rfl, rfl, rfl, rfl, fun k other => (b1.get_put_other _ other).trans (first k other)⟩
    · exact ⟨rfl, rfl, rfl, rfl, first⟩
  exact kept

theorem Block.roundOpened_portUp (b : Block) : b.roundOpened.portUp .du = b.portUp .du := by
  obtain ⟨-, -, -, -, other⟩ := b.roundOpened_keeps
  rw [Block.portUp, Block.portUp, other _ (by decide)]

theorem Block.roundOpened_censusRoom (b : Block) : b.roundOpened.censusRoom = b.censusRoom := by
  obtain ⟨-, tb, phys, -, -⟩ := b.roundOpened_keeps
  unfold Block.censusRoom Block.syncRoom Block.duBusy Block.now
  rw [tb, phys]

/-- A round that starts at a head whose DU is UP (R306, R307). -/
theorem Block.startRound_up {b : Block} (m : List Host.Cell) (up : b.portUp .du = true) :
    (b.startRound m).link.round = some ⟨b.link.nextNumber, 1, none, false, !b.censusRoom, b.link.idRound⟩ ∧
      (b.startRound m).link.roundWanted = false ∧ (b.startRound m).link.nextNumber = (b.link.nextNumber + 1) % 65536 ∧
      (b.startRound m).link.wakeCensus = b.link.wakeCensus.filter (fun x => !reached b.now x) ∧
      (b.startRound m).link.retryAt = none ∧
      (b.startRound m).out = b.out ++ if b.censusRoom then [.frame .du (frameOf (headerOf 5 0 0 0 b.link.nextNumber)
        (censusPayload 1 false (b.nat Ob.generation) (b.nat Ob.generation) (b.nat Ob.ringMode)))] else [] := by
  obtain ⟨round, wanted, next, due, retry⟩ := b.roundOpened_link
  obtain ⟨out, -, -, -, other⟩ := b.roundOpened_keeps
  obtain ⟨link, -⟩ := b.roundOpened.sendCensus_keeps b.link.nextNumber
  have room := b.roundOpened_censusRoom
  rw [b.startRound_eq m, if_pos (b.roundOpened_portUp.trans up), link, room]
  refine ⟨?_, wanted, next, due, retry, ?_⟩
  · simp only [Block.holdPass, Block.withLink_link, round, Option.map_some]
  · have runs : b.roundOpened.transmits .du = true := by
      have state : b.get Ob.portStatusDuState = 4 := of_decide_eq_true up
      rw [Block.transmits, Block.duTransmits, other _ (by decide), state]
      rfl
    by_cases free : b.censusRoom = true
    · rw [if_pos free, Block.sendCensus_out _ runs (room.trans free), out, Block.nat_of_get (other Ob.generation (by decide)),
        Block.nat_of_get (other Ob.ringMode (by decide))]
    · rw [if_neg free, Block.sendCensus_held _ (room.trans (Bool.eq_false_of_not_eq_true free)), out, List.append_nil]

/-- A free head looks at its clock and stays free. -/
theorem Block.roundFree_at (b : Block) (t : Nat) : (b.at t).roundFree = b.roundFree := rfl

theorem censusRoundStart_eq {b : Block} {m : List Host.Cell} {t : Nat} (free : b.roundFree = true)
    (due : (b.link.roundWanted || b.link.wakeCensus.any fun x => reached (t % t48) x) = true) :
    censusRoundStart t m b = (b.at t).startRound m :=
  if_pos (Bool.and_eq_true_iff.2 ⟨free, due⟩)

/-- A wanted round begins with its CENSUS frame (R306, R307). -/
theorem censusRoundStart_sends {s : State} {t : Nat} (free : s.blk.roundFree = true) (wanted : s.blk.link.roundWanted = true)
    (up : s.blk.portUp .du = true) (room : (s.blk.at t).censusRoom = true) : GivesBlock (.censusRoundStart t) s fun b =>
      b.link.round = some ⟨s.blk.link.nextNumber, 1, none, false, false, s.blk.link.idRound⟩ ∧ b.link.roundWanted = false ∧
      b.link.nextNumber = (s.blk.link.nextNumber + 1) % 65536 ∧
      b.out = s.blk.out ++ [.frame .du (frameOf (headerOf 5 0 0 0 s.blk.link.nextNumber)
        (censusPayload 1 false (s.blk.nat Ob.generation) (s.blk.nat Ob.generation) (s.blk.nat Ob.ringMode)))] := by
  obtain ⟨round, off, next, -, -, out⟩ := (s.blk.at t).startRound_up s.flash up
  rw [room] at round
  rw [if_pos room] at out
  refine ⟨_, rfl, ?_⟩
  rw [censusRoundStart_eq free (by rw [wanted]; rfl)]
  exact ⟨round, off, next, out⟩

/-- A wanted round with a SYNC near waits for it (R315). -/
theorem censusRoundStart_waits {s : State} {t : Nat} (free : s.blk.roundFree = true) (wanted : s.blk.link.roundWanted = true)
    (up : s.blk.portUp .du = true) (near : (s.blk.at t).censusRoom = false) : GivesBlock (.censusRoundStart t) s fun b =>
      b.link.round = some ⟨s.blk.link.nextNumber, 1, none, false, true, s.blk.link.idRound⟩ ∧ b.link.roundWanted = false ∧
      b.out = s.blk.out := by
  obtain ⟨round, off, -, -, -, out⟩ := (s.blk.at t).startRound_up s.flash up
  rw [near] at round
  rw [near, if_neg Bool.false_ne_true, List.append_nil] at out
  refine ⟨_, rfl, ?_⟩
  rw [censusRoundStart_eq free (by rw [wanted]; rfl)]
  exact ⟨round, off, out⟩

/-- The census after a tone starts once its instant is reached (R83, R95). -/
theorem censusRoundStart_afterTone {s : State} {t x : Nat} (free : s.blk.roundFree = true) (unasked : s.blk.link.roundWanted = false)
    (waits : s.blk.link.wakeCensus = [x]) (up : s.blk.portUp .du = true) : GivesBlock (.censusRoundStart t) s fun b =>
      (reached (t % t48) x = true → b.link.wakeCensus = [] ∧
        b.link.round = some ⟨s.blk.link.nextNumber, 1, none, false, !(s.blk.at t).censusRoom, s.blk.link.idRound⟩) ∧
      (reached (t % t48) x = false → b = s.blk.at t) := by
  refine ⟨_, rfl, fun due => ?_, fun early => ?_⟩
  · obtain ⟨round, -, -, left, -, -⟩ := (s.blk.at t).startRound_up s.flash up
    rw [censusRoundStart_eq free (by simp [waits, due])]
    exact ⟨left.trans (by simp [waits, due]), round⟩
  · exact if_neg (by simp [waits, unasked, early])

/-- The retry of a failed round (R311). -/
theorem censusRetry_starts {s : State} {t r : Nat} (free : s.blk.roundFree = true) (retries : s.blk.link.retryAt = some r)
    (due : reached (t % t48) r = true) (up : s.blk.portUp .du = true) : GivesBlock (.censusRetry t) s fun b =>
      b.link.round = some ⟨s.blk.link.nextNumber, 1, none, false, !(s.blk.at t).censusRoom, s.blk.link.idRound⟩ ∧
      b.link.retryAt = none := by
  obtain ⟨round, -, -, -, retry, -⟩ := (s.blk.at t).startRound_up s.flash up
  have starts : censusRetry t s.flash s.blk = (s.blk.at t).startRound s.flash := by
    simp only [censusRetry, Block.at_link, retries]
    exact if_pos (Bool.and_eq_true_iff.2 ⟨free, due⟩)
  refine ⟨_, rfl, ?_⟩
  rw [starts]
  exact ⟨round, retry⟩

/-! #### The end of a round (R306, R315) -/

theorem Block.Triggers.broadcastOn {a b : Block} (h : a.Triggers b) {p payload} : a.Triggers (b.broadcastOn p payload) := h.withLink.sendOn

/-- With no host command under way none was held through the round. -/
theorem Block.runHeld_idle {b : Block} (m : List Host.Cell) (spi : b.host.spi.executing = none) (can : b.host.can.executing = none) :
    b.runHeld m = b := by
  simp [Block.runHeld, Block.hostPort, spi, can]

/-- The round is over, and what it put off is still to come. -/
def Block.roundClosed (b : Block) : Block := b.withLink { b.link with
  round := none, probing := none, resumeFrom := some b.now, forwards := [], configDue := false }

/-- With no host command under way the end of a round sends and triggers, and does no more. -/
theorem Block.endRound_triggers {b : Block} (m : List Host.Cell) (committed : Bool) (spi : b.host.spi.executing = none)
    (can : b.host.can.executing = none) : b.roundClosed.Triggers (b.endRound m committed) := by
  have closed := Block.Triggers.refl b.roundClosed
  unfold Block.endRound
  extract_lets forwards due _ b1 b2 b3
  have h2 : b.roundClosed.Triggers b2 := .ite closed.sendChainConfig.sendReference
    (.ite closed.sendReference.sendChainConfig closed.sendReference)
  have h3 : b.roundClosed.Triggers b3.dispatch := Block.Triggers.dispatch (.foldl (fun _ _ h => h.sendKeeper) h2)
  rw [Block.runHeld_idle m (by rw [h3.host]; exact spi) (by rw [h3.host]; exact can)]
  exact h3.kick

/-! #### A consistent round (R312, R313) -/

/-- The result of a round stands, and COMMIT has gone out; what follows it depends on the top. -/
def Block.roundCommitted (b : Block) (number pass top : Nat) (overflow closed : Bool) : Block :=
  let ring := b.get Ob.ringMode = 1
  let ringOpen := ring && !closed
  let flags := boolNat overflow + 2 * boolNat closed + 4 * boolNat ringOpen + 32 * boolNat (b.bit Ob.censusResultFlags 5) +
    64 * boolNat (b.link.round.any fun r => r.byId)
  let b := b.putAll [(Ob.censusResultTop, (top : Int)), (Ob.censusResultFlags, (flags : Int)),
    (Ob.censusResultCensusNumber, (number : Int)), (Ob.censusResultPasses, (pass : Int)), (Ob.censusResultLastCommit, (b.now : Int))]
  let b : Block := b.withLink { b.link with
    baseline := b.nat Ob.generation, retryAt := none, missing := List.replicate 64 0, lacked := []
    nodeHolds := b.link.nodeHolds.filter fun x => decide (x.1 ≤ top)
    round := b.link.round.map fun (r : Round) => { r with settled := true } }
  let x := commitPayload top flags number
  let b := ((b.broadcastOn .du x).broadcastOn .du x).attend 2
  let b := b.clearLive 0x62
  let b := if top = 63 && overflow then b.raise 0x62 2 else b
  if ringOpen then b.raise 0x62 3 else b

theorem Block.commitRound_eq (b : Block) (m : List Host.Cell) (number pass top : Nat) (overflow closed : Bool) :
    b.commitRound m number pass top overflow closed =
      if top = 0 then (b.roundCommitted number pass top overflow closed).endRound m true
      else (b.roundCommitted number pass top overflow closed).sendSweeps .du top false := rfl

/-- The entries of the result, and what the round is now. -/
theorem Block.roundCommitted_spec (b : Block) (number pass top : Nat) (overflow closed : Bool) :
    let c := b.roundCommitted number pass top overflow closed
    c.get Ob.censusResultTop = top ∧ c.get Ob.censusResultPasses = pass ∧ c.get Ob.censusResultCensusNumber = number ∧
      c.get Ob.censusResultLastCommit = b.now ∧ c.host = b.host ∧
      c.link.round = b.link.round.map fun (r : Round) => { r with settled := true } := by
  intro c
  unfold c Block.roundCommitted
  extract_lets ring ringOpen flags b1 _ b2 x b3 b4 b5
  have sent : b2.Triggers b3 := Block.Triggers.attend (Block.Triggers.broadcastOn (.broadcastOn (.refl b2)))
  have raised : ∀ (b : Block) (on : Bool) (d : Nat), (if on then b.raise 0x62 d else b).dict = b.dict ∧
      (if on then b.raise 0x62 d else b).host = b.host ∧ (if on then b.raise 0x62 d else b).link = b.link := fun b on d => by
    cases on
    · exact ⟨rfl, rfl, rfl⟩
    · exact ⟨rfl, rfl, rfl⟩
  obtain ⟨dict5, host5, link5⟩ := raised b4 (top = 63 && overflow) 2
  obtain ⟨dict6, host6, link6⟩ := raised b5 ringOpen 3
  have entry : ∀ k, k < Ob.attention → (if ringOpen then b5.raise 0x62 3 else b5).get k = b2.get k := fun k low =>
    (Block.get_of_dict (dict6.trans dict5) k).trans ((Block.get_clearLive_below b3 (low.le.trans (by decide))).trans (sent.below k low))
  refine ⟨?_, ?_, ?_, ?_, ?_, ?_⟩
  · rw [entry _ (by decide)]; simp [b2, b1, Block.putAll, Block.get_put]
  · rw [entry _ (by decide)]; simp [b2, b1, Block.putAll, Block.get_put]
  · rw [entry _ (by decide)]; simp [b2, b1, Block.putAll, Block.get_put]
  · rw [entry _ (by decide)]; simp [b2, b1, Block.putAll]
  · exact (host6.trans host5).trans ((b3.clearLive_host _).trans (sent.host.trans (Block.putAll_host _ _)))
  · have link : (if ringOpen then b5.raise 0x62 3 else b5).link = b3.link := (link6.trans link5).trans (b3.clearLive_link _)
    rw [link, sent.round]
    exact congrArg (fun l : Link => l.round.map fun (r : Round) => { r with settled := true }) (b.putAll_link _)

/-- A head without a node above it: the result is empty, and the round is over at once (R306). -/
theorem censusRoundStart_alone {s : State} {t : Nat} (free : s.blk.roundFree = true) (wanted : s.blk.link.roundWanted = true)
    (down : s.blk.portUp .du = false) (spi : s.blk.host.spi.executing = none) (can : s.blk.host.can.executing = none) :
    GivesBlock (.censusRoundStart t) s fun b =>
      b.link.round = none ∧ b.get Ob.censusResultTop = 0 ∧ b.get Ob.censusResultLastCommit = (t % t48 : Nat) := by
  obtain ⟨-, tb, -, host, -⟩ := (s.blk.at t).roundOpened_keeps
  obtain ⟨top, -, -, commit, hostStill, -⟩ := (s.blk.at t).roundOpened.roundCommitted_spec s.blk.link.nextNumber 1 0 false false
  have closed : ¬ (s.blk.at t).roundOpened.portUp .du = true := by
    rw [Block.roundOpened_portUp]
    exact ne_true_of_eq_false down
  refine ⟨_, rfl, ?_⟩
  rw [censusRoundStart_eq free (by rw [wanted]; rfl), Block.startRound_eq, if_neg closed, Block.commitRound_eq, if_pos rfl]
  have ended := Block.endRound_triggers s.flash true ((congrArg (·.spi.executing) (hostStill.trans host)).trans spi)
    ((congrArg (·.can.executing) (hostStill.trans host)).trans can)
  refine ⟨ended.round, (ended.below _ (by decide)).trans top, (ended.below _ (by decide)).trans ?_⟩
  refine Eq.trans commit ?_
  rw [Block.now, tb]
  rfl

/-! #### The sweeps that follow a COMMIT (R313) -/

theorem Sweeps.sendProbes {b : Block} {p : Port} {n : Nat} {again : Bool} (h : Sweeps b p n again) : Sweeps b.sendProbes p n again := by
  obtain ⟨q, probing, port, count, second⟩ := h
  unfold Block.sendProbes
  split
  · next ended => rw [probing] at ended; cases ended
  · next q' found =>
    obtain rfl : q = q' := Option.some.inj (probing.symm.trans found)
    split
    · exact ⟨q, probing, port, count, second⟩
    · extract_lets _ b1
      have announced : Sweeps b1 p n again := by
        unfold b1
        split
        · rw [Sweeps, Block.broadcastOn, Block.sendOn_link]
          exact ⟨_, rfl, port, count, second⟩
        · exact ⟨q, probing, port, count, second⟩
      obtain ⟨q1, probing1, port1, count1, second1⟩ := announced
      split
      · next ended => rw [probing1] at ended; cases ended
      · next q2 found1 =>
        obtain rfl : q1 = q2 := Option.some.inj (probing1.symm.trans found1)
        extract_lets left _ b3
        have pulses : b3.link.probing = some { q1 with left := q1.left - left } :=
          congrArg Link.probing (foldl_keeps Block.link (fun b _ => b.sendHeld_link _ _) _ _)
        split
        · exact ⟨_, rfl, port1, count1, second1⟩
        · split
          · rw [Sweeps, Block.occupyDu, Block.withPhys_link]
            exact ⟨_, pulses, port1, count1, second1⟩
          · exact ⟨_, pulses, port1, count1, second1⟩

theorem Block.sendSweeps_sweeps (b : Block) (p : Port) (n : Nat) (again : Bool) : Sweeps (b.sendSweeps p n again) p n again :=
  Sweeps.sendProbes ⟨_, rfl, rfl, rfl, rfl⟩

theorem Block.Triggers.sendProbes {a b : Block} (h : a.Triggers b) : a.Triggers b.sendProbes := by
  unfold Block.sendProbes
  split
  · exact h
  · split
    · exact h
    · extract_lets _ b1
      have h1 : a.Triggers b1 := .ite h.withLink.broadcastOn h
      split
      · exact h1
      · extract_lets _ _ b3
        have h3 : a.Triggers b3 := .foldl (fun _ _ h => h.sendPulse) h1.withLink
        exact .ite h1.withLink (.ite h3.occupyDu h3)

theorem Block.Triggers.sendSweeps {a b : Block} (h : a.Triggers b) {p count again} : a.Triggers (b.sendSweeps p count again) :=
  h.withLink.sendProbes

/-! #### Passes (R311) -/

section
variable {s : State} {number t : Nat} {payload : List Byte} {r : Round}

/-- The pass that a reply or its absence ends. -/
theorem censusPassResult_eq (going : s.blk.link.round = some r) (same : r.number = number) (unsettled : r.settled = false)
    (sent : r.held = false) (length : payload.length = 4) : censusPassResult number payload t s.flash s.blk =
      if r.last = some (passResult payload) then (s.blk.at t).commitRound s.flash number r.pass (field payload 0 1 % 128)
        (decide (128 ≤ field payload 0 1)) (bitOf (field payload 3 1) 1)
      else (s.blk.at t).nextPass s.flash r (some (passResult payload)) := by
  have found : (s.blk.at t).link.round.filter (fun r => r.number == number && !r.settled && !r.held && payload.length == 4) = some r := by
    simp [going, same, unsettled, sent, length]
  rw [censusPassResult, found]

theorem censusPassTimeout_eq (going : s.blk.link.round = some r) (unsettled : r.settled = false) (sent : r.held = false) :
    censusPassTimeout t s.flash s.blk = (s.blk.at t).nextPass s.flash r none := by
  have found : (s.blk.at t).link.round.filter (fun r => !r.settled && !r.held) = some r := by
    simp [going, unsettled, sent]
  rw [censusPassTimeout, found]

/-- Before the eighth pass another one begins. -/
theorem Block.nextPass_more {b : Block} {m : List Host.Cell} {last : Option (List Byte)} (few : r.pass < 8) :
    (b.nextPass m r last).link.round = some { r with pass := r.pass + 1, last := last, held := !b.censusRoom } ∧
      (b.nextPass m r last).dict = b.dict := by
  rw [Block.nextPass, if_neg (by omega)]
  obtain ⟨link, dict⟩ := (b.withLink { b.link with
    round := some { r with pass := r.pass + 1, last := last, held := false } }).sendCensus_keeps r.number
  rw [link, dict]
  exact ⟨rfl, rfl⟩

/-- A pass that differs from the one before is followed by another. -/
theorem censusPassResult_differs (going : s.blk.link.round = some r) (same : r.number = number) (unsettled : r.settled = false)
    (sent : r.held = false) (length : payload.length = 4) (differs : r.last ≠ some (passResult payload)) (few : r.pass < 8) :
    GivesBlock (.censusPassResult number payload t) s fun b =>
      b.link.round = some { r with pass := r.pass + 1, last := some (passResult payload), held := !(s.blk.at t).censusRoom } ∧
      b.dict = s.blk.dict := by
  refine ⟨_, rfl, ?_⟩
  rw [censusPassResult_eq going same unsettled sent length, if_neg differs]
  exact Block.nextPass_more few

/-- Two passes that agree are committed, and the sweeps begin (R312, R313). -/
theorem censusPassResult_agrees (going : s.blk.link.round = some r) (same : r.number = number) (unsettled : r.settled = false)
    (sent : r.held = false) (length : payload.length = 4) (agrees : r.last = some (passResult payload))
    (nodes : field payload 0 1 % 128 ≠ 0) : GivesBlock (.censusPassResult number payload t) s fun b =>
      b.get Ob.censusResultTop = (field payload 0 1 % 128 : Nat) ∧ b.get Ob.censusResultPasses = r.pass ∧
      b.get Ob.censusResultCensusNumber = number ∧ b.get Ob.censusResultLastCommit = (t % t48 : Nat) ∧
      b.link.round = some { r with settled := true } ∧ Sweeps b .du (field payload 0 1 % 128) false := by
  obtain ⟨top, passes, count, commit, -, round⟩ := (s.blk.at t).roundCommitted_spec number r.pass (field payload 0 1 % 128)
    (decide (128 ≤ field payload 0 1)) (bitOf (field payload 3 1) 1)
  refine ⟨_, rfl, ?_⟩
  rw [censusPassResult_eq going same unsettled sent length, if_pos agrees, Block.commitRound_eq, if_neg nodes]
  have swept := (Block.Triggers.refl ((s.blk.at t).roundCommitted number r.pass (field payload 0 1 % 128)
    (decide (128 ≤ field payload 0 1)) (bitOf (field payload 3 1) 1))).sendSweeps (p := .du) (count := field payload 0 1 % 128)
      (again := false)
  refine ⟨(swept.below _ (by decide)).trans top, (swept.below _ (by decide)).trans passes, (swept.below _ (by decide)).trans count,
    (swept.below _ (by decide)).trans commit, swept.round.trans (round.trans ?_), Block.sendSweeps_sweeps _ _ _ _⟩
  rw [Block.at_link, going]
  rfl

/-- A pass without a reply is followed by another. -/
theorem censusPassTimeout_goesOn (going : s.blk.link.round = some r) (unsettled : r.settled = false) (sent : r.held = false)
    (few : r.pass < 8) : GivesBlock (.censusPassTimeout t) s fun b =>
      b.link.round = some { r with pass := r.pass + 1, last := none, held := !(s.blk.at t).censusRoom } ∧ b.dict = s.blk.dict := by
  refine ⟨_, rfl, ?_⟩
  rw [censusPassTimeout_eq going unsettled sent]
  exact Block.nextPass_more few

/-- A round has failed, and its end is still to come (R311). -/
def Block.roundFailed (b : Block) : Block :=
  let flagged := (b.putBit Ob.censusResultFlags 4 true).putBit Ob.censusResultFlags 6 (b.link.round.any fun r => r.byId)
  let b := flagged.put Ob.censusResultPasses 8
  let b := b.raise 0x62 1
  b.withLink { b.link with retryAt := some ((b.now + 100000) % t48) }

theorem Block.failRound_eq (b : Block) (m : List Host.Cell) : b.failRound m = b.roundFailed.endRound m false := rfl

theorem Block.roundFailed_spec (b : Block) : b.roundFailed.bit Ob.censusResultFlags 4 = true ∧
    b.roundFailed.link.retryAt = some ((b.now + 100000) % t48) ∧ ⟨0x62, 1, 0, none⟩ ∈ b.roundFailed.flint.detections := by
  refine ⟨?_, by simp [Block.roundFailed], by simp [Block.roundFailed, Block.raise]⟩
  have dict : b.roundFailed.dict = (((b.putBit Ob.censusResultFlags 4 true).putBit Ob.censusResultFlags 6
      (b.link.round.any fun r => r.byId)).put Ob.censusResultPasses 8).dict := by
    simp [Block.roundFailed]
  rw [Block.bit, Block.nat_of_get (Block.get_of_dict dict _), ← Block.bit, Block.bit_put, if_neg (by decide),
    Block.bit_putBit_other _ _ (by decide)]
  exact Block.bit_putBit_self _ _ _ _

/-- The eighth pass without an agreement ends the round (R311). -/
theorem censusPassTimeout_fails (going : s.blk.link.round = some r) (unsettled : r.settled = false) (sent : r.held = false)
    (eighth : 8 ≤ r.pass) (spi : s.blk.host.spi.executing = none) (can : s.blk.host.can.executing = none) :
    GivesBlock (.censusPassTimeout t) s fun b =>
      b.link.round = none ∧ b.bit Ob.censusResultFlags 4 = true ∧ b.link.retryAt = some ((t % t48 + 100000) % t48) ∧
      ⟨0x62, 1, 0, none⟩ ∈ b.flint.detections := by
  refine ⟨_, rfl, ?_⟩
  rw [censusPassTimeout_eq going unsettled sent, Block.nextPass, if_pos eighth, Block.failRound_eq]
  obtain ⟨flag, retry, raised⟩ := (s.blk.at t).roundFailed_spec
  have ended := Block.endRound_triggers (b := (s.blk.at t).roundFailed) s.flash false spi can
  refine ⟨ended.round, ?_, ended.retryAt.trans retry, ?_⟩
  · rw [Block.bit, Block.nat_of_get (ended.below _ (by decide))]
    exact flag
  · rw [ended.flint]
    exact raised

end

/-- Settles O38: the start of a round by its four cases, its passes, and the retry. -/
theorem censusAtHead : Obligations.CensusAtHead :=
  ⟨fun _ _ => censusRoundStart_sends, fun _ _ => censusRoundStart_waits, fun _ _ _ => censusRoundStart_afterTone,
    fun _ _ => censusRoundStart_alone, fun _ _ _ _ _ => censusPassResult_differs, fun _ _ _ _ _ => censusPassResult_agrees,
    fun _ _ _ => censusPassTimeout_goesOn, fun _ _ _ => censusPassTimeout_fails, fun _ _ _ => censusRetry_starts⟩

end Sys2Proof.Machine
end

section
/-! ### The ties of BedrockThresholds (R82)

What a write of BedrockThresholds reaches, and how its bytes are taken, is the same on every package: its five entries can be written by anyone
in any role and state. So a write that breaks a tie is refused wherever it ends, on a package whose thresholds stand as they did. -/

namespace Sys2Proof.Machine

/-! #### What a write of BedrockThresholds reaches -/

/-- The object BedrockThresholds as the table gives it. -/
def thresholdsObject : Obj :=
  ⟨0x1004, .record 5, [⟨1, 1, .u16, .rw, .rw, 3650, .p, 1000, 5500, []⟩, ⟨2, 2, .u16, .rw, .rw, 2500, .p, 0, 5000, []⟩,
    ⟨3, 3, .i16, .rw, .rw, 600, .p, -400, 1250, []⟩, ⟨4, 4, .i16, .rw, .rw, -300, .p, -400, 1250, []⟩,
    ⟨5, 5, .u8, .rw, .rw, 15, .p, 0, 255, []⟩]⟩

theorem findObj_thresholds : findObj 0x1004 = some thresholdsObject := by decide

/-- Its entries are plain: read and written in both roles, and persistent. -/
theorem thresholdsObject_plain {k : Nat} {e : Entry} (h : thresholdsObject.entry k = some e) :
    e.accNode = .rw ∧ e.accHead = .rw ∧ e.pers = .p := by
  have all : ∀ e ∈ thresholdsObject.entries, e.accNode = .rw ∧ e.accHead = .rw ∧ e.pers = .p := by decide
  exact all e (List.mem_of_find?_eq_some h)

section
variable (b c : Block)

theorem Block.accessOf_thresholds {k : Nat} {e : Entry} (h : thresholdsObject.entry k = some e) : b.accessOf e = .rw := by
  obtain ⟨node, head, -⟩ := thresholdsObject_plain h
  rw [Block.accessOf, node, head, ite_self]

theorem Block.writable_thresholds {k : Nat} {e : Entry} (h : thresholdsObject.entry k = some e) : b.writable e = true := by
  obtain ⟨-, -, pers⟩ := thresholdsObject_plain h
  simp [Block.writable, b.accessOf_thresholds h, pers]

/-- What a write of the object addresses can all be written. -/
theorem Block.filter_writable_thresholds (subs : List Nat) :
    (subs.filterMap thresholdsObject.entry).filter b.writable = subs.filterMap thresholdsObject.entry :=
  List.filter_eq_self.2 fun e mem => by
    obtain ⟨k, -, found⟩ := List.mem_filterMap.1 mem
    exact b.writable_thresholds found

/-- Neither unlocking, the role nor the state can refuse a write of the object. -/
theorem Block.writeState_thresholds (subs : List Nat) :
    (subs.filterMap thresholdsObject.entry).any Entry.rwu = false ∧
      b.writeState thresholdsObject (subs.filterMap thresholdsObject.entry) = false := by
  have role : b.roleRefuses thresholdsObject = false := by simp [Block.roleRefuses, thresholdsObject, cellSide, xOnly]
  have unlocked : ∀ e ∈ subs.filterMap thresholdsObject.entry, e.rwu = false := fun e mem => by
    obtain ⟨k, -, found⟩ := List.mem_filterMap.1 mem
    simp [Entry.rwu, (thresholdsObject_plain found).1]
  have anywhere : ∀ e ∈ subs.filterMap thresholdsObject.entry, b.accessOf e = .rw := fun e mem => by
    obtain ⟨k, -, found⟩ := List.mem_filterMap.1 mem
    exact b.accessOf_thresholds found
  refine ⟨List.any_eq_false.2 fun e mem => by simp [unlocked e mem], ?_⟩
  have states : (subs.filterMap thresholdsObject.entry).any (fun e => b.accessOf e == .rws || b.accessOf e == .rwu) = false :=
    List.any_eq_false.2 fun e mem => by simp [anywhere e mem]
  have ix : thresholdsObject.ix = 0x1004 := rfl
  simp [Block.writeState, role, states, ix]

variable {b} {sub : Nat} {o : Obj}

/-- A write that reaches the object on one package does so on every other. -/
theorem Block.writeTarget_thresholds (h : b.writeTarget 0x1004 sub = .ok o) :
    o = thresholdsObject ∧ sub < 256 ∧ c.writeTarget 0x1004 sub = .ok thresholdsObject := by
  obtain ⟨found, present, reached⟩ := Block.writeTarget_ok h
  obtain rfl : o = thresholdsObject := Option.some.inj (found.symm.trans findObj_thresholds)
  refine ⟨rfl, Block.hasSub_lt present (.inr ⟨5, by decide, rfl⟩), ?_⟩
  have presentThere : c.hasSub thresholdsObject sub = true := present
  have addressed : c.addressed thresholdsObject sub = b.addressed thresholdsObject sub := rfl
  obtain ⟨free, state⟩ := c.writeState_thresholds (b.addressed thresholdsObject sub)
  rw [b.filter_writable_thresholds] at reached
  simp [Block.writeTarget, xOnly, findObj_thresholds, presentThere, addressed, c.filter_writable_thresholds, reached, free, state]

/-- The bytes of a write are taken alike on every package. -/
theorem Block.slices_thresholds (b c : Block) (subs : List Nat) (data : List Byte) :
    b.slices thresholdsObject subs data = c.slices thresholdsObject subs data := by
  induction subs generalizing data with
  | nil => rfl
  | cons k t ih =>
    unfold Block.slices
    split
    · exact ih _
    · next e found => simp only [b.writable_thresholds found, c.writable_thresholds found, ih]

end

/-! #### The refusal (R82) -/

/-- What an entry reads as after values were put depends on that entry alone. -/
theorem Block.get_putAll_congr {b c : Block} {k : Nat} (same : c.get k = b.get k) (l : List (Nat × Int)) :
    (c.putAll l).get k = (b.putAll l).get k := by
  unfold Block.putAll
  induction l generalizing b c with
  | nil => exact same
  | cons p t ih => exact ih (by rw [Block.get_put, Block.get_put, same])

/-- A write breaks a tie on every package with the same thresholds. -/
theorem BreaksTies.congr {b c : Block} {sub most : Nat} {data : List Byte} (h : BreaksTies b sub data most)
    (same : KeepsThresholds b c) : BreaksTies c sub data most := by
  obtain ⟨o, target, length, ties⟩ := h
  obtain ⟨rfl, -, there⟩ := Block.writeTarget_thresholds c target
  refine ⟨thresholdsObject, there, length, ?_⟩
  have values : ∀ k < 256, (c.putAll (decodeSlices 0x1004 (c.slices thresholdsObject (c.addressed thresholdsObject sub) data))).get
      (keyOf 0x1004 k) =
      (b.putAll (decodeSlices 0x1004 (b.slices thresholdsObject (b.addressed thresholdsObject sub) data))).get (keyOf 0x1004 k) :=
    fun k byte => by
      rw [Block.slices_thresholds c b]
      exact Block.get_putAll_congr (same k byte) _
  intro after
  refine ties.imp (fun volts => ?_) fun temps => ?_
  · exact (values 1 (by decide)).trans_le (volts.trans_eq (values 2 (by decide)).symm)
  · exact (values 3 (by decide)).trans_le (temps.trans_eq (values 4 (by decide)).symm)

/-- What a write carries has the keys of its object. -/
theorem Block.slices_sub {b : Block} {o : Obj} {x : Nat × Entry × List Byte} {subs : List Nat} {data : List Byte}
    (h : x ∈ b.slices o subs data) : x.1 ∈ subs := by
  induction subs generalizing data with
  | nil => cases h
  | cons k t ih =>
    unfold Block.slices at h
    split at h
    · exact List.mem_cons_of_mem _ (ih h)
    · extract_lets n rest at h
      split at h
      · rcases List.mem_cons.1 h with rfl | later
        · exact List.mem_cons_self
        · exact List.mem_cons_of_mem _ (ih later)
      · exact List.mem_cons_of_mem _ (ih h)

/-- A write that breaks a tie is refused with 0x0605 (R82). -/
theorem BreaksTies.refused {b : Block} {sub most : Nat} {data : List Byte} (h : BreaksTies b sub data most) :
    b.checkWrite 0x1004 sub data most = .error 0x0605 := by
  obtain ⟨o, target, length, ties⟩ := h
  obtain ⟨rfl, byte, -⟩ := Block.writeTarget_thresholds b target
  have ix : thresholdsObject.ix = 0x1004 := rfl
  -- the throttle source is another object's
  have unthrottled : b.valueState (decodeSlices 0x1004 (b.slices thresholdsObject (b.addressed thresholdsObject sub) data)) = false := by
    refine List.any_eq_false.2 fun x mem => ?_
    obtain ⟨y, taken, rfl⟩ := List.mem_map.1 mem
    have small : y.1 < 256 := by
      have addressed := Block.slices_sub taken
      unfold Block.addressed at addressed
      split at addressed
      · obtain ⟨k, real, e⟩ := List.mem_map.1 addressed
        have := List.mem_range.1 real
        omega
      · rw [List.mem_singleton.1 addressed]
        exact byte
    have other : keyOf 0x1004 y.1 ≠ Ob.throttleSourceSource := by simp only [keyOf, Ob.throttleSourceSource]; omega
    simp [other]
  have broken : b.valuesOk thresholdsObject (b.slices thresholdsObject (b.addressed thresholdsObject sub) data) = false := by
    have untied : (b.putAll (decodeSlices 0x1004 (b.slices thresholdsObject (b.addressed thresholdsObject sub) data))).tiesOk 0x1004 =
        false := by
      rw [Block.tiesOk, if_pos rfl, Bool.and_eq_false_iff]
      exact ties.imp (fun volts => decide_eq_false (not_lt.2 volts)) fun temps => decide_eq_false (not_lt.2 temps)
    simp [Block.valuesOk, ix, untied]
  simp [Block.checkWrite, target, length, Block.judgeValues, ix, unthrottled, broken]

/-- So it is as an access, which disarms (R42, R82). -/
theorem BreaksTies.writeAccess {b : Block} {sub most : Nat} {data : List Byte} (h : BreaksTies b.disarm sub data most)
    (m : List Host.Cell) (who : Option Carrier) : b.writeAccess m 0x1004 sub data most who = (.refused 0x0605, b.disarm) :=
  Block.writeAccess_error (by decide) (by decide) h.refused

/-! #### Thresholds that stand -/

theorem KeepsThresholds.refl (b : Block) : KeepsThresholds b b := fun _ _ => rfl

theorem KeepsThresholds.trans {a b c : Block} (h : KeepsThresholds a b) (g : KeepsThresholds b c) : KeepsThresholds a c :=
  fun k byte => (g k byte).trans (h k byte)

theorem KeepsThresholds.of_dict {a b : Block} (h : b.dict = a.dict) : KeepsThresholds a b := fun _ _ => Block.get_of_dict h _

theorem Block.disarm_keepsThresholds (b : Block) : KeepsThresholds b b.disarm := fun k byte =>
  b.get_disarm_other (by simp only [keyOf, Ob.unlockState]; omega)

theorem Block.Serves.keepsThresholds {a b : Block} (h : a.Serves b) : KeepsThresholds a b := fun k byte =>
  h.get _ (by simp only [keyOf]; omega) (by simp only [keyOf]; omega)

/-- A disarm before or after a step that leaves the thresholds alone does not matter to them. -/
theorem KeepsThresholds.disarmed {a b : Block} (h : KeepsThresholds a b) : KeepsThresholds a.disarm b.disarm := fun k byte =>
  (b.disarm_keepsThresholds k byte).trans ((h k byte).trans (a.disarm_keepsThresholds k byte).symm)

end Sys2Proof.Machine
end

section
/-! ### Writes that break a tie, on every way in (R82) -/

namespace Sys2Proof.Machine

/-! #### A write of the dictionary, and one over the chain -/

section
variable {s : State} {seq sub : Nat} {data : List Byte}

theorem dictionaryWrite_tie (awake : s.blk.awake = true) (ties : BreaksTies s.blk.disarm sub data longest) :
    GivesBlock (.dictionaryWrite 0x1004 sub data) s fun b => b = s.blk.disarm.emit (.answer (some 0x0605)) ∧ KeepsThresholds s.blk b := by
  obtain ⟨b, e, rfl⟩ := dictionaryWrite_refused (by decide) (by decide) ⟨awake, ties.refused⟩
  exact ⟨_, e, rfl, s.blk.disarm_keepsThresholds.trans (.of_dict (Block.emit_dict _ _))⟩

/-- A counted command leaves the thresholds. -/
theorem Block.commanded_keepsThresholds (b : Block) : KeepsThresholds b b.commanded := .of_dict b.commanded_dict

theorem write_tie (h : Listens s.blk seq) (ties : BreaksTies s.blk.disarm sub data 4) :
    GivesBlock (.write seq 0x1004 sub data) s fun b =>
      Responds s.blk b seq (responsePayload 2 0x1004 sub (.refuse 0x0605 data.length 0)) ∧ KeepsThresholds s.blk b := by
  have there := ties.congr s.blk.commanded_keepsThresholds.disarmed
  obtain ⟨b, e, dict, answer⟩ := write_refused h (there.writeAccess s.flash none) (by simp [Block.commanded_awake])
    (by simp [Block.commanded_link])
  exact ⟨b, e, answer, (s.blk.commanded_keepsThresholds.trans (Block.disarm_keepsThresholds _)).trans (.of_dict dict)⟩

end

/-! #### The phases of a segmented write -/

/-- The transfer of a write of l bytes as its Initiate opens it. -/
def Transfer.begun (r : Requester) (ix sub l : Nat) : Transfer := ⟨r, ix, sub, true, [], l, 0, none, 0, none⟩

/-- The same when its first segment brought all the bytes. -/
def Transfer.filled (r : Requester) (ix sub : Nat) (data : List Byte) : Transfer :=
  ⟨r, ix, sub, true, data, data.length, 1, some (0, []), 0, none⟩

section
variable {b c : Block} {m : List Host.Cell} {r : Requester} {ix sub : Nat}

/-- A sound Initiate of a write opens its empty transfer (R49). -/
theorem Block.initWrite_opens {l : Nat} {o : Obj} (unlock : ix ≠ 0x1F00)
    (target : (b.disarm.withAccess (b.disarm.access.restart r)).writeTarget ix sub = .ok o)
    (length : (b.disarm.withAccess (b.disarm.access.restart r)).lengthAbort o sub l longest = none)
    (free : (b.disarm.access.restart r).transfer = none) :
    b.initWrite r ix sub l = (⟨none, l, 0, []⟩,
      (b.disarm.withAccess (b.disarm.access.restart r)).openTransfer (.begun r ix sub l)) := by
  simp only [Block.initWrite, unlock, if_false, target, length, Block.withAccess_access, free, Option.isSome_none, Bool.false_eq_true,
    Transfer.begun]

/-- A first segment of all the bytes fills the transfer (R49, R52). -/
theorem Block.segmentWrite_fills {data : List Byte} (held : b.transferOf r = some (.begun r ix sub data.length)) (some_byte : data ≠ [])
    (fits : data.length ≤ segmentSize) : (b.segmentWrite r 0 data).2 = b.openTransfer (.filled r ix sub data) := by
  simp [Block.segmentWrite, held, some_byte, Nat.not_lt.2 fits, Transfer.begun, Transfer.filled]

/-- The End of a whole write closes its transfer, and answers as the access does (R49). -/
theorem Block.segmentEnd_refused {t : Transfer} {a : Nat} {who : Option Carrier} (held : b.transferOf r = some t)
    (writing : t.writing = true) (whole : t.data.length = t.length)
    (refused : b.closeTransfer.writeAccess m t.ix t.sub t.data longest who = (.refused a, c)) :
    b.segmentEnd m r t.length who = (some (.refuse a t.length 0), c) := by
  simp [Block.segmentEnd, held, writing, whole, refused, Verdict.reply]

end

/-- The transfer after a command of the chain is the one its run left: the answer kept for a repeat is no part of it (R53). -/
theorem Listens.chainCommand_transfer {b c : Block} {seq op ix sub : Nat} {r : Reply} {run : Block → Reply × Block} (h : Listens b seq)
    (ran : run b.commanded = (r, c)) (awake : c.awake = b.awake) :
    (b.chainCommand seq op ix sub run).access.transfer = c.access.transfer := by
  obtain ⟨up, head, positioned, fresh⟩ := h
  have unheard : ((b.heard b.link.headSide).access.lastSeq.filter fun x => x.1 == seq) = none := by
    rw [Block.heard_access, Option.filter_eq_none_iff]
    exact fun x last => by simpa using fresh x last
  unfold Block.commanded at ran
  simp only [Block.chainCommand, up, head, positioned, unheard, ran, Block.sendResponse, Block.withAccess_awake, awake, Bool.not_true,
    Bool.or_self, Bool.false_eq_true, if_false, if_true, Block.queueResponse, Block.withLink_access, Block.withAccess_access]

/-- The End of a segmented write over the chain (R49, R82). -/
theorem segEnd_tie {s : State} {seq ix sub : Nat} {x : Transfer} (h : Listens s.blk seq) (held : s.blk.access.transfer = some x)
    (mine : x.requester = .chain) (writing : x.writing = true) (whole : x.data.length = x.length) (object : x.ix = 0x1004)
    (ties : BreaksTies s.blk.disarm x.sub x.data longest) : GivesBlock (.segEnd seq ix sub x.length) s fun b =>
      Responds s.blk b seq (responsePayload 7 ix sub (.refuse 0x0605 x.length 0)) ∧ b.access.transfer = none ∧
        KeepsThresholds s.blk b := by
  have kept : KeepsThresholds s.blk s.blk.commanded.closeTransfer :=
    s.blk.commanded_keepsThresholds.trans (.of_dict (Block.withAccess_dict _ _))
  have refused := (ties.congr kept.disarmed).writeAccess s.flash none
  have found : s.blk.commanded.transferOf .chain = some x := by
    have access : s.blk.commanded.access = s.blk.access := s.blk.heard_access _
    simp [Block.transferOf, access, held, mine]
  have ran : settled (s.blk.commanded.segmentEnd s.flash .chain x.length none) =
      (.refuse 0x0605 x.length 0, s.blk.commanded.closeTransfer.disarm) :=
    congrArg settled (Block.segmentEnd_refused found writing whole (object.symm ▸ refused))
  have awake : s.blk.commanded.closeTransfer.disarm.awake = s.blk.awake := by simp [Block.closeTransfer, Block.commanded_awake]
  obtain ⟨answer, dict⟩ := h.chainCommand_responds (op := 7) (ix := ix) (sub := sub)
    (run := fun b => settled (b.segmentEnd s.flash .chain x.length none)) ran awake
    (by simp [Block.closeTransfer, Block.commanded_link])
  refine ⟨_, rfl, answer, ?_, (kept.trans (Block.disarm_keepsThresholds _)).trans (.of_dict dict)⟩
  rw [h.chainCommand_transfer ran awake, Block.disarm_access]
  rfl

/-! #### A host's write at the head -/

/-- An expedited write by a host (R82, R352). -/
theorem novezWrite_tie {s : State} {c : Carrier} {sub : Nat} {data : List Byte} (h : Ready s.blk c) (byte : sub < 256)
    (least : 1 ≤ data.length) (most : data.length ≤ 4) (ties : BreaksTies s.blk.disarm sub data 4) :
    GivesBlock (.novezWrite c 0 0x1004 sub data) s fun b =>
      Answered b c (s.blk.nextHeader c 2 0 0x1004 sub) data (.abort 0x0605) ∧ KeepsThresholds s.blk b := by
  have running := s.blk.begun_executing c (s.blk.nextHeader c 2 0 0x1004 sub) data
  have kept := (Block.Serves.begun s.blk c (s.blk.nextHeader c 2 0 0x1004 sub) data).keepsThresholds
  have fits : novezFits c 2 data.length = true := by simp [novezFits, novezLength, least, most]
  have refused := (ties.congr kept.disarmed).writeAccess s.flash (some c)
  have e := h.hostCommand s.flash (op := 2) (by decide) (by decide : 0x1004 < 65536) byte rfl fits
  generalize s.blk.begun c (s.blk.nextHeader c 2 0 0x1004 sub) data = x at running kept refused e
  simp only [OfNat.ofNat_ne_one, if_false, if_true, Block.hostWrite, Block.writeOwn, Block.writeNow, refused, Verdict.reply,
    Block.ownWritten, Block.disarm_hostPort, running, Option.map_some] at e
  refine ⟨_, rfl, ?_⟩
  rw [e]
  exact ⟨(Block.answerHost_answered (by rw [Block.disarm_hostPort, running]) _).1,
    (kept.trans x.disarm_keepsThresholds).trans (Block.Serves.refl x.disarm).answerHost.keepsThresholds⟩

/-- No write of the thresholds is longer than the object's five entries. -/
theorem Block.writeSize_thresholds (b : Block) (sub : Nat) : b.writeSize thresholdsObject sub ≤ 9 := by
  have sizes : ∀ e ∈ thresholdsObject.entries, entrySize 0x1004 e ≤ 2 := by decide
  unfold Block.writeSize Block.addressed
  split
  · exact Nat.le_refl 9
  · rw [List.map_singleton]
    split
    · next e found => exact (Nat.zero_add _).le.trans ((sizes e (List.mem_of_find?_eq_some found)).trans (by decide))
    · decide

/-- A write that breaks a tie has the bytes of what it addresses: one at least, nine at most (R47, R49). -/
theorem BreaksTies.length_le {b : Block} {sub most : Nat} {data : List Byte} (h : BreaksTies b sub data most) :
    data ≠ [] ∧ data.length ≤ 9 := by
  obtain ⟨o, target, length, -⟩ := h
  obtain ⟨rfl, -, -⟩ := Block.writeTarget_thresholds b target
  refine ⟨fun none => ?_, (Block.lengthAbort_eq_none length).trans_le (b.writeSize_thresholds sub)⟩
  simp [Block.lengthAbort, none] at length

/-- What a host wrote into its buffer goes into the head's own dictionary
in one segment, if it fits one; a refused access ends it (R357). -/
theorem Block.putOwn_refused {x y z : Block} {c : Carrier} {t : HostTransfer} {m : List Host.Cell} {a : Nat} (some_byte : t.data ≠ [])
    (fits : t.data.length ≤ segmentSize) (whole : t.data.length = t.length)
    (opens : x.initWrite c.requester t.ix t.sub t.length = (⟨none, t.length, 0, []⟩, y))
    (held : y.transferOf c.requester = some (.begun c.requester t.ix t.sub t.length))
    (refused : (y.openTransfer (.filled c.requester t.ix t.sub t.data)).closeTransfer.writeAccess m t.ix t.sub t.data longest (some c) =
      (.refused a, z)) : x.putOwn m c t = z.ownWritten c (.abort a) := by
  have one : chainSegments t.data.length = 1 := by
    have := List.length_pos_of_ne_nil some_byte
    simp only [chainSegments, ceilDiv, segmentSize] at fits ⊢
    omega
  have all : chainSegment t.data 0 = t.data := List.take_of_length_le fits
  have filled := Block.segmentWrite_fills (whole ▸ held) some_byte fits
  have ended : (y.openTransfer (.filled c.requester t.ix t.sub t.data)).segmentEnd m c.requester t.length (some c) =
      (some (.refuse a t.length 0), z) := by
    rw [← whole]
    exact Block.segmentEnd_refused (Block.openTransfer_of y _) rfl rfl refused
  simp only [Block.putOwn, opens, one, List.range_one, List.foldl_cons, List.foldl_nil, Nat.zero_mod, all, filled, ended]
  rfl

/-- A whole write that the head puts into its own dictionary goes in one segment, and its End refuses it (R49, R82, R357). -/
theorem BreaksTies.putOwn {x : Block} {t : HostTransfer} (ties : BreaksTies x.disarm t.sub t.data longest) (object : t.ix = 0x1004)
    (whole : t.data.length = t.length) (c : Carrier) (m : List Host.Cell) (free : (x.access.restart c.requester).transfer = none) :
    ∃ y, x.putOwn m c t = y.disarm.ownWritten c (.abort 0x0605) ∧ KeepsThresholds x y ∧ y.hostPort c = x.hostPort c ∧
      y.access.transfer = none := by
  obtain ⟨some_byte, short⟩ := ties.length_le
  obtain ⟨o, target, length, -⟩ := id ties
  have opens := Block.initWrite_opens (b := x) (r := c.requester) (ix := t.ix) (sub := t.sub) (o := o) (by simp [object])
    (object ▸ target) (whole ▸ length) (by rw [Block.disarm_access, free])
  have left : ∀ (b : Block) (u : Transfer), KeepsThresholds b (b.openTransfer u) := fun b _ => .of_dict (b.withAccess_dict _)
  have kept : KeepsThresholds x (((x.disarm.withAccess (x.disarm.access.restart c.requester)).openTransfer
      (.begun c.requester t.ix t.sub t.length)).openTransfer (.filled c.requester t.ix t.sub t.data)).closeTransfer :=
    (((x.disarm_keepsThresholds.trans (.of_dict (Block.withAccess_dict _ _))).trans (left _ _)).trans (left _ _)).trans
      (.of_dict (Block.withAccess_dict _ _))
  refine ⟨_, Block.putOwn_refused some_byte (by simp only [segmentSize]; omega) whole opens (Block.openTransfer_of _ _)
    (object ▸ (ties.congr kept.disarmed).writeAccess m (some c)), kept, ?_, rfl⟩
  simp [Block.closeTransfer, Block.openTransfer]

/-- The End of a host's segmented write to the head (R82, R357). -/
theorem novezSegEnd_tie {s : State} {c : Carrier} {ix sub : Nat} {x : HostTransfer} (h : Ready s.blk c) (word : ix < 65536)
    (byte : sub < 256) (held : (s.blk.hostPort c).transfer = some x) (writing : x.writing = true) (own : x.position = 0)
    (whole : x.data.length = x.length) (object : x.ix = 0x1004) (free : (s.blk.access.restart c.requester).transfer = none)
    (ties : BreaksTies s.blk.disarm x.sub x.data longest) : GivesBlock (.novezSegEnd c 0 ix sub x.length) s fun b =>
      Answered b c (s.blk.nextHeader c 7 0 ix sub) (bytesOf 2 x.length) (.abort 0x0605) ∧ (b.hostPort c).transfer = none ∧
        b.access.transfer = none ∧ KeepsThresholds s.blk b := by
  have running := s.blk.begun_executing c (s.blk.nextHeader c 7 0 ix sub) (bytesOf 2 x.length)
  have serves := Block.Serves.begun s.blk c (s.blk.nextHeader c 7 0 ix sub) (bytesOf 2 x.length)
  have access := (Block.HostSideOnly.begun s.blk c (s.blk.nextHeader c 7 0 ix sub) (bytesOf 2 x.length)).access
  have held' := (s.blk.begun_transfer c (s.blk.nextHeader c 7 0 ix sub) (bytesOf 2 x.length)).trans held
  have e := h.hostCommand s.flash (op := 7) (data := bytesOf 2 x.length) (by decide) word byte rfl rfl
  have short : x.length < 65536 := by have := ties.length_le.2; omega
  generalize s.blk.begun c (s.blk.nextHeader c 7 0 ix sub) (bytesOf 2 x.length) = y at running serves access held' e
  have kept : KeepsThresholds s.blk (y.setBuffer c none) := serves.setHostPort.keepsThresholds
  have ended : y.hostSegEnd s.flash c x.length = (y.setBuffer c none).putOwn s.flash c x := by
    simp [Block.hostSegEnd, held', writing, own, whole]
  have stands : (y.setBuffer c none).access = s.blk.access := (Block.HostSideOnly.refl y).setHostPort.access.trans access
  obtain ⟨z, put, left, port, closed⟩ := (ties.congr kept.disarmed).putOwn object whole c s.flash (by rw [stands, free])
  have port' : z.disarm.hostPort c = { y.hostPort c with transfer := none, timedOut := (y.hostPort c).timedOut } := by
    simp [port]
  have written : z.disarm.ownWritten c (.abort 0x0605) = z.disarm.answerHost c (.abort 0x0605) := by
    simp [Block.ownWritten, port', running]
  simp only [Nat.reduceEqDiff, if_false, field_bytesOf_two short, ended, put, written] at e
  obtain ⟨answer, buffer, -⟩ := Block.answered_with running port' (.abort 0x0605)
  refine ⟨_, rfl, ?_⟩
  rw [e]
  refine ⟨answer, buffer, ?_, ?_⟩
  · rw [(Block.HostSideOnly.refl z.disarm).answerHost.access, Block.disarm_access, closed]
  · exact ((kept.trans left).trans z.disarm_keepsThresholds).trans (Block.Serves.refl z.disarm).answerHost.keepsThresholds

/-- Settles O47: the checks refuse the write, and each way in answers what they refuse. -/
theorem thresholdTies : Obligations.ThresholdTies :=
  ⟨fun _ _ _ => dictionaryWrite_tie, fun _ _ _ _ => write_tie, fun _ _ _ _ _ => segEnd_tie, fun _ _ _ _ => novezWrite_tie,
    fun _ _ _ _ _ => novezSegEnd_tie⟩

end Sys2Proof.Machine
end

section
/-! ### What leaves the ports stays on record (R116, R279, R300)

The record of what the ports carried only grows: an operation of the head appends to it or leaves it alone. Said once per operation that
follows a SYNC. -/

namespace Sys2Proof.Machine

/-- What the ports had carried at block a, they have carried at block b, with more after it. -/
def Block.OutGrows (a b : Block) : Prop := a.out <+: b.out

theorem Block.OutGrows.refl (b : Block) : b.OutGrows b := List.prefix_rfl

section
variable {a b : Block}

/-! #### Branches and folds -/

theorem Block.OutGrows.ite {p : Prop} [Decidable p] {x y : Block} (hx : a.OutGrows x) (hy : a.OutGrows y) :
    a.OutGrows (if p then x else y) := by
  split
  · exact hx
  · exact hy

theorem Block.OutGrows.foldl {α : Type} {f : Block → α → Block} (hf : ∀ b x, a.OutGrows b → a.OutGrows (f b x)) {l : List α}
    (h : a.OutGrows b) : a.OutGrows (l.foldl f b) :=
  List.foldlRecOn (motive := fun x : Block => a.OutGrows x) _ _ h fun b hb x _ => hf b x hb

/-! #### The parts of the package -/

theorem Block.OutGrows.withPower (h : a.OutGrows b) {v} : a.OutGrows (b.withPower v) := h
theorem Block.OutGrows.withPhys (h : a.OutGrows b) {v} : a.OutGrows (b.withPhys v) := h
theorem Block.OutGrows.withGov (h : a.OutGrows b) {v} : a.OutGrows (b.withGov v) := h
theorem Block.OutGrows.withLanes (h : a.OutGrows b) {v} : a.OutGrows (b.withLanes v) := h
theorem Block.OutGrows.withCap (h : a.OutGrows b) {v} : a.OutGrows (b.withCap v) := h
theorem Block.OutGrows.withImp (h : a.OutGrows b) {v} : a.OutGrows (b.withImp v) := h
theorem Block.OutGrows.withLink (h : a.OutGrows b) {v} : a.OutGrows (b.withLink v) := h
theorem Block.OutGrows.withHost (h : a.OutGrows b) {v} : a.OutGrows (b.withHost v) := h
theorem Block.OutGrows.withDiag (h : a.OutGrows b) {v} : a.OutGrows (b.withDiag v) := h
theorem Block.OutGrows.withFree (h : a.OutGrows b) {v} : a.OutGrows (b.withFree v) := h
theorem Block.OutGrows.put (h : a.OutGrows b) {k v} : a.OutGrows (b.put k v) := h
theorem Block.OutGrows.count32 (h : a.OutGrows b) {k} : a.OutGrows (b.count32 k) := by
  rw [Block.OutGrows, Block.count32_out]
  exact h

theorem Block.OutGrows.putAll (h : a.OutGrows b) {l} : a.OutGrows (b.putAll l) := .foldl (fun _ _ h => h.put) h

theorem Block.OutGrows.emit (h : a.OutGrows b) {e} : a.OutGrows (b.emit e) := h.trans (List.prefix_append _ _)

/-! #### Channels, edges and what leaves a port -/

theorem Block.OutGrows.editCh (h : a.OutGrows b) {i f} : a.OutGrows (b.editCh i f) := h.withGov
theorem Block.OutGrows.noteSat (h : a.OutGrows b) {k hit} : a.OutGrows (b.noteSat k hit) := .ite h.withDiag h

theorem Block.OutGrows.sendPulse (h : a.OutGrows b) {p k} : a.OutGrows (b.sendPulse p k) := by
  rw [Block.OutGrows, Block.sendPulse, Block.sendHeld_out]
  exact h.trans (List.prefix_append _ _)

theorem Block.OutGrows.occupyDu (h : a.OutGrows b) {ns} : a.OutGrows (b.occupyDu ns) := h.withPhys
theorem Block.OutGrows.sendOn (h : a.OutGrows b) {p f} : a.OutGrows (b.sendOn p f) := .ite (.emit (.ite h.occupyDu h)) h

theorem Block.OutGrows.headPulse (h : a.OutGrows b) {k} : a.OutGrows (b.headPulse k) :=
  .ite (.sendPulse (.ite h.sendPulse.occupyDu h)) (.ite h.sendPulse.occupyDu h)

theorem Block.OutGrows.noteEdge (h : a.OutGrows b) {i x} : a.OutGrows (b.noteEdge i x) := .ite h h.withLanes.withImp.editCh

theorem Block.OutGrows.noteEdges (h : a.OutGrows b) {delays} : a.OutGrows (b.noteEdges delays) :=
  .foldl (fun _ _ h => h.noteEdge) h.withLanes

/-! #### Census passes, probes and commands -/

theorem Block.OutGrows.holdPass (h : a.OutGrows b) {x} : a.OutGrows (b.holdPass x) := h.withLink
theorem Block.OutGrows.sendCensus (h : a.OutGrows b) {number} : a.OutGrows (b.sendCensus number) := .ite h.holdPass.sendOn h.holdPass

theorem Block.OutGrows.resumePass (h : a.OutGrows b) : a.OutGrows b.resumePass := by
  unfold Block.resumePass
  split
  · exact h
  · exact h.sendCensus

theorem Block.OutGrows.sendProbes (h : a.OutGrows b) : a.OutGrows b.sendProbes := by
  unfold Block.sendProbes
  split
  · exact h
  · split
    · exact h
    · extract_lets _ b1
      have h1 : a.OutGrows b1 := .ite h.withLink.withLink.sendOn h
      split
      · exact h1
      · extract_lets _ _ b3
        have h3 : a.OutGrows b3 := .foldl (fun _ _ h => h.sendPulse) h1.withLink
        exact .ite h1.withLink (.ite h3.occupyDu h3)

theorem Block.OutGrows.sendCommand (h : a.OutGrows b) {p seq payload} : a.OutGrows (b.sendCommand p seq payload) := h.sendOn

theorem Block.OutGrows.resumeCommands (h : a.OutGrows b) : a.OutGrows b.resumeCommands :=
  .foldl (fun _ _ h => .ite h h.withLink.sendCommand) h

theorem Block.OutGrows.dispatchOne (h : a.OutGrows b) {i} : a.OutGrows (b.dispatchOne i) := by
  unfold Block.dispatchOne
  split
  · exact h
  · exact .ite h h.withLink.sendCommand

theorem Block.OutGrows.dispatch (h : a.OutGrows b) : a.OutGrows b.dispatch := .foldl (fun _ _ h => h.dispatchOne) h

/-! #### Snapshots and the own records -/

theorem Block.OutGrows.publishSnapshot (h : a.OutGrows b) {seq instant tags values current} :
    a.OutGrows (b.publishSnapshot seq instant tags values current) := by
  unfold Block.publishSnapshot
  extract_lets b1 b2 b3
  have h1 : a.OutGrows b1 := h.putAll
  have h2 : a.OutGrows b2 := by
    unfold b2
    split
    · exact h1
    · exact .ite (.put (.foldl (fun _ _ h => h.put) h1)) (.foldl (fun _ _ h => h.put) h1)
  have h3 : a.OutGrows b3 := .foldl (fun _ _ h => h.put) h2
  exact h3.put.put.withGov.withLink

theorem Block.OutGrows.nextSnap (h : a.OutGrows b) : a.OutGrows b.nextSnap := h.withCap
theorem Block.OutGrows.settleCaptures (h : a.OutGrows b) : a.OutGrows b.settleCaptures := h.withCap

theorem Block.OutGrows.quietForCapture (h : a.OutGrows b) : a.OutGrows b.quietForCapture :=
  .ite (.foldl (fun _ _ h => h.editCh) h.withGov) h

theorem Block.OutGrows.takeSnap (h : a.OutGrows b) {stampPs} : a.OutGrows (b.takeSnap stampPs) := by
  unfold Block.takeSnap
  extract_lets
  split
  · exact h.nextSnap.publishSnapshot
  · split
    · exact h.settleCaptures.nextSnap.quietForCapture.withCap
    · split
      · exact h.settleCaptures.count32.withCap
      · extract_lets _ b5
        have h4 : a.OutGrows b.settleCaptures.nextSnap.quietForCapture := h.settleCaptures.nextSnap.quietForCapture
        have h5 : a.OutGrows b5 := .ite h4.count32 h4
        exact h5.withCap

theorem Block.OutGrows.respond (h : a.OutGrows b) {cls x} : a.OutGrows (b.respond cls x) :=
  .ite (.ite h.noteSat.withLink.withLink h.noteSat.withLink.withLink) (.withLink (.ite h.noteSat.count32 h.noteSat))

theorem Block.OutGrows.answer (h : a.OutGrows b) {k} : a.OutGrows (b.answer k) := by
  unfold Block.answer
  split
  · exact .ite h.withLink h.respond
  · exact h.respond
  · exact h.respond
  · exact h.respond
  · exact h
  · exact h

/-! #### Trains -/

theorem Block.OutGrows.openTrain (h : a.OutGrows b) {cls perWindow held} : a.OutGrows (b.openTrain cls perWindow held) :=
  .withLink (.ite h.withLink h)

theorem Block.OutGrows.ownAnswer (h : a.OutGrows b) {cls} : a.OutGrows (b.ownAnswer cls) := .ite h.takeSnap.noteEdges h.answer

theorem Block.OutGrows.startTrain (h : a.OutGrows b) {cls perWindow} : a.OutGrows (b.startTrain cls perWindow) :=
  h.headPulse.openTrain.ownAnswer

theorem Block.OutGrows.triggerAgain (h : a.OutGrows b) : a.OutGrows b.triggerAgain := by
  unfold Block.triggerAgain
  split
  · exact h
  · exact .ite h (.foldl (fun _ _ h => .ite h (.openTrain (.ite h.withLink.sendPulse h.withLink))) h.withLink)

theorem Block.OutGrows.waitFor (h : a.OutGrows b) {cls} : a.OutGrows (b.waitFor cls) := h.withLink

theorem Block.OutGrows.request (h : a.OutGrows b) {cls perWindow} : a.OutGrows (b.request cls perWindow) :=
  .ite h.waitFor (.ite h.startTrain (.ite h.waitFor (.ite h.withLink h.startTrain)))

theorem Block.OutGrows.kick (h : a.OutGrows b) : a.OutGrows b.kick :=
  .ite h (.foldl (fun _ _ h => .ite h.withLink.request h) (.ite h.withLink.startTrain h))

/-! #### The host's answers -/

theorem Block.OutGrows.judgeCan (h : a.OutGrows b) : a.OutGrows b.judgeCan := .ite h.put h

theorem Block.OutGrows.canFrame (h : a.OutGrows b) {k l} : a.OutGrows (b.canFrame k l) :=
  .ite h.emit.put.judgeCan.put.withFree h.emit.put.judgeCan

theorem Block.OutGrows.canAlarms (h : a.OutGrows b) : a.OutGrows b.canAlarms := .foldl (fun _ _ h => h.canFrame) h.withHost

theorem Block.OutGrows.canRespond (h : a.OutGrows b) {l} : a.OutGrows (b.canRespond l) := .ite h.canAlarms.canFrame (.ite h.withHost h)

theorem Block.OutGrows.answerHost (h : a.OutGrows b) {k r} : a.OutGrows (b.answerHost k r) := by
  unfold Block.answerHost Block.answerWith
  extract_lets
  split
  · exact h
  · cases k
    · exact h.withHost
    · exact h.withHost.withPower.canRespond

theorem Block.OutGrows.runTriggers (h : a.OutGrows b) : a.OutGrows b.runTriggers :=
  .foldl (fun _ _ h => .ite h h.withLink.startTrain.answerHost) h

end

/-! #### SYNC at the head (R116) -/

/-- Whatever waited for the SYNC leaves behind its pulse. -/
theorem syncSendThen_grows {b : Block} {t : Nat} (awake : b.awake = true) (head : b.isHead = true) (due : t % t48 % 10000 = 0) :
    ((b.at t).headPulse .sync).OutGrows (syncSendThen t b) := by
  have pulsed := (Block.OutGrows.refl ((b.at t).headPulse .sync)).resumePass.sendProbes
  have sends : (!(b.at t).awake || !(b.at t).isHead || decide (t % t48 % 10000 ≠ 0)) = false := by
    simp [awake, due, show (b.at t).isHead = true from head]
  unfold syncSendThen
  extract_lets
  rw [if_neg (by rw [sends]; exact Bool.false_ne_true)]
  exact .ite pulsed pulsed.resumeCommands.dispatch.triggerAgain.runTriggers.kick

/-- A pulse of the head leaves DU (R279). -/
theorem Block.headPulse_out {b : Block} {k : PulseClass} (du : b.transmits .du = true) (whole : b.splitOn = false) :
    (b.headPulse k).out = b.out ++ [.pulse .du k, .idle .du] := by
  have one : b.headPulse k = (b.sendPulse .du k).occupyDu (pulseTime k) := by
    have stays : ((b.sendPulse .du k).occupyDu (pulseTime k)).splitOn = b.splitOn := rfl
    simp [Block.headPulse, du, stays, whole]
  rw [one]
  exact b.sendHeld_out .du _

/-- In split operation it leaves DL too (R342). -/
theorem Block.headPulse_out_split {b : Block} {k : PulseClass} (du : b.transmits .du = true) (split : b.splitOn = true)
    (dl : b.transmits .dl = true) : (b.headPulse k).out = b.out ++ [.pulse .du k, .idle .du, .pulse .dl k, .idle .dl] := by
  have two : b.headPulse k = ((b.sendPulse .du k).occupyDu (pulseTime k)).sendPulse .dl k := by
    have stays : ((b.sendPulse .du k).occupyDu (pulseTime k)).splitOn = b.splitOn := rfl
    have runs : ((b.sendPulse .du k).occupyDu (pulseTime k)).transmits .dl = b.transmits .dl := rfl
    simp [Block.headPulse, du, stays, split, runs, dl]
  have first : ((b.sendPulse .du k).occupyDu (pulseTime k)).out = b.out ++ [.pulse .du k, .idle .du] := b.sendHeld_out .du _
  rw [two, Block.sendPulse, Block.sendHeld_out, first, List.append_assoc]
  rfl

end Sys2Proof.Machine
end

section
/-! ### The CORE PLL's reference, the clock monitors and the chain time (R107–R124, R341) -/

namespace Sys2Proof.Machine

/-! #### States of the timebase (R119) -/

section
variable {b : Block}

/-- Out of alignment the state is entered and the running window flagged. -/
theorem Block.enterTb_unaligned {st : Int} (other : st ≠ tbAligned) :
    b.enterTb st = (b.put Ob.clockSourceTimebaseState st).flagWindow 2 := by
  simp [Block.enterTb, other]

/-- An aligned timebase that is judged aligned again. -/
theorem Block.enterTb_stays (aligned : b.tbState = tbAligned) :
    b.enterTb tbAligned = (b.put Ob.clockSourceTimebaseState tbAligned).clearLive 0x64 := by
  simp [Block.enterTb, aligned]

/-- Out of alignment a state changes the entry of the state, and none of these parts. -/
theorem Block.enterTb_spec {st : Int} (other : st ≠ tbAligned) : (b.enterTb st).tbState = st ∧ (b.enterTb st).tb = b.tb ∧
    (b.enterTb st).link = b.link ∧ (b.enterTb st).power = b.power ∧
    ∀ k, k ≠ Ob.clockSourceTimebaseState → (b.enterTb st).get k = b.get k := by
  rw [Block.enterTb_unaligned other]
  exact ⟨b.get_put_self Ob.clockSourceTimebaseState st, rfl, rfl, rfl, fun _ far => b.get_put_other st far⟩

theorem Block.enterHoldover_spec (b : Block) : b.enterHoldover.tbState = tbHoldover ∧ b.enterHoldover.tb = b.tb ∧
    b.enterHoldover.link = b.link ∧ b.enterHoldover.power = b.power ∧
    ∀ k, k ≠ Ob.clockSourceTimebaseState → b.enterHoldover.get k = b.get k :=
  Block.enterTb_spec (b := b) (by decide)

/-- HOLDOVER is reported as 0x64 (R119). -/
theorem Block.enterHoldover_detections (b : Block) : b.enterHoldover.flint.detections = b.flint.detections ++ [⟨0x64, 2, 0, none⟩] := by
  rw [Block.enterHoldover, Block.enterTb_unaligned (by decide)]
  rfl

/-- A window that runs is marked incomplete, no other part of the package. -/
theorem Block.spoilRunning_frame (b : Block) : ∃ w, (if b.measuring then b.spoilWindow else b) = b.withWin w := by
  split
  · exact ⟨_, rfl⟩
  · exact ⟨b.win, rfl⟩

/-- What R120 waits for is seen in the role, the link and the reference frame. -/
theorem Block.awaitsSplit_congr {c : Block} (role : c.get Ob.role = b.get Ob.role) (link : c.link = b.link)
    (referenced : c.tb.referenced = b.tb.referenced) : c.awaitsSplit = b.awaitsSplit := by
  rw [Block.awaitsSplit, Block.turned, Block.isHead, role, link, referenced]
  rfl

theorem Block.awaitsSplit_of_turned (turned : b.turned = true) (lacks : b.link.splitDelays = [] ∨ b.tb.referenced = false) :
    b.awaitsSplit = true := by
  obtain none_yet | none_yet := lacks <;> simp [Block.awaitsSplit, turned, none_yet]

end

/-! #### The reference of the CORE PLL (R107, R115, R120) -/

section
variable {b : Block} {p : Port}

/-- The PLL's source changed, before the timebase heeds it: a slew ends, and so do the rejections. -/
theorem Block.switchReference_source (b : Block) (source : Int) : ∃ c : Block, c.get Ob.clockSourceSource = source ∧
    c.tb = { b.tb with slewLeft := 0, rejected := 0 } ∧ c.link = b.link ∧ c.power = b.power ∧
    (∀ k, k ≠ Ob.clockSourceSource → c.get k = b.get k) ∧ b.switchReference source =
      (if c.awaitsSplit then (if c.tbState = tbHoldover then c else c.enterHoldover) else c.enterTb tbAcquiring) := by
  obtain ⟨w, spoiled⟩ := (b.put Ob.clockSourceSource source).spoilRunning_frame
  refine ⟨((b.put Ob.clockSourceSource source).withWin w).withTb { b.tb with slewLeft := 0, rejected := 0 },
    b.get_put_self _ _, rfl, rfl, rfl, fun _ => b.get_put_other source, ?_⟩
  simp only [Block.switchReference, spoiled]
  rfl

/-- A change of reference: the timebase acquires again, or waits in HOLDOVER for what R120 asks for. -/
theorem Block.switchReference_spec (b : Block) (source : Int) :
    (b.switchReference source).get Ob.clockSourceSource = source ∧
      (b.switchReference source).tbState = (if b.awaitsSplit then tbHoldover else tbAcquiring) ∧
      (b.switchReference source).tb = { b.tb with slewLeft := 0, rejected := 0 } ∧ (b.switchReference source).link = b.link ∧
      (b.switchReference source).power = b.power ∧
      ∀ k, k ≠ Ob.clockSourceSource → k ≠ Ob.clockSourceTimebaseState → (b.switchReference source).get k = b.get k := by
  obtain ⟨c, sourced, tb, link, power, kept, switched⟩ := b.switchReference_source source
  have waits : c.awaitsSplit = b.awaitsSplit := Block.awaitsSplit_congr (kept _ (by decide)) link (by rw [tb])
  rw [switched, waits]
  split
  · split
    · next held => exact ⟨sourced, held, tb, link, power, fun k far _ => kept k far⟩
    · obtain ⟨state, tb', link', power', kept'⟩ := c.enterHoldover_spec
      exact ⟨(kept' _ (by decide)).trans sourced, state, tb'.trans tb, link'.trans link, power'.trans power,
        fun k h1 h2 => (kept' k h2).trans (kept k h1)⟩
  · obtain ⟨state, tb', link', power', kept'⟩ := Block.enterTb_spec (b := c) (st := tbAcquiring) (by decide)
    exact ⟨(kept' _ (by decide)).trans sourced, state, tb'.trans tb, link'.trans link, power'.trans power,
      fun k h1 h2 => (kept' k h2).trans (kept k h1)⟩

/-- Symbol lock on the head-side port (R107). -/
theorem pllReferenceSwitch_switches (awake : b.awake = true) (node : b.isHead = false) (side : b.link.headSide = p)
    (other : b.get Ob.clockSourceSource ≠ sourceOf p) : pllReferenceSwitch p b = b.switchReference (sourceOf p) := by
  simp [pllReferenceSwitch, awake, node, side, other]

theorem pllReferenceSwitch_gives {s : State} (awake : s.blk.awake = true) (node : s.blk.isHead = false)
    (side : s.blk.link.headSide = p) (other : s.blk.get Ob.clockSourceSource ≠ sourceOf p) {st : Int}
    (enters : (if s.blk.awaitsSplit then tbHoldover else tbAcquiring) = st) : GivesBlock (.pllReferenceSwitch p) s fun b =>
      b.get Ob.clockSourceSource = sourceOf p ∧ b.tbState = st ∧ b.tb.slewLeft = 0 ∧ b.tb.rejected = 0 := by
  obtain ⟨source, state, tb, -, -, -⟩ := s.blk.switchReference_spec (sourceOf p)
  refine ⟨_, rfl, ?_⟩
  rw [pllReferenceSwitch_switches awake node side other]
  exact ⟨source, state.trans enters, congrArg Timebase.slewLeft tb, congrArg Timebase.rejected tb⟩

theorem pllReferenceSwitch_same {s : State} (same : s.blk.get Ob.clockSourceSource = sourceOf p) :
    GivesBlock (.pllReferenceSwitch p) s fun b => b = s.blk :=
  ⟨_, rfl, if_pos (by simp [same])⟩

/-- Without symbol lock an aligned node holds its last frequency (R115, R119). -/
theorem symbolLockLoss_holds {s : State} (awake : s.blk.awake = true) (node : s.blk.isHead = false) (side : s.blk.link.headSide = p)
    (same : s.blk.get Ob.clockSourceSource = sourceOf p) (aligned : s.blk.tbState = tbAligned) :
    GivesBlock (.symbolLockLoss p) s fun b => b.get Ob.clockSourceSource = 5 ∧ b.tbState = tbHoldover ∧
      b.flint.detections = s.blk.flint.detections ++ [⟨0x64, 2, 0, none⟩] := by
  have still : (s.blk.put Ob.clockSourceSource 5).tbState = tbAligned := (s.blk.get_put_other 5 (by decide)).trans aligned
  have held : symbolLockLoss p s.blk = (s.blk.put Ob.clockSourceSource 5).enterHoldover := by
    simp [symbolLockLoss, awake, node, side, same, still]
  obtain ⟨state, -, -, -, kept⟩ := (s.blk.put Ob.clockSourceSource 5).enterHoldover_spec
  refine ⟨_, rfl, ?_⟩
  rw [held]
  exact ⟨(kept _ (by decide)).trans (s.blk.get_put_self _ _), state, Block.enterHoldover_detections _⟩

end

/-! #### The clock monitors (R124) -/

section
variable {b : Block} {k n need : Nat}

/-- A bad gate that brings a clock to two makes a finding. -/
theorem Block.gate_finds (before : b.tb.gatesBad[k]? = some n) (two : 2 ≤ n + (3 - need)) :
    (b.gate k true need).tb.gatesBad[k]? = some 2 := by
  have listed : k < b.tb.gatesBad.length := (List.getElem?_eq_some_iff.1 before).1
  have counted : min 2 (((b.tb.gatesBad[k]?).getD 0) + (3 - need)) = 2 := by
    rw [before, Option.getD_some]
    omega
  simp only [Block.gate, counted, if_true]
  exact List.getElem?_set_self listed

/-- A finding of any clock but the crystal raises 0xA4 with the clock's number. -/
theorem Block.judgeClock_raises (found : b.tb.gatesBad[k]? = some 2) (other : k ≠ 42) : b.judgeClock k true = b.raise 0xA4 k := by
  simp [Block.judgeClock, found, other]

theorem Block.gateJudged_raises (before : b.tb.gatesBad[k]? = some n) (two : 2 ≤ n + (3 - need)) (other : k ≠ 42) :
    ((b.gate k true need).judgeClock k true).flint.detections = b.flint.detections ++ [⟨0xA4, k, 0, none⟩] ∧
      ((b.gate k true need).judgeClock k true).dict = b.dict := by
  rw [Block.judgeClock_raises (Block.gate_finds before two) other]
  exact ⟨rfl, rfl⟩

theorem clockMonitorGate_finds {s : State} {count : Nat} (monitored : s.blk.monitored k = true) (other : k ≠ 42)
    (bad : outOfBand k count = true) (before : s.blk.tb.gatesBad[k]? = some 1) : GivesBlock (.clockMonitorGate k count) s fun b =>
      b.flint.detections = s.blk.flint.detections ++ [⟨0xA4, k, 0, none⟩] ∧ b.dict = s.blk.dict := by
  refine ⟨_, rfl, ?_⟩
  rw [clockMonitorGate, monitored, bad]
  exact Block.gateJudged_raises before (by decide) other

/-- The FAULT RC needs one bad gate. -/
theorem faultRcCheck_finds {s : State} {count : Nat} (awake : s.blk.awake = true) (runs : s.blk.engineRuns 7 = true)
    (bad : outOfBand 44 count = true) (before : s.blk.tb.gatesBad[44]? = some 0) : GivesBlock (.faultRcCheck count) s fun b =>
      b.flint.detections = s.blk.flint.detections ++ [⟨0xA4, 44, 0, none⟩] ∧ b.dict = s.blk.dict := by
  refine ⟨_, rfl, ?_⟩
  rw [faultRcCheck, awake, runs, bad]
  exact Block.gateJudged_raises before (by decide) (by decide)

end

/-! #### SYNC at a node (R118–R121) -/

section
variable {b : Block}

/-- Missed SYNCs are counted in SyncErrors, no other part of the package. -/
theorem Block.countMissed_frame (b : Block) (nominal : Nat) :
    ∃ d, b.countMissed nominal = b.withDict d ∧ ∀ k, k ≠ Ob.clockSourceSyncErrors → Dict.get k d = b.get k := by
  unfold Block.countMissed
  split
  · extract_lets n
    split
    · exact ⟨b.dict, rfl, fun _ _ => rfl⟩
    · exact ⟨_, rfl, fun _ other => b.get_countUp_other _ _ other⟩
  · exact ⟨b.dict, rfl, fun _ _ => rfl⟩

/-- SYNCs settled as missed change SyncErrors and which SYNC was the last. -/
theorem Block.settleMissed_frame (b : Block) : ∃ d l, b.settleMissed = (b.withDict d).withTb { b.tb with lastSync := l } ∧
    ∀ k, k ≠ Ob.clockSourceSyncErrors → Dict.get k d = b.get k := by
  obtain ⟨d, counted, kept⟩ := b.countMissed_frame b.expectedSync
  refine ⟨d, b.tb.lastSync.map fun l => if syncsBetween l b.expectedSync = 0 then l
    else if b.expectedSync = 0 then (t48 - 1) / 10000 * 10000 else b.expectedSync - 10000, ?_, kept⟩
  rw [Block.settleMissed, counted]
  rfl

/-- A small correction of an aligned node is slewed (R118). -/
theorem Block.judgeSync_small {c : Int} (aligned : b.tbState = tbAligned) (small : c.natAbs ≤ 20000) :
    b.judgeSync c = (b.withTb { b.tb with rejected := 0, slewLeft := subTicks c }).enterTb tbAligned := by
  simp [Block.judgeSync, aligned, small]

theorem Block.judgeSync_small_spec {c : Int} (aligned : b.tbState = tbAligned) (small : c.natAbs ≤ 20000) :
    (b.judgeSync c).get Ob.clockSourceLastCorrection = b.get Ob.clockSourceLastCorrection ∧ (b.judgeSync c).tbState = tbAligned ∧
      (b.judgeSync c).tb = { b.tb with rejected := 0, slewLeft := subTicks c } := by
  have still : (b.withTb { b.tb with rejected := 0, slewLeft := subTicks c }).tbState = tbAligned := aligned
  rw [Block.judgeSync_small aligned small, Block.enterTb_stays still]
  refine ⟨(Block.get_clearLive_below _ (by decide)).trans (Block.get_put_other _ _ (by decide)), ?_, Block.clearLive_tb _ _⟩
  exact (Block.get_clearLive_below _ (by decide)).trans (Block.get_put_self _ _ _)

/-- A SYNC heard at a node whose timebase runs: before it is judged, the count and the comm-loss count alone have changed. -/
theorem sync_heard {t : Nat} (awake : b.awake = true) (node : b.isHead = false) (runs : b.tbState ≠ tbFree) :
    ∃ v, ((b.at t).heard b.link.headSide) = (b.at t).withPower v ∧ (!((b.at t).withPower v).awake || ((b.at t).withPower v).isHead ||
      decide (((b.at t).withPower v).tbState = tbFree)) = false := by
  obtain ⟨v, heard⟩ := (b.at t).heard_frame b.link.headSide
  have up : ((b.at t).withPower v).awake = b.awake := heard ▸ (b.at t).commanded_awake
  have role : ((b.at t).withPower v).isHead = false := node
  have state : ((b.at t).withPower v).tbState ≠ tbFree := runs
  exact ⟨v, heard, by simp [up, awake, role, state]⟩

/-- A SYNC with a delay is judged by its correction from the SYNC announced (R118). -/
theorem sync_judged {t stamp a r : Nat} (awake : b.awake = true) (node : b.isHead = false) (runs : b.tbState ≠ tbFree)
    (delay : b.syncDelay = some a) (reference : b.tb.reference = some r) :
    ∃ c : Block, sync t stamp b = (c.put Ob.clockSourceLastCorrection
        (clampInt (-(2 ^ 31)) (2 ^ 31 - 1) (psDiff ((r : Int) * 1000000 + a) (onGrid stamp)))).judgeSync
          (psDiff ((r : Int) * 1000000 + a) (onGrid stamp)) ∧
      c.tbState = b.tbState ∧ c.tb = { (b.at t).tb with reference := none, lastSync := some r, arrival := a } := by
  obtain ⟨v, heard, listens⟩ := sync_heard (t := t) awake node runs
  obtain ⟨d, counted, kept⟩ := ((b.at t).withPower v).countMissed_frame r
  have delay' : ((b.at t).withPower v).syncDelay = some a := delay
  have reference' : ((b.at t).withPower v).tb.reference = some r := reference
  refine ⟨(((b.at t).withPower v).withDict d).withTb { (b.at t).tb with reference := none, lastSync := some r, arrival := a }, ?_,
    kept _ (by decide), rfl⟩
  simp only [sync, Block.at_link, heard, listens, Bool.false_eq_true, if_false, delay', reference', counted]
  rfl

theorem clampInt_small {c : Int} (small : c.natAbs ≤ 20000) : clampInt (-(2 ^ 31)) (2 ^ 31 - 1) c = c := by
  rw [clampInt, if_neg (by omega), if_neg (by omega)]

/-- An aligned node slews a small correction and stays aligned (R118, R119). -/
theorem sync_slews {s : State} {t stamp a r : Nat} (awake : s.blk.awake = true) (node : s.blk.isHead = false)
    (aligned : s.blk.tbState = tbAligned) (delay : s.blk.syncDelay = some a) (reference : s.blk.tb.reference = some r)
    (small : (psDiff ((r : Int) * 1000000 + a) (onGrid stamp)).natAbs ≤ 20000) : GivesBlock (.sync t stamp) s fun b =>
      b.get Ob.clockSourceLastCorrection = psDiff ((r : Int) * 1000000 + a) (onGrid stamp) ∧ b.tbState = tbAligned ∧
      b.tb.slewLeft = subTicks (psDiff ((r : Int) * 1000000 + a) (onGrid stamp)) ∧ b.tb.rejected = 0 ∧ b.tb.lastSync = some r := by
  obtain ⟨b, judged, state, heard⟩ := sync_judged (t := t) (stamp := stamp) awake node (by rw [aligned]; decide) delay reference
  generalize psDiff ((r : Int) * 1000000 + a) (onGrid stamp) = c at small judged
  rw [clampInt_small small] at judged
  refine ⟨_, rfl, ?_⟩
  have still : (b.put Ob.clockSourceLastCorrection c).tbState = tbAligned :=
    (b.get_put_other c (by decide)).trans (state.trans aligned)
  obtain ⟨correction, after, tb⟩ := Block.judgeSync_small_spec still small
  rw [judged]
  beta_reduce
  rw [tb, Block.put_tb, heard]
  exact ⟨correction.trans (b.get_put_self _ c), after, rfl, rfl, rfl⟩

/-- A turned node that waits for what R120 asks for moves nothing. -/
theorem sync_waits {s : State} {t stamp : Nat} (awake : s.blk.awake = true) (node : s.blk.isHead = false)
    (runs : s.blk.tbState ≠ tbFree) (turned : s.blk.turned = true)
    (lacks : s.blk.link.splitDelays = [] ∨ s.blk.tb.referenced = false) : GivesBlock (.sync t stamp) s fun b =>
      b.tbState = s.blk.tbState ∧ b.tb.reference = none ∧ b.tb.slewLeft = s.blk.tb.slewLeft ∧ b.tb.us = (s.blk.at t).tb.us := by
  obtain ⟨v, heard, listens⟩ := sync_heard (t := t) awake node runs
  have none_yet : s.blk.syncDelay = none := by simp [Block.syncDelay, turned, Block.awaitsSplit_of_turned turned lacks]
  have delay : ((s.blk.at t).withPower v).syncDelay = none := none_yet
  refine ⟨_, rfl, ?_⟩
  simp only [sync, Block.at_link, heard, listens, Bool.false_eq_true, if_false, delay]
  exact ⟨rfl, rfl, rfl, rfl⟩

/-- Three missing SYNCs take an aligned node to HOLDOVER (R119). -/
theorem syncMissing_holds {s : State} {t : Nat} (awake : s.blk.awake = true) (node : s.blk.isHead = false)
    (aligned : s.blk.tbState = tbAligned) : GivesBlock (.syncMissing t) s fun b =>
      b.tbState = tbHoldover ∧ b.tb.rejected = 0 ∧ b.flint.detections = s.blk.flint.detections ++ [⟨0x64, 2, 0, none⟩] := by
  obtain ⟨d, l, settled, -⟩ := (s.blk.at t).settleMissed_frame
  have listens : (!(s.blk.at t).awake || (s.blk.at t).isHead || decide ((s.blk.at t).tbState ≠ tbAligned)) = false := by
    have role : (s.blk.at t).isHead = false := node
    have state : (s.blk.at t).tbState = tbAligned := aligned
    simp [awake, role, state]
  have enters : syncMissing t s.blk = ((s.blk.at t).settleMissed.withTb { (s.blk.at t).settleMissed.tb with rejected := 0 }).enterHoldover := by
    simp only [syncMissing, listens, Bool.false_eq_true, if_false]
  obtain ⟨state, tb, -, -, -⟩ :=
    ((s.blk.at t).settleMissed.withTb { (s.blk.at t).settleMissed.tb with rejected := 0 }).enterHoldover_spec
  refine ⟨_, rfl, ?_⟩
  rw [enters]
  refine ⟨state, congrArg Timebase.rejected tb, (Block.enterHoldover_detections _).trans ?_⟩
  rw [settled]
  rfl

/-- One sub-tick of a slew (R118). -/
theorem slewStep_forward {s : State} (awake : s.blk.awake = true) (left : 0 < s.blk.tb.slewLeft) : GivesBlock .slewStep s fun b =>
    b = s.blk.withTb { s.blk.tb.move 1 with slewLeft := s.blk.tb.slewLeft - 1 } := by
  refine ⟨_, rfl, ?_⟩
  simp [slewStep, awake, left, left.ne']

theorem slewStep_back {s : State} (awake : s.blk.awake = true) (left : s.blk.tb.slewLeft < 0) : GivesBlock .slewStep s fun b =>
    b = s.blk.withTb { s.blk.tb.move (-1) with slewLeft := s.blk.tb.slewLeft + 1 } := by
  refine ⟨_, rfl, ?_⟩
  simp [slewStep, awake, left.ne, not_lt.2 left.le]

end

/-! #### SYNC and the chain reference frame at the head (R116, R117) -/

section
variable {s : State} {t : Nat}

theorem syncSend_pulse (awake : s.blk.awake = true) (head : s.blk.isHead = true) (due : t % t48 % 10000 = 0) {l : List Emission}
    (left : ((s.blk.at t).headPulse .sync).out = s.blk.out ++ l) : GivesBlock (.syncSend t) s fun b => s.blk.out ++ l <+: b.out := by
  have grown := syncSendThen_grows awake head due
  rw [Block.OutGrows, left] at grown
  exact ⟨_, rfl, grown⟩

theorem syncSend_between (off : t % t48 % 10000 ≠ 0) : GivesBlock (.syncSend t) s fun b => b = s.blk.at t :=
  ⟨_, rfl, if_pos (by simp [off])⟩

theorem Block.sendOn_sends {b : Block} {p : Port} {f : List Byte} (sends : b.transmits p = true) :
    (b.sendOn p f).out = b.out ++ [.frame p f] := by
  rw [Block.sendOn, if_pos sends, Block.emit_out]
  split
  · exact congrArg (· ++ [Emission.frame p f]) (b.withPhys_out _)
  · rfl

/-- With the chain whole the reference frame goes out on DU alone (R117). -/
theorem Block.sendReference_whole {b : Block} (whole : b.splitOn = false) :
    b.sendReference = (b.withLink { b.link with broadcasts := (b.link.broadcasts + 1) % 65536 }).sendOn .du
      (frameOf (headerOf 4 0 0 0 b.link.broadcasts) ([0x01#8] ++ bytesOf 1 0 ++ bytesOf 2 (b.nat Ob.censusResultCensusNumber) ++
        bytesOf 6 (nextSyncAt b.now) ++ bytesOf 6 0)) := by
  have stays : b.link.split.isSome = false := whole
  simp [Block.sendReference, Block.splitOn, stays, boolNat]

theorem Block.sendReference_spec {b : Block} (du : b.transmits .du = true) (whole : b.splitOn = false) :
    b.sendReference.out = b.out ++ [.frame .du (frameOf (headerOf 4 0 0 0 b.link.broadcasts) ([0x01#8] ++ bytesOf 1 0 ++
        bytesOf 2 (b.nat Ob.censusResultCensusNumber) ++ bytesOf 6 (nextSyncAt b.now) ++ bytesOf 6 0))] ∧
      b.sendReference.link.broadcasts = (b.link.broadcasts + 1) % 65536 ∧ b.sendReference.dict = b.dict := by
  rw [Block.sendReference_whole whole, Block.sendOn_link, Block.withLink_link, Block.sendOn_dict, Block.withLink_dict]
  exact ⟨Block.sendOn_sends du, rfl, rfl⟩

theorem chainReferenceSend_sends (awake : s.blk.awake = true) (head : s.blk.isHead = true) (free : s.blk.link.round = none)
    (du : s.blk.transmits .du = true) (whole : s.blk.splitOn = false) : GivesBlock (.chainReferenceSend t) s fun b =>
      b.out = s.blk.out ++ [.frame .du (frameOf (headerOf 4 0 0 0 s.blk.link.broadcasts) ([0x01#8] ++ bytesOf 1 0 ++
        bytesOf 2 (s.blk.nat Ob.censusResultCensusNumber) ++ bytesOf 6 (nextSyncAt (t % t48)) ++ bytesOf 6 0))] ∧
      b.link.broadcasts = (s.blk.link.broadcasts + 1) % 65536 ∧ b.dict = s.blk.dict := by
  have sends : chainReferenceSend t s.blk = (s.blk.at t).sendReference := by
    simp [chainReferenceSend, awake, head, free]
  refine ⟨_, rfl, ?_⟩
  rw [sends]
  exact Block.sendReference_spec (b := s.blk.at t) du whole

end

/-! #### The chain reference frame at a node (R117–R121, R341) -/

section
variable {b : Block} {p : Port} {next : Nat}

/-- The head-side port turned, before the timebase heeds it. -/
def Block.facing (b : Block) (p : Port) : Block :=
  ((b.withLink { b.link with headSide := p, splitDelays := [] }).withTb { b.tb with reference := none, referenced := false }).putAll
    [(Ob.hopDelaySplitDelay, 0), (Ob.clockSourceSource, sourceOf p)]

theorem Block.facing_link : (b.facing p).link = { b.link with headSide := p, splitDelays := [] } := Block.putAll_link _ _
theorem Block.facing_power : (b.facing p).power = b.power := Block.putAll_power _ _
theorem Block.facing_source : (b.facing p).get Ob.clockSourceSource = sourceOf p := Block.get_put_self _ Ob.clockSourceSource _

theorem Block.facing_get {k : Nat} (h1 : k ≠ Ob.hopDelaySplitDelay) (h2 : k ≠ Ob.clockSourceSource) : (b.facing p).get k = b.get k :=
  Block.get_putAll_other _ _ (by simp [h1, h2])

theorem Block.turnTo_dl (other : b.link.headSide ≠ .dl) : b.turnTo .dl = (b.facing .dl).switchReference (sourceOf .dl) := if_neg other

theorem Block.turnTo_du (other : b.link.headSide ≠ .du) : ∃ c : Block, c.link = (b.facing .du).link ∧ c.power = (b.facing .du).power ∧
    (∀ k, c.get k = (b.facing .du).get k) ∧ b.turnTo .du = (if c.tbState = tbHoldover then c else c.enterHoldover) := by
  obtain ⟨w, spoiled⟩ := (b.facing .du).spoilRunning_frame
  refine ⟨(b.facing .du).withWin w, Block.withWin_link _ _, Block.withWin_power _ _, fun _ => rfl, ?_⟩
  rw [← spoiled]
  exact if_neg other

/-- The state of the timebase of a node that has turned (R120, R341). -/
def turnedState : Port → Int
  | .dl => tbAcquiring
  | .du => tbHoldover

/-- The node turns its head-side port: toward DL it acquires, toward DU it waits in HOLDOVER (R120, R341). -/
theorem Block.turnTo_spec (other : b.link.headSide ≠ p) :
    (b.turnTo p).link = { b.link with headSide := p, splitDelays := [] } ∧ (b.turnTo p).get Ob.clockSourceSource = sourceOf p ∧
      (b.turnTo p).tbState = turnedState p ∧ (b.turnTo p).power = b.power ∧
      ∀ k, k ≠ Ob.hopDelaySplitDelay → k ≠ Ob.clockSourceSource → k ≠ Ob.clockSourceTimebaseState → (b.turnTo p).get k = b.get k := by
  cases p with
  | dl =>
    obtain ⟨source, state, -, link, power, kept⟩ := (b.facing .dl).switchReference_spec (sourceOf .dl)
    have straight : (b.facing .dl).awaitsSplit = false := by simp [Block.awaitsSplit, Block.turned, Block.facing_link]
    rw [straight] at state
    rw [Block.turnTo_dl other]
    exact ⟨link.trans Block.facing_link, source, state, power.trans Block.facing_power,
      fun k h1 h2 h3 => (kept k h2 h3).trans (Block.facing_get h1 h2)⟩
  | du =>
    obtain ⟨c, link, power, entries, turned⟩ := Block.turnTo_du other
    have kept : ∀ k, k ≠ Ob.hopDelaySplitDelay → k ≠ Ob.clockSourceSource → c.get k = b.get k :=
      fun k h1 h2 => (entries k).trans (Block.facing_get h1 h2)
    have source := (entries _).trans Block.facing_source
    rw [turned]
    split
    · next held => exact ⟨link.trans Block.facing_link, source, held, power.trans Block.facing_power, fun k h1 h2 _ => kept k h1 h2⟩
    · obtain ⟨state, -, link', power', kept'⟩ := c.enterHoldover_spec
      exact ⟨link'.trans (link.trans Block.facing_link), (kept' _ (by decide)).trans source, state, power'.trans (power.trans Block.facing_power),
        fun k h1 h2 h3 => (kept' k h3).trans (kept k h1 h2)⟩

/-- The chain reference frame noted: the SYNCs missed before a NextSync that differs are settled, and the next SYNC is announced (R117, R121). -/
def Block.announced (b : Block) (next : Nat) : Block :=
  let c := if next % t48 != b.expectedSync then b.settleMissed else b
  c.withTb { c.tb with
    reference := some (next % t48), referenced := true, lastSync := if next % t48 != b.expectedSync then none else c.tb.lastSync }

theorem Block.announced_spec (b : Block) (next : Nat) : (b.announced next).tb.reference = some (next % t48) ∧
    (b.announced next).tb.referenced = true ∧ (b.announced next).link = b.link ∧ (b.announced next).power = b.power ∧
    ∀ k, k ≠ Ob.clockSourceSyncErrors → (b.announced next).get k = b.get k := by
  obtain ⟨d, l, settled, kept⟩ := b.settleMissed_frame
  refine ⟨rfl, rfl, ?_⟩
  unfold Block.announced
  extract_lets c
  split
  · have e : c = b.settleMissed := if_pos ‹_›
    rw [e, settled]
    exact ⟨rfl, rfl, kept⟩
  · have e : c = b := if_neg ‹_›
    rw [e]
    exact ⟨rfl, rfl, fun _ _ => rfl⟩

/-- On the head-side port the frame is noted; a node that is aligned, or in HOLDOVER with all that R120 asks for, may acquire again. -/
theorem chainReference_on_side (awake : b.awake = true) (node : b.isHead = false) (positioned : b.positioned = true)
    (side : b.link.headSide = p) : chainReference p next b = b.announced next ∨
      (b.announced next).tbState ≠ tbAcquiring ∧ ((b.announced next).tbState = tbHoldover → (b.announced next).awaitsSplit = false) ∧
        chainReference p next b = ((b.announced next).withTb { (b.announced next).tb with slewLeft := 0, rejected := 0 }).enterTb tbAcquiring := by
  have takes : (!b.awake || b.isHead || !b.positioned) = false := by simp [awake, node, positioned]
  have straight : (if b.on Ob.ringMode then b.turnTo p else b) = b := by
    rw [Block.turnTo, if_pos side, ite_self]
  have noted : chainReference p next b = (if (next % t48 != b.expectedSync) && ((b.announced next).tbState = tbAligned ||
      ((b.announced next).tbState = tbHoldover && !(b.announced next).awaitsSplit)) then
        ((b.announced next).withTb { (b.announced next).tb with slewLeft := 0, rejected := 0 }).enterTb tbAcquiring
      else b.announced next) := by
    unfold chainReference
    rw [takes, straight]
    exact if_neg (not_not.2 side)
  rw [noted]
  split
  · next again =>
    refine .inr ⟨?_, ?_, rfl⟩
    · intro acquiring
      simp [acquiring] at again
    · intro held
      simpa [held] using (Bool.and_eq_true_iff.1 again).2
  · exact .inl rfl

/-- It announces the next SYNC (R117); a node that acquires, or waits for what R120 asks for, keeps its state. -/
theorem chainReference_taken (awake : b.awake = true) (node : b.isHead = false) (positioned : b.positioned = true)
    (side : b.link.headSide = p) :
    (chainReference p next b).tb.reference = some (next % t48) ∧ (chainReference p next b).tb.referenced = true ∧
      (chainReference p next b).link = b.link ∧ (chainReference p next b).power = b.power ∧
      (chainReference p next b).get Ob.clockSourceSource = b.get Ob.clockSourceSource ∧
      ((b.tbState = tbAcquiring ∨ b.tbState = tbHoldover ∧ b.turned = true ∧ b.link.splitDelays = []) →
        (chainReference p next b).tbState = b.tbState) := by
  obtain ⟨reference, referenced, link, power, kept⟩ := b.announced_spec next
  have source := kept Ob.clockSourceSource (by decide)
  have state : (b.announced next).tbState = b.tbState := kept Ob.clockSourceTimebaseState (by decide)
  obtain noted | ⟨settled, ready, again⟩ := chainReference_on_side (next := next) awake node positioned side
  · rw [noted]
    exact ⟨reference, referenced, link, power, source, fun _ => state⟩
  · rw [again, Block.enterTb_unaligned (by decide)]
    refine ⟨reference, referenced, link, power, (Block.get_put_other (l := Ob.clockSourceSource)
      (k := Ob.clockSourceTimebaseState) (b.announced next) tbAcquiring (by decide)).trans source, ?_⟩
    rintro (acquiring | ⟨held, turned, none_yet⟩)
    · exact absurd (state.trans acquiring) settled
    · have faces : (b.announced next).turned = true := by
        rw [Block.turned, Block.isHead, kept _ (by decide), link]
        exact turned
      have waits : (b.announced next).awaitsSplit = true := Block.awaitsSplit_of_turned faces (.inl (by rw [link, none_yet]))
      rw [ready (state.trans held)] at waits
      exact absurd waits Bool.false_ne_true

theorem chainReference_on_headSide {s : State} {split : Bool} {census : Nat} (awake : s.blk.awake = true) (node : s.blk.isHead = false)
    (positioned : s.blk.positioned = true) (side : s.blk.link.headSide = p) : GivesBlock (.chainReference p split census next) s fun b =>
      b.tb.reference = some (next % t48) ∧ b.tb.referenced = true ∧ b.link = s.blk.link ∧ b.power = s.blk.power := by
  obtain ⟨reference, referenced, link, power, -, -⟩ := chainReference_taken (next := next) awake node positioned side
  exact ⟨_, rfl, reference, referenced, link, power⟩

/-- In ring mode the node first turns to the port it came on (R341). -/
theorem chainReference_turns (awake : b.awake = true) (node : b.isHead = false) (positioned : b.positioned = true)
    (ring : b.on Ob.ringMode = true) (turnedAwake : (b.turnTo p).awake = true) (turnedNode : (b.turnTo p).isHead = false)
    (turnedPositioned : (b.turnTo p).positioned = true) (side : (b.turnTo p).link.headSide = p) :
    chainReference p next b = chainReference p next (b.turnTo p) := by
  have takes : (!b.awake || b.isHead || !b.positioned) = false := by simp [awake, node, positioned]
  have takes' : (!(b.turnTo p).awake || (b.turnTo p).isHead || !(b.turnTo p).positioned) = false := by
    simp [turnedAwake, turnedNode, turnedPositioned]
  have straight : (if (b.turnTo p).on Ob.ringMode then (b.turnTo p).turnTo p else b.turnTo p) = b.turnTo p := by
    rw [Block.turnTo.eq_def (b.turnTo p), if_pos side, ite_self]
  unfold chainReference
  rw [takes, takes', straight, ring]
  rfl

theorem chainReference_off_headSide {s : State} {split : Bool} {census : Nat} (awake : s.blk.awake = true) (node : s.blk.isHead = false)
    (positioned : s.blk.positioned = true) (ring : s.blk.on Ob.ringMode = true) (other : s.blk.link.headSide ≠ p) :
    GivesBlock (.chainReference p split census next) s fun b =>
      b.link = { s.blk.link with headSide := p, splitDelays := [] } ∧ b.get Ob.clockSourceSource = sourceOf p ∧
      b.tb.reference = some (next % t48) ∧ b.tb.referenced = true ∧
      b.tbState = turnedState p := by
  obtain ⟨link, source, state, power, kept⟩ := Block.turnTo_spec other
  have side : (s.blk.turnTo p).link.headSide = p := by rw [link]
  have up : (s.blk.turnTo p).awake = true := by rw [Block.awake, power]; exact awake
  have role : (s.blk.turnTo p).isHead = false := by
    rw [Block.isHead, kept _ (by decide) (by decide) (by decide)]
    exact node
  have placed : (s.blk.turnTo p).positioned = true := by
    rw [Block.positioned, kept _ (by decide) (by decide) (by decide)]
    exact positioned
  obtain ⟨reference, referenced, link', -, source', still⟩ := chainReference_taken (next := next) up role placed side
  refine ⟨_, rfl, ?_⟩
  rw [chainReference_turns awake node positioned ring up role placed side]
  refine ⟨link'.trans link, source'.trans source, reference, referenced, (still ?_).trans state⟩
  cases p with
  | dl => exact .inl state
  | du => exact .inr ⟨state, by simp [Block.turned, role, link], by rw [link]⟩

/-- Out of ring mode a frame on the other port is none of its own (R341). -/
theorem chainReference_ignored {s : State} {split : Bool} {census : Nat} (ring : s.blk.on Ob.ringMode = false)
    (other : s.blk.link.headSide ≠ p) : GivesBlock (.chainReference p split census next) s fun b => b = s.blk := by
  refine ⟨_, rfl, ?_⟩
  unfold chainReference
  rw [ring]
  split
  · rfl
  · exact if_pos other

end

/-- Settles O7: each clause is a lemma above. -/
theorem chainClock : Obligations.ChainClock := by
  unfold Obligations.ChainClock
  refine ⟨⟨?_, ?_, ?_, ?_, ?_, ?_⟩, ?_, ?_, ?_, ?_, ?_, ?_, ?_, ?_, ?_, ?_, ?_, ?_⟩
  · exact fun s p awake node side other straight => pllReferenceSwitch_gives awake node side other (by rw [straight]; rfl)
  · exact fun s p awake node side other turned lacks =>
      pllReferenceSwitch_gives awake node side other (by rw [Block.awaitsSplit_of_turned turned lacks]; rfl)
  · exact fun s p _ _ _ same => pllReferenceSwitch_same same
  · exact fun s p awake node side same aligned => symbolLockLoss_holds awake node side same aligned
  · exact fun s k count monitored other bad before => clockMonitorGate_finds monitored other bad before
  · exact fun s count awake runs bad before => faultRcCheck_finds awake runs bad before
  · exact fun s t stamp a r awake node aligned delay reference small => sync_slews awake node aligned delay reference small
  · exact fun s t stamp r awake node runs turned lacks _ => sync_waits awake node runs turned lacks
  · exact fun s t awake node aligned => syncMissing_holds awake node aligned
  · exact fun s awake left => slewStep_forward awake left
  · exact fun s awake left => slewStep_back awake left
  · exact fun s t awake head due du whole => syncSend_pulse awake head due (Block.headPulse_out (b := s.blk.at t) du whole)
  · exact fun s t awake head due du split dl => syncSend_pulse awake head due (Block.headPulse_out_split (b := s.blk.at t) du split dl)
  · exact fun s t off => syncSend_between off
  · exact fun s t awake head free du whole => chainReferenceSend_sends awake head free du whole
  · exact fun s p split census next awake node positioned side => chainReference_on_headSide awake node positioned side
  · intro s p split census next awake node positioned ring other
    cases p with
    | dl => exact chainReference_off_headSide awake node positioned ring other
    | du => exact chainReference_off_headSide awake node positioned ring other
  · exact fun s p split census next ring other => chainReference_ignored ring other

end Sys2Proof.Machine
end

section
/-! ### The head's commands (R116, R318, R319, R331) -/

namespace Sys2Proof.Machine

/-! #### The end of the one command outstanding (R318, R319) -/

section
variable {b : Block} {c : Outstanding} {p seq : Nat} {payload : List Byte}

theorem Block.sentTo_only (only : b.link.commands = [c]) (position : c.position = p) (sent : c.seq = some seq) : b.sentTo p = some c := by
  simp [Block.sentTo, only, position, sent]

theorem Block.dispatch_none (ended : b.link.commands = []) : b.dispatch = b := by
  simp [Block.dispatch, ended]

/-- The command list without the one command in it. -/
theorem filter_only (c : Outstanding) : [c].filter (fun y => !(y.position == c.position && y.seq == c.seq)) = [] := by
  simp

/-- No command is outstanding any more. -/
def Block.silentChain (b : Block) : Block := b.withLink { b.link with commands := [] }

/-- A configuration check ends (R331). -/
theorem Block.commandDone_check (only : b.link.commands = [c]) (waiter : c.waiter = .configCheck) (x : Option Reply) :
    b.commandDone c x = b.silentChain.checkDone c.position x := by
  simp only [Block.commandDone, only, filter_only, waiter]
  exact Block.dispatch_none rfl

/-- A host's command to a position ends on SPI, whose answer waits in the slot. -/
theorem Block.commandDone_spi {r : Running} (only : b.link.commands = [c]) (waiter : c.waiter = .host .spi)
    (executing : b.host.spi.executing = some r) (single : r.job = .single) (y : Reply) :
    (b.commandDone c (some y)).link.commands = [] ∧ Answered (b.commandDone c (some y)) .spi r.header r.data (y.result y.data) := by
  have runs : (b.silentChain.hostPort .spi).executing = some r := executing
  have replies : b.silentChain.hostReply .spi (some y) =
      b.silentChain.answerHost .spi (y.result y.data) := by
    simp [Block.hostReply, runs, single]
  have ended : (b.silentChain.answerHost .spi (y.result y.data)).link.commands = [] :=
    congrArg Link.commands (Block.Serves.refl _).answerHost.link
  have ends : b.commandDone c (some y) = b.silentChain.answerHost .spi (y.result y.data) := by
    simp only [Block.commandDone, only, filter_only, waiter]
    exact (congrArg Block.dispatch replies).trans (Block.dispatch_none ended)
  rw [ends]
  exact ⟨ended, (Block.answerHost_answered runs _).1⟩

/-- A valid response ends the command (R318). -/
theorem response_ends (awake : b.awake = true) (head : b.isHead = true) (only : b.link.commands = [c]) (position : c.position = p)
    (sent : c.seq = some seq) (valid : responseOk c payload = true) : response p seq payload b = b.commandDone c (some (replyIn payload)) := by
  simp [response, awake, head, Block.sentTo_only only position sent, sent, valid, Option.filter]

/-- Whether a response refuses is its status (R318). -/
theorem replyIn_abort (payload : List Byte) : (replyIn payload).abort.isSome = decide (field payload 7 1 ≠ 0) := by
  by_cases done : field payload 7 1 = 0 <;> simp [replyIn, done]

end

section
variable {s : State} {p seq : Nat} {payload : List Byte} {c : Outstanding} {w : HeadWrite}

theorem response_endsCheck (awake : s.blk.awake = true) (head : s.blk.isHead = true) (only : s.blk.link.commands = [c])
    (position : c.position = p) (sent : c.seq = some seq) (waiter : c.waiter = .configCheck) (valid : responseOk c payload = true)
    (waits : s.blk.link.headWrite = some w) : GivesBlock (.response p seq payload) s fun b =>
      b.link.commands = [] ∧ b.dict = s.blk.dict ∧ b.link.headWrite = some { w with
        waiting := w.waiting.filter (· != p), refused := w.refused || decide (field payload 7 1 ≠ 0) } := by
  refine ⟨_, rfl, ?_⟩
  rw [response_ends awake head only position sent valid, Block.commandDone_check only waiter, position]
  have kept : s.blk.silentChain.link.headWrite = some w := waits
  refine ⟨rfl, rfl, ?_⟩
  simp [Block.checkDone, kept, replyIn_abort]

theorem response_answersHost {r : Running} (awake : s.blk.awake = true) (head : s.blk.isHead = true) (only : s.blk.link.commands = [c])
    (position : c.position = p) (sent : c.seq = some seq) (waiter : c.waiter = .host .spi) (valid : responseOk c payload = true)
    (done : field payload 7 1 = 0) (executing : s.blk.host.spi.executing = some r) (single : r.job = .single) :
    GivesBlock (.response p seq payload) s fun b => b.link.commands = [] ∧ Answered b .spi r.header r.data (.done (payload.drop 8)) := by
  have result : (replyIn payload).result (replyIn payload).data = .done (payload.drop 8) := by simp [replyIn, done, Reply.result]
  refine ⟨_, rfl, ?_⟩
  rw [response_ends awake head only position sent valid, ← result]
  exact Block.commandDone_spi only waiter executing single _

end

/-! #### A command without an answer (R116, R319) -/

section
variable {b : Block} {c : Outstanding} {p seq : Nat}

theorem commandTimeout_again (awake : b.awake = true) (head : b.isHead = true) (only : b.link.commands = [c]) (position : c.position = p)
    (sent : c.seq = some seq) : commandTimeout p b = b.commandAgain c := by
  simp [commandTimeout, awake, head, Block.sentTo_only only position sent]

/-- The room before the next SYNC is seen in the count and the line (R116). -/
theorem Block.syncRoom_congr {d : Block} {n : Nat} (tb : d.tb = b.tb) (phys : d.phys = b.phys) : d.syncRoom n = b.syncRoom n := by
  rw [Block.syncRoom, Block.duBusy, Block.now, tb, phys]
  rfl

/-- A count in 32 bits changes its own entry alone. -/
theorem Block.count32_frame (b : Block) (k : Nat) : ∃ d, b.count32 k = b.withDict d ∧ (b.withDict d).nat k = min (b.nat k + 1) (2 ^ 32 - 1) ∧
    ∀ j, j ≠ k → (b.withDict d).get j = b.get j :=
  ⟨_, rfl, b.nat_countUp_self k 1 _, fun _ other => b.get_countUp_other 1 _ other⟩

/-- Whether a port's transmitter runs is seen in the port's state. -/
theorem Block.transmits_congr {d : Block} (dl : d.get Ob.portStatusDlState = b.get Ob.portStatusDlState)
    (du : d.get Ob.portStatusDuState = b.get Ob.portStatusDuState) (q : Port) : d.transmits q = b.transmits q := by
  cases q with
  | dl => exact congrArg (fun v : Int => decide (2 ≤ v)) dl
  | du => exact congrArg (fun v : Int => decide (2 ≤ v)) du

/-- Up to the fourth attempt the command goes out again, now or behind a SYNC that is near. -/
theorem Block.commandAgain_retries (only : b.link.commands = [c]) (few : c.attempts < 4) :
    b.commandAgain c =
      (let d := (b.count32 Ob.linkCountersCommandRetries).withLink { b.link with
        commands := [{ c with attempts := c.attempts + 1, held := !b.syncRoom (frameTime c.payload) }] }
      if b.syncRoom (frameTime c.payload) then d.sendCommand c.position (c.seq.getD 0) c.payload else d) := by
  obtain ⟨d, counted, -, -⟩ := b.count32_frame Ob.linkCountersCommandRetries
  have room : ∀ l n, ((b.withDict d).withLink l).syncRoom n = b.syncRoom n := fun _ _ => Block.syncRoom_congr rfl rfl
  have room' : ∀ n, (b.withDict d).syncRoom n = b.syncRoom n := fun _ => Block.syncRoom_congr rfl rfl
  simp [Block.commandAgain, few, only, room, room', counted]

theorem Block.commandAgain_fails (only : b.link.commands = [c]) (waiter : c.waiter = .configCheck) (spent : 4 ≤ c.attempts) :
    b.commandAgain c = (b.count32 Ob.linkCountersCommandFailures).silentChain.checkDone c.position none := by
  rw [Block.commandAgain, if_neg (by omega), Block.commandDone_check (by rw [Block.count32_link, only]) waiter, Block.silentChain]

end

section
variable {s : State} {p seq : Nat} {c : Outstanding} {w : HeadWrite}

theorem commandTimeout_retries (awake : s.blk.awake = true) (head : s.blk.isHead = true) (only : s.blk.link.commands = [c])
    (position : c.position = p) (sent : c.seq = some seq) (few : c.attempts < 4) (sends : s.blk.transmits (s.blk.portFor p) = true) :
    GivesBlock (.commandTimeout p) s fun b =>
      b.nat Ob.linkCountersCommandRetries = min (s.blk.nat Ob.linkCountersCommandRetries + 1) (2 ^ 32 - 1) ∧
      b.link.commands = [{ c with attempts := c.attempts + 1, held := !s.blk.syncRoom (frameTime c.payload) }] ∧
      b.out = s.blk.out ++ (if s.blk.syncRoom (frameTime c.payload) then
        [.frame (s.blk.portFor p) (frameOf (headerOf 2 p 0 0 seq) c.payload)] else []) := by
  obtain ⟨d, counted, retries, others⟩ := s.blk.count32_frame Ob.linkCountersCommandRetries
  refine ⟨_, rfl, ?_⟩
  rw [commandTimeout_again awake head only position sent, Block.commandAgain_retries only few, counted]
  extract_lets _ e
  have sends' : e.transmits (s.blk.portFor p) = true :=
    (Block.transmits_congr (d := e) (others _ (by decide)) (others _ (by decide)) _).trans sends
  have way : e.portFor p = s.blk.portFor p := rfl
  split
  · beta_reduce
    rw [Block.sendCommand, Block.sendOn_link, position, sent, way]
    exact ⟨(Block.nat_of_get (Block.get_of_dict (e.sendOn_dict _ _) _)).trans retries, by rw [← position, ← sent]; rfl,
      Block.sendOn_sends sends'⟩
  · exact ⟨retries, rfl, (List.append_nil _).symm⟩

theorem commandTimeout_fails (awake : s.blk.awake = true) (head : s.blk.isHead = true) (only : s.blk.link.commands = [c])
    (position : c.position = p) (sent : c.seq = some seq) (spent : 4 ≤ c.attempts) (waiter : c.waiter = .configCheck)
    (waits : s.blk.link.headWrite = some w) : GivesBlock (.commandTimeout p) s fun b =>
      b.nat Ob.linkCountersCommandFailures = min (s.blk.nat Ob.linkCountersCommandFailures + 1) (2 ^ 32 - 1) ∧ b.link.commands = [] ∧
      b.link.headWrite = some { w with waiting := w.waiting.filter (· != p), failed := true } := by
  obtain ⟨d, counted, failures, -⟩ := s.blk.count32_frame Ob.linkCountersCommandFailures
  have kept : (s.blk.withDict d).silentChain.link.headWrite = some w := waits
  refine ⟨_, rfl, ?_⟩
  rw [commandTimeout_again awake head only position sent, Block.commandAgain_fails only waiter spent, position, counted]
  refine ⟨failures, rfl, ?_⟩
  simp [Block.checkDone, kept]

end

/-! #### A write that has waited for its positions (R331) -/

section
variable {s : State} {w : HeadWrite}

/-- Every position has ended its check. -/
theorem headWrite_ended (waits : s.blk.link.headWrite = some w) (ended : w.waiting = []) :
    (s.blk.link.headWrite.filter fun w => w.waiting.isEmpty) = some w := by
  simp [waits, ended]

/-- No write of the head's own waits. -/
def Block.writeTaken (b : Block) : Block := b.withLink { b.link with headWrite := none }

/-- A refusal is the first to be answered. -/
theorem headConfigChecksDone_refused (awake : s.blk.awake = true) (waits : s.blk.link.headWrite = some w) (ended : w.waiting = [])
    (own : w.requester = none) (refused : w.refused = true) : GivesBlock .headConfigChecksDone s fun b =>
      b.link.headWrite = none ∧ b.dict = s.blk.dict ∧ b.out = s.blk.out ++ [.answer (some 0x0608)] := by
  have answers : headConfigChecksDone s.blk = s.blk.writeTaken.emit (.answer (some 0x0608)) := by
    simp [headConfigChecksDone, headWrite_ended waits ended, awake, refused, Block.headWriteOver, own, Block.writeTaken]
  refine ⟨_, rfl, ?_⟩
  rw [answers]
  exact ⟨rfl, rfl, rfl⟩

/-- Then a position that did not answer. -/
theorem headConfigChecksDone_failed (awake : s.blk.awake = true) (waits : s.blk.link.headWrite = some w) (ended : w.waiting = [])
    (own : w.requester = none) (kept : w.refused = false) (failed : w.failed = true) : GivesBlock .headConfigChecksDone s fun b =>
      b.link.headWrite = none ∧ b.dict = s.blk.dict ∧ b.out = s.blk.out ++ [.chainFail] := by
  have fails : headConfigChecksDone s.blk = s.blk.writeTaken.emit .chainFail := by
    simp [headConfigChecksDone, headWrite_ended waits ended, awake, kept, failed, Block.headWriteOver, own, Block.writeTaken]
  refine ⟨_, rfl, ?_⟩
  rw [fails]
  exact ⟨rfl, rfl, rfl⟩

/-- A change of keeper leaves the link alone (R174). -/
theorem Block.keeperMoved_link (b : Block) (was : Bool) : (b.keeperMoved was).link = b.link := by
  unfold Block.keeperMoved
  extract_lets b1
  split
  · rfl
  · split
    · rfl
    · rfl

/-- What a head sends for its chain touches no write of its own that waits (R331). -/
theorem Block.sendChainConfig_headWrite (b : Block) : b.sendChainConfig.link.headWrite = b.link.headWrite := by
  unfold Block.sendChainConfig Block.broadcast
  split
  · rfl
  · extract_lets f _ b1 b2
    split
    · rw [Block.sendOn_link, Block.sendOn_link, Block.withLink_link]
    · rw [Block.sendOn_link, Block.withLink_link]

/-- The completion of a write touches no write that waits. -/
theorem Block.applyWrite_headWrite (b : Block) (o : Obj) (sl : List (Nat × Entry × List Byte)) :
    (b.applyWrite o sl).link.headWrite = (b.applySlices o.ix sl).link.headWrite := by
  unfold Block.applyWrite
  extract_lets b1 _ b2 b3
  have h2 : b2.link = (b.applySlices o.ix sl).link := Block.snoopCfg_link _ _ _
  rw [Block.noteEdges_link]
  unfold b3
  split
  · rw [Block.sendChainConfig_headWrite, h2]
  · rw [h2]

theorem headConfigChecksDone_applied {o : Obj} {sl : List (Nat × Entry × List Byte)} {v : Int} (awake : s.blk.awake = true)
    (waits : s.blk.link.headWrite = some w) (ended : w.waiting = []) (own : w.requester = none) (kept : w.refused = false)
    (passed : w.failed = false) (index : w.ix = 0x2032)
    (checked : (s.blk.withLink { s.blk.link with headWrite := none }).checkWrite w.ix w.sub w.data longest = .ok (o, sl))
    (decoded : decodeSlices 0x2032 sl = [(Ob.currentKeeper, v)]) : GivesBlock .headConfigChecksDone s fun b =>
      b.link.headWrite = none ∧ b.get Ob.currentKeeper = v := by
  have index' : o.ix = 0x2032 := (findObj_ix (Block.writeTarget_ok (Block.checkWrite_ok checked).1).1).trans index
  have applies : headConfigChecksDone s.blk = (s.blk.writeTaken.applyWrite o sl).emit (.answer none) := by
    simp [headConfigChecksDone, headWrite_ended waits ended, awake, kept, passed, checked, Block.headWriteOver, own, Block.writeTaken]
  have effect : s.blk.writeTaken.applySlices o.ix sl = (s.blk.writeTaken.put Ob.currentKeeper v).keeperMoved s.blk.writeTaken.isKeeper := by
    rw [index', Block.applySlices, if_neg (by decide), if_neg (by decide), decoded]
    rfl
  have done := Block.Completes.applyWrite s.blk.writeTaken o sl
  rw [effect] at done
  refine ⟨_, rfl, ?_⟩
  rw [applies]
  beta_reduce
  rw [Block.emit_link, Block.emit_get, Block.applyWrite_headWrite, effect, Block.keeperMoved_link,
    done.get _ (by decide), Block.get_keeperMoved_other _ _ (by decide) (by decide), Block.get_put_self]
  exact ⟨rfl, rfl⟩

end

/-- Settles O36: each clause is a lemma above. -/
theorem headCommands : Obligations.HeadCommands :=
  ⟨fun _ _ _ _ _ _ awake head only position sent waiter valid waits => response_endsCheck awake head only position sent waiter valid waits,
    fun _ _ _ _ _ _ awake head only position sent waiter valid done executing single =>
      response_answersHost awake head only position sent waiter valid done executing single,
    fun _ _ _ _ awake head only position sent few sends => commandTimeout_retries awake head only position sent few sends,
    fun _ _ _ _ _ awake head only position sent spent waiter waits => commandTimeout_fails awake head only position sent spent waiter waits,
    fun _ _ awake waits ended own refused => headConfigChecksDone_refused awake waits ended own refused,
    fun _ _ awake waits ended own kept failed => headConfigChecksDone_failed awake waits ended own kept failed,
    fun _ _ _ _ _ awake waits ended own kept passed index checked decoded =>
      headConfigChecksDone_applied awake waits ended own kept passed index checked decoded⟩

end Sys2Proof.Machine
end

section
/-! ### Triggers during a refresh of the delays (R314)

A refresh lies between trains: a class other than SNAP that is triggered while it runs waits for its end, whether the schedule or the host
asks. The clauses on a class that starts at once do not exclude a refresh. -/

namespace Sys2Proof.Machine

/-- A head of a chain of three in Standby, TEMPS scheduled each millisecond, that has begun a refresh of the delays at 900 us. -/
def refreshingHead : State :=
  ⟨[], delayRefresh 900 ((Block.fresh Fuses.model .standby).putAll [(Ob.role, 2), (Ob.position, 0), (Ob.portStatusDuState, 4),
    (Ob.censusResultTop, 3), (Ob.spiConfigEnable, 1), (Ob.streamScheduleTemps, 2 * 2 ^ 24 + 1)]), []⟩

/-- While the refresh runs TEMPS is due at 1,000 us, and there is room for it before the next SYNC. -/
theorem refreshingHead_due : refreshingHead.blk.refreshing = true ∧ (refreshingHead.blk.at 1000).due 3 = true ∧
    (refreshingHead.blk.at 1000).syncRoom (triggerTime 3) = true := by decide

/-- The trigger due waits for the end of the refresh, and no train opens (R314). -/
theorem refreshingHead_schedules :
    (scheduledTrigger .temps 1000 refreshingHead.blk).link.waiting = [3] ∧
      (scheduledTrigger .temps 1000 refreshingHead.blk).link.trains = [] := by decide

theorem refreshingHead_ready : Ready refreshingHead.blk .spi := by
  refine ⟨?_, ?_, ?_, ?_, ?_⟩ <;> decide

/-- The host's trigger waits for it too, its command in execution. -/
theorem refreshingHead_triggers :
    (hostCommand .spi 0x10 0 0 0 (bytesOf 1 3) [] refreshingHead.blk).link.hostTriggers = [(.spi, 3)] ∧
      (hostCommand .spi 0x10 0 0 0 (bytesOf 1 3) [] refreshingHead.blk).link.trains = [] := by decide

/-- Refutes O37: the clause on a scheduled trigger that starts a train admits a head that refreshes its delays; at `refreshingHead` TEMPS waits
instead (R314). -/
theorem not_headTrains : ¬ Obligations.HeadTrains := by
  intro ⟨starts, _⟩
  obtain ⟨-, due, room⟩ := refreshingHead_due
  obtain ⟨⟨x, opened, -⟩, -⟩ := (starts refreshingHead .temps 1000 (by decide) (by decide) (by decide) (by decide) due
    (by decide) (by decide) (by decide) room (by decide) (by decide)).of_onBlock (f := scheduledTrigger .temps 1000) rfl
  obtain ⟨-, nothing⟩ := refreshingHead_schedules
  exact List.append_ne_nil_of_right_ne_nil _ (List.cons_ne_nil x []) (opened.symm.trans nothing)

/-- Refutes O42: the clause on a free class that the host triggers admits a head that refreshes its delays; at `refreshingHead` the command stays
in execution instead (R314). -/
theorem not_hostStreams : ¬ Obligations.HostStreams := by
  intro ⟨starts, _⟩
  obtain ⟨b, e, -, x, opened, -⟩ := starts refreshingHead .spi 3 refreshingHead_ready (by decide) (by decide) (by decide) (by decide)
  obtain rfl : hostCommand .spi 0x10 0 0 0 (bytesOf 1 3) [] refreshingHead.blk = b := congrArg State.blk (Host.Outcome.next.inj e)
  obtain ⟨-, nothing⟩ := refreshingHead_triggers
  exact List.append_ne_nil_of_right_ne_nil _ (List.cons_ne_nil x []) (opened.symm.trans nothing)

end Sys2Proof.Machine
end

section
/-! ### FIFO drops that are over (R377)

An interval of the lanes first looks whether 0xA7 is gone. That changes the instant of the last drop, the registrations, and entries of the faults. -/

namespace Sys2Proof.Machine

section
variable {b : Block}

/-- Either 0xA7 stands as it does, or its drop is forgotten and its live bit clears. -/
theorem Block.dropGone_cases (b : Block) :
    b.dropGone = b ∨ b.dropGone = (b.withLanes { b.lanes with dropAt := none }).clearLive 0xA7 := by
  unfold Block.dropGone
  split
  · split
    · exact .inr rfl
    · exact .inl rfl
  · exact .inl rfl

theorem Block.dropGone_lanes (b : Block) : ∃ w, b.dropGone.lanes = { b.lanes with dropAt := w } := by
  obtain h | h := b.dropGone_cases
  · exact ⟨b.lanes.dropAt, by rw [h]⟩
  · exact ⟨none, by rw [h, Block.clearLive_lanes, Block.withLanes_lanes]⟩

@[simp] theorem Block.dropGone_power (b : Block) : b.dropGone.power = b.power := by
  obtain h | h := b.dropGone_cases <;> simp [h]
@[simp] theorem Block.dropGone_win (b : Block) : b.dropGone.win = b.win := by
  obtain h | h := b.dropGone_cases <;> simp [h]
@[simp] theorem Block.dropGone_keeper (b : Block) : b.dropGone.keeper = b.keeper := by
  obtain h | h := b.dropGone_cases <;> simp [h]
@[simp] theorem Block.dropGone_measuring (b : Block) : b.dropGone.measuring = b.measuring := by
  obtain h | h := b.dropGone_cases <;> simp [h]
@[simp] theorem Block.dropGone_engineRuns (b : Block) (k : Nat) : b.dropGone.engineRuns k = b.engineRuns k := by
  obtain h | h := b.dropGone_cases <;> simp [h]

/-- The entries of the lanes, which stand below those of the faults. -/
theorem Block.get_dropGone_below {k : Nat} (low : k ≤ Ob.faultLive) : b.dropGone.get k = b.get k := by
  obtain h | h := b.dropGone_cases
  · rw [h]
  · rw [h, Block.get_clearLive_below _ low, Block.withLanes_get]

end

end Sys2Proof.Machine
end

section
/-! ### Slots of the aux lanes (R155–R157, R198) -/

namespace Sys2Proof.Machine

/-! #### What a slot converts and shows -/

section
variable {b : Block}

@[simp] theorem Block.auxVolts_noteSat (b : Block) (k : Nat) (hit : Bool) (out : Int) : (b.noteSat k hit).auxVolts out = b.auxVolts out := by
  unfold Block.noteSat
  split <;> rfl

theorem Block.auxInput_congr {c : Block} (lost : c.lanes.auxLost = b.lanes.auxLost) (lane slot cycle : Nat) :
    c.auxInput lane slot cycle = b.auxInput lane slot cycle := by
  simp only [Block.auxInput, lost]

theorem Block.auxSlots_congr {c : Block} (lost : c.lanes.auxLost = b.lanes.auxLost) : c.auxSlots = b.auxSlots := by
  simp only [Block.auxSlots, lost]

@[simp] theorem Block.followTherm_power (b : Block) (k : Nat) (was : AuxPin) (temp : Option Int) :
    (b.followTherm k was temp).power = b.power := by
  simp only [Block.followTherm, apply_ite Block.power, Block.raise_power, Block.clearLive_power, ite_self]

@[simp] theorem Block.adviseBoth_power (b : Block) (k : Nat) (temp : Option Int) : (b.adviseBoth k temp).power = b.power := by
  simp only [Block.adviseBoth, apply_ite Block.power, Block.raise_power, Block.clearLive_power, Block.put_power, Block.putBit_power,
    Block.withThermal_power, ite_self]

@[simp] theorem Block.thermistorReading_power (b : Block) (k pin : Nat) : (b.thermistorReading k pin).power = b.power := by
  unfold Block.thermistorReading
  extract_lets _ _ _ _ reading _ b2
  clear_value reading
  have shown : b2.power = b.power := by
    unfold b2
    split <;> rfl
  split
  · rfl
  · rw [Block.adviseBoth_power, Block.followTherm_power, Block.withAux_power, shown]

/-- A pin's slot writes no part of the power control, whatever the function of its pin. -/
@[simp] theorem Block.pinSlot_power (b : Block) (k : Nat) (out : Int) (level : Bool) : (b.pinSlot k out level).power = b.power := by
  simp only [Block.pinSlot, apply_ite Block.power, Block.thermistorReading_power, Block.put_power, Block.withGov_power, ite_self]

/-- A value shown is not overwritten by its status. -/
theorem Block.get_auxValue_shown (k : Nat) (v st : Int) :
    ((b.put (Ob.auxValue + k + 1) v).put (Ob.auxStatus + k + 1) st).get (Ob.auxValue + k + 1) = v := by
  have apart : Ob.auxValue + k + 1 ≠ Ob.auxStatus + k + 1 := by
    simp only [Ob.auxValue, Ob.auxStatus]
    omega
  rw [Block.get_put_other _ _ apart, Block.get_put_self]

/-- A VOLTAGE pin shows its voltage, held to its range (R198). -/
theorem Block.pinSlot_voltage {k : Nat} {out : Int} {level : Bool} (function : b.get (Ob.auxFunction + k + 1) = 2) :
    (b.pinSlot k out level).get (Ob.auxValue + k + 1) = clampInt 0 2500000 (roundDiv (b.auxVolts out) 1000) := by
  simp only [Block.pinSlot, function]
  exact Block.get_auxValue_shown k _ _

/-- An input shows its level (R198). -/
theorem Block.pinSlot_input {k : Nat} {out : Int} {level : Bool} (function : b.get (Ob.auxFunction + k + 1) = 3) :
    (b.pinSlot k out level).get (Ob.auxValue + k + 1) = boolVal level := by
  simp only [Block.pinSlot, function]
  exact Block.get_auxValue_shown k _ _

/-- A slot's 64 conversions to settle and its 128 with the one that completes them reach E4 as one averaged entry. -/
theorem auxSlot_takes {t lane : Nat} {codes : List Int} {level : Bool} {c : Block} {out : Int} (gone : c = (b.at (t + 192)).dropGone)
    (averaged : out = averagerOut (sumOf (((c.corrected (34 + lane) t codes).drop 64).map (·.1))) 3) (measuring : b.measuring = true)
    (runs : b.engineRuns 4 = true) (grid : t % 192 = 0) (whole : codes.length = 193) :
    ∃ hit, auxSlot t lane (codes.take 64) (codes.drop 64) level b = (c.noteSat 4 hit).takeAux ⟨t, lane, out, level⟩ := by
  refine ⟨((c.corrected (34 + lane) t codes).drop 64).any (·.2), ?_⟩
  subst gone averaged
  simp [auxSlot, measuring, runs, grid, whole]

/-- The entry goes to the pin or the rail that the slot converts. -/
theorem Block.takeAux_pin {e : AuxEntry} {k : Nat}
    (input : b.auxInput e.lane (e.start / 192 % b.auxSlots) (e.start / 192 / b.auxSlots) = some (.inl k)) :
    b.takeAux e = b.pinSlot k e.out e.level := by
  simp only [Block.takeAux, input]

@[inherit_doc Block.takeAux_pin]
theorem Block.takeAux_rail {e : AuxEntry} {r : Nat}
    (input : b.auxInput e.lane (e.start / 192 % b.auxSlots) (e.start / 192 / b.auxSlots) = some (.inr r)) :
    b.takeAux e = b.railReading r (b.auxVolts e.out) := by
  simp only [Block.takeAux, input]

/-- What a slot converts is seen in the lanes that are lost, which neither its end nor its saturation changes. -/
theorem Block.auxInput_at_end {t : Nat} {c : Block} (gone : c = (b.at (t + 192)).dropGone) (hit : Bool) (lane i : Nat) :
    (c.noteSat 4 hit).auxInput lane (i % (c.noteSat 4 hit).auxSlots) (i / (c.noteSat 4 hit).auxSlots) =
      b.auxInput lane (i % b.auxSlots) (i / b.auxSlots) := by
  obtain ⟨w, lanes⟩ := (b.at (t + 192)).dropGone_lanes
  have lost : (c.noteSat 4 hit).lanes.auxLost = b.lanes.auxLost := by rw [Block.noteSat_lanes, gone, lanes, Block.at_lanes]
  rw [Block.auxSlots_congr lost, Block.auxInput_congr lost]

end

/-- Settles O17: a slot's entry reaches E4, and E4 shows the pin by its function, or the rail. -/
theorem auxSlots : Obligations.AuxSlots := by
  unfold Obligations.AuxSlots
  refine ⟨fun s t lane codes level c out k gone averaged measuring runs grid whole _ input => ?_,
    fun s t lane codes level c out r gone averaged measuring runs grid whole input => ?_⟩
  · obtain ⟨hit, taken⟩ := auxSlot_takes (level := level) gone averaged measuring runs grid whole
    have shown : (c.noteSat 4 hit).takeAux ⟨t, lane, out, level⟩ = (c.noteSat 4 hit).pinSlot k out level :=
      Block.takeAux_pin ((Block.auxInput_at_end gone hit _ _).trans input)
    have function : (c.noteSat 4 hit).get (Ob.auxFunction + k + 1) = s.blk.get (Ob.auxFunction + k + 1) := by
      rw [Block.noteSat_get, gone, Block.get_dropGone_below (by simp only [Ob.auxFunction, Ob.faultLive]; omega), Block.at_get]
    refine ⟨_, rfl, ?_⟩
    rw [taken, shown]
    refine ⟨by rw [Block.pinSlot_power, Block.noteSat_power, gone, Block.dropGone_power, Block.at_power], fun voltage => ?_, fun digital => ?_⟩
    · rw [Block.pinSlot_voltage (function.trans voltage), Block.auxVolts_noteSat]
    · exact Block.pinSlot_input (function.trans digital)
  · obtain ⟨hit, taken⟩ := auxSlot_takes (level := level) gone averaged measuring runs grid whole
    have shown : (c.noteSat 4 hit).takeAux ⟨t, lane, out, level⟩ = (c.noteSat 4 hit).railReading r (c.auxVolts out) := by
      rw [Block.takeAux_rail ((Block.auxInput_at_end gone hit _ _).trans input), Block.auxVolts_noteSat]
    refine ⟨_, rfl, ?_⟩
    rw [taken, shown]
    refine ⟨?_, Block.noteSat_dict _ _ _, Block.noteSat_flint _ _ _⟩
    simp only [Block.railReading, Block.withAux_aux, Block.noteSat_aux]

end Sys2Proof.Machine
end

section
/-! ### Verdicts on lanes (R137–R139, R154, R158–R161, R401)

A finding about a slice, a lane or a pin marks what it is about in the health words and the requests for service, and raises its source. It moves
no estimate of a lane's terms and no mapping of the shadow lane. -/

namespace Sys2Proof.Machine

/-- The terms of a lane that R134 moves on at every update, but for the skew. -/
def LaneTerms.estimates (t : LaneTerms) : Int × Int × Int := (t.gA, t.gB, t.oB)

/-- From a to b the node has come to a verdict on its lanes, which leaves entry d as it was. -/
structure Block.Judges (d : Nat) (a b : Block) : Prop where
  aside : d ≤ Ob.faultLive ∧ d ≠ Ob.frontEndHealth
  power : b.power = a.power
  estimates : ∀ k, (b.terms k).estimates = (a.terms k).estimates
  maps : b.lanes.maps = a.lanes.maps
  entry : b.get d = a.get d

section
variable {d : Nat} {a b : Block}

theorem Block.Judges.refl (b : Block) (aside : d ≤ Ob.faultLive ∧ d ≠ Ob.frontEndHealth) : b.Judges d b :=
  ⟨aside, rfl, fun _ => rfl, rfl, rfl⟩

theorem Block.Judges.ite {c : Prop} [Decidable c] {x y : Block} (hx : a.Judges d x) (hy : a.Judges d y) : a.Judges d (if c then x else y) := by
  split
  · exact hx
  · exact hy

/-! #### Flags and requests -/

theorem Block.Judges.withFlint (h : a.Judges d b) {v} : a.Judges d (b.withFlint v) := ⟨h.aside, h.power, h.estimates, h.maps, h.entry⟩

theorem Block.Judges.withLanes (h : a.Judges d b) {v : Lanes} (terms : v.terms = b.lanes.terms := by rfl)
    (maps : v.maps = b.lanes.maps := by rfl) : a.Judges d (b.withLanes v) := by
  refine ⟨h.aside, h.power, fun k => ?_, maps.trans h.maps, h.entry⟩
  rw [Block.terms, Block.withLanes_lanes, terms]
  exact h.estimates k

theorem Block.Judges.put (h : a.Judges d b) {k v} (other : d ≠ k) : a.Judges d (b.put k v) :=
  ⟨h.aside, h.power, h.estimates, h.maps, (b.get_put_other v other).trans h.entry⟩

theorem Block.Judges.putBit (h : a.Judges d b) {k i on} (other : d ≠ k) : a.Judges d (b.putBit k i on) := h.put other
theorem Block.Judges.markFrontEnd (h : a.Judges d b) {i on} : a.Judges d (b.putBit Ob.frontEndHealth i on) := h.putBit h.aside.2
theorem Block.Judges.raise (h : a.Judges d b) {source data} : a.Judges d (b.raise source data) := h.withFlint
theorem Block.Judges.raiseAtLeast (h : a.Judges d b) {source data c} : a.Judges d (b.raiseAtLeast source data c) := h.withFlint

theorem Block.Judges.reason (h : a.Judges d b) {r on} : a.Judges d (b.reason r on) := by
  have low : d < Ob.serviceRequestReason := h.aside.1.trans_lt (by decide)
  exact .ite h ((h.putBit low.ne).put (low.trans (by decide)).ne)

theorem Block.Judges.clearLive (h : a.Judges d b) {s} : a.Judges d (b.clearLive s) := by
  obtain ⟨f, e, cleared⟩ := b.clearLive_frame s
  have entry : (b.clearLive s).get d = b.get d := b.get_clearLive_below h.aside.1
  rw [cleared] at entry ⊢
  exact ⟨h.aside, h.power, h.estimates, h.maps, entry.trans h.entry⟩

theorem Block.Judges.setHealth (h : a.Judges d b) {ch i on} (other : d ≠ chKey Ob.cellHealth ch) : a.Judges d (b.setHealth ch i on) :=
  h.putBit other

/-! #### The terms of a lane -/

/-- A lane's terms are rewritten where the lane has any. -/
theorem Block.terms_editTerms (b : Block) (k : Nat) (f : LaneTerms → LaneTerms) (j : Nat) :
    (b.editTerms k f).terms j = if j = k ∧ k < b.lanes.terms.length then f (b.terms j) else b.terms j := by
  simp only [Block.terms, Block.editTerms, Block.withLanes_lanes, editAt]
  by_cases listed : k < b.lanes.terms.length
  · rw [List.getElem?_eq_getElem listed]
    by_cases same : j = k
    · subst same
      simp [listed]
    · simp [same, List.getElem?_set_ne (Ne.symm same)]
  · rw [List.getElem?_eq_none (Nat.le_of_not_lt listed), if_neg fun both => listed both.2]

theorem Block.Judges.editTerms (h : a.Judges d b) {k f} (same : ∀ t : LaneTerms, (f t).estimates = t.estimates) :
    a.Judges d (b.editTerms k f) := by
  refine ⟨h.aside, h.power, fun j => ?_, h.maps, h.entry⟩
  rw [Block.terms_editTerms]
  split
  · exact (same _).trans (h.estimates j)
  · exact h.estimates j

/-! #### Slices and lanes that fail (R137–R139, R154, R157) -/

theorem Block.Judges.keepBoth (h : a.Judges d b) : a.Judges d b.keepBoth := h.withLanes.markFrontEnd.reason.raise

theorem Block.Judges.loseShadow (h : a.Judges d b) : a.Judges d b.loseShadow :=
  .ite h.markFrontEnd.reason.keepBoth h.markFrontEnd.reason

/-- The health words written are the lane's own, and where the shadow lane is lost that of the channel it serves. -/
theorem Block.Judges.loseLane (h : a.Judges d b) {k} (other : ∀ ch, (k < 32 → ch = k) → d ≠ chKey Ob.cellHealth ch) :
    a.Judges d (b.loseLane k) := by
  unfold Block.loseLane
  split
  · have own := other k fun _ => rfl
    exact .ite (h.withLanes.setHealth own).reason.loseShadow (h.setHealth own).reason
  · next none_own =>
    split
    · exact h.withLanes.markFrontEnd.markFrontEnd.reason
    · split
      · exact h.withLanes.markFrontEnd.reason
      · split
        · next ch _ => exact (h.setHealth (other ch fun own => absurd own none_own)).reason.loseShadow
        · exact h.loseShadow

@[inherit_doc Block.Judges.loseLane]
theorem Block.Judges.failSlice (h : a.Judges d b) {k sliceB} (other : ∀ ch, (k < 32 → ch = k) → d ≠ chKey Ob.cellHealth ch) :
    a.Judges d (b.failSlice k sliceB) := by
  unfold Block.failSlice
  extract_lets _ b1 b2
  have h1 : a.Judges d b1 := h.editTerms fun _ => rfl
  have h2 : a.Judges d b2 := .ite (h1.setHealth (other k fun _ => rfl)) h1
  exact .ite h (.ite (.ite (h2.reason.loseLane other).raiseAtLeast (h2.reason.loseLane other).raise) h2.reason.raise)

end

end Sys2Proof.Machine
end

section
/-! ### References and correction terms (R130, R134) -/

namespace Sys2Proof.Machine

/-! #### The comparison with Basalt (R130) -/

section
variable {b : Block} {t : Nat} {codes : List Int}

@[simp] theorem Block.at_shadowRotates (b : Block) (t : Nat) : (b.at t).shadowRotates = b.shadowRotates := rfl
@[simp] theorem Block.at_basaltCal (b : Block) (t : Nat) : (b.at t).basaltCal = b.basaltCal := rfl
@[simp] theorem Block.at_subSlotVolts (b : Block) (t t' : Nat) (codes : List Int) :
    (b.at t).subSlotVolts t' codes = b.subSlotVolts t' codes := rfl

/-- The node with Basalt in use (R130): cal and measured give the ratio, diff the data of 0x24. -/
def Block.ontoBasalt (b : Block) (cal measured diff : Int) : Block :=
  let b : Block := b.put Ob.referenceSource 2
  let b := (b.withLanes { b.lanes with ratioNum := cal.toNat, ratioDen := measured.toNat }).flagWindow 8
  ((b.putBit Ob.frontEndHealth 0 true).reason .refBasalt true).raise 0x24 (diff % 2 ^ 32).toNat

/-- On Opal a comparison notes its difference and the excesses in a row, and the third of them takes Basalt's. -/
theorem referenceCompare_on_opal (rotates : b.shadowRotates = true) (tenth : t % 10000 = 0) (whole : codes.length = subSlotCodes)
    (opal : b.get Ob.referenceSource ≠ 2) {measured diff : Int} (converted : measured = b.subSlotVolts t codes)
    (differs : diff = roundDiv ((measured - b.basaltCal) * 24) 10000) {n : Nat}
    (counted : n = if 5000000 < ((measured - b.basaltCal) * 24).natAbs then min (b.nat Ob.referenceCompareConsecutive + 1) 255 else 0) :
    ∃ c : Block, c.flint = b.flint ∧ c.get Ob.referenceCompareDifference = diff ∧ c.get Ob.referenceCompareConsecutive = n ∧
      c.get Ob.referenceSource = b.get Ob.referenceSource ∧
      referenceCompare t codes b = if 3 ≤ n then c.ontoBasalt b.basaltCal measured diff else c := by
  unfold referenceCompare
  extract_lets b0 basalt cal diff' b1 b2 beyond n' b3 ratio b4
  rw [if_neg (by simp [b0, rotates, tenth, whole])]
  have converted' : basalt = measured := (b.at_subSlotVolts (t + 1000) t codes).trans converted.symm
  have cal' : cal = b.basaltCal := b.at_basaltCal (t + 1000)
  have differs' : diff' = diff := by rw [differs, ← converted', ← cal']
  have flint : b2.flint = b.flint := by
    unfold b2
    split <;> simp only [b1, b0, Block.put_flint, Block.at_flint]
  have noted : b2.get Ob.referenceCompareDifference = diff' := by
    unfold b2
    split
    · rw [b1.get_put_other _ (by decide), b0.get_put_self]
    · exact b0.get_put_self _ _
  have kept : ∀ k, k ≠ Ob.referenceComparePeak → k ≠ Ob.referenceCompareDifference → b2.get k = b.get k := by
    intro k peak difference
    unfold b2
    split
    · rw [b1.get_put_other _ peak, b0.get_put_other _ difference, Block.at_get]
    · rw [b0.get_put_other _ difference, Block.at_get]
  have same : n' = n := by
    simp only [counted, n', beyond, converted', cal', decide_eq_true_eq, Block.nat, kept Ob.referenceCompareConsecutive (by decide) (by decide)]
  have source : b3.get Ob.referenceSource = b.get Ob.referenceSource :=
    (b2.get_put_other _ (by decide)).trans (kept _ (by decide) (by decide))
  refine ⟨b3, flint, (b2.get_put_other _ (by decide)).trans (noted.trans differs'), ?_, source, ?_⟩
  · rw [← same]
    exact b2.get_put_self _ _
  · rw [if_neg (source.trans_ne opal), ← same, ← cal', ← converted', ← differs']
    rfl

/-- Basalt in use: the source, the ratio, the request for service and the detection (R130). -/
theorem Block.ontoBasalt_spec (b : Block) (cal measured diff : Int) : (b.ontoBasalt cal measured diff).get Ob.referenceSource = 2 ∧
    (b.ontoBasalt cal measured diff).lanes.ratioNum = cal.toNat ∧ (b.ontoBasalt cal measured diff).lanes.ratioDen = measured.toNat ∧
    (b.ontoBasalt cal measured diff).hasReason .refBasalt = true ∧
    (b.ontoBasalt cal measured diff).flint.detections = b.flint.detections ++ [⟨0x24, (diff % 2 ^ 32).toNat, 0, none⟩] := by
  unfold Block.ontoBasalt
  extract_lets b1 b2 b3
  refine ⟨?_, ?_, ?_, ?_, ?_⟩
  · rw [Block.raise_get, Block.get_reason_other _ _ _ (by decide) (by decide), Block.get_putBit, if_neg (by decide)]
    exact b.get_put_self Ob.referenceSource 2
  · rw [Block.raise_lanes, Block.reason_lanes]
    rfl
  · rw [Block.raise_lanes, Block.reason_lanes]
    rfl
  · exact Block.hasReason_reason _ _ _
  · rw [Block.raise_detections, Block.reason_flint]
    rfl

end

/-! #### An update of a lane's terms (R134) -/

section
variable {b : Block} {k : Nat}

theorem Block.publishCorrection_lanes (b : Block) : b.publishCorrection.lanes = b.lanes := by
  unfold Block.publishCorrection
  extract_lets _ tracking _ b1
  exact foldl_keeps (fun b : Block => b.lanes) (fun b k => Block.putBit_lanes b _ _ _) _ b1

/-- The estimates of a lane move on by an eighth, and then the node judges the lane. -/
theorem correctionUpdate_judges {gA gB oB : Int} {skew : Option Int} {badA badB : Bool} {d : Int} (measuring : b.measuring = true)
    (formed : b.noCells = false ∨ 32 ≤ k) (listed : k < b.lanes.terms.length) :
    ∃ c : Block, c.power = b.power ∧ (c.terms k).estimates = (eighth (b.terms k).gA (b.termsNow k).1 gA,
        eighth (b.terms k).gB (b.termsNow k).2.1 gB, eighth (b.terms k).oB (b.termsNow k).2.2.1 oB) ∧
      c.Judges Ob.role (correctionUpdate k gA gB oB skew badA badB d b) := by
  unfold correctionUpdate
  have runs : (!b.measuring || (b.noCells && decide (k < 32))) = false := by
    obtain cells | other := formed
    · simp [measuring, cells]
    · simp [measuring, Nat.not_lt.2 other]
  rw [if_neg (by rw [runs]; decide)]
  extract_lets now b1 c t x single outA outB apart b3 b4 m b5 b6
  have moved : c.terms k = b1.terms k := by
    rw [Block.terms, Block.terms, b1.publishCorrection_lanes]
  have away : ∀ ch, (k < 32 → ch = k) → Ob.role ≠ chKey Ob.cellHealth ch := by
    intro ch _
    simp only [Ob.role, Ob.cellHealth, chKey]
    omega
  have h : c.Judges Ob.role c := .refl c (by decide)
  have h3 : c.Judges Ob.role b3 := .ite (h.failSlice away) h
  have h4 : c.Judges Ob.role b4 := .ite (h3.failSlice away) h3
  have h5 : c.Judges Ob.role b5 := h4.editTerms fun _ => rfl
  have h6 : c.Judges Ob.role b6 := .ite (h5.setHealth (away k fun _ => rfl)) h5
  refine ⟨c, b1.publishCorrection_power, ?_, ?_⟩
  · rw [moved, b.terms_editTerms, if_pos ⟨rfl, listed⟩]
    rfl
  · exact .ite h4 (.ite (.ite (h4.failSlice away) (.ite (h4.failSlice away) h4))
      (.ite (.ite (h4.failSlice away) (.ite (h4.failSlice away) h6.raise)) h4))

end

/-- Settles O13: a comparison on Opal by its excesses in a row, and the estimates that a verdict on the lane leaves as they moved. -/
theorem referenceAndCorrection : Obligations.ReferenceAndCorrection := by
  unfold Obligations.ReferenceAndCorrection
  refine ⟨fun s t codes rotates tenth whole within opal => ?_, fun s t codes rotates tenth whole beyond twice opal => ?_,
    fun s lane gA gB oB skew badA badB d measuring formed listed => ?_⟩
  · obtain ⟨c, flint, differs, counted, source, compared⟩ :=
      referenceCompare_on_opal rotates tenth whole opal rfl rfl (n := 0) (by rw [if_neg (Nat.not_lt.2 within)])
    refine ⟨_, rfl, ?_⟩
    rw [compared]
    exact ⟨differs, counted, source, flint⟩
  · obtain ⟨c, flint, -, -, -, compared⟩ :=
      referenceCompare_on_opal rotates tenth whole opal rfl rfl (n := 3) (by rw [if_pos beyond, twice]; rfl)
    obtain ⟨source, num, den, reason, detections⟩ := c.ontoBasalt_spec s.blk.basaltCal (s.blk.subSlotVolts t codes)
      (roundDiv ((s.blk.subSlotVolts t codes - s.blk.basaltCal) * 24) 10000)
    refine ⟨_, rfl, ?_⟩
    rw [compared]
    exact ⟨source, num, den, reason, flint ▸ detections⟩
  · obtain ⟨c, power, estimates, judged⟩ := correctionUpdate_judges (b := s.blk) (gA := gA) (gB := gB) (oB := oB) (skew := skew)
      (badA := badA) (badB := badB) (d := d) measuring formed listed
    have moved := (judged.estimates lane.val).trans estimates
    simp only [LaneTerms.estimates, Prod.mk.injEq] at moved
    obtain ⟨movedA, movedB, offset⟩ := moved
    exact ⟨_, rfl, movedA, movedB, offset, judged.power.trans power⟩

end Sys2Proof.Machine
end

section
/-! ### The shadow lane and the current lanes (R154, R158–R161) -/

namespace Sys2Proof.Machine

/-! #### Checks of a frame -/

section
variable {d : Nat} {a b : Block}

theorem Block.Judges.shortCheck (h : a.Judges d b) {kind place bad} : a.Judges d (b.shortCheck kind place bad) :=
  .ite (.ite h.withLanes h.withLanes.raise) (.ite (.ite h.withLanes.clearLive h.withLanes) h)

theorem Block.Judges.pinCheck (h : a.Judges d b) {pin start dropUv} : a.Judges d (b.pinCheck pin start dropUv) := by
  unfold Block.pinCheck
  extract_lets _ _ _ _ _ _ b2
  have h2 : a.Judges d b2 := .ite (.ite (.ite h.withLanes.shortCheck h.withLanes) h.withLanes.shortCheck) h.withLanes
  exact .ite (.ite (.ite h2.withLanes.shortCheck h2.withLanes) h2.withLanes.shortCheck) h2.withLanes

theorem Block.Judges.keepCurrent (h : a.Judges d b) {shadow} : a.Judges d (b.keepCurrent shadow) := h.withLanes.markFrontEnd.reason.raise

theorem Block.Judges.subSlotB (h : a.Judges d b) {m nv} : a.Judges d (b.subSlotB m nv) :=
  .ite h (.ite h.keepCurrent (.ite h h.withLanes.pinCheck))

theorem Block.Judges.muxCheck (h : a.Judges d b) {ch testError} (other : d ≠ chKey Ob.cellHealth ch) : a.Judges d (b.muxCheck ch testError) :=
  .ite (h.setHealth other).raise (.ite (h.setHealth other).clearLive (h.setHealth other))

/-- The comparison of a channel is its difference, and a verdict on it. -/
theorem Block.compareShadow_judges {m ch : Nat} {difference diffA diffB : Int} (cell : ch < 32)
    (aside : d ≤ Ob.faultLive ∧ d ≠ Ob.frontEndHealth) (other : d ≠ chKey Ob.cellHealth ch) :
    (b.put (chKey Ob.shadowDifference ch) difference).Judges d (b.compareShadow m ch difference diffA diffB) := by
  unfold Block.compareShadow
  extract_lets b1 b2
  have h1 : b1.Judges d b1 := .refl b1 aside
  have h2 : b1.Judges d b2 := .ite (h1.failSlice fun c own => own cell ▸ other) h1
  exact .ite (.ite h2.withLanes.loseShadow.raise (.ite (h2.withLanes.setHealth other).raise h2.withLanes))
    (.ite (h2.withLanes.setHealth other).clearLive (h2.withLanes.setHealth other))

end

/-! #### SHADOW_FRAME (R158–R161) -/

section
variable {b : Block}

theorem Block.shadowRotates_congr {c : Block} (power : c.power = b.power) (health : c.get Ob.frontEndHealth = b.get Ob.frontEndHealth) :
    c.shadowRotates = b.shadowRotates := by
  simp only [Block.shadowRotates, Block.measuring, Block.bit, Block.nat, power, health]

/-- A frame visits a cell channel (R158). -/
theorem Block.visited_lt (few : b.cells ≤ 32) (m : Nat) : b.visited m < 32 := by
  unfold Block.visited
  split
  · decide
  · next some_cells => exact (Nat.mod_lt m (Nat.pos_of_ne_zero some_cells)).trans_le few

/-- Out of open-wire slots and with cells, a frame is the visit of its channel, and what the node finds in the rest of it. -/
theorem shadowFrame_visits {t : Nat} {lane shadow test subB : List Int} {map : Int × Int} {c : Block}
    (gone : c = (b.at (if test.isEmpty && subB.isEmpty then t + 320 else t + 1000)).dropGone) (rotates : b.shadowRotates = true)
    (cells : b.noCells = false) (frame : t % 1000 = 0) (free : b.lanes.slot = none) {ch d : Nat} (channel : ch = b.visited (t / 1000))
    (aside : d ≤ Ob.faultLive ∧ d ≠ Ob.frontEndHealth) (other : d ≠ chKey Ob.cellHealth ch) :
    (c.visit t ch lane shadow map).Judges d (shadowFrame t lane shadow test subB map b) := by
  have entries : ∀ k, k ≤ Ob.faultLive → c.get k = b.get k := fun k low => by rw [gone, Block.get_dropGone_below low, Block.at_get]
  have power : c.power = b.power := by rw [gone, Block.dropGone_power, Block.at_power]
  obtain ⟨w, lanes⟩ := (b.at (if test.isEmpty && subB.isEmpty then t + 320 else t + 1000)).dropGone_lanes
  rw [← gone] at lanes
  have rotates' : c.shadowRotates = true := (Block.shadowRotates_congr power (entries _ (by decide))).trans rotates
  have cells' : c.noCells = false := by rw [Block.noCells, entries _ (by decide)]; exact cells
  have count : c.cells = b.cells := congrArg Int.toNat (entries Ob.cellCount (by decide))
  have channel' : c.visited (t / 1000) = ch := by simp only [channel, Block.visited, count]
  have free' : c.inSlot ch t 1000 = false := by simp [Block.inSlot, lanes, free]
  unfold shadowFrame
  extract_lets b1 m ch' b2 b3
  obtain rfl : c = b1 := gone
  obtain rfl : ch' = ch := channel'
  rw [if_neg (by simp [rotates', frame])]
  have h2 : b2.Judges d b2 := .refl b2 aside
  have h3 : b2.Judges d b3 := by
    unfold b3
    rw [if_neg (by simp [cells', free'])]
    exact .ite (h2.muxCheck other) h2
  exact .ite h3.subSlotB h3

/-- A visit with a whole comparison interval leaves the difference of its channel and the mapping that the interval gives. -/
theorem Block.visit_spec {t ch : Nat} {lane shadow : List Int} {map : Int × Int} (cell : ch < 32) (own : lane.length = 257)
    (other : shadow.length = 257) :
    (b.visit t ch lane shadow map).get (chKey Ob.shadowDifference ch) = sumsApart (sumOf ((b.corrected ch (t + 64) lane).map (·.1)))
        (sumOf ((b.substituted ch (t + 64) shadow).map (·.1))) 256 ∧
      (b.visit t ch lane shadow map).lanes.maps = b.lanes.maps.set ch map ∧ (b.visit t ch lane shadow map).power = b.power := by
  unfold Block.visit
  rw [if_pos (by simp [own, other])]
  extract_lets ys zs s sa c
  have judged : Block.Judges (chKey Ob.shadowDifference ch) _ c :=
    Block.compareShadow_judges cell (by simp only [chKey, Ob.shadowDifference, Ob.faultLive, Ob.frontEndHealth]; omega)
      (by simp only [chKey, Ob.shadowDifference, Ob.cellHealth]; omega)
  exact ⟨judged.entry.trans (b.get_put_self _ _), congrArg (List.set · ch map) judged.maps, judged.power⟩

end

/-! #### The comparison of the current lanes (R154) -/

section
variable {b : Block}

/-- The difference of two means that R154 allows: 0.1 % of theirs and a floor by the range, in 1/4,000 nV. -/
def Block.currentsApart (b : Block) (m1 m2 : Int) : Bool :=
  decide (4000 * (if b.get Ob.currentRange = 2 then 50000 else 5000) + (m1 + m2).natAbs < (4000 * (m1 - m2)).natAbs)

theorem Block.atInput_congr {c : Block} (range : c.get Ob.currentRange = b.get Ob.currentRange) (v : Int) : c.atInput v = b.atInput v := by
  simp only [Block.atInput, range]

/-- The node with a millisecond of its current lanes compared: their means, and how many in a row were apart. -/
def Block.currentsCompared (b : Block) (stop n : Nat) (m1 m2 : Int) : Block :=
  ((b.at stop).withKeeper { b.keeper with laneSums := (0, 0, 0) }).withLanes { b.lanes with currentDiverge := n, currentMeans := (m1, m2) }

theorem Block.currentsCompared_flint (b : Block) (stop n : Nat) (m1 m2 : Int) : (b.currentsCompared stop n m1 m2).flint = b.flint := by
  simp only [Block.currentsCompared, Block.withLanes_flint, Block.withKeeper_flint, Block.at_flint]

theorem Block.currentsCompared_shadowRotates (b : Block) (stop n : Nat) (m1 m2 : Int) :
    (b.currentsCompared stop n m1 m2).shadowRotates = b.shadowRotates :=
  Block.shadowRotates_congr (by simp only [Block.currentsCompared, Block.withLanes_power, Block.withKeeper_power, Block.at_power])
    (by simp only [Block.currentsCompared, Block.withLanes_get, Block.withKeeper_get, Block.at_get])

/-- A millisecond of both current lanes: the third in a row that is apart waits for the shadow lane, or keeps both where none rotates. -/
theorem currentLaneCompare_compares {t n : Nat} {x y m1 m2 : Int} (frame : t % 1000 = 0) (sums : b.keeper.laneSums = (x, y, n)) (some_taken : n ≠ 0)
    (first : m1 = b.atInput (roundDiv (x * stepPv) (2 ^ 20 * 1000 * n))) (second : m2 = b.atInput (roundDiv (y * stepPv) (2 ^ 20 * 1000 * n)))
    (measuring : b.measuring = true) (runs : b.engineRuns 4 = true) (both : b.lanes.currentKept = 0)
    (apart_before : b.bit Ob.frontEndHealth 1 = false) {k : Nat} (counted : k = if b.currentsApart m1 m2 then b.lanes.currentDiverge + 1 else 0)
    {c : Block} (left : c = b.currentsCompared (t + 1000) k m1 m2) : currentLaneCompare t (t + 1000) b =
      if k < 3 || c.lanes.currentPending then c
      else if c.shadowRotates then c.withLanes { c.lanes with currentPending := true } else c.keepBoth := by
  have span : chainDiff (t + 1000) t = 1000 := by
    simp only [chainDiff, Nat.cast_add, add_sub_cancel_left]
    decide
  unfold currentLaneCompare
  extract_lets b0 l _ b1 mean m1' m2' floorNv limit bad k' _ b2
  have taken : l = (x, y, n) := sums
  have range : b1.get Ob.currentRange = b.get Ob.currentRange := by rw [Block.withKeeper_get, Block.at_get]
  have first' : m1' = m1 := by
    simp only [m1', mean, taken, first, Block.atInput_congr range]
  have second' : m2' = m2 := by
    simp only [m2', mean, taken, second, Block.atInput_congr range]
  have apart : bad = b.currentsApart m1 m2 := by
    simp only [bad, limit, floorNv, first', second', range, Block.currentsApart, decide_eq_decide]
    split <;> omega
  have same : k' = k := by
    rw [counted, ← apart]
    rfl
  have compared : b2 = c := by
    rw [left, ← same, ← first', ← second']
    rfl
  have taken' : l.2.2 ≠ 0 := taken ▸ some_taken
  have serves : (!b1.measuring || !b1.engineRuns 4 || b1.lanes.currentKept ≠ 0 || b1.bit Ob.frontEndHealth 1 || l.2.2 = 0) = false := by
    simp only [b1, b0, Block.withKeeper_measuring, Block.at_measuring, Block.withKeeper_engineRuns, Block.at_engineRuns, Block.withKeeper_lanes,
      Block.at_lanes, Block.withKeeper_bit, Block.at_bit, measuring, runs, both, apart_before, taken']
    rfl
  rw [if_neg (by simp [frame, span]), if_neg (by rw [serves]; decide), same]
  clear_value b2
  subst compared
  rfl

/-- Where both current lanes are kept, the node says so: the front end's health, the request for service, and 0x26 without a lane. -/
theorem Block.keepBoth_spec (b : Block) : b.keepBoth.bit Ob.frontEndHealth 1 = true ∧ b.keepBoth.hasReason .currentDegraded = true ∧
    b.keepBoth.flint.detections = b.flint.detections ++ [⟨0x26, 0, 0, none⟩] := by
  unfold Block.keepBoth
  extract_lets _ b1
  refine ⟨?_, Block.hasReason_reason _ _ _, ?_⟩
  · rw [Block.raise_bit, Block.bit, Block.nat, Block.get_reason_other _ _ _ (by decide) (by decide)]
    exact b1.bit_putBit_self _ _ _
  · rw [Block.raise_detections, Block.reason_flint]
    rfl

end

/-- Settles O15: a frame is the visit of its channel and a verdict that moves neither its difference nor the mapping; a millisecond of the current
lanes is their means and the count of those apart. -/
theorem shadowAndCurrentLanes : Obligations.ShadowAndCurrentLanes := by
  unfold Obligations.ShadowAndCurrentLanes
  refine ⟨fun s t lane shadow test subB offset gain ch c gone channel rotates cells frame free few own other => ?_,
    fun s t x y n m1 m2 frame sums some_taken first second measuring runs both apart_before agree => ?_,
    fun s t x y n m1 m2 frame sums some_taken first second measuring runs both apart_before apart third idle => ?_⟩
  · have cell : ch < 32 := channel ▸ Block.visited_lt few _
    have judged := shadowFrame_visits (lane := lane) (shadow := shadow) (test := test) (subB := subB) (map := (offset, gain)) gone rotates cells
      frame free channel (d := chKey Ob.shadowDifference ch)
      (by simp only [chKey, Ob.shadowDifference, Ob.faultLive, Ob.frontEndHealth]; omega)
      (by simp only [chKey, Ob.shadowDifference, Ob.cellHealth]; omega)
    obtain ⟨difference, maps, power⟩ := c.visit_spec (t := t) (map := (offset, gain)) cell own other
    obtain ⟨w, lanes⟩ := (s.blk.at (if test.isEmpty && subB.isEmpty then t + 320 else t + 1000)).dropGone_lanes
    rw [← gone] at lanes
    refine ⟨_, rfl, judged.entry.trans difference, fun listed => ?_, judged.power.trans (power.trans ?_)⟩
    · rw [judged.maps, maps, lanes]
      exact List.getElem?_set_self listed
    · rw [gone, Block.dropGone_power, Block.at_power]
  · have together : s.blk.currentsApart m1 m2 = false := decide_eq_false (Nat.not_lt.2 agree)
    refine ⟨_, rfl, ?_⟩
    rw [currentLaneCompare_compares (k := 0) frame sums some_taken first second measuring runs both apart_before (by rw [together]; rfl) rfl]
    rfl
  · have apart' : s.blk.currentsApart m1 m2 = true := decide_eq_true apart
    obtain ⟨c, left⟩ : ∃ c, c = s.blk.currentsCompared (t + 1000) (s.blk.lanes.currentDiverge + 1) m1 m2 := ⟨_, rfl⟩
    have flint : c.flint = s.blk.flint := left ▸ Block.currentsCompared_flint _ _ _ _ _
    have rotation : c.shadowRotates = s.blk.shadowRotates := left ▸ Block.currentsCompared_shadowRotates _ _ _ _ _
    have idle' : c.lanes.currentPending = false := left ▸ idle
    obtain ⟨health, reason, detections⟩ := c.keepBoth_spec
    refine ⟨_, rfl, ?_⟩
    rw [currentLaneCompare_compares frame sums some_taken first second measuring runs both apart_before (by rw [apart']; rfl) left,
      if_neg (by simp [idle']; omega), rotation]
    refine ⟨fun rotates => ?_, fun still => ?_⟩
    · rw [if_pos rotates]
      exact ⟨rfl, flint⟩
    · rw [if_neg (by rw [still]; decide), ← flint]
      exact ⟨health, reason, detections⟩

end Sys2Proof.Machine
end

section
/-! ### The keeper's current and its mains tracker (R152–R154, R173, R174, R183) -/

namespace Sys2Proof.Machine

/-! #### A chop period (R153, R183) -/

/-- What the keeper has summed for the window that waits and for the open one, with its running total. -/
def Keeper.sums (k : Keeper) : Int × Nat × Int × Nat × Int := (k.charge, k.weight, k.nextCharge, k.nextWeight, k.total)

section
variable {b : Block}

theorem Block.overCurrent_keeper (b : Block) : b.overCurrent.keeper = b.keeper := by
  simp only [Block.overCurrent, apply_ite Block.keeper, Block.raise_keeper, Block.clearLive_keeper, Block.noteSat_keeper, ite_self]

theorem Block.overCurrent_power (b : Block) : b.overCurrent.power = b.power := by
  simp only [Block.overCurrent, apply_ite Block.power, Block.raise_power, Block.clearLive_power, Block.noteSat_power, ite_self]

/-- A current step that is found joins the steps, and no sum. -/
theorem Block.keeperStep_spec (b : Block) : b.keeperStep.keeper.sums = b.keeper.sums ∧ b.keeperStep.power = b.power := by
  unfold Block.keeperStep
  extract_lets
  split
  · extract_lets
    split
    · exact ⟨rfl, by rw [Block.withKeeper_power, Block.noteSat_power]⟩
    · exact ⟨rfl, rfl⟩
  · exact ⟨rfl, rfl⟩

/-- With no window waiting a sample joins the sums of the open one by its share of it (R175, R183). -/
theorem Block.keepSample_spec {t : Nat} {v : Int} {w : Window} (opened : b.win.opened = some w) (none_waits : b.win.closing = none) :
    (b.keepSample t v).keeper.sums = (b.keeper.charge, b.keeper.weight, b.keeper.nextCharge + v * overlap t 32 w.start w.stop,
        b.keeper.nextWeight + overlap t 32 w.start w.stop, b.keeper.total) ∧ (b.keepSample t v).power = b.power := by
  unfold Block.keepSample
  extract_lets share wc wo span k b1
  have waiting : wc = 0 := by simp only [wc, share, none_waits]
  have running : wo = overlap t 32 w.start w.stop := by simp only [wo, share, opened]
  obtain ⟨sums, power⟩ := b1.overCurrent.keeperStep_spec
  rw [sums, power, b1.overCurrent_keeper, b1.overCurrent_power]
  refine ⟨?_, Block.withKeeper_power _ _⟩
  simp only [Keeper.sums, b1, k, Block.withKeeper_keeper, waiting, running, Nat.cast_zero, mul_zero, add_zero]

@[simp] theorem Block.chopSample_noteSat (b : Block) (k : Nat) (hit : Bool) (e : CurrentEntry) : (b.noteSat k hit).chopSample e = b.chopSample e := by
  unfold Block.noteSat
  split <;> rfl

/-- The keeper takes a chop period as one sample, whatever the comparison of the two lanes takes of it. -/
theorem Block.takeChop_keeps {e : CurrentEntry} (keeper : b.isKeeper = true) :
    ∃ k : Keeper, k.sums = b.keeper.sums ∧ b.takeChop e = (b.withKeeper k).keepSample e.start (b.chopSample e) := by
  unfold Block.takeChop
  extract_lets s _ b1 old _ b2 v
  have frame : b1.keeper.sums = b.keeper.sums ∧ b1 = b.withKeeper b1.keeper := by
    unfold b1
    split <;> exact ⟨rfl, rfl⟩
  obtain ⟨sums, frame⟩ := frame
  have taken : b2 = b.withKeeper b2.keeper := congrArg (·.withKeeper b2.keeper) frame
  have keeper' : b2.isKeeper = true := by rw [taken]; exact keeper
  have sample : v = b.chopSample e := by
    unfold v
    rw [taken]
    rfl
  refine ⟨b2.keeper, sums, ?_⟩
  rw [if_pos keeper', sample, ← taken]

/-- The lanes that E4 keeps deliver a chop period, which E4 takes while it runs. -/
theorem currentSample_takes {t : Nat} {first second : List Int} {beyond : Bool} {c : Block} (gone : c = (b.at (t + 32)).dropGone)
    (measuring : b.measuring = true) (runs : b.engineRuns 4 = true) (kept : b.lanes.currentKept ≤ 2) (grid : t % 32 = 0)
    (whole : first.length = 33) (whole' : second.length = 33) :
    ∃ hit beyond', currentSample t first second beyond b = (c.noteSat 4 hit).takeChop ⟨t,
      if b.lanes.currentKept = 2 then [] else (c.corrected 32 t first).map (·.1),
      if b.lanes.currentKept = 1 then [] else (c.corrected 33 t second).map (·.1), beyond'⟩ := by
  obtain ⟨w, lanes⟩ := (b.at (t + 32)).dropGone_lanes
  have same : c.lanes.currentKept = b.lanes.currentKept := by rw [gone, lanes, Block.at_lanes]
  have measuring' : c.measuring = true := by rw [gone, Block.dropGone_measuring, Block.at_measuring]; exact measuring
  have runs' : c.engineRuns 4 = true := by rw [gone, Block.dropGone_engineRuns, Block.at_engineRuns]; exact runs
  unfold currentSample
  extract_lets c' kept' one two a d beyond' e c2
  obtain rfl : c = c' := gone
  have three : kept' ≠ 3 := by omega
  have fromFirst : a.map (·.1) = if b.lanes.currentKept = 2 then [] else (c'.corrected 32 t first).map (·.1) := by
    by_cases second_only : b.lanes.currentKept = 2
    · rw [if_pos second_only]
      simp only [a, one, kept', same, second_only]
      rfl
    · have served : one = true := by simp only [one, Bool.or_eq_true, beq_iff_eq]; omega
      rw [if_neg second_only]
      simp only [a, served, if_true]
  have fromSecond : d.map (·.1) = if b.lanes.currentKept = 1 then [] else (c'.corrected 33 t second).map (·.1) := by
    by_cases first_only : b.lanes.currentKept = 1
    · rw [if_pos first_only]
      simp only [d, two, kept', same, first_only]
      rfl
    · have served : two = true := by simp only [two, Bool.or_eq_true, beq_iff_eq]; omega
      rw [if_neg first_only]
      simp only [d, served, if_true]
  refine ⟨(a ++ d).any (·.2), beyond', ?_⟩
  rw [← fromFirst, ← fromSecond, if_neg (by simp [measuring', grid, three, whole, whole']),
    if_pos (by rw [Block.noteSat_engineRuns]; exact runs')]

end

/-- A node is the keeper by two entries, whatever else has changed. -/
theorem Block.isKeeper_congr {b c : Block} (entries : ∀ k, k ≤ Ob.faultLive → c.get k = b.get k) : c.isKeeper = b.isKeeper := by
  simp only [Block.isKeeper, entries Ob.currentKeeper (by decide), entries Ob.position (by decide)]

/-! #### The mains tracker (R173, R174) -/

section
variable {b : Block}

/-- Half a second of ripple that qualifies locks a tracker that searches, on the period of half its frequency (R173). -/
theorem mainsTrackerUpdate_locks {t amplitude f q : Nat} (measuring : b.measuring = true) (keeper : b.isKeeper = true)
    (runs : b.engineRuns 4 = true) (above : 90000 ≤ f) (below : f ≤ 130000) (strong : b.win.threshold ≤ (amplitude : Int))
    (searches : b.get Ob.mainsTrackerState = 1) (since : b.keeper.qualifiedSince = some q) (long : 500000 ≤ chainDiff (t % t48) q) :
    ∃ c : Block, c.get Ob.mainsTrackerRippleAmplitude = amplitude ∧ mainsTrackerUpdate t amplitude f b =
      ((c.put Ob.mainsTrackerState 2).put Ob.mainsTrackerPeriod (2 * 10 ^ 12 / max 1 f : Nat)).put Ob.mainsFrequency (f / 2 : Nat) := by
  unfold mainsTrackerUpdate
  extract_lets b0 b1 band good k qual weak acquired faded b2 p lock st b3
  have good' : good = true := by simp [good, band, above, below, show b1.win.threshold = b.win.threshold from rfl, strong]
  have since' : k.qualifiedSince = some q := since
  have acquired' : acquired = true := by
    simp only [acquired, qual, good', since']
    exact decide_eq_true long
  have searches' : st = 1 := (b0.get_put_other _ (by decide)).trans searches
  have keeper' : b0.isKeeper = true := (Block.isKeeper_congr fun k _ => b.at_get t k).trans keeper
  rw [if_neg (by simp [b0, runs, keeper']), if_neg (by simp [b0, measuring]), searches', if_neg (by decide), if_neg (by decide),
    if_pos acquired']
  exact ⟨b2.withKeeper { b2.keeper with period := p, holdSince := none }, b0.get_put_self _ _, rfl⟩

/-- A tracker that serves holds its last period while the ripple's frequency is out of the band (R174). -/
theorem mainsTrackerUpdate_holds {t amplitude f : Nat} (measuring : b.measuring = true) (keeper : b.isKeeper = true)
    (runs : b.engineRuns 4 = true) (outside : f < 90000 ∨ 130000 < f) (serves : b.get Ob.mainsTrackerState = 2) :
    (mainsTrackerUpdate t amplitude f b).get Ob.mainsTrackerState = 3 ∧
      (mainsTrackerUpdate t amplitude f b).keeper.holdSince = some (t % t48) := by
  unfold mainsTrackerUpdate
  extract_lets b0 b1 band good k qual weak acquired faded b2 p lock st b3
  have out : band = false := by
    obtain low | high := outside
    · simp [band, Nat.not_le.2 low]
    · simp [band, Nat.not_le.2 high]
  have serves' : st = 2 := (b0.get_put_other _ (by decide)).trans serves
  have keeper' : b0.isKeeper = true := (Block.isKeeper_congr fun k _ => b.at_get t k).trans keeper
  rw [if_neg (by simp [b0, runs, keeper']), if_neg (by simp [b0, measuring]), serves', if_pos rfl, if_pos (by rw [out]; rfl)]
  exact ⟨Block.get_put_self _ _ _, rfl⟩

end

/-- Settles O16: the sample of a chop period joins the sums of the open window alone; the tracker locks after half a second of ripple and holds out
of the band. -/
theorem currentAndMains : Obligations.CurrentAndMains := by
  unfold Obligations.CurrentAndMains
  refine ⟨fun s t first second beyond w c v gone sample measuring keeper runs kept grid whole whole' opened none_waits => ?_,
    fun s t amplitude f q measuring keeper runs above below strong searches since long => ?_,
    fun s t amplitude f measuring keeper runs outside serves => ?_⟩
  · obtain ⟨hit, beyond', taken⟩ := currentSample_takes (beyond := beyond) gone measuring runs kept grid whole whole'
    have keeper' : (c.noteSat 4 hit).isKeeper = true := by
      refine (Block.isKeeper_congr fun k low => ?_).trans keeper
      rw [Block.noteSat_get, gone, Block.get_dropGone_below low, Block.at_get]
    have win : c.win = s.blk.win := by rw [gone, Block.dropGone_win, Block.at_win]
    have before : (c.noteSat 4 hit).keeper = s.blk.keeper := by rw [Block.noteSat_keeper, gone, Block.dropGone_keeper, Block.at_keeper]
    obtain ⟨k, sums, kept⟩ := Block.takeChop_keeps (e := ⟨t, if s.blk.lanes.currentKept = 2 then [] else (c.corrected 32 t first).map (·.1),
      if s.blk.lanes.currentKept = 1 then [] else (c.corrected 33 t second).map (·.1), beyond'⟩) keeper'
    obtain ⟨joined, power⟩ := Block.keepSample_spec (b := (c.noteSat 4 hit).withKeeper k) (t := t) (v := v) (w := w)
      (by rw [Block.withKeeper_win, Block.noteSat_win, win]; exact opened) (by rw [Block.withKeeper_win, Block.noteSat_win, win]; exact none_waits)
    rw [before] at sums
    simp only [Keeper.sums, Prod.mk.injEq, Block.withKeeper_keeper] at joined sums
    obtain ⟨charge, -, nextCharge, nextWeight, total⟩ := joined
    obtain ⟨charge', -, nextCharge', nextWeight', total'⟩ := sums
    have same : (c.noteSat 4 hit).chopSample ⟨t, if s.blk.lanes.currentKept = 2 then [] else (c.corrected 32 t first).map (·.1),
      if s.blk.lanes.currentKept = 1 then [] else (c.corrected 33 t second).map (·.1), beyond'⟩ = v := by
      rw [Block.chopSample_noteSat, sample]
      rfl
    refine ⟨_, rfl, ?_⟩
    rw [taken, kept, same]
    refine ⟨nextCharge.trans (by rw [nextCharge']), nextWeight.trans (by rw [nextWeight']), charge.trans charge', total.trans total', ?_⟩
    rw [power, Block.withKeeper_power, Block.noteSat_power, gone, Block.dropGone_power, Block.at_power]
  · obtain ⟨c, ripple, locked⟩ := mainsTrackerUpdate_locks measuring keeper runs above below strong searches since long
    refine ⟨_, rfl, ?_⟩
    rw [locked]
    refine ⟨?_, Block.get_put_self _ _ _, ?_⟩
    · rw [Block.get_put_other _ _ (by decide), Block.get_put_other _ _ (by decide), Block.get_put_self]
    · rw [Block.get_put_other _ _ (by decide), Block.get_put_other _ _ (by decide), Block.get_put_other _ _ (by decide), ripple]
  · obtain ⟨state, since⟩ := mainsTrackerUpdate_holds (amplitude := amplitude) measuring keeper runs outside serves
    exact ⟨_, rfl, state, since⟩

end Sys2Proof.Machine
end

section
/-! ### A TEST block behind a block that waits (R148, R158, R187)

A block whose tick the meter has not read waits in its FIFO, and its engine takes it in order when the next entry of the lane arrives. The clause on
a block partly under the test switch does not exclude that a block waits before it. -/

namespace Sys2Proof.Machine

/-- A node that measures with N = 128 and switch 1 on, whose first block of channel 1 has ended without a reading of the meter. -/
def waitingNode : State :=
  let b := (Block.fresh Fuses.model .measure).putAll [(Ob.laneAveragingCodeInForce, 7), (Ob.laneTemperature + 1, 250)]
  ⟨[], laneBlock 0 0 (List.replicate 129 0) [] (b.editCh 0 fun c => { c with on := true }), []⟩

/-- The block waits, and channel 1 has no value yet. -/
theorem waitingNode_waits : (waitingNode.blk.fifo 0).map LaneEntry.start = [0] ∧ waitingNode.blk.lanes.blocks[0]? = some 0 := by
  decide +kernel

/-- The block of channel 1 from 256 us on lies partly under the test switch, which closes at 320 us (R158). -/
theorem waitingNode_tests : waitingNode.blk.settingAt 256 = (7, 0) ∧ waitingNode.blk.measuring = true ∧
    ((waitingNode.blk.at (256 + 2 ^ 7)).dropGone).healthBit 0 3 = false ∧
    ((waitingNode.blk.at (256 + 2 ^ 7)).dropGone).testSpan 0 256 (2 ^ 7) = 64 := by
  decide +kernel

/-- At its end the reading is 100 us late and not waited for any longer: the engine takes the first block, and its value is shown. -/
theorem waitingNode_shows : (laneBlock 0 256 (List.replicate 129 0) [] waitingNode.blk).lanes.blocks[0]? = some 2500902 := by
  decide +kernel

/-- Refutes O14: the clause on a block partly under the test switch admits a block that waits before it; at `waitingNode` the TEST block has the
engine take that one, and the channel's value changes (R148). -/
theorem not_laneBlocks : ¬ Obligations.LaneBlocks := by
  intro ⟨_, _, _, partly, _⟩
  obtain ⟨setting, measuring, own, half⟩ := waitingNode_tests
  obtain ⟨unchanged, -⟩ := (partly waitingNode 0 256 (List.replicate 129 0) [] (7, 0) _ setting.symm rfl measuring own
    (half.trans_ne (by decide)) (half.trans_ne (by decide))).of_onBlock (f := laneBlock 0 256 (List.replicate 129 0) []) rfl
  obtain ⟨-, before⟩ := waitingNode_waits
  have after := waitingNode_shows
  rw [unchanged, before] at after
  exact absurd after (by decide)

end Sys2Proof.Machine
end

section
/-! ### Captures and their snapshots (R22, R71, R193–R197, R202) -/

namespace Sys2Proof.Machine

section
variable {b : Block}

/-! #### Entries and edges -/

@[simp] theorem Block.noteEdges_cap (b : Block) (d : List Nat) : (b.noteEdges d).cap = b.cap := by
  obtain ⟨l, i, g, e⟩ := b.noteEdges_frame d; simp [e]
@[simp] theorem Block.noteEdges_bit (b : Block) (d : List Nat) (k i : Nat) : (b.noteEdges d).bit k i = b.bit k i := by
  obtain ⟨l, m, g, e⟩ := b.noteEdges_frame d; simp [e]

/-- Hearing the link changes no state of the power control (R89). -/
@[simp] theorem Block.heard_measuring (b : Block) (p : Port) : (b.heard p).measuring = b.measuring := by
  unfold Block.heard
  split <;> rfl

@[simp] theorem Block.heard_cells (b : Block) (p : Port) : (b.heard p).cells = b.cells := by
  rw [Block.cells, Block.nat_of_get (Block.get_of_dict (b.heard_dict p) _), ← Block.cells]

/-- Entries of the cells put in turn leave an entry alone that is none of theirs. -/
theorem Block.get_putCells_other {base k : Nat} {l : List Nat} {v : Block → Nat → Int} (other : ∀ i ∈ l, k ≠ chKey base i) :
    (l.foldl (fun b i => b.put (chKey base i) (v b i)) b).get k = b.get k :=
  List.foldlRecOn (motive := fun c : Block => c.get k = b.get k) _ _ rfl fun c same i mem => (c.get_put_other _ (other i mem)).trans same

theorem Block.DictOnly.putCells {a : Block} (h : a.DictOnly b) {base : Nat} {l : List Nat} {v : Block → Nat → Int} :
    a.DictOnly (l.foldl (fun b i => b.put (chKey base i) (v b i)) b) :=
  List.foldlRecOn (motive := fun c : Block => a.DictOnly c) _ _ h fun _ h _ _ => h.put _ _

/-! #### A snapshot published (R71, R197) -/

/-- A snapshot writes entries of the dictionary, and from now on waits for its response. -/
theorem Block.publishSnapshot_frame (b : Block) (seq instant tags : Nat) (values : Option (List Int)) (current : Int) :
    ∃ d g, b.publishSnapshot seq instant tags values current = ((b.withDict d).withGov g).withLink { b.link with snapWaits := true } := by
  unfold Block.publishSnapshot
  extract_lets b1 b2 b3 b4
  have h1 : b.DictOnly b1 := .putAll ⟨b.dict, rfl⟩ _
  have h2 : b.DictOnly b2 := by
    unfold b2
    split
    · exact h1
    · extract_lets b5
      have h5 : b.DictOnly b5 := h1.putCells
      split
      · exact h5.put _ _
      · exact h5
  obtain ⟨d, h4⟩ : b.DictOnly b4 := (Block.DictOnly.putCells h2).put _ _ |>.put _ _
  clear_value b4
  subst h4
  exact ⟨d, _, rfl⟩

@[simp] theorem Block.publishSnapshot_cap (b : Block) (seq instant tags : Nat) (values : Option (List Int)) (current : Int) :
    (b.publishSnapshot seq instant tags values current).cap = b.cap := by
  obtain ⟨d, g, e⟩ := b.publishSnapshot_frame seq instant tags values current; simp [e]

@[simp] theorem Block.publishSnapshot_link (b : Block) (seq instant tags : Nat) (values : Option (List Int)) (current : Int) :
    (b.publishSnapshot seq instant tags values current).link = { b.link with snapWaits := true } := by
  obtain ⟨d, g, e⟩ := b.publishSnapshot_frame seq instant tags values current; simp [e]

/-- After the SnapshotStatus has been put, a snapshot of up to 32 cells leaves it alone (R197). -/
theorem Block.get_publishSnapshot {seq instant tags : Nat} {values : Option (List Int)} {current : Int} (few : b.cells ≤ 32) {k : Nat}
    (low : Ob.snapshotStatus ≤ k) (high : k ≤ Ob.snapshotStatusTags) : (b.publishSnapshot seq instant tags values current).get k =
      (b.putAll [(Ob.snapshotStatusSequence, seq), (Ob.snapshotStatusInstant, instant), (Ob.snapshotStatusTags, tags)]).get k := by
  simp only [Ob.snapshotStatus, Ob.snapshotStatusTags] at low high
  unfold Block.publishSnapshot
  extract_lets b1 b2 b3 b4
  have few' : b1.cells ≤ 32 := by
    have same : b1.get Ob.cellCount = b.get Ob.cellCount := Block.get_putAll_other _ b (by simp only [List.forall_mem_cons]; decide)
    rwa [Block.cells, Block.nat_of_get same]
  have h2 : b2.get k = b1.get k := by
    have cells : ∀ i ∈ List.range b1.cells, k ≠ chKey Ob.cellSnapshot i := fun i mem => by
      have := List.mem_range.1 mem
      simp only [chKey, Ob.cellSnapshot]
      omega
    unfold b2
    split
    · rfl
    · extract_lets b5
      have h5 : b5.get k = b1.get k := Block.get_putCells_other cells
      split
      · rw [Block.get_put_other _ _ (by simp only [Ob.snapshotCurrent]; omega), h5]
      · exact h5
  have h3 : b3.get k = b2.get k := Block.get_putCells_other fun i _ => by simp only [chKey, Ob.compatCellCode]; omega
  have h4 : b4.get k = b3.get k := by
    rw [Block.get_put_other _ _ (by simp only [Ob.compatStatus]; omega), Block.get_put_other _ _ (by simp only [Ob.compatTag]; omega)]
  rw [Block.withLink_get, Block.withGov_get, h4, h3, h2]

/-- A snapshot shows its number (R197). -/
theorem Block.publishSnapshot_sequence {seq instant tags : Nat} {values : Option (List Int)} {current : Int} (few : b.cells ≤ 32) :
    (b.publishSnapshot seq instant tags values current).get Ob.snapshotStatusSequence = seq := by
  rw [Block.get_publishSnapshot few (by decide) (by decide)]
  have last : ∀ c : Block, ((c.put Ob.snapshotStatusInstant instant).put Ob.snapshotStatusTags tags).get Ob.snapshotStatusSequence =
      c.get Ob.snapshotStatusSequence := fun c => (Block.get_put_other _ _ (by decide)).trans (c.get_put_other _ (by decide))
  exact (last _).trans (b.get_put_self _ _)

/-- A snapshot shows its tags (R197). -/
theorem Block.publishSnapshot_tags {seq instant tags : Nat} {values : Option (List Int)} {current : Int} (few : b.cells ≤ 32) :
    (b.publishSnapshot seq instant tags values current).get Ob.snapshotStatusTags = tags := by
  rw [Block.get_publishSnapshot few (by decide) (by decide)]
  exact Block.get_put_self _ _ _

/-! #### A capture published (R194, R195, R202) -/

/-- The check of CellDelta registers or clears its fault only (R202). -/
@[simp] theorem Block.deltaCheck_cap (b : Block) (l : List Int) : (b.deltaCheck l).cap = b.cap := by
  unfold Block.deltaCheck
  extract_lets
  split
  · rfl
  · exact Block.follow_cap _ _ _ _

@[inherit_doc Block.deltaCheck_cap, simp]
theorem Block.deltaCheck_link (b : Block) (l : List Int) : (b.deltaCheck l).link = b.link := by
  unfold Block.deltaCheck
  extract_lets
  split
  · rfl
  · exact Block.follow_link _ _ _ _

@[inherit_doc Block.deltaCheck_cap]
theorem Block.get_deltaCheck_below {l : List Int} {k : Nat} (low : k ≤ Ob.faultLive) : (b.deltaCheck l).get k = b.get k := by
  unfold Block.deltaCheck Block.follow
  extract_lets
  split
  · rfl
  · extract_lets
    split
    · rfl
    · exact Block.get_clearLive_below _ low

/-- LaneAveraging at its boundary is a matter of the lanes (R145). -/
theorem Block.averagingBoundary_frame (b : Block) : ∃ l, b.averagingBoundary = b.withLanes l := by
  unfold Block.averagingBoundary
  split <;> exact ⟨_, rfl⟩

/-- A capture published leaves the captures alone; which of them it was, the command says. -/
@[simp] theorem Block.publishCapture_cap (b : Block) (r : Capture) (l : List Int) : (b.publishCapture r l).cap = b.cap := by
  unfold Block.publishCapture
  extract_lets _ _ _ _ b1 b2
  have h2 : b2.cap = b.cap := (b1.publishSnapshot_cap _ _ _ _ _).trans (b.noteSat_cap _ _)
  split
  · exact (b2.deltaCheck_cap l).trans h2
  · exact h2

/-- The response to the SNAP waits for the snapshot, which has come (R320). -/
theorem Block.publishCapture_link (b : Block) (r : Capture) (l : List Int) :
    (b.publishCapture r l).link = { b.link with snapWaits := true } := by
  unfold Block.publishCapture
  extract_lets _ _ _ _ b1 b2
  have h2 : b2.link = { b.link with snapWaits := true } := by rw [b1.publishSnapshot_link, b.noteSat_link]
  split
  · exact (b2.deltaCheck_link l).trans h2
  · exact h2

/-- A capture published shows its number (R197). -/
theorem Block.publishCapture_sequence {r : Capture} {l : List Int} (few : b.cells ≤ 32) :
    (b.publishCapture r l).get Ob.snapshotStatusSequence = r.seq := by
  unfold Block.publishCapture
  extract_lets _ _ _ _ b1 b2
  have shown : b2.get Ob.snapshotStatusSequence = r.seq := Block.publishSnapshot_sequence (by rwa [Block.noteSat_cells])
  split
  · exact (Block.get_deltaCheck_below (by decide)).trans shown
  · exact shown

/-- What a capture published shows, with whatever captures are left, whether or not a change of LaneAveraging follows (R145, R194, R195, R197). -/
theorem Block.publishCapture_shows {r : Capture} {l : List Int} {c : Captures} (few : b.cells ≤ 32) {x y : Block}
    (left : y = (b.publishCapture r l).withCap c) (after : x = if y.win.mode = 4 then y.averagingBoundary else y) :
    x.cap = c ∧ x.get Ob.snapshotStatusSequence = r.seq ∧ x.link.snapWaits = true := by
  obtain ⟨v, boundary⟩ := y.averagingBoundary_frame
  have shown : y.cap = c ∧ y.get Ob.snapshotStatusSequence = r.seq ∧ y.link.snapWaits = true := by
    rw [left, Block.withCap_cap, Block.withCap_get, Block.withCap_link, Block.publishCapture_link]
    exact ⟨rfl, Block.publishCapture_sequence few, rfl⟩
  rw [after]
  split
  · rw [boundary, Block.withLanes_cap, Block.withLanes_get, Block.withLanes_link]
    exact shown
  · exact shown

/-! #### A SNAP (R193, R195, R196) -/

@[simp] theorem Block.quietForCapture_cap (b : Block) : b.quietForCapture.cap = b.cap := by
  unfold Block.quietForCapture
  split
  · exact foldl_keeps Block.cap (fun c i => c.editCh_cap i _) _ _
  · rfl

@[simp] theorem Block.quietForCapture_link (b : Block) : b.quietForCapture.link = b.link := by
  unfold Block.quietForCapture
  split
  · exact foldl_keeps Block.link (fun c i => c.editCh_link i _) _ _
  · rfl

/-- Where no capture runs, none has come to its end. -/
theorem Block.settleCaptures_idle (idle : b.cap.running = none) : b.settleCaptures = b := by
  unfold Block.settleCaptures
  simp only [idle, Bool.false_eq_true, if_false]
  rfl

/-- Where none runs, the SNAP's capture does: at its edge as stamped, less the arrival delay, plus 40 us (R193, R197). -/
theorem Block.takeSnap_starts {stamp : Nat} (measuring : b.measuring = true) (idle : b.cap.running = none) :
    (b.takeSnap stamp).cap.seq = (b.cap.seq + 1) % 2 ^ 32 ∧ (b.takeSnap stamp).cap.pending = b.cap.pending ∧
      ∃ r : Capture, (b.takeSnap stamp).cap.running = some r ∧
        (r.instant : Int) = ((onGrid stamp : Int) + 40000000 - b.tb.arrival) % wrapPs ∧ r.seq = (b.takeSnap stamp).cap.seq ∧ r.values = none := by
  unfold Block.takeSnap
  extract_lets instant _ b1 base b2
  have same : b1 = b := Block.settleCaptures_idle idle
  have idle' : b1.cap.running = none := same ▸ idle
  have numbered : b2.cap = b1.nextSnap.cap := b1.nextSnap.quietForCapture_cap
  have number : b2.cap.seq = (b.cap.seq + 1) % 2 ^ 32 := (congrArg Captures.seq numbered).trans (by rw [same]; rfl)
  have pending : b2.cap.pending = b.cap.pending := (congrArg Captures.pending numbered).trans (by rw [same]; rfl)
  have inRange : ((instant.toNat % wrapPs.toNat : Nat) : Int) = instant := by
    rw [Int.natCast_mod, Int.toNat_of_nonneg (Int.emod_nonneg _ (by decide)), Int.toNat_of_nonneg (by decide)]
    exact Int.emod_emod _ _
  rw [if_neg (by simp [measuring])]
  simp only [idle']
  exact ⟨number, pending, _, rfl, inRange, rfl, rfl⟩

/-- Outside Measure and Full a SNAP publishes a STALE snapshot without values (R86, R197). -/
theorem Block.takeSnap_stale {stamp : Nat} (off : b.measuring = false) (few : b.cells ≤ 32) :
    (b.takeSnap stamp).cap.seq = (b.cap.seq + 1) % 2 ^ 32 ∧
      (b.takeSnap stamp).get Ob.snapshotStatusSequence = ((b.cap.seq + 1) % 2 ^ 32 : Nat) ∧
      (b.takeSnap stamp).bit Ob.snapshotStatusTags tagStale = true := by
  unfold Block.takeSnap
  extract_lets instant b1
  rw [if_pos (by simp [off])]
  refine ⟨by rw [Block.publishSnapshot_cap]; rfl, Block.publishSnapshot_sequence few, ?_⟩
  rw [Block.bit, Block.nat, Block.publishSnapshot_tags (b := b1) few, Int.toNat_natCast]
  cases b1.get Ob.clockSourceTimebaseState != 2 <;> decide

/-- The trains of a head are none of a capture's (R333). -/
theorem Block.takeSnap_trains (b : Block) (stamp : Nat) : (b.takeSnap stamp).link.trains = b.link.trains := by
  unfold Block.takeSnap
  extract_lets _ _ _ _ b2
  have h2 : b2.link = b.link := Block.quietForCapture_link _
  split
  · rw [Block.publishSnapshot_link]
    rfl
  · split
    · rw [Block.withCap_link, h2]
    · split
      · rfl
      · extract_lets late b3
        have h3 : b3.link = b2.link := by
          unfold b3
          split
          · exact b2.countUp_link _ _ _
          · rfl
        rw [Block.withCap_link, h3, h2]

/-- A SNAP reaches the captures of a node that is awake, after it has counted as heard (R89). -/
theorem snap_takes {t stamp : Nat} (awake : b.awake = true) :
    snap t stamp b = ((b.at t).heard b.link.headSide).takeSnap stamp := if_pos (by rwa [Block.at_awake])

/-! #### The SYNC pin at the head (R22, R193) -/

@[simp] theorem Block.headPulse_link (b : Block) (c : PulseClass) : (b.headPulse c).link = b.link := by
  unfold Block.headPulse
  extract_lets b1
  have h1 : b1.link = b.link := by
    unfold b1
    split
    · rw [Block.occupyDu_link, Block.sendPulse_link]
    · rfl
  split
  · rw [Block.sendPulse_link, h1]
  · exact h1

/-- With room before the next SYNC the pin's trigger starts a SNAP train (R116, R333). -/
theorem instantTrigger_starts {t : Nat} (awake : b.awake = true) (head : b.isHead = true) (free : b.link.round = none)
    (room : (b.at t).syncRoom (triggerTime 2) = true) : ∃ tr, (instantTrigger t b).link.trains = b.link.trains ++ [tr] ∧ tr.cls = 2 := by
  have started : instantTrigger t b = (b.at t).startTrain 2 false := by
    unfold instantTrigger Block.snapCause Block.request
    simp [awake, head, free, room]
  have opened : ∃ tr, (((b.at t).headPulse (pulseOf (streamClassOf 2))).openTrain 2 false []).link.trains = b.link.trains ++ [tr] ∧
      tr.cls = 2 := ⟨_, by rw [Block.openTrain, if_neg (by decide), Block.withLink_link, Block.headPulse_link, Block.at_link], rfl⟩
  rw [started, Block.startTrain, Block.ownAnswer, if_pos rfl, Block.noteEdges_link, Block.takeSnap_trains]
  exact opened

/-! #### The samples of a capture (R194, R196, R197) -/

/-- Whether balancing may resume is a matter of the governor (R196). -/
@[simp] theorem Block.endQuiet_cap (b : Block) : b.endQuiet.cap = b.cap := by
  unfold Block.endQuiet
  split <;> rfl

/-- A capture that takes its samples flags what saturates, and no more. -/
theorem Block.fillCapture_cap (b : Block) (r : Capture) (cells : List (List Int)) : (b.fillCapture r cells).1.cap = b.cap :=
  foldl_keeps Block.cap (fun c _ => c.noteSat_cap _ _) _ _

/-- It has a value for each cell (R194). -/
theorem Block.fillCapture_values (b : Block) (r : Capture) (cells : List (List Int)) :
    ∃ l : List Int, (b.fillCapture r cells).2.values = some l ∧ l.length = if b.noCells then 0 else b.cells := by
  refine ⟨_, rfl, ?_⟩
  cases b.noCells <;> simp

/-- The capture that runs takes its samples where none before it waits for its own. -/
theorem captureStart_running {t : Nat} {cells : List (List Int)} {r : Capture} (measuring : b.measuring = true)
    (runs : b.cap.running = some r) (waits : r.values = none) (full : ∀ x ∈ b.cap.done, x.values ≠ none) :
    (captureStart t r.seq cells b).cap = { b.cap with running := some ((b.at t).fillCapture r cells).2 } := by
  have opened : r.open' = true := by simp [Capture.open', waits]
  have past : b.cap.done.find? Capture.open' = none :=
    List.find?_eq_none.2 fun x mem => by simpa [Capture.open', Option.isNone_iff_eq_none] using full x mem
  have started : captureStart t r.seq cells b = (((b.at t).fillCapture r cells).1.withCap
      { ((b.at t).fillCapture r cells).1.cap with running := some ((b.at t).fillCapture r cells).2 }).endQuiet := by
    simp only [captureStart, Block.at_cap, runs, Option.any_some, opened, Bool.not_true, Bool.false_eq_true, if_false, Block.at_measuring,
      measuring, past, ne_eq, not_true]
  rw [started, Block.endQuiet_cap, Block.withCap_cap, Block.fillCapture_cap]
  rfl

/-- The only capture past its end takes its samples where none runs. -/
theorem captureStart_done {t : Nat} {cells : List (List Int)} {r : Capture} (measuring : b.measuring = true)
    (idle : b.cap.running = none) (only : b.cap.done = [r]) (waits : r.values = none) :
    (captureStart t r.seq cells b).cap.done = [((b.at t).fillCapture r cells).2] := by
  have first : b.cap.done.find? Capture.open' = some r := by simp [only, Capture.open', waits]
  have started : captureStart t r.seq cells b = (((b.at t).fillCapture r cells).1.withCap { ((b.at t).fillCapture r cells).1.cap with
      done := ((b.at t).fillCapture r cells).1.cap.done.map fun x => if x.seq == r.seq then ((b.at t).fillCapture r cells).2 else x }).endQuiet := by
    simp only [captureStart, Block.at_cap, idle, Option.any_none, Bool.false_eq_true, if_false, Block.at_measuring, measuring, Bool.not_true,
      first, ne_eq, not_true]
  rw [started, Block.endQuiet_cap, Block.withCap_cap, Block.fillCapture_cap, Block.at_cap, only]
  simp

/-- Where none waits past its end, the capture that runs is published once it has its values, and the pending one runs in its place (R195). -/
theorem capturePublish_running {t : Nat} {r : Capture} {l : List Int} (few : b.cells ≤ 32) (past : b.cap.done = [])
    (runs : b.cap.running = some r) (filled : r.values = some l) :
    (capturePublish t b).cap = { b.cap with running := b.cap.pending, pending := none } ∧
      (capturePublish t b).get Ob.snapshotStatusSequence = r.seq ∧ (capturePublish t b).link.snapWaits = true :=
  Block.publishCapture_shows (b := b.at t) (l := l) few rfl (by
    simp only [capturePublish, Block.at_cap, past, runs, filled, Block.publishCapture_cap])

/-- Else the oldest of those past their end is. -/
theorem capturePublish_done {t : Nat} {r : Capture} {rest : List Capture} {l : List Int} (few : b.cells ≤ 32) (oldest : b.cap.done = r :: rest)
    (filled : r.values = some l) : (capturePublish t b).cap = { b.cap with done := rest } ∧
      (capturePublish t b).get Ob.snapshotStatusSequence = r.seq ∧ (capturePublish t b).link.snapWaits = true :=
  Block.publishCapture_shows (b := b.at t) (l := l) few rfl (by
    simp only [capturePublish, Block.at_cap, oldest, filled, Block.publishCapture_cap])

end

/-- Settles O19: each clause is a lemma above. -/
theorem captures : Obligations.Captures := by
  unfold Obligations.Captures
  refine ⟨fun s t stamp measuring idle => ?_, fun s t stamp standby awake few => ?_, fun s t cells r measuring runs waits full => ?_,
    fun s t cells r measuring idle only waits => ?_, fun s t r l past runs filled few => ?_, fun s t r rest l oldest filled few => ?_,
    fun s t awake head free room => ⟨_, rfl, instantTrigger_starts awake head free room⟩⟩
  · have begun := ((s.blk.at t).heard s.blk.link.headSide).takeSnap_starts (stamp := stamp) (by simpa using measuring) (by simpa using idle)
    rw [← snap_takes (Block.awake_of_measuring measuring), ← Block.noteEdges_cap _ [], Block.heard_cap, Block.heard_tb, Block.at_cap] at begun
    exact ⟨(snap t stamp s.blk).noteEdges [], rfl, begun⟩
  · have off : s.blk.measuring = false := by simp [Block.measuring, standby]
    have shown := ((s.blk.at t).heard s.blk.link.headSide).takeSnap_stale (stamp := stamp) (by simpa using off) (by simpa using few)
    rw [← snap_takes awake, ← Block.noteEdges_cap _ [], ← Block.noteEdges_get _ [], ← Block.noteEdges_bit _ [], Block.heard_cap,
      Block.at_cap] at shown
    obtain ⟨seq, status, stale⟩ := shown
    exact ⟨(snap t stamp s.blk).noteEdges [], rfl, seq, status.trans (congrArg Nat.cast seq.symm), stale⟩
  · obtain ⟨l, values, length⟩ := (s.blk.at t).fillCapture_values r cells
    have taken := captureStart_running (cells := cells) (t := t) measuring runs waits full
    exact ⟨captureStart t r.seq cells s.blk, rfl, (congrArg Captures.done taken).trans rfl, _, l, congrArg Captures.running taken, values,
      length, rfl, rfl⟩
  · obtain ⟨l, values, length⟩ := (s.blk.at t).fillCapture_values r cells
    exact ⟨_, rfl, _, l, captureStart_done measuring idle only waits, values, length, rfl, rfl⟩
  · obtain ⟨cap, shown, waits⟩ := capturePublish_running (t := t) few past runs filled
    exact ⟨capturePublish t s.blk, rfl, congrArg Captures.running cap, congrArg Captures.pending cap, shown, waits⟩
  · obtain ⟨cap, shown, waits⟩ := capturePublish_done (t := t) few oldest filled
    exact ⟨capturePublish t s.blk, rfl, congrArg Captures.done cap, (congrArg Captures.running cap).trans rfl, shown, waits⟩

end Sys2Proof.Machine
end

section
/-! ### Channels of the governor and their edges (R113, R246) -/

namespace Sys2Proof.Machine

/-- A fold over a list that holds i establishes what the turn of i sets, where a condition holds from the start, and neither it nor what is set
is spoilt by the turns of the others. -/
theorem foldl_establishes {f : Block → Nat → Block} {holds sets : Block → Prop} {l : List Nat} {i : Nat} (mem : i ∈ l)
    (keeps : ∀ c, ∀ j ∈ l, holds c → holds (f c j)) (turn : ∀ c, holds c → sets (f c i))
    (stays : ∀ c, ∀ j ∈ l, j ≠ i → holds c → sets c → sets (f c j)) {b : Block} (start : holds b) : sets (l.foldl f b) := by
  have after : ∀ (l' : List Nat) (c : Block), (∀ j ∈ l', j ∈ l) → holds c → (i ∈ l' ∨ sets c) → sets (l'.foldl f c) := by
    intro l'
    induction l' with
    | nil => exact fun c _ _ h => h.resolve_left (by simp)
    | cons j t ih =>
      intro c sub held due
      have inList : j ∈ l := sub j List.mem_cons_self
      refine ih (f c j) (fun k mem => sub k (List.mem_cons_of_mem _ mem)) (keeps c j inList held) ?_
      by_cases same : j = i
      · exact .inr (same ▸ turn c held)
      · obtain here | set := due
        · exact .inl ((List.mem_cons.1 here).resolve_left (Ne.symm same))
        · exact .inr (stays c j inList same held set)
  exact after l b (fun _ h => h) start (.inl mem)

section
variable {b : Block}

/-- Rewriting a channel leaves the number of channels alone. -/
@[simp] theorem Block.editCh_length (b : Block) (i : Nat) (f : GovCh → GovCh) : (b.editCh i f).gov.ch.length = b.gov.ch.length := by
  simp only [Block.editCh, Block.withGov_gov, editAt]
  split <;> simp

theorem Block.chan_editCh_other (b : Block) {i j : Nat} (f : GovCh → GovCh) (other : j ≠ i) : (b.editCh i f).chan j = b.chan j := by
  rw [Block.chan_editCh, if_neg fun same => other same.1.symm]

theorem Block.chan_editCh_self {i : Nat} (f : GovCh → GovCh) (present : i < b.gov.ch.length) : (b.editCh i f).chan i = f (b.chan i) := by
  rw [Block.chan_editCh, if_pos ⟨rfl, present⟩]

/-- What holds of every channel, and rewriting keeps, holds of every channel afterwards. -/
theorem Block.forall_editCh {p : GovCh → Prop} (all : ∀ c ∈ b.gov.ch, p c) {i : Nat} {f : GovCh → GovCh} (keeps : ∀ c, p c → p (f c)) :
    ∀ c ∈ (b.editCh i f).gov.ch, p c := by
  simp only [Block.editCh, Block.withGov_gov, editAt]
  split
  · next c here =>
    intro x mem
    obtain old | rfl := List.mem_or_eq_of_mem_set mem
    · exact all x old
    · exact keeps c (all c (List.mem_of_getElem? here))
  · exact all

/-- An edge noted is a channel's, whose switch and holder stay; beside it lanes and E6 keep the record. -/
theorem Block.noteEdge_cases (b : Block) (i x : Nat) : b.noteEdge i x = b ∨ ∃ edges stretches,
    b.noteEdge i x = ((b.withLanes { b.lanes with edges := edges }).withImp { b.imp with stretches := stretches }).editCh i
      fun c => { c with seen := c.on } := by
  unfold Block.noteEdge
  extract_lets
  split
  · exact .inl rfl
  · exact .inr ⟨_, _, rfl⟩

theorem Block.noteEdge_switch (b : Block) (i x j : Nat) :
    ((b.noteEdge i x).chan j).on = (b.chan j).on ∧ ((b.noteEdge i x).chan j).owner = (b.chan j).owner := by
  obtain h | ⟨e, s, h⟩ := b.noteEdge_cases i x
  · rw [h]
    exact ⟨rfl, rfl⟩
  · rw [h, Block.chan_editCh]
    split <;> exact ⟨rfl, rfl⟩

@[simp] theorem Block.noteEdge_length (b : Block) (i x : Nat) : (b.noteEdge i x).gov.ch.length = b.gov.ch.length := by
  obtain h | ⟨e, s, h⟩ := b.noteEdge_cases i x
  · rw [h]
  · rw [h, Block.editCh_length]
    rfl

@[simp] theorem Block.noteEdge_active (b : Block) (i x : Nat) : (b.noteEdge i x).imp.active = b.imp.active := by
  obtain h | ⟨e, s, h⟩ := b.noteEdge_cases i x
  · rw [h]
  · rw [h]
    rfl

@[simp] theorem Block.noteEdges_active (b : Block) (d : List Nat) : (b.noteEdges d).imp.active = b.imp.active := by
  unfold Block.noteEdges
  extract_lets _ b1
  exact foldl_keeps (fun c => c.imp.active) (fun c i => c.noteEdge_active i _) (List.range 32) b1

/-- Edges noted leave every switch with its holder. -/
theorem Block.noteEdges_owners {d : List Nat} {p : Owner → Prop} (all : ∀ c ∈ b.gov.ch, p c.owner) :
    ∀ c ∈ (b.noteEdges d).gov.ch, p c.owner := by
  unfold Block.noteEdges
  extract_lets b1
  refine List.foldlRecOn (motive := fun x : Block => ∀ c ∈ x.gov.ch, p c.owner) _ _ all fun x all i _ => ?_
  obtain h | ⟨e, s, h⟩ := x.noteEdge_cases i (ticksOf x.now + (d[i]?).getD 0)
  · rw [h]
    exact all
  · rw [h]
    exact Block.forall_editCh (p := fun c => p c.owner) all fun _ h => h

end

end Sys2Proof.Machine
end

section
/-! ### ACTIVE excitation (R188, R206, R238, R248, R249) -/

namespace Sys2Proof.Machine

section
variable {b : Block}

/-! #### A sequence starts (R248, R249) -/

/-- What is due when a sequence starts still stands as its settle begins, which is then of all of it. -/
theorem Block.beginSettle_due {x : Nat} {odd even : Option Nat} (due : b.activeTodo ≠ []) :
    ∃ a, (b.beginSettle b.activeTodo x odd even).imp.active = some a ∧ a.todo = b.activeTodo ∧ a.settleAt = x := by
  have all : (b.activeTodo.dropWhile fun y => !b.releaseExcited.stillDue y) = b.activeTodo := by
    refine List.dropWhile_eq_self_iff.2 fun short => ?_
    have stands : b.releaseExcited.stillDue b.activeTodo[0] = true := List.contains_iff_mem.2 (List.getElem_mem short)
    simp [stands]
  unfold Block.beginSettle
  extract_lets c
  rw [show (b.activeTodo.dropWhile fun y => !c.stillDue y) = b.activeTodo from all]
  split
  · next none_due => exact absurd none_due due
  · next k isEven rest todo => exact ⟨_, rfl, todo.symm, rfl⟩

theorem activeSequenceStart_starts {t : Nat} (works : b.e6Works = true) (cells : b.noCells = false) (allowed : b.activeStopped = false)
    (idle : b.imp.active = none) (due : (b.at t).activeTodo ≠ [])
    (period : t % t48 % (b.nat Ob.impedanceConfigActivePeriod * 1000000) = 0) :
    ∃ a, ((activeSequenceStart t b).noteEdges []).imp.active = some a ∧ a.todo = (b.at t).activeTodo ∧ a.settleAt = 64 * (t % t48) := by
  have works' : (b.at t).e6Works = true := works
  have allowed' : (b.at t).activeStopped = false := allowed
  have begun : activeSequenceStart t b = (b.at t).beginSettle (b.at t).activeTodo (64 * (t % t48)) none none := by
    unfold activeSequenceStart
    exact if_neg (by simp [works', cells, allowed', idle, due, period])
  rw [Block.noteEdges_active, begun]
  exact Block.beginSettle_due due

/-! #### An edge of the excitation (R188, R206, R249) -/

/-- Is a QUIET pause in force now, by the governor's window or by the schedule (R188)? -/
def Block.paused (b : Block) : Bool := b.gov.quietWindow || b.quietPause b.now

/-- An on command reaches the switch outside the QUIET pauses; without one the switch goes off. -/
theorem Block.excite_eq (b : Block) (i : Nat) (on : Bool) : b.excite i on =
    if on && !b.paused then b.turnOn i .excitation else b.editCh i fun c => { c.dark with owner := .excitation } := rfl

theorem Block.excite_edits (b : Block) (i : Nat) (on : Bool) : ∃ f, b.excite i on = b.editCh i f := by
  rw [Block.excite_eq]
  split <;> exact ⟨_, rfl⟩

/-- A block whose channels, whose record of edges and whose E6 are others. -/
def Block.rewired (b : Block) (g : Gov) (e : List SwitchEdge) (m : Imp) : Block :=
  ((b.withLanes { b.lanes with edges := e }).withImp m).withGov g

theorem Block.nextSpan_rewired (b : Block) (g : Gov) (e : List SwitchEdge) (m : Imp) (w : Window) :
    (b.rewired g e m).nextSpan w = b.nextSpan w := rfl

theorem Block.firstSpan_rewired (b : Block) (g : Gov) (e : List SwitchEdge) (m : Imp) (x : Nat) :
    (b.rewired g e m).firstSpan x = b.firstSpan x := rfl

theorem Block.loadWindowSettings_rewired (b : Block) (g : Gov) (e : List SwitchEdge) (m : Imp) :
    (b.rewired g e m).loadWindowSettings = b.loadWindowSettings.rewired g e m := by
  unfold Block.loadWindowSettings
  extract_lets _ _ _ shown _ c
  exact (apply_ite (fun d : Block => d.rewired g e m) (shown = true) c.showNominal c).symm

/-- The schedule of the windows reads none of them. -/
theorem Block.upcoming_rewired (b : Block) (g : Gov) (e : List SwitchEdge) (m : Imp) : (b.rewired g e m).upcoming = b.upcoming := by
  have now : (b.rewired g e m).now = b.now := rfl
  have startAt : (b.rewired g e m).lanes.startAt = b.lanes.startAt := rfl
  have measuring : (b.rewired g e m).measuring = b.measuring := rfl
  have win : (b.rewired g e m).win = b.win := rfl
  simp only [Block.upcoming, Block.loadWindowSettings_rewired, Block.nextSpan_rewired, Block.firstSpan_rewired, now, startAt, measuring, win]

theorem Block.paused_rewired (b : Block) {g : Gov} (e : List SwitchEdge) (m : Imp) (same : g.quietWindow = b.gov.quietWindow) :
    (b.rewired g e m).paused = b.paused := by
  have since : (b.rewired g e m).pauseSince b.now = b.pauseSince b.now := by
    unfold Block.pauseSince
    rw [Block.upcoming_rewired]
    rfl
  have schedule : (b.rewired g e m).quietPause b.now = b.quietPause b.now := by
    unfold Block.quietPause
    rw [since]
    rfl
  exact congrArg₂ or same schedule

/-- The turn of channel i at an edge: excitation takes the switch and its edge is noted. -/
def Block.exciteTurn (on : Bool) (x : Nat) (b : Block) (i : Nat) : Block := (b.excite i on).noteEdge i x

section
variable {on : Bool} {x i j : Nat}

theorem Block.exciteTurn_on : ((b.exciteTurn on x i).chan j).on = ((b.excite i on).chan j).on := (Block.noteEdge_switch _ _ _ _).1

theorem Block.exciteTurn_owner : ((b.exciteTurn on x i).chan j).owner = ((b.excite i on).chan j).owner :=
  (Block.noteEdge_switch _ _ _ _).2

theorem Block.exciteTurn_length : (b.exciteTurn on x i).gov.ch.length = b.gov.ch.length := by
  obtain ⟨f, e⟩ := b.excite_edits i on
  rw [Block.exciteTurn, Block.noteEdge_length, e, Block.editCh_length]

/-- Whether a pause is in force, a turn does not say. -/
theorem Block.exciteTurn_paused : (b.exciteTurn on x i).paused = b.paused := by
  obtain ⟨f, e⟩ := b.excite_edits i on
  obtain h | ⟨l, s, h⟩ := (b.excite i on).noteEdge_cases i x
  · rw [Block.exciteTurn, h, e]
    exact b.paused_rewired b.lanes.edges b.imp rfl
  · rw [Block.exciteTurn, h, e]
    exact b.paused_rewired l { b.imp with stretches := s } rfl

/-- The turn of one channel leaves the others' switches to their holders. -/
theorem Block.exciteTurn_other (other : j ≠ i) :
    ((b.exciteTurn on x i).chan j).on = (b.chan j).on ∧ ((b.exciteTurn on x i).chan j).owner = (b.chan j).owner := by
  obtain ⟨f, e⟩ := b.excite_edits i on
  rw [Block.exciteTurn_on, Block.exciteTurn_owner, e, Block.chan_editCh_other _ _ other]
  exact ⟨rfl, rfl⟩

/-- Excitation holds the switch whose turn it was (R217). -/
theorem Block.exciteTurn_holds (present : i < b.gov.ch.length) : ((b.exciteTurn on x i).chan i).owner = .excitation := by
  rw [Block.exciteTurn_owner, Block.excite_eq]
  split
  · rw [Block.turnOn, Block.chan_editCh_self _ present, GovCh.onFor]
    split
    · rfl
    · split <;> rfl
  · rw [Block.chan_editCh_self _ present]

/-- Without an on command, or in a QUIET pause, it does not conduct (R188). -/
theorem Block.exciteTurn_dark (present : i < b.gov.ch.length) (held : on = false ∨ b.paused = true) :
    ((b.exciteTurn on x i).chan i).on = false := by
  rw [Block.exciteTurn_on, Block.excite_eq, if_neg (by obtain rfl | paused := held <;> simp [*]), Block.chan_editCh_self _ present]
  rfl

/-- An on command outside the pauses has it conduct where no neighbour does (R206). -/
theorem Block.exciteTurn_conducts (present : i < b.gov.ch.length) (running : b.paused = false) (alone : b.interlocked i = false) :
    ((b.exciteTurn true x i).chan i).on = true := by
  rw [Block.exciteTurn_on, Block.excite_eq, if_pos (by simp [running]), Block.turnOn, Block.chan_editCh_self _ present, alone,
    if_neg (by simp), GovCh.onFor]
  split
  · assumption
  · rfl

/-- The interlock of a switch is a matter of its neighbours. -/
theorem Block.exciteTurn_interlocked (above : j ≠ i + 1) (below : j + 1 ≠ i) : (b.exciteTurn on x j).interlocked i = b.interlocked i := by
  have up : ((b.exciteTurn on x j).chan (i + 1)).on = (b.chan (i + 1)).on := (Block.exciteTurn_other (by omega)).1
  rw [Block.interlocked, Block.interlocked, up]
  by_cases first : 1 ≤ i
  · rw [(Block.exciteTurn_other (b := b) (on := on) (x := x) (i := j) (j := i - 1) (by omega)).1]
  · simp [first]

/-! After the turns of a list of channels: -/

variable {l : List Nat}

theorem Block.excited_holds (mem : i ∈ l) (present : i < b.gov.ch.length) : ((l.foldl (Block.exciteTurn on x) b).chan i).owner = .excitation :=
  foldl_establishes (holds := fun c => i < c.gov.ch.length) (sets := fun c => (c.chan i).owner = .excitation) mem
    (fun _ _ _ h => Block.exciteTurn_length.symm ▸ h) (fun _ h => Block.exciteTurn_holds h)
    (fun _ _ _ other _ set => (Block.exciteTurn_other other.symm).2.trans set) present

theorem Block.excited_dark (mem : i ∈ l) (present : i < b.gov.ch.length) (held : on = false ∨ b.paused = true) :
    ((l.foldl (Block.exciteTurn on x) b).chan i).on = false :=
  foldl_establishes (holds := fun c => i < c.gov.ch.length ∧ (on = false ∨ c.paused = true)) (sets := fun c => (c.chan i).on = false) mem
    (fun _ _ _ ⟨present, held⟩ => ⟨Block.exciteTurn_length.symm ▸ present, Block.exciteTurn_paused.symm ▸ held⟩)
    (fun _ ⟨present, held⟩ => Block.exciteTurn_dark present held)
    (fun _ _ _ other _ set => (Block.exciteTurn_other other.symm).1.trans set) ⟨present, held⟩

theorem Block.excited_conducts (mem : i ∈ l) (present : i < b.gov.ch.length) (running : b.paused = false) (alone : b.interlocked i = false)
    (apart : ∀ j ∈ l, j + 1 ≠ i ∧ j ≠ i + 1) : ((l.foldl (Block.exciteTurn true x) b).chan i).on = true :=
  foldl_establishes (holds := fun c => i < c.gov.ch.length ∧ c.paused = false ∧ c.interlocked i = false)
    (sets := fun c => (c.chan i).on = true) mem
    (fun _ j mem ⟨present, running, alone⟩ => ⟨Block.exciteTurn_length.symm ▸ present, Block.exciteTurn_paused.trans running,
      (Block.exciteTurn_interlocked (apart j mem).2 (apart j mem).1).trans alone⟩)
    (fun _ ⟨present, running, alone⟩ => Block.exciteTurn_conducts present running alone)
    (fun _ _ _ other _ set => (Block.exciteTurn_other other.symm).1.trans set) ⟨present, running, alone⟩

end

/-- Does a half period conduct: the even ones do, up to the interval's end, unless excitation is stopped (R238, R249)? -/
def ActiveSeq.conducts (a : ActiveSeq) (stopped : Bool) (half : Nat) : Bool :=
  half % 2 == 0 && decide (a.edgeAt half * 64 < a.stop * 400) && !stopped

/-- At an edge each channel that the sequence excites has its turn. -/
theorem excitationEdge_turns {t half : Nat} {a : ActiveSeq} (runs : b.imp.active = some a) (all : a.lost = [])
    (nearest : half = a.halfAt (t % t48)) : excitationEdge t b =
      a.excited.foldl (Block.exciteTurn (a.conducts b.activeStopped half) (a.edgeAt half % (400 * t48))) (b.at t) := by
  rw [nearest]
  unfold excitationEdge
  simp only [Block.at_imp, runs, all, List.contains_nil, Bool.false_eq_true, if_false]
  rfl

/-! #### Excitation discarded (R238) -/

theorem Block.staleTemps_gov (b : Block) (k : Nat) (p : Nat → Bool) : (b.staleTemps k p).gov = b.gov := by
  unfold Block.staleTemps
  split
  · refine foldl_keeps Block.gov (fun c i => ?_) _ _
    split <;> rfl
  · rfl

/-- With the sequence gone its switches are released, and the governor has nothing else of it. -/
theorem Block.discardActive_gov {a : ActiveSeq} (runs : b.imp.active = some a) : b.discardActive.gov = b.releaseExcited.gov := by
  unfold Block.discardActive Block.dropActive
  rw [runs]
  dsimp only
  split
  · rfl
  · exact Block.staleTemps_gov _ _ _

theorem Block.discardActive_active (b : Block) : b.discardActive.imp.active = none := by
  unfold Block.discardActive
  split
  · assumption
  · rfl

theorem Block.releaseExcited_owners (b : Block) : ∀ c ∈ b.releaseExcited.gov.ch, c.owner ≠ .excitation := by
  unfold Block.releaseExcited
  simp only [Block.withGov_gov, List.mem_map]
  rintro c ⟨d, -, rfl⟩
  split
  · exact Owner.noConfusion
  · next other => simpa using other

theorem activeIntervalDiscard_releases {a : ActiveSeq} (stopped : b.activeStopped = true) (runs : b.imp.active = some a) :
    (activeIntervalDiscard b).imp.active = none ∧ ∀ c ∈ (activeIntervalDiscard b).gov.ch, c.owner ≠ .excitation := by
  rw [activeIntervalDiscard, if_pos stopped]
  refine ⟨by rw [Block.noteEdges_active, Block.discardActive_active], Block.noteEdges_owners (p := (· ≠ .excitation)) ?_⟩
  rw [Block.discardActive_gov runs]
  exact b.releaseExcited_owners

end

end Sys2Proof.Machine
end

section
/-! ### AutoBalance (R265) -/

namespace Sys2Proof.Machine

section
variable {b : Block}

/-- The entries beside BalanceTarget that a session's start or end writes for channel j (R211). -/
def sessionKeys (j : Nat) : List Nat :=
  [chKey Ob.balanceRemoved j, chKey Ob.sessionTimer j, chKey Ob.channelState j, chKey Ob.sessionRemoved j]

/-- From a to b the session of channel j has been worked, and no more. -/
structure Block.WorksSession (j : Nat) (a b : Block) : Prop where
  table : b.socTable = a.socTable
  chan : ∀ i, i ≠ j → b.chan i = a.chan i
  get : ∀ k, k ∉ sessionKeys j → b.get k = a.get k

section
variable {a : Block} {j : Nat}

theorem Block.WorksSession.refl (b : Block) : b.WorksSession j b := ⟨rfl, fun _ _ => rfl, fun _ _ => rfl⟩

theorem Block.WorksSession.put (h : a.WorksSession j b) {k : Nat} {v : Int} (mem : k ∈ sessionKeys j) : a.WorksSession j (b.put k v) :=
  ⟨h.table, h.chan, fun l out => (b.get_put_other v fun same : l = k => out (same.symm ▸ mem)).trans (h.get l out)⟩

theorem Block.WorksSession.editCh (h : a.WorksSession j b) {f : GovCh → GovCh} : a.WorksSession j (b.editCh j f) :=
  ⟨h.table, fun i other => (b.chan_editCh_other f other).trans (h.chan i other), h.get⟩

theorem Block.WorksSession.endSession (h : a.WorksSession j b) {state : Nat} : a.WorksSession j (b.endSession j state) := h.editCh

theorem Block.WorksSession.publishCharge (h : a.WorksSession j b) : a.WorksSession j (b.publishCharge j) :=
  (h.put (by simp [sessionKeys])).put (by simp [sessionKeys])

/-- A target written is put, and the channel's session follows it (R211). -/
theorem Block.targetWritten_works (b : Block) (j : Nat) (mC : Int) :
    (b.put (chKey Ob.balanceTarget j) mC).WorksSession j (b.targetWritten j mC) := by
  have start := Block.WorksSession.refl (j := j) (b.put (chKey Ob.balanceTarget j) mC)
  unfold Block.targetWritten
  extract_lets c b1 t b2
  split
  · exact start
  · split
    · exact start.endSession
    · split
      · exact (start.editCh.put (by simp [sessionKeys])).publishCharge
      · split
        · exact start.endSession.put (by simp [sessionKeys])
        · split
          · split
            · exact start.editCh
            · exact start
          · exact start.editCh

end

/-- The entries that decide what AutoBalance writes for channel i. -/
def autoKeys (i : Nat) : List Nat :=
  [Ob.cellCount, Ob.autoBalanceManualMask, Ob.autoBalanceDeadband, Ob.autoBalanceMinSession, Ob.autoBalanceMaxUncertainty,
    Ob.chainSocMinimumValue, chKey Ob.cellSoc i, chKey Ob.socUncertainty i]

/-- From a to b nothing has changed that decides what AutoBalance writes for channel i. -/
structure Block.SameAuto (i : Nat) (a b : Block) : Prop where
  table : b.socTable = a.socTable
  chan : b.chan i = a.chan i
  get : ∀ k ∈ autoKeys i, b.get k = a.get k

section
variable {a : Block} {i : Nat}

theorem Block.SameAuto.managed (h : a.SameAuto i b) : b.managed i = a.managed i := by
  have mask : b.bit Ob.autoBalanceManualMask i = a.bit Ob.autoBalanceManualMask i :=
    congrArg (bitOf · i) (Block.nat_of_get (h.get _ (by simp [autoKeys])))
  have cells : b.cells = a.cells := Block.nat_of_get (h.get _ (by simp [autoKeys]))
  rw [Block.managed, Block.managed, mask, cells, h.chan]

theorem Block.SameAuto.autoTarget (h : a.SameAuto i b) : b.autoTarget i = a.autoTarget i := by
  have capacity : b.capacity = a.capacity := by rw [Block.capacity, h.table, ← Block.capacity]
  simp only [Block.autoTarget, capacity, h.chan, h.get (chKey Ob.cellSoc i) (by simp [autoKeys]),
    h.get Ob.chainSocMinimumValue (by simp [autoKeys]), h.get Ob.autoBalanceDeadband (by simp [autoKeys]),
    h.get Ob.autoBalanceMinSession (by simp [autoKeys])]

/-- They are none of those that a session writes. -/
theorem autoKeys_apart {j k : Nat} (few : j < 32) (mem : k ∈ autoKeys i) : k ≠ chKey Ob.balanceTarget j ∧ k ∉ sessionKeys j := by
  have below : ∀ l ∈ chKey Ob.balanceTarget j :: sessionKeys j, Ob.balanceTarget < l ∧ l < Ob.analysisFrequencies := by
    simp only [sessionKeys, List.forall_mem_cons, chKey, Ob.balanceTarget, Ob.balanceRemoved, Ob.sessionTimer, Ob.channelState, Ob.sessionRemoved,
      Ob.analysisFrequencies]
    refine ⟨?_, ?_, ?_, ?_, ?_, by simp⟩ <;> omega
  have outside : k ≤ Ob.balanceTarget ∨ Ob.analysisFrequencies ≤ k := by
    revert k
    simp only [autoKeys, List.forall_mem_cons, chKey, Ob.balanceTarget, Ob.analysisFrequencies, Ob.cellSoc, Ob.socUncertainty]
    refine ⟨by decide, by decide, by decide, by decide, by decide, by decide, ?_, ?_, by simp⟩ <;> omega
  have apart : k ∉ chKey Ob.balanceTarget j :: sessionKeys j := fun mem => by have := below k mem; omega
  exact not_or.1 (mt List.mem_cons.2 apart)

/-- What is written for one channel decides nothing for another. -/
theorem Block.SameAuto.targetWritten (h : a.SameAuto i b) {j : Nat} {mC : Int} (few : j < 32) (other : i ≠ j) :
    a.SameAuto i (b.targetWritten j mC) := by
  have works := b.targetWritten_works j mC
  refine ⟨works.table.trans h.table, (works.chan i other).trans h.chan, fun k mem => ?_⟩
  obtain ⟨target, session⟩ := autoKeys_apart few mem
  rw [works.get k session, b.get_put_other _ target, h.get k mem]

end

/-- The turn of channel i in a period of AutoBalance (R265). -/
def Block.autoTurn (b : Block) (i : Nat) : Block :=
  if !b.managed i || b.get Ob.autoBalanceMaxUncertainty < b.get (chKey Ob.socUncertainty i) then b
  else match b.autoTarget i with
    | some mC => b.targetWritten i mC
    | none => b

theorem Block.autoTurn_cases (b : Block) (i : Nat) : b.autoTurn i = b ∨ ∃ mC, b.autoTurn i = b.targetWritten i mC := by
  unfold Block.autoTurn
  split
  · exact .inl rfl
  · split
    · exact .inr ⟨_, rfl⟩
    · exact .inl rfl

/-- BalanceTarget is none of the entries that a session writes. -/
theorem balanceTarget_apart {i j : Nat} (few : i < 32) (few' : j < 32) : chKey Ob.balanceTarget i ∉ sessionKeys j := by
  simp only [sessionKeys, List.mem_cons, List.not_mem_nil, or_false, chKey, Ob.balanceTarget, Ob.balanceRemoved, Ob.sessionTimer,
    Ob.channelState, Ob.sessionRemoved]
  omega

/-- A target written for a channel is its BalanceTarget (R211). -/
theorem Block.get_targetWritten_self (b : Block) {i : Nat} (few : i < 32) (mC : Int) :
    (b.targetWritten i mC).get (chKey Ob.balanceTarget i) = mC :=
  ((b.targetWritten_works i mC).get _ (balanceTarget_apart few few)).trans (b.get_put_self _ _)

/-- The turn of another channel leaves it alone. -/
theorem Block.get_autoTurn_other (b : Block) {i j : Nat} (few : i < 32) (few' : j < 32) (other : i ≠ j) :
    (b.autoTurn j).get (chKey Ob.balanceTarget i) = b.get (chKey Ob.balanceTarget i) := by
  obtain h | ⟨mC, h⟩ := b.autoTurn_cases j
  · rw [h]
  · rw [h, (b.targetWritten_works j mC).get _ (balanceTarget_apart few few')]
    exact b.get_put_other _ (by simpa [chKey] using other)

theorem Block.SameAuto.autoTurn {a : Block} {i j : Nat} (h : a.SameAuto i b) (few : j < 32) (other : i ≠ j) : a.SameAuto i (b.autoTurn j) := by
  obtain same | ⟨mC, same⟩ := b.autoTurn_cases j
  · rw [same]
    exact h
  · rw [same]
    exact h.targetWritten few other

/-- In a period while AutoBalance runs, each channel has its turn. -/
theorem autobalancePeriod_turns {t : Nat} (runs : b.autoState = 1) (works : b.e6Works = true) (cells : b.noCells = false)
    (capacity : b.capacity ≠ 0) (period : t % t48 % (b.nat Ob.autoBalancePeriod * 1000000) = 0) :
    autobalancePeriod t b = (List.range b.cells).foldl Block.autoTurn (b.at t) := by
  have runs' : (b.at t).autoState = 1 := runs
  have works' : (b.at t).e6Works = true := works
  have capacity' : (b.at t).capacity ≠ 0 := capacity
  unfold autobalancePeriod
  exact if_neg (by simp [runs', works', cells, capacity', period])

/-- Of the turns in a period, those before channel i's decide nothing for it, and those after leave its target alone: a managed channel whose
state of charge is certain enough has its target written (R265). -/
theorem Block.autoTurns_write {i : Nat} {mC : Int} (few : b.cells ≤ 32) (cell : i < b.cells) (managed : b.managed i = true)
    (certain : b.get (chKey Ob.socUncertainty i) ≤ b.get Ob.autoBalanceMaxUncertainty) (target : b.autoTarget i = some mC) :
    ((List.range b.cells).foldl Block.autoTurn b).get (chKey Ob.balanceTarget i) = mC := by
  obtain ⟨before, after, split⟩ := List.append_of_mem (List.mem_range.2 cell)
  have once : i ∉ before ++ after := by
    have nodup := List.nodup_range (n := b.cells)
    rw [split] at nodup
    exact (List.nodup_cons.1 (List.nodup_middle.1 nodup)).1
  have others : ∀ j ∈ before ++ after, j < 32 ∧ i ≠ j := fun j mem => by
    have inRange : j ∈ List.range b.cells := by
      rw [split]
      simp only [List.mem_append, List.mem_cons] at mem ⊢
      tauto
    exact ⟨(List.mem_range.1 inRange).trans_le few, fun same => once (same ▸ mem)⟩
  have same : b.SameAuto i (before.foldl Block.autoTurn b) :=
    List.foldlRecOn (motive := fun c : Block => b.SameAuto i c) _ _ ⟨rfl, rfl, fun _ _ => rfl⟩ fun c h j mem =>
      h.autoTurn (others j (List.mem_append_left _ mem)).1 (others j (List.mem_append_left _ mem)).2
  have written : ((before.foldl Block.autoTurn b).autoTurn i).get (chKey Ob.balanceTarget i) = mC := by
    rw [Block.autoTurn, same.managed, managed, same.get _ (by simp [autoKeys]), same.get _ (by simp [autoKeys]),
      if_neg (by simpa using certain), same.autoTarget, target]
    exact Block.get_targetWritten_self _ (cell.trans_le few) mC
  rw [split, List.foldl_append, List.foldl_cons]
  exact List.foldlRecOn (motive := fun c : Block => c.get (chKey Ob.balanceTarget i) = mC) _ _ written fun c h j mem =>
    (c.get_autoTurn_other (cell.trans_le few) (others j (List.mem_append_right _ mem)).1 (others j (List.mem_append_right _ mem)).2).trans h

end

end Sys2Proof.Machine
end

section
/-! ### What the head reads of its chain (R241, R264, R331) -/

namespace Sys2Proof.Machine

section
variable {b : Block}

/-- A frame of the head touches ports and their record only. -/
theorem Block.sendOn_frame (b : Block) (p : Port) (f : List Byte) : ∃ v o, b.sendOn p f = (b.withPhys v).withOut o := by
  unfold Block.sendOn
  split
  · extract_lets b1
    have h1 : ∃ v, b1 = b.withPhys v := by
      unfold b1
      split
      · exact ⟨_, rfl⟩
      · exact ⟨b.phys, rfl⟩
    obtain ⟨v, h1⟩ := h1
    exact ⟨v, _, by rw [h1]; rfl⟩
  · exact ⟨b.phys, b.out, rfl⟩

/-- CHAIN_CONFIG sent, or due after a census round, is a matter of the link and the ports. -/
theorem Block.sendChainConfig_frame (b : Block) : ∃ l v o, b.sendChainConfig = ((b.withLink l).withPhys v).withOut o := by
  unfold Block.sendChainConfig Block.broadcast
  split
  · exact ⟨{ b.link with configDue := true }, b.phys, b.out, rfl⟩
  · extract_lets f _ b1 b2
    obtain ⟨v, o, h2⟩ : ∃ v o, b2 = (b1.withPhys v).withOut o := b1.sendOn_frame .du f
    split
    · obtain ⟨v', o', h3⟩ := b2.sendOn_frame .dl f
      exact ⟨b1.link, v', o', by rw [h3, h2]; rfl⟩
    · exact ⟨b1.link, v, o, by rw [h2]; rfl⟩

/-- Once the head has read its chain's set, it holds four entries with the integration time and step current read with them (R241). -/
theorem analysisSetRead_reads {p time : Nat} {frequencies sources : List Nat} {step : Int} (awake : b.awake = true) (head : b.isHead = true)
    (far : p ≠ 0) : (analysisSetRead p frequencies sources time step b).imp.chainTime = time ∧
      (analysisSetRead p frequencies sources time step b).imp.chainStep = step ∧
      (analysisSetRead p frequencies sources time step b).chainSet.length = 4 ∧
      (analysisSetRead p frequencies sources time step b).power = b.power := by
  unfold analysisSetRead
  rw [if_neg (by simp [awake, head])]
  extract_lets own entry set time' current
  have time_read : time' = time := if_neg (by simpa [own] using far)
  have step_read : current = step := if_neg (by simpa [own] using far)
  have four : set.length = 4 := by simp [set]
  split
  · next same =>
    simp only [Bool.and_eq_true, decide_eq_true_eq] at same
    obtain ⟨⟨entries, integration⟩, stepCurrent⟩ := same
    exact ⟨integration.trans time_read, stepCurrent.trans step_read, (congrArg List.length entries).trans four, rfl⟩
  · obtain ⟨l, v, o, sent⟩ := ((b.withChainSet set).withImp { b.imp with chainTime := time', chainStep := current }).sendChainConfig_frame
    rw [sent]
    exact ⟨time_read, step_read, four, rfl⟩

/-- The median of what was read and is not 0 stands at the head from now on, with the number of its own window (R331). -/
theorem medianRsRead_reads {values : List (Nat × List Nat)} (awake : b.awake = true) (head : b.isHead = true) :
    (medianRsRead values b).link.medianSeq = b.nat Ob.windowSequence ∧ (medianRsRead values b).dict = b.dict ∧
      (medianRsRead values b).link.medianRs =
        (if ((values.map fun x => x.2.filter fun v => v != 0).flatten).isEmpty then noValue
         else medianOf (((values.map fun x => x.2.filter fun v => v != 0).flatten).map fun v : Nat => (v : Int))) := by
  unfold medianRsRead
  rw [if_neg (by simp [awake, head])]
  extract_lets l
  refine ⟨rfl, rfl, ?_⟩
  simp only [Block.withLink_link, l, List.isEmpty_map]

end

/-- Settles O22: each clause is a lemma above. -/
theorem excitationAndAutoBalance : Obligations.ExcitationAndAutoBalance := by
  unfold Obligations.ExcitationAndAutoBalance
  refine ⟨fun s t works cells allowed idle due period =>
      ⟨(activeSequenceStart t s.blk).noteEdges [], rfl, activeSequenceStart_starts works cells allowed idle due period⟩,
    fun s t a i half ideal runs all mem present moves half_eq ideal_eq => ?_,
    fun s a stopped runs => ⟨_, rfl, activeIntervalDiscard_releases stopped runs⟩,
    fun s t i mC state works cells capacity few period cell managed certain target => ?_,
    fun s p frequencies sources time step awake head far => ⟨_, rfl, analysisSetRead_reads awake head far⟩,
    fun s values awake head => ⟨_, rfl, medianRsRead_reads awake head⟩⟩
  · have ideal' : ideal = a.edgeAt half := by rw [ideal_eq, ActiveSeq.edgeAt, Nat.max_eq_right (Nat.one_le_iff_ne_zero.2 moves)]
    refine ⟨excitationEdge t s.blk, rfl, ?_⟩
    rw [excitationEdge_turns runs all half_eq, ideal']
    refine ⟨Block.excited_holds mem present, fun held => Block.excited_dark mem present ?_,
      fun even inside allowed window pause alone apart => ?_⟩
    · obtain odd | beyond | window | pause | stopped := held
      · exact .inl (by simp [ActiveSeq.conducts, odd])
      · exact .inl (by simp [ActiveSeq.conducts, Nat.not_lt.2 beyond])
      · exact .inr (by simp [Block.paused, window])
      · exact .inr (by simp [Block.paused, pause])
      · exact .inl (by simp [ActiveSeq.conducts, stopped])
    · have on : a.conducts s.blk.activeStopped half = true := by simp [ActiveSeq.conducts, even, inside, allowed]
      have running : (s.blk.at t).paused = false := by simp [Block.paused, window, pause]
      rw [on]
      exact Block.excited_conducts mem present running alone apart
  · refine ⟨(autobalancePeriod t s.blk).noteEdges [], rfl, (Block.noteEdges_get _ _ _).trans ?_⟩
    rw [autobalancePeriod_turns state works cells capacity period]
    exact Block.autoTurns_write (b := s.blk.at t) few cell managed certain target

end Sys2Proof.Machine
end

section

/-! ### Neighbouring switches never conduct together

The interlock (R206) through every step. Of the whole package only the switches of the governor's channels matter here: an operation on
another part is as good as the block it starts from, one that turns switches off keeps the interlock whatever it turns off, and there are
two ways to turn one on: an on command, which waits while a neighbour conducts (Block.turnOn), and a half of sleep balancing, which begins
with every switch off and turns on channels of one parity. This is said once per operation, in the order of the model; a step inherits it. -/

section

-- The tactic of a default side condition waits for the kernel: elaborated side by side, these lemmas would hold a thread each.
set_option Elab.async false

namespace Sys2Proof.Machine

variable {b : Block}

/-! #### Branches and folds -/

theorem Block.NeighboursOff.ite {c : Prop} [Decidable c] {x y : Block} (hx : x.NeighboursOff) (hy : y.NeighboursOff) :
    (if c then x else y).NeighboursOff := by
  split
  · exact hx
  · exact hy

theorem Block.NeighboursOff.foldl {α : Type} {f : Block → α → Block} (hf : ∀ b x, b.NeighboursOff → (f b x).NeighboursOff) {l : List α}
    (h : b.NeighboursOff) : (l.foldl f b).NeighboursOff :=
  List.foldlRecOn (motive := Block.NeighboursOff) _ _ h fun b hb x _ => hf b x hb

/-! #### The parts of the package -/

/-- The governor replaced by one with the same channels. -/
theorem Block.NeighboursOff.withGov (h : b.NeighboursOff) {v} (same : v.ch = b.gov.ch := by rfl) : (b.withGov v).NeighboursOff :=
  h.same same

theorem Block.NeighboursOff.withTb (h : b.NeighboursOff) {v} : (b.withTb v).NeighboursOff := h
theorem Block.NeighboursOff.withDict (h : b.NeighboursOff) {v} : (b.withDict v).NeighboursOff := h
theorem Block.NeighboursOff.withPower (h : b.NeighboursOff) {v} : (b.withPower v).NeighboursOff := h
theorem Block.NeighboursOff.withBedrock (h : b.NeighboursOff) {v} : (b.withBedrock v).NeighboursOff := h
theorem Block.NeighboursOff.withJournal (h : b.NeighboursOff) {v} : (b.withJournal v).NeighboursOff := h
theorem Block.NeighboursOff.withFlint (h : b.NeighboursOff) {v} : (b.withFlint v).NeighboursOff := h
theorem Block.NeighboursOff.withNvm (h : b.NeighboursOff) {v} : (b.withNvm v).NeighboursOff := h
theorem Block.NeighboursOff.withPhys (h : b.NeighboursOff) {v} : (b.withPhys v).NeighboursOff := h
theorem Block.NeighboursOff.withLanes (h : b.NeighboursOff) {v} : (b.withLanes v).NeighboursOff := h
theorem Block.NeighboursOff.withWin (h : b.NeighboursOff) {v} : (b.withWin v).NeighboursOff := h
theorem Block.NeighboursOff.withCap (h : b.NeighboursOff) {v} : (b.withCap v).NeighboursOff := h
theorem Block.NeighboursOff.withKeeper (h : b.NeighboursOff) {v} : (b.withKeeper v).NeighboursOff := h
theorem Block.NeighboursOff.withAux (h : b.NeighboursOff) {v} : (b.withAux v).NeighboursOff := h
theorem Block.NeighboursOff.withImp (h : b.NeighboursOff) {v} : (b.withImp v).NeighboursOff := h
theorem Block.NeighboursOff.withLink (h : b.NeighboursOff) {v} : (b.withLink v).NeighboursOff := h
theorem Block.NeighboursOff.withAccess (h : b.NeighboursOff) {v} : (b.withAccess v).NeighboursOff := h
theorem Block.NeighboursOff.withHost (h : b.NeighboursOff) {v} : (b.withHost v).NeighboursOff := h
theorem Block.NeighboursOff.withDiag (h : b.NeighboursOff) {v} : (b.withDiag v).NeighboursOff := h
theorem Block.NeighboursOff.withThermal (h : b.NeighboursOff) {v} : (b.withThermal v).NeighboursOff := h
theorem Block.NeighboursOff.withChainSet (h : b.NeighboursOff) {v} : (b.withChainSet v).NeighboursOff := h
theorem Block.NeighboursOff.withSocTable (h : b.NeighboursOff) {v} : (b.withSocTable v).NeighboursOff := h
theorem Block.NeighboursOff.withTempCurve (h : b.NeighboursOff) {v} : (b.withTempCurve v).NeighboursOff := h
theorem Block.NeighboursOff.withOut (h : b.NeighboursOff) {v} : (b.withOut v).NeighboursOff := h
theorem Block.NeighboursOff.withFree (h : b.NeighboursOff) {v} : (b.withFree v).NeighboursOff := h

/-! #### Entries of the dictionary -/

theorem Block.NeighboursOff.put (h : b.NeighboursOff) {k v} : (b.put k v).NeighboursOff := h.withDict
theorem Block.NeighboursOff.countUp (h : b.NeighboursOff) {k n most} : (b.countUp k n most).NeighboursOff := h.put
theorem Block.NeighboursOff.count32 (h : b.NeighboursOff) {k} : (b.count32 k).NeighboursOff := h.countUp
theorem Block.NeighboursOff.putBit (h : b.NeighboursOff) {k i on} : (b.putBit k i on).NeighboursOff := h.put
theorem Block.NeighboursOff.putAll (h : b.NeighboursOff) {l} : (b.putAll l).NeighboursOff := .foldl (fun _ _ h => h.put) h
theorem Block.NeighboursOff.at (h : b.NeighboursOff) {t} : (b.at t).NeighboursOff := h.withTb
theorem Block.NeighboursOff.emit (h : b.NeighboursOff) {e} : (b.emit e).NeighboursOff := h.withOut

/-! #### The journal -/

theorem Block.NeighboursOff.journalWrite (h : b.NeighboursOff) {e sources} : (b.journalWrite e sources).NeighboursOff :=
  .ite h.withJournal.count32 h.withJournal

theorem Block.NeighboursOff.event (h : b.NeighboursOff) {code data} : (b.event code data).NeighboursOff := h.journalWrite

/-! #### Flags and detections -/

theorem Block.NeighboursOff.raise (h : b.NeighboursOff) {source data} : (b.raise source data).NeighboursOff := h.withFlint
theorem Block.NeighboursOff.raiseAtLeast (h : b.NeighboursOff) {source data c} : (b.raiseAtLeast source data c).NeighboursOff := h.withFlint
theorem Block.NeighboursOff.raiseExactly (h : b.NeighboursOff) {source data c} : (b.raiseExactly source data c).NeighboursOff := h.withFlint
theorem Block.NeighboursOff.reason (h : b.NeighboursOff) {r on} : (b.reason r on).NeighboursOff := .ite h h.putBit.put
theorem Block.NeighboursOff.followReasons (h : b.NeighboursOff) : b.followReasons.NeighboursOff := h.reason.reason.reason.reason

theorem Block.NeighboursOff.dropLatch (h : b.NeighboursOff) {s} : (b.dropLatch s).NeighboursOff :=
  .ite h.putBit.withFlint h.putBit.withFlint.putAll

theorem Block.NeighboursOff.clearLive (h : b.NeighboursOff) {s} : (b.clearLive s).NeighboursOff :=
  .ite (.followReasons (.ite h.putBit.dropLatch h.putBit)) h

theorem Block.NeighboursOff.clearEveryLive (h : b.NeighboursOff) : b.clearEveryLive.NeighboursOff := .foldl (fun _ _ h => h.clearLive) h
theorem Block.NeighboursOff.follow (h : b.NeighboursOff) {s data on} : (b.follow s data on).NeighboursOff := .ite h.raise h.clearLive
theorem Block.NeighboursOff.attend (h : b.NeighboursOff) {bit} : (b.attend bit).NeighboursOff := .ite h.putBit h

/-! #### Shared operations -/

/-- A channel rewritten by what turns no switch on. -/
theorem Block.NeighboursOff.edit (h : b.NeighboursOff) {i f}
    (off : ∀ c : GovCh, (f c).on = true → c.on = true := by grind [GovCh.off, GovCh.dark]) : (b.editCh i f).NeighboursOff := h.editCh i off

theorem Block.NeighboursOff.noteSat (h : b.NeighboursOff) {k hit} : (b.noteSat k hit).NeighboursOff := .ite h.withDiag h
theorem Block.NeighboursOff.switchesOff (_ : b.NeighboursOff) : b.switchesOff.NeighboursOff := b.switchesOff_neighboursOff

theorem Block.NeighboursOff.setSending (h : b.NeighboursOff) {p f} : (b.setSending p f).NeighboursOff := by
  unfold Block.setSending
  split <;> exact h.withPhys

theorem Block.NeighboursOff.sendHeld (h : b.NeighboursOff) {p e} : (b.sendHeld p e).NeighboursOff := by
  unfold Block.sendHeld
  extract_lets _ b1
  have h1 : b1.NeighboursOff := by
    unfold b1
    split <;> exact h.withPhys
  exact h1.emit.emit

theorem Block.NeighboursOff.sendPulse (h : b.NeighboursOff) {p c} : (b.sendPulse p c).NeighboursOff := h.sendHeld

theorem Block.NeighboursOff.sendAlarm (h : b.NeighboursOff) : b.sendAlarm.NeighboursOff :=
  .ite h (.ite h.withPhys (.sendPulse (.withPhys (.setSending (.ite h.count32 h)))))

theorem Block.NeighboursOff.setFlt (h : b.NeighboursOff) {low} : (b.setFlt low).NeighboursOff := h.withFlint

theorem Block.NeighboursOff.queueAlarm (h : b.NeighboursOff) {kind position cls source} :
    (b.queueAlarm kind position cls source).NeighboursOff :=
  .ite h.withHost h

theorem Block.NeighboursOff.enterSafe (h : b.NeighboursOff) {cls} : (b.enterSafe cls).NeighboursOff := by
  unfold Block.enterSafe
  extract_lets
  exact .ite (.ite h.switchesOff.put.setFlt.put.sendAlarm.attend.queueAlarm h.switchesOff.put.setFlt.put.sendAlarm)
      h.switchesOff.put.setFlt

theorem Block.NeighboursOff.firstFault (h : b.NeighboursOff) {s base eff data same} : (b.firstFault s base eff data same).NeighboursOff :=
  .ite h h.putAll

theorem Block.NeighboursOff.latch (h : b.NeighboursOff) {s base eff data same} : (b.latch s base eff data same).NeighboursOff :=
  h.firstFault.putBit.withFlint

theorem Block.NeighboursOff.capture (h : b.NeighboursOff) {s base eff data same esc} : (b.capture s base eff data same esc).NeighboursOff :=
  .ite h.withFlint h.withFlint

theorem Block.NeighboursOff.register (h : b.NeighboursOff) {earlier same base d} : (b.register earlier same base d).NeighboursOff := by
  unfold Block.register
  extract_lets _ _ _ _ _ b2 b3 b4
  have h2 : b2.NeighboursOff := .ite h.putBit.withNvm h.putBit
  have h3 : b3.NeighboursOff := .ite h2.count32 h2
  have h4 : b4.NeighboursOff := .ite h3.latch h3
  exact h4.capture

theorem Block.NeighboursOff.repeatOf (h : b.NeighboursOff) {d} : (b.repeatOf d).NeighboursOff := by
  unfold Block.repeatOf
  extract_lets
  split
  · exact .ite h.withFlint h
  · exact h.withJournal

theorem Block.NeighboursOff.faultCycle (h : b.NeighboursOff) : b.faultCycle.NeighboursOff := by
  unfold Block.faultCycle
  extract_lets _ _ _ _ _ _ _ b2 b3 b4 b5
  have h2 : b2.NeighboursOff := .foldl (fun _ _ h => h.register) h.withFlint
  have h3 : b3.NeighboursOff := .foldl (fun _ _ h => h.repeatOf) h2
  have h4 : b4.NeighboursOff := .ite h3.enterSafe h3
  have h5 : b5.NeighboursOff := .foldl (fun _ _ h => .ite h.putBit h) h4
  exact h5.followReasons

theorem Block.NeighboursOff.coalesce_fst (h : b.NeighboursOff) {e} : (b.coalesce e).1.NeighboursOff := by
  unfold Block.coalesce
  split
  · exact h
  · extract_lets
    split
    · exact h.withJournal
    · exact h

theorem Block.NeighboursOff.insertBurst (h : b.NeighboursOff) : b.insertBurst.NeighboursOff := by
  unfold Block.insertBurst
  split
  · exact h
  · exact h.withFlint.putBit.countUp

theorem Block.NeighboursOff.drainOne (h : b.NeighboursOff) : b.drainOne.NeighboursOff := by
  unfold Block.drainOne
  split
  · exact h
  · exact .ite h.withFlint.insertBurst.coalesce_fst h.withFlint.insertBurst.journalWrite

theorem Block.NeighboursOff.drainAll (h : b.NeighboursOff) : b.drainAll.NeighboursOff := .foldl (fun _ _ h => h.drainOne) h
theorem Block.NeighboursOff.sendClose (h : b.NeighboursOff) : b.sendClose.NeighboursOff := .ite (.emit (.ite h.emit h)) (.ite h.emit h)
theorem Block.NeighboursOff.heard (h : b.NeighboursOff) {p} : (b.heard p).NeighboursOff := .ite h.withPower h
theorem Block.NeighboursOff.disarm (h : b.NeighboursOff) : b.disarm.NeighboursOff := .ite h.put h
theorem Block.NeighboursOff.closeTransfers (h : b.NeighboursOff) : b.closeTransfers.NeighboursOff := h.withAccess.withHost
theorem Block.NeighboursOff.judgeDiag (h : b.NeighboursOff) : b.judgeDiag.NeighboursOff := .reason (.ite h h.withLanes)

/-! #### The schedule of the windows -/

theorem Block.NeighboursOff.onWindows (h : b.NeighboursOff) {f} : (b.onWindows f).NeighboursOff := h.withWin
theorem Block.NeighboursOff.flagWindow (h : b.NeighboursOff) {bit} : (b.flagWindow bit).NeighboursOff := h.withWin
theorem Block.NeighboursOff.showNominal (h : b.NeighboursOff) : b.showNominal.NeighboursOff := h.put

theorem Block.NeighboursOff.loadWindowSettings (h : b.NeighboursOff) : b.loadWindowSettings.NeighboursOff :=
  .ite h.withWin.showNominal h.withWin

/-! #### The charge governor -/

theorem Block.NeighboursOff.publishCharge (h : b.NeighboursOff) {i} : (b.publishCharge i).NeighboursOff := h.put.put
theorem Block.NeighboursOff.saturated (h : b.NeighboursOff) {i} : (b.saturated i).NeighboursOff := .ite h.putBit h.putBit.putBit.raise

theorem Block.NeighboursOff.addCharge (h : b.NeighboursOff) {i q} : (b.addCharge i q).NeighboursOff :=
  .ite h.edit.publishCharge.saturated h.edit.publishCharge

theorem Block.NeighboursOff.endSession (h : b.NeighboursOff) {i state} : (b.endSession i state).NeighboursOff := h.edit

theorem Block.NeighboursOff.targetWritten (h : b.NeighboursOff) {i mC} : (b.targetWritten i mC).NeighboursOff := by
  unfold Block.targetWritten
  extract_lets
  exact .ite h.put (.ite h.put.endSession (.ite h.put.edit.put.publishCharge
      (.ite h.put.endSession.putBit (.ite (.ite h.put.edit h.put) h.put.edit))))

theorem Block.NeighboursOff.timerWritten (h : b.NeighboursOff) {i v} : (b.timerWritten i v).NeighboursOff := .ite h.put.endSession h.put

theorem Block.NeighboursOff.enableWritten (h : b.NeighboursOff) {v} : (b.enableWritten v).NeighboursOff :=
  .foldl (fun _ _ h => .ite h h.edit) h.put

theorem Block.NeighboursOff.judgePath (h : b.NeighboursOff) : b.judgePath.NeighboursOff := .ite h.reason h.reason.clearLive

theorem Block.NeighboursOff.pathLimit (h : b.NeighboursOff) {i} : (b.pathLimit i).NeighboursOff :=
  .ite (.ite h h.putBit.judgePath) (.ite h.putBit.reason.raise h)

theorem Block.NeighboursOff.meterInterval (h : b.NeighboursOff) {i reading} : (b.meterInterval i reading).NeighboursOff :=
  .edit (.ite h.onWindows h)

theorem Block.NeighboursOff.updatePass (h : b.NeighboursOff) {i} : (b.updatePass i).NeighboursOff := by
  unfold Block.updatePass
  extract_lets _ b1 _ _ _ _ b2 _ b3 b4
  have h1 : b1.NeighboursOff := .ite h h.edit.addCharge
  have h2 : b2.NeighboursOff := .ite h1.edit h1
  have h3 : b3.NeighboursOff := .ite h2.saturated h2
  have h4 : b4.NeighboursOff := .ite h3.edit h3
  exact .ite h4.pathLimit.edit h4.pathLimit

theorem Block.NeighboursOff.slewTheta (h : b.NeighboursOff) : b.slewTheta.NeighboursOff := h.withGov.put.put

theorem Block.NeighboursOff.tickLaw (h : b.NeighboursOff) : b.tickLaw.NeighboursOff := by
  unfold Block.tickLaw
  extract_lets _ _ b2 _ _ _ _ _ _ _ b3 b4 b5 b6
  have h2 : b2.NeighboursOff := .foldl (fun _ _ h => h.updatePass) h.slewTheta
  have h3 : b3.NeighboursOff := .foldl (fun _ _ h => h.putBit.putBit) h2
  have h4 : b4.NeighboursOff := .foldl (fun _ _ h => .ite h.edit h) h3
  have h5 : b5.NeighboursOff := .foldl (fun _ _ h => h.turnOn _ _) h4
  have h6 : b6.NeighboursOff := .foldl (fun _ _ h => h.putBit) h5
  exact h6.withGov.withFree

theorem Block.NeighboursOff.overrun (h : b.NeighboursOff) : b.overrun.NeighboursOff := .ite h.putBit.withGov.raise h.putBit.withGov

theorem Block.NeighboursOff.overrunGone (h : b.NeighboursOff) : b.overrunGone.NeighboursOff := by
  unfold Block.overrunGone
  split
  · exact .ite h.clearLive h
  · exact h

theorem Block.NeighboursOff.noteEdge (h : b.NeighboursOff) {i x} : (b.noteEdge i x).NeighboursOff := .ite h h.withLanes.withImp.edit

theorem Block.NeighboursOff.noteEdges (h : b.NeighboursOff) {delays} : (b.noteEdges delays).NeighboursOff :=
  .foldl (fun _ _ h => h.noteEdge) h.withLanes

theorem Block.NeighboursOff.feedStretches (h : b.NeighboursOff) {meter} : (b.feedStretches meter).NeighboursOff := h.withImp.withLanes

theorem Block.NeighboursOff.loseExcited (h : b.NeighboursOff) {near} : (b.loseExcited near).NeighboursOff := by
  unfold Block.loseExcited
  split
  · exact h
  · exact .withImp (.foldl (fun _ _ h => h.edit) h)

theorem Block.NeighboursOff.holdSlot (h : b.NeighboursOff) {ch} : (b.holdSlot ch).NeighboursOff :=
  .foldl (fun _ _ h => h.edit) h.loseExcited

theorem Block.NeighboursOff.releaseSlot (h : b.NeighboursOff) : b.releaseSlot.NeighboursOff :=
  h.mapCh rfl (by grind [GovCh.off, GovCh.dark])

theorem Block.NeighboursOff.followSlot (h : b.NeighboursOff) : b.followSlot.NeighboursOff := by
  unfold Block.followSlot
  split
  · exact h
  · extract_lets _ _ b1
    have h1 : b1.NeighboursOff := .ite h.edit.noteEdge h
    exact .ite h (.ite h1.releaseSlot (.ite (.ite h.edit.noteEdge h) (.ite (h.turnOn _ _).noteEdge h)))

theorem Block.NeighboursOff.followConfirm (h : b.NeighboursOff) : b.followConfirm.NeighboursOff := by
  unfold Block.followConfirm
  extract_lets _ b1
  have h1 : b1.NeighboursOff := by
    unfold b1
    split
    · exact .ite h.releaseSlot.withLanes h
    · exact h
  split
  · exact h1
  · split
    · exact h1
    · exact .ite h1 (.ite (h1.holdSlot.withLanes.turnOn _ _) h1.holdSlot.withLanes)

theorem Block.NeighboursOff.beginPause (h : b.NeighboursOff) : b.beginPause.NeighboursOff :=
  .foldl (fun _ _ h => .noteEdge (.ite h.edit h)) (.ite h.releaseSlot.withLanes h)

theorem Block.NeighboursOff.followPause (h : b.NeighboursOff) : b.followPause.NeighboursOff := .withGov (.ite h.beginPause h)
theorem Block.NeighboursOff.meterPower (h : b.NeighboursOff) : b.meterPower.NeighboursOff := h.onWindows
theorem Block.NeighboursOff.meterOnly (h : b.NeighboursOff) {i reading} : (b.meterOnly i reading).NeighboursOff := h.edit

theorem Block.NeighboursOff.governorTick (h : b.NeighboursOff) {t timing meter delays} :
    (governorTick t timing meter delays b).NeighboursOff := by
  unfold Machine.governorTick
  extract_lets _ _ b3 _ b4
  have h3 : b3.NeighboursOff := .followConfirm (.meterPower (.foldl (fun _ _ h => h.meterInterval) h.at.followPause.followSlot.feedStretches))
  have h4 : b4.NeighboursOff := by
    unfold b4
    clear_value b3
    split
    · exact .ite h3.overrun h3
    · exact h3.tickLaw.overrun
    · exact h3.tickLaw.withGov.overrunGone
  exact .ite h.at (.ite (.foldl (fun _ _ h => h.meterOnly) h.at) h4.noteEdges)

theorem Block.NeighboursOff.learnPath (h : b.NeighboursOff) {i mA sumI sumV} : (b.learnPath i mA sumI sumV).NeighboursOff :=
  .ite h.put.edit.edit.putBit.reason.raise h.put.edit.edit.judgePath

theorem Block.NeighboursOff.learnChannel (h : b.NeighboursOff) {i} : (b.learnChannel i).NeighboursOff := by
  unfold Block.learnChannel
  extract_lets _ _ _ _ _ b1
  have h1 : b1.NeighboursOff := .ite h.learnPath h
  exact .ite h (.ite h1.edit.putBit.reason.raise (.ite h1.edit.putBit.judgePath h1.edit))

theorem Block.NeighboursOff.pathLearn (h : b.NeighboursOff) : (pathLearn b).NeighboursOff := .ite h (.foldl (fun _ _ h => h.learnChannel) h)
theorem Block.NeighboursOff.disable (h : b.NeighboursOff) {i} : (b.disable i).NeighboursOff := .ite h.edit.reason h

theorem Block.NeighboursOff.bleedConfirmation (h : b.NeighboursOff) {i dropUv meter} :
    (bleedConfirmation i dropUv meter b).NeighboursOff := by
  unfold Machine.bleedConfirmation
  extract_lets _ _ _ _ _ b2
  have h2 : b2.NeighboursOff := .foldl (fun _ _ h => h.edit) h.loseExcited
  split
  · exact h
  · split
    · exact h
    · extract_lets x5
      clear_value x5
      split
      · exact h2.withLanes.edit
      · extract_lets b6
        have h6 : b6.NeighboursOff := .ite (.foldl (fun _ _ h => h.disable) h2.withLanes.edit) h2.withLanes.edit.disable
        exact h6.raise

theorem Block.NeighboursOff.freshnessTimeout (h : b.NeighboursOff) {i} : (freshnessTimeout i b).NeighboursOff := .ite h.edit.putBit.raise h
theorem Block.NeighboursOff.interlockRefusal (h : b.NeighboursOff) {i} : (interlockRefusal i b).NeighboursOff := h.edit.count32.putBit

theorem Block.NeighboursOff.sessionTimerSecond (h : b.NeighboursOff) {i} : (sessionTimerSecond i b).NeighboursOff :=
  .ite h (.ite h.put.endSession h.put)

theorem Block.NeighboursOff.throttleLost (h : b.NeighboursOff) : b.throttleLost.NeighboursOff := h.withGov.put.putBit.reason

theorem Block.NeighboursOff.thrPulseEdge (h : b.NeighboursOff) {t period high} : (thrPulseEdge t period high b).NeighboursOff :=
  .ite h.at (.ite (.ite h.at.withGov.put (.ite h.at.withGov.put.reason h.at.withGov)) (.ite h.at.withGov.throttleLost h.at.withGov))

theorem Block.NeighboursOff.throttleInputLost (h : b.NeighboursOff) : (throttleInputLost b).NeighboursOff := .ite h.throttleLost h

theorem Block.NeighboursOff.throttleSourceWritten (h : b.NeighboursOff) {v} : (b.throttleSourceWritten v).NeighboursOff :=
  h.put.withGov.put.reason

theorem Block.NeighboursOff.seedPaths (h : b.NeighboursOff) {lo} : (b.seedPaths lo).NeighboursOff := .foldl (fun _ _ h => h.put.edit) h
theorem Block.NeighboursOff.bleedResistorWritten (h : b.NeighboursOff) {v} : (b.bleedResistorWritten v).NeighboursOff := h.put.seedPaths

theorem Block.NeighboursOff.channelStateCleared (h : b.NeighboursOff) {i mask} : (b.channelStateCleared i mask).NeighboursOff :=
  h.put.judgePath

theorem Block.NeighboursOff.governorFlagsCleared (h : b.NeighboursOff) {mask} : (b.governorFlagsCleared mask).NeighboursOff := h.put
theorem Block.NeighboursOff.sleepPlanRefresh (h : b.NeighboursOff) {t} : (sleepPlanRefresh t b).NeighboursOff := .ite h.at.withGov h.at

theorem Block.NeighboursOff.creditChannel (h : b.NeighboursOff) {i} : (b.creditChannel i).NeighboursOff :=
  .ite h (.ite h.addCharge.put.putBit.edit.edit h.addCharge.put.putBit.edit)

/-! #### Lanes -/

theorem Block.NeighboursOff.editTerms (h : b.NeighboursOff) {k f} : (b.editTerms k f).NeighboursOff := h.withLanes
theorem Block.NeighboursOff.setHealth (h : b.NeighboursOff) {ch i on} : (b.setHealth ch i on).NeighboursOff := h.putBit
theorem Block.NeighboursOff.tapEstimate (h : b.NeighboursOff) {k est} : (b.tapEstimate k est).NeighboursOff := .ite h h.put.put
theorem Block.NeighboursOff.learnEdge (h : b.NeighboursOff) {c k e} : (b.learnEdge c k e).NeighboursOff := .ite h (.ite h h.tapEstimate)

theorem Block.NeighboursOff.learnTaps (h : b.NeighboursOff) {c} : (b.learnTaps c).NeighboursOff :=
  .ite h (.foldl (fun _ _ h => .ite h.learnEdge (.ite h.learnEdge h)) h)

theorem Block.NeighboursOff.followCompare (h : b.NeighboursOff) {source side rose} : (b.followCompare source side rose).NeighboursOff :=
  .ite h.clearLive (.ite h.raise h)

theorem Block.NeighboursOff.compareBlock (h : b.NeighboursOff) {ch v} : (b.compareBlock ch v).NeighboursOff := by
  unfold Block.compareBlock
  split
  · exact h
  · extract_lets _ _ _ _ _ _ b2
    have h2 : b2.NeighboursOff := .ite h.withLanes h.withLanes.followCompare
    exact .ite h2 h2.followCompare

theorem Block.NeighboursOff.cellLimitRefresh (h : b.NeighboursOff) : (cellLimitRefresh b).NeighboursOff := .ite h h.withLanes

theorem Block.NeighboursOff.shortCheck (h : b.NeighboursOff) {kind place bad} : (b.shortCheck kind place bad).NeighboursOff :=
  .ite (.ite h.withLanes h.withLanes.raise) (.ite (.ite h.withLanes.clearLive h.withLanes) h)

theorem Block.NeighboursOff.lowCheck (h : b.NeighboursOff) {ch t uv} : (b.lowCheck ch t uv).NeighboursOff := by
  unfold Block.lowCheck
  split
  · split
    · exact h.withLanes
    · exact .ite h.shortCheck h
  · exact h.withLanes.shortCheck

theorem Block.NeighboursOff.spoil (h : b.NeighboursOff) {lo hi} : (b.spoil lo hi).NeighboursOff := .ite h.withImp h
theorem Block.NeighboursOff.keepForE6 (h : b.NeighboursOff) {ch x} : (b.keepForE6 ch x).NeighboursOff := .ite h h.withImp

theorem Block.NeighboursOff.takeEntry (h : b.NeighboursOff) {ch e} : (b.takeEntry ch e).NeighboursOff := by
  unfold Block.takeEntry
  extract_lets
  exact .ite (.ite h.onWindows h) (.ite h.withLanes.noteSat.keepForE6.onWindows.learnTaps.lowCheck
      h.withLanes.noteSat.keepForE6.onWindows.learnTaps)

theorem Block.NeighboursOff.dropBlock (h : b.NeighboursOff) {ch e} : (b.dropBlock ch e).NeighboursOff :=
  .raise (.withLanes (.ite h h.onWindows.spoil))

theorem Block.NeighboursOff.setFifo (h : b.NeighboursOff) {ch q} : (b.setFifo ch q).NeighboursOff := h.withLanes

theorem Block.NeighboursOff.takeFifo (h : b.NeighboursOff) {ch l} : (b.takeFifo ch l).NeighboursOff := by
  induction l generalizing b with
  | nil => exact h.setFifo
  | cons e t ih => exact .ite (ih h.takeEntry) h.setFifo

theorem Block.NeighboursOff.offerEntry (h : b.NeighboursOff) {ch e} : (b.offerEntry ch e).NeighboursOff :=
  .ite h.takeEntry (.ite h.dropBlock (.ite h.takeFifo h.setFifo))

theorem Block.NeighboursOff.drainFifos (h : b.NeighboursOff) {engine} : (b.drainFifos engine).NeighboursOff :=
  .foldl (fun _ _ h => h.takeFifo) h

theorem Block.NeighboursOff.takeMetered (h : b.NeighboursOff) : b.takeMetered.NeighboursOff :=
  .ite h (.foldl (fun _ _ h => .ite h.drainFifos h) h)

theorem Block.NeighboursOff.dropGone (h : b.NeighboursOff) : b.dropGone.NeighboursOff := by
  unfold Block.dropGone
  split
  · exact .ite h.withLanes.clearLive h
  · exact h

theorem Block.NeighboursOff.deliverBlock (h : b.NeighboursOff) {ch e} : (b.deliverBlock ch e).NeighboursOff :=
  .offerEntry (.ite h h.compareBlock)

theorem Block.NeighboursOff.laneBlock (h : b.NeighboursOff) {ch start own shadow} : (laneBlock ch start own shadow b).NeighboursOff := by
  unfold Machine.laneBlock
  extract_lets _ _ _ _ _ b2
  have h2 : b2.NeighboursOff := .ite h.at.dropGone.deliverBlock h.at.dropGone
  exact .ite h.at.dropGone (.ite (.ite h.at.dropGone.deliverBlock h.at.dropGone)
      (.ite (.ite h2.deliverBlock h2) (.ite h.at.dropGone.deliverBlock h.at.dropGone)))

theorem Block.NeighboursOff.referenceCompare (h : b.NeighboursOff) {t codes} : (referenceCompare t codes b).NeighboursOff := by
  unfold Machine.referenceCompare
  extract_lets _ _ _ _ _ b3
  have h3 : b3.NeighboursOff := .ite h.at.put.put h.at.put
  exact .ite h.at (.ite h3.put.withLanes (.ite h3.put.put.withLanes.flagWindow.putBit.reason.raise h3.put))

theorem Block.NeighboursOff.keepBoth (h : b.NeighboursOff) : b.keepBoth.NeighboursOff := h.withLanes.putBit.reason.raise
theorem Block.NeighboursOff.loseShadow (h : b.NeighboursOff) : b.loseShadow.NeighboursOff := .ite h.putBit.reason.keepBoth h.putBit.reason

theorem Block.NeighboursOff.loseLane (h : b.NeighboursOff) {k} : (b.loseLane k).NeighboursOff := by
  unfold Block.loseLane
  split
  · exact .ite h.withLanes.setHealth.reason.loseShadow h.setHealth.reason
  · split
    · exact h.withLanes.putBit.putBit.reason
    · split
      · exact h.withLanes.putBit.reason
      · split
        · exact h.setHealth.reason.loseShadow
        · exact h.loseShadow

theorem Block.NeighboursOff.failSlice (h : b.NeighboursOff) {k sliceB} : (b.failSlice k sliceB).NeighboursOff := by
  unfold Block.failSlice
  extract_lets _ _ b2
  have h2 : b2.NeighboursOff := .ite h.editTerms.setHealth h.editTerms
  exact .ite h (.ite (.ite h2.reason.loseLane.raiseAtLeast h2.reason.loseLane.raise) h2.reason.raise)

theorem Block.NeighboursOff.publishCorrection (h : b.NeighboursOff) : b.publishCorrection.NeighboursOff :=
  .foldl (fun _ _ h => h.setHealth) h.put.putBit

theorem Block.NeighboursOff.correctionUpdate (h : b.NeighboursOff) {k gA gB oB skew badA badB meanDiff} :
    (correctionUpdate k gA gB oB skew badA badB meanDiff b).NeighboursOff := by
  unfold Machine.correctionUpdate
  split
  · exact h
  · extract_lets _ _ _ _ _ _ _ _ _ b3 b4 _ _ b6
    have h3 : b3.NeighboursOff := .ite h.editTerms.publishCorrection.failSlice h.editTerms.publishCorrection
    have h4 : b4.NeighboursOff := .ite h3.failSlice h3
    have h6 : b6.NeighboursOff := .ite h4.editTerms.setHealth h4.editTerms
    exact .ite h4 (.ite (.ite h4.failSlice (.ite h4.failSlice h4)) (.ite (.ite h4.failSlice (.ite h4.failSlice h6.raise)) h4))

theorem Block.NeighboursOff.pinCheck (h : b.NeighboursOff) {pin start dropUv} : (b.pinCheck pin start dropUv).NeighboursOff := by
  unfold Block.pinCheck
  extract_lets _ _ _ _ _ _ b2
  have h2 : b2.NeighboursOff := .ite (.ite (.ite h.withLanes.shortCheck h.withLanes) h.withLanes.shortCheck) h.withLanes
  exact .ite (.ite (.ite h2.withLanes.shortCheck h2.withLanes) h2.withLanes.shortCheck) h2.withLanes

theorem Block.NeighboursOff.keepCurrent (h : b.NeighboursOff) {shadow} : (b.keepCurrent shadow).NeighboursOff :=
  h.withLanes.putBit.reason.raise

theorem Block.NeighboursOff.subSlotB (h : b.NeighboursOff) {m nv} : (b.subSlotB m nv).NeighboursOff :=
  .ite h (.ite h.keepCurrent (.ite h h.withLanes.pinCheck))

theorem Block.NeighboursOff.compareShadow (h : b.NeighboursOff) {m ch difference diffA diffB} :
    (b.compareShadow m ch difference diffA diffB).NeighboursOff := by
  unfold Block.compareShadow
  extract_lets _ b2
  have h2 : b2.NeighboursOff := .ite h.put.failSlice h.put
  exact .ite (.ite h2.withLanes.loseShadow.raise (.ite h2.withLanes.setHealth.raise h2.withLanes)) (.ite h2.withLanes.setHealth.clearLive
      h2.withLanes.setHealth)

theorem Block.NeighboursOff.muxCheck (h : b.NeighboursOff) {ch testError} : (b.muxCheck ch testError).NeighboursOff :=
  .ite h.setHealth.raise (.ite h.setHealth.clearLive h.setHealth)

theorem Block.NeighboursOff.visit (h : b.NeighboursOff) {t ch lane shadow map} : (b.visit t ch lane shadow map).NeighboursOff :=
  .ite h.compareShadow.withLanes h

theorem Block.NeighboursOff.shadowFrame (h : b.NeighboursOff) {t lane shadow test subB map} :
    (shadowFrame t lane shadow test subB map b).NeighboursOff := by
  unfold Machine.shadowFrame
  extract_lets _ _ _ _ b3
  have h3 : b3.NeighboursOff := .ite h.at.dropGone (.ite h.at.dropGone.visit.muxCheck h.at.dropGone.visit)
  exact .ite h.at.dropGone (.ite h3.subSlotB h3)

theorem Block.NeighboursOff.currentLaneCompare (h : b.NeighboursOff) {start stop} : (currentLaneCompare start stop b).NeighboursOff := by
  unfold Machine.currentLaneCompare
  extract_lets
  exact .ite h.at (.ite h.at.withKeeper (.ite h.at.withKeeper.withLanes
      (.ite h.at.withKeeper.withLanes.withLanes h.at.withKeeper.withLanes.keepBoth)))

theorem Block.NeighboursOff.setAveraging (h : b.NeighboursOff) {at' w} : (b.setAveraging at' w).NeighboursOff := h.put.put.withLanes
theorem Block.NeighboursOff.settleAveraging (h : b.NeighboursOff) : b.settleAveraging.NeighboursOff := h.setAveraging.withLanes
theorem Block.NeighboursOff.askAveraging (h : b.NeighboursOff) : b.askAveraging.NeighboursOff := .ite h.withLanes h.settleAveraging

theorem Block.NeighboursOff.laneAveragingChange (h : b.NeighboursOff) {t} : (laneAveragingChange t b).NeighboursOff := by
  unfold Machine.laneAveragingChange
  extract_lets
  split
  · exact h.at
  · exact .ite h.at h.at.setAveraging.withLanes

theorem Block.NeighboursOff.lanesStart (h : b.NeighboursOff) : b.lanesStart.NeighboursOff :=
  h.withLanes.settleAveraging.publishCorrection.cellLimitRefresh

theorem Block.NeighboursOff.lanesStop (h : b.NeighboursOff) : b.lanesStop.NeighboursOff :=
  .clearLive (.clearLive (.foldl (fun _ _ h => h.setHealth) h.withLanes.put.putBit))

/-! #### Measurement -/

theorem Block.NeighboursOff.leaveKeeper (h : b.NeighboursOff) : b.leaveKeeper.NeighboursOff := h.withWin.showNominal

theorem Block.NeighboursOff.deltaCheck (h : b.NeighboursOff) {cells} : (b.deltaCheck cells).NeighboursOff := by
  unfold Block.deltaCheck
  extract_lets
  split
  · exact h
  · exact h.follow

theorem Block.NeighboursOff.staleWindow (h : b.NeighboursOff) : b.staleWindow.NeighboursOff := h.putBit

theorem Block.NeighboursOff.publishMeters (h : b.NeighboursOff) {w} : (b.publishMeters w).NeighboursOff :=
  .put (.noteSat (.foldl (fun _ _ h => h.put) h))

theorem Block.NeighboursOff.healthOfWindow (h : b.NeighboursOff) {w} : (b.healthOfWindow w).NeighboursOff :=
  .ite h (.foldl (fun _ _ h => h.setHealth.setHealth.noteSat) h)

theorem Block.NeighboursOff.publishObjects (h : b.NeighboursOff) {w coverage} : (b.publishObjects w coverage).NeighboursOff := by
  unfold Block.publishObjects
  extract_lets _ _ _ _ b2
  have h2 : b2.NeighboursOff := by
    unfold b2
    refine .foldl (fun b x h => ?_) h.putAll
    split
    · exact h.put.put.put
    · exact h
  exact h2.withWin

theorem Block.NeighboursOff.announce (h : b.NeighboursOff) : b.announce.NeighboursOff := h.withKeeper

theorem Block.NeighboursOff.closeKeeper (h : b.NeighboursOff) {w} : (b.closeKeeper w).NeighboursOff :=
  .ite h h.noteSat.withKeeper.announce.withKeeper

theorem Block.NeighboursOff.publishWindow (h : b.NeighboursOff) : b.publishWindow.NeighboursOff := by
  unfold Block.publishWindow
  split
  · exact h
  · extract_lets
    split
    · exact h.closeKeeper.withWin.healthOfWindow.staleWindow
    · split
      · exact h.closeKeeper.withWin.healthOfWindow.publishObjects.publishMeters
      · refine .foldl (fun b x h => ?_) h.closeKeeper.withWin.healthOfWindow.publishObjects.publishMeters.deltaCheck
        split
        · exact .ite h h.lowCheck
        · exact h

theorem Block.NeighboursOff.spoilWindow (h : b.NeighboursOff) : b.spoilWindow.NeighboursOff := h.flagWindow
theorem Block.NeighboursOff.averagingBoundary (h : b.NeighboursOff) : b.averagingBoundary.NeighboursOff := .ite h.withLanes h

theorem Block.NeighboursOff.keeperTakesOver (h : b.NeighboursOff) {wasMains} : (b.keeperTakesOver wasMains).NeighboursOff :=
  .ite h (.ite h.withWin h)

theorem Block.NeighboursOff.dropSchedule (h : b.NeighboursOff) : b.dropSchedule.NeighboursOff := .ite h.leaveKeeper h

theorem Block.NeighboursOff.closeWindow (h : b.NeighboursOff) {w} : (b.closeWindow w).NeighboursOff :=
  h.publishWindow.withKeeper.withWin.loadWindowSettings.keeperTakesOver.dropSchedule.withWin.averagingBoundary

theorem Block.NeighboursOff.firstWindow (h : b.NeighboursOff) {t} : (b.firstWindow t).NeighboursOff := by
  unfold Block.firstWindow
  extract_lets
  split
  · exact h
  · split
    · exact h
    · exact .ite h h.loadWindowSettings.withWin.withWin.averagingBoundary

theorem Block.NeighboursOff.seatWindow (h : b.NeighboursOff) {t} : (b.seatWindow t).NeighboursOff := .ite h h.withWin

theorem Block.NeighboursOff.windowBoundary (h : b.NeighboursOff) {t} : (windowBoundary t b).NeighboursOff := by
  unfold Machine.windowBoundary
  extract_lets
  split
  · exact h.at
  · split
    · exact h.at.firstWindow
    · extract_lets
      split
      · exact h.at
      · split
        · exact .ite h.at h.at.closeWindow.seatWindow
        · split
          · exact .ite h.at.closeWindow.seatWindow h.at.closeWindow
          · exact h.at.closeWindow

theorem Block.NeighboursOff.keeperRecordMissing (h : b.NeighboursOff) {t} : (keeperRecordMissing t b).NeighboursOff := by
  unfold Machine.keeperRecordMissing
  extract_lets _ b2
  have h2 : b2.NeighboursOff := .ite h.at.put h.at
  split
  · exact h.at
  · split
    · exact h2
    · split
      · exact .ite h2.flagWindow.leaveKeeper h2.flagWindow
      · exact h2.flagWindow

theorem Block.NeighboursOff.overCurrent (h : b.NeighboursOff) : b.overCurrent.NeighboursOff := .ite h.noteSat.raise h.noteSat.clearLive

theorem Block.NeighboursOff.keeperStep (h : b.NeighboursOff) : b.keeperStep.NeighboursOff := by
  unfold Block.keeperStep
  extract_lets
  split
  · exact .ite h.noteSat.withKeeper h
  · exact h

theorem Block.NeighboursOff.keepSample (h : b.NeighboursOff) {t v} : (b.keepSample t v).NeighboursOff := h.withKeeper.overCurrent.keeperStep

theorem Block.NeighboursOff.takeChop (h : b.NeighboursOff) {e} : (b.takeChop e).NeighboursOff :=
  .ite (.keepSample (.withKeeper (.ite h.withKeeper h))) (.withKeeper (.ite h.withKeeper h))

theorem Block.NeighboursOff.dropChop (h : b.NeighboursOff) {e} : (b.dropChop e).NeighboursOff := .raise (.withLanes (.ite h.onWindows h))

theorem Block.NeighboursOff.currentSample (h : b.NeighboursOff) {t first second beyond} :
    (currentSample t first second beyond b).NeighboursOff :=
  .ite h.at.dropGone (.ite h.at.dropGone.noteSat.takeChop (.ite h.at.dropGone.noteSat.withLanes h.at.dropGone.noteSat.dropChop))

theorem Block.NeighboursOff.mainsTrackerUpdate (h : b.NeighboursOff) {t amplitude milliHz} :
    (mainsTrackerUpdate t amplitude milliHz b).NeighboursOff := by
  unfold Machine.mainsTrackerUpdate
  extract_lets
  split
  · exact h.at
  · split
    · exact h.at.put
    · split
      · exact .ite h.at.put.withKeeper.withKeeper.put h.at.put.withKeeper.withKeeper.put.put.put
      · split
        · split
          · exact h.at.put.withKeeper.withKeeper.put.put.put
          · split
            · exact .ite h.at.put.withKeeper.put.showNominal h.at.put.withKeeper
            · exact h.at.put.withKeeper
        · exact .ite h.at.put.withKeeper.withKeeper.put.put.put h.at.put.withKeeper.put

theorem Block.NeighboursOff.keeperStop (h : b.NeighboursOff) : b.keeperStop.NeighboursOff := h.withKeeper.put

theorem Block.NeighboursOff.keeperMoved (h : b.NeighboursOff) {was} : (b.keeperMoved was).NeighboursOff :=
  .ite h (.ite h.keeperStop h.keeperStop.showNominal)

theorem Block.NeighboursOff.publishSnapshot (h : b.NeighboursOff) {seq instant tags values current} :
    (b.publishSnapshot seq instant tags values current).NeighboursOff := by
  unfold Block.publishSnapshot
  extract_lets _ b2 b3
  have h2 : b2.NeighboursOff := by
    unfold b2
    split
    · exact h.putAll
    · exact .ite (.put (.foldl (fun _ _ h => h.put) h.putAll)) (.foldl (fun _ _ h => h.put) h.putAll)
  have h3 : b3.NeighboursOff := .foldl (fun _ _ h => h.put) h2
  exact h3.put.put.withGov.withLink

theorem Block.NeighboursOff.nextSnap (h : b.NeighboursOff) : b.nextSnap.NeighboursOff := h.withCap

theorem Block.NeighboursOff.quietForCapture (h : b.NeighboursOff) : b.quietForCapture.NeighboursOff :=
  .ite (.foldl (fun _ _ h => h.edit) h.withGov) h

theorem Block.NeighboursOff.settleCaptures (h : b.NeighboursOff) : b.settleCaptures.NeighboursOff := h.withCap

theorem Block.NeighboursOff.takeSnap (h : b.NeighboursOff) {stampPs} : (b.takeSnap stampPs).NeighboursOff := by
  unfold Block.takeSnap
  extract_lets
  split
  · exact h.nextSnap.publishSnapshot
  · split
    · exact h.settleCaptures.nextSnap.quietForCapture.withCap
    · split
      · exact h.settleCaptures.count32.withCap
      · extract_lets _ b5
        have h5 : b5.NeighboursOff := .ite h.settleCaptures.nextSnap.quietForCapture.count32 h.settleCaptures.nextSnap.quietForCapture
        exact h5.withCap

theorem Block.NeighboursOff.snap (h : b.NeighboursOff) {t stampPs} : (snap t stampPs b).NeighboursOff := .ite h.at.heard.takeSnap h.at

theorem Block.NeighboursOff.fillCapture_fst (h : b.NeighboursOff) {r cells} : (b.fillCapture r cells).1.NeighboursOff :=
  .foldl (fun _ _ h => h.noteSat) h

theorem Block.NeighboursOff.endQuiet (h : b.NeighboursOff) : b.endQuiet.NeighboursOff := .ite h h.withGov

theorem Block.NeighboursOff.captureStart (h : b.NeighboursOff) {t seq cells} : (captureStart t seq cells b).NeighboursOff := by
  unfold Machine.captureStart
  extract_lets _ b2
  have h2 : b2.NeighboursOff := .ite h.at.withCap h.at
  split
  · exact h2
  · split
    · exact .ite h2 h2.fillCapture_fst.withCap.endQuiet
    · split
      · exact h2
      · exact .ite h2 h2.fillCapture_fst.withCap.endQuiet

theorem Block.NeighboursOff.publishCapture (h : b.NeighboursOff) {r l} : (b.publishCapture r l).NeighboursOff :=
  .ite h.noteSat.publishSnapshot.deltaCheck h.noteSat.publishSnapshot

theorem Block.NeighboursOff.capturePublish (h : b.NeighboursOff) {t} : (capturePublish t b).NeighboursOff := by
  unfold Machine.capturePublish
  extract_lets
  split
  · split
    · exact .ite h.at.publishCapture.withCap.averagingBoundary h.at.publishCapture.withCap
    · exact h.at
  · split
    · exact h.at
    · split
      · exact h.at
      · exact .ite h.at.publishCapture.withCap.averagingBoundary h.at.publishCapture.withCap

theorem Block.NeighboursOff.abandonCaptures (h : b.NeighboursOff) : b.abandonCaptures.NeighboursOff := by
  unfold Block.abandonCaptures
  extract_lets _ _ b1
  have h1 : b1.NeighboursOff := by
    unfold b1
    refine .foldl (fun b x h => ?_) h
    split
    · exact h.publishCapture
    · exact h.publishSnapshot
  exact h1.withCap.withGov

theorem Block.NeighboursOff.followTherm (h : b.NeighboursOff) {k was temp} : (b.followTherm k was temp).NeighboursOff := by
  unfold Block.followTherm
  extract_lets _ _ b1 b2 b3 b4 b5
  have h1 : b1.NeighboursOff := .ite h.raise h
  have h2 : b2.NeighboursOff := .ite h1.raise h1
  have h3 : b3.NeighboursOff := .ite h2.raise h2
  have h4 : b4.NeighboursOff := .ite h3.raise h3
  have h5 : b5.NeighboursOff := .ite h4 h4.clearLive
  exact .ite h5 h5.clearLive

theorem Block.NeighboursOff.adviseBoth (h : b.NeighboursOff) {k temp} : (b.adviseBoth k temp).NeighboursOff :=
  .ite (.ite h.withThermal.putBit.put.put h.withThermal.putBit.put.put.raise) h.withThermal.putBit.put.put.clearLive

theorem Block.NeighboursOff.dropAdvisories (h : b.NeighboursOff) : b.dropAdvisories.NeighboursOff := h.withThermal.putAll.clearLive
theorem Block.NeighboursOff.railReading (h : b.NeighboursOff) {rail nv} : (b.railReading rail nv).NeighboursOff := h.withAux

theorem Block.NeighboursOff.thermistorReading (h : b.NeighboursOff) {k pin} : (b.thermistorReading k pin).NeighboursOff := by
  unfold Block.thermistorReading
  extract_lets _ _ _ _ x1 _ b3
  clear_value x1
  have h3 : b3.NeighboursOff := by
    unfold b3
    split <;> exact h.withFree.put.put
  exact .ite h h3.withAux.followTherm.adviseBoth

theorem Block.NeighboursOff.pinSlot (h : b.NeighboursOff) {k out level} : (b.pinSlot k out level).NeighboursOff :=
  .ite h.thermistorReading (.ite (.ite h.put.put.withGov h.put.put) (.ite h.put.put (.ite h.put.put (.ite h.put.put h.put.put))))

theorem Block.NeighboursOff.takeAux (h : b.NeighboursOff) {e} : (b.takeAux e).NeighboursOff := by
  unfold Block.takeAux
  extract_lets
  split
  · exact h
  · exact h.pinSlot
  · exact h.railReading

theorem Block.NeighboursOff.auxSlot (h : b.NeighboursOff) {t lane settling codes level} :
    (auxSlot t lane settling codes level b).NeighboursOff := by
  unfold Machine.auxSlot
  extract_lets
  exact .ite h.at.dropGone (.ite h.at.dropGone.noteSat.takeAux
      (.ite h.at.dropGone.noteSat.withLanes h.at.dropGone.noteSat.withLanes.raise))

theorem Block.NeighboursOff.drainE4 (h : b.NeighboursOff) : b.drainE4.NeighboursOff :=
  .foldl (fun _ _ h => h.takeAux) (.foldl (fun _ _ h => h.takeChop) h.withLanes)

/-! #### Frames -/

theorem Block.NeighboursOff.beginPebble (h : b.NeighboursOff) : b.beginPebble.NeighboursOff := .ite h h.withLink

theorem Block.NeighboursOff.startStream_snd (h : b.NeighboursOff) {cls stale payload} : (b.startStream cls stale payload).2.NeighboursOff :=
  h.beginPebble.withLink.put

theorem Block.NeighboursOff.queueResponse (h : b.NeighboursOff) {seq payload} : (b.queueResponse seq payload).NeighboursOff := h.withLink

theorem Block.NeighboursOff.queueStream (h : b.NeighboursOff) {cls stale payload} : (b.queueStream cls stale payload).NeighboursOff :=
  .withLink (.ite h.count32 h)

theorem Block.NeighboursOff.storeRecord (h : b.NeighboursOff) {r} : (b.storeRecord r).NeighboursOff := h.withLink
theorem Block.NeighboursOff.deliver (h : b.NeighboursOff) {r} : (b.deliver r).NeighboursOff := h.withLink

theorem Block.NeighboursOff.keepOwnRecord (h : b.NeighboursOff) {cls stale payload} : (b.keepOwnRecord cls stale payload).NeighboursOff :=
  .ite h.withLink.deliver h.withLink.storeRecord

theorem Block.NeighboursOff.respond (h : b.NeighboursOff) {cls x} : (b.respond cls x).NeighboursOff :=
  .ite h.noteSat.keepOwnRecord h.noteSat.queueStream

theorem Block.NeighboursOff.nextFrame_snd (h : b.NeighboursOff) : b.nextFrame.2.NeighboursOff := by
  unfold Block.nextFrame
  split
  · exact h.withLink
  · split
    · split
      · dsimp only
        exact h.withKeeper.startStream_snd
      · exact h.withKeeper
    · split
      · exact h.withLink
      · split
        · extract_lets
          split
          · exact h.withLink
          · dsimp only
            exact h.withLink.startStream_snd
        · split
          · exact h.withLink
          · exact h

theorem Block.NeighboursOff.preempted (h : b.NeighboursOff) : b.preempted.NeighboursOff := h.withLink.withKeeper.countUp
theorem Block.NeighboursOff.startTone (h : b.NeighboursOff) {p us} : (b.startTone p us).NeighboursOff := .emit (.emit (.ite h.preempted h))

theorem Block.NeighboursOff.sendTone (h : b.NeighboursOff) {p us} : (b.sendTone p us).NeighboursOff := by
  unfold Block.sendTone
  split
  · split <;> exact h.withPhys
  · exact h.startTone

theorem Block.NeighboursOff.waitingTone (h : b.NeighboursOff) {p c} (e : b.waitingTone p = some c) : c.NeighboursOff := by
  unfold Block.waitingTone at e
  split at e <;> split at e
  · cases e; exact h.withPhys.startTone
  · cases e
  · cases e; exact h.withPhys.startTone
  · cases e

theorem Block.NeighboursOff.frameTransmit (h : b.NeighboursOff) {t} : (frameTransmit t b).NeighboursOff := by
  unfold Machine.frameTransmit
  extract_lets
  split
  · exact h.at
  · split
    · exact h.at.withPhys.setSending.withPhys.sendAlarm
    · split
      next c e => exact h.at.withPhys.setSending.waitingTone e
      next =>
        split
        · exact h.at.withPhys.setSending
        · split
          · exact h.at.withPhys.setSending.nextFrame_snd.setSending.emit
          · exact h.at.withPhys.setSending.nextFrame_snd

theorem Block.NeighboursOff.dropPebble (h : b.NeighboursOff) {p} : (b.dropPebble p).NeighboursOff := h.withLink.count32

theorem Block.NeighboursOff.holdPebble (h : b.NeighboursOff) {p message} : (b.holdPebble p message).NeighboursOff :=
  .ite h (.ite h.withLink.withLink.putBit h.withLink)

theorem Block.NeighboursOff.takePebble (h : b.NeighboursOff) {header} : (b.takePebble header).NeighboursOff := by
  unfold Block.takePebble
  extract_lets _ _ _ _ x1 b2
  clear_value x1
  have h2 : b2.NeighboursOff := .ite h.dropPebble h
  split
  · exact h2.withLink
  · split
    · exact h
    · exact .ite h.dropPebble (.ite h.withLink (.ite h.dropPebble h.withLink.holdPebble))

theorem Block.NeighboursOff.occupyDu (h : b.NeighboursOff) {ns} : (b.occupyDu ns).NeighboursOff := h.withPhys
theorem Block.NeighboursOff.sendOn (h : b.NeighboursOff) {p f} : (b.sendOn p f).NeighboursOff := .ite (.emit (.ite h.occupyDu h)) h

theorem Block.NeighboursOff.broadcast (h : b.NeighboursOff) {cls payload} : (b.broadcast cls payload).NeighboursOff :=
  .ite h.withLink.sendOn.sendOn h.withLink.sendOn

theorem Block.NeighboursOff.headPulse (h : b.NeighboursOff) {c} : (b.headPulse c).NeighboursOff :=
  .ite (.sendPulse (.ite h.sendPulse.occupyDu h)) (.ite h.sendPulse.occupyDu h)

theorem Block.NeighboursOff.sendReference (h : b.NeighboursOff) : b.sendReference.NeighboursOff :=
  .ite h.withLink.sendOn.sendOn h.withLink.sendOn

theorem Block.NeighboursOff.sendChainConfig (h : b.NeighboursOff) : b.sendChainConfig.NeighboursOff := .ite h.withLink h.broadcast

/-! #### CAN FD -/

theorem Block.NeighboursOff.judgeCan (h : b.NeighboursOff) : b.judgeCan.NeighboursOff := .ite h.put h
theorem Block.NeighboursOff.canReceived (h : b.NeighboursOff) : b.canReceived.NeighboursOff := h.put.judgeCan

theorem Block.NeighboursOff.canFrame (h : b.NeighboursOff) {k l} : (b.canFrame k l).NeighboursOff :=
  .ite h.emit.put.judgeCan.put.withFree h.emit.put.judgeCan

theorem Block.NeighboursOff.canAlarms (h : b.NeighboursOff) : b.canAlarms.NeighboursOff := .foldl (fun _ _ h => h.canFrame) h.withHost

theorem Block.NeighboursOff.canBusError (h : b.NeighboursOff) {transmit} : (canBusError transmit b).NeighboursOff :=
  .ite h (.ite h.countUp.judgeCan (.ite h.put.judgeCan h.put.put.countUp.withHost))

theorem Block.NeighboursOff.canResume (h : b.NeighboursOff) : b.canResume.NeighboursOff :=
  .foldl (fun _ _ h => h.canFrame) h.withHost.canAlarms

theorem Block.NeighboursOff.canBusOffRecovery (h : b.NeighboursOff) : (canBusOffRecovery b).NeighboursOff :=
  .ite (.ite h.putAll h.putAll.canResume) h

theorem Block.NeighboursOff.canConfigApply (h : b.NeighboursOff) : (canConfigApply b).NeighboursOff :=
  .ite h (.ite h.withHost.put (.ite h.withHost (.ite h.withHost.put (.ite h.withHost.put.judgeCan h.withHost))))

theorem Block.NeighboursOff.canAlarmFrame (h : b.NeighboursOff) : (canAlarmFrame b).NeighboursOff := by
  unfold Machine.canAlarmFrame
  split
  · exact h
  · exact .ite h.withHost.canFrame h

theorem Block.NeighboursOff.ignoredFrame (h : b.NeighboursOff) : (ignoredFrame b).NeighboursOff := .ite h.canReceived.count32 h

theorem Block.NeighboursOff.canRespond (h : b.NeighboursOff) {l} : (b.canRespond l).NeighboursOff :=
  .ite h.canAlarms.canFrame (.ite h.withHost h)

theorem Block.NeighboursOff.queueFragments (h : b.NeighboursOff) {cls l} : (b.queueFragments cls l).NeighboursOff :=
  .ite h (.withHost (.ite h.count32 h))

theorem Block.NeighboursOff.streamToHost (h : b.NeighboursOff) {cls} : (b.streamToHost cls).NeighboursOff :=
  .ite h.queueFragments (.ite h.queueFragments h)

theorem Block.NeighboursOff.canTrainStream (h : b.NeighboursOff) {cls} : (canTrainStream cls b).NeighboursOff := by
  unfold Machine.canTrainStream
  split
  · exact h
  · split
    · exact h
    · exact .foldl (fun _ _ h => h.canFrame) h.withHost.canAlarms

theorem Block.NeighboursOff.countTrain (h : b.NeighboursOff) {cls} : (b.countTrain cls).NeighboursOff := h.withLink

theorem Block.NeighboursOff.sendKeeper (h : b.NeighboursOff) {payload} : (b.sendKeeper payload).NeighboursOff :=
  .broadcast (.ite h.attend h)

theorem Block.NeighboursOff.forwardKeeper (h : b.NeighboursOff) {header payload} : (b.forwardKeeper header payload).NeighboursOff := by
  unfold Block.forwardKeeper
  extract_lets _ _ b3
  have h3 : b3.NeighboursOff := .ite h.countTrain.storeRecord.queueFragments h.countTrain.storeRecord
  exact .ite h3.withLink h3.sendKeeper

theorem Block.NeighboursOff.keeperForward (h : b.NeighboursOff) {header payload t} : (keeperForward header payload t b).NeighboursOff :=
  .ite h.at.takePebble.forwardKeeper h.at

/-! #### Clocks and chain time -/

theorem Block.NeighboursOff.enterTb (h : b.NeighboursOff) {st} : (b.enterTb st).NeighboursOff :=
  .ite (.clearLive (.put (.ite h.withTb h))) (.flagWindow (.put (.ite h.withTb h)))

theorem Block.NeighboursOff.enterHoldover (h : b.NeighboursOff) : b.enterHoldover.NeighboursOff := h.enterTb.raise
theorem Block.NeighboursOff.tbCycle (h : b.NeighboursOff) : b.tbCycle.NeighboursOff := .ite h.withTb h

theorem Block.NeighboursOff.shiftInstants (h : b.NeighboursOff) {d} : (b.shiftInstants d).NeighboursOff :=
  h.withPower.withThermal.withLanes.withGov.withTb.withWin.withKeeper.withImp.withPhys.withLink.withDiag

theorem Block.NeighboursOff.stepTime (h : b.NeighboursOff) {c} : (b.stepTime c).NeighboursOff := by
  unfold Block.stepTime
  extract_lets _ _ b1
  have h1 : b1.NeighboursOff := h.withTb
  exact .ite h1.shiftInstants.spoilWindow h1.shiftInstants

theorem Block.NeighboursOff.countMissed (h : b.NeighboursOff) {nominal} : (b.countMissed nominal).NeighboursOff := by
  unfold Block.countMissed
  split
  · exact .ite h h.countUp
  · exact h

theorem Block.NeighboursOff.judgeSync (h : b.NeighboursOff) {c} : (b.judgeSync c).NeighboursOff := by
  unfold Block.judgeSync
  extract_lets _ _ kept stepped
  have hk : ∀ {b}, b.NeighboursOff → (kept b).NeighboursOff := fun h => h.withTb.enterTb
  have hs : ∀ {b}, b.NeighboursOff → (stepped b).NeighboursOff := fun h => h.stepTime.withTb.enterTb
  clear_value kept stepped
  refine .ite (hs h) (.ite (.ite (hk h) ?_) (.ite (.ite (hk h) (hs h)) h))
  exact .ite (hs h.countUp).raise h.countUp.withTb

theorem Block.NeighboursOff.sync (h : b.NeighboursOff) {t stampPs} : (sync t stampPs b).NeighboursOff := by
  unfold Machine.sync
  extract_lets
  split
  · exact h.at.heard
  · split
    · exact h.at.heard.withTb
    · exact h.at.heard.countMissed.withTb.put.judgeSync

theorem Block.NeighboursOff.settleMissed (h : b.NeighboursOff) : b.settleMissed.NeighboursOff := h.countMissed.withTb

theorem Block.NeighboursOff.syncMissing (h : b.NeighboursOff) {t} : (syncMissing t b).NeighboursOff :=
  .ite h.at h.at.settleMissed.withTb.enterHoldover

theorem Block.NeighboursOff.slewStep (h : b.NeighboursOff) : (slewStep b).NeighboursOff := .ite h h.withTb

theorem Block.NeighboursOff.switchReference (h : b.NeighboursOff) {source} : (b.switchReference source).NeighboursOff := by
  unfold Block.switchReference
  extract_lets _ b2
  have h2 : b2.NeighboursOff := .ite h.put.spoilWindow h.put
  exact .ite (.ite h2.withTb h2.withTb.enterHoldover) h2.withTb.enterTb

theorem Block.NeighboursOff.pllReferenceSwitch (h : b.NeighboursOff) {p} : (pllReferenceSwitch p b).NeighboursOff :=
  .ite h h.switchReference

theorem Block.NeighboursOff.symbolLockLoss (h : b.NeighboursOff) {p} : (symbolLockLoss p b).NeighboursOff :=
  .ite h (.ite h.put.enterHoldover (.ite h.put.enterTb h.put))

theorem Block.NeighboursOff.chainReferenceSend (h : b.NeighboursOff) {t} : (chainReferenceSend t b).NeighboursOff :=
  .ite h.at.sendReference h.at

theorem Block.NeighboursOff.turnTo (h : b.NeighboursOff) {p} : (b.turnTo p).NeighboursOff := by
  unfold Block.turnTo
  split
  · exact h
  · extract_lets _ _ _ _ b3
    have h3 : b3.NeighboursOff := .ite h.withLink.withTb.putAll.spoilWindow h.withLink.withTb.putAll
    split
    · exact .ite h3 h3.enterHoldover
    · exact h.withLink.withTb.putAll.switchReference

theorem Block.NeighboursOff.followRing (h : b.NeighboursOff) : b.followRing.NeighboursOff := .ite h h.turnTo

theorem Block.NeighboursOff.chainReference (h : b.NeighboursOff) {p next} : (chainReference p next b).NeighboursOff := by
  unfold Machine.chainReference
  split
  · exact h
  · extract_lets b1 _ b2
    have h1 : b1.NeighboursOff := .ite h.turnTo h
    have h2 : b2.NeighboursOff := .ite h1.settleMissed h1
    exact .ite h1 (.ite h2.withTb.withTb.enterTb h2.withTb)

theorem Block.NeighboursOff.chainTimeWritten (h : b.NeighboursOff) {v} : (b.chainTimeWritten v).NeighboursOff := by
  unfold Block.chainTimeWritten
  extract_lets _ _ b1
  have h1 : b1.NeighboursOff := h.withTb
  exact .ite h1.shiftInstants h1.shiftInstants.sendReference

theorem Block.NeighboursOff.gate (h : b.NeighboursOff) {k bad need} : (b.gate k bad need).NeighboursOff := h.withTb

theorem Block.NeighboursOff.judgeClock (h : b.NeighboursOff) {k bad} : (b.judgeClock k bad).NeighboursOff :=
  .ite (.ite (.raiseExactly (.ite h (.reason (.put (.ite h.withTb.spoilWindow h.withTb))))) h.raise) (.ite h h.clearLive)

theorem Block.NeighboursOff.clockMonitorGate (h : b.NeighboursOff) {k count} : (clockMonitorGate k count b).NeighboursOff :=
  .ite h h.gate.judgeClock

theorem Block.NeighboursOff.faultRcCheck (h : b.NeighboursOff) {count} : (faultRcCheck count b).NeighboursOff := .ite h h.gate.judgeClock

/-! #### The flash -/

theorem Block.NeighboursOff.loadEntry_fst (h : b.NeighboursOff) {ix sub value} : (b.loadEntry ix sub value).1.NeighboursOff := by
  unfold Block.loadEntry
  split
  · exact h
  · split
    · exact h
    · split
      · split
        · exact h.withSocTable
        · exact h
      · split
        · split
          · exact h.withTempCurve
          · exact h
        · split
          · exact h
          · extract_lets
            split
            · exact h.put
            · exact h

theorem Block.NeighboursOff.loadEntries_fst (h : b.NeighboursOff) {n l skipped} : (b.loadEntries n l skipped).1.NeighboursOff := by
  induction n generalizing b l skipped with
  | zero => exact h
  | succ n ih =>
    unfold Block.loadEntries
    split
    · exact h
    · exact ih h.loadEntry_fst

theorem Block.NeighboursOff.seedFrom (h : b.NeighboursOff) {n l} : (b.seedFrom n l).NeighboursOff := by
  unfold Block.seedFrom
  extract_lets take
  have ht : ∀ {b} ix, b.NeighboursOff → (take b ix).NeighboursOff := fun ix h => by
    unfold take
    split
    · exact h.put
    · exact h
  exact (ht 0x3011 (ht 0x1011 h)).seedPaths

theorem Block.NeighboursOff.nvmFlag (h : b.NeighboursOff) {bit on} : (b.nvmFlag bit on).NeighboursOff := h.putBit
theorem Block.NeighboursOff.recordFault (h : b.NeighboursOff) {id} : (b.recordFault id).NeighboursOff := h.raise.withNvm

theorem Block.NeighboursOff.loadDictionary (h : b.NeighboursOff) {m} : (b.loadDictionary m).NeighboursOff := by
  unfold Block.loadDictionary
  extract_lets _ _ _ _ _ x1 _ _ _ _ _ _ _ _ _ _ b6
  clear_value x1
  have h6 : b6.NeighboursOff := .ite h.withNvm.nvmFlag.nvmFlag.nvmFlag.recordFault h.withNvm.nvmFlag.nvmFlag.nvmFlag
  split
  · exact h6
  · exact h6.seedFrom.loadEntries_fst.nvmFlag.putAll

theorem Block.NeighboursOff.loadSummaries (h : b.NeighboursOff) {m} : (b.loadSummaries m).NeighboursOff :=
  .withJournal (.put (.withNvm (.ite h.nvmFlag.recordFault h.nvmFlag)))

theorem Block.NeighboursOff.judgeEndurance (h : b.NeighboursOff) : b.judgeEndurance.NeighboursOff := .ite h.put.nvmFlag h.put
theorem Block.NeighboursOff.countCorrected (h : b.NeighboursOff) {l} : (b.countCorrected l).NeighboursOff := h.countUp
theorem Block.NeighboursOff.correctAgain (h : b.NeighboursOff) {base len} : (b.correctAgain base len).NeighboursOff := h.countCorrected

theorem Block.NeighboursOff.readFlash (h : b.NeighboursOff) {base len record} : (b.readFlash base len record).NeighboursOff :=
  .ite h.correctAgain.recordFault h.correctAgain

theorem Block.NeighboursOff.readSummaries (h : b.NeighboursOff) : b.readSummaries.NeighboursOff := by
  unfold Block.readSummaries
  split
  · exact h
  · exact h.readFlash

theorem Block.NeighboursOff.noteReadBack (h : b.NeighboursOff) {p r record} : (b.noteReadBack p r record).NeighboursOff :=
  .ite h.countCorrected.withNvm h.countCorrected.withNvm.recordFault

theorem Block.NeighboursOff.startRecord (h : b.NeighboursOff) {kind} : (b.startRecord kind).NeighboursOff := h.withNvm.put.put
theorem Block.NeighboursOff.startSummary (h : b.NeighboursOff) {m thenShip} : (b.startSummary m thenShip).NeighboursOff := h.withNvm.put.put

theorem Block.NeighboursOff.endProgram (h : b.NeighboursOff) {p result} : (b.endProgram p result).NeighboursOff :=
  h.withNvm.put.put.event.followReasons

theorem Block.NeighboursOff.acceptSave (h : b.NeighboursOff) : b.acceptSave.NeighboursOff := h.startRecord

theorem Block.NeighboursOff.restoreDefaults (h : b.NeighboursOff) {keepRwu} : (b.restoreDefaults keepRwu).NeighboursOff := by
  unfold Block.restoreDefaults
  extract_lets _ b2
  have h2 : b2.NeighboursOff := .ite h.withDict.withSocTable.withTempCurve (.foldl (fun _ _ h => h.edit)
      h.withDict.withSocTable.withTempCurve)
  exact .ite h2.put.put h2

theorem Block.NeighboursOff.acceptRestore (h : b.NeighboursOff) {all} : (b.acceptRestore all).NeighboursOff :=
  h.withNvm.put.restoreDefaults.startRecord

theorem Block.NeighboursOff.snoopNvm (h : b.NeighboursOff) {l} : (b.snoopNvm l).NeighboursOff := h.put

theorem Block.NeighboursOff.sectorEraseComplete_snd (h : b.NeighboursOff) {m} : (sectorEraseComplete m b).2.NeighboursOff := by
  unfold Machine.sectorEraseComplete
  split
  · exact h
  · split
    · exact h
    · extract_lets
      split
      · exact h.withNvm.judgeEndurance
      · exact h.withNvm.judgeEndurance.endProgram

theorem Block.NeighboursOff.pageProgram_snd (h : b.NeighboursOff) {m} : (pageProgram m b).2.NeighboursOff := by
  unfold Machine.pageProgram
  split
  · exact h
  · split
    · exact h
    · extract_lets
      split
      · exact h.withNvm.snoopNvm.endProgram
      · exact h.withNvm.snoopNvm

theorem Block.NeighboursOff.switchDictBank (h : b.NeighboursOff) {p} : (b.switchDictBank p).NeighboursOff :=
  .ite h.withNvm.putAll.nvmFlag.nvmFlag.nvmFlag.clearLive h.withNvm.putAll.nvmFlag.nvmFlag.nvmFlag

theorem Block.NeighboursOff.saveReadBack (h : b.NeighboursOff) {r} : (b.saveReadBack r).NeighboursOff := by
  unfold Block.saveReadBack
  split
  · exact h
  · split
    · exact h
    · extract_lets
      exact .ite h.noteReadBack.switchDictBank.judgeEndurance.endProgram (.ite h.noteReadBack.endProgram h.noteReadBack.withNvm)

theorem Block.NeighboursOff.switchSummaryBank (h : b.NeighboursOff) {p} : (b.switchSummaryBank p).NeighboursOff :=
  .ite h.withNvm.put.nvmFlag.clearLive h.withNvm.put.nvmFlag

theorem Block.NeighboursOff.operatingHour (h : b.NeighboursOff) : (operatingHour b).NeighboursOff := .ite h.count32 h

/-! #### The thermal ladder -/

theorem Block.NeighboursOff.formHottest (h : b.NeighboursOff) : b.formHottest.NeighboursOff := by
  unfold Block.formHottest
  split
  · exact h.putAll
  · exact h.putAll.put

theorem Block.NeighboursOff.laneThermometerInterval (h : b.NeighboursOff) {t lanes} :
    (laneThermometerInterval t lanes b).NeighboursOff := by
  unfold Machine.laneThermometerInterval
  extract_lets _ b2
  have h2 : b2.NeighboursOff := by
    unfold b2
    refine .foldl (fun b x h => ?_) h.at
    split
    · exact h.put
    · exact h
  exact .ite h.at (.ite h2.formHottest.withThermal.put h2.formHottest.withThermal)

theorem Block.NeighboursOff.excludeLane (h : b.NeighboursOff) {hottest k} : (b.excludeLane hottest k).NeighboursOff :=
  .ite (.raiseAtLeast (.ite h.putBit.reason.put h.putBit.reason)) (.raise (.ite h.putBit.reason.put h.putBit.reason))

theorem Block.NeighboursOff.crossCheck (h : b.NeighboursOff) : b.crossCheck.NeighboursOff :=
  .withThermal (.foldl (fun _ _ h => h.excludeLane) h)

theorem Block.NeighboursOff.housekeepingRound (h : b.NeighboursOff) {t slices} : (housekeepingRound t slices b).NeighboursOff := by
  unfold Machine.housekeepingRound
  extract_lets _ b2 b3
  have h2 : b2.NeighboursOff := by
    unfold b2
    refine .foldl (fun b x h => ?_) h.at
    split
    · exact h.put
    · exact h
  have h3 : b3.NeighboursOff := .foldl (fun _ _ h => h.put) h2
  exact .ite h.at h3.crossCheck

theorem Block.NeighboursOff.setLevel (h : b.NeighboursOff) {n} : (b.setLevel n).NeighboursOff := by
  unfold Block.setLevel
  extract_lets _ _ _ _ b3
  have h3 : b3.NeighboursOff := .ite h.put.put.withThermal.askAveraging h.put.put.withThermal
  exact .ite h3.reason.raise (.ite h3.reason.clearLive h3.reason)

theorem Block.NeighboursOff.throttleEvaluation (h : b.NeighboursOff) {t} : (throttleEvaluation t b).NeighboursOff := by
  unfold Machine.throttleEvaluation
  extract_lets _ _ _ _ _ _ b3 b4
  have h3 : b3.NeighboursOff := .ite h.at.put.withThermal h.at.put
  have h4 : b4.NeighboursOff := .ite (.ite h3.raise h3) h3.clearLive
  exact .ite h.at (.ite h4.setLevel (.ite h4.setLevel h4))

theorem Block.NeighboursOff.wantSummary (h : b.NeighboursOff) {m} : (b.wantSummary m).NeighboursOff :=
  .ite h.withNvm (.ite h.withNvm.readSummaries.startSummary h.withNvm.readSummaries)

theorem Block.NeighboursOff.settleJournal (h : b.NeighboursOff) : b.settleJournal.NeighboursOff := .ite h.drainAll h

theorem Block.NeighboursOff.preShutdown (h : b.NeighboursOff) {m} : (preShutdown m b).NeighboursOff :=
  .ite h (.wantSummary (.settleJournal (.ite h.raise.faultCycle.put h.raise.faultCycle.put.setLevel)))

theorem Block.NeighboursOff.preShutdownEnd (h : b.NeighboursOff) {t} : (preShutdownEnd t b).NeighboursOff := by
  unfold Machine.preShutdownEnd
  extract_lets
  split
  · exact .ite h.at.clearLive h.at
  · exact h.at

theorem Block.NeighboursOff.summaryWrite (h : b.NeighboursOff) {m} : (summaryWrite m b).NeighboursOff := .ite h.settleJournal.wantSummary h

/-! #### Impedance -/

theorem Block.NeighboursOff.editEntry (h : b.NeighboursOff) {k f} : (b.editEntry k f).NeighboursOff := h.withImp

theorem Block.NeighboursOff.putTemp (h : b.NeighboursOff) {i status value} : (b.putTemp i status value).NeighboursOff := by
  unfold Block.putTemp
  extract_lets
  split
  · exact h.put.put
  · exact h.put

theorem Block.NeighboursOff.staleTemps (h : b.NeighboursOff) {k p} : (b.staleTemps k p).NeighboursOff :=
  .ite (.foldl (fun _ _ h => .ite h h.putTemp) h) h

theorem Block.NeighboursOff.discardResults (h : b.NeighboursOff) {k} : (b.discardResults k).NeighboursOff := h.editEntry.staleTemps

theorem Block.NeighboursOff.endAmbient (h : b.NeighboursOff) {k code} : (b.endAmbient k code).NeighboursOff := by
  unfold Block.endAmbient
  split
  · exact h
  · extract_lets
    split
    · exact h.editEntry
    · exact .ite h.editEntry.editEntry h.editEntry.discardResults

theorem Block.NeighboursOff.endKeeper (h : b.NeighboursOff) {k} : (b.endKeeper k).NeighboursOff := by
  unfold Block.endKeeper
  extract_lets
  split
  · exact h
  · split
    · exact h.withKeeper
    · exact h.withKeeper.noteSat.withKeeper

theorem Block.NeighboursOff.excite (h : b.NeighboursOff) {i on} : (b.excite i on).NeighboursOff := .ite (h.turnOn _ _) h.edit

theorem Block.NeighboursOff.releaseExcited (h : b.NeighboursOff) : b.releaseExcited.NeighboursOff :=
  h.mapCh rfl (by grind [GovCh.off, GovCh.dark])

theorem Block.NeighboursOff.endSequence (h : b.NeighboursOff) {odd even} : (b.endSequence odd even).NeighboursOff := h.withImp

theorem Block.NeighboursOff.beginSettle (h : b.NeighboursOff) {todo x odd even} : (b.beginSettle todo x odd even).NeighboursOff := by
  unfold Block.beginSettle
  extract_lets
  split
  · exact h.releaseExcited.endSequence
  · extract_lets _ _ _ _ _ _ _ _ _ _ b2 b3
    have h2 : b2.NeighboursOff := .foldl (fun _ _ h => .foldl (fun _ _ h => .ite h.edit h) h) h.releaseExcited
    have h3 : b3.NeighboursOff := .foldl (fun _ _ h => h.excite.noteEdge) h2
    exact h3.withImp

theorem Block.NeighboursOff.activeSequenceStart (h : b.NeighboursOff) {t} : (activeSequenceStart t b).NeighboursOff :=
  .ite h.at h.at.beginSettle

theorem Block.NeighboursOff.excitationEdge (h : b.NeighboursOff) {t} : (excitationEdge t b).NeighboursOff := by
  unfold Machine.excitationEdge
  extract_lets
  split
  · exact h.at
  · exact .foldl (fun _ _ h => .ite h h.excite.noteEdge) h.at

theorem Block.NeighboursOff.addActiveSpan (h : b.NeighboursOff) {lo hi} : (b.addActiveSpan lo hi).NeighboursOff := h.withImp

theorem Block.NeighboursOff.dropActive (h : b.NeighboursOff) {a'} : (b.dropActive a').NeighboursOff := by
  unfold Block.dropActive
  extract_lets
  split
  · exact h.releaseExcited.addActiveSpan
  · exact h.releaseExcited.addActiveSpan.editEntry.staleTemps

theorem Block.NeighboursOff.discardActive (h : b.NeighboursOff) : b.discardActive.NeighboursOff := by
  unfold Block.discardActive
  split
  · exact h
  · exact h.dropActive.endSequence

theorem Block.NeighboursOff.reactSafe (h : b.NeighboursOff) : b.reactSafe.NeighboursOff := .ite h.discardActive h

theorem Block.NeighboursOff.activeIntervalDiscard (h : b.NeighboursOff) : (activeIntervalDiscard b).NeighboursOff :=
  .ite h.discardActive.noteEdges h

theorem Block.NeighboursOff.endActive (h : b.NeighboursOff) {k} : (b.endActive k).NeighboursOff := by
  unfold Block.endActive
  split
  · exact h
  · split
    · exact h
    · split
      · exact h
      · split
        · exact h.discardActive.noteEdges
        · split
          · exact h.addActiveSpan.editEntry.staleTemps.beginSettle.noteEdges
          · exact h.addActiveSpan.editEntry.beginSettle.noteEdges

theorem Block.NeighboursOff.analysisIntervalEnd (h : b.NeighboursOff) {k t} : (analysisIntervalEnd k t b).NeighboursOff := by
  unfold Machine.analysisIntervalEnd
  extract_lets
  exact .ite h.at (.ite h.at.endKeeper (.ite h.at.endKeeper
      (.ite h.at.endKeeper.endAmbient (.ite h.at.endKeeper.endActive h.at.endKeeper))))

theorem Block.NeighboursOff.judgeOutliers (h : b.NeighboursOff) : b.judgeOutliers.NeighboursOff := .ite h h.clearLive

theorem Block.NeighboursOff.outlierCheck (h : b.NeighboursOff) {ch q x nodeMedian} : (b.outlierCheck ch q x nodeMedian).NeighboursOff :=
  .ite (.ite h.withImp.noteSat.raise h.withImp) h.withImp.judgeOutliers

theorem Block.NeighboursOff.outlierEntry (h : b.NeighboursOff) {k l} : (b.outlierEntry k l).NeighboursOff := by
  unfold Block.outlierEntry
  extract_lets
  refine .foldl (fun b x h => ?_) h
  split
  · exact .ite h.outlierCheck h
  · exact h

theorem Block.NeighboursOff.estimateTemp (h : b.NeighboursOff) {i c isNew} : (b.estimateTemp i c isNew).NeighboursOff := by
  unfold Block.estimateTemp
  extract_lets
  split
  · exact h.putTemp
  · split
    · exact h.putTemp
    · split
      · exact h.putTemp
      · split <;> exact h.putTemp

theorem Block.NeighboursOff.estimateTemps (h : b.NeighboursOff) {k l} : (b.estimateTemps k l).NeighboursOff := by
  unfold Block.estimateTemps
  split
  · refine .foldl (fun b x h => ?_) h
    split
    · exact h.estimateTemp
    · exact h
  · exact h

theorem Block.NeighboursOff.dropTemps (h : b.NeighboursOff) : b.dropTemps.NeighboursOff := .ite (.foldl (fun _ _ h => h.putTemp) h) h

theorem Block.NeighboursOff.publishEntry (h : b.NeighboursOff) {k iv item} : (b.publishEntry k iv item).NeighboursOff := by
  unfold Block.publishEntry
  extract_lets _ _ _ _ _ _ b4
  have h4 : b4.NeighboursOff := by
    unfold b4
    split
    · exact h.noteSat.editEntry.withFree.put.put
    · exact h.noteSat.editEntry.withFree
  exact h4.estimateTemps.outlierEntry

theorem Block.NeighboursOff.impedancePublish (h : b.NeighboursOff) {k} : (impedancePublish k b).NeighboursOff := by
  unfold Machine.impedancePublish
  split
  · exact h
  · exact .ite h (.ite h.publishEntry (.ite h h.publishEntry))

theorem Block.NeighboursOff.ambientPairingTimeout (h : b.NeighboursOff) {k} : (ambientPairingTimeout k b).NeighboursOff := by
  unfold Machine.ambientPairingTimeout
  split
  · exact h
  · split
    · exact h.editEntry.discardResults
    · exact h

theorem Block.NeighboursOff.entryChanged (h : b.NeighboursOff) {k} : (b.entryChanged k).NeighboursOff := by
  unfold Block.entryChanged
  extract_lets _ _ b3
  have h3 : b3.NeighboursOff := by
    unfold b3
    split
    · split
      · exact .ite h.discardResults.editEntry (.ite h.discardResults.editEntry.discardActive
          h.discardResults.editEntry.dropActive.beginSettle)
      · exact h.discardResults.editEntry
    · exact h.discardResults.editEntry
  exact h3.dropTemps

theorem Block.NeighboursOff.learnRs (h : b.NeighboursOff) {i est} : (b.learnRs i est).NeighboursOff := h.noteSat.put

theorem Block.NeighboursOff.useStep (h : b.NeighboursOff) {c size} : (b.useStep c size).NeighboursOff :=
  .withFree (.foldl (fun _ _ h => h.outlierCheck) (.foldl (fun _ _ h => h.learnRs) h))

theorem Block.NeighboursOff.matchSteps (h : b.NeighboursOff) : b.matchSteps.NeighboursOff := by
  unfold Block.matchSteps
  split
  · exact h
  · refine .foldl (fun b x h => ?_) h
    split
    · exact .ite h h.withImp.useStep
    · exact h

theorem Block.NeighboursOff.seekStep (h : b.NeighboursOff) : b.seekStep.NeighboursOff := .ite h (.ite h h.withImp.matchSteps)
theorem Block.NeighboursOff.trimE6 (h : b.NeighboursOff) : b.trimE6.NeighboursOff := h.withTb.withImp

/-! #### The state of the cells -/

theorem Block.NeighboursOff.editSoc (h : b.NeighboursOff) {i f} : (b.editSoc i f).NeighboursOff := h.withImp
theorem Block.NeighboursOff.publishSoc (h : b.NeighboursOff) {i} : (b.publishSoc i).NeighboursOff := .ite h.noteSat.put.put h.put.put
theorem Block.NeighboursOff.growU (h : b.NeighboursOff) {i d} : (b.growU i d).NeighboursOff := h.noteSat.editSoc
theorem Block.NeighboursOff.dropSoc (h : b.NeighboursOff) : b.dropSoc.NeighboursOff := .foldl (fun _ _ h => h.publishSoc) h.withImp

theorem Block.NeighboursOff.advanceSoc (h : b.NeighboursOff) {i pack gap timed} : (b.advanceSoc i pack gap timed).NeighboursOff :=
  .ite h.editSoc h.editSoc.editSoc.growU.publishSoc

theorem Block.NeighboursOff.countCharge (h : b.NeighboursOff) {delta changed us} : (b.countCharge delta changed us).NeighboursOff :=
  .ite (.ite h.withImp.withImp h.withImp) (.foldl (fun _ _ h => h.advanceSoc) (.ite h.withImp.withImp h.withImp))

theorem Block.NeighboursOff.shiftAnchors (h : b.NeighboursOff) {d} : (b.shiftAnchors d).NeighboursOff := h.withImp

theorem Block.NeighboursOff.restPoint (h : b.NeighboursOff) {i socv} : (b.restPoint i socv).NeighboursOff := by
  unfold Block.restPoint
  extract_lets
  split
  · exact h.editSoc
  · exact .ite h h.noteSat.put.editSoc

theorem Block.NeighboursOff.excessOf (h : b.NeighboursOff) {i excess} : (b.excessOf i excess).NeighboursOff :=
  .ite h.noteSat.put.editSoc.noteSat.raise (.ite h.noteSat.put.editSoc h.noteSat.put.editSoc.clearLive)

theorem Block.NeighboursOff.excesses (h : b.NeighboursOff) {fresh} : (b.excesses fresh).NeighboursOff :=
  .foldl (fun _ _ h => .ite h h.excessOf) h

theorem Block.NeighboursOff.restCell_fst (h : b.NeighboursOff) {i us quiet mean} : (b.restCell i us quiet mean).1.NeighboursOff := by
  unfold Block.restCell
  extract_lets
  split
  · exact h.editSoc
  · split
    · exact h.editSoc
    · extract_lets
      split
      · exact h.editSoc.editSoc.publishSoc
      · split
        · exact h.editSoc.editSoc.restPoint.publishSoc
        · exact h.editSoc

theorem Block.NeighboursOff.restInterrupted (h : b.NeighboursOff) : b.restInterrupted.NeighboursOff := h.withImp

theorem Block.NeighboursOff.restStep (h : b.NeighboursOff) : b.restStep.NeighboursOff := by
  unfold Block.restStep
  extract_lets _ _ _ _ r
  have hr : r.1.NeighboursOff := by
    refine List.foldlRecOn (motive := fun x : Block × List Nat => x.1.NeighboursOff) _ _ h.withImp fun _ hx _ _ => ?_
    exact hx.restCell_fst
  exact .ite h (.ite h.withImp.restInterrupted hr.excesses)

theorem Block.NeighboursOff.restBroken (h : b.NeighboursOff) : b.restBroken.NeighboursOff := h.withImp
theorem Block.NeighboursOff.restOutside (h : b.NeighboursOff) : b.restOutside.NeighboursOff := .ite h h.restBroken

theorem Block.NeighboursOff.firstSoc (h : b.NeighboursOff) : b.firstSoc.NeighboursOff := by
  unfold Block.firstSoc
  split
  · exact h
  · refine .foldl (fun b x h => ?_) h
    split
    · exact h
    · split
      · exact .ite h h.restCell_fst
      · exact h

theorem Block.NeighboursOff.drift (h : b.NeighboursOff) {seconds} : (b.drift seconds).NeighboursOff :=
  .ite h (.foldl (fun _ _ h => .ite h.growU.publishSoc h) h)

theorem Block.NeighboursOff.impStart (h : b.NeighboursOff) : b.impStart.NeighboursOff :=
  .ite h (.drift (.foldl (fun _ _ h => h.advanceSoc) h.withImp))

theorem Block.NeighboursOff.impStop (h : b.NeighboursOff) : b.impStop.NeighboursOff :=
  .ite h (.foldl (fun _ _ h => .ite h h.putTemp) h.discardActive.withImp)

theorem Block.NeighboursOff.followE6 (h : b.NeighboursOff) : b.followE6.NeighboursOff := .ite h.impStart (.ite h.impStop h)

theorem Block.NeighboursOff.autobalancePeriod (h : b.NeighboursOff) {t} : (autobalancePeriod t b).NeighboursOff := by
  unfold Machine.autobalancePeriod
  extract_lets
  split
  · exact h.at
  · refine .foldl (fun b x h => ?_) h.at
    split
    · exact h
    · split
      · exact h.targetWritten
      · exact h

/-! #### Keeper records and windows -/

theorem Block.NeighboursOff.takeCurrent_fst (h : b.NeighboursOff) {p} : (b.takeCurrent p).1.NeighboursOff :=
  .ite h.withKeeper.noteSat.putAll h.withKeeper.noteSat.putAll.put.put

theorem Block.NeighboursOff.takeSchedule (h : b.NeighboursOff) {p} : (b.takeSchedule p).NeighboursOff := by
  unfold Block.takeSchedule
  extract_lets
  split
  · exact h.withWin.withWin
  · exact .ite h.withWin.withWin (.ite h.withWin.withWin.withWin h.withWin.withWin)

theorem Block.NeighboursOff.takeHarmonics (h : b.NeighboursOff) {p} : (b.takeHarmonics p).NeighboursOff :=
  .foldl (fun _ _ h => .ite h (.ite (.withKeeper (.ite h.editEntry h)) (.ite h.editEntry h))) h

theorem Block.NeighboursOff.takeSteps (h : b.NeighboursOff) {p} : (b.takeSteps p).NeighboursOff := h.withImp.matchSteps

theorem Block.NeighboursOff.takeBase (h : b.NeighboursOff) {p} : (b.takeBase p).NeighboursOff :=
  h.takeCurrent_fst.takeSchedule.takeHarmonics.takeSteps.countCharge.restOutside.restStep

theorem Block.NeighboursOff.takePhasor (h : b.NeighboursOff) {p} : (b.takePhasor p).NeighboursOff := .ite h h.editEntry

theorem Block.NeighboursOff.takeRecord (h : b.NeighboursOff) {p} : (b.takeRecord p).NeighboursOff :=
  .ite h (.ite h.takeBase (.ite h.takePhasor h))

theorem Block.NeighboursOff.withOwnRecord (h : b.NeighboursOff) {f} (hf : ∀ {b}, b.NeighboursOff → (f b).NeighboursOff) :
    (b.withOwnRecord f).NeighboursOff := by
  unfold Block.withOwnRecord
  extract_lets _ _ _ b2
  have h2 : b2.NeighboursOff := .foldl (fun _ _ h => h.takeRecord) (hf h)
  exact .ite (.foldl (fun _ _ h => h.forwardKeeper) h2.withKeeper) h2

theorem Block.NeighboursOff.keeperRecord (h : b.NeighboursOff) {p t} : (keeperRecord p t b).NeighboursOff := .ite h.at h.at.takeRecord

theorem Block.NeighboursOff.noteConducted (h : b.NeighboursOff) : b.noteConducted.NeighboursOff :=
  h.withImp.mapCh rfl fun _ on => on

theorem Block.NeighboursOff.publishAll (h : b.NeighboursOff) : b.publishAll.NeighboursOff :=
  .ite (h.noteConducted.withOwnRecord fun h => h.publishWindow).firstSoc.restStep h

theorem Block.NeighboursOff.windowPublish (h : b.NeighboursOff) {t} : (windowPublish t b).NeighboursOff := .ite h.at.publishAll h.at

theorem Block.NeighboursOff.noteSpoiled (h : b.NeighboursOff) : b.noteSpoiled.NeighboursOff := by
  unfold Block.noteSpoiled
  split
  · exact .ite h.spoil h
  · exact h

theorem Block.NeighboursOff.publishLate (h : b.NeighboursOff) {t} : (b.publishLate t).NeighboursOff := by
  unfold Block.publishLate
  split
  · exact .ite h.publishAll h
  · exact h

theorem Block.NeighboursOff.passBoundary (h : b.NeighboursOff) {t} : (b.passBoundary t).NeighboursOff :=
  (h.at.publishLate.withOwnRecord fun h => h.windowBoundary.noteSpoiled)

theorem Block.NeighboursOff.holdAggregate (h : b.NeighboursOff) {p} : (b.holdAggregate p).NeighboursOff :=
  .ite (.withImp (.ite h.putAll h)) (.ite h.putAll h)

theorem Block.NeighboursOff.chainAggregate (h : b.NeighboursOff) {p} : (chainAggregate p b).NeighboursOff := .ite h.holdAggregate h

/-! #### Faults and engines -/

theorem Block.NeighboursOff.faultRegistration (h : b.NeighboursOff) : (faultRegistration b).NeighboursOff := .ite h.faultCycle.reactSafe h
theorem Block.NeighboursOff.captureFifoDrain (h : b.NeighboursOff) {t} : (captureFifoDrain t b).NeighboursOff := .ite h.at.drainOne h.at
theorem Block.NeighboursOff.judgeHeadFlt (h : b.NeighboursOff) : b.judgeHeadFlt.NeighboursOff := .ite h.setFlt.queueAlarm h
theorem Block.NeighboursOff.releaseFlt (h : b.NeighboursOff) : b.releaseFlt.NeighboursOff := .ite h.judgeHeadFlt h.setFlt

theorem Block.NeighboursOff.lowerHold (h : b.NeighboursOff) {next} : (b.lowerHold next).NeighboursOff :=
  .ite h.put.event.releaseFlt h.put.event

theorem Block.NeighboursOff.safeStateExit (h : b.NeighboursOff) {t} : (safeStateExit t b).NeighboursOff := .ite h.at.lowerHold h.at
theorem Block.NeighboursOff.ackSource (h : b.NeighboursOff) {s} : (b.ackSource s).NeighboursOff := .ite h.withFlint.dropLatch h.withFlint

theorem Block.NeighboursOff.acknowledge (h : b.NeighboursOff) {v} : (b.acknowledge v).NeighboursOff :=
  .followReasons (.event (.withJournal (.foldl (fun _ _ h => h.ackSource) h)))

theorem Block.NeighboursOff.judgeEngines (h : b.NeighboursOff) : b.judgeEngines.NeighboursOff := .ite h.clearLive h

theorem Block.NeighboursOff.engineWatchdogExpiry (h : b.NeighboursOff) {k t} : (engineWatchdogExpiry k t b).NeighboursOff := by
  unfold Machine.engineWatchdogExpiry
  extract_lets _ _ _ _ _ b3 b4 b5
  have h3 : b3.NeighboursOff := .ite h.at.withDiag.flagWindow h.at.withDiag
  have h4 : b4.NeighboursOff := .ite h3.reason h3
  have h5 : b5.NeighboursOff := .ite h4.raiseExactly h4.raise
  exact .ite h.at h5.followE6

theorem Block.NeighboursOff.engineRestart (h : b.NeighboursOff) {k dictionaryOk m} : (engineRestart k dictionaryOk m b).NeighboursOff := by
  unfold Machine.engineRestart
  split
  · exact h
  · extract_lets _ _ _ _ b3 b4
    have h3 : b3.NeighboursOff := .ite h.withDiag.restoreDefaults.correctAgain.loadDictionary.withNvm.keeperMoved.followRing.judgeDiag
        h.withDiag
    have h4 : b4.NeighboursOff := .ite h3.drainFifos (.ite h3.drainE4 h3)
    exact h4.followE6.judgeEngines

theorem Block.NeighboursOff.engineSelfTest (h : b.NeighboursOff) {k passed} : (engineSelfTest k passed b).NeighboursOff :=
  .ite h (.ite h.withDiag.judgeEngines h.withDiag.raise)

theorem Block.NeighboursOff.engineLoadMeasurement (h : b.NeighboursOff) {percent} : (engineLoadMeasurement percent b).NeighboursOff :=
  .ite h (.foldl (fun _ _ h => h.put) h)

theorem Block.NeighboursOff.memoryError (h : b.NeighboursOff) {memory address double} :
    (memoryError memory address double b).NeighboursOff :=
  .ite h (.ite h.raise (.ite h.withBedrock h))

theorem Block.NeighboursOff.memoryScrub (h : b.NeighboursOff) {errors} : (memoryScrub errors b).NeighboursOff :=
  .foldl (fun _ _ h => h.memoryError) h

theorem Block.NeighboursOff.configSignatureCheck (h : b.NeighboursOff) {corrupt} : (configSignatureCheck corrupt b).NeighboursOff := by
  unfold Machine.configSignatureCheck
  split
  · exact h
  · extract_lets b1
    have h1 : b1.NeighboursOff := by
      unfold b1
      split
      · exact .ite h.put.withNvm h
      · exact h
    split
    · exact h1
    · exact h1.raise

theorem Block.NeighboursOff.fltReadback (h : b.NeighboursOff) {level us} : (fltReadback level us b).NeighboursOff :=
  .ite h (.ite (.ite h.putBit.reason.raise h.putBit) (.ite h.putBit (.ite h.putBit h)))

theorem Block.NeighboursOff.tapPassed (h : b.NeighboursOff) {ch ranB} : (b.tapPassed ch ranB).NeighboursOff := by
  unfold Block.tapPassed
  split
  · exact .ite h.withLanes.clearLive h
  · exact h

theorem Block.NeighboursOff.openSlot (h : b.NeighboursOff) {ch start ranB release} : (b.openSlot ch start ranB release).NeighboursOff :=
  h.holdSlot.withLanes

theorem Block.NeighboursOff.runSlot (h : b.NeighboursOff) {ch start again phaseA phaseB} :
    (b.runSlot ch start again phaseA phaseB).NeighboursOff := by
  unfold Block.runSlot
  extract_lets _ _ x1
  clear_value x1
  split
  · exact h.openSlot.tapPassed
  · extract_lets b3 _ b4
    have h3 : b3.NeighboursOff := by
      unfold b3
      split
      · split
        · exact h.openSlot.tapPassed
        · exact h.openSlot
      · exact h.openSlot
    have h4 : b4.NeighboursOff := .ite h3.withLanes h3
    exact .ite h4.raise h3.withLanes

theorem Block.NeighboursOff.takeSlot (h : b.NeighboursOff) {index} : (b.takeSlot index).NeighboursOff := h.withLanes

theorem Block.NeighboursOff.openWireSlot (h : b.NeighboursOff) {t index phaseA phaseB} :
    (openWireSlot t index phaseA phaseB b).NeighboursOff :=
  .ite h.at (.ite h.at.takeSlot.releaseSlot.runSlot (.ite h.at.withLanes h.at))

theorem Block.NeighboursOff.openWireRepeat (h : b.NeighboursOff) {phaseA phaseB} : (openWireRepeat phaseA phaseB b).NeighboursOff := by
  unfold Machine.openWireRepeat
  split
  · exact h
  · exact .ite h h.at.withLanes.releaseSlot.runSlot

/-! #### Power states -/

theorem Block.NeighboursOff.setMode (h : b.NeighboursOff) {m} : (b.setMode m).NeighboursOff := h.withPower.put

theorem Block.NeighboursOff.stopMeasuring (h : b.NeighboursOff) : b.stopMeasuring.NeighboursOff := by
  unfold Block.stopMeasuring
  split
  · exact h
  · extract_lets _ _ _ _ b4
    have h4 : b4.NeighboursOff := .ite h.switchesOff.publishAll.withWin.abandonCaptures.lanesStop.impStop.dropAdvisories.keeperStop.showNominal
        h.switchesOff.publishAll.withWin.abandonCaptures.lanesStop.impStop.dropAdvisories
    exact .setMode (.mapCh h4.settleAveraging (f := GovCh.rested) rfl fun _ on => on)

theorem Block.NeighboursOff.dryCheck (h : b.NeighboursOff) {ack} : (b.dryCheck ack).NeighboursOff :=
  .ite h (.foldl (fun _ _ h => .raise (.foldl (fun _ _ h => h.disable) h)) h)

theorem Block.NeighboursOff.zeroTheta (h : b.NeighboursOff) : b.zeroTheta.NeighboursOff := h.withGov.put

theorem Block.NeighboursOff.startMeasuring (h : b.NeighboursOff) : b.startMeasuring.NeighboursOff :=
  h.put.setMode.lanesStart.loadWindowSettings.withWin

theorem Block.NeighboursOff.toMeasure (h : b.NeighboursOff) {ack} : (b.toMeasure ack).NeighboursOff :=
  .dryCheck (.zeroTheta (.ite h.setMode.followE6 h.startMeasuring))

theorem Block.NeighboursOff.toFull (h : b.NeighboursOff) {ack} : (b.toFull ack).NeighboursOff :=
  .ite (.ite h h.toMeasure) (.dryCheck (.zeroTheta (.followE6 (.setMode (.ite h h.startMeasuring)))))

theorem Block.NeighboursOff.leaveAwake (h : b.NeighboursOff) {m} : (b.leaveAwake m).NeighboursOff :=
  h.stopMeasuring.drainAll.withAccess.sendClose.putAll.withPhys.withFlint.withPower

theorem Block.NeighboursOff.handOver (h : b.NeighboursOff) {plan} : (b.handOver plan).NeighboursOff := h.withBedrock
theorem Block.NeighboursOff.enterSleep (h : b.NeighboursOff) {plan} : (b.enterSleep plan).NeighboursOff := h.handOver.leaveAwake.setFlt
theorem Block.NeighboursOff.clearObjects (h : b.NeighboursOff) {indices} : (b.clearObjects indices).NeighboursOff := h.withDict

/-- A channel that Ship has forgotten does not conduct (R103). -/
@[simp] theorem GovCh.forgotten_on (c : GovCh) : c.forgotten.on = false := rfl

theorem Block.NeighboursOff.forget (h : b.NeighboursOff) : b.forget.NeighboursOff :=
  .withPower (.withImp (h.clearObjects.put.withJournal.withFlint.mapCh rfl fun _ on => by simp at on))

theorem Block.NeighboursOff.enterShip (h : b.NeighboursOff) : b.enterShip.NeighboursOff := h.withBedrock.leaveAwake.forget.setFlt

theorem Block.NeighboursOff.enterShutdown (h : b.NeighboursOff) {hot} : (b.enterShutdown hot).NeighboursOff :=
  .setFlt (.withBedrock (.withNvm (.leaveAwake (.ite h.raise.faultCycle.put.countUp h.raise.faultCycle.put.countUp.withBedrock))))

theorem Block.NeighboursOff.finishPage_snd (h : b.NeighboursOff) {m} : (finishPage m b).2.NeighboursOff := by
  unfold Machine.finishPage
  split
  · exact h
  · extract_lets
    split
    · exact h.withNvm
    · exact h.withNvm.snoopNvm

theorem Block.NeighboursOff.beginShip (h : b.NeighboursOff) {m} : (b.beginShip m).NeighboursOff :=
  .ite h.settleJournal.readSummaries.startSummary h.settleJournal.readSummaries.enterShip

theorem Block.NeighboursOff.beginReset (h : b.NeighboursOff) : b.beginReset.NeighboursOff :=
  h.stopMeasuring.switchesOff.drainAll.withAccess.sendClose.putAll.withPhys.withPower

theorem Block.NeighboursOff.resumePending (h : b.NeighboursOff) {m} : (b.resumePending m).NeighboursOff :=
  .ite h (.ite h.beginShip (.ite h.enterSleep (.ite h.beginReset h)))

theorem Block.NeighboursOff.wakeTones (h : b.NeighboursOff) {us census} : (b.wakeTones us census).NeighboursOff :=
  .withLink (.withPhys (.ite h.sendTone.sendTone h.sendTone))

theorem Block.NeighboursOff.acceptCommand (h : b.NeighboursOff) {code ack m} : (b.acceptCommand code ack m).NeighboursOff := by
  unfold Block.acceptCommand
  extract_lets
  exact .ite h.event.wakeTones (.ite (.ite h.event.stopMeasuring.put h.event)
      (.ite h.event.toMeasure.put (.ite (.ite h.event h.event.toFull.put) h.event.closeTransfers.withPower.put.resumePending)))

theorem Block.NeighboursOff.powerCommand_snd (h : b.NeighboursOff) {code ack m} : (powerCommand code ack m b).2.NeighboursOff := by
  unfold Machine.powerCommand
  split
  · exact h
  · exact h.acceptCommand

theorem Block.NeighboursOff.commandRow (h : b.NeighboursOff) {code ack m} : (commandRow code ack m b).NeighboursOff :=
  .ite h h.disarm.powerCommand_snd.emit.noteEdges

theorem Block.NeighboursOff.transitionComplete (h : b.NeighboursOff) : (transitionComplete b).NeighboursOff := .ite h.put h

theorem Block.NeighboursOff.commLoss (h : b.NeighboursOff) {t m} : (commLoss t m b).NeighboursOff :=
  .ite h.at h.at.raise.faultCycle.switchesOff.closeTransfers.put.resumePending

theorem Block.afresh_neighboursOff (b : Block) (mode : Mode) : (b.afresh mode).NeighboursOff :=
  (Block.fresh_neighboursOff b.fuses mode).withNvm

theorem Block.NeighboursOff.porRelease (h : b.NeighboursOff) : (porRelease b).NeighboursOff :=
  .ite (b.afresh_neighboursOff _).withOut.withFree h

theorem Block.porAssert_neighboursOff (b : Block) : (porAssert b).NeighboursOff := (b.afresh_neighboursOff _).withOut.withFree
theorem Block.NeighboursOff.vstkRangeCheck (h : b.NeighboursOff) {decivolts} : (vstkRangeCheck decivolts b).NeighboursOff := .ite h.raise h
theorem Block.NeighboursOff.vstkInRange (h : b.NeighboursOff) : (vstkInRange b).NeighboursOff := .ite h.clearLive h
theorem Block.NeighboursOff.railBad (h : b.NeighboursOff) {r} : (b.railBad r).NeighboursOff := h.withPower.raise
theorem Block.NeighboursOff.vinLow (h : b.NeighboursOff) : (vinLow b).NeighboursOff := .ite h.railBad h
theorem Block.NeighboursOff.railWindowFault (h : b.NeighboursOff) {r} : (railWindowFault r b).NeighboursOff := .ite h.railBad h

theorem Block.NeighboursOff.railGood (h : b.NeighboursOff) {r} : (railGood r b).NeighboursOff :=
  .ite h (.ite h.withPower.clearLive h.withPower)

theorem Block.NeighboursOff.supplyFail (h : b.NeighboursOff) : (supplyFail b).NeighboursOff := .ite h.withNvm.enterSleep h

theorem Block.NeighboursOff.pwrEnComparison (h : b.NeighboursOff) {level} : (pwrEnComparison level b).NeighboursOff :=
  .ite h (.ite h.withPower.reason.raise h.withPower)

theorem Block.NeighboursOff.startWake (h : b.NeighboursOff) {cause slept} : (b.startWake cause slept).NeighboursOff :=
  h.switchesOff.withBedrock.withPower

theorem Block.NeighboursOff.keepWake (h : b.NeighboursOff) {src extended} : (b.keepWake src extended).NeighboursOff := .ite h.withPower h

theorem Block.NeighboursOff.wakeFromSleep (h : b.NeighboursOff) {src slept} : (b.wakeFromSleep src slept).NeighboursOff :=
  .ite h (.startWake (.ite h.withBedrock h))

theorem Block.NeighboursOff.wakeEvent (h : b.NeighboursOff) {src slept} : (wakeEvent src slept b).NeighboursOff :=
  .ite h.wakeFromSleep h.keepWake

theorem Block.NeighboursOff.extendedWakeEvent (h : b.NeighboursOff) {src slept} : (extendedWakeEvent src slept b).NeighboursOff := by
  unfold Machine.extendedWakeEvent
  split
  · split
    · exact h
    · extract_lets b1
      have h1 : b1.NeighboursOff := by
        unfold b1
        split
        · exact .ite h h.emit
        · exact h
      exact .ite h1 h1.startWake
  · exact .ite h.wakeFromSleep h.keepWake

theorem Block.NeighboursOff.deferredWakeStart (h : b.NeighboursOff) {slept} : (deferredWakeStart slept b).NeighboursOff := by
  unfold Machine.deferredWakeStart
  split
  · exact .ite h.startWake h
  · exact h

theorem Block.NeighboursOff.supplyAttemptTimeout (h : b.NeighboursOff) : (supplyAttemptTimeout b).NeighboursOff :=
  .ite h (.ite h.withPower h.withPower)

theorem Block.NeighboursOff.supplyAttemptRetry (h : b.NeighboursOff) : (supplyAttemptRetry b).NeighboursOff := .ite h.withPower h
theorem Block.NeighboursOff.vin5Good (h : b.NeighboursOff) : (vin5Good b).NeighboursOff := .ite h.withPower h

/-- A core reset leaves every channel as after a reset, its switch off (R103). -/
theorem Block.NeighboursOff.coreReset (h : b.NeighboursOff) : b.coreReset.NeighboursOff := by
  have channels : b.coreReset.gov.ch = b.clearEveryLive.gov.ch.map GovCh.afterReset := rfl
  exact h.clearEveryLive.mapCh channels (by simp [GovCh.afterReset])

theorem Block.NeighboursOff.coreResetRelease (h : b.NeighboursOff) {strapHigh stackMv} :
    (coreResetRelease strapHigh stackMv b).NeighboursOff :=
  .ite h h.coreReset.put.withHost.withPower

theorem Block.NeighboursOff.trimChannels (h : b.NeighboursOff) : b.trimChannels.NeighboursOff :=
  .foldl (fun _ _ h => (h.edit fun _ on => by simp at on).putAll) h.withGov

theorem Block.NeighboursOff.loadFactory (h : b.NeighboursOff) {r} : (b.loadFactory r).NeighboursOff :=
  .reason (.foldl (fun _ _ h => h.setHealth) (.ite h.withNvm.nvmFlag h.withNvm.nvmFlag.recordFault))

theorem Block.NeighboursOff.loadBanks (h : b.NeighboursOff) {m} : (b.loadBanks m).NeighboursOff :=
  .trimChannels (.judgeEndurance (.loadSummaries (.loadDictionary (.ite h.putAll h))))

theorem Block.NeighboursOff.loseLatch (h : b.NeighboursOff) {x} : (b.loseLatch x).NeighboursOff := by
  unfold Block.loseLatch
  split
  · exact h.clearObjects.withFlint
  · exact h.clearObjects
  · exact h.put
  · exact h.withBedrock
  · exact h.withPower
  · exact h.clearObjects
  · exact h.put.edit.withImp
  · exact h.putAll.edit
  · exact h.withImp.putAll

theorem Block.NeighboursOff.restoreLatches (h : b.NeighboursOff) {r} : (b.restoreLatches r).NeighboursOff :=
  .foldl (fun _ _ h => h.loseLatch.raise) (.ite h.withJournal h.withJournal.countUp.raise)

theorem Block.NeighboursOff.countSlept (h : b.NeighboursOff) : b.countSlept.NeighboursOff := h.withImp

theorem Block.NeighboursOff.creditSleep (h : b.NeighboursOff) : b.creditSleep.NeighboursOff :=
  .withBedrock (.foldl (fun _ _ h => h.creditChannel) h)

theorem Block.NeighboursOff.restoreHold (h : b.NeighboursOff) : b.restoreHold.NeighboursOff := .withFlint (.setFlt (.ite h.lowerHold h))
theorem Block.NeighboursOff.writeWakeRecord (h : b.NeighboursOff) : b.writeWakeRecord.NeighboursOff := h.putAll

theorem Block.NeighboursOff.startEvents (h : b.NeighboursOff) : b.startEvents.NeighboursOff :=
  .ite h.event (.ite (.event (.foldl (fun _ _ h => h.event) h.event)) (.foldl (fun _ _ h => h.event) h.event))

theorem Block.NeighboursOff.startPorts (h : b.NeighboursOff) : b.startPorts.NeighboursOff := .ite h.putAll h.putAll

theorem Block.NeighboursOff.applyLoaded (h : b.NeighboursOff) : b.applyLoaded.NeighboursOff :=
  h.settleAveraging.loadWindowSettings.put.judgeDiag.put.withHost

theorem Block.NeighboursOff.headFollowUp (h : b.NeighboursOff) : b.headFollowUp.NeighboursOff :=
  .ite (.ite h.attend h) (.ite (.wakeTones (.ite h.attend h)) (.ite (.wakeTones (.ite h.attend h)) (.withLink (.ite h.attend h))))

theorem Block.NeighboursOff.engineBootComplete (h : b.NeighboursOff) {r t m} : (engineBootComplete r t m b).NeighboursOff := by
  unfold Machine.engineBootComplete
  split
  · exact h
  · extract_lets _ _ _ _ b3 _ _ b5 b6 b7
    have h3 : b3.NeighboursOff := .foldl (fun _ _ h => h.raise) h.at.withNvm.countCorrected.loadFactory.loadBanks.restoreLatches
    have h5 : b5.NeighboursOff := .ite h3.withBedrock.raise.faultCycle h3.withBedrock
    have h6 : b6.NeighboursOff := .ite h5.countSlept.creditSleep.countUp h5
    have h7 : b7.NeighboursOff := .ite h6.put h6
    exact h7.applyLoaded.restoreHold.writeWakeRecord.startPorts.startEvents.withPower.setMode.headFollowUp.followReasons

theorem Block.NeighboursOff.bedrockTone (h : b.NeighboursOff) : b.bedrockTone.NeighboursOff := h.emit

theorem Block.NeighboursOff.persistTone (h : b.NeighboursOff) {found now} : (b.persistTone found now).NeighboursOff :=
  .ite h.withBedrock.bedrockTone h

theorem Block.NeighboursOff.endBalancing (h : b.NeighboursOff) {flag} : (b.endBalancing flag).NeighboursOff := h.switchesOff.withBedrock

theorem Block.NeighboursOff.sleepHeat (h : b.NeighboursOff) {lanes} : (b.sleepHeat lanes).NeighboursOff :=
  .ite (.enterShutdown (.ite h.endBalancing h)) (.ite h.endBalancing h)

theorem Block.NeighboursOff.periodicCheck (h : b.NeighboursOff) {cells therm lanes bedTime} :
    (periodicCheck cells therm lanes bedTime b).NeighboursOff :=
  .ite h h.withBedrock.persistTone.sleepHeat

theorem Block.NeighboursOff.confirm (h : b.NeighboursOff) {l bedTime} : (b.confirm l bedTime).NeighboursOff := by
  unfold Block.confirm
  split
  · exact h
  · exact .bedrockTone (.withBedrock (.endBalancing (.ite h.withBedrock h)))

theorem Block.NeighboursOff.crossingConfirmation (h : b.NeighboursOff) {cells therm bedTime} :
    (crossingConfirmation cells therm bedTime b).NeighboursOff :=
  .ite h (.ite h.withBedrock.persistTone h.withBedrock.confirm)

theorem Block.NeighboursOff.endSleepHalf (h : b.NeighboursOff) {ms} : (b.endSleepHalf ms).NeighboursOff :=
  h.switchesOff.withBedrock.mapCh rfl fun _ on => on

/-- A channel that conducts is present. -/
theorem Block.lt_length_of_on {i : Nat} (on : (b.chan i).on = true) : i < b.gov.ch.length := by
  by_contra absent
  simp [Block.chan, List.getElem?_eq_none (Nat.le_of_not_lt absent)] at on

theorem Block.turnPlanned_fold_length (first : Bool) (l : List Nat) (b : Block) :
    (l.foldl (Block.turnPlanned first) b).gov.ch.length = b.gov.ch.length :=
  List.foldlRecOn (motive := fun c : Block => c.gov.ch.length = b.gov.ch.length) _ _ rfl fun c same i _ =>
    (c.turnPlanned_keeps first i).2.trans same

/-- A half of sleep balancing keeps the interlock: of two neighbours it turns on one at most, and it begins with every switch off (R232). -/
theorem Block.neighboursOff_of_half {first : Bool} {l : List Nat} (dark : ∀ i, (b.chan i).on = false) :
    (l.foldl (Block.turnPlanned first) b).NeighboursOff := by
  have turned : ∀ {i}, ((l.foldl (Block.turnPlanned first) b).chan i).on = true → b.bedrock.turns first i = true := fun {i} on => by
    have present : i < b.gov.ch.length := by
      rw [← Block.turnPlanned_fold_length first l b]
      exact Block.lt_length_of_on on
    rw [Block.turnPlanned_fold_on first i l b present, dark i, Bool.false_or, Bool.and_eq_true] at on
    exact on.2
  intro i on
  cases next : ((l.foldl (Block.turnPlanned first) b).chan (i + 1)).on with
  | false => rfl
  | true =>
    have here := turned on
    have above := turned next
    rw [Bedrock.turns_eq] at here above
    simp only [Bool.and_eq_true, decide_eq_true_eq] at here above
    omega

theorem Block.NeighboursOff.sleepBalancePhase (h : b.NeighboursOff) {odd ms} : (sleepBalancePhase odd ms b).NeighboursOff := by
  unfold Machine.sleepBalancePhase
  split
  · exact h
  · extract_lets
    split
    · exact h.endSleepHalf
    · exact Block.neighboursOff_of_half fun i => (b.endSleepHalf_spec ms i).1

theorem Block.NeighboursOff.sleepBalanceSecond (h : b.NeighboursOff) {lanes} : (sleepBalanceSecond lanes b).NeighboursOff := by
  unfold Machine.sleepBalanceSecond
  split
  · exact h
  · extract_lets _ b1 _ b3
    have h1 : b1.NeighboursOff := .foldl (fun _ _ h => .ite h (.ite (.edit (.ite h.put.edit h.put)) (.ite h.put.edit h.put))) h
    have h3 : b3.NeighboursOff := .ite h1.withBedrock.endBalancing h1.withBedrock
    exact h3.sleepHeat

theorem Block.NeighboursOff.thermalShutdown_snd (h : b.NeighboursOff) {m} : (thermalShutdown m b).2.NeighboursOff := by
  unfold Machine.thermalShutdown
  split
  · exact h
  · exact h.finishPage_snd.enterShutdown

theorem Block.NeighboursOff.shutdownTemperatureCheck (h : b.NeighboursOff) {lanes slept} :
    (shutdownTemperatureCheck lanes slept b).NeighboursOff :=
  .ite h (.ite h.put.startWake h.put)

/-! #### Storage commands -/

theorem Block.NeighboursOff.afterProgram (h : b.NeighboursOff) {was m} : (b.afterProgram was m).NeighboursOff := by
  unfold Block.afterProgram
  split
  · exact h
  · exact .ite h (.ite (.ite h.enterShip h) h.resumePending)

theorem Block.NeighboursOff.sectorErase_snd (h : b.NeighboursOff) {m} : (sectorErase m b).2.NeighboursOff := by
  unfold Machine.sectorErase
  split
  · exact h
  · exact h.sectorEraseComplete_snd.afterProgram

theorem Block.NeighboursOff.nvmPage_snd (h : b.NeighboursOff) {m} : (nvmPage m b).2.NeighboursOff := by
  unfold Machine.nvmPage
  split
  · exact h
  · exact h.pageProgram_snd.afterProgram

theorem Block.NeighboursOff.saveComplete (h : b.NeighboursOff) {r m} : (saveComplete r m b).NeighboursOff :=
  .ite h h.saveReadBack.afterProgram

theorem Block.NeighboursOff.summaryWriteComplete (h : b.NeighboursOff) {r m} : (summaryWriteComplete r m b).NeighboursOff := by
  unfold Machine.summaryWriteComplete
  split
  · exact h
  · split
    · exact h
    · extract_lets _ b2
      have h2 : b2.NeighboursOff := .ite h.noteReadBack.switchSummaryBank.judgeEndurance.endProgram h.noteReadBack.endProgram
      exact h2.afterProgram

/-! #### Ports and pulses -/

theorem Block.NeighboursOff.repeatAlarm (h : b.NeighboursOff) : b.repeatAlarm.NeighboursOff := .ite h h.sendAlarm

theorem Block.NeighboursOff.repeatLower (h : b.NeighboursOff) {p c ui} : (b.repeatLower p c ui).NeighboursOff :=
  .ite h.repeatAlarm (.ite h (.ite h.sendPulse h.sendHeld))

theorem Block.NeighboursOff.pulseRepeat (h : b.NeighboursOff) {p ui} : (pulseRepeat p ui b).NeighboursOff := by
  unfold Machine.pulseRepeat
  split
  · exact h
  · extract_lets _ b1 b2
    have h1 : b1.NeighboursOff := .ite h.count32 h
    have h2 : b2.NeighboursOff := .ite h1 h1.heard
    exact .ite h2 (.ite (.ite h2.sendHeld h2.sendPulse) h2.repeatLower)

theorem Block.NeighboursOff.repeatTone (h : b.NeighboursOff) {p extended} : (b.repeatTone p extended).NeighboursOff :=
  .ite h (.ite (.ite h.sendTone h) (.ite h.emit h))

theorem Block.NeighboursOff.pullWake (h : b.NeighboursOff) {p} : (b.pullWake p).NeighboursOff := .ite (.ite h.withHost.attend h.withHost) h

theorem Block.NeighboursOff.wakeTone (h : b.NeighboursOff) {p extended t slept} : (wakeTone p extended t slept b).NeighboursOff := by
  unfold Machine.wakeTone
  extract_lets b1
  have h1 : b1.NeighboursOff := .ite h.at h
  exact .ite h1 (.ite (.ite h1.pullWake.extendedWakeEvent h1) (.ite h1
      (.ite h1.repeatTone.pullWake.extendedWakeEvent h1.repeatTone.pullWake.wakeEvent)))

theorem Block.NeighboursOff.answerVolts (h : b.NeighboursOff) : b.answerVolts.NeighboursOff := .ite h.withLink h.respond

theorem Block.NeighboursOff.answer (h : b.NeighboursOff) {x} : (b.answer x).NeighboursOff := by
  unfold Block.answer
  split
  · exact h.answerVolts
  · exact h.respond
  · exact h.respond
  · exact h.respond
  · exact h
  · exact h

theorem Block.NeighboursOff.classified (h : b.NeighboursOff) {c t} : (classified c t b).NeighboursOff := .ite h.at.heard.answer h.at.heard

theorem Block.NeighboursOff.streamResponseForm (h : b.NeighboursOff) {c} : (streamResponseForm c b).NeighboursOff := by
  unfold Machine.streamResponseForm
  split
  · exact h
  · extract_lets
    split
    · exact .ite h (.ite h.withLink.respond h.withLink)
    · exact .ite h (.ite h.withLink.respond h.withLink)
    · exact h
    · exact h
    · exact h
    · exact h

theorem Block.NeighboursOff.linkChanged (h : b.NeighboursOff) {p} : (b.linkChanged p).NeighboursOff := .ite h.put.put.withLink h.put.put

theorem Block.NeighboursOff.setLost (h : b.NeighboursOff) {p on} : (b.setLost p on).NeighboursOff := by
  unfold Block.setLost
  split <;> exact h.withPhys

theorem Block.NeighboursOff.portSignalDetect (h : b.NeighboursOff) {p} : (portSignalDetect p b).NeighboursOff := .ite h.put h

theorem Block.NeighboursOff.portTrained (h : b.NeighboursOff) {p t} : (portTrained p t b).NeighboursOff := by
  unfold Machine.portTrained
  split
  · exact h
  · extract_lets _ b2
    have h2 : b2.NeighboursOff := .ite h.at.put.linkChanged.setLost h.at.put.linkChanged.setLost.clearLive
    exact .ite h2.withFlint.sendAlarm h2

theorem Block.NeighboursOff.trainingFail (h : b.NeighboursOff) {p} : (trainingFail p b).NeighboursOff := .ite h.put.put h

theorem Block.NeighboursOff.portDown (h : b.NeighboursOff) {p cause t} : (portDown p cause t b).NeighboursOff := by
  unfold Machine.portDown
  split
  · exact h
  · extract_lets _ _ b3
    have h3 : b3.NeighboursOff := by
      unfold b3
      split
      · exact h.at.putAll.linkChanged.count32.countUp
      · exact h.at.putAll.linkChanged.count32
      · exact h.at.putAll.linkChanged.count32
      · exact h.at.putAll.linkChanged.count32
    exact .ite h3.setLost h3.setLost.raise

/-! #### Reads of the dictionary -/

theorem Block.NeighboursOff.wasRead (h : b.NeighboursOff) {ix} : (b.wasRead ix).NeighboursOff := .ite h.withPower h

/-! #### Writes of the dictionary -/

theorem Block.NeighboursOff.armedLast (h : b.NeighboursOff) {v} : (b.armedLast v).NeighboursOff := h.withAccess

theorem Block.NeighboursOff.unlockWritten_snd (h : b.NeighboursOff) {v} : (b.unlockWritten v).2.NeighboursOff := by
  unfold Block.unlockWritten
  split
  · exact h.put.armedLast
  · split
    · split <;> exact h.put
    · exact h.put

theorem Block.NeighboursOff.writeUnlock_snd (h : b.NeighboursOff) {sub data most} : (b.writeUnlock sub data most).2.NeighboursOff := by
  unfold Block.writeUnlock
  split
  · exact h.armedLast
  · split
    · exact h.armedLast
    · exact h.unlockWritten_snd

theorem Block.NeighboursOff.eachValue (h : b.NeighboursOff) {vals f} (hf : ∀ {b i v}, b.NeighboursOff → (f b i v).NeighboursOff) :
    (b.eachValue vals f).NeighboursOff :=
  .foldl (fun _ _ h => hf h) h

theorem Block.NeighboursOff.cellCountWritten (h : b.NeighboursOff) {v} : (b.cellCountWritten v).NeighboursOff :=
  .seedPaths (.withImp (.foldl (fun _ _ h => .ite h.put h) h.put.trimChannels.withDict))

theorem Block.NeighboursOff.removedCleared (h : b.NeighboursOff) {i} : (b.removedCleared i).NeighboursOff := h.put.edit.withImp
theorem Block.NeighboursOff.chargePreset (h : b.NeighboursOff) {v} : (b.chargePreset v).NeighboursOff := h.put.shiftAnchors
theorem Block.NeighboursOff.windowSettingsWritten (h : b.NeighboursOff) : b.windowSettingsWritten.NeighboursOff := .ite h.withWin h

theorem Block.NeighboursOff.functionWritten (h : b.NeighboursOff) {k v} : (b.functionWritten k v).NeighboursOff := by
  unfold Block.functionWritten
  extract_lets _ _ _ _ _ _ _ b5 b6
  have h5 : b5.NeighboursOff := .ite h.put.withAux.withThermal.putBit.dropAdvisories h.put.withAux.withThermal.putBit
  have h6 : b6.NeighboursOff := .ite h5 h5.clearLive
  exact .ite h (.ite h6 h6.clearLive)

theorem Block.NeighboursOff.ringModeWritten (h : b.NeighboursOff) {v} : (b.ringModeWritten v).NeighboursOff := by
  unfold Block.ringModeWritten
  extract_lets _ _ b2 _ b4
  have h2 : b2.NeighboursOff := .ite h.put.emit.linkChanged.count32 h.put
  have h4 : b4.NeighboursOff := .ite h2.put.setLost h2.put.setLost.clearLive
  exact .ite (.ite h.put.put h.put) (.ite h4.withLink.putBit h4)

theorem Block.NeighboursOff.defaultsApplied (h : b.NeighboursOff) : b.defaultsApplied.NeighboursOff := by
  unfold Block.defaultsApplied
  extract_lets _ _ b3 b4
  have h3 : b3.NeighboursOff := .dropTemps (.dropSoc
      (.foldl (fun _ _ h => h.entryChanged) h.askAveraging.windowSettingsWritten.judgeDiag.throttleSourceWritten))
  have h4 : b4.NeighboursOff := .ite h3.ringModeWritten h3.followRing
  exact h4.withHost

theorem Block.NeighboursOff.restoreWritten (h : b.NeighboursOff) {v} : (b.restoreWritten v).NeighboursOff :=
  h.acceptRestore.keeperMoved.defaultsApplied

theorem Block.NeighboursOff.applyValues (h : b.NeighboursOff) {ix vals} : (b.applyValues ix vals).NeighboursOff := by
  unfold Block.applyValues
  extract_lets
  exact .ite h.cellCountWritten (.ite h.chainTimeWritten
      (.ite h.withLink (.ite h.ringModeWritten (.ite h.putAll.withHost
      (.ite h.putAll.askAveraging (.ite h.putAll.windowSettingsWritten
      (.ite h.putAll.keeperMoved (.ite h.chargePreset
      (.ite (h.eachValue fun h => h.functionWritten) (.ite h.enableWritten
      (.ite (h.eachValue fun h => h.targetWritten) (.ite (h.eachValue fun h => h.removedCleared)
      (.ite (h.eachValue fun h => h.timerWritten) (.ite (.ite h.putAll.throttleSourceWritten h.putAll)
      (.ite (h.eachValue fun h => h.put.edit) (.ite h.governorFlagsCleared
      (.ite (h.eachValue fun h => h.channelStateCleared) (.ite h.bleedResistorWritten
      (.ite (.foldl (fun _ _ h => .ite h h.put.entryChanged) h) (.ite h.acknowledge
      (.ite (.ite h.putBit h) (.ite h.withJournal
      (.ite h.acceptSave (.ite h.restoreWritten (.ite h.putAll.judgeDiag h.putAll)))))))))))))))))))))))))

theorem Block.NeighboursOff.applySlices (h : b.NeighboursOff) {ix sl} : (b.applySlices ix sl).NeighboursOff :=
  .ite h.withSocTable.dropSoc (.ite h.withTempCurve.dropTemps h.applyValues)

theorem Block.NeighboursOff.snoopCfg (h : b.NeighboursOff) {ix sl} : (b.snoopCfg ix sl).NeighboursOff :=
  .foldl (fun _ _ h => .ite h.put h) h

theorem Block.NeighboursOff.applyWrite (h : b.NeighboursOff) {o sl} : (b.applyWrite o sl).NeighboursOff := by
  unfold Block.applyWrite
  extract_lets _ _ _ b3
  have h3 : b3.NeighboursOff := .ite h.applySlices.snoopCfg.withNvm.sendChainConfig h.applySlices.snoopCfg.withNvm
  exact h3.noteEdges

theorem Block.NeighboursOff.sendCommand (h : b.NeighboursOff) {p seq payload} : (b.sendCommand p seq payload).NeighboursOff := h.sendOn

theorem Block.NeighboursOff.dispatchOne (h : b.NeighboursOff) {i} : (b.dispatchOne i).NeighboursOff := by
  unfold Block.dispatchOne
  split
  · exact h
  · exact .ite h h.withLink.sendCommand

theorem Block.NeighboursOff.dispatch (h : b.NeighboursOff) : b.dispatch.NeighboursOff := .foldl (fun _ _ h => h.dispatchOne) h
theorem Block.NeighboursOff.askPosition (h : b.NeighboursOff) {p payload w} : (b.askPosition p payload w).NeighboursOff := h.withLink

theorem Block.NeighboursOff.askConsent (h : b.NeighboursOff) {who ix sub data image ps} :
    (b.askConsent who ix sub data image ps).NeighboursOff :=
  .dispatch (.foldl (fun _ _ h => h.askPosition) h.withLink)

theorem Block.NeighboursOff.writePower_snd (h : b.NeighboursOff) {m sub data most} : (b.writePower m sub data most).2.NeighboursOff := by
  unfold Block.writePower
  split
  · exact h
  · split
    · exact h
    · extract_lets _ r
      have hr : r.2.NeighboursOff := h.powerCommand_snd
      split
      · dsimp only
        exact hr.noteEdges
      · dsimp only
        exact .noteEdges (.ite hr.withFree hr)

theorem Block.NeighboursOff.writeObject_snd (h : b.NeighboursOff) {ix sub data most who} :
    (b.writeObject ix sub data most who).2.NeighboursOff := by
  unfold Block.writeObject
  split
  · exact h
  · extract_lets
    split
    · exact h.askConsent
    · dsimp only
      exact h.applyWrite

theorem Block.NeighboursOff.writeAccess_snd (h : b.NeighboursOff) {m ix sub data most who} :
    (b.writeAccess m ix sub data most who).2.NeighboursOff := by
  unfold Block.writeAccess
  split
  · exact h.writeUnlock_snd
  · split
    · exact h.disarm.writePower_snd
    · exact h.disarm.writeObject_snd

theorem Block.NeighboursOff.writeRow (h : b.NeighboursOff) {ix sub data m} : (writeRow ix sub data m b).NeighboursOff := by
  unfold Machine.writeRow
  split
  · exact h
  · extract_lets
    split
    · exact h.writeAccess_snd.emit
    · exact h.writeAccess_snd.emit
    · exact h.writeAccess_snd

theorem Block.NeighboursOff.unlockExpiry (h : b.NeighboursOff) : (unlockExpiry b).NeighboursOff := h.put

/-! #### Transfers -/

theorem Block.NeighboursOff.readNow_snd (h : b.NeighboursOff) {m ix sub} : (b.readNow m ix sub).2.NeighboursOff := by
  unfold Block.readNow
  split
  · exact h
  · exact h.wasRead

theorem Block.NeighboursOff.writeNow_snd (h : b.NeighboursOff) {m ix sub data who} : (b.writeNow m ix sub data who).2.NeighboursOff :=
  h.writeAccess_snd

theorem Block.NeighboursOff.noteSkipped (h : b.NeighboursOff) {n} : (b.noteSkipped n).NeighboursOff := by
  unfold Block.noteSkipped
  split
  · exact h
  · exact h.withJournal

theorem Block.NeighboursOff.openTransfer (h : b.NeighboursOff) {t} : (b.openTransfer t).NeighboursOff := h.withAccess

theorem Block.NeighboursOff.readsFlash (h : b.NeighboursOff) {ix sub} : (b.readsFlash ix sub).NeighboursOff := by
  unfold Block.readsFlash
  split
  · exact h
  · split
    · exact h.readSummaries
    · split
      · exact h
      · exact h.readFlash

theorem Block.NeighboursOff.initRead_snd (h : b.NeighboursOff) {m r ix sub l} : (b.initRead m r ix sub l).2.NeighboursOff := by
  unfold Block.initRead
  extract_lets
  split
  · exact h.withAccess
  · split
    · exact h.withAccess
    · split
      · exact h.withAccess
      · split
        · exact h.withAccess
        · split
          · exact h.withAccess.noteSkipped.openTransfer
          · exact h.withAccess.readsFlash.openTransfer

theorem Block.NeighboursOff.refusedWrite (h : b.NeighboursOff) {ix} : (b.refusedWrite ix).NeighboursOff := .ite h.armedLast h.disarm

theorem Block.NeighboursOff.initWrite_snd (h : b.NeighboursOff) {r ix sub l} : (b.initWrite r ix sub l).2.NeighboursOff := by
  unfold Block.initWrite
  extract_lets b1
  have h1 : b1.NeighboursOff := .ite h h.disarm
  split
  · exact h1.withAccess.refusedWrite
  · split
    · exact h1.withAccess.refusedWrite
    · split
      · exact h1.withAccess.refusedWrite
      · exact h1.withAccess.openTransfer

theorem Block.NeighboursOff.noTransfer_snd (h : b.NeighboursOff) {r length segment} : (b.noTransfer r length segment).2.NeighboursOff := by
  unfold Block.noTransfer
  split
  · exact h.withAccess
  · exact h

theorem Block.NeighboursOff.closeTransfer (h : b.NeighboursOff) : b.closeTransfer.NeighboursOff := h.withAccess

theorem Block.NeighboursOff.breakTransfer (h : b.NeighboursOff) {t} : (b.breakTransfer t).NeighboursOff :=
  .ite h.closeTransfer.refusedWrite h.closeTransfer

theorem Block.NeighboursOff.segmentRead_snd (h : b.NeighboursOff) {r s} : (b.segmentRead r s).2.NeighboursOff := by
  unfold Block.segmentRead
  split
  · exact h.noTransfer_snd
  · extract_lets x1
    clear_value x1
    split
    · exact h.breakTransfer
    · split
      · exact h
      · split
        · exact h.breakTransfer
        · exact h.openTransfer

theorem Block.NeighboursOff.segmentWrite_snd (h : b.NeighboursOff) {r s data} : (b.segmentWrite r s data).2.NeighboursOff := by
  unfold Block.segmentWrite
  extract_lets
  split
  · exact h.noTransfer_snd
  · extract_lets b1
    have h1 : b1.NeighboursOff := .ite h.refusedWrite h
    split
    · exact h1
    · split
      · exact h1
      · split
        · exact h.breakTransfer
        · split
          · exact h
          · split
            · exact h.breakTransfer
            · split
              · exact h.breakTransfer
              · exact h.openTransfer

theorem Block.NeighboursOff.moveCursor (h : b.NeighboursOff) {c} : (b.moveCursor c).NeighboursOff := by
  unfold Block.moveCursor
  split
  · exact h
  · exact h.withJournal

theorem Block.NeighboursOff.segmentEnd_snd (h : b.NeighboursOff) {m r total who} : (b.segmentEnd m r total who).2.NeighboursOff := by
  unfold Block.segmentEnd
  split
  · exact h.noTransfer_snd
  · extract_lets
    split
    · split
      · exact h.closeTransfer.refusedWrite
      · exact h.closeTransfer.writeAccess_snd
    · split
      · exact h.closeTransfer
      · exact h.closeTransfer.moveCursor.wasRead

theorem Block.NeighboursOff.setHostPort (h : b.NeighboursOff) {c p} : (b.setHostPort c p).NeighboursOff := by
  unfold Block.setHostPort
  split <;> exact h.withHost

theorem Block.NeighboursOff.closeHost (h : b.NeighboursOff) {c} : (b.closeHost c).NeighboursOff :=
  .ite h.withAccess.setHostPort h.withAccess

theorem Block.NeighboursOff.segmentTimeout (h : b.NeighboursOff) {r} : (segmentTimeout r b).NeighboursOff := by
  unfold Machine.segmentTimeout
  split
  · exact h
  · split
    · exact .ite h h.withAccess
    · exact .ite h.closeHost h
    · exact .ite h.closeHost h

theorem Block.NeighboursOff.sendResponse (h : b.NeighboursOff) {was seq payload} : (b.sendResponse was seq payload).NeighboursOff :=
  .ite h.queueResponse h.emit

theorem Block.NeighboursOff.settled_snd {x : Option Reply × Block} (h : x.2.NeighboursOff) : (settled x).2.NeighboursOff := h

theorem Block.NeighboursOff.chainCommand (h : b.NeighboursOff) {seq op ix sub run} (hr : ∀ {b}, b.NeighboursOff → (run b).2.NeighboursOff) :
    (b.chainCommand seq op ix sub run).NeighboursOff := by
  unfold Block.chainCommand
  extract_lets
  split
  · exact h
  · split
    · exact h.heard.queueResponse
    · exact (hr h.heard).withAccess.sendResponse

theorem Block.NeighboursOff.journalRead (h : b.NeighboursOff) {r l m} : (journalRead r l m b).NeighboursOff := by
  unfold Machine.journalRead
  split
  · exact h
  · extract_lets
    split
    · exact h.initRead_snd.emit
    · split
      · exact h.initRead_snd
      · exact h.initRead_snd.closeTransfer.moveCursor.emit.emit

/-! #### The link at a node -/

theorem Block.NeighboursOff.countCrc (h : b.NeighboursOff) {x} : (b.countCrc x).NeighboursOff := by
  unfold Block.countCrc
  split <;> exact h.count32.withLink

theorem Block.NeighboursOff.countFrame (h : b.NeighboursOff) {p fault} : (b.countFrame p fault).NeighboursOff := by
  unfold Block.countFrame
  split
  · exact h.count32.heard
  · exact h.countCrc
  · exact h.count32

theorem Block.NeighboursOff.frameForward (h : b.NeighboursOff) {f} : (frameForward f b).NeighboursOff :=
  .ite h (.ite h.setSending.emit (.ite h.withLink h.count32))

theorem Block.NeighboursOff.passOn (h : b.NeighboursOff) {p f} : (b.passOn p f).NeighboursOff :=
  .ite (.ite h h.emit) (.ite h h.frameForward)

theorem Block.NeighboursOff.unknownOperation (h : b.NeighboursOff) {f} : (b.unknownOperation f).NeighboursOff :=
  .ite h (h.chainCommand fun h => h)

theorem Block.NeighboursOff.frameReceive (h : b.NeighboursOff) {p stray inside ending f} :
    (frameReceive p stray inside ending f b).NeighboursOff := by
  unfold Machine.frameReceive
  split
  · exact h
  · extract_lets
    exact .ite h.countUp (.ite h.countUp.countFrame (.ite h.countUp.countFrame.passOn.unknownOperation h.countUp.countFrame.passOn))

theorem Block.NeighboursOff.linkCrcRate (h : b.NeighboursOff) : (linkCrcRate b).NeighboursOff := by
  unfold Machine.linkCrcRate
  split
  · exact h
  · extract_lets _ _ _ _ _ _ b2 b3
    have h2 : b2.NeighboursOff := .ite h.withLink.raise h.withLink
    have h3 : b3.NeighboursOff := .ite h2.raise h2
    exact .ite h3.clearLive h3

theorem Block.NeighboursOff.queueCensus (h : b.NeighboursOff) {f} : (b.queueCensus f).NeighboursOff := h.withLink

theorem Block.NeighboursOff.closeTop (h : b.NeighboursOff) {t overflow ring} : (b.closeTop t overflow ring).NeighboursOff :=
  h.withLink.queueCensus

theorem Block.NeighboursOff.takeCensus (h : b.NeighboursOff) {number payload} : (b.takeCensus number payload).NeighboursOff :=
  .ite (.ite h.withLink.emit h.withLink) (.closeTop (.ite h.withLink.emit h.withLink))

theorem Block.NeighboursOff.census (h : b.NeighboursOff) {p number payload} : (census p number payload b).NeighboursOff :=
  .ite h (.ite (.ite h.emit h) (.ite h.turnTo.queueCensus.withLink.put.keeperMoved h.turnTo.queueCensus.takeCensus))

theorem Block.NeighboursOff.censusEcho (h : b.NeighboursOff) {number ring} : (censusEcho number ring b).NeighboursOff := by
  unfold Machine.censusEcho
  split
  · exact h
  · exact .ite h.closeTop h.withLink

theorem Block.NeighboursOff.censusEchoTimeout (h : b.NeighboursOff) : (censusEchoTimeout b).NeighboursOff := by
  unfold Machine.censusEchoTimeout
  split
  · exact h
  · exact h.closeTop

theorem Block.NeighboursOff.censusReply (h : b.NeighboursOff) {number payload} : (censusReply number payload b).NeighboursOff := by
  unfold Machine.censusReply
  split
  · exact h
  · exact h.withLink.queueCensus

theorem Block.NeighboursOff.commit (h : b.NeighboursOff) {number top flags t} : (commit number top flags t b).NeighboursOff := by
  unfold Machine.commit
  extract_lets
  split
  · exact h.at
  · split
    · exact h.at.withLink.withLink.putAll.keeperMoved
    · exact .ite h.at.withLink h.at.withLink.withLink.put.keeperMoved

theorem Block.NeighboursOff.probeSweep (h : b.NeighboursOff) {p sweeps count} : (probeSweep p sweeps count b).NeighboursOff :=
  .ite h h.withLink

theorem Block.NeighboursOff.probe (h : b.NeighboursOff) {p t} : (probe p t b).NeighboursOff :=
  .ite h.at (.ite (.sendHeld (.ite h.at.withLink.sendPulse h.at.withLink)) (.ite h.at.withLink.sendPulse h.at.withLink))

theorem Block.NeighboursOff.delays (h : b.NeighboursOff) {split table} : (delays split table b).NeighboursOff :=
  .ite h (.ite h.withLink.put h.withLink.putAll)

theorem Block.NeighboursOff.chainConfig (h : b.NeighboursOff) {image} : (chainConfig image b).NeighboursOff :=
  .ite h h.withNvm.putAll.keeperMoved.followRing.withChainSet.withImp

/-! #### The head -/

theorem Block.NeighboursOff.openTrain (h : b.NeighboursOff) {cls perWindow held} : (b.openTrain cls perWindow held).NeighboursOff :=
  .withLink (.ite h.withLink h)

theorem Block.NeighboursOff.ownAnswer (h : b.NeighboursOff) {cls} : (b.ownAnswer cls).NeighboursOff := .ite h.takeSnap.noteEdges h.answer

theorem Block.NeighboursOff.startTrain (h : b.NeighboursOff) {cls perWindow} : (b.startTrain cls perWindow).NeighboursOff :=
  h.headPulse.openTrain.ownAnswer

theorem Block.NeighboursOff.dropTrigger (h : b.NeighboursOff) : b.dropTrigger.NeighboursOff := h.count32
theorem Block.NeighboursOff.waitFor (h : b.NeighboursOff) {cls} : (b.waitFor cls).NeighboursOff := h.withLink

theorem Block.NeighboursOff.request (h : b.NeighboursOff) {cls perWindow} : (b.request cls perWindow).NeighboursOff :=
  .ite h.waitFor (.ite h.startTrain (.ite h.waitFor (.ite h.withLink h.startTrain)))

theorem Block.NeighboursOff.kick (h : b.NeighboursOff) : b.kick.NeighboursOff :=
  .ite h (.foldl (fun _ _ h => .ite h.withLink.request h) (.ite h.withLink.startTrain h))

theorem Block.NeighboursOff.snapCause (h : b.NeighboursOff) : b.snapCause.NeighboursOff := .ite h.dropTrigger h.request
theorem Block.NeighboursOff.instantTrigger (h : b.NeighboursOff) {t} : (instantTrigger t b).NeighboursOff := .ite h.at.snapCause h.at

theorem Block.NeighboursOff.scheduledTrigger (h : b.NeighboursOff) {c t} : (scheduledTrigger c t b).NeighboursOff :=
  .ite h.at (.ite (.ite h.at.dropTrigger h.at) (.ite h.at.request (.ite (.ite h.at.startTrain h.at.waitFor) h.at)))

theorem Block.NeighboursOff.hearAlarm (h : b.NeighboursOff) : b.hearAlarm.NeighboursOff := h.setFlt.attend.queueAlarm.withLink.kick

theorem Block.NeighboursOff.alarm (h : b.NeighboursOff) {p t} : (alarm p t b).NeighboursOff :=
  .ite h.at (.ite h.at.hearAlarm (.ite h.at h.at.repeatAlarm))

/-! #### Host interfaces -/

theorem Block.NeighboursOff.answerWith (h : b.NeighboursOff) {c body} : (b.answerWith c body).NeighboursOff := by
  unfold Block.answerWith
  extract_lets
  split
  · exact h
  · extract_lets
    split
    · exact h.setHostPort
    · exact h.setHostPort.withPower.canRespond

theorem Block.NeighboursOff.answerHost (h : b.NeighboursOff) {c r} : (b.answerHost c r).NeighboursOff := h.answerWith
theorem Block.NeighboursOff.setJob (h : b.NeighboursOff) {c j} : (b.setJob c j).NeighboursOff := h.setHostPort
theorem Block.NeighboursOff.setBuffer (h : b.NeighboursOff) {c t} : (b.setBuffer c t).NeighboursOff := h.setHostPort
theorem Block.NeighboursOff.askFor (h : b.NeighboursOff) {c p payload} : (b.askFor c p payload).NeighboursOff := h.askPosition.dispatch

theorem Block.NeighboursOff.hostRead (h : b.NeighboursOff) {m c p ix sub} : (b.hostRead m c p ix sub).NeighboursOff :=
  .ite h.readNow_snd.answerHost h.askFor

theorem Block.NeighboursOff.allNext (h : b.NeighboursOff) {c left failures first} : (b.allNext c left failures first).NeighboursOff := by
  unfold Block.allNext
  split
  · exact h.setJob.askFor
  · exact h.answerWith

theorem Block.NeighboursOff.allStep (h : b.NeighboursOff) {c left failures first result abort} :
    (b.allStep c left failures first result abort).NeighboursOff :=
  .ite h.allNext h.allNext

theorem Block.NeighboursOff.ownWritten (h : b.NeighboursOff) {c r} : (b.ownWritten c r).NeighboursOff := by
  unfold Block.ownWritten
  split
  · split <;> exact h.allStep
  · exact h.answerHost

theorem Block.NeighboursOff.writeOwn (h : b.NeighboursOff) {m c ix sub data} : (b.writeOwn m c ix sub data).NeighboursOff := by
  unfold Block.writeOwn
  extract_lets
  split
  · exact h.writeNow_snd.ownWritten
  · exact h.writeNow_snd

theorem Block.NeighboursOff.hostWrite (h : b.NeighboursOff) {m c p ix sub data} : (b.hostWrite m c p ix sub data).NeighboursOff :=
  .ite h.writeOwn (.ite h.setJob.writeOwn h.askFor)

theorem Block.NeighboursOff.fetched (h : b.NeighboursOff) {c t} : (b.fetched c t).NeighboursOff := h.setBuffer.answerHost

theorem Block.NeighboursOff.fetchOwn (h : b.NeighboursOff) {m c t} : (b.fetchOwn m c t).NeighboursOff := by
  unfold Block.fetchOwn
  extract_lets _ b1
  have h1 : b1.NeighboursOff := .foldl (fun _ _ h => h.segmentRead_snd) h.initRead_snd
  split
  · exact h.initRead_snd.answerHost
  · exact h1.fetched

theorem Block.NeighboursOff.hostInitRead (h : b.NeighboursOff) {m c p ix sub l} : (b.hostInitRead m c p ix sub l).NeighboursOff :=
  .ite h.setHostPort.fetchOwn h.setHostPort.setJob.askFor

theorem Block.NeighboursOff.hostInitWrite (h : b.NeighboursOff) {c p ix sub l} : (b.hostInitWrite c p ix sub l).NeighboursOff := by
  unfold Block.hostInitWrite
  extract_lets _ _ b2
  have h2 : b2.NeighboursOff := .ite h.setHostPort.disarm h.setHostPort
  split
  · exact .answerHost (.ite h2.refusedWrite h2)
  · exact h2.setBuffer.answerHost

theorem Block.NeighboursOff.noBuffer (h : b.NeighboursOff) {c} : (b.noBuffer c).NeighboursOff := h.setHostPort.answerHost

theorem Block.NeighboursOff.closeBuffer (h : b.NeighboursOff) {c t abort} : (b.closeBuffer c t abort).NeighboursOff :=
  .answerHost (.setBuffer (.ite h.refusedWrite h))

theorem Block.NeighboursOff.hostSegRead (h : b.NeighboursOff) {c s} : (b.hostSegRead c s).NeighboursOff := by
  unfold Block.hostSegRead
  split
  · exact h.noBuffer
  · extract_lets x1
    clear_value x1
    split
    · exact h.closeBuffer
    · split
      · exact h.answerHost
      · exact .ite h.closeBuffer h.setBuffer.answerHost

theorem Block.NeighboursOff.hostSegWrite (h : b.NeighboursOff) {c s data} : (b.hostSegWrite c s data).NeighboursOff := by
  unfold Block.hostSegWrite
  split
  · exact h.noBuffer
  · extract_lets
    exact .ite h.closeBuffer (.ite h.answerHost (.ite h.closeBuffer (.ite h.closeBuffer h.setBuffer.answerHost)))

theorem Block.NeighboursOff.putOwn (h : b.NeighboursOff) {m c t} : (b.putOwn m c t).NeighboursOff := by
  unfold Block.putOwn
  extract_lets _ b1
  have h1 : b1.NeighboursOff := .foldl (fun _ _ h => h.segmentWrite_snd) h.initWrite_snd
  split
  · exact h.initWrite_snd.answerHost
  · split
    · exact h1.segmentEnd_snd.ownWritten
    · exact h1.segmentEnd_snd

theorem Block.NeighboursOff.endOwn (h : b.NeighboursOff) {m c total} : (b.endOwn m c total).NeighboursOff := by
  unfold Block.endOwn
  extract_lets
  split
  · exact h.segmentEnd_snd.answerHost
  · exact h.segmentEnd_snd

theorem Block.NeighboursOff.hostSegEnd (h : b.NeighboursOff) {m c total} : (b.hostSegEnd m c total).NeighboursOff := by
  unfold Block.hostSegEnd
  split
  · exact h.noBuffer
  · split
    · exact .ite h.closeBuffer (.ite h.setBuffer.putOwn h.setBuffer.setJob.askFor)
    · exact .ite h.closeBuffer (.ite h.setBuffer.endOwn h.setBuffer.askFor)

theorem Block.NeighboursOff.fetchStep (h : b.NeighboursOff) {c t y} : (b.fetchStep c t y).NeighboursOff := .ite h.fetched h.setJob.askFor

theorem Block.NeighboursOff.putStep (h : b.NeighboursOff) {c t} : (b.putStep c t).NeighboursOff :=
  .ite h.setJob.askFor (.ite h.setJob.askFor h.answerHost)

theorem Block.NeighboursOff.hostReply (h : b.NeighboursOff) {c x} : (b.hostReply c x).NeighboursOff := by
  unfold Block.hostReply
  split
  · exact h.allStep
  · split <;> exact h.allStep
  · exact h.answerHost
  · split
    · exact h.answerHost
    · exact h.fetchStep
  · split
    · exact h.answerHost
    · exact h.putStep
  · exact h.answerHost

theorem Block.NeighboursOff.segmentRepeatKeepalive (h : b.NeighboursOff) {c} : (segmentRepeatKeepalive c b).NeighboursOff := by
  unfold Machine.segmentRepeatKeepalive
  split
  · exact h
  · exact .ite h h.askPosition.dispatch

theorem Block.NeighboursOff.hostTrigger (h : b.NeighboursOff) {c cls} : (b.hostTrigger c cls).NeighboursOff :=
  .ite h.answerHost (.ite h.dropTrigger.answerHost (.ite h.answerHost (.ite h.withLink.setJob h.startTrain.answerHost)))

theorem Block.NeighboursOff.runHost (h : b.NeighboursOff) {m c r} : (b.runHost m c r).NeighboursOff := by
  unfold Block.runHost
  extract_lets
  exact .ite h.put.answerHost (.ite h.answerHost
      (.ite h.answerHost (.ite h.hostRead (.ite h.hostWrite
      (.ite h.hostInitRead (.ite h.hostInitWrite (.ite h.hostSegRead (.ite h.hostSegWrite h.hostSegEnd))))))))

theorem Block.NeighboursOff.startHost (h : b.NeighboursOff) {m c r} : (b.startHost m c r).NeighboursOff := by
  unfold Block.startHost
  extract_lets
  exact .ite h.setHostPort.hostTrigger (.ite h.setHostPort.setHostPort
      (.ite h.setHostPort.answerHost (.ite h.setHostPort.answerHost h.setHostPort.runHost)))

theorem Block.NeighboursOff.runHeld (h : b.NeighboursOff) {m} : (b.runHeld m).NeighboursOff := by
  unfold Block.runHeld
  refine .foldl (fun b x h => ?_) h
  split
  · exact h.startHost
  · exact h

theorem Block.NeighboursOff.hostHeard (h : b.NeighboursOff) : b.hostHeard.NeighboursOff := h.withPower.withHost

theorem Block.NeighboursOff.endSilent (h : b.NeighboursOff) {x} : (b.endSilent x).NeighboursOff := by
  unfold Block.endSilent
  split
  · exact h
  · exact .ite h.withHost.put.judgeCan h.withHost

theorem Block.NeighboursOff.refuseBusy (h : b.NeighboursOff) {c header} : (b.refuseBusy c header).NeighboursOff := by
  unfold Block.refuseBusy
  extract_lets
  split
  · exact h.count32.setHostPort
  · exact h.count32.canRespond

theorem Block.NeighboursOff.repeatAnswer (h : b.NeighboursOff) {c message} : (b.repeatAnswer c message).NeighboursOff := by
  unfold Block.repeatAnswer
  split
  · exact h.setHostPort
  · exact h.canRespond

theorem Block.NeighboursOff.discardSlot (h : b.NeighboursOff) {c} : (b.discardSlot c).NeighboursOff := .ite h.count32.setHostPort h

theorem Block.NeighboursOff.acceptHost (h : b.NeighboursOff) {m c header data} : (b.acceptHost m c header data).NeighboursOff := by
  unfold Block.acceptHost
  extract_lets
  split
  · exact h.hostHeard.endSilent.refuseBusy
  · split
    · exact h.hostHeard.endSilent.setHostPort.count32.repeatAnswer
    · exact h.hostHeard.endSilent.setHostPort.count32.discardSlot.startHost

theorem Block.NeighboursOff.noteCrc (h : b.NeighboursOff) {c fails} : (b.noteCrc c fails).NeighboursOff := .ite h.setHostPort h

theorem Block.NeighboursOff.spiRead (h : b.NeighboursOff) {clocked} : (spiRead clocked b).NeighboursOff :=
  .ite h (.ite h.emit.hostHeard.setHostPort h.emit.hostHeard)

theorem Block.NeighboursOff.rejectSpi (h : b.NeighboursOff) {header} : (b.rejectSpi header).NeighboursOff := by
  unfold Block.rejectSpi
  exact h.count32.setHostPort

theorem Block.NeighboursOff.spiCommand (h : b.NeighboursOff) {l m} : (spiCommand l m b).NeighboursOff :=
  .ite h (.ite h.spiRead (.ite h.emit.acceptHost h.emit.noteCrc.rejectSpi))

theorem Block.NeighboursOff.canRequest (h : b.NeighboursOff) {l m} : (canRequest l m b).NeighboursOff := by
  unfold Machine.canRequest
  split
  · exact h
  · extract_lets _ _ _ _ b3
    have h3 : b3.NeighboursOff := .ite h.canReceived.noteCrc.hostHeard h.canReceived.noteCrc
    exact .ite h.canReceived.acceptHost (.ite h3.count32.canRespond h3)

theorem Block.NeighboursOff.hostCommand (h : b.NeighboursOff) {c op p ix sub data m} : (hostCommand c op p ix sub data m b).NeighboursOff :=
  .ite h h.acceptHost

theorem Block.NeighboursOff.judgeHostCrc (h : b.NeighboursOff) {c code} : (b.judgeHostCrc c code).NeighboursOff :=
  .ite h.setHostPort.raise h.setHostPort

theorem Block.NeighboursOff.hostCrcRate (h : b.NeighboursOff) : (hostCrcRate b).NeighboursOff :=
  .ite h (.ite h.judgeHostCrc.judgeHostCrc.clearLive h.judgeHostCrc.judgeHostCrc)

/-! #### The link at the head -/

theorem Block.NeighboursOff.broadcastOn (h : b.NeighboursOff) {p payload} : (b.broadcastOn p payload).NeighboursOff := h.withLink.sendOn
theorem Block.NeighboursOff.holdPass (h : b.NeighboursOff) {x} : (b.holdPass x).NeighboursOff := h.withLink

theorem Block.NeighboursOff.sendCensus (h : b.NeighboursOff) {number} : (b.sendCensus number).NeighboursOff :=
  .ite h.holdPass.sendOn h.holdPass

theorem Block.NeighboursOff.sendProbes (h : b.NeighboursOff) : b.sendProbes.NeighboursOff := by
  unfold Block.sendProbes
  split
  · exact h
  · split
    · exact h
    · extract_lets _ b1
      have h1 : b1.NeighboursOff := .ite h.withLink.broadcastOn h
      split
      · exact h1
      · extract_lets _ _ b3
        have h3 : b3.NeighboursOff := .foldl (fun _ _ h => h.sendPulse) h1.withLink
        exact .ite h1.withLink (.ite h3.occupyDu h3)

theorem Block.NeighboursOff.sendSweeps (h : b.NeighboursOff) {p count again} : (b.sendSweeps p count again).NeighboursOff :=
  h.withLink.sendProbes

theorem Block.NeighboursOff.sendDelays (h : b.NeighboursOff) {p top split table} : (b.sendDelays p top split table).NeighboursOff :=
  h.broadcastOn.broadcastOn

theorem Block.NeighboursOff.runTriggers (h : b.NeighboursOff) : b.runTriggers.NeighboursOff :=
  .foldl (fun _ _ h => .ite h h.withLink.startTrain.answerHost) h

theorem Block.NeighboursOff.endRound (h : b.NeighboursOff) {m committed} : (b.endRound m committed).NeighboursOff := by
  unfold Block.endRound
  extract_lets _ _ _ _ b2 b3
  have h2 : b2.NeighboursOff := .ite h.withLink.sendChainConfig.sendReference (.ite h.withLink.sendReference.sendChainConfig
      h.withLink.sendReference)
  have h3 : b3.NeighboursOff := .foldl (fun _ _ h => h.sendKeeper) h2
  exact h3.dispatch.runHeld.kick

theorem Block.NeighboursOff.commitRound (h : b.NeighboursOff) {m number pass top overflow closed} :
    (b.commitRound m number pass top overflow closed).NeighboursOff := by
  unfold Block.commitRound
  extract_lets _ _ _ _ _ _ _ _ _ b5 b6
  have h5 : b5.NeighboursOff := .ite h.putAll.withLink.broadcastOn.broadcastOn.attend.clearLive.raise
      h.putAll.withLink.broadcastOn.broadcastOn.attend.clearLive
  have h6 : b6.NeighboursOff := .ite h5.raise h5
  exact .ite h6.endRound h6.sendSweeps

theorem Block.NeighboursOff.startRound (h : b.NeighboursOff) {m} : (b.startRound m).NeighboursOff :=
  .ite (.sendCensus (.withLink (.ite h.putBit.putBit h.putBit))) (.commitRound (.withLink (.ite h.putBit.putBit h.putBit)))

theorem Block.NeighboursOff.censusRoundStart (h : b.NeighboursOff) {t m} : (censusRoundStart t m b).NeighboursOff :=
  .ite h.at.startRound h.at

theorem Block.NeighboursOff.censusRetry (h : b.NeighboursOff) {t m} : (censusRetry t m b).NeighboursOff := by
  unfold Machine.censusRetry
  extract_lets
  split
  · exact .ite h.at.startRound h.at
  · exact h.at

theorem Block.NeighboursOff.failRound (h : b.NeighboursOff) {m} : (b.failRound m).NeighboursOff :=
  h.putBit.putBit.put.raise.withLink.endRound

theorem Block.NeighboursOff.nextPass (h : b.NeighboursOff) {m r last} : (b.nextPass m r last).NeighboursOff :=
  .ite h.failRound h.withLink.sendCensus

theorem Block.NeighboursOff.censusPassResult (h : b.NeighboursOff) {number p t m} : (censusPassResult number p t m b).NeighboursOff := by
  unfold Machine.censusPassResult
  extract_lets
  split
  · exact h.at
  · exact .ite h.at.commitRound h.at.nextPass

theorem Block.NeighboursOff.censusPassTimeout (h : b.NeighboursOff) {t m} : (censusPassTimeout t m b).NeighboursOff := by
  unfold Machine.censusPassTimeout
  extract_lets
  split
  · exact h.at
  · exact h.at.nextPass

theorem Block.NeighboursOff.triggerAgain (h : b.NeighboursOff) : b.triggerAgain.NeighboursOff := by
  unfold Block.triggerAgain
  split
  · exact h
  · exact .ite h (.foldl (fun _ _ h => .ite h (.openTrain (.ite h.withLink.sendPulse h.withLink))) h.withLink)

theorem Block.NeighboursOff.sweepsGood (h : b.NeighboursOff) {q valid} : (b.sweepsGood q valid).NeighboursOff := by
  unfold Block.sweepsGood
  extract_lets
  split <;> exact h.putBit.withLink.sendDelays

theorem Block.NeighboursOff.sweepsOver (h : b.NeighboursOff) {m} : (b.sweepsOver m).NeighboursOff :=
  .ite h.withLink.endRound h.withLink.triggerAgain.runTriggers.kick

theorem Block.NeighboursOff.probeSweepsComplete (h : b.NeighboursOff) {sweeps t m} : (probeSweepsComplete sweeps t m b).NeighboursOff := by
  unfold Machine.probeSweepsComplete
  extract_lets
  split
  · exact h.at
  · exact .ite h.at.sweepsGood.sweepsOver (.ite h.at.sendSweeps h.at.putBit.raise.sweepsOver)

theorem Block.NeighboursOff.delayRefresh (h : b.NeighboursOff) {t} : (delayRefresh t b).NeighboursOff := .ite h.at.sendSweeps h.at

theorem Block.NeighboursOff.splitEntry (h : b.NeighboursOff) {below t} : (splitEntry below t b).NeighboursOff :=
  .ite h.at.withLink.putBit.sendReference.sendSweeps h.at

theorem Block.NeighboursOff.splitEnd (h : b.NeighboursOff) {t} : (splitEnd t b).NeighboursOff := .ite h.at.withLink h.at
theorem Block.NeighboursOff.checkDone (h : b.NeighboursOff) {p x} : (b.checkDone p x).NeighboursOff := h.withLink

theorem Block.NeighboursOff.commandDone (h : b.NeighboursOff) {c x} : (b.commandDone c x).NeighboursOff := by
  unfold Block.commandDone
  extract_lets _ _ b2
  have h2 : b2.NeighboursOff := by
    unfold b2
    split
    · exact h.withLink.hostReply
    · exact h.withLink
    · exact h.withLink.checkDone
  exact h2.dispatch

theorem Block.NeighboursOff.commandAgain (h : b.NeighboursOff) {c} : (b.commandAgain c).NeighboursOff :=
  .ite (.ite h.count32.withLink.sendCommand h.count32.withLink) h.count32.commandDone

theorem Block.NeighboursOff.response (h : b.NeighboursOff) {p seq payload} : (response p seq payload b).NeighboursOff := by
  unfold Machine.response
  split
  · exact h
  · split
    · exact h
    · exact .ite h.commandDone h.commandAgain

theorem Block.NeighboursOff.commandTimeout (h : b.NeighboursOff) {p} : (commandTimeout p b).NeighboursOff := by
  unfold Machine.commandTimeout
  split
  · exact h
  · split
    · exact h
    · exact h.commandAgain

theorem Block.NeighboursOff.headWriteOver (h : b.NeighboursOff) {w r} : (b.headWriteOver w r).NeighboursOff := by
  unfold Block.headWriteOver
  split
  · exact h.ownWritten
  · split <;> exact h.emit

theorem Block.NeighboursOff.headConfigChecksDone (h : b.NeighboursOff) : (headConfigChecksDone b).NeighboursOff := by
  unfold Machine.headConfigChecksDone
  split
  · exact h
  · split
    · exact h
    · extract_lets
      split
      · exact h.withLink.headWriteOver
      · split
        · exact h.withLink.headWriteOver
        · split
          · exact h.withLink.headWriteOver
          · exact h.withLink.applyWrite.headWriteOver

theorem Block.NeighboursOff.heedPorts (h : b.NeighboursOff) {p duUp} : (b.heedPorts p duUp).NeighboursOff := by
  unfold Block.heedPorts
  split
  · exact .ite h.withLink h
  · exact .ite h h.withLink

theorem Block.NeighboursOff.heedStatus (h : b.NeighboursOff) {pos p} : (b.heedStatus pos p).NeighboursOff :=
  .ite (.attend (.withHost (.ite h.heedPorts.withLink h.heedPorts))) (.ite h.heedPorts.withLink h.heedPorts)

theorem Block.NeighboursOff.streamFrame (h : b.NeighboursOff) {header payload} : (streamFrame header payload b).NeighboursOff :=
  .ite h (.deliver (.ite h.takePebble.heedStatus h.takePebble))

theorem Block.NeighboursOff.sendAggregate (h : b.NeighboursOff) : b.sendAggregate.NeighboursOff := h.broadcast.holdAggregate

theorem Block.NeighboursOff.heedHolds (h : b.NeighboursOff) {t missing} : (b.heedHolds t missing).NeighboursOff := by
  unfold Block.heedHolds
  extract_lets _ b1
  have h1 : b1.NeighboursOff := .foldl (fun _ _ h => .withLink (.ite h.queueAlarm h)) h
  exact .ite h1.withLink.judgeHeadFlt h1

theorem Block.NeighboursOff.countMissing (h : b.NeighboursOff) {missing} : (b.countMissing missing).NeighboursOff :=
  .ite h.countUp.withLink h.countUp.withLink

theorem Block.NeighboursOff.storeTrain (h : b.NeighboursOff) {t} : (b.storeTrain t).NeighboursOff := .foldl (fun _ _ h => h.storeRecord) h

theorem Block.NeighboursOff.heedTrain (h : b.NeighboursOff) {t missing} : (b.heedTrain t missing).NeighboursOff :=
  .ite h.withLink.sendAggregate (.ite h.withLink.sendAggregate (.ite h.heedHolds h))

theorem Block.NeighboursOff.runBehind (h : b.NeighboursOff) : b.runBehind.NeighboursOff :=
  .foldl (fun _ _ h => .ite h.request h.waitFor) h.withLink

theorem Block.NeighboursOff.heedBreak (h : b.NeighboursOff) {missing} : (b.heedBreak missing).NeighboursOff := by
  unfold Block.heedBreak
  split
  · exact h
  · split
    · exact h.withLink
    · exact .ite h.withLink h

theorem Block.NeighboursOff.noteLacked (h : b.NeighboursOff) {cls missing} : (b.noteLacked cls missing).NeighboursOff := h.withLink

theorem Block.NeighboursOff.closeTrain (h : b.NeighboursOff) {t} : (b.closeTrain t).NeighboursOff := by
  unfold Block.closeTrain
  extract_lets _ _ _ b3 _ b5
  have h3 : b3.NeighboursOff := .ite h.countTrain.storeTrain.heedBreak.countMissing h.countTrain.storeTrain.heedBreak.countMissing.noteLacked
  have h5 : b5.NeighboursOff := .ite h3.attend.heedTrain.streamToHost.runBehind h3.attend.heedTrain.streamToHost
  exact .ite h5.triggerAgain.runTriggers.kick.sendProbes h5.triggerAgain.runTriggers.kick

theorem Block.NeighboursOff.trainClose (h : b.NeighboursOff) {c t} : (trainClose c t b).NeighboursOff := by
  unfold Machine.trainClose
  extract_lets
  split
  · exact h.at
  · split
    · exact h.at
    · exact h.at.withLink.closeTrain

theorem Block.NeighboursOff.resumeCommands (h : b.NeighboursOff) : b.resumeCommands.NeighboursOff :=
  .foldl (fun _ _ h => .ite h h.withLink.sendCommand) h

theorem Block.NeighboursOff.resumePass (h : b.NeighboursOff) : b.resumePass.NeighboursOff := by
  unfold Block.resumePass
  split
  · exact h
  · exact h.sendCensus

theorem Block.NeighboursOff.syncSendThen (h : b.NeighboursOff) {t} : (syncSendThen t b).NeighboursOff := by
  unfold Machine.syncSendThen
  extract_lets
  exact .ite h.at (.ite h.at.headPulse.resumePass.sendProbes
      h.at.headPulse.resumePass.sendProbes.resumeCommands.dispatch.triggerAgain.runTriggers.kick)

theorem Block.NeighboursOff.analysisSetRead (h : b.NeighboursOff) {p frequencies sources integration step} :
    (analysisSetRead p frequencies sources integration step b).NeighboursOff :=
  .ite h (.ite h h.withChainSet.withImp.sendChainConfig)

theorem Block.NeighboursOff.medianRsRead (h : b.NeighboursOff) {values} : (medianRsRead values b).NeighboursOff := .ite h h.withLink

/-! #### Commands and steps -/

/-- In a next state no two neighbouring switches conduct. -/
def Out.NeighboursOff (o : Out) : Prop := ∀ t, o = .next t → t.blk.NeighboursOff

theorem Out.NeighboursOff.onBlock {f s} (h : (f s.blk).NeighboursOff) : Out.NeighboursOff (onBlock f s) := fun _ e => by
  cases e; exact h

theorem Out.NeighboursOff.onBlockReading {f s} (h : (f s.flash s.blk).NeighboursOff) : Out.NeighboursOff (onBlockReading f s) :=
  fun _ e => by
  cases e; exact h

theorem Out.NeighboursOff.onBoth {f s} (h : (f s.flash s.blk).2.NeighboursOff) : Out.NeighboursOff (onBoth f s) := fun _ e => by
  cases e; exact h

theorem Out.NeighboursOff.onSwitching {f s} (h : (f s.blk).NeighboursOff) : Out.NeighboursOff (onSwitching f s) := .onBlock h.noteEdges

theorem exec_neighboursOff (c : Instr) {s : State} (h : s.blk.NeighboursOff) : Out.NeighboursOff (exec c s) := by
  cases c with
  | porRelease => exact .onBlock h.porRelease
  | porAssert => exact .onBlock s.blk.porAssert_neighboursOff
  | vstkRangeCheck => exact .onBlock h.vstkRangeCheck
  | vinLow => exact .onBlock h.vinLow
  | supplyFail => exact .onSwitching h.supplyFail
  | railWindowFault => exact .onBlock h.railWindowFault
  | pwrEnComparison => exact .onBlock h.pwrEnComparison
  | ship => exact .onBlockReading h.commandRow
  | sleep => exact .onBlockReading h.commandRow
  | standby => exact .onBlockReading h.commandRow
  | measure => exact .onBlockReading h.commandRow
  | full => exact .onBlockReading h.commandRow
  | reset => exact .onBlockReading h.commandRow
  | wakeChain => exact .onBlockReading h.commandRow
  | transitionComplete => exact .onBlock h.transitionComplete
  | commLoss =>
    unfold exec execCommLoss
    exact .onBlockReading h.commLoss.noteEdges
  | wakeEvent => exact .onBlock h.wakeEvent
  | extendedWakeEvent => exact .onBlock h.extendedWakeEvent
  | deferredWakeStart => exact .onBlock h.deferredWakeStart
  | supplyAttemptTimeout => exact .onBlock h.supplyAttemptTimeout
  | vin5Good => exact .onBlock h.vin5Good
  | coreResetRelease => exact .onBlock h.coreResetRelease
  | engineBootComplete => exact .onBlockReading h.engineBootComplete
  | periodicCheck => exact .onBlock h.periodicCheck
  | crossingConfirmation => exact .onBlock h.crossingConfirmation
  | sleepBalancePhase => exact .onBlock h.sleepBalancePhase
  | sleepBalanceSecond => exact .onBlock h.sleepBalanceSecond
  | sleepPlanRefresh => exact .onBlock h.sleepPlanRefresh
  | thermalShutdown => exact .onBoth h.thermalShutdown_snd
  | shutdownTemperatureCheck => exact .onBlock h.shutdownTemperatureCheck
  | preShutdown =>
    unfold exec execPreShutdown
    exact .onBlockReading h.preShutdown.reactSafe.followE6.noteEdges
  | preShutdownEnd => exact .onBlock h.preShutdownEnd
  | laneThermometerInterval => exact .onBlock h.laneThermometerInterval
  | housekeepingRound => exact .onBlock h.housekeepingRound
  | throttleEvaluation =>
    unfold exec execThrottleEvaluation
    exact .onSwitching h.throttleEvaluation.followE6
  | pllReferenceSwitch => exact .onBlock h.pllReferenceSwitch
  | symbolLockLoss => exact .onBlock h.symbolLockLoss
  | clockMonitorGate => exact .onBlock h.clockMonitorGate
  | faultRcCheck => exact .onBlock h.faultRcCheck
  | syncSend => exact .onBlock h.syncSendThen
  | sync => exact .onBlock h.sync
  | syncMissing => exact .onBlock h.syncMissing
  | slewStep => exact .onBlock h.slewStep
  | chainReferenceSend => exact .onBlock h.chainReferenceSend
  | chainReference => exact .onBlock h.chainReference
  | chainTimeWrite => exact .onBlockReading h.writeRow
  | referenceCompare => exact .onBlock h.referenceCompare
  | correctionUpdate => exact .onBlock h.correctionUpdate
  | laneBlock => exact .onBlock h.laneBlock
  | cellLimitRefresh => exact .onBlock h.cellLimitRefresh
  | laneAveragingChange => exact .onBlock h.laneAveragingChange
  | shadowFrame => exact .onBlock h.shadowFrame
  | currentLaneCompare => exact .onBlock h.currentLaneCompare
  | currentSample => exact .onBlock h.currentSample
  | mainsTrackerUpdate => exact .onBlock h.mainsTrackerUpdate
  | auxSlot => exact .onBlock h.auxSlot
  | windowBoundary =>
    unfold exec execWindowBoundary
    exact .onBlock (.ite h.passBoundary.kick h.passBoundary)
  | windowPublish => exact .onBlock h.windowPublish
  | keeperRecordMissing =>
    unfold exec execKeeperRecordMissing
    exact .onBlock (.ite h.keeperRecordMissing.restBroken h.keeperRecordMissing)
  | windowModeWrite => exact .onBlockReading h.writeRow
  | snap => exact .onSwitching h.snap
  | captureStart => exact .onBlock h.captureStart
  | capturePublish => exact .onBlock h.capturePublish
  | instantTrigger => exact .onBlock h.instantTrigger
  | auxOutputWrite => exact .onBlockReading h.writeRow
  | auxFunctionWrite => exact .onBlockReading h.writeRow
  | chargeCounterPreset => exact .onBlockReading h.writeRow
  | currentKeeperWrite => exact .onBlockReading h.writeRow
  | governorTick =>
    unfold exec execGovernorTick
    exact .onBlock h.governorTick.takeMetered.trimE6.seekStep
  | pathLearn => exact .onBlock h.pathLearn
  | bleedConfirmation => exact .onSwitching h.bleedConfirmation
  | freshnessTimeout => exact .onSwitching h.freshnessTimeout
  | interlockRefusal => exact .onSwitching h.interlockRefusal
  | sessionTimerSecond => exact .onSwitching h.sessionTimerSecond
  | balanceTargetWrite => exact .onBlockReading h.writeRow
  | sessionTimerWrite => exact .onBlockReading h.writeRow
  | balanceEnableWrite => exact .onBlockReading h.writeRow
  | stickyFlagClear => exact .onBlockReading h.writeRow
  | bleedResistorWrite => exact .onBlockReading h.writeRow
  | thrPulseEdge => exact .onBlock h.thrPulseEdge
  | throttleInputLost => exact .onBlock h.throttleInputLost
  | analysisIntervalEnd => exact .onBlock h.analysisIntervalEnd
  | impedancePublish => exact .onBlock h.impedancePublish
  | ambientPairingTimeout => exact .onBlock h.ambientPairingTimeout
  | activeSequenceStart => exact .onSwitching h.activeSequenceStart
  | excitationEdge => exact .onBlock h.excitationEdge
  | activeIntervalDiscard => exact .onBlock h.activeIntervalDiscard
  | autobalancePeriod => exact .onSwitching h.autobalancePeriod
  | socTableWrite => exact .onBlockReading h.writeRow
  | tempCurveWrite => exact .onBlockReading h.writeRow
  | analysisSetRead => exact .onBlock h.analysisSetRead
  | volts => exact .onBlock h.classified
  | temps => exact .onBlock h.classified
  | imped => exact .onBlock h.classified
  | status => exact .onBlock h.classified
  | alarm => exact .onBlock h.alarm
  | pulseRepeat => exact .onBlock h.pulseRepeat
  | wakeTone => exact .onBlock h.wakeTone
  | portSignalDetect => exact .onBlock h.portSignalDetect
  | portTrained => exact .onBlock h.portTrained
  | trainingFail => exact .onBlock h.trainingFail
  | portDown => exact .onBlock h.portDown
  | ringModeWrite => exact .onBlockReading h.writeRow
  | frameReceive => exact .onBlock h.frameReceive
  | frameForward => exact .onBlock h.frameForward
  | frameTransmit => exact .onBlock h.frameTransmit
  | linkCrcRate => exact .onBlock h.linkCrcRate
  | censusRoundStart => exact .onBlockReading h.censusRoundStart
  | censusRun => exact .onBlockReading h.writeRow
  | census => exact .onBlock h.census
  | censusEcho => exact .onBlock h.censusEcho
  | censusEchoTimeout => exact .onBlock h.censusEchoTimeout
  | censusReply => exact .onBlock h.censusReply
  | censusPassResult => exact .onBlockReading h.censusPassResult
  | censusPassTimeout => exact .onBlockReading h.censusPassTimeout
  | censusRetry => exact .onBlockReading h.censusRetry
  | commit => exact .onBlock h.commit
  | probeSweep => exact .onBlock h.probeSweep
  | probe => exact .onBlock h.probe
  | probeSweepsComplete => exact .onBlockReading h.probeSweepsComplete
  | delays => exact .onBlock h.delays
  | delayRefresh => exact .onBlock h.delayRefresh
  | chainConfig => exact .onBlock h.chainConfig
  | chainAggregate => exact .onBlock h.chainAggregate
  | keeperForward => exact .onBlock h.keeperForward
  | keeperRecord => exact .onBlock h.keeperRecord
  | read =>
    unfold exec execRead
    exact .onBlockReading (h.chainCommand fun h => h.readNow_snd)
  | write =>
    unfold exec execWrite
    exact .onBlockReading (h.chainCommand fun h => h.writeNow_snd.settled_snd)
  | segInitRead =>
    unfold exec execSegInitRead
    exact .onBlockReading (h.chainCommand fun h => h.initRead_snd)
  | segInitWrite =>
    unfold exec execSegInitWrite
    exact .onBlock (h.chainCommand fun h => h.initWrite_snd)
  | segRead =>
    unfold exec execSegRead
    exact .onBlock (h.chainCommand fun h => h.segmentRead_snd)
  | segWrite =>
    unfold exec execSegWrite
    exact .onBlock (h.chainCommand fun h => h.segmentWrite_snd)
  | segEnd =>
    unfold exec execSegEnd
    exact .onBlockReading (h.chainCommand fun h => h.segmentEnd_snd.settled_snd)
  | checkConfig =>
    unfold exec execCheckConfig
    exact .onBlock (h.chainCommand fun h => h)
  | segmentTimeout => exact .onBlock h.segmentTimeout
  | response => exact .onBlock h.response
  | commandTimeout => exact .onBlock h.commandTimeout
  | headConfigChecksDone => exact .onBlock h.headConfigChecksDone
  | scheduledTrigger => exact .onBlock h.scheduledTrigger
  | streamResponseForm => exact .onBlock h.streamResponseForm
  | streamFrame => exact .onBlock h.streamFrame
  | trainClose => exact .onBlock h.trainClose
  | splitEntry => exact .onBlock h.splitEntry
  | splitEnd => exact .onBlock h.splitEnd
  | spiCommand => exact .onBlockReading h.spiCommand
  | spiRead => exact .onBlock h.spiRead
  | canRequest => exact .onBlockReading h.canRequest
  | novezRead => exact .onBlockReading h.hostCommand
  | novezWrite => exact .onBlockReading h.hostCommand
  | novezSegInitRead => exact .onBlockReading h.hostCommand
  | novezSegInitWrite => exact .onBlockReading h.hostCommand
  | novezSegRead => exact .onBlockReading h.hostCommand
  | novezSegWrite => exact .onBlockReading h.hostCommand
  | novezSegEnd => exact .onBlockReading h.hostCommand
  | segmentRepeatKeepalive => exact .onBlock h.segmentRepeatKeepalive
  | trigger => exact .onBlockReading h.hostCommand
  | readStream => exact .onBlockReading h.hostCommand
  | readAttention => exact .onBlockReading h.hostCommand
  | hostCrcRate => exact .onBlock h.hostCrcRate
  | canAlarmFrame => exact .onBlock h.canAlarmFrame
  | canTrainStream => exact .onBlock h.canTrainStream
  | canBusOffRecovery => exact .onBlock h.canBusOffRecovery
  | canConfigApply => exact .onBlock h.canConfigApply
  | faultRegistration => exact .onSwitching h.faultRegistration
  | captureFifoDrain => exact .onBlock h.captureFifoDrain
  | acknowledgeSource => exact .onBlockReading h.writeRow
  | acknowledgeAll => exact .onBlockReading h.writeRow
  | safeStateExit => exact .onBlock h.safeStateExit
  | faultSeverityWrite => exact .onBlockReading h.writeRow
  | faultFlagsWrite => exact .onBlockReading h.writeRow
  | engineWatchdogExpiry => exact .onBlock h.engineWatchdogExpiry
  | engineRestart => exact .onBlockReading h.engineRestart
  | engineSelfTest => exact .onBlock h.engineSelfTest
  | engineLoadMeasurement => exact .onBlock h.engineLoadMeasurement
  | memoryError => exact .onBlock h.memoryError
  | memoryScrub => exact .onBlock h.memoryScrub
  | configSignatureCheck => exact .onBlock h.configSignatureCheck
  | fltReadback => exact .onBlock h.fltReadback
  | openWireSlot => exact .onSwitching h.openWireSlot
  | openWireRepeat => exact .onSwitching h.openWireRepeat
  | unlockArm => exact .onBlockReading h.writeRow
  | unlockConfirm => exact .onBlockReading h.writeRow
  | unlockClear => exact .onBlockReading h.writeRow
  | unlockExpiry => exact .onBlock h.unlockExpiry
  | dictionaryWrite => exact .onBlockReading h.writeRow
  | journalRead => exact .onBlockReading h.journalRead
  | readCursorWrite => exact .onBlockReading h.writeRow
  | checkUnitWrite => exact .onBlockReading h.writeRow
  | save => exact .onBlockReading h.writeRow
  | nvmPageProgram => exact .onBoth h.nvmPage_snd
  | saveComplete => exact .onBlockReading h.saveComplete
  | restoreConfig => exact .onBlockReading h.writeRow
  | restoreAll => exact .onBlockReading h.writeRow
  | summaryWrite => exact .onBlockReading h.summaryWrite
  | summaryWriteComplete => exact .onBlockReading h.summaryWriteComplete
  | supplyAttemptRetry => exact .onBlock h.supplyAttemptRetry
  | railGood => exact .onBlock h.railGood
  | vstkInRange => exact .onBlock h.vstkInRange
  | sectorEraseComplete => exact .onBoth h.sectorErase_snd
  | operatingHour => exact .onBlock h.operatingHour
  | medianRsRead => exact .onBlock h.medianRsRead
  | ignoredFrame => exact .onBlock h.ignoredFrame
  | canBusError => exact .onBlock h.canBusError

/-- Settles O57: whichever command runs, its block keeps the interlock; where none waits, the cycle of the timebase turns no switch. -/
theorem interlockKept : Obligations.InterlockKept := fun s t h e => by
  unfold step at e
  split at e
  next c rest _ => exact exec_neighboursOff c (s := { s with pending := rest }) h t e
  next => cases e; exact h.tbCycle

end Sys2Proof.Machine

end

end


section
/-! ### Writes of the charge governor (R211, R218, R219, R226, R236)

What each object does with an accepted value; that its completion leaves this standing was said of every write. -/

namespace Sys2Proof.Machine

variable {b : Block}

/-! #### The effect of each object -/

@[simp] theorem Block.targetWritten_power (b : Block) (i : Nat) (mC : Int) : (b.targetWritten i mC).power = b.power := by
  unfold Block.targetWritten
  extract_lets
  split_ifs <;> rfl

/-- Beside its own entry a session timer written may end the session (R211). -/
theorem Block.timerWritten_spec (b : Block) (i : Nat) (v : Int) :
    (b.timerWritten i v).get (chKey Ob.sessionTimer i) = v ∧ (b.timerWritten i v).power = b.power := by
  have value : (b.put (chKey Ob.sessionTimer i) v).get (chKey Ob.sessionTimer i) = v := Block.get_put_self _ _ _
  unfold Block.timerWritten
  extract_lets
  split_ifs <;> exact ⟨value, rfl⟩

/-- Channel i as the enables leave it: where its bit has fallen it stops conducting for balancing (R218). -/
def Block.heedEnable (b : Block) (i : Nat) : Block :=
  if b.bit Ob.balanceEnable i then b else b.editCh i fun c => if c.on && c.owner == .balancing then c.off else c

theorem Block.enableWritten_eq (b : Block) (v : Int) :
    b.enableWritten v = (List.range 32).foldl Block.heedEnable (b.put Ob.balanceEnable v) := rfl

theorem Block.heedEnable_get (b : Block) (i k : Nat) : (b.heedEnable i).get k = b.get k := by
  unfold Block.heedEnable
  split <;> rfl

theorem Block.enableWritten_get (b : Block) (v : Int) : (b.enableWritten v).get Ob.balanceEnable = v :=
  (foldl_keeps (Block.get · Ob.balanceEnable) (fun c i => c.heedEnable_get i _) _ _).trans (b.get_put_self _ _)

/-- A channel whose enable has fallen does not conduct for balancing. -/
theorem Block.heedEnable_dark {i : Nat} (fallen : b.bit Ob.balanceEnable i = false) (held : ((b.heedEnable i).chan i).owner = .balancing) :
    ((b.heedEnable i).chan i).on = false := by
  rw [Block.heedEnable, if_neg (by simp [fallen]), Block.chan_editCh] at held ⊢
  split at held
  · next present =>
    rw [if_pos present]
    split at held
    · next conducts => rw [if_pos conducts]; rfl
    · next not =>
      rw [if_neg not]
      simpa [held] using not
  · next absent =>
    rw [if_neg absent]
    have none_here : b.gov.ch[i]? = none := List.getElem?_eq_none (by simpa using absent)
    simp [Block.chan, none_here]

theorem Block.heedEnable_other {i j : Nat} (other : j ≠ i) : (b.heedEnable j).chan i = b.chan i := by
  unfold Block.heedEnable
  split
  · rfl
  · exact b.chan_editCh_other _ other.symm

/-- The enables written: a channel whose bit is not set does not conduct for balancing (R218). -/
theorem Block.enableWritten_dark {v : Int} {i : Nat} (few : i < 32) (fallen : bitOf v.toNat i = false) :
    ((b.enableWritten v).chan i).owner = .balancing → ((b.enableWritten v).chan i).on = false := by
  rw [Block.enableWritten_eq]
  have bit (c : Block) (stands : c.get Ob.balanceEnable = v) : c.bit Ob.balanceEnable i = false := by
    rw [Block.bit, Block.nat, stands, fallen]
  exact foldl_establishes (holds := fun c : Block => c.get Ob.balanceEnable = v)
    (sets := fun c : Block => (c.chan i).owner = .balancing → (c.chan i).on = false) (List.mem_range.2 few)
    (fun c j _ stands => (c.heedEnable_get j _).trans stands) (fun c stands => Block.heedEnable_dark (bit c stands))
    (fun c j _ other _ set => by rwa [Block.heedEnable_other other]) (b.get_put_self _ _)

/-- A path returned to the seed (R205). -/
def Block.seedPath (seed : Int) (b : Block) (i : Nat) : Block :=
  (b.put (chKey Ob.pathResistance i) seed).editCh i fun c => { c with pathFraction := 0, atBound := false }

theorem Block.seedPaths_eq (b : Block) (lo : Nat) : b.seedPaths lo =
    ((List.range 32).filter fun i => lo ≤ i && i < b.cells).foldl (Block.seedPath (pathSeed (b.get Ob.bleedResistor))) b := rfl

theorem Block.seedPath_get (seed : Int) (b : Block) (i k : Nat) :
    (b.seedPath seed i).get k = if k = chKey Ob.pathResistance i then seed else b.get k := b.get_put _ _ _

/-- BleedResistor written is read back, with the seed it gives as the resistance of every path (R205, R226). -/
theorem Block.bleedResistorWritten_spec (b : Block) (v : Int) {i : Nat} (cell : i < b.cells) (few : i < 32) :
    (b.bleedResistorWritten v).get Ob.bleedResistor = v ∧ (b.bleedResistorWritten v).get (chKey Ob.pathResistance i) = pathSeed v := by
  have resistor (j : Nat) (k : j < 32) : Ob.bleedResistor ≠ chKey Ob.pathResistance j := by
    simp only [chKey, Ob.bleedResistor, Ob.pathResistance]; omega
  have cells : (b.put Ob.bleedResistor v).cells = b.cells := Block.nat_of_get (b.get_put_other _ (by decide))
  rw [Block.bleedResistorWritten, Block.seedPaths_eq, Block.get_put_self, cells]
  constructor
  · refine List.foldlRecOn (motive := fun c : Block => c.get Ob.bleedResistor = v) _ _ (b.get_put_self _ _) fun c stands j mem => ?_
    rw [Block.seedPath_get, if_neg (resistor j (List.mem_range.1 (List.mem_filter.1 mem).1)), stands]
  · refine foldl_establishes (holds := fun _ => True) (sets := fun c : Block => c.get (chKey Ob.pathResistance i) = pathSeed v)
      (List.mem_filter.2 ⟨List.mem_range.2 few, by simpa using cell⟩) (fun _ _ _ _ => trivial)
      (fun c _ => by rw [Block.seedPath_get, if_pos rfl]) (fun c j _ other _ set => ?_) trivial
    rw [Block.seedPath_get, if_neg (by simpa [chKey] using Ne.symm other), set]

/-! #### The rows -/

/-- Edges noted leave every switch with its holder. -/
theorem Block.noteEdges_switch (b : Block) (d : List Nat) (i : Nat) :
    ((b.noteEdges d).chan i).on = (b.chan i).on ∧ ((b.noteEdges d).chan i).owner = (b.chan i).owner := by
  unfold Block.noteEdges
  extract_lets _ b1
  exact ⟨foldl_keeps (fun c => (c.chan i).on) (fun c j => (c.noteEdge_switch j _ i).1) _ b1,
    foldl_keeps (fun c => (c.chan i).owner) (fun c j => (c.noteEdge_switch j _ i).2) _ b1⟩

/-- The completion of a write that the head does not distribute leaves every switch with its holder (R331). -/
theorem Block.applyWrite_switch (b : Block) {o : Obj} (own : chainObjects.contains o.ix = false) (sl : List (Nat × Entry × List Byte))
    (i : Nat) : ((b.applyWrite o sl).chan i).on = ((b.applySlices o.ix sl).chan i).on ∧
      ((b.applyWrite o sl).chan i).owner = ((b.applySlices o.ix sl).chan i).owner := by
  have snooped : ((b.applySlices o.ix sl).snoopCfg o.ix sl).gov = (b.applySlices o.ix sl).gov :=
    foldl_keeps Block.gov (fun c x => by split <;> rfl) _ _
  unfold Block.applyWrite
  extract_lets b1 _ b2 b3
  have before : b3.chan i = (b.applySlices o.ix sl).chan i := by
    rw [show b3 = b2 from if_neg (by rw [own, Bool.and_false]; exact Bool.false_ne_true)]
    exact congrArg (fun g : Gov => (g.ch[i]?).getD .idle) snooped
  obtain ⟨on, owner⟩ := b3.noteEdges_switch [] i
  exact ⟨on.trans (congrArg GovCh.on before), owner.trans (congrArg GovCh.owner before)⟩

section
variable {s : State} {data : List Byte} {v : Int} {i : Nat}

theorem balanceTargetWrite_gives (few : i < 32) (h : Accepts s.blk 0x3001 (i + 1) data [(chKey Ob.balanceTarget i, v)]) :
    GivesBlock (.balanceTargetWrite (i + 1) data) s fun b => b.get (chKey Ob.balanceTarget i) = v ∧ b.power = s.blk.power := by
  have channel : chKey Ob.balanceTarget i % 256 - 1 = i := by simp only [chKey, Ob.balanceTarget]; omega
  have done : (s.blk.disarm.targetWritten (chKey Ob.balanceTarget i % 256 - 1) v).Completes _ := h.values s.flash (by decide)
  rw [channel] at done
  refine ⟨_, rfl, ?_, done.power.trans (by simp)⟩
  rw [done.get _ (by simp only [chKey, Ob.balanceTarget, Ob.checkCfg]; omega), Block.get_targetWritten_self _ few]

theorem sessionTimerWrite_gives (few : i < 32) (h : Accepts s.blk 0x3005 (i + 1) data [(chKey Ob.sessionTimer i, v)]) :
    GivesBlock (.sessionTimerWrite (i + 1) data) s fun b => b.get (chKey Ob.sessionTimer i) = v ∧ b.power = s.blk.power := by
  have channel : chKey Ob.sessionTimer i % 256 - 1 = i := by simp only [chKey, Ob.sessionTimer]; omega
  have done : (s.blk.disarm.timerWritten (chKey Ob.sessionTimer i % 256 - 1) v).Completes _ := h.values s.flash (by decide)
  rw [channel] at done
  obtain ⟨value, power⟩ := s.blk.disarm.timerWritten_spec i v
  refine ⟨_, rfl, ?_, done.power.trans (power.trans s.blk.disarm_power)⟩
  rw [done.get _ (by simp only [chKey, Ob.sessionTimer, Ob.checkCfg]; omega), value]

/-- The switches after an accepted write of the enables are those its effect leaves. -/
theorem enables_switch (h : Accepts b 0x3000 0 data [(Ob.balanceEnable, v)]) (m : List Host.Cell) (i : Nat) :
    ((writeRow 0x3000 0 data m b).chan i).on = ((b.disarm.enableWritten v).chan i).on ∧
      ((writeRow 0x3000 0 data m b).chan i).owner = ((b.disarm.enableWritten v).chan i).owner := by
  obtain ⟨awake, -, o, sl, checked, decoded⟩ := h
  have ix : o.ix = 0x3000 := findObj_ix (Block.writeTarget_ok (Block.checkWrite_ok checked).1).1
  have own : chainObjects.contains o.ix = false := by rw [ix]; decide
  have effect : b.disarm.applySlices o.ix sl = b.disarm.enableWritten v := by
    simp only [ix, Block.applySlices, decoded, Nat.reduceEqDiff, if_false]
    rfl
  have applied : writeRow 0x3000 0 data m b = (b.disarm.applyWrite o sl).emit (.answer none) := by
    simp [writeRow, awake, Block.writeAccess_done (by decide) (by decide) checked (.inr (ix ▸ own))]
  have emitted (c : Block) (e : Emission) : (c.emit e).chan i = c.chan i := rfl
  rw [applied, ← effect, emitted]
  exact b.disarm.applyWrite_switch own sl i

theorem balanceEnableWrite_gives (few : i < 32) (h : Accepts s.blk 0x3000 0 data [(Ob.balanceEnable, v)]) :
    GivesBlock (.balanceEnableWrite data) s fun b => b.get Ob.balanceEnable = v ∧
      (bitOf v.toNat i = false → (b.chan i).owner = .balancing → (b.chan i).on = false) := by
  have done : (s.blk.disarm.enableWritten v).Completes _ := h.values s.flash (by decide)
  obtain ⟨on, owner⟩ := enables_switch h s.flash i
  exact ⟨_, rfl, (done.get _ (by decide)).trans (Block.enableWritten_get _ v),
    fun fallen held => on.trans (Block.enableWritten_dark few fallen (owner.symm.trans held))⟩

theorem governorFlagsClear_gives (h : Accepts s.blk 0x300B 0 data [(Ob.governorFlags, v)]) :
    GivesBlock (.stickyFlagClear 0x300B 0 data) s fun b =>
      b.nat Ob.governorFlags = clearBits (s.blk.nat Ob.governorFlags) v.toNat ∧ b.power = s.blk.power := by
  have done : (s.blk.disarm.governorFlagsCleared v.toNat).Completes _ := h.values s.flash (by decide)
  have flags : s.blk.disarm.nat Ob.governorFlags = s.blk.nat Ob.governorFlags :=
    Block.nat_of_get (s.blk.get_disarm_other (by decide))
  refine ⟨_, rfl, ?_, done.power.trans (by simp [Block.governorFlagsCleared])⟩
  rw [Block.nat_of_get (done.get _ (by decide)), Block.governorFlagsCleared, Block.nat_put, if_pos rfl, flags, Int.toNat_natCast]

theorem bleedResistorWrite_gives (cell : i < s.blk.cells) (few : i < 32) (h : Accepts s.blk 0x3011 0 data [(Ob.bleedResistor, v)]) :
    GivesBlock (.bleedResistorWrite data) s fun b =>
      b.get Ob.bleedResistor = v ∧ b.get (chKey Ob.pathResistance i) = pathSeed v := by
  have done : (s.blk.disarm.bleedResistorWritten v).Completes _ := h.values s.flash (by decide)
  have cells : s.blk.disarm.cells = s.blk.cells := Block.nat_of_get (s.blk.get_disarm_other (by decide))
  obtain ⟨resistor, path⟩ := s.blk.disarm.bleedResistorWritten_spec v (cells.symm ▸ cell) few
  refine ⟨_, rfl, (done.get _ (by decide)).trans resistor, ?_⟩
  rw [done.get _ (by simp only [chKey, Ob.pathResistance, Ob.checkCfg]; omega), path]

end

/-- Settles O9: what an accepted write does to its object, and that its completion leaves this standing. -/
theorem governorWrites : Obligations.GovernorWrites :=
  ⟨fun _ _ _ _ => balanceTargetWrite_gives, fun _ _ _ _ => sessionTimerWrite_gives, fun _ _ _ _ => balanceEnableWrite_gives,
   fun _ _ _ => governorFlagsClear_gives, fun _ _ _ _ => bleedResistorWrite_gives⟩

end Sys2Proof.Machine
end

section
/-! ### The channels of the governor, and who leaves them alone -/

namespace Sys2Proof.Machine

variable {a b : Block}

/-- The channels are the governor's alone. -/
theorem Block.chan_of_gov (same : b.gov = a.gov) (i : Nat) : b.chan i = a.chan i := by rw [Block.chan, same, Block.chan]

@[simp] theorem Block.put_chan (b : Block) (k : Nat) (v : Int) (i : Nat) : (b.put k v).chan i = b.chan i := rfl
@[simp] theorem Block.putBit_chan (b : Block) (k n : Nat) (on : Bool) (i : Nat) : (b.putBit k n on).chan i = b.chan i := rfl
@[simp] theorem Block.raise_chan (b : Block) (s d i : Nat) : (b.raise s d).chan i = b.chan i := rfl
@[simp] theorem Block.at_chan (b : Block) (t i : Nat) : (b.at t).chan i = b.chan i := rfl
@[simp] theorem Block.count32_chan (b : Block) (k i : Nat) : (b.count32 k).chan i = b.chan i := Block.chan_of_gov (b.count32_gov k) i

@[simp] theorem Block.reason_chan (b : Block) (r : Reason) (on : Bool) (i : Nat) : (b.reason r on).chan i = b.chan i :=
  Block.chan_of_gov (b.reason_gov r on) i

/-- An absent channel reads as idle. -/
theorem Block.chan_absent {i : Nat} (absent : b.gov.ch.length ≤ i) : b.chan i = .idle := by
  rw [Block.chan, List.getElem?_eq_none absent, Option.getD_none]

theorem Block.present_of_chan {i : Nat} (some : b.chan i ≠ .idle) : i < b.gov.ch.length := by
  by_contra absent
  exact some (Block.chan_absent (Nat.le_of_not_lt absent))

/-- What holds of an idle channel, and of every one as it is rewritten, holds of the channel rewritten. -/
theorem Block.chan_editCh_of {p : GovCh → Prop} (b : Block) (i : Nat) {f : GovCh → GovCh} (idle : p .idle) (all : ∀ c, p (f c)) :
    p ((b.editCh i f).chan i) := by
  by_cases present : i < b.gov.ch.length
  · rw [Block.chan_editCh_self f present]
    exact all _
  · rw [Block.chan_editCh, if_neg fun both => present both.2, Block.chan_absent (Nat.le_of_not_lt present)]
    exact idle

/-- A channel as it is but for the note that its edge has been seen. -/
def GovCh.unseen (c : GovCh) : GovCh := { c with seen := false }

/-- Edges noted change of a channel only that they have been seen. -/
theorem Block.noteEdge_unseen (b : Block) (i x j : Nat) : ((b.noteEdge i x).chan j).unseen = (b.chan j).unseen := by
  obtain h | ⟨e, s, h⟩ := b.noteEdge_cases i x
  · rw [h]
  · rw [h, Block.chan_editCh]
    split <;> rfl

theorem Block.noteEdges_unseen (b : Block) (d : List Nat) (i : Nat) : ((b.noteEdges d).chan i).unseen = (b.chan i).unseen := by
  unfold Block.noteEdges
  extract_lets _ b1
  exact foldl_keeps (fun c => (c.chan i).unseen) (fun c j => c.noteEdge_unseen j _ i) (List.range 32) b1

/-- Whatever of a channel has nothing to do with its seen edges stays as edges are noted. -/
theorem Block.noteEdges_keeps {β : Type} (p : GovCh → β) (b : Block) (d : List Nat) (i : Nat)
    (other : ∀ c : GovCh, p c.unseen = p c := by intro c; rfl) :
    p ((b.noteEdges d).chan i) = p (b.chan i) := by
  rw [← other, b.noteEdges_unseen, other]

end Sys2Proof.Machine

end

section
/-! ### What runs beside the tick of the governor (R206, R209, R211, R221, R226–R229) -/

namespace Sys2Proof.Machine

variable {b : Block}

/-! #### Learning (R226, R227) -/

/-- Judging 0x40 leaves the governor and the power alone. -/
theorem Block.judgePath_frame (b : Block) : b.judgePath.gov = b.gov ∧ b.judgePath.power = b.power := by
  unfold Block.judgePath
  extract_lets shows stands b1
  have h1 : b1.gov = b.gov ∧ b1.power = b.power := ⟨b.reason_gov _ _, b.reason_power _ _⟩
  split
  · exact h1
  · exact ⟨(b1.clearLive_gov _).trans h1.1, (b1.clearLive_power _).trans h1.2⟩

@[simp] theorem Block.judgePath_chan (b : Block) (i : Nat) : b.judgePath.chan i = b.chan i := Block.chan_of_gov b.judgePath_frame.1 i
@[simp] theorem Block.judgePath_power (b : Block) : b.judgePath.power = b.power := b.judgePath_frame.2

theorem Block.learnPath_beside (b : Block) (i mA sumI : Nat) (sumV : Int) :
    (b.learnPath i mA sumI sumV).power = b.power ∧ ∀ j, j ≠ i → (b.learnPath i mA sumI sumV).chan j = b.chan j := by
  unfold Block.learnPath
  extract_lets fine seed step lo hi kept b1 b2
  have h1 : b1.power = b.power ∧ ∀ j, j ≠ i → b1.chan j = b.chan j := ⟨rfl, fun j other => Block.chan_editCh_other _ _ other⟩
  split
  · have h2 : b2.power = b.power ∧ ∀ j, j ≠ i → b2.chan j = b.chan j :=
      ⟨h1.1, fun j other => (Block.chan_editCh_other _ _ other).trans (h1.2 j other)⟩
    simpa using h2
  · refine ⟨(Block.judgePath_power _).trans h1.1, fun j other => ?_⟩
    rw [Block.judgePath_chan, Block.chan_editCh_other _ _ other, h1.2 j other]

/-- A millisecond's learning starts new sums for its channel, and leaves the others alone. -/
theorem Block.learnChannel_spec (b : Block) (i : Nat) : ((b.learnChannel i).chan i).settled = 0 ∧ (b.learnChannel i).power = b.power ∧
    ∀ j, j ≠ i → (b.learnChannel i).chan j = b.chan j := by
  unfold Block.learnChannel
  extract_lets c fine mA off tol b1 time bad dev fine b2
  split
  · next none_settled => exact ⟨none_settled, rfl, fun _ _ => rfl⟩
  have h1 : b1.power = b.power ∧ ∀ j, j ≠ i → b1.chan j = b.chan j := by
    unfold b1
    split
    · exact b.learnPath_beside i mA c.settledI c.settledV
    · exact ⟨rfl, fun _ _ => rfl⟩
  have h2 : (b2.chan i).settled = 0 ∧ b2.power = b.power ∧ ∀ j, j ≠ i → b2.chan j = b.chan j :=
    ⟨b1.chan_editCh_of (p := fun c => c.settled = 0) i rfl fun _ => rfl, h1.1,
      fun j other => (b1.chan_editCh_other _ other).trans (h1.2 j other)⟩
  split_ifs
  · simpa using h2
  · simpa using h2
  · exact h2

theorem pathLearn_gives {s : State} {i : Nat} (measuring : s.blk.measuring = true) (cells : s.blk.noCells = false)
    (runs : s.blk.engineRuns 5 = true) (cell : i < s.blk.cells) :
    GivesBlock .pathLearn s fun b => (b.chan i).settled = 0 ∧ b.power = s.blk.power := by
  refine ⟨_, rfl, ?_⟩
  rw [pathLearn, if_neg (by simp [measuring, cells, runs])]
  refine ⟨foldl_establishes (holds := fun _ => True) (sets := fun c : Block => (c.chan i).settled = 0) (List.mem_range.2 cell)
    (fun _ _ _ _ => trivial) (fun c _ => (c.learnChannel_spec i).1) (fun c j _ other _ set => ?_) trivial,
    foldl_keeps Block.power (fun c j => (c.learnChannel_spec j).2.1) _ _⟩
  rw [(c.learnChannel_spec j).2.2 i other.symm, set]

end Sys2Proof.Machine

end

section
/-! ### Confirmations, refusals and the throttle's pulses, beside the tick (R206, R209, R211, R221, R228, R229) -/

namespace Sys2Proof.Machine

variable {b : Block}

/-! #### Confirmations (R228, R229) -/

/-- Excited channels that lose their switch go off; neither entries, detections nor the number of channels change. -/
theorem Block.loseExcited_frame (b : Block) (near : Nat → Bool) : (b.loseExcited near).dict = b.dict ∧
    (b.loseExcited near).flint = b.flint ∧ (b.loseExcited near).gov.ch.length = b.gov.ch.length := by
  unfold Block.loseExcited
  split
  · exact ⟨rfl, rfl, rfl⟩
  · extract_lets gone b1
    exact ⟨foldl_keeps Block.dict (fun c j => c.editCh_dict j _) gone b, foldl_keeps Block.flint (fun c j => c.editCh_flint j _) gone b,
      foldl_keeps (fun c => c.gov.ch.length) (fun c j => c.editCh_length j _) gone b⟩

/-- The switches of a confirmation that has been read: released, and the channel's suspicion judged (R228). -/
def Block.confirmed (b : Block) (i : Nat) : Block :=
  let c := ([i, i + 1] ++ (if 1 ≤ i then [i - 1] else [])).foldl (fun b j => b.editCh j GovCh.off)
    (b.loseExcited fun j => decide (j ≤ i + 1) && decide (i ≤ j + 1))
  (c.withLanes { c.lanes with confirm := none }).editCh i fun c => { c with suspicion := none, lowTicks := 0, strayTicks := 0 }

theorem Block.confirmed_frame (b : Block) (i : Nat) : (b.confirmed i).dict = b.dict ∧ (b.confirmed i).flint = b.flint ∧
    (b.confirmed i).gov.ch.length = b.gov.ch.length := by
  obtain ⟨dict, flint, length⟩ := b.loseExcited_frame fun j => decide (j ≤ i + 1) && decide (i ≤ j + 1)
  unfold Block.confirmed
  extract_lets c
  have dict' : c.dict = b.dict := by unfold c; rw [foldl_keeps Block.dict (fun c j => c.editCh_dict j _), dict]
  have flint' : c.flint = b.flint := by unfold c; rw [foldl_keeps Block.flint (fun c j => c.editCh_flint j _), flint]
  have length' : c.gov.ch.length = b.gov.ch.length := by
    unfold c
    rw [foldl_keeps (fun c => c.gov.ch.length) (fun c j => c.editCh_length j _), length]
  clear_value c
  exact ⟨dict', flint', (Block.editCh_length _ _ _).trans length'⟩

theorem Block.confirmed_chan (b : Block) (i : Nat) : ((b.confirmed i).chan i).on = false ∧ ((b.confirmed i).chan i).suspicion = none := by
  unfold Block.confirmed
  extract_lets c
  have off : (c.chan i).on = false := by
    refine foldl_establishes (i := i) (holds := fun _ => True) (sets := fun c : Block => (c.chan i).on = false) (by simp)
      (fun _ _ _ _ => trivial) (fun c _ => ?_) (fun c j _ other _ set => ?_) trivial
    · exact c.chan_editCh_of (p := fun c => c.on = false) i rfl fun _ => rfl
    · rw [Block.chan_editCh_other _ _ other.symm, set]
  clear_value c
  refine ⟨?_, Block.chan_editCh_of (p := fun c => c.suspicion = none) _ i rfl fun _ => rfl⟩
  rw [Block.chan_editCh]
  split
  · exact off
  · exact off

/-- What a confirmation's readings mean (R228). -/
def Block.confirmOutcome (b : Block) (i : Nat) (q : Suspicion) (u : Int) (meter : Nat) : Option Nat :=
  b.confirmResult i (q != .strayCurrent) meter
    (if b.nat Ob.bleedResistor = 0 then 0 else (roundDiv (u * 10) (b.nat Ob.bleedResistor)).toNat)

section
variable {i : Nat} {u : Int} {meter : Nat} {q : Suspicion} (cells : b.noCells = false) (runs : b.engineRuns 5 = true) (safe : b.safeHold = 0)
  (slot : b.slotBusy = false) (rotates : b.shadowRotates = true) (suspected : (b.chan i).suspicion = some q)

include cells runs safe slot rotates suspected in
/-- A confirmation that is read and finds nothing releases the switches. -/
theorem bleedConfirmation_clear (clear : b.confirmOutcome i q u meter = none) : bleedConfirmation i u meter b = b.confirmed i := by
  unfold bleedConfirmation
  simp only [suspected]
  rw [if_neg (by simp [cells, runs, safe, slot, rotates])]
  unfold Block.confirmOutcome at clear
  rw [clear]
  rfl

include cells runs safe slot rotates suspected in
/-- A confirmation that finds a channel's path broken disables it and raises the source. -/
theorem bleedConfirmation_found {src : Nat} (found : b.confirmOutcome i q u meter = some src) (own : src ≠ 0x42) :
    bleedConfirmation i u meter b = ((b.confirmed i).disable i).raise src (i + 1) := by
  unfold bleedConfirmation
  simp only [suspected]
  rw [if_neg (by simp [cells, runs, safe, slot, rotates])]
  unfold Block.confirmOutcome at found
  rw [found]
  simp only [if_neg own]
  rfl

end

/-- A channel disabled (R211, R230): its switch is off and the service request says so. -/
theorem Block.disable_spec {i : Nat} (cell : i < b.cells) (present : i < b.gov.ch.length) : ((b.disable i).chan i).disabled = true ∧
    ((b.disable i).chan i).on = false ∧ (b.disable i).hasReason .balanceChannel = true ∧ (b.disable i).flint = b.flint := by
  rw [Block.disable, if_pos cell, Block.reason_chan, Block.chan_editCh_self _ present]
  exact ⟨rfl, rfl, Block.hasReason_reason _ _ _, Block.reason_flint _ _ _⟩

theorem bleedConfirmation_clear_gives {s : State} {ch : Fin 32} {u : Int} {meter : Nat} {q : Suspicion}
    (cells : s.blk.noCells = false) (runs : s.blk.engineRuns 5 = true) (safe : s.blk.safeHold = 0) (slot : s.blk.slotBusy = false)
    (rotates : s.blk.shadowRotates = true) (suspected : (s.blk.chan ch.val).suspicion = some q)
    (clear : s.blk.confirmResult ch.val (q != .strayCurrent) meter
      (if s.blk.nat Ob.bleedResistor = 0 then 0 else (roundDiv (u * 10) (s.blk.nat Ob.bleedResistor)).toNat) = none) :
    GivesBlock (.bleedConfirmation ch u meter) s fun b =>
      (b.chan ch.val).on = false ∧ (b.chan ch.val).suspicion = none ∧ b.flint = s.blk.flint := by
  refine ⟨(bleedConfirmation ch.val u meter s.blk).noteEdges [], rfl, ?_⟩
  rw [bleedConfirmation_clear cells runs safe slot rotates suspected clear]
  obtain ⟨off, judged⟩ := s.blk.confirmed_chan ch.val
  exact ⟨(Block.noteEdges_keeps GovCh.on _ [] _).trans off, (Block.noteEdges_keeps GovCh.suspicion _ [] _).trans judged,
    (Block.noteEdges_flint _ _).trans (s.blk.confirmed_frame ch.val).2.1⟩

theorem bleedConfirmation_open_gives {s : State} {ch : Fin 32} {u : Int} {meter : Nat} {q : Suspicion}
    (cells : s.blk.noCells = false) (runs : s.blk.engineRuns 5 = true) (safe : s.blk.safeHold = 0) (slot : s.blk.slotBusy = false)
    (rotates : s.blk.shadowRotates = true) (cell : ch.val < s.blk.cells) (suspected : (s.blk.chan ch.val).suspicion = some q)
    (found : s.blk.confirmResult ch.val (q != .strayCurrent) meter
      (if s.blk.nat Ob.bleedResistor = 0 then 0 else (roundDiv (u * 10) (s.blk.nat Ob.bleedResistor)).toNat) = some 0x41) :
    GivesBlock (.bleedConfirmation ch u meter) s fun b =>
      (b.chan ch.val).disabled = true ∧ (b.chan ch.val).on = false ∧ b.hasReason .balanceChannel = true ∧
      b.flint.detections = s.blk.flint.detections ++ [⟨0x41, ch.val + 1, 0, none⟩] := by
  obtain ⟨dict, flint, length⟩ := s.blk.confirmed_frame ch.val
  have present : ch.val < (s.blk.confirmed ch.val).gov.ch.length := by
    rw [length]
    exact Block.present_of_chan fun idle => by simp [idle, GovCh.idle] at suspected
  have here : ch.val < (s.blk.confirmed ch.val).cells := by rwa [Block.cells, Block.nat_of_get (Block.get_of_dict dict _)]
  obtain ⟨disabled, off, reason, same⟩ := Block.disable_spec here present
  refine ⟨(bleedConfirmation ch.val u meter s.blk).noteEdges [], rfl, ?_⟩
  rw [bleedConfirmation_found cells runs safe slot rotates suspected found (by decide)]
  refine ⟨(Block.noteEdges_keeps GovCh.disabled _ [] _).trans disabled, (Block.noteEdges_keeps GovCh.on _ [] _).trans off,
    (Block.noteEdges_bit _ _ _ _).trans reason, ?_⟩
  rw [Block.noteEdges_flint, ← flint, ← same]
  rfl

/-! #### Freshness, the interlock and a session's time (R206, R209–R211) -/

theorem freshnessTimeout_gives {s : State} {ch : Fin 32} (on : (s.blk.chan ch.val).on = true) : GivesBlock (.freshnessTimeout ch) s fun b =>
    (b.chan ch.val).on = false ∧ (b.chan ch.val).owner = (s.blk.chan ch.val).owner ∧ b.bit Ob.governorFlags 2 = true ∧
    b.flint.detections = s.blk.flint.detections ++ [⟨0x46, ch.val + 1, 0, none⟩] := by
  have dark : (freshnessTimeout ch.val s.blk).chan ch.val = (s.blk.chan ch.val).dark := by
    rw [freshnessTimeout, if_pos on]
    exact Block.chan_editCh_self _ (Block.present_of_chan fun idle => by simp [idle, GovCh.idle] at on)
  refine ⟨_, rfl, ?_, ?_, ?_, ?_⟩
  · exact (Block.noteEdges_keeps GovCh.on _ [] _).trans (congrArg GovCh.on dark)
  · exact (Block.noteEdges_keeps GovCh.owner _ [] _).trans (by rw [dark]; rfl)
  · rw [Block.noteEdges_bit, freshnessTimeout, if_pos on, Block.raise_bit, Block.bit_putBit_self]
  · rw [Block.noteEdges_flint, freshnessTimeout, if_pos on]
    rfl

theorem interlockRefusal_gives {s : State} {ch : Fin 32} : GivesBlock (.interlockRefusal ch) s fun b =>
    (b.chan ch.val).on = false ∧ (b.chan ch.val).owner = (s.blk.chan ch.val).owner ∧
    b.nat Ob.interlockRefusals = min (s.blk.nat Ob.interlockRefusals + 1) (2 ^ 32 - 1) ∧ b.bit Ob.governorFlags 5 = true := by
  have same : (interlockRefusal ch.val s.blk).chan ch.val = (s.blk.editCh ch.val GovCh.dark).chan ch.val := by
    rw [interlockRefusal, Block.putBit_chan, Block.count32_chan]
  refine ⟨_, rfl, ?_, ?_, ?_, ?_⟩
  · rw [Block.noteEdges_keeps GovCh.on, same]
    exact Block.chan_editCh_of (p := fun c => c.on = false) _ _ rfl fun _ => rfl
  · rw [Block.noteEdges_keeps GovCh.owner, same, Block.chan_editCh]
    split <;> rfl
  · rw [Block.nat_of_get (Block.noteEdges_get _ _ _), interlockRefusal, Block.nat_putBit, if_neg (by decide), Block.count32,
      Block.nat_countUp_self, Block.editCh_nat]
  · rw [Block.noteEdges_bit, interlockRefusal, Block.bit_putBit_self]

theorem Block.endSession_state (b : Block) (i state : Nat) (present : i < b.gov.ch.length) : ((b.endSession i state).chan i).state = state := by
  rw [Block.endSession, Block.chan_editCh_self _ present]

/-- A second of an open session's time (R211): the timer runs on, and at its last second the session ends. -/
theorem sessionTimerSecond_of_open {i : Nat} (awake : b.awake = true) (opened : (b.chan i).openSession = true)
    (runs : b.nat (chKey Ob.sessionTimer i) ≠ 0) : sessionTimerSecond i b =
      if b.nat (chKey Ob.sessionTimer i) = 1
        then (b.put (chKey Ob.sessionTimer i) (b.nat (chKey Ob.sessionTimer i) - 1 : Nat)).endSession i 4
        else b.put (chKey Ob.sessionTimer i) (b.nat (chKey Ob.sessionTimer i) - 1 : Nat) := by
  unfold sessionTimerSecond
  simp [awake, opened, runs]

theorem sessionTimerSecond_runs_gives {s : State} {ch : Fin 32} (awake : s.blk.awake = true)
    (opened : (s.blk.chan ch.val).openSession = true) (runs : 1 < s.blk.nat (chKey Ob.sessionTimer ch.val)) :
    GivesBlock (.sessionTimerSecond ch) s fun b =>
      b.get (chKey Ob.sessionTimer ch.val) = (s.blk.nat (chKey Ob.sessionTimer ch.val) - 1 : Nat) ∧
      (b.chan ch.val).state = (s.blk.chan ch.val).state := by
  refine ⟨(sessionTimerSecond ch.val s.blk).noteEdges [], rfl, ?_⟩
  rw [sessionTimerSecond_of_open awake opened (by omega), if_neg (by omega)]
  exact ⟨(Block.noteEdges_get _ _ _).trans (Block.get_put_self _ _ _), Block.noteEdges_keeps GovCh.state _ [] _⟩

theorem sessionTimerSecond_ends_gives {s : State} {ch : Fin 32} (awake : s.blk.awake = true)
    (opened : (s.blk.chan ch.val).openSession = true) (last : s.blk.nat (chKey Ob.sessionTimer ch.val) = 1) :
    GivesBlock (.sessionTimerSecond ch) s fun b => b.get (chKey Ob.sessionTimer ch.val) = 0 ∧ (b.chan ch.val).state = 4 := by
  have present : ch.val < s.blk.gov.ch.length := Block.present_of_chan fun idle => by simp [idle, GovCh.idle, GovCh.openSession] at opened
  refine ⟨(sessionTimerSecond ch.val s.blk).noteEdges [], rfl, ?_⟩
  rw [sessionTimerSecond_of_open awake opened (by omega), if_pos last, last]
  exact ⟨(Block.noteEdges_get _ _ _).trans (Block.get_put_self _ _ _),
    (Block.noteEdges_keeps GovCh.state _ [] _).trans (Block.endSession_state _ _ _ present)⟩

/-! #### Pulses of the throttle input (R220, R221) -/

theorem thrPulseEdge_valid_gives {s : State} {t period high : Nat} (listens : s.blk.pulseThrottle = true) (least : 5000 ≤ period)
    (most : period ≤ 1000000) (lost : s.blk.get Ob.throttleSourceState = 1) : GivesBlock (.thrPulseEdge t period high) s fun b =>
      b.get Ob.throttleSourceState = 2 ∧ b.gov.validRun = s.blk.gov.validRun + 1 ∧ b.gov.invalidRun = 0 ∧
      (t % t48, period, high) ∈ b.gov.pulses := by
  have listens' : (s.blk.at t).pulseThrottle = true := listens
  refine ⟨thrPulseEdge t period high s.blk, rfl, ?_⟩
  unfold thrPulseEdge
  extract_lets b1 g kept run b2
  have lost' : b2.get Ob.throttleSourceState = 1 := lost
  rw [if_neg (by simp [b1, listens']), if_pos (by simp [least, most]), if_pos lost']
  exact ⟨Block.get_put_self _ _ _, rfl, rfl, List.mem_append_right _ (List.mem_singleton.2 rfl)⟩

/-- The pulse input lost (R221): the source's state and the reason say so, and the applied throttle stays. -/
theorem Block.throttleLost_spec (b : Block) : b.throttleLost.get Ob.throttleSourceState = 1 ∧ b.throttleLost.bit Ob.governorFlags 4 = true ∧
    b.throttleLost.hasReason .throttleInput = true ∧ b.throttleLost.gov.theta = b.gov.theta := by
  refine ⟨?_, ?_, Block.hasReason_reason _ _ _, ?_⟩
  · rw [Block.throttleLost, Block.get_reason_other _ _ _ (by decide) (by decide), Block.get_putBit, if_neg (by decide), Block.get_put_self]
  · rw [Block.throttleLost, Block.bit, Block.nat_of_get (Block.get_reason_other _ _ _ (by decide) (by decide)), ← Block.bit,
      Block.bit_putBit_self]
  · rw [Block.throttleLost, Block.reason_gov]
    rfl

theorem thrPulseEdge_invalid_gives {s : State} {t period high : Nat} (listens : s.blk.pulseThrottle = true)
    (outside : period < 5000 ∨ 1000000 < period) (third : 2 ≤ s.blk.gov.invalidRun) : GivesBlock (.thrPulseEdge t period high) s fun b =>
      b.get Ob.throttleSourceState = 1 ∧ b.hasReason .throttleInput = true ∧ b.gov.theta = s.blk.gov.theta := by
  have listens' : (s.blk.at t).pulseThrottle = true := listens
  refine ⟨thrPulseEdge t period high s.blk, rfl, ?_⟩
  have third' : 3 ≤ (s.blk.at t).gov.invalidRun + 1 := Nat.succ_le_succ third
  unfold thrPulseEdge
  extract_lets b1 _ _ _ _ n b2
  rw [if_neg (by simp [b1, listens']), if_neg (by simp only [Bool.and_eq_true, decide_eq_true_eq]; omega), if_pos third']
  obtain ⟨state, _, reason, theta⟩ := b2.throttleLost_spec
  exact ⟨state, reason, theta⟩

theorem throttleInputLost_gives {s : State} (listens : s.blk.pulseThrottle = true) : GivesBlock .throttleInputLost s fun b =>
    b.get Ob.throttleSourceState = 1 ∧ b.bit Ob.governorFlags 4 = true ∧ b.hasReason .throttleInput = true := by
  refine ⟨_, rfl, ?_⟩
  rw [throttleInputLost, if_pos listens]
  obtain ⟨state, flag, reason, _⟩ := s.blk.throttleLost_spec
  exact ⟨state, flag, reason⟩

end Sys2Proof.Machine

end

section
/-! ### What a tick does before the charge law (R187, R188, R208, R217, R226, R228, R246)

Pauses, slots, the meters' intervals, the windows' power and the confirmations: the meters' readings join the accumulators, and no switch starts to
conduct for balancing. -/

namespace Sys2Proof.Machine

/-- The governor but for its channels and the QUIET pause. -/
def Gov.rest (g : Gov) : Gov := { g with ch := [], quietWindow := false }

theorem Gov.throttle_of_rest {g h : Gov} (same : g.rest = h.rest) : g.theta = h.theta ∧ g.thetaIn = h.thetaIn :=
  ⟨(congrArg Gov.theta same :), (congrArg Gov.thetaIn same :)⟩

theorem Gov.quietCapture_of_rest {g h : Gov} (same : g.rest = h.rest) : g.quietCapture = h.quietCapture := (congrArg Gov.quietCapture same :)

/-- A channel as it is handed to the charge law: q has joined its accumulator, its session stands, and its switch has not been taken for balancing. -/
structure GovCh.Handed (q : Int) (c d : GovCh) : Prop where
  acc : d.acc = c.acc + q
  qref : d.qref = c.qref
  qmeas : d.qmeas = c.qmeas
  removed : d.removed = c.removed
  state : d.state = c.state
  disabled : d.disabled = c.disabled
  conducts : d.on = true → d.owner = .balancing → c.on = true ∧ c.owner = .balancing

theorem GovCh.Handed.refl (c : GovCh) : c.Handed 0 c := ⟨(Int.add_zero _).symm, rfl, rfl, rfl, rfl, rfl, fun on owner => ⟨on, owner⟩⟩

theorem GovCh.Handed.trans {p q : Int} {c d e : GovCh} (h : c.Handed p d) (g : d.Handed q e) : c.Handed (p + q) e where
  acc := by rw [g.acc, h.acc, Int.add_assoc]
  qref := g.qref.trans h.qref
  qmeas := g.qmeas.trans h.qmeas
  removed := g.removed.trans h.removed
  state := g.state.trans h.state
  disabled := g.disabled.trans h.disabled
  conducts := fun on owner => h.conducts (g.conducts on owner).1 (g.conducts on owner).2

/-- A channel whose switch goes off, whoever holds it then. -/
theorem GovCh.Handed.dark (c : GovCh) : c.Handed 0 c.dark := ⟨(Int.add_zero _).symm, rfl, rfl, rfl, rfl, rfl, fun on => by cases on⟩

theorem GovCh.Handed.off (c : GovCh) : c.Handed 0 c.off := ⟨(Int.add_zero _).symm, rfl, rfl, rfl, rfl, rfl, fun on => by cases on⟩

/-- A channel that a diagnostic slot takes. -/
theorem GovCh.Handed.taken (c : GovCh) : c.Handed 0 { c.dark with owner := .diagnostic } :=
  ⟨(Int.add_zero _).symm, rfl, rfl, rfl, rfl, rfl, fun on => by cases on⟩

/-- The block from a to b has been prepared for the charge law: gain has joined the accumulators, and all that the law reads besides stands. -/
structure Block.Prepared (gain : Nat → Int) (a b : Block) : Prop where
  power : b.power = a.power
  diag : b.diag = a.diag
  tb : b.tb = a.tb
  dict : b.dict = a.dict
  rest : b.gov.rest = a.gov.rest
  length : b.gov.ch.length = a.gov.ch.length
  chans : ∀ i, (a.chan i).Handed (gain i) (b.chan i)

section
variable {gain : Nat → Int} {a b : Block}

theorem Block.Prepared.refl (b : Block) : b.Prepared (fun _ => 0) b := ⟨rfl, rfl, rfl, rfl, rfl, rfl, fun i => .refl (b.chan i)⟩

/-! #### The parts of the package, and the channels -/

theorem Block.Prepared.withLanes (h : a.Prepared gain b) {v} : a.Prepared gain (b.withLanes v) :=
  ⟨h.power, h.diag, h.tb, h.dict, h.rest, h.length, h.chans⟩

theorem Block.Prepared.withImp (h : a.Prepared gain b) {v} : a.Prepared gain (b.withImp v) :=
  ⟨h.power, h.diag, h.tb, h.dict, h.rest, h.length, h.chans⟩

theorem Block.Prepared.onWindows (h : a.Prepared gain b) {f} : a.Prepared gain (b.onWindows f) :=
  ⟨h.power, h.diag, h.tb, h.dict, h.rest, h.length, h.chans⟩

theorem Block.Prepared.ite {c : Prop} [Decidable c] {x y : Block} (hx : a.Prepared gain x) (hy : a.Prepared gain y) :
    a.Prepared gain (if c then x else y) := by
  split
  · exact hx
  · exact hy

theorem Block.Prepared.foldl {α : Type} {f : Block → α → Block} (hf : ∀ b x, a.Prepared gain b → a.Prepared gain (f b x)) {l : List α}
    (h : a.Prepared gain b) : a.Prepared gain (l.foldl f b) :=
  List.foldlRecOn (motive := fun c : Block => a.Prepared gain c) _ _ h fun c hc x _ => hf c x hc

/-- A channel rewritten, which takes q. -/
theorem Block.Prepared.take (h : a.Prepared gain b) {i : Nat} {f : GovCh → GovCh} {q : Int} (hf : ∀ c : GovCh, c.Handed q (f c)) :
    a.Prepared (fun j => gain j + if i = j ∧ j < a.gov.ch.length then q else 0) (b.editCh i f) where
  power := h.power
  diag := h.diag
  tb := h.tb
  dict := h.dict
  rest := h.rest
  length := (b.editCh_length i f).trans h.length
  chans := fun j => by
    rw [Block.chan_editCh, h.length]
    split
    · exact (h.chans j).trans (hf _)
    · exact (h.chans j).trans (.refl _)

theorem Block.Prepared.edit (h : a.Prepared gain b) {i : Nat} {f : GovCh → GovCh} (hf : ∀ c : GovCh, c.Handed 0 (f c)) :
    a.Prepared gain (b.editCh i f) := by
  simpa using h.take hf (i := i)

theorem Block.Prepared.releaseSlot (h : a.Prepared gain b) : a.Prepared gain b.releaseSlot where
  power := h.power
  diag := h.diag
  tb := h.tb
  dict := h.dict
  rest := h.rest
  length := (List.length_map _).trans h.length
  chans := fun i => by
    have released : (b.chan i).Handed 0 (b.releaseSlot.chan i) := by
      simp only [Block.chan, Block.releaseSlot, Block.withGov_gov, List.getElem?_map]
      cases b.gov.ch[i]? with
      | none => exact .refl _
      | some c =>
        simp only [Option.map_some, Option.getD_some]
        split
        · exact .off c
        · exact .refl c
    simpa using (h.chans i).trans released

/-! #### Edges, pauses and slots -/

theorem Block.Prepared.noteEdge (h : a.Prepared gain b) {i x} : a.Prepared gain (b.noteEdge i x) := by
  unfold Block.noteEdge
  extract_lets c e _ b1 _ b2
  have h1 : a.Prepared gain b1 := h.withLanes
  have h2 : a.Prepared gain b2 := h1.withImp
  exact .ite h (h2.edit fun c => ⟨(Int.add_zero _).symm, rfl, rfl, rfl, rfl, rfl, fun on owner => ⟨on, owner⟩⟩)

theorem Block.Prepared.beginPause (h : a.Prepared gain b) : a.Prepared gain b.beginPause :=
  .foldl (fun _ _ h => .noteEdge (.ite (h.edit .dark) h)) (.ite h.releaseSlot.withLanes h)

theorem Block.Prepared.followPause (h : a.Prepared gain b) : a.Prepared gain b.followPause := by
  unfold Block.followPause
  extract_lets pause b1
  have h1 : a.Prepared gain b1 := .ite h.beginPause h
  exact ⟨h1.power, h1.diag, h1.tb, h1.dict, h1.rest, h1.length, h1.chans⟩

/-- A switch turned on for a diagnostic slot does not conduct for balancing. -/
theorem Block.Prepared.turnOn (h : a.Prepared gain b) {i} : a.Prepared gain (b.turnOn i .diagnostic) := by
  refine h.edit fun c => ?_
  unfold GovCh.onFor
  split_ifs
  · exact ⟨(Int.add_zero _).symm, rfl, rfl, rfl, rfl, rfl, fun _ owner => by cases owner⟩
  · exact ⟨(Int.add_zero _).symm, rfl, rfl, rfl, rfl, rfl, fun _ owner => by cases owner⟩
  · exact ⟨(Int.add_zero _).symm, rfl, rfl, rfl, rfl, rfl, fun _ owner => by cases owner⟩

theorem Block.Prepared.loseExcited (h : a.Prepared gain b) {near} : a.Prepared gain (b.loseExcited near) := by
  unfold Block.loseExcited
  split
  · exact h
  · refine .withImp (.foldl (fun b i h => h.edit fun c => ?_) h)
    split
    · exact .off c
    · exact .refl c

theorem Block.Prepared.holdSlot (h : a.Prepared gain b) {ch} : a.Prepared gain (b.holdSlot ch) :=
  .foldl (fun _ _ h => h.edit .taken) h.loseExcited

theorem Block.Prepared.followSlot (h : a.Prepared gain b) : a.Prepared gain b.followSlot := by
  unfold Block.followSlot
  split
  · exact h
  · extract_lets d c b1
    have h1 : a.Prepared gain b1 := .ite (h.edit .dark).noteEdge h
    exact .ite h (.ite h1.releaseSlot (.ite (.ite (h.edit .dark).noteEdge h) (.ite h.turnOn.noteEdge h)))

theorem Block.Prepared.followConfirm (h : a.Prepared gain b) : a.Prepared gain b.followConfirm := by
  unfold Block.followConfirm
  extract_lets _ b1 pin
  have h1 : a.Prepared gain b1 := by
    unfold b1
    split
    · exact .ite h.releaseSlot.withLanes h
    · exact h
  refine .ite h1 ?_
  split
  · exact h1
  · exact .ite h1 (.ite h1.holdSlot.withLanes.turnOn h1.holdSlot.withLanes)

/-! #### The meters -/

theorem Block.Prepared.feedStretches (h : a.Prepared gain b) {meter} : a.Prepared gain (b.feedStretches meter) := h.withImp.withLanes
theorem Block.Prepared.meterPower (h : a.Prepared gain b) : a.Prepared gain b.meterPower := h.onWindows

theorem Block.Prepared.meterInterval (h : a.Prepared gain b) {i reading : Nat} :
    a.Prepared (fun j => gain j + if i = j ∧ j < a.gov.ch.length then (reading : Int) else 0) (b.meterInterval i reading) := by
  unfold Block.meterInterval
  extract_lets c x full near settled still dark ends low stray v b1
  have h1 : a.Prepared gain b1 := .ite h.onWindows h
  exact h1.take fun c => ⟨rfl, rfl, rfl, rfl, rfl, rfl, fun on owner => ⟨on, owner⟩⟩

/-- What a list of channels takes from the meters. -/
def metered (n : Nat) (reading : Nat → Nat) (l : List Nat) (j : Nat) : Int := if j ∈ l ∧ j < n then reading j else 0

theorem metered_of_cell {n i : Nat} {reading : Nat → Nat} {l : List Nat} (mem : i ∈ l) (present : i < n) : metered n reading l i = reading i :=
  if_pos ⟨mem, present⟩

/-- The meters of a list of channels, each by its reading (R208). -/
theorem Block.Prepared.meters {reading : Nat → Nat} {f : Block → Nat → Block}
    (turn : ∀ gain b i, a.Prepared gain b →
      a.Prepared (fun j => gain j + if i = j ∧ j < a.gov.ch.length then (reading i : Int) else 0) (f b i)) :
    ∀ (l : List Nat), l.Nodup → ∀ (gain : Nat → Int) (b : Block), a.Prepared gain b →
      a.Prepared (fun j => gain j + metered a.gov.ch.length reading l j) (l.foldl f b)
  | [], _, gain, b, h => by simpa [metered] using h
  | i :: t, nodup, gain, b, h => by
    obtain ⟨fresh, nodup⟩ := List.nodup_cons.1 nodup
    have rest := Block.Prepared.meters turn t nodup _ _ (turn gain b i h)
    have sum : (fun j => (gain j + if i = j ∧ j < a.gov.ch.length then (reading i : Int) else 0) + metered a.gov.ch.length reading t j) =
        fun j => gain j + metered a.gov.ch.length reading (i :: t) j := by
      funext j
      by_cases same : i = j
      · subst same
        simp [metered, fresh]
      · simp [metered, same, Ne.symm same]
    rw [sum] at rest
    exact rest

theorem Block.Prepared.meterOnly (h : a.Prepared gain b) {i reading : Nat} :
    a.Prepared (fun j => gain j + if i = j ∧ j < a.gov.ch.length then (reading : Int) else 0) (b.meterOnly i reading) :=
  h.take fun _ => ⟨rfl, rfl, rfl, rfl, rfl, rfl, fun on owner => ⟨on, owner⟩⟩

end

/-- The block of a tick as the charge law finds it. -/
def Block.prepared (t : Nat) (meter : List Nat) (b : Block) : Block :=
  let c := (b.at t).followPause.followSlot.feedStretches meter
  ((List.range c.cells).foldl (fun b i => b.meterInterval i ((meter[i]?).getD 0)) c).meterPower.followConfirm

theorem Block.prepared_prepared (b : Block) (t : Nat) (meter : List Nat) :
    (b.at t).Prepared (metered b.gov.ch.length (fun i => (meter[i]?).getD 0) (List.range b.cells)) (b.prepared t meter) := by
  unfold Block.prepared
  extract_lets c
  have start : (b.at t).Prepared (fun _ => 0) c := (Block.Prepared.refl _).followPause.followSlot.feedStretches
  have cells : c.cells = b.cells := by rw [Block.cells, Block.nat_of_get (Block.get_of_dict start.dict _), Block.at_nat, ← Block.cells]
  have read := Block.Prepared.meters (reading := fun i => (meter[i]?).getD 0) (fun _ _ _ h => h.meterInterval) (List.range b.cells)
    List.nodup_range _ _ start
  simp only [Int.zero_add] at read
  rw [cells]
  exact read.meterPower.followConfirm

theorem Block.prepared_engineRuns (b : Block) (t : Nat) (meter : List Nat) (k : Nat) :
    (b.prepared t meter).engineRuns k = b.engineRuns k := by
  rw [Block.engineRuns, (b.prepared_prepared t meter).diag, Block.engineRuns, Block.at_diag]

section
variable {t : Nat} {timing : TickTiming} {meter delays : List Nat} {b : Block}

/-- The law of a timely tick, with the overruns before it over (R225). -/
def Block.timelyLaw (b : Block) : Block := (b.tickLaw.withGov { b.tickLaw.gov with overruns := 0 }).overrunGone

/-- A skipped tick of an engine that runs (R225). -/
theorem governorTick_skipped (measuring : b.measuring = true) (cells : b.noCells = false) (runs : b.engineRuns 5 = true) :
    governorTick t .skipped meter delays b = (b.prepared t meter).overrun.noteEdges delays := by
  unfold governorTick
  extract_lets b1 b2 b3 _ b4
  rw [if_neg (by simp [b1, Block.awake_of_measuring measuring, cells]), if_neg (by simp [b1, measuring])]
  have engine : b3.engineRuns 5 = true := (b.prepared_engineRuns t meter 5).trans runs
  have law : b4 = (b.prepared t meter).overrun := by
    unfold b4
    rw [if_pos engine]
    exact if_pos engine
  rw [law]

/-- A tick of an engine that is stopped. -/
theorem governorTick_stopped (measuring : b.measuring = true) (cells : b.noCells = false) (stopped : b.engineRuns 5 = false) :
    governorTick t timing meter delays b = (b.prepared t meter).noteEdges delays := by
  unfold governorTick
  extract_lets b1 b2 b3 _ b4
  rw [if_neg (by simp [b1, Block.awake_of_measuring measuring, cells]), if_neg (by simp [b1, measuring])]
  have engine : ¬b3.engineRuns 5 = true := Bool.eq_false_iff.1 ((b.prepared_engineRuns t meter 5).trans stopped)
  have law : b4 = b.prepared t meter := by
    unfold b4
    rw [if_neg engine]
    exact if_neg engine
  rw [law]

/-- A timely tick of an engine that runs. -/
theorem governorTick_timely (measuring : b.measuring = true) (cells : b.noCells = false) (runs : b.engineRuns 5 = true) :
    governorTick t .onTime meter delays b = (b.prepared t meter).timelyLaw.noteEdges delays := by
  unfold governorTick
  extract_lets b1 b2 b3 _ b4
  rw [if_neg (by simp [b1, Block.awake_of_measuring measuring, cells]), if_neg (by simp [b1, measuring])]
  have engine : b3.engineRuns 5 = true := (b.prepared_engineRuns t meter 5).trans runs
  have law : b4 = (b.prepared t meter).timelyLaw := by
    have prepared : b.prepared t meter = b3 := rfl
    unfold b4
    rw [if_pos engine, prepared]
    clear_value b3
    rfl
  rw [law]

end

end Sys2Proof.Machine

end

section
/-! ### What a tick does after the charge law (R149, R187, R190, R225, R246, R255)

Edges are noted, the engines take the blocks that waited for the meters, and a voltage step is looked for: the governor and its objects stand, but
for the note that edges have been seen. -/

namespace Sys2Proof.Machine

/-- From a to b the governor and its objects, 0x3000 to 0x30FF, stand. -/
structure Block.Spares (a b : Block) : Prop where
  rest : b.gov.rest = a.gov.rest
  quietWindow : b.gov.quietWindow = a.gov.quietWindow
  length : b.gov.ch.length = a.gov.ch.length
  chans : ∀ i, (b.chan i).unseen = (a.chan i).unseen
  objects : ∀ k, 0x300000 ≤ k → k < 0x310000 → b.get k = a.get k

section
variable {a b : Block}

theorem Block.Spares.refl (b : Block) : b.Spares b := ⟨rfl, rfl, rfl, fun _ => rfl, fun _ _ _ => rfl⟩

theorem Block.Spares.ite {c : Prop} [Decidable c] {x y : Block} (hx : a.Spares x) (hy : a.Spares y) : a.Spares (if c then x else y) := by
  split
  · exact hx
  · exact hy

theorem Block.Spares.foldl {α : Type} {f : Block → α → Block} (hf : ∀ b x, a.Spares b → a.Spares (f b x)) {l : List α} (h : a.Spares b) :
    a.Spares (l.foldl f b) :=
  List.foldlRecOn (motive := fun c : Block => a.Spares c) _ _ h fun c hc x _ => hf c x hc

/-- A step that leaves the governor alone, and its objects. -/
theorem Block.Spares.of_gov {c : Block} (h : a.Spares b) (gov : c.gov = b.gov)
    (objects : ∀ k, 0x300000 ≤ k → k < 0x310000 → c.get k = b.get k) : a.Spares c where
  rest := by rw [gov, h.rest]
  quietWindow := by rw [gov, h.quietWindow]
  length := by rw [gov, h.length]
  chans := fun i => by rw [Block.chan_of_gov gov, h.chans]
  objects := fun k lo hi => (objects k lo hi).trans (h.objects k lo hi)

/-! #### The parts of the package and its entries -/

theorem Block.Spares.withLanes (h : a.Spares b) {v} : a.Spares (b.withLanes v) := h.of_gov rfl fun _ _ _ => rfl
theorem Block.Spares.withImp (h : a.Spares b) {v} : a.Spares (b.withImp v) := h.of_gov rfl fun _ _ _ => rfl
theorem Block.Spares.withTb (h : a.Spares b) {v} : a.Spares (b.withTb v) := h.of_gov rfl fun _ _ _ => rfl
theorem Block.Spares.withFree (h : a.Spares b) {v} : a.Spares (b.withFree v) := h.of_gov rfl fun _ _ _ => rfl
theorem Block.Spares.onWindows (h : a.Spares b) {f} : a.Spares (b.onWindows f) := h.of_gov rfl fun _ _ _ => rfl
theorem Block.Spares.raise (h : a.Spares b) {s d} : a.Spares (b.raise s d) := h.of_gov rfl fun _ _ _ => rfl
theorem Block.Spares.noteSat (h : a.Spares b) {k hit} : a.Spares (b.noteSat k hit) := .ite (h.of_gov rfl fun _ _ _ => rfl) h

/-- An entry put that is none of the governor's. -/
theorem Block.Spares.put (h : a.Spares b) {k : Nat} {v : Int} (other : k < 0x300000 ∨ 0x310000 ≤ k) : a.Spares (b.put k v) :=
  h.of_gov rfl fun l lo hi => b.get_put_other v (by omega)

theorem Block.Spares.clearLive (h : a.Spares b) {s} : a.Spares (b.clearLive s) :=
  h.of_gov (b.clearLive_gov s) fun k _ hi => Block.get_clearLive_below b (Nat.le_trans (Nat.le_of_lt hi) (by decide))

/-! #### Edges -/

/-- A channel rewritten but for its session, switch and sums. -/
theorem Block.Spares.edit (h : a.Spares b) {i : Nat} {f : GovCh → GovCh} (hf : ∀ c : GovCh, (f c).unseen = c.unseen) :
    a.Spares (b.editCh i f) where
  rest := h.rest
  quietWindow := h.quietWindow
  length := (b.editCh_length i f).trans h.length
  chans := fun j => by
    rw [Block.chan_editCh]
    split
    · exact (hf _).trans (h.chans j)
    · exact h.chans j
  objects := h.objects

theorem Block.Spares.noteEdge (h : a.Spares b) {i x} : a.Spares (b.noteEdge i x) := by
  unfold Block.noteEdge
  extract_lets c e _ b1 _ b2
  have h1 : a.Spares b1 := h.withLanes
  have h2 : a.Spares b2 := h1.withImp
  exact .ite h (h2.edit fun _ => rfl)

theorem Block.Spares.noteEdges (h : a.Spares b) {delays} : a.Spares (b.noteEdges delays) := .foldl (fun _ _ h => h.noteEdge) h.withLanes

theorem Block.Spares.overrunGone (h : a.Spares b) : a.Spares b.overrunGone := by
  unfold Block.overrunGone
  split
  · exact .ite h.clearLive h
  · exact h

/-! #### Blocks that waited for the meters -/

theorem Block.Spares.keepForE6 (h : a.Spares b) {ch x} : a.Spares (b.keepForE6 ch x) := .ite h h.withImp

/-- The wires' objects, 0x2021 and 0x2023, of the pack's taps. -/
theorem Block.Spares.tapEstimate (h : a.Spares b) {k est} (tap : k < 64) : a.Spares (b.tapEstimate k est) :=
  .ite h (.put (.put h (.inl (by show 0x202100 + k + 1 < 0x300000; omega))) (.inl (by show 0x202300 + k + 1 < 0x300000; omega)))

theorem Block.Spares.learnEdge (h : a.Spares b) {c k e} (tap : k < 64) : a.Spares (b.learnEdge c k e) :=
  .ite h (.ite h (h.tapEstimate tap))

theorem Block.Spares.learnTaps (h : a.Spares b) {c} (cell : c < 32) : a.Spares (b.learnTaps c) :=
  .ite h (.foldl (fun _ _ h => .ite (h.learnEdge (by omega)) (.ite (h.learnEdge (by omega)) h)) h)

theorem Block.Spares.shortCheck (h : a.Spares b) {kind place bad} : a.Spares (b.shortCheck kind place bad) :=
  .ite (.ite h.withLanes h.withLanes.raise) (.ite (.ite h.withLanes.clearLive h.withLanes) h)

theorem Block.Spares.lowCheck (h : a.Spares b) {ch t uv} : a.Spares (b.lowCheck ch t uv) := by
  unfold Block.lowCheck
  split
  · split
    · exact h.withLanes
    · exact .ite h.shortCheck h
  · exact h.withLanes.shortCheck

theorem Block.Spares.takeEntry (h : a.Spares b) {ch e} (cell : ch < 32) : a.Spares (b.takeEntry ch e) := by
  unfold Block.takeEntry
  extract_lets n f x v term v' uv old lag _ b1 b2 fl b3 b4
  have h1 : a.Spares b1 := .noteSat h.withLanes
  have h4 : a.Spares b4 := (Block.Spares.learnTaps (.onWindows h1.keepForE6) cell)
  exact .ite (.ite h.onWindows h) (.ite h4.lowCheck h4)

theorem Block.Spares.setFifo (h : a.Spares b) {ch q} : a.Spares (b.setFifo ch q) := h.withLanes

theorem Block.Spares.takeFifo {ch : Nat} (cell : ch < 32) {l : List LaneEntry} {b : Block} (h : a.Spares b) : a.Spares (b.takeFifo ch l) := by
  induction l generalizing b with
  | nil => exact h.setFifo
  | cons e t ih => exact .ite (ih (h.takeEntry cell)) h.setFifo

theorem Block.Spares.drainFifos (h : a.Spares b) {engine : Nat} (lane : engine < 4) : a.Spares (b.drainFifos engine) :=
  List.foldlRecOn (motive := fun c : Block => a.Spares c) _ _ h fun _ hc i mem =>
    hc.takeFifo (by have := List.mem_range.1 mem; omega)

theorem Block.Spares.takeMetered (h : a.Spares b) : a.Spares b.takeMetered :=
  .ite h (List.foldlRecOn (motive := fun c : Block => a.Spares c) _ _ h fun _ hc _ mem => .ite (hc.drainFifos (List.mem_range.1 mem)) hc)

/-! #### E6 -/

theorem Block.Spares.trimE6 (h : a.Spares b) : a.Spares b.trimE6 := by
  unfold Block.trimE6
  extract_lets past young near _ b1
  have h1 : a.Spares b1 := h.withTb
  exact h1.withImp

theorem Block.Spares.judgeOutliers (h : a.Spares b) : a.Spares b.judgeOutliers := .ite h h.clearLive

theorem Block.Spares.outlierCheck (h : a.Spares b) {ch q x nodeMedian} : a.Spares (b.outlierCheck ch q x nodeMedian) := by
  unfold Block.outlierCheck
  extract_lets limit chain chainMedian judge n c d pop old others run lives _ b1
  have h1 : a.Spares b1 := h.withImp
  exact .ite (.ite h1.noteSat.raise h1) (h.withImp.judgeOutliers)

theorem Block.Spares.learnRs (h : a.Spares b) {i est} : a.Spares (b.learnRs i est) :=
  h.noteSat.put (.inr (by show 0x310000 ≤ 0x400500 + i + 1; omega))

theorem Block.Spares.useStep (h : a.Spares b) {c size} : a.Spares (b.useStep c size) :=
  .withFree (.foldl (fun _ _ h => h.outlierCheck) (.foldl (fun _ _ h => h.learnRs) h))

theorem Block.Spares.matchSteps (h : a.Spares b) : a.Spares b.matchSteps := by
  unfold Block.matchSteps
  split
  · exact h
  · refine .foldl (fun b x h => ?_) h
    split
    · exact .ite h h.withImp.useStep
    · exact h

theorem Block.Spares.seekStep (h : a.Spares b) : a.Spares b.seekStep := .ite h (.ite h h.withImp.matchSteps)

/-- All that follows the law of a tick. -/
theorem Block.Spares.afterLaw (h : a.Spares b) {delays} : a.Spares (b.noteEdges delays).takeMetered.trimE6.seekStep :=
  h.noteEdges.takeMetered.trimE6.seekStep

end

end Sys2Proof.Machine

end

section
/-! ### Ticks on which the charge law does not run (R208, R213, R225) -/

namespace Sys2Proof.Machine

/-- What the edges and the engines after the law leave of an outcome. -/
theorem Block.Spares.gov_fields {a b : Block} (h : a.Spares b) : b.gov.theta = a.gov.theta ∧ b.gov.thetaIn = a.gov.thetaIn ∧
    b.gov.overruns = a.gov.overruns ∧ b.gov.power = a.gov.power ∧ b.gov.quietCapture = a.gov.quietCapture :=
  ⟨(congrArg Gov.theta h.rest :), (congrArg Gov.thetaIn h.rest :), (congrArg Gov.overruns h.rest :), (congrArg Gov.power h.rest :),
    (congrArg Gov.quietCapture h.rest :)⟩

/-- The sums of a channel do not depend on whether its edge has been seen. -/
theorem Block.Spares.sums {a b : Block} (h : a.Spares b) (i : Nat) : (b.chan i).acc = (a.chan i).acc ∧ (b.chan i).qmeas = (a.chan i).qmeas ∧
    (b.chan i).removed = (a.chan i).removed ∧ (b.chan i).qref = (a.chan i).qref ∧ (b.chan i).state = (a.chan i).state ∧
    (b.chan i).disabled = (a.chan i).disabled ∧ (b.chan i).on = (a.chan i).on ∧ (b.chan i).owner = (a.chan i).owner := by
  have same := h.chans i
  exact ⟨(congrArg GovCh.acc same :), (congrArg GovCh.qmeas same :), (congrArg GovCh.removed same :), (congrArg GovCh.qref same :),
    (congrArg GovCh.state same :), (congrArg GovCh.disabled same :), (congrArg GovCh.on same :), (congrArg GovCh.owner same :)⟩

section
variable {s : State} {t : Nat} {timing : TickTiming} {meter delays : List Nat} {i : Nat}

/-- The sums of a cell's channel as the charge law finds them. -/
theorem Block.prepared_sums {b : Block} (cell : i < b.cells) (present : i < b.gov.ch.length) :
    ((b.prepared t meter).chan i).acc = (b.chan i).acc + ((meter[i]?).getD 0 : Nat) ∧
    ((b.prepared t meter).chan i).qmeas = (b.chan i).qmeas ∧ ((b.prepared t meter).chan i).removed = (b.chan i).removed := by
  have handed := (b.prepared_prepared t meter).chans i
  rw [metered_of_cell (List.mem_range.2 cell) present] at handed
  exact ⟨handed.acc, handed.qmeas, handed.removed⟩

/-- An overrunning tick counts, and leaves the channels alone (R225). -/
theorem Block.overrun_gov (b : Block) :
    b.overrun.gov = { b.gov with overruns := b.gov.overruns + 1, lastOverrun := some b.now } := by
  unfold Block.overrun
  extract_lets n b1
  split <;> rfl

theorem governorTick_skipped_gives (measuring : s.blk.measuring = true) (cells : s.blk.noCells = false) (runs : s.blk.engineRuns 5 = true)
    (cell : i < s.blk.cells) (present : i < s.blk.gov.ch.length) : GivesBlock (.governorTick t .skipped meter delays) s fun b =>
      (b.chan i).acc = (s.blk.chan i).acc + (meter[i]?).getD 0 ∧ (b.chan i).qmeas = (s.blk.chan i).qmeas ∧
      (b.chan i).removed = (s.blk.chan i).removed ∧ b.gov.overruns = s.blk.gov.overruns + 1 ∧ b.gov.theta = s.blk.gov.theta := by
  refine ⟨(governorTick t .skipped meter delays s.blk).takeMetered.trimE6.seekStep, rfl, ?_⟩
  rw [governorTick_skipped measuring cells runs]
  have after := (Block.Spares.refl (s.blk.prepared t meter).overrun).afterLaw (delays := delays)
  obtain ⟨acc, qmeas, removed, -⟩ := after.sums i
  obtain ⟨theta, -, overruns, -⟩ := after.gov_fields
  obtain ⟨acc', qmeas', removed'⟩ := Block.prepared_sums (t := t) (meter := meter) cell present
  have rest := (s.blk.prepared_prepared t meter).rest
  have chan : (s.blk.prepared t meter).overrun.chan i = (s.blk.prepared t meter).chan i := by
    rw [Block.chan, Block.overrun_gov, Block.chan]
  rw [chan] at acc qmeas removed
  rw [Block.overrun_gov] at theta overruns
  exact ⟨acc.trans acc', qmeas.trans qmeas', removed.trans removed', overruns.trans (congrArg (Gov.overruns · + 1) rest :),
    theta.trans (congrArg Gov.theta rest :)⟩

theorem governorTick_stopped_gives (measuring : s.blk.measuring = true) (cells : s.blk.noCells = false)
    (stopped : s.blk.engineRuns 5 = false) (cell : i < s.blk.cells) (present : i < s.blk.gov.ch.length) :
    GivesBlock (.governorTick t timing meter delays) s fun b =>
      (b.chan i).acc = (s.blk.chan i).acc + (meter[i]?).getD 0 ∧ (b.chan i).qmeas = (s.blk.chan i).qmeas ∧
      b.gov.overruns = s.blk.gov.overruns := by
  refine ⟨(governorTick t timing meter delays s.blk).takeMetered.trimE6.seekStep, rfl, ?_⟩
  rw [governorTick_stopped measuring cells stopped]
  have after := (Block.Spares.refl (s.blk.prepared t meter)).afterLaw (delays := delays)
  obtain ⟨acc, qmeas, -⟩ := after.sums i
  obtain ⟨-, -, overruns, -⟩ := after.gov_fields
  obtain ⟨acc', qmeas', -⟩ := Block.prepared_sums (t := t) (meter := meter) cell present
  exact ⟨acc.trans acc', qmeas.trans qmeas', overruns.trans (congrArg Gov.overruns (s.blk.prepared_prepared t meter).rest :)⟩

/-- In Standby a tick is the meters' alone (R208). -/
theorem governorTick_standby {b : Block} (standby : b.power.mode = .standby) (awake : b.awake = true) (cells : b.noCells = false) :
    governorTick t timing meter delays b = (List.range b.cells).foldl (fun b i => b.meterOnly i ((meter[i]?).getD 0)) (b.at t) := by
  unfold governorTick
  extract_lets b1
  rw [if_neg (by simp [b1, awake, cells]), if_pos (by simp [b1, Block.measuring, standby])]
  rfl

/-- In Standby neither the engines E0 to E3 nor E6 take anything. -/
theorem Block.afterMeters_standby {b : Block} (standby : b.power.mode = .standby) : b.takeMetered.trimE6.seekStep = b.trimE6 := by
  have lanes : b.takeMetered = b := if_pos (by simp [Block.measuring, standby])
  have e6 : b.trimE6.e6Works = false := by
    have mode : b.trimE6.power.mode = .standby := standby
    simp [Block.e6Works, Block.inFull, mode]
  rw [lanes, Block.seekStep, if_pos (by simp [e6])]

theorem governorTick_standby_gives (standby : s.blk.power.mode = .standby) (awake : s.blk.awake = true) (cells : s.blk.noCells = false)
    (cell : i < s.blk.cells) (present : i < s.blk.gov.ch.length) : GivesBlock (.governorTick t timing meter delays) s fun b =>
      (b.chan i).acc = (s.blk.chan i).acc + (meter[i]?).getD 0 ∧ (b.chan i).qmeas = (s.blk.chan i).qmeas ∧ b.dict = s.blk.dict := by
  refine ⟨(governorTick t timing meter delays s.blk).takeMetered.trimE6.seekStep, rfl, ?_⟩
  have read := Block.Prepared.meters (a := s.blk.at t) (reading := fun i => (meter[i]?).getD 0) (f := fun b i => b.meterOnly i ((meter[i]?).getD 0))
    (fun _ _ _ h => h.meterOnly) (List.range s.blk.cells) List.nodup_range _ _ (.refl _)
  simp only [Int.zero_add] at read
  rw [governorTick_standby standby awake cells, Block.afterMeters_standby ((congrArg Power.mode read.power).trans standby)]
  have handed := read.chans i
  rw [Block.at_gov, metered_of_cell (List.mem_range.2 cell) present] at handed
  exact ⟨handed.acc, handed.qmeas, read.dict⟩

end

end Sys2Proof.Machine

end

section
/-! ### The charge law of one channel (R207, R211, R213, R214, R218, R224) -/

namespace Sys2Proof.Machine

/-- The entries that the charge law of the channels l writes below the fault objects. -/
def lawWrites (l : List Nat) (k : Nat) : Prop :=
  k = Ob.governorFlags ∨ ∃ i ∈ l, k = chKey Ob.channelState i ∨ k = chKey Ob.sessionRemoved i ∨ k = chKey Ob.balanceRemoved i

/-- From a to b only the channels l have been worked on: their sums, sessions and switches, and the entries that show them. -/
structure Block.Worked (l : List Nat) (a b : Block) : Prop where
  power : b.power = a.power
  rest : b.gov.rest = a.gov.rest
  quietWindow : b.gov.quietWindow = a.gov.quietWindow
  length : b.gov.ch.length = a.gov.ch.length
  owners : ∀ i, (b.chan i).owner = (a.chan i).owner
  others : ∀ i, i ∉ l → b.chan i = a.chan i
  objects : ∀ k, k < 0x600000 ∨ k = liveKey 0x82 → ¬lawWrites l k → b.get k = a.get k

section
variable {l : List Nat} {a b : Block} {i : Nat}

theorem Block.Worked.refl (b : Block) : b.Worked l b := ⟨rfl, rfl, rfl, rfl, fun _ => rfl, fun _ _ => rfl, fun _ _ _ => rfl⟩

theorem Block.Worked.ite {c : Prop} [Decidable c] {x y : Block} (hx : a.Worked l x) (hy : a.Worked l y) : a.Worked l (if c then x else y) := by
  split
  · exact hx
  · exact hy

/-- A step that leaves power and the governor alone, and the entries of others. -/
theorem Block.Worked.of_gov {c : Block} (h : a.Worked l b) (power : c.power = b.power) (gov : c.gov = b.gov)
    (objects : ∀ k, k < 0x600000 ∨ k = liveKey 0x82 → ¬lawWrites l k → c.get k = b.get k) : a.Worked l c where
  power := power.trans h.power
  rest := by rw [gov, h.rest]
  quietWindow := by rw [gov, h.quietWindow]
  length := by rw [gov, h.length]
  owners := fun i => by rw [Block.chan_of_gov gov, h.owners]
  others := fun i out => by rw [Block.chan_of_gov gov, h.others i out]
  objects := fun k low free => (objects k low free).trans (h.objects k low free)

/-! #### The operations of the law -/

theorem Block.Worked.raise (h : a.Worked l b) {s d} : a.Worked l (b.raise s d) := h.of_gov rfl rfl fun _ _ _ => rfl

theorem Block.Worked.put (h : a.Worked l b) {k : Nat} {v : Int} (own : lawWrites l k) : a.Worked l (b.put k v) :=
  h.of_gov rfl rfl fun _ _ free => b.get_put_other v fun same => free (same ▸ own)

theorem Block.Worked.flag (h : a.Worked l b) {n on} : a.Worked l (b.putBit Ob.governorFlags n on) := h.put (.inl rfl)

theorem Block.Worked.mark (h : a.Worked l b) (mem : i ∈ l) {n on} : a.Worked l (b.putBit (chKey Ob.channelState i) n on) :=
  h.put (.inr ⟨i, mem, .inl rfl⟩)

theorem Block.Worked.reason (h : a.Worked l b) {r on} : a.Worked l (b.reason r on) :=
  h.of_gov (b.reason_power r on) (b.reason_gov r on) fun k low _ => b.get_reason_other r on (by
    show k ≠ 0x600601
    obtain low | rfl := low
    · omega
    · decide) (by
    show k ≠ 0x600602
    obtain low | rfl := low
    · omega
    · decide)

/-- 0x40 stands in another word of the live bits than 0x82. -/
theorem Block.Worked.clearPath (h : a.Worked l b) : a.Worked l (b.clearLive 0x40) :=
  h.of_gov (b.clearLive_power _) (b.clearLive_gov _) fun k low _ => by
    obtain low | rfl := low
    · exact Block.get_clearLive_below b (Nat.le_trans (Nat.le_of_lt low) (by decide))
    · exact b.get_clearLive_other 0x40 (k := liveKey 0x82) (by decide) (by decide) (by decide) (by decide) (by decide)

theorem Block.Worked.judgePath (h : a.Worked l b) : a.Worked l b.judgePath := .ite h.reason h.reason.clearPath

/-- A channel of the list rewritten, held by the same. -/
theorem Block.Worked.edit (h : a.Worked l b) (mem : i ∈ l) {f : GovCh → GovCh} (held : (f (b.chan i)).owner = (b.chan i).owner) :
    a.Worked l (b.editCh i f) where
  power := h.power
  rest := h.rest
  quietWindow := h.quietWindow
  length := (b.editCh_length i f).trans h.length
  owners := fun j => by
    rw [Block.chan_editCh]
    split
    · next here => rw [← here.1, held, h.owners]
    · exact h.owners j
  others := fun j out => by
    have other : j ≠ i := fun same => out (same ▸ mem)
    rw [Block.chan_editCh_other _ _ other, h.others j out]
  objects := h.objects

theorem Block.Worked.saturated (h : a.Worked l b) (mem : i ∈ l) : a.Worked l (b.saturated i) := .ite h.flag (h.flag.mark mem).raise

theorem Block.Worked.addCharge (h : a.Worked l b) (mem : i ∈ l) {q} : a.Worked l (b.addCharge i q) := by
  unfold Block.addCharge
  extract_lets c m r clipped b1
  have h1 : a.Worked l b1 := .put (.put (h.edit mem rfl) (.inr ⟨i, mem, .inr (.inl rfl)⟩)) (.inr ⟨i, mem, .inr (.inr rfl)⟩)
  exact .ite (h1.saturated mem) h1

theorem Block.Worked.pathLimit (h : a.Worked l b) (mem : i ∈ l) : a.Worked l (b.pathLimit i) :=
  .ite (.ite h (h.mark mem).judgePath) (.ite (h.mark mem).reason.raise h)

/-! #### The passes of one channel -/

/-- The accumulated charge joins the sums (R213). -/
def Block.settle (b : Block) (i : Nat) : Block :=
  if (b.chan i).acc = 0 then b else (b.editCh i fun c => { c with acc := 0 }).addCharge i (b.chan i).acc

/-- Q_ref of an open channel that is not frozen ramps up to its target (R213). -/
def Block.ramp (b : Block) (i : Nat) : Block :=
  if (b.chan i).openSession && !b.frozen i then
    let want := (b.chan i).qref + rampStep (b.nat (chKey Ob.balanceRate i)) b.gov.theta
    let q := min (b.targetUc i * 65536) (clampInt (-(2 ^ 47) * 65536) ((2 ^ 47 - 1) * 65536) want)
    b.editCh i fun c => { c with qref := q, state := if q = b.targetUc i * 65536 then 2 else c.state }
  else b

/-- An error beyond 32 bits saturates (R224). -/
def Block.judgeError (b : Block) (i : Nat) : Block := if (b.chan i).error32 ≠ (b.chan i).error then b.saturated i else b

/-- A session whose error is gone at its target has reached it (R211). -/
def Block.reach (b : Block) (i : Nat) : Block :=
  if (b.chan i).openSession && (b.chan i).state = 2 && decide ((b.chan i).error32 ≤ 0) then b.editCh i fun c => { c with state := 3 } else b

/-- A switch that conducts for balancing and is not wanted goes off (R214). -/
def Block.release (b : Block) (i : Nat) : Block :=
  if (b.chan i).on && (b.chan i).owner == .balancing && !b.wants i then b.editCh i GovCh.off else b

theorem Block.saturated_chan (b : Block) (i j : Nat) : (b.saturated i).chan j = b.chan j := by
  unfold Block.saturated
  extract_lets b1
  split <;> rfl

theorem Block.judgeError_chan (b : Block) (i j : Nat) : (b.judgeError i).chan j = b.chan j := by
  unfold Block.judgeError
  split
  · exact b.saturated_chan i j
  · rfl

theorem Block.updatePass_eq (b : Block) (i : Nat) :
    b.updatePass i = (((((b.settle i).ramp i).judgeError i).reach i).pathLimit i).release i := by
  unfold Block.updatePass
  extract_lets q b1 c1 t want q' b2 c2 b3 b4 b5
  have settled : b1 = b.settle i := rfl
  have ramped : b2 = b1.ramp i := rfl
  have judged : b3 = b2.judgeError i := rfl
  have reached : b4 = b3.reach i := by
    have same : b3.chan i = c2 := judged ▸ b2.judgeError_chan i i
    rw [Block.reach, same]
  have limited : b5 = b4.pathLimit i := rfl
  rw [← settled, ← ramped, ← judged, ← reached, ← limited, Block.release]

theorem Block.Worked.settle (h : a.Worked l b) (mem : i ∈ l) : a.Worked l (b.settle i) := by
  have h1 : a.Worked l (b.editCh i fun c => { c with acc := 0 }) := h.edit mem rfl
  exact .ite h (h1.addCharge mem)

theorem Block.Worked.ramp (h : a.Worked l b) (mem : i ∈ l) : a.Worked l (b.ramp i) := .ite (h.edit mem rfl) h
theorem Block.Worked.judgeError (h : a.Worked l b) (mem : i ∈ l) : a.Worked l (b.judgeError i) := .ite (h.saturated mem) h
theorem Block.Worked.reach (h : a.Worked l b) (mem : i ∈ l) : a.Worked l (b.reach i) := .ite (h.edit mem rfl) h

theorem Block.Worked.release (h : a.Worked l b) (mem : i ∈ l) : a.Worked l (b.release i) := by
  unfold Block.release
  split
  · next off =>
    simp only [Bool.and_eq_true, beq_iff_eq] at off
    exact h.edit mem off.1.2.symm
  · exact h

theorem Block.Worked.updatePass (h : a.Worked l b) (mem : i ∈ l) : a.Worked l (b.updatePass i) :=
  b.updatePass_eq i ▸ (((((h.settle mem).ramp mem).judgeError mem).reach mem).pathLimit mem).release mem

theorem Block.Worked.updatePasses (a : Block) (l : List Nat) : a.Worked l (l.foldl (fun b i => b.updatePass i) a) :=
  List.foldlRecOn (motive := fun c : Block => a.Worked l c) _ _ (.refl a) fun _ h _ mem => h.updatePass mem

/-! #### What a worked channel reads of the others -/

/-- None of GovernorFlags and the channels' ChannelState, SessionRemoved and BalanceRemoved. -/
abbrev OffLaw (k : Nat) : Prop :=
  k ≠ 0x300B00 ∧ ¬(0x300301 ≤ k ∧ k ≤ 0x300320) ∧ ¬(0x300E01 ≤ k ∧ k ≤ 0x300E20) ∧ ¬(0x301201 ≤ k ∧ k ≤ 0x301220)

theorem not_lawWrites {l : List Nat} {k : Nat} (cells : ∀ i ∈ l, i < 32)
    (free : OffLaw k) : ¬lawWrites l k := by
  simp only [lawWrites, Ob.governorFlags, chKey, Ob.channelState, Ob.sessionRemoved, Ob.balanceRemoved]
  rintro (here | ⟨i, mem, here⟩)
  · exact free.1 here
  · have := cells i mem
    omega

theorem Block.frozen_congr (power : b.power = a.power) (hold : b.get Ob.powerStateSafeHold = a.get Ob.powerStateSafeHold)
    (level : b.get Ob.throttleLevelLevel = a.get Ob.throttleLevelLevel) (live : b.get (liveKey 0x82) = a.get (liveKey 0x82))
    (enable : b.get Ob.balanceEnable = a.get Ob.balanceEnable) (i : Nat) : b.frozen i = a.frozen i := by
  simp only [Block.frozen, Block.frozenAll, Block.safeHold, Block.live, Block.bit, Block.measuring, Block.nat_of_get hold, level,
    Block.nat_of_get live, Block.nat_of_get enable, power]

theorem Block.Worked.frozen (h : a.Worked l b) (cells : ∀ i ∈ l, i < 32) (i : Nat) : b.frozen i = a.frozen i := by
  have same : ∀ {k}, k < 0x600000 ∨ k = liveKey 0x82 → OffLaw k → b.get k = a.get k :=
    fun low free => h.objects _ low (not_lawWrites cells free)
  exact Block.frozen_congr h.power (same (by decide) (by decide)) (same (by decide) (by decide)) (same (by decide) (by decide))
    (same (by decide) (by decide)) i

theorem Block.Worked.heldNear (h : a.Worked l b) (i : Nat) : b.heldNear i = a.heldNear i := by
  simp only [Block.heldNear, Block.held, h.owners]

end

end Sys2Proof.Machine

end

section
/-! #### What the passes leave in the channel -/

namespace Sys2Proof.Machine

variable {b : Block} {i : Nat}

/-- The sums of a channel after its accumulated charge has joined them (R213, R224). -/
def GovCh.joined (c : GovCh) : GovCh :=
  { c with
    acc := 0
    qmeas := if c.acc = 0 then c.qmeas else clampInt (-sat48) (sat48 - 100) (c.qmeas + c.acc)
    removed := if c.acc = 0 then c.removed else clampInt (-sat48) (sat48 - 100) (c.removed + c.acc) }

theorem Block.saturated_get (b : Block) (i : Nat) {k : Nat} (flags : k ≠ Ob.governorFlags) (mark : k ≠ chKey Ob.channelState i) :
    (b.saturated i).get k = b.get k := by
  unfold Block.saturated
  extract_lets b1
  have h1 : b1.get k = b.get k := b.get_put_other _ flags
  split
  · exact h1
  · exact (b1.get_put_other _ mark).trans h1

theorem Block.addCharge_spec (present : i < b.gov.ch.length) (cell : i < 32) (q : Int) :
    (b.addCharge i q).chan i = { b.chan i with
      qmeas := clampInt (-sat48) (sat48 - 100) ((b.chan i).qmeas + q)
      removed := clampInt (-sat48) (sat48 - 100) ((b.chan i).removed + q) } ∧
    (b.addCharge i q).get (chKey Ob.balanceRemoved i) = clampInt (-sat48) (sat48 - 100) ((b.chan i).removed + q) / 100 := by
  unfold Block.addCharge
  extract_lets c m r clipped b1
  have h1 : b1.chan i = { b.chan i with qmeas := m, removed := r } := Block.chan_editCh_self _ present
  have shown : b1.get (chKey Ob.balanceRemoved i) = r / 100 := by
    refine (Block.get_put_self _ _ _).trans ?_
    rw [Block.chan_editCh_self _ present]
  split
  · rw [Block.saturated_chan, Block.saturated_get _ _ (by show 0x300300 + i + 1 ≠ 0x300B00; omega)
      (by show 0x300300 + i + 1 ≠ 0x300E00 + i + 1; omega)]
    exact ⟨h1, shown⟩
  · exact ⟨h1, shown⟩

theorem Block.settle_spec (present : i < b.gov.ch.length) (cell : i < 32) : (b.settle i).chan i = (b.chan i).joined ∧
    ((b.chan i).acc ≠ 0 → (b.settle i).get (chKey Ob.balanceRemoved i) = (b.chan i).joined.removed / 100) := by
  unfold Block.settle
  split
  · next none =>
    refine ⟨?_, fun some => absurd none some⟩
    simp only [GovCh.joined, none, ↓reduceIte]
    rw [← none]
  · next some =>
    have here := Block.chan_editCh_self (fun c => { c with acc := 0 }) present
    obtain ⟨chan, shown⟩ := Block.addCharge_spec (b := b.editCh i fun c => { c with acc := 0 }) (i := i)
      (by rwa [Block.editCh_length]) cell (b.chan i).acc
    rw [here] at chan shown
    refine ⟨chan.trans ?_, fun _ => shown.trans ?_⟩
    · simp only [GovCh.joined, some, ↓reduceIte]
    · simp only [GovCh.joined, some, ↓reduceIte]

theorem Block.pathLimit_chan (b : Block) (i j : Nat) : (b.pathLimit i).chan j = b.chan j := by
  unfold Block.pathLimit
  split_ifs
  · rfl
  · exact Block.judgePath_chan _ _
  · exact (Block.raise_chan _ _ _ _).trans (Block.reason_chan _ _ _ _)
  · rfl

/-- Judging 0x40 leaves the objects below the fault objects alone. -/
theorem Block.judgePath_get (b : Block) {k : Nat} (low : k < 0x600000) : b.judgePath.get k = b.get k := by
  unfold Block.judgePath
  extract_lets shows stands b1
  have h1 : b1.get k = b.get k :=
    b.get_reason_other _ _ (Nat.ne_of_lt (Nat.lt_of_lt_of_le low (by decide))) (Nat.ne_of_lt (Nat.lt_of_lt_of_le low (by decide)))
  split
  · exact h1
  · exact (Block.get_clearLive_below b1 (Nat.le_trans (Nat.le_of_lt low) (by decide))).trans h1

theorem Block.pathLimit_get (b : Block) (i : Nat) {k : Nat} (low : k < 0x600000) (mark : k ≠ chKey Ob.channelState i) :
    (b.pathLimit i).get k = b.get k := by
  unfold Block.pathLimit
  split_ifs
  · rfl
  · exact (Block.judgePath_get _ low).trans (b.get_put_other _ mark)
  · exact ((Block.get_reason_other _ _ _ (Nat.ne_of_lt (Nat.lt_of_lt_of_le low (by decide)))
      (Nat.ne_of_lt (Nat.lt_of_lt_of_le low (by decide)))).trans (b.get_put_other _ mark) :)
  · rfl

/-- An error within 32 bits is not positive exactly where the whole is not (R224). -/
theorem GovCh.error32_nonpos (c : GovCh) : c.error32 ≤ 0 ↔ c.error ≤ 0 := by
  unfold GovCh.error32 clampInt errorUc
  split_ifs <;> omega

/-- Q_ref that a timely tick ramps to (R213). -/
def Block.rampTo (b : Block) (i : Nat) : Int :=
  min (b.targetUc i * 65536) (clampInt (-(2 ^ 47) * 65536) ((2 ^ 47 - 1) * 65536)
    ((b.chan i).qref + rampStep (b.nat (chKey Ob.balanceRate i)) b.gov.theta))

theorem Block.ramp_chan (present : i < b.gov.ch.length) : (b.ramp i).chan i = if (b.chan i).openSession = true ∧ b.frozen i = false
    then { b.chan i with qref := b.rampTo i, state := if b.rampTo i = b.targetUc i * 65536 then 2 else (b.chan i).state }
    else b.chan i := by
  unfold Block.ramp
  simp only [Bool.and_eq_true, Bool.not_eq_true']
  split
  · exact Block.chan_editCh_self _ present
  · rfl

theorem Block.reach_chan (present : i < b.gov.ch.length) : (b.reach i).chan i =
    if (b.chan i).openSession = true ∧ (b.chan i).state = 2 ∧ (b.chan i).error ≤ 0 then { b.chan i with state := 3 } else b.chan i := by
  unfold Block.reach
  simp only [Bool.and_eq_true, decide_eq_true_eq, GovCh.error32_nonpos, and_assoc]
  split
  · exact Block.chan_editCh_self _ present
  · rfl

/-- The release of a switch turns nothing else of a channel, and what conducts for balancing afterwards is wanted. -/
theorem Block.release_spec (present : i < b.gov.ch.length) : ((b.release i).chan i = b.chan i ∨ (b.release i).chan i = (b.chan i).off) ∧
    (((b.release i).chan i).on = true → ((b.release i).chan i).owner = .balancing → (b.release i).wants i = true) := by
  unfold Block.release
  split
  · refine ⟨.inr (Block.chan_editCh_self _ present), fun on => ?_⟩
    rw [Block.chan_editCh_self _ present] at on
    cases on
  · next keeps =>
    refine ⟨.inl rfl, fun on owner => ?_⟩
    simpa [on, owner] using keeps

/-- A channel after its session has been worked on: the reference has ramped, and the state follows (R211, R213). -/
structure GovCh.WorkedFrom (target next : Int) (frozen : Bool) (c d : GovCh) : Prop where
  acc : d.acc = 0
  qmeas : d.qmeas = c.joined.qmeas
  removed : d.removed = c.joined.removed
  disabled : d.disabled = c.disabled
  qref : d.qref = if c.openSession = true ∧ frozen = false then next else c.qref
  state : d.state = if c.openSession = false then c.state
    else if frozen = false ∧ d.qref = target ∨ c.state = 2 then (if d.error ≤ 0 then 3 else 2) else 1
  conducts : d.on = true → c.on = true

/-- A channel whose reference ramps where its session is open and not frozen (R213). -/
def GovCh.ramped (target next : Int) (frozen : Bool) (c : GovCh) : GovCh :=
  if c.openSession = true ∧ frozen = false then { c with qref := next, state := if next = target then 2 else c.state } else c

/-- A channel that has reached its target where its error there is gone (R211). -/
def GovCh.reached (c : GovCh) : GovCh := if c.openSession = true ∧ c.state = 2 ∧ c.error ≤ 0 then { c with state := 3 } else c

theorem GovCh.joined_openSession (c : GovCh) : c.joined.openSession = c.openSession := rfl

theorem GovCh.openSession_iff (c : GovCh) : c.openSession = true ↔ (c.state = 1 ∨ c.state = 2) ∧ c.disabled = false := by
  simp [GovCh.openSession]

/-- An open session's state after its reference and its error have been judged. -/
theorem GovCh.reached_state {c : GovCh} (opened : (c.state = 1 ∨ c.state = 2) ∧ c.disabled = false) :
    c.reached.state = if c.state = 2 then (if c.error ≤ 0 then 3 else 2) else 1 := by
  have running : c.openSession = true := c.openSession_iff.2 opened
  unfold GovCh.reached
  by_cases full : c.state = 2
  · by_cases gone : c.error ≤ 0 <;> simp [running, full, gone]
  · simp [opened.1.resolve_right full]

theorem GovCh.reached_fields (c : GovCh) : c.reached.acc = c.acc ∧ c.reached.qmeas = c.qmeas ∧ c.reached.removed = c.removed ∧
    c.reached.disabled = c.disabled ∧ c.reached.qref = c.qref ∧ c.reached.on = c.on ∧ c.reached.error = c.error := by
  unfold GovCh.reached
  split
  · exact ⟨rfl, rfl, rfl, rfl, rfl, rfl, rfl⟩
  · exact ⟨rfl, rfl, rfl, rfl, rfl, rfl, rfl⟩

theorem GovCh.ramped_fields (target next : Int) (frozen : Bool) (c : GovCh) : (c.ramped target next frozen).acc = c.acc ∧
    (c.ramped target next frozen).qmeas = c.qmeas ∧ (c.ramped target next frozen).removed = c.removed ∧
    (c.ramped target next frozen).disabled = c.disabled ∧ (c.ramped target next frozen).on = c.on ∧
    (c.ramped target next frozen).qref = (if c.openSession = true ∧ frozen = false then next else c.qref) ∧
    (c.ramped target next frozen).state = if c.openSession = true ∧ frozen = false ∧ next = target then 2 else c.state := by
  unfold GovCh.ramped
  split
  · next ramps => exact ⟨rfl, rfl, rfl, rfl, rfl, rfl, by simp [ramps]⟩
  · next stays => exact ⟨rfl, rfl, rfl, rfl, rfl, rfl, (if_neg fun all => stays ⟨all.1, all.2.1⟩).symm⟩

/-- The passes in turn, whether or not the switch is released at the end. -/
theorem GovCh.workedFrom {target next : Int} {frozen : Bool} {c d : GovCh}
    (passed : d = (c.joined.ramped target next frozen).reached ∨ d = (c.joined.ramped target next frozen).reached.off) :
    c.WorkedFrom target next frozen d := by
  obtain ⟨acc, qmeas, removed, disabled, qref, on, error⟩ := (c.joined.ramped target next frozen).reached_fields
  obtain ⟨acc', qmeas', removed', disabled', on', qref', state'⟩ := c.joined.ramped_fields target next frozen
  have state : (c.joined.ramped target next frozen).reached.state = if c.openSession = false then c.state
      else if frozen = false ∧ (c.joined.ramped target next frozen).reached.qref = target ∨ c.state = 2
        then (if (c.joined.ramped target next frozen).reached.error ≤ 0 then 3 else 2) else 1 := by
    rw [qref, qref', error, GovCh.joined_openSession]
    by_cases opened : c.openSession = true
    · obtain ⟨running, enabled⟩ := c.openSession_iff.1 opened
      have after : (c.joined.ramped target next frozen).state = if frozen = false ∧ next = target then 2 else c.state := by
        rw [state', GovCh.joined_openSession]
        simp only [opened, true_and]
        rfl
      have full : (c.joined.ramped target next frozen).state = 2 ↔ frozen = false ∧ next = target ∨ c.state = 2 := by
        rw [after]
        split_ifs with goal <;> simp [goal]
      have open' : (c.joined.ramped target next frozen).state = 1 ∨ (c.joined.ramped target next frozen).state = 2 := by
        rw [after]
        split_ifs
        · exact .inr rfl
        · exact running
      have goal : frozen = false ∧ (if c.openSession = true ∧ frozen = false then next else c.joined.qref) = target ↔
          frozen = false ∧ next = target := and_congr_right fun ramps => by rw [if_pos ⟨opened, ramps⟩]
      rw [GovCh.reached_state ⟨open', disabled'.trans enabled⟩, if_neg (show ¬c.openSession = false by simp [opened])]
      simp only [full, goal]
    · have idle : c.joined.ramped target next frozen = c.joined := if_neg fun both => opened both.1
      have stays : c.joined.reached = c.joined := if_neg fun both => opened both.1
      rw [idle, stays, if_pos (Bool.eq_false_iff.2 opened)]
      rfl
  obtain rfl | rfl := passed
  · exact ⟨acc.trans acc', qmeas.trans qmeas', removed.trans removed', disabled.trans disabled', qref.trans qref', state,
      fun here => (on.trans on') ▸ here⟩
  · exact ⟨acc.trans acc', qmeas.trans qmeas', removed.trans removed', disabled.trans disabled', qref.trans qref', state,
      fun here => by cases here⟩

/-- After the settling the passes leave an entry alone that is neither a mark nor a flag. -/
theorem Block.updatePass_get (b : Block) (i : Nat) {k : Nat} (low : k < 0x600000) (flags : k ≠ Ob.governorFlags)
    (mark : k ≠ chKey Ob.channelState i) : (b.updatePass i).get k = (b.settle i).get k := by
  have ramped : ∀ c : Block, (c.ramp i).get k = c.get k := fun c => by
    unfold Block.ramp
    split <;> rfl
  have judged : ∀ c : Block, (c.judgeError i).get k = c.get k := fun c => by
    unfold Block.judgeError
    split
    · exact c.saturated_get i flags mark
    · rfl
  have reached : ∀ c : Block, (c.reach i).get k = c.get k := fun c => by
    unfold Block.reach
    split <;> rfl
  have released : ∀ c : Block, (c.release i).get k = c.get k := fun c => by
    unfold Block.release
    split <;> rfl
  rw [Block.updatePass_eq, released, Block.pathLimit_get _ _ low mark, reached, judged, ramped]

/-- The law of one channel (R213, R214): its session as its charge, its target and what freezes it say; what conducts for balancing afterwards is
wanted; and charge that has joined is shown. -/
theorem Block.updatePass_spec (present : i < b.gov.ch.length) (cell : i < 32) :
    (b.chan i).WorkedFrom (b.targetUc i * 65536) (b.rampTo i) (b.frozen i) ((b.updatePass i).chan i) ∧
    (((b.updatePass i).chan i).on = true → ((b.updatePass i).chan i).owner = .balancing → (b.updatePass i).wants i = true) ∧
    ((b.chan i).acc ≠ 0 → (b.updatePass i).get (chKey Ob.balanceRemoved i) = ((b.updatePass i).chan i).removed / 100) := by
  have mem : i ∈ [i] := List.mem_singleton.2 rfl
  have cells : ∀ j ∈ [i], j < 32 := fun j here => List.mem_singleton.1 here ▸ cell
  obtain ⟨joined, shown⟩ := Block.settle_spec present cell
  have w1 : b.Worked [i] (b.settle i) := (Block.Worked.refl b).settle mem
  have w2 := w1.ramp mem
  have w3 := w2.judgeError mem
  have w4 := w3.reach mem
  have w5 := w4.pathLimit mem
  have own : ∀ k, k < 0x600000 → OffLaw k → (b.settle i).get k = b.get k :=
    fun _ low free => w1.objects _ (.inl low) (not_lawWrites cells free)
  have target : (b.settle i).targetUc i = b.targetUc i := by
    rw [Block.targetUc, own _ (by show 0x300100 + i + 1 < 0x600000; omega) (by simp only [chKey, Ob.balanceTarget]; omega), Block.targetUc]
  have next : (b.settle i).rampTo i = b.rampTo i := by
    have rate := Block.nat_of_get (own (chKey Ob.balanceRate i) (by show 0x300200 + i + 1 < 0x600000; omega)
      (by simp only [chKey, Ob.balanceRate]; omega))
    have theta : (b.settle i).gov.theta = b.gov.theta := (congrArg Gov.theta w1.rest :)
    rw [Block.rampTo, target, rate, joined, theta, Block.rampTo]
    rfl
  have ramped : ((b.settle i).ramp i).chan i = (b.chan i).joined.ramped (b.targetUc i * 65536) (b.rampTo i) (b.frozen i) := by
    rw [Block.ramp_chan (w1.length ▸ present), joined, target, next, w1.frozen cells]
    rfl
  have reached : (((((b.settle i).ramp i).judgeError i).reach i).pathLimit i).chan i =
      ((b.chan i).joined.ramped (b.targetUc i * 65536) (b.rampTo i) (b.frozen i)).reached := by
    rw [Block.pathLimit_chan, Block.reach_chan (w3.length ▸ present), Block.judgeError_chan, ramped]
    rfl
  obtain ⟨passed, wanted⟩ := Block.release_spec (w5.length ▸ present)
  rw [reached] at passed
  rw [← Block.updatePass_eq] at passed wanted
  have law := GovCh.workedFrom passed
  refine ⟨law, wanted, fun some => ?_⟩
  rw [law.removed, Block.updatePass_get b i (by show 0x300300 + i + 1 < 0x600000; omega) (by show 0x300300 + i + 1 ≠ 0x300B00; omega)
    (by show 0x300300 + i + 1 ≠ 0x300E00 + i + 1; omega), shown some]

end Sys2Proof.Machine

end

section
/-! ### Arbitration and the power budget (R215, R223) -/

namespace Sys2Proof.Machine

/-! #### The order of grants -/

/-- x is granted before y: its error is larger, or the same and its channel not behind (R215). -/
def Precedes (x y : Int × Nat) : Prop := y.1 < x.1 ∨ y.1 = x.1 ∧ x.2 ≤ y.2

theorem Precedes.trans {x y z : Int × Nat} (h : Precedes x y) (g : Precedes y z) : Precedes x z := by
  unfold Precedes at *
  omega

theorem mem_insertByError (x z : Int × Nat) : ∀ l : List (Int × Nat), z ∈ insertByError x l ↔ z = x ∨ z ∈ l
  | [] => by simp [insertByError]
  | y :: t => by
    unfold insertByError
    split
    · simp
    · simp only [List.mem_cons, mem_insertByError x z t]
      exact or_left_comm

theorem insertByError_sorted (x : Int × Nat) : ∀ l : List (Int × Nat), l.Pairwise Precedes → (insertByError x l).Pairwise Precedes
  | [], _ => List.pairwise_singleton _ _
  | y :: t, sorted => by
    obtain ⟨first, rest⟩ := List.pairwise_cons.1 sorted
    unfold insertByError
    split
    · next before =>
      have leads : Precedes x y := by
        simp only [Bool.or_eq_true, decide_eq_true_eq, Bool.and_eq_true] at before
        unfold Precedes
        omega
      refine List.pairwise_cons.2 ⟨fun z mem => ?_, sorted⟩
      obtain rfl | later := List.mem_cons.1 mem
      · exact leads
      · exact leads.trans (first z later)
    · next behind =>
      have follows : Precedes y x := by
        simp only [Bool.or_eq_true, decide_eq_true_eq, Bool.and_eq_true] at behind
        unfold Precedes
        omega
      refine List.pairwise_cons.2 ⟨fun z mem => ?_, insertByError_sorted x t rest⟩
      obtain rfl | later := (mem_insertByError x z t).1 mem
      · exact follows
      · exact first z later

/-- The channels that want to conduct, in the order of grants. -/
def grantOrder (e : Nat → Int) (want : List Nat) : List (Int × Nat) := want.foldl (fun l i => insertByError (e i, i) l) []

theorem grantOrder_spec (e : Nat → Int) (want : List Nat) :
    (grantOrder e want).Pairwise Precedes ∧ ∀ x, x ∈ grantOrder e want ↔ x.1 = e x.2 ∧ x.2 ∈ want := by
  have after : ∀ (want : List Nat) (l : List (Int × Nat)), l.Pairwise Precedes →
      (want.foldl (fun l i => insertByError (e i, i) l) l).Pairwise Precedes ∧
      ∀ x, x ∈ want.foldl (fun l i => insertByError (e i, i) l) l ↔ x ∈ l ∨ x.1 = e x.2 ∧ x.2 ∈ want := by
    intro want
    induction want with
    | nil => exact fun l sorted => ⟨sorted, fun x => by simp⟩
    | cons i t ih =>
      intro l sorted
      obtain ⟨sorted', mem⟩ := ih _ (insertByError_sorted (e i, i) l sorted)
      refine ⟨sorted', fun x => ?_⟩
      have here : x = (e i, i) ↔ x.1 = e x.2 ∧ x.2 = i := by
        obtain ⟨v, j⟩ := x
        simp only [Prod.mk.injEq]
        exact ⟨fun ⟨hv, hj⟩ => ⟨hj ▸ hv, hj⟩, fun ⟨hv, hj⟩ => ⟨hj ▸ hv, hj⟩⟩
      rw [List.foldl_cons, mem, mem_insertByError, here, List.mem_cons, and_or_left]
      exact ⟨fun h => by tauto, fun h => by tauto⟩
  obtain ⟨sorted, mem⟩ := after want [] List.Pairwise.nil
  exact ⟨sorted, fun x => (mem x).trans (by simp)⟩

/-! #### Grants -/

/-- A neighbour of i is in a list. -/
def NeighbourIn (g : List Nat) (i : Nat) : Prop := i + 1 ∈ g ∨ 1 ≤ i ∧ i - 1 ∈ g

theorem arbitrate_cons (x : Int × Nat) (t : List (Int × Nat)) (g : List Nat) :
    (NeighbourIn g x.2 ∧ arbitrate (x :: t) g = arbitrate t g) ∨ (¬NeighbourIn g x.2 ∧ arbitrate (x :: t) g = arbitrate t (g ++ [x.2])) := by
  rw [arbitrate]
  split
  · next near => exact .inl ⟨by simpa [NeighbourIn] using near, rfl⟩
  · next free => exact .inr ⟨by simpa [NeighbourIn] using free, rfl⟩

theorem mem_arbitrate_of_mem {i : Nat} : ∀ (l : List (Int × Nat)) (g : List Nat), i ∈ g → i ∈ arbitrate l g
  | [], _, mem => mem
  | x :: t, g, mem => by
    obtain ⟨_, e⟩ | ⟨_, e⟩ := arbitrate_cons x t g
    · exact e ▸ mem_arbitrate_of_mem t g mem
    · exact e ▸ mem_arbitrate_of_mem t _ (List.mem_append_left _ mem)

theorem of_mem_arbitrate {i : Nat} : ∀ (l : List (Int × Nat)) (g : List Nat), i ∈ arbitrate l g → i ∈ g ∨ ∃ x ∈ l, x.2 = i
  | [], _, mem => .inl mem
  | x :: t, g, mem => by
    obtain ⟨_, e⟩ | ⟨_, e⟩ := arbitrate_cons x t g
    · obtain old | ⟨y, later, same⟩ := of_mem_arbitrate t g (e ▸ mem)
      · exact .inl old
      · exact .inr ⟨y, List.mem_cons_of_mem _ later, same⟩
    · obtain old | ⟨y, later, same⟩ := of_mem_arbitrate t _ (e ▸ mem)
      · obtain old | here := List.mem_append.1 old
        · exact .inl old
        · exact .inr ⟨x, List.mem_cons_self, (List.mem_singleton.1 here).symm⟩
      · exact .inr ⟨y, List.mem_cons_of_mem _ later, same⟩

/-- No two neighbours are granted (R215). -/
theorem arbitrate_apart : ∀ (l : List (Int × Nat)) (g : List Nat), (∀ i ∈ g, i + 1 ∉ g) → ∀ i ∈ arbitrate l g, i + 1 ∉ arbitrate l g
  | [], _, apart => apart
  | x :: t, g, apart => by
    obtain ⟨_, e⟩ | ⟨free, e⟩ := arbitrate_cons x t g
    · exact e ▸ arbitrate_apart t g apart
    · refine e ▸ arbitrate_apart t _ fun i mem next => ?_
      unfold NeighbourIn at free
      simp only [List.mem_append, List.mem_singleton] at mem next
      obtain mem | rfl := mem
      · obtain next | same := next
        · exact apart i mem next
        · exact free (.inr ⟨by omega, by rwa [← same, Nat.add_sub_cancel]⟩)
      · obtain next | same := next
        · exact free (.inl next)
        · omega

/-- A channel is granted, or a neighbour that precedes it is (R215). -/
theorem arbitrate_serves (e : Nat → Int) : ∀ (l : List (Int × Nat)) (g : List Nat), l.Pairwise Precedes → (∀ x ∈ l, x.1 = e x.2) →
    (∀ j ∈ g, ∀ x ∈ l, Precedes (e j, j) x) → ∀ x ∈ l, x.2 ∈ arbitrate l g ∨
      ∃ j ∈ arbitrate l g, (j = x.2 + 1 ∨ 1 ≤ x.2 ∧ j = x.2 - 1) ∧ Precedes (e j, j) x
  | [], _, _, _, _ => fun _ mem => by cases mem
  | y :: t, g, sorted, errors, before => by
    obtain ⟨first, rest⟩ := List.pairwise_cons.1 sorted
    have errors' : ∀ x ∈ t, x.1 = e x.2 := fun x mem => errors x (List.mem_cons_of_mem _ mem)
    have before' : ∀ j ∈ g, ∀ x ∈ t, Precedes (e j, j) x := fun j mem x later => before j mem x (List.mem_cons_of_mem _ later)
    intro x mem
    obtain ⟨near, same⟩ | ⟨_, same⟩ := arbitrate_cons y t g
    · rw [same]
      obtain rfl | later := List.mem_cons.1 mem
      · refine .inr ?_
        obtain up | ⟨pos, down⟩ := near
        · exact ⟨_, mem_arbitrate_of_mem t g up, .inl rfl, before _ up _ mem⟩
        · exact ⟨_, mem_arbitrate_of_mem t g down, .inr ⟨pos, rfl⟩, before _ down _ mem⟩
      · exact arbitrate_serves e t g rest errors' before' x later
    · rw [same]
      obtain rfl | later := List.mem_cons.1 mem
      · exact .inl (mem_arbitrate_of_mem t _ (List.mem_append_right _ (List.mem_singleton.2 rfl)))
      · refine arbitrate_serves e t _ rest errors' (fun j granted z inTail => ?_) x later
        obtain old | here := List.mem_append.1 granted
        · exact before' j old z inTail
        · rw [List.mem_singleton.1 here, ← errors y List.mem_cons_self]
          exact first z inTail

/-! #### The power budget (R223) -/

/-- What fits the budget and what is dropped are the grants. -/
theorem Block.mem_fitBudget (b : Block) (held : Nat) {i : Nat} : ∀ (n : Nat) (g : List Nat),
    i ∈ (b.fitBudget held n g).1 ∨ i ∈ (b.fitBudget held n g).2 ↔ i ∈ g
  | 0, g => by simp [Block.fitBudget]
  | n + 1, g => by
    unfold Block.fitBudget
    extract_lets p
    split
    · simp
    · split
      · next none => simp [List.reverse_eq_nil_iff.1 none]
      · next d r split =>
        have parts : g = r.reverse ++ [d] := by rw [← List.reverse_reverse g, split, List.reverse_cons]
        have rest := Block.mem_fitBudget b held (i := i) n r.reverse
        simp only [List.mem_cons, parts, List.mem_append, ← rest, List.not_mem_nil, or_false]
        tauto

/-- With no switch held, what is kept of as many grants fits the budget. -/
theorem Block.fitBudget_fits (b : Block) : ∀ (n : Nat) (g : List Nat), g.length = n →
    ((b.fitBudget 0 n g).1.map b.switchPower).foldl (· + ·) 0 ≤ b.effectiveBudget
  | 0, g, length => by simp [Block.fitBudget, List.length_eq_zero_iff.1 length]
  | n + 1, g, length => by
    unfold Block.fitBudget
    extract_lets p
    split
    · next fits => exact Nat.zero_add ((g.map b.switchPower).foldl (· + ·) 0) ▸ fits
    · split
      · simp
      · next d r split =>
        refine Block.fitBudget_fits b n r.reverse ?_
        have parts := congrArg List.length split
        simp only [List.length_reverse, List.length_cons] at parts ⊢
        omega

end Sys2Proof.Machine

end

section
/-! ### The charge law of all channels (R213, R214) -/

namespace Sys2Proof.Machine

variable {l : List Nat} {a b : Block} {i : Nat}

/-- The fold over a list without repeats, at the turn of one of its channels. -/
theorem foldl_turn {f : Block → Nat → Block} (mem : i ∈ l) (nodup : l.Nodup) (b : Block) : ∃ before after : List Nat,
    (∀ j ∈ before, j ∈ l) ∧ (∀ j ∈ after, j ∈ l) ∧ i ∉ before ∧ i ∉ after ∧
    l.foldl f b = after.foldl f (f (before.foldl f b) i) := by
  obtain ⟨before, after, rfl⟩ := List.append_of_mem mem
  obtain ⟨_, last, apart⟩ := List.nodup_append.1 nodup
  refine ⟨before, after, fun j here => List.mem_append_left _ here, fun j here => List.mem_append_right _ (List.mem_cons_of_mem _ here),
    fun here => apart i here i List.mem_cons_self rfl, (List.nodup_cons.1 last).1, ?_⟩
  rw [List.foldl_append, List.foldl_cons]

/-- The entries of a channel that is not worked on are not written. -/
theorem not_lawWrites_other (cells : ∀ j ∈ l, j < 32) (out : i ∉ l) (cell : i < 32) :
    ¬lawWrites l (chKey Ob.channelState i) ∧ ¬lawWrites l (chKey Ob.balanceRemoved i) := by
  simp only [lawWrites, Ob.governorFlags, chKey, Ob.channelState, Ob.sessionRemoved, Ob.balanceRemoved]
  constructor
  all_goals
    rintro (here | ⟨j, mem, here⟩)
    · omega
    · have := cells j mem
      have other : j ≠ i := fun same => out (same ▸ mem)
      omega

/-- What makes a channel want to conduct (R214, R218). -/
theorem Block.wants_iff (b : Block) (i : Nat) : b.wants i = true ↔ (b.chan i).openSession = true ∧ b.frozen i = false ∧
    b.bit (chKey Ob.channelState i) 9 = false ∧ b.heldNear i = false ∧ b.gov.quietWindow = false ∧ b.gov.quietCapture = false ∧
    (((b.chan i).state = 2 ∧ 0 < (b.chan i).error32) ∨ ((b.chan i).state ≠ 2 ∧
      (((b.chan i).on = true ∧ -(b.get Ob.band * errorUc) < (b.chan i).error32) ∨
        ((b.chan i).on = false ∧ b.get Ob.band * errorUc ≤ (b.chan i).error32)))) := by
  unfold Block.wants
  extract_lets c e h
  split
  · next bars =>
    simp only [Bool.or_eq_true, Bool.not_eq_true'] at bars
    refine ⟨fun no => (by cases no), fun all => ?_⟩
    obtain ⟨opened, thawed, limit, held, window, capture, _⟩ := all
    simp [c, opened, thawed, limit, held, window, capture] at bars
  · next free =>
    simp only [Bool.or_eq_true, Bool.not_eq_true', not_or, Bool.not_eq_false, Bool.not_eq_true] at free
    obtain ⟨⟨⟨⟨⟨opened, thawed⟩, limit⟩, held⟩, window⟩, capture⟩ := free
    simp only [opened, thawed, limit, held, window, capture, true_and, c]
    split_ifs with full on
    · simp [full, e, c]
    · simp [full, on, e, h, c]
    · simp [full, on, e, h, c]

/-- Whether a channel wants to conduct does not depend on the sums and switches of others (R214). -/
theorem Block.Worked.wants (h : a.Worked l b) (cells : ∀ j ∈ l, j < 32) (out : i ∉ l) (cell : i < 32) : b.wants i = a.wants i := by
  have mark := Block.nat_of_get (h.objects _ (.inl (by show 0x300E00 + i + 1 < 0x600000; omega)) (not_lawWrites_other cells out cell).1)
  have band := h.objects Ob.band (.inl (by decide)) (not_lawWrites cells (by decide))
  have capture : b.gov.quietCapture = a.gov.quietCapture := (congrArg Gov.quietCapture h.rest :)
  rw [Bool.eq_iff_iff]
  simp only [Block.wants_iff, h.others i out, h.frozen cells, Block.bit, mark, h.heldNear, h.quietWindow, capture, band]

/-- What the law of a channel starts from is not changed by the law of others. -/
theorem Block.Worked.rampTo (h : a.Worked l b) (cells : ∀ j ∈ l, j < 32) (out : i ∉ l) (cell : i < 32) :
    b.targetUc i = a.targetUc i ∧ b.rampTo i = a.rampTo i := by
  have target := h.objects (chKey Ob.balanceTarget i) (.inl (by show 0x300100 + i + 1 < 0x600000; omega))
    (not_lawWrites cells (by simp only [chKey, Ob.balanceTarget]; omega))
  have rate := Block.nat_of_get (h.objects (chKey Ob.balanceRate i) (.inl (by show 0x300200 + i + 1 < 0x600000; omega))
    (not_lawWrites cells (by simp only [chKey, Ob.balanceRate]; omega)))
  have theta : b.gov.theta = a.gov.theta := (congrArg Gov.theta h.rest :)
  simp only [Block.rampTo, Block.targetUc, target, rate, theta, h.others i out, and_self]

/-- The law of each channel of a list (R213, R214). -/
theorem Block.updatePasses_spec (mem : i ∈ l) (nodup : l.Nodup) (cells : ∀ j ∈ l, j < 32) (present : i < b.gov.ch.length) :
    (b.chan i).WorkedFrom (b.targetUc i * 65536) (b.rampTo i) (b.frozen i) ((l.foldl Block.updatePass b).chan i) ∧
    (((l.foldl Block.updatePass b).chan i).on = true → ((l.foldl Block.updatePass b).chan i).owner = .balancing →
      (l.foldl Block.updatePass b).wants i = true) ∧
    ((b.chan i).acc ≠ 0 → (l.foldl Block.updatePass b).get (chKey Ob.balanceRemoved i) =
      ((l.foldl Block.updatePass b).chan i).removed / 100) := by
  obtain ⟨before, after, sub, sub', out, out', turns⟩ := foldl_turn (f := Block.updatePass) mem nodup b
  have cell := cells i mem
  have cells' : ∀ j ∈ before, j < 32 := fun j here => cells j (sub j here)
  have cells'' : ∀ j ∈ after, j < 32 := fun j here => cells j (sub' j here)
  have start := Block.Worked.updatePasses b before
  have finish := Block.Worked.updatePasses ((before.foldl Block.updatePass b).updatePass i) after
  obtain ⟨target, next⟩ := start.rampTo cells' out cell
  obtain ⟨law, wanted, shown⟩ := Block.updatePass_spec (b := before.foldl Block.updatePass b) (start.length.symm ▸ present) cell
  rw [target, next, start.others i out, start.frozen cells'] at law
  rw [start.others i out] at shown
  rw [turns, finish.others i out', finish.wants cells'' out' cell,
    finish.objects _ (.inl (by show 0x300300 + i + 1 < 0x600000; omega)) (not_lawWrites_other cells'' out' cell).2]
  exact ⟨law, wanted, shown⟩

/-! #### The throttle (R222) -/

/-- The slew of the throttle: its own two entries, and the governor's. -/
theorem Block.slewTheta_frame (b : Block) : b.slewTheta.power = b.power ∧ b.slewTheta.gov.ch = b.gov.ch ∧
    b.slewTheta.gov.quietWindow = b.gov.quietWindow ∧ b.slewTheta.gov.quietCapture = b.gov.quietCapture ∧
    b.slewTheta.gov.thetaIn = b.throttleInput ∧
    b.slewTheta.gov.theta = (if b.gov.theta < b.throttleInput then min b.throttleInput (b.gov.theta + slewStep31 (b.nat Ob.throttleSlew))
      else max b.throttleInput (b.gov.theta - slewStep31 (b.nat Ob.throttleSlew))) ∧
    ∀ k, k ≠ Ob.throttleValueInput → k ≠ Ob.throttleValueApplied → b.slewTheta.get k = b.get k :=
  ⟨rfl, rfl, rfl, rfl, rfl, rfl, fun _ input applied => (Block.get_put_other _ _ applied).trans (Block.get_put_other _ _ input)⟩

/-! #### The stages of a tick's law -/

/-- The block after the throttle's slew and the update pass of every channel. -/
def Block.updated (b : Block) : Block := (List.range b.cells).foldl Block.updatePass b.slewTheta

/-- The channels granted, of those that want to conduct. -/
def Block.granted (cells : List Nat) (b : Block) : List Nat :=
  arbitrate (grantOrder (fun i => (b.chan i).error32) (cells.filter b.wants)) []

/-- What the switches dissipate that others hold. -/
def Block.heldPower (b : Block) : Nat :=
  (((List.range 32).filter fun i => b.held i && (b.chan i).on).map b.switchPower).foldl (· + ·) 0

/-- The grants that fit the budget, and those dropped. -/
def Block.fit (cells : List Nat) (b : Block) : List Nat × List Nat := b.fitBudget b.heldPower (b.granted cells).length (b.granted cells)

/-- Grants dropped for the budget are marked (R223). -/
def Block.markDropped (dropped : List Nat) (b : Block) : Block :=
  dropped.foldl (fun b i => (b.putBit (chKey Ob.channelState i) 10 true).putBit Ob.governorFlags 3 true) b

/-- Channels that want to conduct and may not go off. -/
def Block.turnOff (want kept : List Nat) (b : Block) : Block :=
  want.foldl (fun b i => if !kept.contains i && (b.chan i).on then b.editCh i GovCh.off else b) b

/-- Channels that may conduct go on. -/
def Block.turnAllOn (kept : List Nat) (b : Block) : Block := kept.foldl (fun b i => b.turnOn i .balancing) b

/-- ChannelState shows which switches conduct. -/
def Block.showOn (cells : List Nat) (b : Block) : Block := cells.foldl (fun b i => b.putBit (chKey Ob.channelState i) 4 (b.chan i).on) b

/-- The switches as arbitration and the budget leave them. -/
def Block.switched (cells : List Nat) (b : Block) : Block :=
  (((b.markDropped (b.fit cells).2).turnOff (cells.filter b.wants) (b.fit cells).1).turnAllOn (b.fit cells).1).showOn cells

theorem Block.tickLaw_eq (b : Block) : b.tickLaw =
    ((b.updated.switched (List.range b.cells)).withGov { (b.updated.switched (List.range b.cells)).gov with
      power := b.updated.heldPower + ((b.updated.fit (List.range b.cells)).1.map b.updated.switchPower).foldl (· + ·) 0
      conducted := (b.updated.switched (List.range b.cells)).gov.conducted ||
        (b.updated.switched (List.range b.cells)).gov.ch.any (·.on) }).withFree ((b.updated.switched (List.range b.cells)).free + 1) := by
  unfold Block.tickLaw
  extract_lets cells b1 b2 want order granted holders heldPower fit power b3 b4 b5 b6 g6 g
  have updated : b2 = b.updated := rfl
  have held : heldPower = b.updated.heldPower := rfl
  have order' : order = grantOrder (fun i => (b.updated.chan i).error32) (cells.filter b.updated.wants) := rfl
  have granted' : granted = b.updated.granted cells := rfl
  have fit' : fit = b.updated.fit cells := rfl
  have marked : b3 = b2.markDropped fit.2 := rfl
  have off : b4 = b3.turnOff want fit.1 := rfl
  have on : b5 = b4.turnAllOn fit.1 := rfl
  have shown : b6 = b5.showOn cells := rfl
  have switched : b6 = b.updated.switched cells := by rw [shown, on, off, marked, fit', updated]; rfl
  have total : power = b.updated.heldPower + ((b.updated.fit cells).1.map b.updated.switchPower).foldl (· + ·) 0 := rfl
  have gov : g6 = g := congrArg Block.gov switched
  rw [switched, total, gov]

end Sys2Proof.Machine

end

section
/-! ### The switches as arbitration leaves them (R206, R214, R215, R223) -/

namespace Sys2Proof.Machine

/-- A channel but for its switch. -/
def GovCh.session (c : GovCh) : GovCh := { c with on := false, worked := false }

/-- From u to c only switches have turned, and the marks that show them have been set. -/
structure Block.Turned (u c : Block) : Prop where
  power : c.power = u.power
  rest : c.gov.rest = u.gov.rest
  quietWindow : c.gov.quietWindow = u.gov.quietWindow
  length : c.gov.ch.length = u.gov.ch.length
  sessions : ∀ i, (c.chan i).session = (u.chan i).session
  objects : ∀ k, k ≠ Ob.governorFlags → (∀ i < 32, k ≠ chKey Ob.channelState i) → c.get k = u.get k
  limits : ∀ i, c.bit (chKey Ob.channelState i) 9 = u.bit (chKey Ob.channelState i) 9

section
variable {u b : Block} {i : Nat} {want kept dropped cells : List Nat}

theorem Block.Turned.refl (b : Block) : b.Turned b := ⟨rfl, rfl, rfl, rfl, fun _ => rfl, fun _ _ _ => rfl, fun _ => rfl⟩
theorem Block.Turned.owner (h : u.Turned b) (i : Nat) : (b.chan i).owner = (u.chan i).owner := (congrArg GovCh.owner (h.sessions i) :)

/-! #### One operation at a time -/

/-- The flags are no channel's marks. -/
theorem Block.mark_putBit_flag (b : Block) (n : Nat) (on : Bool) (i m : Nat) :
    (b.putBit Ob.governorFlags n on).bit (chKey Ob.channelState i) m = b.bit (chKey Ob.channelState i) m :=
  b.bit_putBit_other on fun same => absurd same.1 (by show 0x300E00 + i + 1 ≠ 0x300B00; omega)

theorem Block.Turned.flag (h : u.Turned b) {n on} : u.Turned (b.putBit Ob.governorFlags n on) where
  power := h.power
  rest := h.rest
  quietWindow := h.quietWindow
  length := h.length
  sessions := h.sessions
  objects := fun k flags marks => (b.get_put_other _ flags).trans (h.objects k flags marks)
  limits := fun i => (b.mark_putBit_flag n on i 9).trans (h.limits i)

/-- Marks other than that of the path's limit. -/
theorem Block.Turned.mark (h : u.Turned b) (cell : i < 32) {n on} (other : 9 ≠ n) : u.Turned (b.putBit (chKey Ob.channelState i) n on) where
  power := h.power
  rest := h.rest
  quietWindow := h.quietWindow
  length := h.length
  sessions := h.sessions
  objects := fun k flags marks => (b.get_put_other _ (marks i cell)).trans (h.objects k flags marks)
  limits := fun i => (b.bit_putBit_other on fun same => other same.2).trans (h.limits i)

theorem Block.Turned.edit (h : u.Turned b) {f : GovCh → GovCh} (same : (f (b.chan i)).session = (b.chan i).session) :
    u.Turned (b.editCh i f) where
  power := h.power
  rest := h.rest
  quietWindow := h.quietWindow
  length := (b.editCh_length i f).trans h.length
  sessions := fun j => by
    rw [Block.chan_editCh]
    split
    · next here => rw [← here.1, same, h.sessions]
    · exact h.sessions j
  objects := h.objects
  limits := h.limits

/-- A switch held by no one but the balancing goes off. -/
theorem Block.Turned.off (h : u.Turned b) (held : (u.chan i).owner = .balancing) : u.Turned (b.editCh i GovCh.off) :=
  h.edit (by
    have owner := (h.owner i).trans held
    simp [GovCh.session, GovCh.off, GovCh.dark, owner])

theorem Block.Turned.turnOn (h : u.Turned b) (held : (u.chan i).owner = .balancing) : u.Turned (b.turnOn i .balancing) :=
  h.edit (by
    have owner := (h.owner i).trans held
    unfold GovCh.onFor
    split_ifs
    · simp [GovCh.session, owner]
    · simp [GovCh.session, owner]
    · simp [GovCh.session, owner])

/-! #### The stages -/

theorem Block.Turned.markDropped (h : u.Turned b) (low : ∀ i ∈ dropped, i < 32) : u.Turned (b.markDropped dropped) :=
  List.foldlRecOn (motive := fun c : Block => u.Turned c) _ _ h fun _ hc i mem => (hc.mark (low i mem) (by decide)).flag

theorem Block.Turned.turnOff (h : u.Turned b) (held : ∀ i ∈ want, (u.chan i).owner = .balancing) : u.Turned (b.turnOff want kept) :=
  List.foldlRecOn (motive := fun c : Block => u.Turned c) _ _ h fun c hc i mem => by
    split
    · exact hc.off (held i mem)
    · exact hc

theorem Block.Turned.turnAllOn (h : u.Turned b) (held : ∀ i ∈ kept, (u.chan i).owner = .balancing) : u.Turned (b.turnAllOn kept) :=
  List.foldlRecOn (motive := fun c : Block => u.Turned c) _ _ h fun _ hc i mem => hc.turnOn (held i mem)

theorem Block.Turned.showOn (h : u.Turned b) (low : ∀ i ∈ cells, i < 32) : u.Turned (b.showOn cells) :=
  List.foldlRecOn (motive := fun c : Block => u.Turned c) _ _ h fun _ hc i mem => hc.mark (low i mem) (by decide)

/-! #### Which switches conduct -/

theorem Block.markDropped_chan (b : Block) (i : Nat) : (b.markDropped dropped).chan i = b.chan i :=
  foldl_keeps (fun c => c.chan i) (fun c _ => (Block.putBit_chan _ _ _ _ i).trans (c.putBit_chan _ _ _ i)) dropped b

theorem Block.showOn_chan (b : Block) (i : Nat) : (b.showOn cells).chan i = b.chan i :=
  foldl_keeps (fun c => c.chan i) (fun c j => c.putBit_chan (chKey Ob.channelState j) _ _ i) cells b

theorem Block.turnOff_off (b : Block) (wants : i ∈ want) (lost : i ∉ kept) : ((b.turnOff want kept).chan i).on = false := by
  refine foldl_establishes (i := i) (holds := fun _ => True) (sets := fun c : Block => (c.chan i).on = false) wants (fun _ _ _ _ => trivial)
    (fun c _ => ?_) (fun c j _ other _ set => ?_) trivial
  · split
    · exact c.chan_editCh_of (p := fun c => c.on = false) i rfl fun _ => rfl
    · next off => simpa [lost] using off
  · split
    · rw [Block.chan_editCh_other _ _ other.symm, set]
    · exact set

theorem Block.turnOff_same (b : Block) (stays : i ∉ want ∨ i ∈ kept) : (b.turnOff want kept).chan i = b.chan i := by
  refine List.foldlRecOn (motive := fun c : Block => c.chan i = b.chan i) _ _ rfl fun c same j mem => ?_
  split
  · next off =>
    have other : i ≠ j := by
      rintro rfl
      have lost : i ∉ kept := by simpa using (Bool.and_eq_true_iff.1 off).1
      exact stays.elim (fun out => out mem) fun granted => lost granted
    rw [Block.chan_editCh_other _ _ other, same]
  · exact same

theorem Block.turnAllOn_other (b : Block) (out : i ∉ kept) : (b.turnAllOn kept).chan i = b.chan i :=
  List.foldlRecOn (motive := fun c : Block => c.chan i = b.chan i) _ _ rfl fun _ same j mem => by
    have other : i ≠ j := fun eq => out (eq ▸ mem)
    exact (Block.chan_editCh_other _ _ other).trans same

/-- Of channels no two of which are neighbours each goes on whose neighbours are off (R206). -/
theorem Block.turnAllOn_on (granted : i ∈ kept) (apart : ∀ j ∈ kept, j + 1 ∉ kept) (present : i < b.gov.ch.length)
    (above : (b.chan (i + 1)).on = false) (below : 1 ≤ i → (b.chan (i - 1)).on = false) : ((b.turnAllOn kept).chan i).on = true := by
  refine foldl_establishes (i := i) (sets := fun c : Block => (c.chan i).on = true)
    (holds := fun c : Block => c.gov.ch.length = b.gov.ch.length ∧ (c.chan (i + 1)).on = false ∧ (1 ≤ i → (c.chan (i - 1)).on = false))
    granted (fun c j mem held => ?_) (fun c held => ?_) (fun c j _ other _ set => ?_) ⟨rfl, above, below⟩
  · obtain ⟨length, above, below⟩ := held
    refine ⟨(c.editCh_length _ _).trans length, ?_, fun pos => ?_⟩
    · have other : i + 1 ≠ j := fun same => apart i granted (same ▸ mem)
      rw [Block.turnOn, Block.chan_editCh_other _ _ other, above]
    · have other : i - 1 ≠ j := fun same => apart j mem (by rwa [← same, Nat.sub_add_cancel pos])
      rw [Block.turnOn, Block.chan_editCh_other _ _ other, below pos]
  · obtain ⟨length, above, below⟩ := held
    have clear : c.interlocked i = false := by
      simp only [Block.interlocked, above, Bool.false_or, Bool.and_eq_false_iff, decide_eq_false_iff_not]
      exact (Nat.lt_or_ge i 1).imp (fun zero pos => absurd pos (by omega)) below
    rw [Block.turnOn, Block.chan_editCh_self _ (length ▸ present), clear]
    unfold GovCh.onFor
    cases (c.chan i).on <;> simp
  · rw [Block.turnOn, Block.chan_editCh_other _ _ other.symm, set]

/-- Turning switches writes no entry. -/
theorem Block.turnOff_dict (b : Block) : (b.turnOff want kept).dict = b.dict := by
  refine foldl_keeps Block.dict (fun c j => ?_) want b
  split
  · exact c.editCh_dict j _
  · rfl

theorem Block.turnAllOn_dict (b : Block) : (b.turnAllOn kept).dict = b.dict := foldl_keeps Block.dict (fun c j => c.turnOn_dict j _) kept b

/-- A grant dropped for the budget keeps its mark (R223). -/
theorem Block.switched_dropped (mem : i ∈ (b.fit cells).2) :
    (b.switched cells).bit (chKey Ob.channelState i) 10 = true := by
  have marked : (b.markDropped (b.fit cells).2).bit (chKey Ob.channelState i) 10 = true := by
    refine foldl_establishes (i := i) (holds := fun _ => True) (sets := fun c : Block => c.bit (chKey Ob.channelState i) 10 = true) mem
      (fun _ _ _ _ => trivial) (fun c _ => ?_) (fun c j _ other _ set => ?_) trivial
    · exact (Block.mark_putBit_flag _ _ _ _ _).trans (Block.bit_putBit_self _ _ _ _)
    · have apart : chKey Ob.channelState i ≠ chKey Ob.channelState j := by
        show 0x300E00 + i + 1 ≠ 0x300E00 + j + 1
        omega
      exact (Block.mark_putBit_flag _ _ _ _ _).trans ((Block.bit_putBit_other _ _ fun same => apart same.1).trans set)
  have shown : ∀ c : Block, (c.showOn cells).bit (chKey Ob.channelState i) 10 = c.bit (chKey Ob.channelState i) 10 :=
    fun c => foldl_keeps (fun c => c.bit (chKey Ob.channelState i) 10) (fun c j => c.bit_putBit_other _ fun same => absurd same.2 (by decide)) _ c
  have off := Block.turnOff_dict (want := cells.filter b.wants) (kept := (b.fit cells).1) (b.markDropped (b.fit cells).2)
  have on := Block.turnAllOn_dict (kept := (b.fit cells).1) (Block.turnOff (cells.filter b.wants) (b.fit cells).1 (b.markDropped (b.fit cells).2))
  rw [Block.switched, shown, Block.bit, Block.nat_of_get (Block.get_of_dict (on.trans off) _), ← Block.bit, marked]

end

end Sys2Proof.Machine

end

section
/-! ### Who conducts after arbitration (R206, R214, R215, R223) -/

namespace Sys2Proof.Machine

/-! #### The grants of a block -/

/-- What wants to conduct is held by no one else (R214, R217). -/
theorem Block.owner_of_wants {b : Block} {i : Nat} (wants : b.wants i = true) : (b.chan i).owner = .balancing := by
  obtain ⟨_, _, _, free, _⟩ := (b.wants_iff i).1 wants
  simp only [Block.heldNear, Block.held, Bool.or_eq_false_iff, bne_eq_false_iff_eq] at free
  exact free.1.1

/-- Nor are its neighbours. -/
theorem Block.owner_near_of_wants {b : Block} {i : Nat} (wants : b.wants i = true) :
    (b.chan (i + 1)).owner = .balancing ∧ (1 ≤ i → (b.chan (i - 1)).owner = .balancing) := by
  obtain ⟨_, _, _, free, _⟩ := (b.wants_iff i).1 wants
  simp only [Block.heldNear, Block.held, Bool.or_eq_false_iff, bne_eq_false_iff_eq, Bool.and_eq_false_iff, decide_eq_false_iff_not] at free
  exact ⟨free.2, fun pos => free.1.2.resolve_left fun zero => zero pos⟩

theorem Block.granted_wants {b : Block} {cells : List Nat} {i : Nat} (mem : i ∈ b.granted cells) : i ∈ cells ∧ b.wants i = true := by
  obtain none | ⟨x, inOrder, rfl⟩ := of_mem_arbitrate _ _ mem
  · cases none
  · exact List.mem_filter.1 (((grantOrder_spec _ _).2 x).1 inOrder).2

theorem Block.granted_apart (b : Block) (cells : List Nat) : ∀ i ∈ b.granted cells, i + 1 ∉ b.granted cells :=
  arbitrate_apart _ _ fun _ none => by cases none

/-- A channel that wants to conduct is granted, or lost to a neighbour that precedes it (R215). -/
theorem Block.granted_serves {b : Block} {cells : List Nat} {i : Nat} (cell : i ∈ cells) (wants : b.wants i = true) :
    i ∈ b.granted cells ∨ ∃ j ∈ b.granted cells, (j = i + 1 ∨ 1 ≤ i ∧ j = i - 1) ∧
      Precedes ((b.chan j).error32, j) ((b.chan i).error32, i) := by
  obtain ⟨sorted, mem⟩ := grantOrder_spec (fun i => (b.chan i).error32) (cells.filter b.wants)
  exact arbitrate_serves (fun i => (b.chan i).error32) _ [] sorted (fun x here => ((mem x).1 here).1) (fun _ none => by cases none)
    ((b.chan i).error32, i) ((mem _).2 ⟨rfl, List.mem_filter.2 ⟨cell, wants⟩⟩)

theorem Block.mem_fit (b : Block) (cells : List Nat) {i : Nat} : i ∈ (b.fit cells).1 ∨ i ∈ (b.fit cells).2 ↔ i ∈ b.granted cells :=
  b.mem_fitBudget _ _ _

/-! #### The switches of a block -/

section
variable {u : Block} {n i : Nat} (few : n ≤ 32) (present : n ≤ u.gov.ch.length)
  (conducts : ∀ j, j ≤ n → (u.chan j).on = true → (u.chan j).owner = .balancing → j < n ∧ u.wants j = true)

include few in
theorem Block.switched_turned : u.Turned (u.switched (List.range n)) := by
  have granted : ∀ i, i ∈ (u.fit (List.range n)).1 ∨ i ∈ (u.fit (List.range n)).2 → i < n ∧ u.wants i = true := fun i mem =>
    (Block.granted_wants ((u.mem_fit _).1 mem)).imp_left List.mem_range.1
  refine .showOn (.turnAllOn (.turnOff (.markDropped (.refl u) fun i mem => ?_) fun i mem => ?_) fun i mem => ?_) fun i mem => ?_
  · exact Nat.lt_of_lt_of_le (granted i (.inr mem)).1 few
  · exact Block.owner_of_wants (List.mem_filter.1 mem).2
  · exact Block.owner_of_wants (granted i (.inl mem)).2
  · exact Nat.lt_of_lt_of_le (List.mem_range.1 mem) few

/-- A switch next to one that is kept is off once the others have gone. -/
theorem Block.off_near_kept {j : Nat} (cell : j ≤ n) (out : j ∉ (u.fit (List.range n)).1) (free : (u.chan j).owner = .balancing)
    (conducts : ∀ j, j ≤ n → (u.chan j).on = true → (u.chan j).owner = .balancing → j < n ∧ u.wants j = true) :
    (((u.markDropped (u.fit (List.range n)).2).turnOff ((List.range n).filter u.wants) (u.fit (List.range n)).1).chan j).on = false := by
  by_cases wants : j ∈ (List.range n).filter u.wants
  · exact Block.turnOff_off _ wants out
  · rw [Block.turnOff_same _ (.inl wants), Block.markDropped_chan]
    by_contra on
    obtain ⟨cell, wanted⟩ := conducts j cell (Bool.eq_true_of_not_eq_false on) free
    exact wants (List.mem_filter.2 ⟨List.mem_range.2 cell, wanted⟩)

include few present conducts in
/-- What is kept of the grants conducts. -/
theorem Block.switched_on (kept : i ∈ (u.fit (List.range n)).1) : ((u.switched (List.range n)).chan i).on = true := by
  obtain ⟨cell, wants⟩ := Block.granted_wants ((u.mem_fit _).1 (.inl kept))
  have cell := List.mem_range.1 cell
  obtain ⟨above, below⟩ := Block.owner_near_of_wants wants
  have granted : ∀ j, j ∈ (u.fit (List.range n)).1 → j ∈ u.granted (List.range n) := fun j mem => (u.mem_fit _).1 (.inl mem)
  have apart : ∀ j ∈ (u.fit (List.range n)).1, j + 1 ∉ (u.fit (List.range n)).1 := fun j mem next =>
    u.granted_apart _ j (granted j mem) (granted _ next)
  have turned : u.Turned ((u.markDropped (u.fit (List.range n)).2).turnOff ((List.range n).filter u.wants) (u.fit (List.range n)).1) :=
    .turnOff (.markDropped (.refl u) fun i mem =>
      Nat.lt_of_lt_of_le (List.mem_range.1 (Block.granted_wants ((u.mem_fit _).1 (.inr mem))).1) few)
      fun i mem => Block.owner_of_wants (List.mem_filter.1 mem).2
  rw [Block.switched, Block.showOn_chan]
  refine Block.turnAllOn_on kept apart (turned.length ▸ Nat.lt_of_lt_of_le cell present)
    (Block.off_near_kept cell (apart i kept) above conducts) fun pos =>
    Block.off_near_kept (by omega) (fun mem => apart _ mem ((Nat.sub_add_cancel pos).symm ▸ kept)) (below pos) conducts

include conducts in
/-- What conducts for balancing has been kept. -/
theorem Block.kept_of_switched (cell : i < n) (on : ((u.switched (List.range n)).chan i).on = true)
    (owner : (u.chan i).owner = .balancing) : i ∈ (u.fit (List.range n)).1 := by
  by_contra out
  rw [Block.switched, Block.showOn_chan, Block.turnAllOn_other _ out, Block.off_near_kept (Nat.le_of_lt cell) out owner conducts] at on
  cases on

end

end Sys2Proof.Machine

end

section
/-! ### A timely tick as a whole (R213–R216, R222, R223) -/

namespace Sys2Proof.Machine

/-- The block after the law of a timely tick, its overruns over. -/
def Block.lawDone (p : Block) : Block := p.tickLaw.withGov { p.tickLaw.gov with overruns := 0 }

section
variable {p b : Block}

/-- Neither the marks nor the switches touch the governor's rest. -/
theorem Block.switched_rest (b : Block) (cells : List Nat) : (b.switched cells).gov.rest = b.gov.rest := by
  have marked : ∀ c : Block, (c.markDropped (b.fit cells).2).gov.rest = c.gov.rest := fun c => by
    refine foldl_keeps (fun c => c.gov.rest) (fun c j => ?_) _ c
    rfl
  have off : ∀ c : Block, (c.turnOff (cells.filter b.wants) (b.fit cells).1).gov.rest = c.gov.rest := fun c => by
    refine foldl_keeps (fun c => c.gov.rest) (fun c j => ?_) _ c
    split <;> rfl
  have on : ∀ c : Block, (c.turnAllOn (b.fit cells).1).gov.rest = c.gov.rest := fun c => by
    refine foldl_keeps (fun c => c.gov.rest) (fun c j => ?_) _ c
    rfl
  have shown : ∀ c : Block, (c.showOn cells).gov.rest = c.gov.rest := fun c => by
    refine foldl_keeps (fun c => c.gov.rest) (fun c j => ?_) _ c
    rfl
  rw [Block.switched, shown, on, off, marked]

theorem Block.updated_rest (p : Block) : p.updated.gov.rest = p.slewTheta.gov.rest := (Block.Worked.updatePasses _ _).rest

theorem Block.lawDone_gov (p : Block) : p.lawDone.gov.theta = p.slewTheta.gov.theta ∧ p.lawDone.gov.thetaIn = p.slewTheta.gov.thetaIn ∧
    p.lawDone.gov.overruns = 0 ∧ p.lawDone.gov.quietCapture = p.gov.quietCapture := by
  have rest := (p.updated.switched_rest (List.range p.cells)).trans p.updated_rest
  have done : p.lawDone.gov.theta = (p.updated.switched (List.range p.cells)).gov.theta ∧
      p.lawDone.gov.thetaIn = (p.updated.switched (List.range p.cells)).gov.thetaIn ∧ p.lawDone.gov.overruns = 0 ∧
      p.lawDone.gov.quietCapture = (p.updated.switched (List.range p.cells)).gov.quietCapture := by
    rw [Block.lawDone, Block.tickLaw_eq]
    simp only [Block.withGov_gov, Block.withFree_gov, and_self]
  obtain ⟨theta, thetaIn, overruns, capture⟩ := done
  obtain ⟨theta', thetaIn'⟩ := Gov.throttle_of_rest rest
  obtain ⟨-, -, -, same, -⟩ := p.slewTheta_frame
  exact ⟨theta.trans theta', thetaIn.trans thetaIn', overruns, (capture.trans (Gov.quietCapture_of_rest rest)).trans same⟩

theorem Block.Prepared.throttleInput {gain : Nat → Int} {a : Block} (h : a.Prepared gain b) : b.throttleInput = a.throttleInput := by
  have analog : b.gov.analog = a.gov.analog := (congrArg Gov.analog h.rest :)
  have pulses : b.gov.pulses = a.gov.pulses := (congrArg Gov.pulses h.rest :)
  have thetaIn : b.gov.thetaIn = a.gov.thetaIn := (congrArg Gov.thetaIn h.rest :)
  have get := Block.get_of_dict h.dict
  have recent : b.recentPulses = a.recentPulses := by rw [Block.recentPulses, Block.recentPulses, Block.now, Block.now, pulses, h.tb]
  unfold Block.throttleInput
  rw [get Ob.throttleSourceSource, get Ob.throttleValueSetpoint, get Ob.throttleSourceState, get Ob.throttleSourceFailValue, analog, thetaIn,
    recent]

end

/-- A timely tick ends with what follows the law (R187, R225, R255). -/
theorem governorTick_timely_spares {t : Nat} {meter delays : List Nat} {b : Block} (measuring : b.measuring = true)
    (cells : b.noCells = false) (runs : b.engineRuns 5 = true) :
    (b.prepared t meter).lawDone.Spares (governorTick t .onTime meter delays b).takeMetered.trimE6.seekStep := by
  rw [governorTick_timely measuring cells runs]
  exact (Block.Spares.refl _).overrunGone.afterLaw

theorem governorTick_theta_gives {s : State} {t : Nat} {meter delays : List Nat} (measuring : s.blk.measuring = true)
    (cells : s.blk.noCells = false) (runs : s.blk.engineRuns 5 = true) : GivesBlock (.governorTick t .onTime meter delays) s fun b =>
      b.gov.theta = (if s.blk.gov.theta < (s.blk.at t).throttleInput
        then min (s.blk.at t).throttleInput (s.blk.gov.theta + slewStep31 (s.blk.nat Ob.throttleSlew))
        else max (s.blk.at t).throttleInput (s.blk.gov.theta - slewStep31 (s.blk.nat Ob.throttleSlew))) ∧
      b.gov.thetaIn = (s.blk.at t).throttleInput ∧ b.gov.overruns = 0 := by
  refine ⟨_, rfl, ?_⟩
  have after := governorTick_timely_spares (t := t) (meter := meter) (delays := delays) measuring cells runs
  obtain ⟨theta, thetaIn, overruns, -⟩ := after.gov_fields
  obtain ⟨theta', thetaIn', overruns', -⟩ := (s.blk.prepared t meter).lawDone_gov
  have prepared := s.blk.prepared_prepared t meter
  obtain ⟨-, -, -, -, input, slewed, -⟩ := (s.blk.prepared t meter).slewTheta_frame
  have before : (s.blk.prepared t meter).gov.theta = s.blk.gov.theta := (congrArg Gov.theta prepared.rest :)
  have slew : (s.blk.prepared t meter).nat Ob.throttleSlew = s.blk.nat Ob.throttleSlew := Block.nat_of_get (Block.get_of_dict prepared.dict _)
  rw [prepared.throttleInput] at input
  rw [prepared.throttleInput, before, slew] at slewed
  exact ⟨theta.trans (theta'.trans slewed), thetaIn.trans (thetaIn'.trans input), overruns.trans overruns'⟩

/-! #### What a timely tick leaves of its channels -/

/-- A channel but for its switch and the note that its edge has been seen. -/
def GovCh.sums (c : GovCh) : GovCh := c.session.unseen

/-- What a timely tick of a prepared block p leaves in b of its law: the sessions as the update passes leave them, the switches as arbitration
does. -/
structure Block.Ticked (p b : Block) : Prop where
  theta : b.gov.theta = p.slewTheta.gov.theta
  quietWindow : b.gov.quietWindow = p.gov.quietWindow
  quietCapture : b.gov.quietCapture = p.gov.quietCapture
  power : b.gov.power = p.updated.heldPower + ((p.updated.fit (List.range p.cells)).1.map p.updated.switchPower).foldl (· + ·) 0
  length : b.gov.ch.length = p.gov.ch.length
  sums : ∀ i, (b.chan i).sums = (p.updated.chan i).sums
  on : ∀ i, (b.chan i).on = ((p.updated.switched (List.range p.cells)).chan i).on
  removed : ∀ i < 32, b.get (chKey Ob.balanceRemoved i) = p.updated.get (chKey Ob.balanceRemoved i)
  limit : ∀ i < 32, b.bit (chKey Ob.channelState i) 9 = p.updated.bit (chKey Ob.channelState i) 9
  dropped : ∀ i < 32, b.bit (chKey Ob.channelState i) 10 = (p.updated.switched (List.range p.cells)).bit (chKey Ob.channelState i) 10

theorem Block.updated_worked (p : Block) : p.slewTheta.Worked (List.range p.cells) p.updated := Block.Worked.updatePasses _ _

theorem Block.lawDone_spec (p : Block) : p.lawDone.gov.ch = (p.updated.switched (List.range p.cells)).gov.ch ∧
    p.lawDone.dict = (p.updated.switched (List.range p.cells)).dict ∧
    p.lawDone.gov.quietWindow = (p.updated.switched (List.range p.cells)).gov.quietWindow ∧
    p.lawDone.gov.power = p.updated.heldPower + ((p.updated.fit (List.range p.cells)).1.map p.updated.switchPower).foldl (· + ·) 0 := by
  rw [Block.lawDone, Block.tickLaw_eq]
  simp only [Block.withGov_gov, Block.withFree_gov, Block.withGov_dict, Block.withFree_dict, and_self]

theorem Block.ticked {p b : Block} (few : p.cells ≤ 32) (after : p.lawDone.Spares b) : p.Ticked b := by
  have turned : p.updated.Turned (p.updated.switched (List.range p.cells)) := Block.switched_turned few
  obtain ⟨ch, dict, window, power⟩ := p.lawDone_spec
  obtain ⟨theta, -, -, capture⟩ := p.lawDone_gov
  obtain ⟨theta', -, -, power', capture'⟩ := after.gov_fields
  obtain ⟨-, ch', window', -⟩ := p.slewTheta_frame
  have chan : ∀ i, p.lawDone.chan i = (p.updated.switched (List.range p.cells)).chan i := fun i => by rw [Block.chan, ch, Block.chan]
  have object : ∀ k, 0x300000 ≤ k → k < 0x310000 → b.get k = (p.updated.switched (List.range p.cells)).get k := fun k lo hi =>
    (after.objects k lo hi).trans (Block.get_of_dict dict k)
  have mark : ∀ i < 32, ∀ n, b.bit (chKey Ob.channelState i) n = (p.updated.switched (List.range p.cells)).bit (chKey Ob.channelState i) n :=
    fun i cell n => by
      rw [Block.bit, Block.nat_of_get (object _ (by show 0x300000 ≤ 0x300E00 + i + 1; omega) (by show 0x300E00 + i + 1 < 0x310000; omega)),
        ← Block.bit]
  refine ⟨theta'.trans theta, ?_, capture'.trans capture, power'.trans power, ?_, fun i => ?_, fun i => ?_, fun i cell => ?_, fun i cell => ?_,
    fun i cell => mark i cell 10⟩
  · rw [after.quietWindow, window, turned.quietWindow, p.updated_worked.quietWindow, window']
  · rw [after.length, ch, turned.length, p.updated_worked.length, ch']
  · have seen := congrArg GovCh.session ((after.chans i).trans (congrArg GovCh.unseen (chan i)))
    exact seen.trans (congrArg GovCh.unseen (turned.sessions i))
  · exact (congrArg GovCh.on ((after.chans i).trans (congrArg GovCh.unseen (chan i))) :)
  · rw [object _ (by show 0x300000 ≤ 0x300300 + i + 1; omega) (by show 0x300300 + i + 1 < 0x310000; omega)]
    exact turned.objects _ (by show 0x300300 + i + 1 ≠ 0x300B00; omega) fun j _ => by show 0x300300 + i + 1 ≠ 0x300E00 + j + 1; omega
  · exact (mark i cell 9).trans (turned.limits i)

end Sys2Proof.Machine

end

section
/-! ### The charge law of a timely tick (R206, R213–R215, R218, R223) -/

namespace Sys2Proof.Machine

/-- Channels with the same sums differ in their switches only. -/
theorem GovCh.fields_of_sums {c d : GovCh} (same : c.sums = d.sums) : c.acc = d.acc ∧ c.qmeas = d.qmeas ∧ c.removed = d.removed ∧
    c.qref = d.qref ∧ c.state = d.state ∧ c.error = d.error ∧ c.error32 = d.error32 ∧ c.openSession = d.openSession ∧ c.owner = d.owner :=
  ⟨(congrArg GovCh.acc same :), (congrArg GovCh.qmeas same :), (congrArg GovCh.removed same :), (congrArg GovCh.qref same :),
    (congrArg GovCh.state same :), (congrArg GovCh.error same :), (congrArg GovCh.error32 same :), (congrArg GovCh.openSession same :),
    (congrArg GovCh.owner same :)⟩

/-! #### From the state to the law -/

section
variable {b : Block} {t i : Nat} {meter : List Nat}

/-- What the law reads of an entry that neither the meters nor the throttle write is the state's. -/
theorem Block.slewed_get (b : Block) (t : Nat) (meter : List Nat) {k : Nat} (input : k ≠ Ob.throttleValueInput)
    (applied : k ≠ Ob.throttleValueApplied) : (b.prepared t meter).slewTheta.get k = b.get k := by
  obtain ⟨-, -, -, -, -, -, objects⟩ := (b.prepared t meter).slewTheta_frame
  exact (objects k input applied).trans (Block.get_of_dict (b.prepared_prepared t meter).dict k)

theorem Block.prepared_cells (b : Block) (t : Nat) (meter : List Nat) : (b.prepared t meter).cells = b.cells := by
  rw [Block.cells, Block.nat_of_get (Block.get_of_dict (b.prepared_prepared t meter).dict _), Block.at_nat, ← Block.cells]

theorem Block.slewed_chan (b : Block) (t : Nat) (meter : List Nat) (i : Nat) :
    (b.prepared t meter).slewTheta.chan i = (b.prepared t meter).chan i := by
  rw [Block.chan, (b.prepared t meter).slewTheta_frame.2.1, Block.chan]

theorem Block.slewed_frozen (b : Block) (t : Nat) (meter : List Nat) (i : Nat) : (b.prepared t meter).slewTheta.frozen i = b.frozen i :=
  Block.frozen_congr ((b.prepared t meter).slewTheta_frame.1.trans (b.prepared_prepared t meter).power) (b.slewed_get t meter (by decide) (by decide))
    (b.slewed_get t meter (by decide) (by decide)) (b.slewed_get t meter (by decide) (by decide))
    (b.slewed_get t meter (by decide) (by decide)) i

/-- An entry that no channel's law writes either is the state's after the update passes. -/
theorem Block.updated_get (few : b.cells ≤ 32) {k : Nat}
    (low : k < 0x300000 ∨ 0x300400 ≤ k ∧ k < 0x300500 ∨ 0x300D00 ≤ k ∧ k < 0x300E00 ∨ 0x500000 ≤ k ∧ k < 0x600000) :
    (b.prepared t meter).updated.get k = b.get k := by
  have cells : ∀ i ∈ List.range (b.prepared t meter).cells, i < 32 := fun i mem =>
    Nat.lt_of_lt_of_le (List.mem_range.1 mem) (b.prepared_cells t meter ▸ few)
  rw [(b.prepared t meter).updated_worked.objects k (.inl (by omega)) (not_lawWrites cells (by omega)),
    b.slewed_get t meter (by show k ≠ 0x300702; omega) (by show k ≠ 0x300703; omega)]

theorem Block.updated_frozen (few : b.cells ≤ 32) (i : Nat) : (b.prepared t meter).updated.frozen i = b.frozen i := by
  have cells : ∀ i ∈ List.range (b.prepared t meter).cells, i < 32 := fun i mem =>
    Nat.lt_of_lt_of_le (List.mem_range.1 mem) (b.prepared_cells t meter ▸ few)
  rw [(b.prepared t meter).updated_worked.frozen cells, Block.slewed_frozen]

/-- The law of a cell's channel, from the channel as the meters have left it. -/
theorem Block.updated_law (few : b.cells ≤ 32) (cell : i < b.cells) (present : i < b.gov.ch.length) :
    ((b.prepared t meter).chan i).WorkedFrom (b.targetUc i * 65536) ((b.prepared t meter).slewTheta.rampTo i) (b.frozen i)
      ((b.prepared t meter).updated.chan i) ∧
    (((b.prepared t meter).updated.chan i).on = true → ((b.prepared t meter).updated.chan i).owner = .balancing →
      (b.prepared t meter).updated.wants i = true) ∧
    (((b.prepared t meter).chan i).acc ≠ 0 → (b.prepared t meter).updated.get (chKey Ob.balanceRemoved i) =
      ((b.prepared t meter).updated.chan i).removed / 100) := by
  have cells := b.prepared_cells t meter
  have length : (b.prepared t meter).slewTheta.gov.ch.length = b.gov.ch.length := by
    rw [(b.prepared t meter).slewTheta_frame.2.1]
    exact (b.prepared_prepared t meter).length
  have law := Block.updatePasses_spec (b := (b.prepared t meter).slewTheta) (l := List.range (b.prepared t meter).cells) (i := i)
    (List.mem_range.2 (cells.symm ▸ cell)) List.nodup_range (fun j mem => Nat.lt_of_lt_of_le (List.mem_range.1 mem) (cells.symm ▸ few))
    (length.symm ▸ present)
  have target : (b.prepared t meter).slewTheta.targetUc i = b.targetUc i := by
    rw [Block.targetUc, b.slewed_get t meter (by show 0x300100 + i + 1 ≠ 0x300702; omega) (by show 0x300100 + i + 1 ≠ 0x300703; omega),
      ← Block.targetUc]
  rw [target, Block.slewed_frozen, Block.slewed_chan] at law
  exact law

end

section
variable {b c : Block} {t i : Nat} {meter : List Nat} {q : Int}

/-- The charge law of a cell's channel on a timely tick (R213). -/
theorem Block.Ticked.charge (ticked : (b.prepared t meter).Ticked c) (few : b.cells ≤ 32) (cell : i < b.cells)
    (present : i < b.gov.ch.length) (charge : q = (b.chan i).acc + ((meter[i]?).getD 0 : Nat)) :
      (c.chan i).acc = 0 ∧
      (c.chan i).qmeas = (if q = 0 then (b.chan i).qmeas else clampInt (-sat48) (sat48 - 100) ((b.chan i).qmeas + q)) ∧
      (c.chan i).removed = (if q = 0 then (b.chan i).removed else clampInt (-sat48) (sat48 - 100) ((b.chan i).removed + q)) ∧
      (q ≠ 0 → c.get (chKey Ob.balanceRemoved i) = (c.chan i).removed / 100) ∧
      (c.chan i).qref = (if (b.chan i).openSession = true ∧ b.frozen i = false
        then min (b.targetUc i * 65536) (clampInt (-(2 ^ 47) * 65536) ((2 ^ 47 - 1) * 65536)
          ((b.chan i).qref + rampStep (b.nat (chKey Ob.balanceRate i)) c.gov.theta))
        else (b.chan i).qref) ∧
      (c.chan i).state = (if (b.chan i).openSession = false then (b.chan i).state
        else if b.frozen i = false ∧ (c.chan i).qref = b.targetUc i * 65536 ∨ (b.chan i).state = 2
          then (if (c.chan i).error ≤ 0 then 3 else 2) else 1) := by
  obtain ⟨law, -, shown⟩ := Block.updated_law (t := t) (meter := meter) few cell present
  have handed := (b.prepared_prepared t meter).chans i
  rw [metered_of_cell (List.mem_range.2 cell) present, Block.at_chan] at handed
  have acc := handed.acc.trans charge.symm
  have opened : ((b.prepared t meter).chan i).openSession = (b.chan i).openSession := by
    rw [GovCh.openSession, handed.state, handed.disabled, GovCh.openSession]
  have next : (b.prepared t meter).slewTheta.rampTo i = min (b.targetUc i * 65536) (clampInt (-(2 ^ 47) * 65536) ((2 ^ 47 - 1) * 65536)
      ((b.chan i).qref + rampStep (b.nat (chKey Ob.balanceRate i)) c.gov.theta)) := by
    rw [Block.rampTo, Block.targetUc, b.slewed_get t meter (by show 0x300100 + i + 1 ≠ 0x300702; omega)
      (by show 0x300100 + i + 1 ≠ 0x300703; omega), Block.slewed_chan, handed.qref,
      Block.nat_of_get (b.slewed_get t meter (k := chKey Ob.balanceRate i) (by show 0x300200 + i + 1 ≠ 0x300702; omega)
      (by show 0x300200 + i + 1 ≠ 0x300703; omega)), ticked.theta, Block.targetUc]
  obtain ⟨acc', qmeas, removed, qref, state, error, -⟩ := GovCh.fields_of_sums (ticked.sums i)
  refine ⟨acc'.trans law.acc, qmeas.trans (law.qmeas.trans ?_), removed.trans (law.removed.trans ?_),
    fun some => ?_, qref.trans (law.qref.trans ?_), state.trans (law.state.trans ?_)⟩
  · unfold GovCh.joined
    dsimp only
    rw [acc, handed.qmeas]
  · unfold GovCh.joined
    dsimp only
    rw [acc, handed.removed]
  · rw [ticked.removed i (by omega), removed]
    exact shown (acc.symm ▸ some)
  · rw [opened, next, handed.qref]
  · rw [opened, qref, error, handed.state]

end

end Sys2Proof.Machine

end

section
/-! ### Who conducts after a timely tick (R206, R214, R215, R223) -/

namespace Sys2Proof.Machine

section
variable {b c : Block} {t i : Nat} {meter : List Nat}

/-- What the update passes leave conducting for balancing conducted for it before the tick. -/
theorem Block.updated_conducts (few : b.cells ≤ 32) (full : b.gov.ch.length = 32) (i : Nat)
    (on : ((b.prepared t meter).updated.chan i).on = true) (owner : ((b.prepared t meter).updated.chan i).owner = .balancing) :
    (b.chan i).on = true := by
  have worked := (b.prepared t meter).updated_worked
  have handed := (b.prepared_prepared t meter).chans i
  rw [worked.owners, Block.slewed_chan] at owner
  by_cases cell : i < b.cells
  · obtain ⟨law, -⟩ := Block.updated_law (t := t) (meter := meter) few cell (full ▸ Nat.lt_of_lt_of_le cell few)
    exact (handed.conducts (law.conducts on) owner).1
  · have out : i ∉ List.range (b.prepared t meter).cells := by
      rw [b.prepared_cells t meter, List.mem_range]
      exact cell
    rw [worked.others i out, Block.slewed_chan] at on
    exact (handed.conducts on owner).1

/-- What conducts for balancing when switches are granted is a cell's, and wanted. -/
theorem Block.updated_wanted (few : b.cells ≤ 32) (full : b.gov.ch.length = 32) (edge : (b.chan b.cells).on = false) (j : Nat)
    (cell : j ≤ (b.prepared t meter).cells) (on : ((b.prepared t meter).updated.chan j).on = true)
    (owner : ((b.prepared t meter).updated.chan j).owner = .balancing) :
    j < (b.prepared t meter).cells ∧ (b.prepared t meter).updated.wants j = true := by
  rw [b.prepared_cells t meter] at cell ⊢
  have before := Block.updated_conducts few full j on owner
  have inside : j < b.cells := by
    refine Nat.lt_of_le_of_ne cell fun last => ?_
    rw [last, edge] at before
    cases before
  obtain ⟨-, wanted, -⟩ := Block.updated_law (t := t) (meter := meter) few inside (full ▸ Nat.lt_of_lt_of_le inside few)
  exact ⟨inside, wanted on owner⟩

/-- A channel that wanted to conduct when switches were granted, as the block after the tick shows it. -/
theorem Block.Ticked.wants_iff (ticked : (b.prepared t meter).Ticked c) (few : b.cells ≤ 32) (cell : i < b.cells) :
    (b.prepared t meter).updated.wants i = true ↔ (c.chan i).openSession = true ∧ b.frozen i = false ∧
      c.bit (chKey Ob.channelState i) 9 = false ∧ c.heldNear i = false ∧ c.gov.quietWindow = false ∧ c.gov.quietCapture = false ∧
      (((c.chan i).state = 2 ∧ 0 < (c.chan i).error32) ∨ ((c.chan i).state ≠ 2 ∧
        ((((b.prepared t meter).updated.chan i).on = true ∧ -(b.get Ob.band * errorUc) < (c.chan i).error32) ∨
          (((b.prepared t meter).updated.chan i).on = false ∧ b.get Ob.band * errorUc ≤ (c.chan i).error32)))) := by
  have worked := (b.prepared t meter).updated_worked
  obtain ⟨-, -, -, -, state, -, error, opened, -⟩ := GovCh.fields_of_sums (ticked.sums i)
  have owners : ∀ j, (c.chan j).owner = ((b.prepared t meter).updated.chan j).owner := fun j => by
    obtain ⟨-, -, -, -, -, -, -, -, owner⟩ := GovCh.fields_of_sums (ticked.sums j)
    exact owner
  have held : c.heldNear i = (b.prepared t meter).updated.heldNear i := by simp only [Block.heldNear, Block.held, owners]
  have window : (b.prepared t meter).updated.gov.quietWindow = c.gov.quietWindow := by
    rw [worked.quietWindow, (b.prepared t meter).slewTheta_frame.2.2.1, ticked.quietWindow]
  have capture : (b.prepared t meter).updated.gov.quietCapture = c.gov.quietCapture := by
    rw [ticked.quietCapture, ← (b.prepared t meter).slewTheta_frame.2.2.2.1]
    exact Gov.quietCapture_of_rest worked.rest
  have band : (b.prepared t meter).updated.get Ob.band = b.get Ob.band := Block.updated_get few (by decide)
  rw [Block.wants_iff, Block.updated_frozen few, ticked.limit i (Nat.lt_of_lt_of_le cell few), held, window, capture, band, state, error, opened]

/-- What conducts for balancing after a timely tick is wanted (R214, R218). -/
theorem Block.Ticked.wanted (ticked : (b.prepared t meter).Ticked c) (few : b.cells ≤ 32) (full : b.gov.ch.length = 32)
    (edge : (b.chan b.cells).on = false) (cell : i < b.cells) (band : 0 < b.get Ob.band) (on : (c.chan i).on = true)
    (owner : (c.chan i).owner = .balancing) :
    (c.chan i).openSession = true ∧ b.frozen i = false ∧ c.bit (chKey Ob.channelState i) 9 = false ∧ c.heldNear i = false ∧
      c.gov.quietWindow = false ∧ c.gov.quietCapture = false ∧ ((c.chan i).state = 2 → 0 < (c.chan i).error32) ∧
      ((c.chan i).state = 1 → -(b.get Ob.band * errorUc) < (c.chan i).error32 ∧
        ((b.chan i).on = false → b.get Ob.band * errorUc ≤ (c.chan i).error32)) := by
  have cells := b.prepared_cells t meter
  obtain ⟨-, -, -, -, -, -, -, -, owner'⟩ := GovCh.fields_of_sums (ticked.sums i)
  rw [owner'] at owner
  rw [ticked.on] at on
  have kept := Block.kept_of_switched (Block.updated_wanted (t := t) (meter := meter) few full edge) (cells.symm ▸ cell) on owner
  obtain ⟨opened, thawed, limit, held, window, capture, errors⟩ :=
    (ticked.wants_iff few cell).1 (Block.granted_wants (((b.prepared t meter).updated.mem_fit _).1 (.inl kept))).2
  have positive : 0 < b.get Ob.band * errorUc := Int.mul_pos band (by decide)
  refine ⟨opened, thawed, limit, held, window, capture, fun two => ?_, fun one => ?_⟩
  · obtain ⟨-, error⟩ | ⟨other, -⟩ := errors
    · exact error
    · exact absurd two other
  · obtain ⟨two, -⟩ | ⟨-, ⟨running, error⟩ | ⟨-, error⟩⟩ := errors
    · exact absurd (one.symm.trans two) (by decide)
    · refine ⟨error, fun off => ?_⟩
      rw [Block.updated_conducts few full i running owner] at off
      cases off
    · exact ⟨by omega, fun _ => error⟩

/-- A grant conducts after the tick, or is marked as dropped for the budget (R223). -/
theorem Block.Ticked.granted (ticked : (b.prepared t meter).Ticked c) (few : b.cells ≤ 32) (full : b.gov.ch.length = 32)
    (edge : (b.chan b.cells).on = false)
    (mem : i ∈ (b.prepared t meter).updated.granted (List.range (b.prepared t meter).cells)) :
    (c.chan i).on = true ∨ c.bit (chKey Ob.channelState i) 10 = true := by
  have cells := b.prepared_cells t meter
  have cell : i < b.cells := cells ▸ List.mem_range.1 (Block.granted_wants mem).1
  have length : (b.prepared t meter).updated.gov.ch.length = 32 := by
    rw [(b.prepared t meter).updated_worked.length, (b.prepared t meter).slewTheta_frame.2.1, (b.prepared_prepared t meter).length]
    exact full
  obtain kept | dropped := ((b.prepared t meter).updated.mem_fit _).2 mem
  · refine .inl ((ticked.on i).trans ?_)
    exact Block.switched_on (cells.symm ▸ few) (by rw [cells, length]; exact few) (Block.updated_wanted few full edge) kept
  · exact .inr ((ticked.dropped i (Nat.lt_of_lt_of_le cell few)).trans (Block.switched_dropped dropped))

/-- What is wanted and does not conduct after a timely tick has lost to a neighbour or to the budget (R215, R223). -/
theorem Block.Ticked.lost (ticked : (b.prepared t meter).Ticked c) (few : b.cells ≤ 32) (full : b.gov.ch.length = 32)
    (edge : (b.chan b.cells).on = false) (cell : i < b.cells) (band : 0 < b.get Ob.band) (off : (c.chan i).on = false)
    (opened : (c.chan i).openSession = true) (thawed : b.frozen i = false) (limit : c.bit (chKey Ob.channelState i) 9 = false)
    (held : c.heldNear i = false) (window : c.gov.quietWindow = false) (capture : c.gov.quietCapture = false)
    (error : if (c.chan i).state = 2 then 0 < (c.chan i).error32 else b.get Ob.band * errorUc ≤ (c.chan i).error32) :
    c.bit (chKey Ob.channelState i) 10 = true ∨
      ((c.chan (i + 1)).on = true ∨ c.bit (chKey Ob.channelState (i + 1)) 10 = true) ∧ (c.chan i).error32 < (c.chan (i + 1)).error32 ∨
      1 ≤ i ∧ ((c.chan (i - 1)).on = true ∨ c.bit (chKey Ob.channelState (i - 1)) 10 = true) ∧
        (c.chan i).error32 ≤ (c.chan (i - 1)).error32 := by
  have positive : 0 < b.get Ob.band * errorUc := Int.mul_pos band (by decide)
  have errors : ∀ j, (c.chan j).error32 = ((b.prepared t meter).updated.chan j).error32 := fun j => by
    obtain ⟨-, -, -, -, -, -, same, -⟩ := GovCh.fields_of_sums (ticked.sums j)
    exact same
  have wants : (b.prepared t meter).updated.wants i = true := by
    refine (ticked.wants_iff few cell).2 ⟨opened, thawed, limit, held, window, capture, ?_⟩
    split_ifs at error with two
    · exact .inl ⟨two, error⟩
    · refine .inr ⟨two, ?_⟩
      cases ((b.prepared t meter).updated.chan i).on with
      | true => exact .inl ⟨rfl, by omega⟩
      | false => exact .inr ⟨rfl, error⟩
  have member : i ∈ List.range (b.prepared t meter).cells := List.mem_range.2 ((b.prepared_cells t meter).symm ▸ cell)
  obtain own | ⟨j, granted, near, precedes⟩ := Block.granted_serves member wants
  · exact .inl ((ticked.granted few full edge own).resolve_left (by simp [off]))
  · have served := ticked.granted few full edge granted
    unfold Precedes at precedes
    simp only [← errors] at precedes
    obtain rfl | ⟨pos, rfl⟩ := near
    · exact .inr (.inl ⟨served, by omega⟩)
    · exact .inr (.inr ⟨pos, served, by omega⟩)

/-- With no switch held by others the power of a timely tick fits the budget (R223). -/
theorem Block.Ticked.fits (ticked : (b.prepared t meter).Ticked c) (few : b.cells ≤ 32) (free : ∀ d ∈ c.gov.ch, d.owner = .balancing) :
    c.gov.power ≤ b.effectiveBudget := by
  have owners : ∀ j, (c.chan j).owner = .balancing := fun j => by
    rw [Block.chan]
    cases here : c.gov.ch[j]? with
    | none => rfl
    | some d => exact free d (List.mem_of_getElem? here)
  have none : (b.prepared t meter).updated.heldPower = 0 := by
    have unheld : ∀ j, (b.prepared t meter).updated.held j = false := fun j => by
      obtain ⟨-, -, -, -, -, -, -, -, owner⟩ := GovCh.fields_of_sums (ticked.sums j)
      simp [Block.held, ← owner, owners j]
    simp [Block.heldPower, unheld]
  have budget : (b.prepared t meter).updated.effectiveBudget = b.effectiveBudget := by
    simp only [Block.effectiveBudget, Block.nat_of_get (Block.updated_get (t := t) (meter := meter) (k := Ob.powerBudget) few (by decide)),
      Block.updated_get (t := t) (meter := meter) (k := Ob.throttleLevelLevel) few (by decide)]
  rw [ticked.power, none, Nat.zero_add, ← budget, Block.fit, none]
  exact Block.fitBudget_fits _ _ _ rfl

end

/-! ### The governor's tick and what runs beside it -/

/-- Settles O20: the law of a timely tick is the update pass of each channel, then arbitration among those that want to conduct, and the budget; a
tick that does not run it leaves the charge to the accumulators; what runs beside it is said of each command. -/
theorem governorLaw : Obligations.GovernorLaw := by
  refine ⟨⟨fun _ _ _ _ _ => governorTick_skipped_gives, fun _ _ _ _ _ _ => governorTick_stopped_gives,
    fun _ _ _ _ _ _ => governorTick_standby_gives, fun _ _ _ _ => governorTick_theta_gives, ?_, ?_⟩,
    fun _ _ => pathLearn_gives, fun _ _ _ _ _ _ => bleedConfirmation_clear_gives, fun _ _ _ _ _ _ => bleedConfirmation_open_gives,
    fun _ _ => freshnessTimeout_gives, fun _ _ => interlockRefusal_gives, fun _ _ => sessionTimerSecond_runs_gives,
    fun _ _ => sessionTimerSecond_ends_gives, fun _ _ _ _ => thrPulseEdge_valid_gives, fun _ _ _ _ => thrPulseEdge_invalid_gives,
    fun _ => throttleInputLost_gives⟩
  · intro s t meter delays i q measuring noCells runs few cell present charge
    have ticked := Block.ticked ((s.blk.prepared_cells t meter).symm ▸ few)
      (governorTick_timely_spares (t := t) (meter := meter) (delays := delays) measuring noCells runs)
    exact ⟨_, rfl, ticked.charge few cell present charge⟩
  · intro s t meter delays i measuring noCells runs few cell full edge band
    have ticked := Block.ticked ((s.blk.prepared_cells t meter).symm ▸ few)
      (governorTick_timely_spares (t := t) (meter := meter) (delays := delays) measuring noCells runs)
    exact ⟨_, rfl, ticked.wanted few full edge cell band, ticked.lost few full edge cell band, ticked.fits few⟩

end Sys2Proof.Machine

end
